-- ==== Sys2Proof/Word.lean ====
section
/-! DEFINITION. The word types of the block: a byte, a 32-bit register word (00 R4), a 64-bit Lens or plate word,
a 96-bit cluster time (02 R45), a 128-bit capability (09 R439), a 160-bit stored microword (04 R225). -/

namespace Sys2Proof

/-- One byte of the plate store. -/
abbrev Byte := BitVec 8

/-- A register word (00 R4: every register is 32 bits wide). -/
abbrev Word := BitVec 32

/-- A 64-bit word: a Lens register or an ECC-protected plate word. -/
abbrev DWord := BitVec 64

/-- A cluster time as registers present it (02 R45): SEC 48 bits, NS 32 bits, FRAC 16 bits. -/
abbrev Time96 := BitVec 96

/-- A capability register (09 R439). -/
abbrev CapWord := BitVec 128

/-- A word of an engine's control store with its parity bits (04 R225). -/
abbrev StoreWord := BitVec 160

end Sys2Proof
end

