-- ==== Sys2Proof/Syntax.lean ====
section
/-! DEFINITION. The commands the block takes (spec/opcode_table.json), and the types of their operands. -/

namespace Sys2Proof

/-- A master or unit that makes a change, with the origin codes of 18 R881. -/
inductive Origin where
  | host
  | eyepiece
  | engine (e : Fin 12)
  | assistant
  | shutter
  | loader
  | peer (k : Fin 7)
  | tamper
  | clock
  | lifeCycle
  | cstLink
  deriving DecidableEq, Repr

/-- How an access to a plate in fused mode meets one of the plate's other port to the same word in its tick, of which one is a write
(10 R499, R500): there is none, this request was registered earlier, or later (and receives PLATE_BUSY). -/
inductive Meeting where
  | alone
  | earlier
  | later
  deriving DecidableEq, Repr

/-- The commands: one constructor for each row of spec/opcode_table.json. The operands are the model's: the table gives none.
A pair gives, beside what the command acts on, what coincides with it in its tick.
Rows without operands stand last, microword rows before them: Lean's compiler allows operands only in the first 245 constructors. -/
inductive Instr where
  /-- R41: A write of 1 to CLU_CTL.CLURST starts a cluster reset after its Logbook record is written. -/
  | clurst (o : Origin) (v : Word)
  /-- R846: Release of an IFC domain reset runs stability check, PLL lock, plate zeroing, fuse load, retention restore and restart load. -/
  | resetReleaseSequence (fuses : List (BitVec 21)) (limits : List (BitVec 20)) (aon : Nat)
  /-- R839: A check of XREF_CLK against HOST_CLK over 4096 periods passes for one candidate and starts the PLLs, or fails and restarts. -/
  | stabilityCheckComplete (n : Nat) (lo : Nat) (hi : Nat)
  /-- R842: A detected XREF or PLL loss enters waiting for clock, forces safe states and bypass, and stops the PLLs. -/
  | clockLoss (cause : Fin 3) (aon : Nat)
  /-- R850: ATTACH_REQ rising in Detached, or a wake in Dormant, powers up and releases the IFC domain. -/
  | attachSequence (ack : Bool)
  /-- R828: A write of 1 to CLK_PWRCTL.NAP is refused or accepted for Nap entry. -/
  | napRequest (o : Origin) (v : Word)
  /-- R829: A write of 0 to NAP, or a pending engine event with NAPEV, restores CCLK to the engines. -/
  | napExit (w : Option (Origin × Word))
  /-- R831: A write of 1 to CLK_PWRCTL.DORMANT starts the Dormant entry sequence. -/
  | dormant (o : Origin) (v : Word)
  /-- R832: A pin, MAC_WAKE, AON alarm, tamper or host wake source starts the attach sequence. -/
  | dormantWake (source : Fin 4) (aon : Nat)
  /-- R832: A write of 1 to CLU_ATTACH.WAKE in Dormant wakes the cluster. -/
  | wake (o : Origin) (v : Word)
  /-- R837: A write to CLK_SSC is checked against SPREAD and takes effect at the next CCLK frequency maximum. -/
  | clkSscWrite (o : Origin) (v : Word)
  /-- R55: An edge at a stamp point receives a raw TDC stamp corrected to the ball. -/
  | stampPointEdge (i : Fin 119) (rising : Bool) (b : Fin 32)
  /-- R62: The die temperature sensor updates RGL_TEMP every 1 ms, changing D or setting TEMPERR. -/
  | tempReading (valid : Bool) (degc : BitVec 9)
  /-- R69: A write of 1 to RGL_SNAP_CMD.GO latches cluster time, remaining offset and status at one TCLK edge. -/
  | snapshot (o : Origin) (v : Word)
  /-- R79: A write to RGL_RATE sets the rate correction, clamped to 1000 ppm, from the next edge. -/
  | rateWrite (o : Origin) (v : Word)
  /-- R81: A write to RGL_STEP adds the step offset to Q, stepping or slewing under the mode. -/
  | stepCommit (o : Origin) (v : Word)
  /-- R957: An accepted write to RGL_QUAL takes ACC and makes a permitted STATE transition. -/
  | qualWrite (o : Origin) (v : Word)
  /-- R90: An accepted write changing RGL_SRV_OWN.OWNER moves LOCKED to HOLDOVER. -/
  | srvOwnWrite (o : Origin) (v : Word)
  /-- R116: A write to RGL_PINCAL changes DLY and TC only in DEVELOP. -/
  | pincalWrite (o : Origin) (v : Word)
  /-- R100: A write of ARM = 1 to RGL_ALM_CTLn arms the alarm with the compare value then held. -/
  | alarmArm (n : Fin 32) (o : Origin) (v : Word)
  /-- R959: A write of ARM = 0 disarms the alarm at the next TCLK edge. -/
  | alarmDisarm (n : Fin 32) (o : Origin) (v : Word)
  /-- R101: A one-shot alarm fires when cluster time reaches its compare, registering EV(112 + n). -/
  | alarmFire (n : Fin 32)
  /-- R106: A periodic alarm fires and advances its compare by the period. -/
  | alarmPeriodicFire (n : Fin 32)
  /-- R107: A range alarm registers its open event and sets OUT. -/
  | alarmRangeOpen (n : Fin 32)
  /-- R107: A range alarm registers its close event, clears OUT and disarms. -/
  | alarmRangeClose (n : Fin 32)
  /-- R167: A read of CDR_PCAP_CYCn returns the capture and clears CAPTURED unless a capture coincides. -/
  | pcapCycRead (n : Fin 4) (captureInTick : Bool)
  /-- R168: A write of 1 to CDR_SNAP_CMD.GO latches cluster time and all four tracker phases. -/
  | cdrSnapshot (o : Origin) (v : Word)
  /-- R129: An accepted comparator crossing supplies a source instant to its tracker. -/
  | zeroCrossing (n : Fin 4) (rising : Bool)
  /-- R132: Every 250 µs a tracker estimate is applied at au and all compares are re-predicted. -/
  | estimateApplication (n : Fin 4)
  /-- R135: Catch-up at half rate ends when the gap falls to JUMPLIM. -/
  | catchupEnd (n : Fin 4)
  /-- R124: No valid source instant for the source's timeout moves the tracker to HOLDOVER. -/
  | trackerSourceLoss (n : Fin 4)
  /-- R138: HOLDLIM × 10 ms of tracker holdover moves it to LOST. -/
  | holdoverLimit (n : Fin 4)
  /-- R138: A write of EN = 1 to CDR_PTn_CTL moves the tracker from OFF to ACQUIRE. -/
  | trackerEnable (n : Fin 4) (o : Origin) (v : Word)
  /-- R142: A write of EN = 0 moves the tracker to OFF and aborts its armed targets. -/
  | trackerDisable (n : Fin 4) (o : Origin) (v : Word)
  /-- R123: A write of CYCLOAD in OFF loads CYC from CDR_PTn_CYCINIT. -/
  | cycload (n : Fin 4) (o : Origin) (v : Word)
  /-- R146: Arming a phase alarm converts its target to a cluster-time compare. -/
  | phaseAlarmArm (m : Fin 16) (o : Origin) (v : Word)
  /-- R157: A write of ARM = 0 disarms a phase alarm. -/
  | phaseAlarmDisarm (m : Fin 16) (o : Origin) (v : Word)
  /-- R154: A phase alarm fires at its target, registering its line and PALM bit. -/
  | phaseAlarmFire (m : Fin 16)
  /-- R155: A periodic phase alarm fires and advances its target by the period. -/
  | phaseAlarmPeriodicFire (m : Fin 16)
  /-- R160: A table-mode alarm fires an entry, performs its actions and loads the next entry. -/
  | ephemerisEntryFire (m : Fin 16)
  /-- R163: A write of CDR_EPH_HI stores a whole ephemeris entry unless its table is in use. -/
  | ephemerisEntryWrite (o : Origin) (v : Word)
  /-- R124: A write to CDR_PTn_SRC or CDR_PTn_CFG is refused unless the tracker is OFF. -/
  | trackerConfigWrite (n : Fin 4) (cfg : Bool) (o : Origin) (v : Word)
  /-- R296: An eligible pending vector line is dispatched through bank switch and vector fetch to its handler. -/
  | eventDispatch (e : Fin 12)
  /-- R310: A recognised cause enters PF, records ENG_FAULT and registers the fault event. -/
  | exceptionEntry (e : Fin 12)
  /-- R197: A Lens operation writes its destination its latency after issue. -/
  | lensComplete (e : Fin 12)
  /-- R214: A bulk port response completes a tag and clears TAGBUSY. -/
  | bulkComplete (tag : Fin 256) (error : Bool) (data : List Byte)
  /-- R264: A block, CORDIC or vector operation completes one element and updates ENG_PROG. -/
  | resumableElement (e : Fin 12)
  /-- R231: A write of 1 to ENG_CTL.RUN on a stopped engine resumes it at ENG_UPC. -/
  | engineRun (e : Fin 12) (o : Origin) (v : Word)
  /-- R223: A write of RUN = 0 stops the engine, deferred past an open locked sequence. -/
  | engineStop (e : Fin 12) (o : Origin) (v : Word)
  /-- R224: A write of RUN = 0 with FORCE stops the engine at the end of its microword, breaking any lock. -/
  | engineForceStop (e : Fin 12) (o : Origin) (v : Word)
  /-- R231: A write of ENG_CTL.FCLR clears ENG_FAULT and makes a frozen engine stopped. -/
  | fclr (e : Fin 12) (o : Origin) (v : Word)
  /-- R223: A halt or stop deferred by a locked sequence takes effect at its close or break. -/
  | deferredHalt (e : Fin 12)
  /-- R233: A write to ENG_UPC sets the resume address only while stopped. -/
  | engUpcWrite (e : Fin 12) (o : Origin) (v : Word)
  /-- R348: A write to ENG_PRI changes level, banks, mask or level enables. -/
  | engPriWrite (e : Fin 12) (o : Origin) (v : Word)
  /-- R349: A write to ENG_SALl sets a save-area link only while stopped. -/
  | engSalWrite (e : Fin 12) (l : Fin 5) (o : Origin) (v : Word)
  /-- R234: A write to WCS_D4 commits 160 bits to the control store after the parity check. -/
  | wcsCommit (e : Fin 12) (o : Origin) (v : Word)
  /-- R235: A read of WCS_D0 reads and holds the word at ADDR. -/
  | wcsRead (e : Fin 12) (i : Fin 5) (o : Origin)
  /-- R353: A timer starts at its start edge, loading count and compare. -/
  | timerStart (e : Fin 12) (n : Fin 4)
  /-- R355: At a count boundary with count 0 the timer reloads, applies WACT and may stop. -/
  | timerWrap (e : Fin 12) (n : Fin 4)
  /-- R356: A count equal to the active compare sets CMPF and applies OACT. -/
  | timerCompareMatch (e : Fin 12) (n : Fin 4)
  /-- R359: A write of EN = 0 stops the timer and latches its count. -/
  | timerStop (e : Fin 12) (n : Fin 4)
  /-- R367: A phase-mode compare fires, sets CMPF and applies OACT. -/
  | phaseModeCompareFire (e : Fin 12) (n : Fin 4)
  /-- R369: A write of TMR_CTLn.PDIS disarms the phase-mode compare. -/
  | pdis (e : Fin 12) (n : Fin 4) (o : Origin) (v : Word)
  /-- R379: A host write of TMR_CTLn.SCAP takes a software capture. -/
  | scap (e : Fin 12) (n : Fin 4) (o : Origin) (v : Word)
  /-- R382: A field pin edge is captured into TMR_CAPRn or TMR_CAPFn. -/
  | edgeCapture (e : Fin 12) (n : Fin 4) (rising : Bool) (reads : Bool × Bool)
  /-- R387: A read of a capture register clears CAPTURED unless a capture coincides. -/
  | captureRead (e : Fin 12) (n : Fin 4) (rising : Bool) (captureInTick : Bool)
  /-- R381: A write to TMR_CNTn sets the starting count only while stopped. -/
  | tmrCntWrite (e : Fin 12) (n : Fin 4) (o : Origin) (v : Word)
  /-- R403: A write to TMR_CTLn acts on fields by ring and running state. -/
  | tmrCtlWrite (e : Fin 12) (n : Fin 4) (o : Origin) (v : Word)
  /-- R395: A kick restarts the watchdog period; a wrong value causes expiry. -/
  | watchdogKick (e : Fin 12) (o : Origin) (v : Word)
  /-- R396: P − 200 ns without a kick sets EXP and raises fault 0x04. -/
  | watchdogExpiry (e : Fin 12)
  /-- R405: A source registers a cluster event line, which is routed and delivered to targets. -/
  | eventRegistration (n : Fin 256)
  /-- R406: A field pin or MAC_WAKE edge is caught by the AON latch and registered. -/
  | fieldPinEdge (k : Fin 48) (level : Bool)
  /-- R411: A taken line retires when claimed, entered by every target or cleared. -/
  | lineRetire (n : Fin 256)
  /-- R425: Held moderated deliveries are released by count, time or idle engine. -/
  | moderationRelease (e : Fin 12)
  /-- R404: A write to EVC_DOOR registers the selected doorbell lines. -/
  | evcDoor (o : Origin) (v : Word)
  /-- R409: A write to EVC_MASKn masks or unmasks lines. -/
  | evcMaskWrite (i : Fin 8) (o : Origin) (v : Word)
  /-- R431: A write to EVC_PENDn sets or clears pending bits of masked or unrouted lines. -/
  | evcPendWrite (i : Fin 8) (o : Origin) (v : Word)
  /-- R416: A write to EVC_ROUTEn changes a line's route unless it breaks R414 or R415. -/
  | evcRouteWrite (n : Fin 256) (o : Origin) (v : Word)
  /-- R491: A write to PLT_OWNk starts a plate handover. -/
  | pltOwnWrite (k : Fin 96) (o : Origin) (v : Word)
  /-- R494: Once transfers finish the new owner takes effect and the generation is bumped. -/
  | handoverTakesEffect (k : Fin 96 × Bool)
  /-- R489: A host slave port access to a plate is served, refused or answered PLATE_BUSY. -/
  | hostPlateAccess (off : BitVec 24) (write : Bool) (burst : Bool) (be : BitVec 8) (data : List DWord) (meet : Meeting)
  /-- R508: The scrubber reads a word and writes back a corrected one on idle ticks. -/
  | scrubberVisit (idle : Bool)
  /-- R521: A taken descriptor becomes visible in the ring after its four words are written. -/
  | descriptorVisible (q : Fin 1024)
  /-- R535: Spilled descriptors are read back into the plate ring when it has room. -/
  | spillReadback (q : Fin 1024)
  /-- R537: A ring 0 write of 1 to QM_QSTAT.STOP resumes a stopped queue. -/
  | queueResume (o : Origin) (v : Word)
  /-- R540: QM_QCMD ENQ enqueues the descriptor at QM_QARG. -/
  | qmEnq (o : Origin) (v : Word)
  /-- R538: QM_QCMD DEQ dequeues the head descriptor. -/
  | qmDeq (o : Origin) (v : Word)
  /-- R538: QM_QCMD PEEK reads the head descriptor address. -/
  | qmPeek (o : Origin) (v : Word)
  /-- R538: QM_QCMD LEN returns the queue's COUNT. -/
  | qmLen (o : Origin) (v : Word)
  /-- R547: A write to a queue's ring or spill configuration is accepted only while COUNT is 0. -/
  | queueConfigWrite (r : Fin 4) (o : Origin) (v : Word)
  /-- R548: A write to QM_PBASE or QM_PCFG is accepted only with the pool's buffers all free. -/
  | poolConfigWrite (cfg : Bool) (o : Origin) (v : Word)
  /-- R557: A frame from the MAC is stamped, classified, copied and passed in cut-through. -/
  | frameReceived (p : Fin 8) (b : Fin 32) (frame : List Byte) (runtf : Bool) (full : Bool) (late : Bool)
  /-- R574: A frame on SWI is decided, gated and sent toward the MAC. -/
  | frameFromSwitchCore (p : Fin 8) (c : Fin 8) (frame : List Byte) (full : Bool)
  /-- R600: The port starts the head frame of the highest class allowed by the gates. -/
  | frameEmission (p : Fin 8) (b : Fin 32) (lead : Fin 8) (ext : List Byte) (underrun : Bool)
  /-- R754: A committed frame that can no longer finish by its expiry is consumed as a breach. -/
  | expiryConversion (p : Fin 8) (c : Fin 8) (l : Fin 8)
  /-- R577: A frame from the injection queue is presented toward the switch core. -/
  | injectedFrame (p : Fin 8) (ext : List Byte)
  /-- R594: A write of FPT_GCTL.GO schedules the pending gate list at change time X. -/
  | go (p : Fin 8) (o : Origin) (v : Word)
  /-- R594: At X the pending gate list replaces the active list. -/
  | gateListChange (p : Fin 8)
  /-- R565: A write of FPT_FRW6 commits a Finder rule pending application. -/
  | finderRuleCommit (p : Fin 8) (o : Origin) (v : Word)
  /-- R565: The committed rule applies when no frame of its direction is being classified. -/
  | finderRuleApply (p : Fin 8)
  /-- R603: A write of FPT_FTW3 commits a flow table entry unless it duplicates a role. -/
  | flowTableCommit (p : Fin 8) (o : Origin) (v : Word)
  /-- R570: Every 1 ms each acceptance bucket gains RATE bytes up to BURST. -/
  | bucketRefill (p : Fin 8)
  /-- R554: A write to FPT_CTL.BYP takes effect at a frame boundary or after 2 µs. -/
  | bypassChange (p : Fin 8)
  /-- R617: A MAC strobe code increments a counter or changes link state. -/
  | macStatisticsCode (p : Fin 8) (code : Fin 16)
  /-- R618: An edge on MAC_WAKE sets the port's WAKE event bit. -/
  | macWakeEdge (p : Fin 8)
  /-- R613: The switch core's residue mask is ORed into FPT_MCRES. -/
  | residueIndication (p : Fin 8) (mask : BitVec 8)
  /-- R583: Every 1 ms the port copies the link delay from a plate word. -/
  | linkDelayCopy (p : Fin 8) (served : Bool)
  /-- R588: A duplicate table entry expires after FORGET ms. -/
  | duplicateEntryExpiry (g : Fin 4)
  /-- R588: A proxy entry with no frame for 60 s is removed. -/
  | proxyEntryExpiry (g : Fin 4)
  /-- R592: After RESET ms without acceptance a recovery stream takes the next number as new. -/
  | recoveryStreamReset (p : Fin 8) (i : Fin 32)
  /-- R14: A read of an RC field returns and clears it. -/
  | counterReadClear (off : BitVec 24)
  /-- R966: A write to FLD_CFGk changes a pin's function, owner and safe state from the next TCLK edge. -/
  | fldCfgWrite (k : Fin 48) (o : Origin) (v : Word)
  /-- R637: A ring 0 write of VRN_CTL.START starts or restarts a Vernier. -/
  | vrnCtlStart (v : Fin 24) (o : Origin) (w : Word)
  /-- R639: A ring 0 write of VRN_CTL.STOP stops a Vernier at its next edge. -/
  | vrnCtlStop (v : Fin 24) (o : Origin) (w : Word)
  /-- R640: A group start by alarm, ephemeris entry or VRN_GSTART restarts the group's joined Verniers. -/
  | groupStart (o : Origin) (w : Word)
  /-- R655: A write to VRN_IMEMv_i replaces an instruction word for later fetches. -/
  | vrnImemWrite (v : Fin 24) (i : Fin 32) (o : Origin) (w : Word)
  /-- R642: Vernier waits n + 1 steps or a tally plus 1. -/
  | idle (v : Fin 24)
  /-- R642: Vernier drives levels on masked slots. -/
  | setp (v : Fin 24)
  /-- R642: Vernier sets output enables on masked slots. -/
  | sete (v : Fin 24)
  /-- R643: Vernier shifts n bits of ESR out on a slot. -/
  | emit (v : Fin 24)
  /-- R643: Vernier samples n bits of a slot into GSR. -/
  | gather (v : Fin 24)
  /-- R642: Vernier moves TXH into ESR, waiting if blocking. -/
  | vernierLoad (v : Fin 24)
  /-- R642: Vernier moves GSR into RXH, waiting or overrunning if full. -/
  | post (v : Fin 24)
  /-- R642: Vernier loads or decrements a tally. -/
  | tally (v : Fin 24)
  /-- R645: Vernier conditional branch. -/
  | vernierBr (v : Fin 24)
  /-- R646: Vernier waits for a pin, flag, latch or restart. -/
  | vernierWait (v : Fin 24)
  /-- R648: Vernier writes the stamp of the latest edge on a slot to GSR. -/
  | stmp (v : Fin 24)
  /-- R642: Vernier sets or clears flags and may register its event. -/
  | flg (v : Fin 24)
  /-- R644: Vernier opens a repeat frame over a block. -/
  | rep (v : Fin 24)
  /-- R667: A write of OCC_CHCTLc.TRAIN puts the channel into TRAINING. -/
  | train (c : Fin 3) (o : Origin) (v : Word)
  /-- R667: 1024 training words move the channel to RUN. -/
  | trainingComplete (c : Fin 3)
  /-- R668: A missing or out-of-range frame clock moves the channel to LOST. -/
  | channelLost (c : Fin 3)
  /-- R672: A sample trigger evaluates a front's fit and accepts or rejects it. -/
  | frontTrigger (c : Fin 3) (n : Nat) (words : List (BitVec 16)) (lost : Bool)
  /-- R685: An accepted front's record is offered to its queue. -/
  | arrivalRecord (c : Fin 3) (snap : List (BitVec 16))
  /-- R679: A write of WARM = 1 arms the occultation window. -/
  | warm (c : Fin 3) (o : Origin) (v : Word)
  /-- R681: At CLOSE + 1 µs WARM clears and WEMPTY may be set. -/
  | windowClose (c : Fin 3)
  /-- R689: A write to OCC_CHCFGc is accepted only while the channel is OFF. -/
  | occChcfgWrite (c : Fin 3) (o : Origin) (v : Word)
  /-- R713: At release of cluster reset the loader checks and writes the chart or enters first light. -/
  | chartLoad (ext : List Byte) (srcError : Bool) (writeError : Bool)
  /-- R735: Mailbox CHECK verifies an image without applying it. -/
  | check (ext : List Byte) (error : Bool)
  /-- R719: When its last item is delivered or tombstoned a withdrawing flow becomes LATENT. -/
  | flowWithdrawn (f : Fin 4096)
  /-- R752: The queue manager visits a flow and tombstones a lost or late next item. -/
  | breachWatchVisit (f : Fin 4096)
  /-- R756: The Assistant pair reads ENG_FAULT on a fault event and fails the engine over by policy. -/
  | engineFaultResponse (e : Fin 12)
  /-- R760: A change of AST_ENGMAP moves pending lines and stops the old bulk unit. -/
  | engmapWrite (i : Fin 2) (o : Origin) (v : Word)
  /-- R779: A write of 1 to SHT_STAT.FAULT clears IFC_FAULT after restart. -/
  | shtStatFaultClear (o : Origin) (v : Word)
  /-- R795: A link frame is checked, consumed or forwarded and its marker measured. -/
  | linkFrameReceived (x : Fin 2) (b : Fin 32) (frame : List Byte)
  /-- R811: A QHEAD frame opens an inbound channel item. -/
  | qhead (x : Fin 2) (b : Fin 32) (frame : List Byte)
  /-- R811: A QDATA frame adds a chunk; LAST places the item. -/
  | qdata (x : Fin 2) (b : Fin 32) (frame : List Byte)
  /-- R816: A received EVENT frame registers mapped constellation lines. -/
  | eventFrame (x : Fin 2) (b : Fin 32) (frame : List Byte)
  /-- R796: A CONTROL frame gives neighbour identity, ASYM and LEAVE. -/
  | controlFrame (x : Fin 2) (b : Fin 32) (frame : List Byte)
  /-- R808: A received TRACK record feeds peer-sourced trackers. -/
  | track (x : Fin 2) (b : Fin 32) (frame : List Byte)
  /-- R796: No good frame for 1 µs takes the port DOWN. -/
  | linkFrameTimeout (x : Fin 2)
  /-- R800: At every 4096th good frame the port computes offset and round trip. -/
  | linkUpdate (x : Fin 2)
  /-- R817: A member's PRES bit clears after 1 ms without its frames. -/
  | presenceTimeout (m : Fin 8)
  /-- R819: A write of CST_LNKCTLx.LEAVE sends LEAVE and takes the port DOWN. -/
  | leave (x : Fin 2) (o : Origin) (v : Word)
  /-- R876: A tamper source is detected and its policy action taken. -/
  | tamperDetection (bits : BitVec 8)
  /-- R878: A write to SEC_TAMPER_POL is refused if it lowers an action outside BLANK and DEVELOP. -/
  | tamperPolWrite (o : Origin) (v : Word)
  /-- R870: A write to SEC_AUTHQn enables a binding after its queue and capability checks. -/
  | authBindingWrite (n : Fin 8) (o : Origin) (v : Word)
  /-- R871: The authentication unit takes a request and generates or verifies a tag. -/
  | authRequest (n : Fin 8)
  /-- R886: A Logbook record is written to the spill ring; OK advances LOG_TAIL. -/
  | logSpillWrite (error : Bool)
  /-- R887: A write to LOG_SPILLRD advances the host consumption point. -/
  | logSpillrdWrite (o : Origin) (v : Word)
  /-- R887: A ring 2 write to LOG_TAIL advances it while spill is off. -/
  | logTailWrite (o : Origin) (v : Word)
  /-- R890: An Update-DR starts an Eyepiece register or memory transaction. -/
  | eyeDrUpdate (pwr : Bool) (op : BitVec 2) (addr : BitVec 24) (data : Word × Bool)
  /-- R900: EYE_CTL.HALT requests halts of selected engines and Verniers. -/
  | halt (o : Origin) (v : Word)
  /-- R900: EYE_CTL.HALT_NOW forces halts, breaking locked sequences. -/
  | haltNow (o : Origin) (v : Word)
  /-- R903: EYE_CTL.RESUME restarts selected halted engines and Verniers. -/
  | resume (o : Origin) (v : Word)
  /-- R904: EYE_CTL.STEP executes one microword or Vernier step on selected units. -/
  | step (o : Origin) (v : Word)
  /-- R916: A write of EYE_CTL.LIVE makes the next Eyepiece read live. -/
  | live (o : Origin) (v : Word)
  /-- R916: The live read acts as a host read with side effects and clears LIVE. -/
  | liveRead (off : BitVec 24 × Bool)
  /-- R901: A halt request takes effect, holding the engine at its halt address. -/
  | engineHalt (e : Fin 12)
  /-- R908: A halt request takes effect at the Vernier's next step edge. -/
  | vernierHalt (v : Fin 24)
  /-- R907: A read or write of EYE_EDATA reaches a halted engine's banked or Lens state. -/
  | eyeEdataAccess (o : Origin) (w : Option Word)
  /-- R918: A write of EYE_MCTL.GO starts an Eyepiece master access if permitted. -/
  | eyeMasterGo (o : Origin) (v : Word)
  /-- R919: A write of EYE_MCTL.CANCEL withdraws an unserved access. -/
  | eyeMasterCancel (o : Origin) (v : Word)
  /-- R921: An Eyepiece master access completes, setting DONE and any error flags. -/
  | eyeMasterComplete (meet : Meeting) (error : Bool) (data : DWord)
  /-- R282: A BKPT microword halts the engine before any effect. -/
  | microbreak (e : Fin 12)
  /-- R917: A write to EYE_FREEZE holds or releases the servo and Assistant watchdog. -/
  | eyeFreezeWrite (o : Origin) (v : Word)
  /-- R898: The session closes when REMAIN reaches 0. -/
  | sessionExpiry (aon : Nat)
  /-- R478: A write to CAP_W3 commits 128 bits to the indexed capability slot. -/
  | capW3Commit (e : Fin 12) (o : Origin) (v : Word)
  /-- R936: A host slave port transaction is accepted and answered under the response precedence. -/
  | hostTransaction (off : BitVec 24) (write : Bool) (burst : Bool) (be : BitVec 8) (data : List DWord) (meet : Meeting)
  /-- R9: A write to a register with no row of its own, checked by ring and logged if marked. -/
  | registerWrite (off : BitVec 24) (o : Origin) (v : Word)
  /-- R796: A constellation port in DOWN with EN = 1 that receives K28.5 on both lanes enters TRAIN. -/
  | linkTrainingEntry (x : Fin 2)
  /-- R798: At each 256 ns frame period a SYNC port sends its own frame, forwards a frame received earlier, or sends IDLE, including EVENT and CONTROL frames. -/
  | framePeriodSlot (x : Fin 2) (b : Fin 32)
  /-- R242: Next address is NEXT. -/
  | jmp (e : Fin 12)
  /-- R187: Next address is NEXT merged with condition bits. -/
  | br (e : Fin 12)
  /-- R182: Jump to NEXT and write the return address to the link register. -/
  | call (e : Fin 12)
  /-- R242: Multi-way branch that also writes the link register. -/
  | callBr (e : Fin 12)
  /-- R242: Return to the link register. -/
  | rts (e : Fin 12)
  /-- R243: Stall until the CSEL0 condition is 1, then go to NEXT. -/
  | wait (e : Fin 12)
  /-- R244: Stall until any selected condition is 1, then branch. -/
  | waitBr (e : Fin 12)
  /-- R245: Test and decrement the loop counter to choose NEXT or NEXT OR 1. -/
  | loop (e : Fin 12)
  /-- R246: Jump to A operand bits [12:0]. -/
  | jmpR (e : Fin 12)
  /-- R315: Return from an event level, freeing its bank and choosing the next level. -/
  | retE (e : Fin 12)
  /-- R317: Return from PF to the interrupted level at LINK. -/
  | retX (e : Fin 12)
  /-- R252: ALU passes A. -/
  | passa (e : Fin 12)
  /-- R252: ALU passes shifted B. -/
  | passb (e : Fin 12)
  /-- R252: ALU A + B. -/
  | add (e : Fin 12)
  /-- R254: ALU A + B + C. -/
  | adc (e : Fin 12)
  /-- R252: ALU A − B. -/
  | sub (e : Fin 12)
  /-- R254: ALU A − B − (1 − C). -/
  | sbc (e : Fin 12)
  /-- R252: ALU B − A. -/
  | rsb (e : Fin 12)
  /-- R252: ALU A AND B. -/
  | and (e : Fin 12)
  /-- R252: ALU A OR B. -/
  | or (e : Fin 12)
  /-- R252: ALU A XOR B. -/
  | xor (e : Fin 12)
  /-- R252: ALU A AND NOT B. -/
  | andn (e : Fin 12)
  /-- R252: ALU NOT B. -/
  | not (e : Fin 12)
  /-- R252: ALU 0 − B. -/
  | neg (e : Fin 12)
  /-- R252: ALU signed minimum. -/
  | min (e : Fin 12)
  /-- R252: ALU signed maximum. -/
  | max (e : Fin 12)
  /-- R252: ALU unsigned minimum. -/
  | minu (e : Fin 12)
  /-- R252: ALU unsigned maximum. -/
  | maxu (e : Fin 12)
  /-- R252: ALU flags of A − B without result. -/
  | cmp (e : Fin 12)
  /-- R252: ALU flags of A AND B without result. -/
  | tst (e : Fin 12)
  /-- R252: ALU low 32 bits of A × B. -/
  | mul (e : Fin 12)
  /-- R252: ALU high 32 bits of signed A × B. -/
  | mulh (e : Fin 12)
  /-- R252: ALU high 32 bits of unsigned A × B. -/
  | mulhu (e : Fin 12)
  /-- R252: ALU count of leading zeros of B. -/
  | clz (e : Fin 12)
  /-- R252: ALU number of ones in B. -/
  | popc (e : Fin 12)
  /-- R252: ALU bit reversal of B. -/
  | brev (e : Fin 12)
  /-- R252: ALU sign-extends B[7:0]. -/
  | sextB (e : Fin 12)
  /-- R252: ALU sign-extends B[15:0]. -/
  | sextH (e : Fin 12)
  /-- R253: ALU shifts A left by B[4:0]. -/
  | shl (e : Fin 12)
  /-- R253: ALU shifts A right logically by B[4:0]. -/
  | shr (e : Fin 12)
  /-- R253: ALU shifts A right arithmetically by B[4:0]. -/
  | sar (e : Fin 12)
  /-- R253: ALU rotates A right by B[4:0]. -/
  | ror (e : Fin 12)
  /-- R252: ALU ones' complement sum of 16-bit halves. -/
  | csum16 (e : Fin 12)
  /-- R262: Load a plate byte into DST. -/
  | ldB (e : Fin 12)
  /-- R262: Load a plate halfword into DST. -/
  | ldH (e : Fin 12)
  /-- R262: Load a plate word into DST. -/
  | ldW (e : Fin 12)
  /-- R262: Load 64 plate bits into a Lens register. -/
  | ldD (e : Fin 12)
  /-- R262: Store a byte to the plate. -/
  | stB (e : Fin 12)
  /-- R262: Store a halfword to the plate. -/
  | stH (e : Fin 12)
  /-- R262: Store a word to the plate. -/
  | stW (e : Fin 12)
  /-- R262: Store a Lens register to the plate. -/
  | stD (e : Fin 12)
  /-- R204: Atomic add of a plate word returning the old value. -/
  | addA (e : Fin 12)
  /-- R204: Atomic swap of a plate word returning the old value. -/
  | swpA (e : Fin 12)
  /-- R267: Resumable CRC over a plate byte range. -/
  | crcblk (e : Fin 12)
  /-- R266: Resumable copy of a plate byte range. -/
  | movblk (e : Fin 12)
  /-- R268: Resumable ones' complement sum over a plate range. -/
  | sumblk (e : Fin 12)
  /-- R209: Issue a bulk read from external memory into a plate, allocating a tag. -/
  | brd (e : Fin 12)
  /-- R209: Issue a bulk write from a plate to external memory, allocating a tag. -/
  | bwr (e : Fin 12)
  /-- R214: Stall until a named bulk tag completes. -/
  | bwait (e : Fin 12)
  /-- R214: Stall until every bulk tag completes. -/
  | bwaitAll (e : Fin 12)
  /-- R333: Store or load a level's bank and C8–C15 to or from its save-area record. -/
  | saveLo (e : Fin 12)
  /-- R336: Store or load the Lens registers to or from a save-area record. -/
  | saveHi (e : Fin 12)
  /-- R451: Derive a narrower capability into a capability register. -/
  | capDrv (e : Fin 12)
  /-- R460: Revoke an object by bumping its generation. -/
  | capRev (e : Fin 12 × Bool)
  /-- R262: Make a capability register null. -/
  | capClr (e : Fin 12)
  /-- R448: Read one word of a capability register. -/
  | capRd (e : Fin 12)
  /-- R520: Enqueue a descriptor on the capability's queue, or set QFAIL. -/
  | enq (e : Fin 12)
  /-- R523: Dequeue the head visible descriptor's slot address. -/
  | deq (e : Fin 12)
  /-- R523: Return the head visible descriptor's slot address without removing it. -/
  | peek (e : Fin 12)
  /-- R525: Return the queue's COUNT. -/
  | qlen (e : Fin 12)
  /-- R749: Commit the flow's next item to its destination queue, or tombstone it if too late. -/
  | commit (e : Fin 12)
  /-- R20: Put B into the handoff slot to a stage, or set HFAIL if full. -/
  | put (e : Fin 12 × Bool)
  /-- R21: Take the oldest entry of the handoff slot from a stage, or set HFAIL if empty. -/
  | take (e : Fin 12 × Bool)
  /-- R272: Stamp the CCLK edge beginning the microword's last tick. -/
  | stamp (e : Fin 12)
  /-- R272: Return the receive stamp of the last dequeued descriptor. -/
  | stampRx (e : Fin 12)
  /-- R73: Engine snapshot of cluster time and quality into registers. -/
  | snap (e : Fin 12)
  /-- R100: Arm an owned Regulator alarm with a compare from registers. -/
  | almArm (e : Fin 12)
  /-- R959: Set an owned alarm's compare value without arming. -/
  | almSet (e : Fin 12)
  /-- R961: Disarm an owned alarm, never lost. -/
  | almDis (e : Fin 12)
  /-- R272: Read an owned alarm's control and clear selected W1C bits. -/
  | almStat (e : Fin 12)
  /-- R152: Arm an owned phase alarm at a phase-time target. -/
  | phArm (e : Fin 12)
  /-- R272: Set a phase alarm's period. -/
  | phSet (e : Fin 12)
  /-- R272: Disarm a phase alarm. -/
  | phDis (e : Fin 12)
  /-- R169: Phase snapshot of the capability's tracker into registers. -/
  | phSnap (e : Fin 12)
  /-- R126: Feed one sampled value to the capability's tracker. -/
  | phFeed (e : Fin 12)
  /-- R170: Read and clear the permitted bits of CDR_EVSRC. -/
  | evsrc (e : Fin 12)
  /-- R272: Read a timer or watchdog register. -/
  | tmrRd (e : Fin 12)
  /-- R272: Write a timer register or kick the watchdog. -/
  | tmrWr (e : Fin 12)
  /-- R379: Software capture of a timer's count into TMR_CNTn. -/
  | tmrCap (e : Fin 12)
  /-- R365: Arm a one-shot phase-mode compare on a timer. -/
  | tmrParm (e : Fin 12)
  /-- R76: Owner engine writes RGL_RATE. -/
  | discRate (e : Fin 12)
  /-- R76: Owner engine writes and commits a step. -/
  | discStep (e : Fin 12)
  /-- R957: Owner engine writes RGL_QUAL. -/
  | discQual (e : Fin 12)
  /-- R421: Claim the event being handled, withdrawing it from other targets, or set EFAIL. -/
  | claim (e : Fin 12 × Bool)
  /-- R274: Set the pending state of one of the engine's vector lines. -/
  | evtSet (e : Fin 12)
  /-- R274: Clear the pending state of one of the engine's vector lines. -/
  | evtClr (e : Fin 12)
  /-- R347: Set the engine's global event mask. -/
  | gmaskSet (e : Fin 12)
  /-- R347: Clear the engine's global event mask. -/
  | gmaskClr (e : Fin 12)
  /-- R274: Read pending state of vector lines 0–31. -/
  | pendLo (e : Fin 12)
  /-- R274: Read pending state of vector lines 32–63. -/
  | pendHi (e : Fin 12)
  /-- R650: Write the Vernier's transmit holding register if empty. -/
  | push (e : Fin 12)
  /-- R650: Take the Vernier's receive holding register if full. -/
  | pull (e : Fin 12)
  /-- R275: Read the Vernier's status word. -/
  | vstat (e : Fin 12)
  /-- R652: Set Vernier flags. -/
  | flagSet (e : Fin 12)
  /-- R652: Clear Vernier flags. -/
  | flagClr (e : Fin 12)
  /-- R637: Engine starts or restarts its Vernier. -/
  | start (e : Fin 12)
  /-- R639: Engine stops its Vernier. -/
  | stop (e : Fin 12)
  /-- R275: Read the level at a field pin's ball. -/
  | pinrd (e : Fin 12)
  /-- R625: Drive an owned general-purpose field pin. -/
  | pinwr (e : Fin 12)
  /-- R277: Lens Q31.32 add. -/
  | qadd (e : Fin 12)
  /-- R277: Lens Q31.32 subtract. -/
  | qsub (e : Fin 12)
  /-- R255: Lens Q31.32 compare setting condition codes. -/
  | qcmp (e : Fin 12)
  /-- R277: Lens Q31.32 move. -/
  | qmov (e : Fin 12)
  /-- R277: Lens Q31.32 negate. -/
  | qneg (e : Fin 12)
  /-- R277: Lens Q31.32 absolute value. -/
  | qabs (e : Fin 12)
  /-- R278: Lens load of a constant. -/
  | ldk (e : Fin 12)
  /-- R277: Lens Q31.32 multiply. -/
  | qmul (e : Fin 12)
  /-- R277: Lens Q31.32 multiply-add. -/
  | qmac (e : Fin 12)
  /-- R277: Lens complex Q31.32 multiply-add. -/
  | qcmac (e : Fin 12)
  /-- R277: Lens binary32 to Q31.32 conversion. -/
  | f2q (e : Fin 12)
  /-- R277: Lens Q31.32 to binary32 conversion. -/
  | q2f (e : Fin 12)
  /-- R277: Lens binary32 add. -/
  | fadd (e : Fin 12)
  /-- R277: Lens binary32 subtract. -/
  | fsub (e : Fin 12)
  /-- R277: Lens binary32 multiply. -/
  | fmul (e : Fin 12)
  /-- R277: Lens binary32 fused multiply-add. -/
  | fma (e : Fin 12)
  /-- R277: Lens binary32 divide. -/
  | fdiv (e : Fin 12)
  /-- R277: Lens binary32 square root. -/
  | fsqrt (e : Fin 12)
  /-- R277: Lens packed complex binary32 multiply-add. -/
  | cfma (e : Fin 12)
  /-- R199: Resumable CORDIC rotation. -/
  | crot (e : Fin 12)
  /-- R199: Resumable CORDIC vectoring. -/
  | cvec (e : Fin 12)
  /-- R277: Resumable Q31.32 dot product over plate data. -/
  | vdotQ (e : Fin 12)
  /-- R277: Resumable binary32 dot product over plate data. -/
  | vdotF (e : Fin 12)
  /-- R277: Resumable packed complex dot product over plate data. -/
  | vcmacF (e : Fin 12)
  /-- R33: AON_RST_N low resets all three domains, including RWS fields. -/
  | aonRstNAssert
  /-- R33: CLU_RST_N low starts a cluster reset of the IFC domain. -/
  | cluRstNAssert
  /-- R895: A debug reset closes any session, releases halts and resets the Eyepiece block. -/
  | dbgRstNAssert
  /-- R835: The TCLK, CCLK and link PLLs lock after a passed stability check. -/
  | pllLock
  /-- R835: Loss of lock in the link PLL takes the constellation ports DOWN only. -/
  | linkPllLockLoss
  /-- R851: ATTACH_REQ falling in Run or Nap quiesces, tombstones, drains, bypasses and powers down the IFC domain. -/
  | detachSequence
  /-- R851: CLK_QUIES.CMT after quiescing starts, engines are force-stopped and accepted items tombstoned. -/
  | detachCommitWindowEnd
  /-- R852: The detach drain ends when port queues empty or the limit passes; undelivered items set LOSTDRAIN. -/
  | detachDrainEnd
  /-- R849: PWR_ACK falling while PWR_REQ is 1 clamps outputs and moves the sequencer to Detached. -/
  | pwrAckLoss
  /-- R854: ATTACH_REQ falling in Dormant moves to Detached and discards retained state. -/
  | attachReqFallInDormant
  /-- R828: At the first edge with every engine idle, stopped, halted or frozen, CCLK stops to the engines. -/
  | napEntry
  /-- R438: At first service tick after Dormant exit each set wake latch registers its line. -/
  | wakeLatchReplay
  /-- R87: When |Q| falls below one slew step the remainder is added and slewing ends. -/
  | slewComplete
  /-- R90: HOLDTO × 125 ms without a rate write or step in LOCKED enters HOLDOVER. -/
  | holdoverTimeout
  /-- R89: Release of the servo freeze applies the held rate and summed steps. -/
  | servoFreezeRelease
  /-- R660: The 1PPS generator raises its pins at the offset in each second, or suppresses or skips. -/
  | ppsRising
  /-- R660: The 1PPS generator lowers its pins WIDTH µs after the rising edge. -/
  | ppsFalling
  /-- R735: Mailbox NOP returns CLU_STEP. -/
  | nop
  /-- R736: Mailbox LOAD stops acceptance on every flow for a drained reload. -/
  | load
  /-- R736: Once every accepted item is delivered or tombstoned, LOAD takes a cluster reset. -/
  | loadReset
  /-- R725: Mailbox AMEND applies a verified amendment image. -/
  | amend
  /-- R721: Mailbox ADMIT verifies a latent flow and activates it. -/
  | admitFlow
  /-- R723: Mailbox WITHDRAW disables a flow's rule and stops acceptance. -/
  | withdraw
  /-- R735: Mailbox FLOWQUERY returns a flow's state, bound and deadline. -/
  | flowquery
  /-- R735: Mailbox CAPQUERY returns a table entry or a capability slot. -/
  | capquery
  /-- R474: Mailbox GRANT installs a capability in an engine's register. -/
  | grant
  /-- R460: Mailbox REVOKE bumps an object's generation. -/
  | revoke
  /-- R762: Mailbox FAILOVER moves an engine's work to its spare. -/
  | failover
  /-- R767: Mailbox UPGRADE verifies and requests cut-over of an engine to its spare. -/
  | upgrade
  /-- R768: At the first edge the engine is idle with its mask set, failover steps move it to the spare. -/
  | cutOver
  /-- R769: Without cut-over within AST_CUTTO, CUTREQ clears and UPGRADE fails. -/
  | cutOverTimeout
  /-- R866: Mailbox KEYGEN fills an empty key slot from the random source. -/
  | keygen
  /-- R866: Mailbox KEYLOAD fills an empty key slot from a plain or wrapped blob. -/
  | keyload
  /-- R868: Mailbox KEYERASE empties a key slot. -/
  | keyerase
  /-- R859: Mailbox LCADVANCE checks a token, programs a new life-cycle state, wipes and resets. -/
  | lcadvance
  /-- R896: Mailbox DBGUNLOCK opens an Eyepiece session from a signed token. -/
  | dbgunlock
  /-- R898: Mailbox DBGLOCK closes the Eyepiece session. -/
  | dbglock
  /-- R885: Mailbox LOGSPILL sets or ends the Logbook spill ring and policy. -/
  | logspill
  /-- R888: Mailbox LOGREAD returns one Logbook record. -/
  | logread
  /-- R735: A mailbox write of an unlisted code returns UNKNOWN. -/
  | unknownCommand
  /-- R773: A difference between the Assistant cores hands control to the Shutter. -/
  | lockstepMismatch
  /-- R772: 200 µs without a kick hands control to the Shutter. -/
  | assistantWatchdogExpiry
  /-- R775: The Shutter freezes, sets safe states and tombstones every accepted item. -/
  | shutterTakeover
  /-- R775: At drain end or limit the Shutter reports and restarts the Assistant pair. -/
  | shutterDrainEnd
  /-- R782: A one-hot failure isolates the cluster asynchronously and asserts IFC_DEAD. -/
  | shutterSelfCheckFailure
  /-- R808: At each update instant exported trackers are broadcast. -/
  | trackExport
  /-- R807: The Assistant pair rewrites RGL_SRV_OWN when ISSRC changes. -/
  | servoOwnerHandover
  /-- R810: The link dequeues an outbound item and sends its QHEAD and QDATA frames. -/
  | outboundItemSend
  /-- R872: The completed request is placed on the result queue with its result code. -/
  | authResult
  /-- R882: A reserved Logbook record is placed with the next SEQ. -/
  | logRecordPlace
  /-- R884: When the ring has room a gap record reports the lost changes. -/
  | gapRecord
  /-- R914: A cross-trigger registers halt requests on its engines and Vernier groups. -/
  | crossTrigger
  /-- R91: When NS reaches 10^9, SEC increments and, in LOCKED or HOLDOVER, the new SEC is copied into the AON seconds counter, which is made valid. -/
  | secondCarry
  /-- R895: The debug port opening its switch (DBG_PWR falling) powers off the debug domain and acts as a debug reset. -/
  | debugDomainPowerOff
  deriving DecidableEq, Repr

end Sys2Proof
end

