-- ==== Sys2Proof/Machine/Bits.lean ====
section
/-! DEFINITION. Bit fields, byte order and sign, once for every unit (00 R4: little-endian; bit ranges are [hi:lo]). -/

namespace Sys2Proof.Machine

/-- Bits hi down to lo of a register word, as a number. -/
def fieldOf (w : Word) (hi lo : Nat) : Nat := (w.extractLsb' lo (hi + 1 - lo)).toNat

/-- The word with ones in bits hi down to lo. -/
def fieldMask (hi lo : Nat) : Word := BitVec.ofNat 32 ((2 ^ (hi + 1 - lo) - 1) <<< lo)

/-- The word with bits hi down to lo replaced by the low bits of v. -/
def fieldSet (w : Word) (hi lo v : Nat) : Word :=
  (w &&& ~~~ fieldMask hi lo) ||| (BitVec.ofNat 32 (v <<< lo) &&& fieldMask hi lo)

/-- Bit k of a word. -/
def bitAt (w : Word) (k : Nat) : Bool := w.getLsbD k

/-- The number 1 or 0 of a condition. -/
def bit (b : Bool) : Nat := if b then 1 else 0

/-- The bytes of a number, least significant first. -/
def leBytes : Nat → Nat → List Byte
  | 0, _ => []
  | n + 1, v => BitVec.ofNat 8 v :: leBytes n (v / 256)

/-- The number of a list of bytes, least significant first. -/
def ofLeBytes : List Byte → Nat
  | [] => 0
  | b :: bs => b.toNat + 256 * ofLeBytes bs

/-- The number of a list of bytes, most significant first (frame fields are big-endian). -/
def ofBeBytes (bs : List Byte) : Nat := ofLeBytes bs.reverse

/-- The n bytes of a number, most significant first. -/
def beBytes (n v : Nat) : List Byte := (leBytes n v).reverse

/-- The signed value of the low n bits of v. -/
def signed (n v : Nat) : Int :=
  if v % 2 ^ n < 2 ^ (n - 1) then (v % 2 ^ n : Nat) else ((v % 2 ^ n : Nat) : Int) - (2 ^ n : Nat)

/-- The low n bits of a signed value, two's complement. -/
def unsigned (n : Nat) (v : Int) : Nat := (v % ((2 ^ n : Nat) : Int)).toNat

/-- A value saturated to a range. -/
def clampInt (lo hi v : Int) : Int := if v < lo then lo else if hi < v then hi else v

/-- A counter that stops at its largest value. -/
def satAdd (limit a b : Nat) : Nat := if a + b > limit then limit else a + b

/-- The elements of a list at even positions of a fixed list of indices: the indices below n. -/
def indices (n : Nat) : List Nat := List.range n

/-- The bits of n that are one, below `limit`. -/
def onesBelow (limit n : Nat) : List Nat := (List.range limit).filter fun k => n.testBit k

/-- The root of degree e of x, rounded down, from n bits below the part r that is settled. -/
def rootBits (e x : Nat) : Nat → Nat → Nat
  | 0, r => r
  | n + 1, r => rootBits e x n (if (r + 2 ^ n) ^ e ≤ x then r + 2 ^ n else r)

/-- Bits of a byte worked into a reflected CRC-32 (05 R267). -/
def crc32Byte (crc : Word) (b : Byte) : Word :=
  (List.range 8).foldl (fun c _ => if c.getLsbD 0 then (c >>> 1) ^^^ 0xEDB88320#32 else c >>> 1) (crc ^^^ b.setWidth 32)

/-- The IEEE 802.3 CRC-32 of some bytes. -/
def crc32 (bs : List Byte) : Word := ~~~ (bs.foldl crc32Byte 0xFFFFFFFF#32)

end Sys2Proof.Machine
end

