-- ==== Sys2Proof/Machine/Crypto.lean ====
section
/-! DEFINITION. The standards that the manual names for hashes, seals, tags and signatures (09 R455, 14 R695, 18 R858, R864 to R872, 19
R896): SHA-256, HMAC, AES with CMAC, GMAC and key wrap (RFC 3394), ECDSA P-256. Their content is PRESUMED from the standards (log entry
71). -/

namespace Sys2Proof.Machine

/-! ## SHA-256 and HMAC -/

/-- The first 32 bits of the fraction of the root of degree e of p, a root below 8. -/
def rootFraction (e p : Nat) : Word := BitVec.ofNat 32 (rootBits e (p * 2 ^ (32 * e)) 35 0)

/-- The first 64 primes: the numbers below 312 with no other factor below 18. -/
def shaPrimes : List Nat :=
  (List.range 312).filter fun p => decide (2 ≤ p) && (List.range' 2 16).all fun d => d == p || p % d != 0

/-- The round constants of SHA-256: the cube roots of the first 64 primes. -/
def shaConstants : List Word := shaPrimes.map (rootFraction 3)

/-- A hash under way: the words of its first half and of its second half, each newest first. -/
abbrev ShaHash := List Word × List Word

/-- The hash before the first block: the square roots of the first 8 primes. -/
def shaStart : ShaHash :=
  (((shaPrimes.take 4).map (rootFraction 2)), (((shaPrimes.drop 4).take 4).map (rootFraction 2)))

/-- A message with its padding. -/
def shaPad (m : List Byte) : List Byte :=
  m ++ [0x80] ++ List.replicate ((119 - m.length % 64) % 64) 0 ++ beBytes 8 (8 * m.length)

/-- Rotations of a word to the right, added bit by bit. -/
def rotations (x : Word) (rs : List Nat) : Word := rs.foldl (fun z r => z ^^^ x.rotateRight r) 0

/-- n more words of a message schedule, newest first. -/
def shaExpand (w : List Word) : Nat → List Word
  | 0 => w
  | n + 1 =>
    let back (k : Nat) : Word := w.getD (k - 1) 0
    let near := rotations (back 2) [17, 19] ^^^ (back 2 >>> 10)
    let far := rotations (back 15) [7, 18] ^^^ (back 15 >>> 3)
    shaExpand ((near + back 7 + far + back 16) :: w) n

/-- A round with the sum of its constant and its schedule word: each half takes a new word and drops its oldest. -/
def shaRound (x : ShaHash) (kw : Word) : ShaHash :=
  match x with
  | ([a, b, c, d], [e, f, g, h]) =>
    let t := rotations e [6, 11, 25] + (g ^^^ (e &&& (f ^^^ g))) + h + kw
    ([t + rotations a [2, 13, 22] + ((a &&& b) ||| (c &&& (a ||| b))), a, b, c], [d + t, e, f, g])
  | _ => x

/-- The big-endian words of bytes, n of them. -/
def beWords (b : List Byte) (n : Nat) : List Word := (List.range n).map fun i => BitVec.ofNat 32 (ofBeBytes ((b.drop (4 * i)).take 4))

/-- Blocks worked into a hash, n of them. -/
def shaBlocks (x : ShaHash) (b : List Byte) : Nat → ShaHash
  | 0 => x
  | n + 1 =>
    let w := (shaExpand (beWords b 16).reverse 48).reverse
    let y := (List.zipWith (· + ·) shaConstants w).foldl shaRound x
    shaBlocks (List.zipWith (· + ·) x.1 y.1, List.zipWith (· + ·) x.2 y.2) (b.drop 64) n

/-- The 32 bytes of a SHA-256 hash, in hash byte order. -/
def shaBytes (m : List Byte) : List Byte :=
  let x := shaBlocks shaStart (shaPad m) ((shaPad m).length / 64)
  (x.1 ++ x.2).flatMap fun w => beBytes 4 w.toNat

/-- The hash as a number. -/
def sha256 (m : List Byte) : BitVec 256 := BitVec.ofNat 256 (ofBeBytes (shaBytes m))

/-- HMAC-SHA256 with a key of at most 64 bytes. -/
def hmac (key m : List Byte) : List Byte :=
  let k := key ++ List.replicate (64 - key.length) 0
  shaBytes (k.map (· ^^^ 0x5C) ++ shaBytes (k.map (· ^^^ 0x36) ++ m))

/-! ## AES -/

/-- A byte times x in the field of AES. -/
def xtime (b : Byte) : Byte := (b <<< 1) ^^^ (if b.getLsbD 7 then 0x1B else 0)

/-- The product of two bytes: `n` bits of the second. -/
def gmulBits (a b : Byte) : Nat → Byte
  | 0 => 0
  | n + 1 => (if b.getLsbD 0 then a else 0) ^^^ gmulBits (xtime a) (b >>> 1) n

/-- The product of two bytes. -/
def gmul (a b : Byte) : Byte := gmulBits a b 8

/-- The inverse of a byte, 0 of 0: its 254th power. -/
def ginv (a : Byte) : Byte :=
  let a2 := gmul a a
  let a3 := gmul a2 a
  let a12 := gmul (gmul a3 a3) (gmul a3 a3)
  let a15 := gmul a12 a3
  let a240 := (List.range 4).foldl (fun x _ => gmul x x) a15
  gmul (gmul a240 a12) a2

/-- The S-box and its inverse. -/
def sbox (b : Byte) : Byte :=
  let x := ginv b
  x ^^^ x.rotateLeft 1 ^^^ x.rotateLeft 2 ^^^ x.rotateLeft 3 ^^^ x.rotateLeft 4 ^^^ 0x63

def invSbox (b : Byte) : Byte := ginv (b.rotateLeft 1 ^^^ b.rotateLeft 3 ^^^ b.rotateLeft 6 ^^^ 0x05)

/-- Bytes added bit by bit. -/
def xorBytes (a b : List Byte) : List Byte := List.zipWith (· ^^^ ·) a b

/-- The round constant of expansion i. -/
def rcon : Nat → Byte
  | 0 => 0x8D
  | n + 1 => xtime (rcon n)

/-- n more words of an expanded key of nk words, newest first, the next being word i. -/
def aesExpand (nk : Nat) (w : List (List Byte)) (i : Nat) : Nat → List (List Byte)
  | 0 => w
  | n + 1 =>
    let t := w.headD []
    let t := if i % nk = 0 then xorBytes ((t.drop 1 ++ t.take 1).map sbox) [rcon (i / nk), 0, 0, 0]
      else if nk = 8 ∧ i % 8 = 4 then t.map sbox
      else t
    aesExpand nk (xorBytes (w.getD (nk - 1) []) t :: w) (i + 1) n

/-- Round keys of a key of 16 or 32 bytes, in order. -/
def aesKeys (key : List Byte) : List (List Byte) :=
  let nk := key.length / 4
  let first := (List.range nk).map fun i => (key.drop (4 * i)).take 4
  let all := (aesExpand nk first.reverse nk (3 * nk + 28)).reverse
  (List.range (nk + 7)).map fun r => ((all.drop (4 * r)).take 4).flatten

/-- Rows shifted; `back` the other way. -/
def shiftRows (b : List Byte) (back : Bool) : List Byte :=
  (List.range 16).map fun i => b.getD (i % 4 + 4 * ((i / 4 + (if back then 4 - i % 4 else i % 4)) % 4)) 0

/-- Columns times the circulant of four coefficients. -/
def mixColumns (m : List Byte) (b : List Byte) : List Byte :=
  (List.range 16).map fun i =>
    (List.range 4).foldl (fun x j => x ^^^ gmul (m.getD ((j + 4 - i % 4) % 4) 0) (b.getD (i / 4 * 4 + j) 0)) 0

/-- The inner rounds of the cipher. -/
def aesRounds (b : List Byte) : List (List Byte) → List Byte
  | [] => b
  | [k] => xorBytes (shiftRows (b.map sbox) false) k
  | k :: ks => aesRounds (xorBytes (mixColumns [2, 3, 1, 1] (shiftRows (b.map sbox) false)) k) ks

/-- AES encryption of a block of 16 bytes. -/
def aes (key b : List Byte) : List Byte :=
  match aesKeys key with
  | [] => b
  | k :: ks => aesRounds (xorBytes b k) ks

/-- The inner rounds of the inverse cipher. -/
def aesBack (b : List Byte) : List (List Byte) → List Byte
  | [] => b
  | [k] => xorBytes ((shiftRows b true).map invSbox) k
  | k :: ks => aesBack (mixColumns [14, 11, 13, 9] (xorBytes ((shiftRows b true).map invSbox) k)) ks

/-- AES decryption of a block. -/
def aesInverse (key b : List Byte) : List Byte :=
  match (aesKeys key).reverse with
  | [] => b
  | k :: ks => aesBack (xorBytes b k) ks

/-- CMAC's doubling of a block. -/
def cmacDouble (b : List Byte) : List Byte :=
  let v := ofBeBytes b
  beBytes 16 ((2 * v % 2 ^ 128) ^^^ (if 2 ^ 127 ≤ v then 0x87 else 0))

/-- Blocks of a message chained, n of them. -/
def cbcMac (key x m : List Byte) : Nat → List Byte
  | 0 => x
  | n + 1 => cbcMac key (aes key (xorBytes x (m.take 16))) (m.drop 16) n

/-- AES-CMAC. -/
def cmac (key m : List Byte) : List Byte :=
  let k1 := cmacDouble (aes key (List.replicate 16 0))
  let n := (m.length - 1) / 16
  let last := m.drop (16 * n)
  let x := cbcMac key (List.replicate 16 0) m n
  let y := if last.length = 16 then xorBytes last k1
    else xorBytes (last ++ [0x80] ++ List.replicate (15 - last.length) 0) (cmacDouble k1)
  aes key (xorBytes x y)

/-- The product of GHASH, bit 127 - n to bit 127 of the second factor: `z` so far, `v` the shifted first factor. -/
def ghashBits (x v z : Nat) : Nat → Nat
  | 0 => z
  | n + 1 => ghashBits x (v / 2 ^^^ (if v % 2 = 1 then 0xE1 * 2 ^ 120 else 0)) (if x.testBit n then z ^^^ v else z) n

/-- Blocks worked into GHASH, n of them. -/
def ghash (h y : Nat) (m : List Byte) : Nat → Nat
  | 0 => y
  | n + 1 => ghash h (ghashBits (y ^^^ ofBeBytes (m.take 16)) h 0 128) (m.drop 16) n

/-- AES-GMAC of a message under a 12-byte IV. -/
def gmac (key iv m : List Byte) : List Byte :=
  let h := ofBeBytes (aes key (List.replicate 16 0))
  let n := (m.length + 15) / 16
  let padded := m ++ List.replicate (16 * n - m.length) 0 ++ beBytes 8 (8 * m.length) ++ List.replicate 8 0
  xorBytes (beBytes 16 (ghash h 0 padded (n + 1))) (aes key (iv ++ [0, 0, 0, 1]))

/-! ## Key wrap (RFC 3394) -/

/-- The unwrapping steps from step t down, over n blocks: the register A and the blocks. -/
def unwrapSteps (kek : List Byte) (n : Nat) (a : List Byte) (r : List (List Byte)) : Nat → List Byte × List (List Byte)
  | 0 => (a, r)
  | t + 1 =>
    let i := t % n
    let b := aesInverse kek (xorBytes a (beBytes 8 (t + 1)) ++ r.getD i [])
    unwrapSteps kek n (b.take 8) (r.set i (b.drop 8)) t

/-- A key unwrapped, none if its integrity check fails. -/
def unwrapKey (kek b : List Byte) : Option (List Byte) :=
  let n := b.length / 8 - 1
  let r := (List.range n).map fun i => (b.drop (8 * i + 8)).take 8
  let x := unwrapSteps kek n (b.take 8) r (6 * n)
  if x.1 = List.replicate 8 0xA6 then some x.2.flatten else none

/-! ## ECDSA P-256 -/

/-- The field's prime, the group's order, the coefficient b and the base point. -/
def p256 : Nat := 0xffffffff00000001000000000000000000000000ffffffffffffffffffffffff
def n256 : Nat := 0xffffffff00000000ffffffffffffffffbce6faada7179e84f3b9cac2fc632551
def b256 : Nat := 0x5ac635d8aa3a93e7b3ebbd55769886bc651d06b0cc53b0f63bce3c3e27d2604b
def g256 : Nat × Nat :=
  (0x6b17d1f2e12c4247f8bce6e563a440f277037d812deb33a0f4a13945d898c296,
   0x4fe342e2fe1a7f9b8ee7eb4a7c0f9e162bce33576b315ececbb6406837bf51f5)

/-- A power modulo m, n bits of the exponent. -/
def powMod (m b x : Nat) : Nat → Nat
  | 0 => 1 % m
  | n + 1 => (if x % 2 = 1 then b else 1) * powMod m (b * b % m) (x / 2) n % m

/-- The inverse modulo a prime of 256 bits. -/
def invMod (m b : Nat) : Nat := powMod m (b % m) (m - 2) 256

/-- The sum of two points, none being the point at infinity. -/
def addPoints : Option (Nat × Nat) → Option (Nat × Nat) → Option (Nat × Nat)
  | none, q => q
  | p, none => p
  | some (x1, y1), some (x2, y2) =>
    if x1 = x2 ∧ (y1 + y2) % p256 = 0 then none
    else
      let l := if x1 = x2 then (3 * x1 * x1 + p256 - 3) * invMod p256 (2 * y1) % p256
        else (y2 + p256 - y1) * invMod p256 (x2 + p256 - x1) % p256
      let x := (l * l + 2 * p256 - x1 - x2) % p256
      some (x, (l * (x1 + p256 - x) + p256 - y1) % p256)

/-- A multiple of a point, n bits of the factor. -/
def mulPoint (p : Option (Nat × Nat)) (k : Nat) : Nat → Option (Nat × Nat)
  | 0 => none
  | n + 1 => addPoints (if k % 2 = 1 then p else none) (mulPoint (addPoints p p) (k / 2) n)

/-- The point is on the curve. -/
def onCurve (x y : Nat) : Bool :=
  decide (x < p256) && decide (y < p256) && (y * y) % p256 == (x * x * x + (p256 - 3) * x + b256) % p256

/-- ECDSA P-256 with SHA-256: the key X followed by Y, the message, r followed by s, all big-endian. -/
def signatureGood (key m sig : List Byte) : Bool :=
  let x := ofBeBytes (key.take 32)
  let y := ofBeBytes (key.drop 32)
  let r := ofBeBytes (sig.take 32)
  let s := ofBeBytes (sig.drop 32)
  let w := invMod n256 s
  let u1 := ofBeBytes (shaBytes m) * w % n256
  let u2 := r * w % n256
  onCurve x y && decide (1 ≤ r) && decide (r < n256) && decide (1 ≤ s) && decide (s < n256) &&
    (match addPoints (mulPoint (some g256) u1 256) (mulPoint (some (x, y)) u2 256) with
      | some (v, _) => v % n256 == r
      | none => false)

/-! ## The vault's uses (18 R864, R869, R871) -/

/-- The tag of a request's bytes under a key: HMAC-SHA256, or AES-GMAC whose IV is the first 12 bytes. -/
def authTag (gmac_ : Bool) (key bs : List Byte) : List Byte := if gmac_ then gmac key (bs.take 12) (bs.drop 12) else hmac key bs

/-- The key check value of a key with a usage (R869): its first byte in bits [7:0]. -/
def keyCheckValue (usage : Nat) (key : List Byte) : Nat :=
  ofLeBytes ((if usage = 1 then hmac key [] else aes key (List.replicate 16 0)).take 3)

end Sys2Proof.Machine
end

