-- ==== Sys2Proof/Machine/Flags.lean ====
section
/-! DEFINITION. The datapath operations of an engine and their flags (05 R252 to R254). -/

namespace Sys2Proof.Machine

/-! Condition codes and status flags, by their bit in operand source CC (05 R250). -/

def ccZ : Nat := 0
def ccN : Nat := 1
def ccC : Nat := 2
def ccV : Nat := 3
def ccQfail : Nat := 4
def ccHfail : Nat := 5
def ccPfail : Nat := 6
def ccTfail : Nat := 7
def ccEfail : Nat := 8
def ccBfull : Nat := 9

/-- What a datapath operation delivers: its result, if any, the flags it defines (a mask over Z, N, C, V) and their values. -/
structure AluOut where
  result : Option Word
  mask : Nat
  flags : Nat
  deriving DecidableEq, Repr

/-- Z and N of a result. -/
def zn (r : Word) : Nat := bit (r == 0) + 2 * bit r.msb

/-- A result with Z and N. -/
def aluZN (r : Word) : AluOut := { result := some r, mask := 0x3, flags := zn r }

/-- A result with Z, N and C. -/
def aluZNC (r : Word) (c : Bool) : AluOut := { result := some r, mask := 0x7, flags := zn r + 4 * bit c }

/-- A result with Z, N, C and V. -/
def aluZNCV (r : Word) (c v : Bool) : AluOut := { result := some r, mask := 0xF, flags := zn r + 4 * bit c + 8 * bit v }

/-- A signed value outside 32 bits. -/
def overflows (v : Int) : Bool := decide (v < -(2 ^ 31)) || decide (2 ^ 31 ≤ v)

/-- x + y + c: C is the carry out. -/
def addOut (x y : Word) (c : Nat) : AluOut :=
  let full := x.toNat + y.toNat + c
  aluZNCV (BitVec.ofNat 32 full) (decide (2 ^ 32 ≤ full)) (overflows (x.toInt + y.toInt + c))

/-- x - y - b: C is 1 for no borrow. -/
def subOut (x y : Word) (b : Nat) : AluOut :=
  aluZNCV (x - y - BitVec.ofNat 32 b) (decide (y.toNat + b ≤ x.toNat)) (overflows (x.toInt - y.toInt - b))

/-- The flags of an operation without a result. -/
def AluOut.flagsOnly (o : AluOut) : AluOut := { o with result := none }

/-- The number of leading zeros. -/
def leadingZeros (b : Word) : Nat := 32 - (List.range 32).foldl (fun n k => if b.getLsbD k then k + 1 else n) 0

/-- The number of ones. -/
def onesCount (b : Word) : Nat := (List.range 32).foldl (fun n k => n + bit (b.getLsbD k)) 0

/-- The ones' complement sum of two 16-bit values (05 R252 CSUM16, R268). -/
def onesSum (a b : Nat) : Nat := (a % 65536 + b % 65536) % 65536 + (a % 65536 + b % 65536) / 65536

/-- The datapath operation of a code on A, B (after SHF) and the carry of the level; a shift by 0 leaves C as it is (R253). -/
def aluOut (op : Nat) (a b : Word) (c : Bool) : AluOut :=
  let n := b.toNat % 32
  match op with
  | 0x01 => aluZN a
  | 0x02 => aluZN b
  | 0x03 => addOut a b 0
  | 0x04 => addOut a b (bit c)
  | 0x05 => subOut a b 0
  | 0x06 => subOut a b (1 - bit c)
  | 0x07 => subOut b a 0
  | 0x08 => aluZN (a &&& b)
  | 0x09 => aluZN (a ||| b)
  | 0x0A => aluZN (a ^^^ b)
  | 0x0B => aluZN (a &&& ~~~ b)
  | 0x0C => aluZN (~~~ b)
  | 0x0D => subOut 0 b 0
  | 0x0E => aluZN (if a.slt b then a else b)
  | 0x0F => aluZN (if a.slt b then b else a)
  | 0x10 => aluZN (if a.ult b then a else b)
  | 0x11 => aluZN (if a.ult b then b else a)
  | 0x12 => (subOut a b 0).flagsOnly
  | 0x13 => (aluZN (a &&& b)).flagsOnly
  | 0x14 => aluZN (a * b)
  | 0x15 => aluZN (BitVec.ofInt 32 (a.toInt * b.toInt / 2 ^ 32))
  | 0x16 => aluZN (BitVec.ofNat 32 (a.toNat * b.toNat / 2 ^ 32))
  | 0x17 => aluZN (BitVec.ofNat 32 (leadingZeros b))
  | 0x18 => aluZN (BitVec.ofNat 32 (onesCount b))
  | 0x19 => aluZN b.reverse
  | 0x1A => aluZN ((b.extractLsb' 0 8).signExtend 32)
  | 0x1B => aluZN ((b.extractLsb' 0 16).signExtend 32)
  | 0x1C => if n = 0 then aluZN a else aluZNC (a <<< n) (a.getLsbD (32 - n))
  | 0x1D => if n = 0 then aluZN a else aluZNC (a >>> n) (a.getLsbD (n - 1))
  | 0x1E => if n = 0 then aluZN a else aluZNC (a.sshiftRight n) (a.getLsbD (n - 1))
  | 0x1F => aluZNC (a.rotateRight n) (a.rotateRight n).msb
  | 0x20 => aluZN (BitVec.ofNat 32 (onesSum a.toNat b.toNat))
  | _ => { result := none, mask := 0, flags := 0 }

/-- Condition codes with the bits of a mask replaced. -/
def ccMerge (cc : BitVec 10) (mask flags : Nat) : BitVec 10 :=
  (cc &&& ~~~ BitVec.ofNat 10 mask) ||| (BitVec.ofNat 10 flags &&& BitVec.ofNat 10 mask)

/-- One flag of condition codes written. -/
def ccPut (cc : BitVec 10) (k : Nat) (b : Bool) : BitVec 10 := ccMerge cc (2 ^ k) (2 ^ k * bit b)

end Sys2Proof.Machine
end

