-- ==== Sys2Proof/Config.lean ====
section
/-! DEFINITION. What the manual leaves free: opaque constants, without a value that a proof could use. -/

namespace Sys2Proof

/-- The free values: the k-th value of n bits that the manual leaves open (log entry 2). The state's counter `freeUsed`
says how many have been used. -/
opaque Config.freeBits (n k : Nat) : BitVec n

/-- The hash of the vendor manufacturing key, held in ROM (18 R857). -/
opaque Config.vendorKeyHash : BitVec 256

/-- The fit of a tracker's estimator (03 R132): from the window code, the update instant (2^-40 ns) and the source instants
(2^-16 ns) with their values, the fraction of a turn (2^-32), the frequency (2^-24 Hz) and its rate of change (2^-16 Hz/s).
The manual bounds its error (R137) and gives no algorithm. -/
opaque Config.fitPhase (win tu : Nat) (instants : List (Nat × Int)) : BitVec 32 × BitVec 32 × BitVec 32

/-- The error of the two components of a CORDIC rotation, in units of 2^-32, before the bounds of log entry 91 are put on it: from the
vector (x, y) and the angle. -/
opaque Config.cordicError : DWord → DWord → BitVec 32 → Int × Int

/-- What a CORDIC vectoring delivers before the bounds of 04 R199 are put on it: magnitude and angle of (x, y). -/
opaque Config.cordicVector : DWord → DWord → DWord × BitVec 32

/-- How a CORDIC operation holds its operands in Ld, Ld+1 and LRES after an iteration (06 R326): from the operation (true for CVEC) and
the number of iterations done, what is laid over Ld, and over Ld+1 and LRES. -/
opaque Config.cordicFirst : Bool → Nat → BitVec 96 → DWord
opaque Config.cordicRest : Bool → Nat → DWord → BitVec 96

/-- What a 24-bit field of a flow table entry holds of a number that does not fit into it (14 R716). -/
opaque Config.wideBucket : Nat → BitVec 24

/-- The shortest time, in ticks, of a handler path, by the words of its annotation: the manual bounds it from above only (14 R708,
R731). -/
opaque Config.leastStep : List Word → Word

/-- The switch core, outside the cluster, sends frames of class c to port p (14 R730). -/
opaque Config.switchSends : Nat → Nat → Bool

/-- First light's ROM (14 R717), of which the manual lists what it does and not its contents: the words of the control stores of
E0 to E2, each by 8192·engine + address; the program of V0; the settings beside the listed ones, each a register offset and a
value; the capabilities of E0 to E2 by engine and slot; the number of the egress rule; what selects the frames copied to queue
0. -/
opaque Config.romMicrocode : List (Nat × StoreWord)
opaque Config.romVernier : Nat → Word
opaque Config.romSettings : List (Nat × Word)
opaque Config.romCap : Nat → Nat → CapWord
opaque Config.romEgressRule : Word
opaque Config.romCopyTerm : Nat → Word

end Sys2Proof
end

