-- ==== Sys2Proof/Machine/Regs.lean ====
section
/-! DEFINITION. The names of the registers and their fields, as the manual's register tables give them (21 R955 and each
chapter's register block). A register's key is its offset in the host window; a register that an index register presents
has one key per index value, from 0x1000000 up. A field is a register and its bit range, under the manual's name. -/

namespace Sys2Proof.Machine

/-- A field of a register: bits hi down to lo of the register at a key. -/
structure BitRange where
  key : Nat
  hi : Nat
  lo : Nat
  deriving DecidableEq, Repr

/-- CLU_ID — cluster identity (01). -/
def CLU_ID : Nat := 0x0
def CLU_ID.FAMILY : BitRange := ⟨CLU_ID, 31, 16⟩
def CLU_ID.CLUSTER : BitRange := ⟨CLU_ID, 15, 0⟩

/-- CLU_STEP — silicon step and ROM version (01). -/
def CLU_STEP : Nat := 0x4
def CLU_STEP.ROMVER : BitRange := ⟨CLU_STEP, 23, 8⟩
def CLU_STEP.MAJOR : BitRange := ⟨CLU_STEP, 7, 4⟩
def CLU_STEP.MINOR : BitRange := ⟨CLU_STEP, 3, 0⟩

/-- CLU_CTL — cluster control (01). -/
def CLU_CTL : Nat := 0x8
def CLU_CTL.CLURST : BitRange := ⟨CLU_CTL, 1, 1⟩
def CLU_CTL.FIRSTLIGHT : BitRange := ⟨CLU_CTL, 0, 0⟩

/-- CLU_STAT — cluster status (01). -/
def CLU_STAT : Nat := 0xC
def CLU_STAT.INSVC : BitRange := ⟨CLU_STAT, 27, 16⟩
def CLU_STAT.RSTCAUSE : BitRange := ⟨CLU_STAT, 15, 12⟩
def CLU_STAT.DEAD : BitRange := ⟨CLU_STAT, 9, 9⟩
def CLU_STAT.FAULT : BitRange := ⟨CLU_STAT, 8, 8⟩
def CLU_STAT.CHART : BitRange := ⟨CLU_STAT, 7, 7⟩
def CLU_STAT.STATE : BitRange := ⟨CLU_STAT, 2, 0⟩

/-- CLU_ATTACH — attach state (17). -/
def CLU_ATTACH : Nat := 0x10
def CLU_ATTACH.WAKECAUSE : BitRange := ⟨CLU_ATTACH, 23, 19⟩
def CLU_ATTACH.LOSTDRAIN : BitRange := ⟨CLU_ATTACH, 11, 11⟩
def CLU_ATTACH.WAKE : BitRange := ⟨CLU_ATTACH, 10, 10⟩
def CLU_ATTACH.PWRACK : BitRange := ⟨CLU_ATTACH, 9, 9⟩
def CLU_ATTACH.ISO : BitRange := ⟨CLU_ATTACH, 8, 8⟩
def CLU_ATTACH.ATTREQ : BitRange := ⟨CLU_ATTACH, 7, 7⟩
def CLU_ATTACH.ATTACK : BitRange := ⟨CLU_ATTACH, 6, 6⟩
def CLU_ATTACH.PSTATE : BitRange := ⟨CLU_ATTACH, 2, 0⟩

/-- CLU_QMAP0–CLU_QMAP2 — quad stage maps (01). -/
def CLU_QMAP (i : Nat) : Nat := 0x20 + 0x4 * i
def CLU_QMAP.STG3 (i : Nat) : BitRange := ⟨CLU_QMAP i, 15, 12⟩
def CLU_QMAP.STG2 (i : Nat) : BitRange := ⟨CLU_QMAP i, 11, 8⟩
def CLU_QMAP.STG1 (i : Nat) : BitRange := ⟨CLU_QMAP i, 7, 4⟩
def CLU_QMAP.STG0 (i : Nat) : BitRange := ⟨CLU_QMAP i, 3, 0⟩

/-- CLK_PLLSTAT — reference and PLL status (17). -/
def CLK_PLLSTAT : Nat := 0x1000
def CLK_PLLSTAT.CHECKOK : BitRange := ⟨CLK_PLLSTAT, 7, 7⟩
def CLK_PLLSTAT.LINKLK : BitRange := ⟨CLK_PLLSTAT, 6, 6⟩
def CLK_PLLSTAT.CCLKLK : BitRange := ⟨CLK_PLLSTAT, 5, 5⟩
def CLK_PLLSTAT.TCLKLK : BitRange := ⟨CLK_PLLSTAT, 4, 4⟩
def CLK_PLLSTAT.XFREQ : BitRange := ⟨CLK_PLLSTAT, 1, 0⟩

/-- CLK_OSC_TOL — stability check settings (17). -/
def CLK_OSC_TOL : Nat := 0x1004
def CLK_OSC_TOL.PPM : BitRange := ⟨CLK_OSC_TOL, 31, 22⟩
def CLK_OSC_TOL.HOSTKHZ : BitRange := ⟨CLK_OSC_TOL, 18, 0⟩

/-- CLK_STAT — clock loss status (17). -/
def CLK_STAT : Nat := 0x1008
def CLK_STAT.OSCFAIL : BitRange := ⟨CLK_STAT, 31, 16⟩
def CLK_STAT.LOSSCNT : BitRange := ⟨CLK_STAT, 15, 8⟩
def CLK_STAT.CAUSE : BitRange := ⟨CLK_STAT, 4, 3⟩
def CLK_STAT.CLKRST : BitRange := ⟨CLK_STAT, 1, 1⟩
def CLK_STAT.LOSS : BitRange := ⟨CLK_STAT, 0, 0⟩

/-- CLK_SSC — spread spectrum (17). -/
def CLK_SSC : Nat := 0x100C
def CLK_SSC.RATE : BitRange := ⟨CLK_SSC, 15, 8⟩
def CLK_SSC.DEPTH : BitRange := ⟨CLK_SSC, 3, 0⟩

/-- CLK_PWRCTL — power requests (17). -/
def CLK_PWRCTL : Nat := 0x1010
def CLK_PWRCTL.ALMEN : BitRange := ⟨CLK_PWRCTL, 3, 3⟩
def CLK_PWRCTL.NAPEV : BitRange := ⟨CLK_PWRCTL, 2, 2⟩
def CLK_PWRCTL.DORMANT : BitRange := ⟨CLK_PWRCTL, 1, 1⟩
def CLK_PWRCTL.NAP : BitRange := ⟨CLK_PWRCTL, 0, 0⟩

/-- CLK_QUIES — quiescing limits (17). -/
def CLK_QUIES : Nat := 0x1014
def CLK_QUIES.CMT : BitRange := ⟨CLK_QUIES, 31, 16⟩
def CLK_QUIES.LIM : BitRange := ⟨CLK_QUIES, 15, 0⟩

/-- CLK_AONALM — Dormant wake alarm (17). -/
def CLK_AONALM : Nat := 0x1018
def CLK_AONALM.SEC : BitRange := ⟨CLK_AONALM, 31, 0⟩

/-- SEC_LCS — life-cycle state (18). -/
def SEC_LCS : Nat := 0x2000
def SEC_LCS.KHV : BitRange := ⟨SEC_LCS, 4, 4⟩
def SEC_LCS.STATE : BitRange := ⟨SEC_LCS, 3, 0⟩

/-- SEC_SERIAL0, SEC_SERIAL1, SEC_KHASH0–SEC_KHASH7 — identity and trust (18). -/
def SEC_SERIAL0 : Nat := 0x2004
def SEC_SERIAL0.SERLO : BitRange := ⟨SEC_SERIAL0, 31, 0⟩

/-- SEC_SERIAL0, SEC_SERIAL1, SEC_KHASH0–SEC_KHASH7 — identity and trust (18). -/
def SEC_SERIAL1 : Nat := 0x2008
def SEC_SERIAL1.SERHI : BitRange := ⟨SEC_SERIAL1, 31, 0⟩

/-- SEC_TAMPER_POL — tamper actions (18). -/
def SEC_TAMPER_POL : Nat := 0x2010
def SEC_TAMPER_POL.ACT : BitRange := ⟨SEC_TAMPER_POL, 23, 0⟩

/-- SEC_ALARM, SEC_MESH — tamper state and mesh (18). -/
def SEC_ALARM : Nat := 0x2014
def SEC_ALARM.SRC : BitRange := ⟨SEC_ALARM, 7, 0⟩

/-- SEC_ALARM, SEC_MESH — tamper state and mesh (18). -/
def SEC_MESH : Nat := 0x2018
def SEC_MESH.SWPOL : BitRange := ⟨SEC_MESH, 9, 9⟩
def SEC_MESH.MEN : BitRange := ⟨SEC_MESH, 8, 8⟩
def SEC_MESH.INT : BitRange := ⟨SEC_MESH, 3, 0⟩

/-- SEC_SERIAL0, SEC_SERIAL1, SEC_KHASH0–SEC_KHASH7 — identity and trust (18). -/
def SEC_KHASH (i : Nat) : Nat := 0x2020 + 0x4 * i
def SEC_KHASH.HASH (i : Nat) : BitRange := ⟨SEC_KHASH i, 31, 0⟩

/-- SEC_SLOTIDX, SEC_SLOT — key slot status (18). -/
def SEC_SLOTIDX : Nat := 0x2040
def SEC_SLOTIDX.SLOT : BitRange := ⟨SEC_SLOTIDX, 5, 0⟩

/-- SEC_SLOTIDX, SEC_SLOT — key slot status (18). -/
def SEC_SLOT (i : Nat) : Nat := 0x10A0000 + 0x4 * i
def SEC_SLOT.FULL (i : Nat) : BitRange := ⟨SEC_SLOT i, 31, 31⟩
def SEC_SLOT.USAGE (i : Nat) : BitRange := ⟨SEC_SLOT i, 30, 28⟩
def SEC_SLOT.KCV (i : Nat) : BitRange := ⟨SEC_SLOT i, 23, 0⟩

/-- SEC_AUTHQ0–SEC_AUTHQ7, SEC_AUTHSTAT — authentication bindings (18). -/
def SEC_AUTHQ (i : Nat) : Nat := 0x2080 + 0x4 * i
def SEC_AUTHQ.EN (i : Nat) : BitRange := ⟨SEC_AUTHQ i, 31, 31⟩
def SEC_AUTHQ.REVOKED (i : Nat) : BitRange := ⟨SEC_AUTHQ i, 30, 30⟩
def SEC_AUTHQ.RESQ (i : Nat) : BitRange := ⟨SEC_AUTHQ i, 29, 20⟩
def SEC_AUTHQ.REQQ (i : Nat) : BitRange := ⟨SEC_AUTHQ i, 19, 10⟩
def SEC_AUTHQ.SLOT (i : Nat) : BitRange := ⟨SEC_AUTHQ i, 5, 0⟩

/-- SEC_AUTHQ0–SEC_AUTHQ7, SEC_AUTHSTAT — authentication bindings (18). -/
def SEC_AUTHSTAT : Nat := 0x20A0
def SEC_AUTHSTAT.REQS : BitRange := ⟨SEC_AUTHSTAT, 31, 16⟩
def SEC_AUTHSTAT.FAILS : BitRange := ⟨SEC_AUTHSTAT, 15, 0⟩

/-- LOG_CTL — Logbook policy (18). -/
def LOG_CTL : Nat := 0x2800
def LOG_CTL.SPILLERR : BitRange := ⟨LOG_CTL, 2, 2⟩
def LOG_CTL.SPILLEN : BitRange := ⟨LOG_CTL, 1, 1⟩
def LOG_CTL.STRICT : BitRange := ⟨LOG_CTL, 0, 0⟩

/-- LOG_HEAD, LOG_TAIL, LOG_LOST, LOG_BASE — ring state (18). -/
def LOG_HEAD : Nat := 0x2804
def LOG_HEAD.SEQ : BitRange := ⟨LOG_HEAD, 31, 0⟩

/-- LOG_HEAD, LOG_TAIL, LOG_LOST, LOG_BASE — ring state (18). -/
def LOG_TAIL : Nat := 0x2808
def LOG_TAIL.SEQ : BitRange := ⟨LOG_TAIL, 31, 0⟩

/-- LOG_HEAD, LOG_TAIL, LOG_LOST, LOG_BASE — ring state (18). -/
def LOG_LOST : Nat := 0x280C
def LOG_LOST.COUNT : BitRange := ⟨LOG_LOST, 31, 0⟩

/-- LOG_HEAD, LOG_TAIL, LOG_LOST, LOG_BASE — ring state (18). -/
def LOG_BASE : Nat := 0x2810
def LOG_BASE.SEQ : BitRange := ⟨LOG_BASE, 31, 0⟩

/-- LOG_SPILLBASE, LOG_SPILLLEN, LOG_SPILLWR, LOG_SPILLRD — spill ring (18). -/
def LOG_SPILLBASE : Nat := 0x2814
def LOG_SPILLBASE.ADDR : BitRange := ⟨LOG_SPILLBASE, 31, 0⟩

/-- LOG_SPILLBASE, LOG_SPILLLEN, LOG_SPILLWR, LOG_SPILLRD — spill ring (18). -/
def LOG_SPILLLEN : Nat := 0x2818
def LOG_SPILLLEN.LEN : BitRange := ⟨LOG_SPILLLEN, 31, 0⟩

/-- LOG_SPILLBASE, LOG_SPILLLEN, LOG_SPILLWR, LOG_SPILLRD — spill ring (18). -/
def LOG_SPILLWR : Nat := 0x281C
def LOG_SPILLWR.SEQ : BitRange := ⟨LOG_SPILLWR, 31, 0⟩

/-- LOG_SPILLBASE, LOG_SPILLLEN, LOG_SPILLWR, LOG_SPILLRD — spill ring (18). -/
def LOG_SPILLRD : Nat := 0x2820
def LOG_SPILLRD.SEQ : BitRange := ⟨LOG_SPILLRD, 31, 0⟩

/-- CHT_STAT — loader status (14). -/
def CHT_STAT : Nat := 0x3000
def CHT_STAT.RESULT : BitRange := ⟨CHT_STAT, 31, 24⟩
def CHT_STAT.SECT : BitRange := ⟨CHT_STAT, 23, 16⟩
def CHT_STAT.AMENDED : BitRange := ⟨CHT_STAT, 4, 4⟩
def CHT_STAT.LSTATE : BitRange := ⟨CHT_STAT, 3, 0⟩

/-- CHT_ID, CHT_VER — loaded chart (14). -/
def CHT_ID : Nat := 0x3004
def CHT_ID.CHARTID : BitRange := ⟨CHT_ID, 31, 0⟩

/-- CHT_ID, CHT_VER — loaded chart (14). -/
def CHT_VER : Nat := 0x3008
def CHT_VER.VERSION : BitRange := ⟨CHT_VER, 31, 0⟩

/-- CHT_SRC, CHT_SRCADDR, CHT_SRCLEN — image source (14). -/
def CHT_SRC : Nat := 0x300C
def CHT_SRC.KIND : BitRange := ⟨CHT_SRC, 1, 0⟩

/-- CHT_SRC, CHT_SRCADDR, CHT_SRCLEN — image source (14). -/
def CHT_SRCADDR : Nat := 0x3010
def CHT_SRCADDR.ADDR : BitRange := ⟨CHT_SRCADDR, 31, 0⟩

/-- CHT_SRC, CHT_SRCADDR, CHT_SRCLEN — image source (14). -/
def CHT_SRCLEN : Nat := 0x3014
def CHT_SRCLEN.LEN : BitRange := ⟨CHT_SRCLEN, 31, 0⟩

/-- CHT_FAIL — failure offset (14). -/
def CHT_FAIL : Nat := 0x3018
def CHT_FAIL.OFFSET : BitRange := ⟨CHT_FAIL, 31, 0⟩

/-- CHT_HASH0–CHT_HASH7 — image hash (14). -/
def CHT_HASH (i : Nat) : Nat := 0x3020 + 0x4 * i
def CHT_HASH.HASH (i : Nat) : BitRange := ⟨CHT_HASH i, 31, 0⟩

/-- ADM_STAT, ADM_VTIME — admission summary (14). -/
def ADM_STAT : Nat := 0x3100
def ADM_STAT.LATENT : BitRange := ⟨ADM_STAT, 28, 16⟩
def ADM_STAT.ACTIVE : BitRange := ⟨ADM_STAT, 12, 0⟩

/-- ADM_STAT, ADM_VTIME — admission summary (14). -/
def ADM_VTIME : Nat := 0x3104
def ADM_VTIME.US : BitRange := ⟨ADM_VTIME, 31, 0⟩

/-- ADM_FIDX, ADM_FSTATE, ADM_FBOUND — flow inspection (14). -/
def ADM_FIDX : Nat := 0x3108
def ADM_FIDX.FLOW : BitRange := ⟨ADM_FIDX, 11, 0⟩

/-- ADM_FIDX, ADM_FSTATE, ADM_FBOUND — flow inspection (14). -/
def ADM_FSTATE (i : Nat) : Nat := 0x10B0000 + 0x8 * i
def ADM_FSTATE.TERM (i : Nat) : BitRange := ⟨ADM_FSTATE i, 31, 24⟩
def ADM_FSTATE.LASTRES (i : Nat) : BitRange := ⟨ADM_FSTATE i, 23, 16⟩
def ADM_FSTATE.REFUSED (i : Nat) : BitRange := ⟨ADM_FSTATE i, 3, 3⟩
def ADM_FSTATE.STATE (i : Nat) : BitRange := ⟨ADM_FSTATE i, 2, 0⟩

/-- ADM_FIDX, ADM_FSTATE, ADM_FBOUND — flow inspection (14). -/
def ADM_FBOUND (i : Nat) : Nat := 0x10B0004 + 0x8 * i
def ADM_FBOUND.NS (i : Nat) : BitRange := ⟨ADM_FBOUND i, 31, 0⟩

/-- RGL_CTL — Regulator control (02). -/
def RGL_CTL : Nat := 0x4000
def RGL_CTL.HOLDTO : BitRange := ⟨RGL_CTL, 15, 8⟩
def RGL_CTL.PCBYP : BitRange := ⟨RGL_CTL, 2, 2⟩
def RGL_CTL.TCOMP : BitRange := ⟨RGL_CTL, 1, 1⟩
def RGL_CTL.MODE : BitRange := ⟨RGL_CTL, 0, 0⟩

/-- RGL_STAT — Regulator status (02). -/
def RGL_STAT : Nat := 0x4004
def RGL_STAT.AONV : BitRange := ⟨RGL_STAT, 8, 8⟩
def RGL_STAT.SKIPPED : BitRange := ⟨RGL_STAT, 7, 7⟩
def RGL_STAT.TEMPERR : BitRange := ⟨RGL_STAT, 6, 6⟩
def RGL_STAT.OWNDENY : BitRange := ⟨RGL_STAT, 5, 5⟩
def RGL_STAT.SVCFRZ : BitRange := ⟨RGL_STAT, 4, 4⟩
def RGL_STAT.STEPERR : BitRange := ⟨RGL_STAT, 3, 3⟩
def RGL_STAT.RCLAMP : BitRange := ⟨RGL_STAT, 2, 2⟩
def RGL_STAT.PCVALID : BitRange := ⟨RGL_STAT, 1, 1⟩
def RGL_STAT.SLEWING : BitRange := ⟨RGL_STAT, 0, 0⟩

/-- RGL_QUAL — time quality (02). -/
def RGL_QUAL : Nat := 0x4008
def RGL_QUAL.HOLDSEC : BitRange := ⟨RGL_QUAL, 31, 16⟩
def RGL_QUAL.ACC : BitRange := ⟨RGL_QUAL, 15, 8⟩
def RGL_QUAL.STATE : BitRange := ⟨RGL_QUAL, 2, 0⟩

/-- RGL_SRV_OWN — discipline owner (02). -/
def RGL_SRV_OWN : Nat := 0x400C
def RGL_SRV_OWN.OWNER : BitRange := ⟨RGL_SRV_OWN, 4, 0⟩

/-- RGL_SNAP_CMD — snapshot command and status (02). -/
def RGL_SNAP_CMD : Nat := 0x4010
def RGL_SNAP_CMD.CLKW : BitRange := ⟨RGL_SNAP_CMD, 20, 20⟩
def RGL_SNAP_CMD.SLEW : BitRange := ⟨RGL_SNAP_CMD, 19, 19⟩
def RGL_SNAP_CMD.QUAL : BitRange := ⟨RGL_SNAP_CMD, 18, 16⟩
def RGL_SNAP_CMD.SEQ : BitRange := ⟨RGL_SNAP_CMD, 15, 8⟩
def RGL_SNAP_CMD.GO : BitRange := ⟨RGL_SNAP_CMD, 0, 0⟩

/-- RGL_SNAP0–RGL_SNAP2 — snapshot time (02). -/
def RGL_SNAP0 : Nat := 0x4014
def RGL_SNAP0.NSLO : BitRange := ⟨RGL_SNAP0, 31, 16⟩
def RGL_SNAP0.FRAC : BitRange := ⟨RGL_SNAP0, 15, 0⟩

/-- RGL_SNAP0–RGL_SNAP2 — snapshot time (02). -/
def RGL_SNAP1 : Nat := 0x4018
def RGL_SNAP1.SECLO : BitRange := ⟨RGL_SNAP1, 31, 16⟩
def RGL_SNAP1.NSHI : BitRange := ⟨RGL_SNAP1, 15, 0⟩

/-- RGL_SNAP0–RGL_SNAP2 — snapshot time (02). -/
def RGL_SNAP2 : Nat := 0x401C
def RGL_SNAP2.SECHI : BitRange := ⟨RGL_SNAP2, 31, 0⟩

/-- RGL_SNAP_REM0–RGL_SNAP_REM1 — snapshot remaining slew offset (02). -/
def RGL_SNAP_REM0 : Nat := 0x4020
def RGL_SNAP_REM0.QLO : BitRange := ⟨RGL_SNAP_REM0, 31, 0⟩

/-- RGL_SNAP_REM0–RGL_SNAP_REM1 — snapshot remaining slew offset (02). -/
def RGL_SNAP_REM1 : Nat := 0x4024
def RGL_SNAP_REM1.QHI : BitRange := ⟨RGL_SNAP_REM1, 31, 0⟩

/-- RGL_RATE — rate correction (02). -/
def RGL_RATE : Nat := 0x4030
def RGL_RATE.RATE : BitRange := ⟨RGL_RATE, 31, 0⟩

/-- RGL_SLEW — slew rate (02). -/
def RGL_SLEW : Nat := 0x4034
def RGL_SLEW.PPM : BitRange := ⟨RGL_SLEW, 8, 0⟩

/-- RGL_STEP_SEC — step seconds (02). -/
def RGL_STEP_SEC : Nat := 0x4038
def RGL_STEP_SEC.SEC : BitRange := ⟨RGL_STEP_SEC, 31, 0⟩

/-- RGL_STEP_FRAC — step fraction (02). -/
def RGL_STEP_FRAC : Nat := 0x403C
def RGL_STEP_FRAC.FRAC : BitRange := ⟨RGL_STEP_FRAC, 15, 0⟩

/-- RGL_STEP — step commit (02). -/
def RGL_STEP : Nat := 0x4040
def RGL_STEP.NS : BitRange := ⟨RGL_STEP, 31, 0⟩

/-- RGL_UTC — UTC offset (02). -/
def RGL_UTC : Nat := 0x4044
def RGL_UTC.LEAP : BitRange := ⟨RGL_UTC, 17, 16⟩
def RGL_UTC.TAIUTC : BitRange := ⟨RGL_UTC, 15, 0⟩

/-- RGL_TEMP — die temperature (02). -/
def RGL_TEMP : Nat := 0x4048
def RGL_TEMP.VALID : BitRange := ⟨RGL_TEMP, 9, 9⟩
def RGL_TEMP.DEGC : BitRange := ⟨RGL_TEMP, 8, 0⟩

/-- RGL_PINCAL_IDX — pad calibration index (02). -/
def RGL_PINCAL_IDX : Nat := 0x4050
def RGL_PINCAL_IDX.INDEX : BitRange := ⟨RGL_PINCAL_IDX, 6, 0⟩

/-- RGL_PINCAL — pad calibration entry (02). -/
def RGL_PINCAL (i : Nat) : Nat := 0x1000000 + 0x4 * i
def RGL_PINCAL.FVALID (i : Nat) : BitRange := ⟨RGL_PINCAL i, 31, 31⟩
def RGL_PINCAL.DIR (i : Nat) : BitRange := ⟨RGL_PINCAL i, 20, 20⟩
def RGL_PINCAL.TC (i : Nat) : BitRange := ⟨RGL_PINCAL i, 19, 12⟩
def RGL_PINCAL.DLY (i : Nat) : BitRange := ⟨RGL_PINCAL i, 11, 0⟩

/-- RGL_ALM_CTL0–RGL_ALM_CTL31 — alarm control (02). -/
def RGL_ALM_CTL (i : Nat) : Nat := 0x4200 + 0x10 * i
def RGL_ALM_CTL.OWNER (i : Nat) : BitRange := ⟨RGL_ALM_CTL i, 20, 16⟩
def RGL_ALM_CTL.OUT (i : Nat) : BitRange := ⟨RGL_ALM_CTL i, 6, 6⟩
def RGL_ALM_CTL.WERR (i : Nat) : BitRange := ⟨RGL_ALM_CTL i, 5, 5⟩
def RGL_ALM_CTL.LATE (i : Nat) : BitRange := ⟨RGL_ALM_CTL i, 4, 4⟩
def RGL_ALM_CTL.FIRED (i : Nat) : BitRange := ⟨RGL_ALM_CTL i, 3, 3⟩
def RGL_ALM_CTL.MODE (i : Nat) : BitRange := ⟨RGL_ALM_CTL i, 2, 1⟩
def RGL_ALM_CTL.ARM (i : Nat) : BitRange := ⟨RGL_ALM_CTL i, 0, 0⟩

/-- RGL_ALM_T0n–RGL_ALM_T2n — alarm compare value (02). -/
def RGL_ALM_T0 (i : Nat) : Nat := 0x4204 + 0x10 * i
def RGL_ALM_T0.T0 (i : Nat) : BitRange := ⟨RGL_ALM_T0 i, 31, 0⟩

/-- RGL_ALM_T0n–RGL_ALM_T2n — alarm compare value (02). -/
def RGL_ALM_T1 (i : Nat) : Nat := 0x4208 + 0x10 * i
def RGL_ALM_T1.T1 (i : Nat) : BitRange := ⟨RGL_ALM_T1 i, 31, 0⟩

/-- RGL_ALM_T0n–RGL_ALM_T2n — alarm compare value (02). -/
def RGL_ALM_T2 (i : Nat) : Nat := 0x420C + 0x10 * i
def RGL_ALM_T2.T2 (i : Nat) : BitRange := ⟨RGL_ALM_T2 i, 31, 0⟩

/-- CDR_STAT — Clock Drive status (03). -/
def CDR_STAT : Nat := 0x5000
def CDR_STAT.LOCK : BitRange := ⟨CDR_STAT, 19, 16⟩
def CDR_STAT.HZNERR : BitRange := ⟨CDR_STAT, 1, 1⟩
def CDR_STAT.EPHBUSY : BitRange := ⟨CDR_STAT, 0, 0⟩

/-- CDR_EVSRC — event sub-sources (03). -/
def CDR_EVSRC : Nat := 0x5004
def CDR_EVSRC.CAP : BitRange := ⟨CDR_EVSRC, 23, 20⟩
def CDR_EVSRC.TRK : BitRange := ⟨CDR_EVSRC, 19, 16⟩
def CDR_EVSRC.PALM : BitRange := ⟨CDR_EVSRC, 15, 0⟩

/-- CDR_SNAP_CMD — snapshot command and status (03). -/
def CDR_SNAP_CMD : Nat := 0x5010
def CDR_SNAP_CMD.VALID : BitRange := ⟨CDR_SNAP_CMD, 19, 16⟩
def CDR_SNAP_CMD.SEQ : BitRange := ⟨CDR_SNAP_CMD, 15, 8⟩
def CDR_SNAP_CMD.GO : BitRange := ⟨CDR_SNAP_CMD, 0, 0⟩

/-- CDR_SNAP_T0–CDR_SNAP_T2 — snapshot cluster time (03). -/
def CDR_SNAP_T0 : Nat := 0x5014
def CDR_SNAP_T0.T0 : BitRange := ⟨CDR_SNAP_T0, 31, 0⟩

/-- CDR_SNAP_T0–CDR_SNAP_T2 — snapshot cluster time (03). -/
def CDR_SNAP_T1 : Nat := 0x5018
def CDR_SNAP_T1.T1 : BitRange := ⟨CDR_SNAP_T1, 31, 0⟩

/-- CDR_SNAP_T0–CDR_SNAP_T2 — snapshot cluster time (03). -/
def CDR_SNAP_T2 : Nat := 0x501C
def CDR_SNAP_T2.T2 : BitRange := ⟨CDR_SNAP_T2, 31, 0⟩

/-- CDR_PHASEn, CDR_CYCLEn — snapshot phase time (03). -/
def CDR_PHASE (i : Nat) : Nat := 0x5020 + 0x8 * i
def CDR_PHASE.FRAC (i : Nat) : BitRange := ⟨CDR_PHASE i, 31, 0⟩

/-- CDR_PHASEn, CDR_CYCLEn — snapshot phase time (03). -/
def CDR_CYCLE (i : Nat) : Nat := 0x5024 + 0x8 * i
def CDR_CYCLE.CYC (i : Nat) : BitRange := ⟨CDR_CYCLE i, 31, 0⟩

/-- CDR_FREQn — frequency estimate (03). -/
def CDR_FREQ (i : Nat) : Nat := 0x5040 + 0x4 * i
def CDR_FREQ.FREQ (i : Nat) : BitRange := ⟨CDR_FREQ i, 31, 0⟩

/-- CDR_ROCOFn — rate of change of frequency (03). -/
def CDR_ROCOF (i : Nat) : Nat := 0x5050 + 0x4 * i
def CDR_ROCOF.ROCOF (i : Nat) : BitRange := ⟨CDR_ROCOF i, 31, 0⟩

/-- CDR_EPH_OWN — ephemeris host write permission (03). -/
def CDR_EPH_OWN : Nat := 0x5060
def CDR_EPH_OWN.HOSTW : BitRange := ⟨CDR_EPH_OWN, 7, 0⟩

/-- CDR_EPH_IDX — ephemeris index (03). -/
def CDR_EPH_IDX : Nat := 0x5064
def CDR_EPH_IDX.INDEX : BitRange := ⟨CDR_EPH_IDX, 7, 0⟩

/-- CDR_EPH_LO, CDR_EPH_HI — ephemeris entry (03). -/
def CDR_EPH_LO (i : Nat) : Nat := 0x1010000 + 0x8 * i
def CDR_EPH_LO.FRAC (i : Nat) : BitRange := ⟨CDR_EPH_LO i, 31, 0⟩

/-- CDR_EPH_LO, CDR_EPH_HI — ephemeris entry (03). -/
def CDR_EPH_HI (i : Nat) : Nat := 0x1010004 + 0x8 * i
def CDR_EPH_HI.VGRP (i : Nat) : BitRange := ⟨CDR_EPH_HI i, 25, 24⟩
def CDR_EPH_HI.LOOP (i : Nat) : BitRange := ⟨CDR_EPH_HI i, 19, 19⟩
def CDR_EPH_HI.LAST (i : Nat) : BitRange := ⟨CDR_EPH_HI i, 18, 18⟩
def CDR_EPH_HI.VSTART (i : Nat) : BitRange := ⟨CDR_EPH_HI i, 17, 17⟩
def CDR_EPH_HI.EVENT (i : Nat) : BitRange := ⟨CDR_EPH_HI i, 16, 16⟩
def CDR_EPH_HI.DCYC (i : Nat) : BitRange := ⟨CDR_EPH_HI i, 15, 0⟩

/-- CDR_PTn_CTL — tracker control (03). -/
def CDR_PT_CTL (i : Nat) : Nat := 0x5100 + 0x40 * i
def CDR_PT_CTL.OWNER (i : Nat) : BitRange := ⟨CDR_PT_CTL i, 20, 16⟩
def CDR_PT_CTL.CYCLOAD (i : Nat) : BitRange := ⟨CDR_PT_CTL i, 1, 1⟩
def CDR_PT_CTL.EN (i : Nat) : BitRange := ⟨CDR_PT_CTL i, 0, 0⟩

/-- CDR_PTn_STAT — tracker status (03). -/
def CDR_PT_STAT (i : Nat) : Nat := 0x5104 + 0x40 * i
def CDR_PT_STAT.HOLDMS (i : Nat) : BitRange := ⟨CDR_PT_STAT i, 31, 16⟩
def CDR_PT_STAT.CATCHUP (i : Nat) : BitRange := ⟨CDR_PT_STAT i, 7, 7⟩
def CDR_PT_STAT.PHJUMP (i : Nat) : BitRange := ⟨CDR_PT_STAT i, 6, 6⟩
def CDR_PT_STAT.RANGE (i : Nat) : BitRange := ⟨CDR_PT_STAT i, 5, 5⟩
def CDR_PT_STAT.SRCLOSS (i : Nat) : BitRange := ⟨CDR_PT_STAT i, 4, 4⟩
def CDR_PT_STAT.STATE (i : Nat) : BitRange := ⟨CDR_PT_STAT i, 2, 0⟩

/-- CDR_PTn_CFG — tracker configuration (03). -/
def CDR_PT_CFG (i : Nat) : Nat := 0x5108 + 0x40 * i
def CDR_PT_CFG.HOLDLIM (i : Nat) : BitRange := ⟨CDR_PT_CFG i, 31, 24⟩
def CDR_PT_CFG.LOSSACT (i : Nat) : BitRange := ⟨CDR_PT_CFG i, 16, 16⟩
def CDR_PT_CFG.JUMPK (i : Nat) : BitRange := ⟨CDR_PT_CFG i, 15, 12⟩
def CDR_PT_CFG.WIN (i : Nat) : BitRange := ⟨CDR_PT_CFG i, 9, 8⟩

/-- CDR_PTn_SRC — tracker source (03). -/
def CDR_PT_SRC (i : Nat) : Nat := 0x510C + 0x40 * i
def CDR_PT_SRC.KIND (i : Nat) : BitRange := ⟨CDR_PT_SRC i, 31, 30⟩
def CDR_PT_SRC.PIN (i : Nat) : BitRange := ⟨CDR_PT_SRC i, 29, 24⟩
def CDR_PT_SRC.BOTH (i : Nat) : BitRange := ⟨CDR_PT_SRC i, 23, 23⟩
def CDR_PT_SRC.PEER (i : Nat) : BitRange := ⟨CDR_PT_SRC i, 21, 19⟩
def CDR_PT_SRC.PTRK (i : Nat) : BitRange := ⟨CDR_PT_SRC i, 18, 17⟩
def CDR_PT_SRC.RATE (i : Nat) : BitRange := ⟨CDR_PT_SRC i, 16, 16⟩
def CDR_PT_SRC.GAP (i : Nat) : BitRange := ⟨CDR_PT_SRC i, 15, 12⟩

/-- CDR_PTn_DLY, CDR_PTn_OFS, CDR_PTn_CYCINIT — source delay, phase offset and initial cycle (03). -/
def CDR_PT_DLY (i : Nat) : Nat := 0x5110 + 0x40 * i
def CDR_PT_DLY.DLY (i : Nat) : BitRange := ⟨CDR_PT_DLY i, 31, 0⟩

/-- CDR_PTn_DLY, CDR_PTn_OFS, CDR_PTn_CYCINIT — source delay, phase offset and initial cycle (03). -/
def CDR_PT_OFS (i : Nat) : Nat := 0x5114 + 0x40 * i
def CDR_PT_OFS.OFS (i : Nat) : BitRange := ⟨CDR_PT_OFS i, 31, 0⟩

/-- CDR_PTn_DLY, CDR_PTn_OFS, CDR_PTn_CYCINIT — source delay, phase offset and initial cycle (03). -/
def CDR_PT_CYCINIT (i : Nat) : Nat := 0x5118 + 0x40 * i
def CDR_PT_CYCINIT.CYC (i : Nat) : BitRange := ⟨CDR_PT_CYCINIT i, 31, 0⟩

/-- CDR_PCAP_STATn — phase capture control and status (03). -/
def CDR_PCAP_STAT (i : Nat) : Nat := 0x511C + 0x40 * i
def CDR_PCAP_STAT.ALM (i : Nat) : BitRange := ⟨CDR_PCAP_STAT i, 20, 16⟩
def CDR_PCAP_STAT.SEQ (i : Nat) : BitRange := ⟨CDR_PCAP_STAT i, 15, 8⟩
def CDR_PCAP_STAT.VALID (i : Nat) : BitRange := ⟨CDR_PCAP_STAT i, 4, 4⟩
def CDR_PCAP_STAT.LATE (i : Nat) : BitRange := ⟨CDR_PCAP_STAT i, 3, 3⟩
def CDR_PCAP_STAT.EN (i : Nat) : BitRange := ⟨CDR_PCAP_STAT i, 2, 2⟩
def CDR_PCAP_STAT.OVERRUN (i : Nat) : BitRange := ⟨CDR_PCAP_STAT i, 1, 1⟩
def CDR_PCAP_STAT.CAPTURED (i : Nat) : BitRange := ⟨CDR_PCAP_STAT i, 0, 0⟩

/-- CDR_PCAP_FRACn, CDR_PCAP_CYCn — captured phase time (03). -/
def CDR_PCAP_FRAC (i : Nat) : Nat := 0x5120 + 0x40 * i
def CDR_PCAP_FRAC.FRAC (i : Nat) : BitRange := ⟨CDR_PCAP_FRAC i, 31, 0⟩

/-- CDR_PCAP_FRACn, CDR_PCAP_CYCn — captured phase time (03). -/
def CDR_PCAP_CYC (i : Nat) : Nat := 0x5124 + 0x40 * i
def CDR_PCAP_CYC.CYC (i : Nat) : BitRange := ⟨CDR_PCAP_CYC i, 31, 0⟩

/-- CDR_PALM_CTLm — phase alarm control (03). -/
def CDR_PALM_CTL (i : Nat) : Nat := 0x5200 + 0x10 * i
def CDR_PALM_CTL.ENTRY (i : Nat) : BitRange := ⟨CDR_PALM_CTL i, 25, 21⟩
def CDR_PALM_CTL.OWNER (i : Nat) : BitRange := ⟨CDR_PALM_CTL i, 20, 16⟩
def CDR_PALM_CTL.TABLE (i : Nat) : BitRange := ⟨CDR_PALM_CTL i, 15, 13⟩
def CDR_PALM_CTL.TRK (i : Nat) : BitRange := ⟨CDR_PALM_CTL i, 12, 11⟩
def CDR_PALM_CTL.ABORT (i : Nat) : BitRange := ⟨CDR_PALM_CTL i, 7, 7⟩
def CDR_PALM_CTL.TERR (i : Nat) : BitRange := ⟨CDR_PALM_CTL i, 6, 6⟩
def CDR_PALM_CTL.WERR (i : Nat) : BitRange := ⟨CDR_PALM_CTL i, 5, 5⟩
def CDR_PALM_CTL.LATE (i : Nat) : BitRange := ⟨CDR_PALM_CTL i, 4, 4⟩
def CDR_PALM_CTL.FIRED (i : Nat) : BitRange := ⟨CDR_PALM_CTL i, 3, 3⟩
def CDR_PALM_CTL.MODE (i : Nat) : BitRange := ⟨CDR_PALM_CTL i, 2, 1⟩
def CDR_PALM_CTL.ARM (i : Nat) : BitRange := ⟨CDR_PALM_CTL i, 0, 0⟩

/-- CDR_PALM_CYCm, CDR_PALM_FRACm, CDR_PALM_PERm — phase alarm target and period (03). -/
def CDR_PALM_CYC (i : Nat) : Nat := 0x5204 + 0x10 * i
def CDR_PALM_CYC.CYC (i : Nat) : BitRange := ⟨CDR_PALM_CYC i, 31, 0⟩

/-- CDR_PALM_CYCm, CDR_PALM_FRACm, CDR_PALM_PERm — phase alarm target and period (03). -/
def CDR_PALM_FRAC (i : Nat) : Nat := 0x5208 + 0x10 * i
def CDR_PALM_FRAC.FRAC (i : Nat) : BitRange := ⟨CDR_PALM_FRAC i, 31, 0⟩

/-- CDR_PALM_CYCm, CDR_PALM_FRACm, CDR_PALM_PERm — phase alarm target and period (03). -/
def CDR_PALM_PER (i : Nat) : Nat := 0x520C + 0x10 * i
def CDR_PALM_PER.PER (i : Nat) : BitRange := ⟨CDR_PALM_PER i, 31, 0⟩

/-- EVC_DOOR — host doorbells (08). -/
def EVC_DOOR : Nat := 0x6000
def EVC_DOOR.RING : BitRange := ⟨EVC_DOOR, 15, 0⟩

/-- EVC_IRQEN — host output enables (08). -/
def EVC_IRQEN : Nat := 0x6004
def EVC_IRQEN.EN : BitRange := ⟨EVC_IRQEN, 3, 0⟩

/-- EVC_IRQSTAT — host output levels (08). -/
def EVC_IRQSTAT : Nat := 0x6008
def EVC_IRQSTAT.LEVEL : BitRange := ⟨EVC_IRQSTAT, 3, 0⟩

/-- EVC_WAKEEN0, EVC_WAKEEN1 — wake latch enables (08). -/
def EVC_WAKEEN0 : Nat := 0x6010
def EVC_WAKEEN0.PIN : BitRange := ⟨EVC_WAKEEN0, 31, 0⟩

/-- EVC_WAKEEN0, EVC_WAKEEN1 — wake latch enables (08). -/
def EVC_WAKEEN1 : Nat := 0x6014
def EVC_WAKEEN1.MAC : BitRange := ⟨EVC_WAKEEN1, 31, 24⟩
def EVC_WAKEEN1.PIN : BitRange := ⟨EVC_WAKEEN1, 15, 0⟩

/-- EVC_WAKELAT0, EVC_WAKELAT1 — wake latches (08). -/
def EVC_WAKELAT0 : Nat := 0x6018
def EVC_WAKELAT0.PIN : BitRange := ⟨EVC_WAKELAT0, 31, 0⟩

/-- EVC_WAKELAT0, EVC_WAKELAT1 — wake latches (08). -/
def EVC_WAKELAT1 : Nat := 0x601C
def EVC_WAKELAT1.MAC : BitRange := ⟨EVC_WAKELAT1, 31, 24⟩
def EVC_WAKELAT1.PIN : BitRange := ⟨EVC_WAKELAT1, 15, 0⟩

/-- EVC_MASK0–EVC_MASK7 — line masks (08). -/
def EVC_MASK (i : Nat) : Nat := 0x6040 + 0x4 * i
def EVC_MASK.MASK (i : Nat) : BitRange := ⟨EVC_MASK i, 31, 0⟩

/-- EVC_PEND0–EVC_PEND7 — line pending state (08). -/
def EVC_PEND (i : Nat) : Nat := 0x6060 + 0x4 * i
def EVC_PEND.PEND (i : Nat) : BitRange := ⟨EVC_PEND i, 31, 0⟩

/-- EVC_COAL0–EVC_COAL7 — coalesced registrations (08). -/
def EVC_COAL (i : Nat) : Nat := 0x6080 + 0x4 * i
def EVC_COAL.COAL (i : Nat) : BitRange := ⟨EVC_COAL i, 31, 0⟩

/-- EVC_ENG0–EVC_ENG11 — per-engine threshold and moderation (08). -/
def EVC_ENG (i : Nat) : Nat := 0x6100 + 0x4 * i
def EVC_ENG.IDLEBYP (i : Nat) : BitRange := ⟨EVC_ENG i, 28, 28⟩
def EVC_ENG.MCNT (i : Nat) : BitRange := ⟨EVC_ENG i, 27, 20⟩
def EVC_ENG.MINT (i : Nat) : BitRange := ⟨EVC_ENG i, 19, 8⟩
def EVC_ENG.THR (i : Nat) : BitRange := ⟨EVC_ENG i, 7, 0⟩

/-- EVC_ROUTE0–EVC_ROUTE255 — line routes (08). -/
def EVC_ROUTE (i : Nat) : Nat := 0x6400 + 0x4 * i
def EVC_ROUTE.IRQ (i : Nat) : BitRange := ⟨EVC_ROUTE i, 27, 24⟩
def EVC_ROUTE.HOSTM (i : Nat) : BitRange := ⟨EVC_ROUTE i, 23, 23⟩
def EVC_ROUTE.ASST (i : Nat) : BitRange := ⟨EVC_ROUTE i, 22, 22⟩
def EVC_ROUTE.MOD (i : Nat) : BitRange := ⟨EVC_ROUTE i, 21, 21⟩
def EVC_ROUTE.CLAIMM (i : Nat) : BitRange := ⟨EVC_ROUTE i, 20, 20⟩
def EVC_ROUTE.LVL (i : Nat) : BitRange := ⟨EVC_ROUTE i, 19, 18⟩
def EVC_ROUTE.VLINE (i : Nat) : BitRange := ⟨EVC_ROUTE i, 17, 12⟩
def EVC_ROUTE.TMASK (i : Nat) : BitRange := ⟨EVC_ROUTE i, 11, 0⟩

/-- AST_MBOX_CMD — mailbox command (15). -/
def AST_MBOX_CMD : Nat := 0x7000
def AST_MBOX_CMD.CODE : BitRange := ⟨AST_MBOX_CMD, 7, 0⟩

/-- AST_MBOX_STAT — mailbox status (15). -/
def AST_MBOX_STAT : Nat := 0x7004
def AST_MBOX_STAT.BUSY : BitRange := ⟨AST_MBOX_STAT, 31, 31⟩
def AST_MBOX_STAT.SEQ : BitRange := ⟨AST_MBOX_STAT, 30, 24⟩
def AST_MBOX_STAT.ORIGIN : BitRange := ⟨AST_MBOX_STAT, 23, 16⟩
def AST_MBOX_STAT.CODE : BitRange := ⟨AST_MBOX_STAT, 15, 8⟩
def AST_MBOX_STAT.RESULT : BitRange := ⟨AST_MBOX_STAT, 7, 0⟩

/-- AST_MBOX_ARG0–AST_MBOX_ARG7 — mailbox arguments and results (15). -/
def AST_MBOX_ARG (i : Nat) : Nat := 0x7010 + 0x4 * i
def AST_MBOX_ARG.DATA (i : Nat) : BitRange := ⟨AST_MBOX_ARG i, 31, 0⟩

/-- AST_STAT — Assistant pair status (15). -/
def AST_STAT : Nat := 0x7040
def AST_STAT.RESTARTS : BitRange := ⟨AST_STAT, 31, 24⟩
def AST_STAT.LASTCAUSE : BitRange := ⟨AST_STAT, 23, 16⟩
def AST_STAT.WDFRZ : BitRange := ⟨AST_STAT, 1, 1⟩
def AST_STAT.LOCKSTEP : BitRange := ⟨AST_STAT, 0, 0⟩

/-- AST_FPOL — failover policy (15). -/
def AST_FPOL : Nat := 0x7044
def AST_FPOL.FAIL : BitRange := ⟨AST_FPOL, 31, 0⟩

/-- AST_CVLIM, AST_CUTTO — violation limit and cut-over timeout (15). -/
def AST_CVLIM : Nat := 0x7048
def AST_CVLIM.COUNT : BitRange := ⟨AST_CVLIM, 7, 0⟩

/-- AST_CVLIM, AST_CUTTO — violation limit and cut-over timeout (15). -/
def AST_CUTTO : Nat := 0x704C
def AST_CUTTO.US : BitRange := ⟨AST_CUTTO, 15, 0⟩

/-- AST_ENGMAP0, AST_ENGMAP1 — engine map (15). -/
def AST_ENGMAP0 : Nat := 0x7050
def AST_ENGMAP0.MAP : BitRange := ⟨AST_ENGMAP0, 31, 0⟩

/-- AST_ENGMAP0, AST_ENGMAP1 — engine map (15). -/
def AST_ENGMAP1 : Nat := 0x7054
def AST_ENGMAP1.MAP : BitRange := ⟨AST_ENGMAP1, 15, 0⟩

/-- AST_ENGROLE — engine roles (15). -/
def AST_ENGROLE : Nat := 0x7058
def AST_ENGROLE.ROLE : BitRange := ⟨AST_ENGROLE, 23, 0⟩

/-- AST_OTIDX, AST_OT0–AST_OT5 — order table (15). -/
def AST_OTIDX : Nat := 0x7060
def AST_OTIDX.FLOW : BitRange := ⟨AST_OTIDX, 11, 0⟩

/-- AST_OTIDX, AST_OT0–AST_OT5 — order table (15). -/
def AST_OT0 (i : Nat) : Nat := 0x10C0000 + 0x20 * i
def AST_OT0.VALID (i : Nat) : BitRange := ⟨AST_OT0 i, 31, 31⟩
def AST_OT0.INQV (i : Nat) : BitRange := ⟨AST_OT0 i, 30, 30⟩
def AST_OT0.SRCK (i : Nat) : BitRange := ⟨AST_OT0 i, 29, 27⟩
def AST_OT0.DSTK (i : Nat) : BitRange := ⟨AST_OT0 i, 26, 24⟩
def AST_OT0.DSTQ (i : Nat) : BitRange := ⟨AST_OT0 i, 19, 10⟩
def AST_OT0.INQ (i : Nat) : BitRange := ⟨AST_OT0 i, 9, 0⟩

/-- AST_OTIDX, AST_OT0–AST_OT5 — order table (15). -/
def AST_OT1 (i : Nat) : Nat := 0x10C0004 + 0x20 * i
def AST_OT1.NEXTA (i : Nat) : BitRange := ⟨AST_OT1 i, 31, 0⟩

/-- AST_OTIDX, AST_OT0–AST_OT5 — order table (15). -/
def AST_OT2 (i : Nat) : Nat := 0x10C0008 + 0x20 * i
def AST_OT2.NEXTC (i : Nat) : BitRange := ⟨AST_OT2 i, 31, 0⟩

/-- AST_OTIDX, AST_OT0–AST_OT5 — order table (15). -/
def AST_OT3 (i : Nat) : Nat := 0x10C000C + 0x20 * i
def AST_OT3.DEADLINE (i : Nat) : BitRange := ⟨AST_OT3 i, 31, 0⟩

/-- AST_OTIDX, AST_OT0–AST_OT5 — order table (15). -/
def AST_OT4 (i : Nat) : Nat := 0x10C0010 + 0x20 * i
def AST_OT4.DBUD (i : Nat) : BitRange := ⟨AST_OT4 i, 23, 0⟩

/-- AST_OTIDX, AST_OT0–AST_OT5 — order table (15). -/
def AST_OT5 (i : Nat) : Nat := 0x10C0014 + 0x20 * i
def AST_OT5.BREACH (i : Nat) : BitRange := ⟨AST_OT5 i, 31, 16⟩
def AST_OT5.OOC (i : Nat) : BitRange := ⟨AST_OT5 i, 15, 8⟩
def AST_OT5.PEND (i : Nat) : BitRange := ⟨AST_OT5 i, 3, 0⟩

/-- SHT_STAT — Shutter status (15). -/
def SHT_STAT : Nat := 0x7100
def SHT_STAT.FAULT : BitRange := ⟨SHT_STAT, 31, 31⟩
def SHT_STAT.HOLD : BitRange := ⟨SHT_STAT, 30, 30⟩
def SHT_STAT.CAUSE : BitRange := ⟨SHT_STAT, 23, 16⟩
def SHT_STAT.TAKEOVERS : BitRange := ⟨SHT_STAT, 15, 8⟩
def SHT_STAT.PHASE : BitRange := ⟨SHT_STAT, 2, 0⟩

/-- SHT_DRAIN — drain limit (15). -/
def SHT_DRAIN : Nat := 0x7104
def SHT_DRAIN.LIM : BitRange := ⟨SHT_DRAIN, 15, 0⟩

/-- QM_BMSTAT — bulk port status (10). -/
def QM_BMSTAT : Nat := 0x8008
def QM_BMSTAT.INFLT : BitRange := ⟨QM_BMSTAT, 31, 24⟩
def QM_BMSTAT.ERRTAG : BitRange := ⟨QM_BMSTAT, 23, 16⟩
def QM_BMSTAT.BMERR : BitRange := ⟨QM_BMSTAT, 0, 0⟩

/-- QM_QIDX — queue index (10). -/
def QM_QIDX : Nat := 0x8010
def QM_QIDX.QUEUE : BitRange := ⟨QM_QIDX, 9, 0⟩

/-- QM_QRING — queue ring (10). -/
def QM_QRING (i : Nat) : Nat := 0x1100014 + 0x40 * i
def QM_QRING.RSZ (i : Nat) : BitRange := ⟨QM_QRING i, 31, 28⟩
def QM_QRING.BASE (i : Nat) : BitRange := ⟨QM_QRING i, 22, 0⟩

/-- QM_QCFG — queue agents and watermark line (10). -/
def QM_QCFG (i : Nat) : Nat := 0x1100018 + 0x40 * i
def QM_QCFG.WEN (i : Nat) : BitRange := ⟨QM_QCFG i, 21, 21⟩
def QM_QCFG.WLINE (i : Nat) : BitRange := ⟨QM_QCFG i, 20, 16⟩
def QM_QCFG.CONS (i : Nat) : BitRange := ⟨QM_QCFG i, 12, 8⟩
def QM_QCFG.PROD (i : Nat) : BitRange := ⟨QM_QCFG i, 4, 0⟩

/-- QM_QWM — watermark and return queue (10). -/
def QM_QWM (i : Nat) : Nat := 0x110001C + 0x40 * i
def QM_QWM.RETEN (i : Nat) : BitRange := ⟨QM_QWM i, 31, 31⟩
def QM_QWM.RETQ (i : Nat) : BitRange := ⟨QM_QWM i, 25, 16⟩
def QM_QWM.WMARK (i : Nat) : BitRange := ⟨QM_QWM i, 15, 0⟩

/-- QM_QSPILL, QM_QSPLEN — spill ring (10). -/
def QM_QSPILL (i : Nat) : Nat := 0x1100020 + 0x40 * i
def QM_QSPILL.BASE (i : Nat) : BitRange := ⟨QM_QSPILL i, 31, 0⟩

/-- QM_QSPILL, QM_QSPLEN — spill ring (10). -/
def QM_QSPLEN (i : Nat) : Nat := 0x1100024 + 0x40 * i
def QM_QSPLEN.LEN (i : Nat) : BitRange := ⟨QM_QSPLEN i, 20, 0⟩

/-- QM_QCNT — queue counts (10). -/
def QM_QCNT (i : Nat) : Nat := 0x1100028 + 0x40 * i
def QM_QCNT.VIS (i : Nat) : BitRange := ⟨QM_QCNT i, 31, 16⟩
def QM_QCNT.COUNT (i : Nat) : BitRange := ⟨QM_QCNT i, 15, 0⟩

/-- QM_QSTAT — queue status (10). -/
def QM_QSTAT (i : Nat) : Nat := 0x110002C + 0x40 * i
def QM_QSTAT.ECCERR (i : Nat) : BitRange := ⟨QM_QSTAT i, 18, 18⟩
def QM_QSTAT.SPILLERR (i : Nat) : BitRange := ⟨QM_QSTAT i, 17, 17⟩
def QM_QSTAT.STOP (i : Nat) : BitRange := ⟨QM_QSTAT i, 16, 16⟩
def QM_QSTAT.DROPS (i : Nat) : BitRange := ⟨QM_QSTAT i, 15, 0⟩

/-- QM_QCMD, QM_QARG, QM_QRES — host queue operations (10). -/
def QM_QCMD : Nat := 0x8030
def QM_QCMD.OP : BitRange := ⟨QM_QCMD, 18, 16⟩
def QM_QCMD.QUEUE : BitRange := ⟨QM_QCMD, 9, 0⟩

/-- QM_QCMD, QM_QARG, QM_QRES — host queue operations (10). -/
def QM_QARG : Nat := 0x8034
def QM_QARG.ADDR : BitRange := ⟨QM_QARG, 22, 0⟩

/-- QM_QCMD, QM_QARG, QM_QRES — host queue operations (10). -/
def QM_QRES : Nat := 0x8038
def QM_QRES.FAIL : BitRange := ⟨QM_QRES, 31, 31⟩
def QM_QRES.SEQ : BitRange := ⟨QM_QRES, 30, 24⟩
def QM_QRES.VALUE : BitRange := ⟨QM_QRES, 22, 0⟩

/-- QM_PIDX, QM_PBASE, QM_PCFG — burst pools (10). -/
def QM_PIDX : Nat := 0x8040
def QM_PIDX.POOL : BitRange := ⟨QM_PIDX, 4, 0⟩

/-- QM_PIDX, QM_PBASE, QM_PCFG — burst pools (10). -/
def QM_PBASE (i : Nat) : Nat := 0x1030000 + 0x8 * i
def QM_PBASE.BASE (i : Nat) : BitRange := ⟨QM_PBASE i, 22, 0⟩

/-- QM_PIDX, QM_PBASE, QM_PCFG — burst pools (10). -/
def QM_PCFG (i : Nat) : Nat := 0x1030004 + 0x8 * i
def QM_PCFG.FREEQ (i : Nat) : BitRange := ⟨QM_PCFG i, 25, 16⟩
def QM_PCFG.NBUF (i : Nat) : BitRange := ⟨QM_PCFG i, 14, 4⟩
def QM_PCFG.BSZ (i : Nat) : BitRange := ⟨QM_PCFG i, 3, 0⟩

/-- PLT_MODE — plate store mode (10). -/
def PLT_MODE : Nat := 0x8300
def PLT_MODE.FUSED : BitRange := ⟨PLT_MODE, 0, 0⟩

/-- PLT_ECCSTAT — ECC status (10). -/
def PLT_ECCSTAT : Nat := 0x8304
def PLT_ECCSTAT.UEV : BitRange := ⟨PLT_ECCSTAT, 31, 31⟩
def PLT_ECCSTAT.CEV : BitRange := ⟨PLT_ECCSTAT, 30, 30⟩
def PLT_ECCSTAT.CECNT : BitRange := ⟨PLT_ECCSTAT, 15, 0⟩

/-- PLT_ECCADDR — ECC error address (10). -/
def PLT_ECCADDR : Nat := 0x8308
def PLT_ECCADDR.AGENT : BitRange := ⟨PLT_ECCADDR, 28, 24⟩
def PLT_ECCADDR.ADDR : BitRange := ⟨PLT_ECCADDR, 22, 0⟩

/-- PLT_SCRUB — scrubber control (10). -/
def PLT_SCRUB : Nat := 0x830C
def PLT_SCRUB.INTV : BitRange := ⟨PLT_SCRUB, 15, 0⟩

/-- PLT_OWN0–PLT_OWN95 — plate owners (10). -/
def PLT_OWN (i : Nat) : Nat := 0x8400 + 0x4 * i
def PLT_OWN.GEN (i : Nat) : BitRange := ⟨PLT_OWN i, 31, 16⟩
def PLT_OWN.PEND (i : Nat) : BitRange := ⟨PLT_OWN i, 8, 8⟩
def PLT_OWN.OWNER (i : Nat) : BitRange := ⟨PLT_OWN i, 4, 0⟩

/-- FPT_CTL — port control (11). -/
def FPT_CTL (i : Nat) : Nat := 0x9000 + 0x100 * i
def FPT_CTL.CTTHR (i : Nat) : BitRange := ⟨FPT_CTL i, 15, 8⟩
def FPT_CTL.KEEPBAD (i : Nat) : BitRange := ⟨FPT_CTL i, 4, 4⟩
def FPT_CTL.DEFE (i : Nat) : BitRange := ⟨FPT_CTL i, 3, 3⟩
def FPT_CTL.DEFI (i : Nat) : BitRange := ⟨FPT_CTL i, 2, 2⟩
def FPT_CTL.BYP (i : Nat) : BitRange := ⟨FPT_CTL i, 0, 0⟩

/-- FPT_STAT — port status (11). -/
def FPT_STAT (i : Nat) : Nat := 0x9004 + 0x100 * i
def FPT_STAT.FRPEND (i : Nat) : BitRange := ⟨FPT_STAT i, 2, 2⟩
def FPT_STAT.BYPASS (i : Nat) : BitRange := ⟨FPT_STAT i, 1, 1⟩
def FPT_STAT.LINK (i : Nat) : BitRange := ⟨FPT_STAT i, 0, 0⟩

/-- FPT_EVSRC — event sub-sources (11). -/
def FPT_EVSRC (i : Nat) : Nat := 0x9008 + 0x100 * i
def FPT_EVSRC.WAKE (i : Nat) : BitRange := ⟨FPT_EVSRC i, 18, 18⟩
def FPT_EVSRC.LINKDN (i : Nat) : BitRange := ⟨FPT_EVSRC i, 17, 17⟩
def FPT_EVSRC.LINKUP (i : Nat) : BitRange := ⟨FPT_EVSRC i, 16, 16⟩
def FPT_EVSRC.COPYDROP (i : Nat) : BitRange := ⟨FPT_EVSRC i, 10, 10⟩
def FPT_EVSRC.DUPOVF (i : Nat) : BitRange := ⟨FPT_EVSRC i, 9, 9⟩
def FPT_EVSRC.OVERSZ (i : Nat) : BitRange := ⟨FPT_EVSRC i, 8, 8⟩
def FPT_EVSRC.GERR (i : Nat) : BitRange := ⟨FPT_EVSRC i, 7, 7⟩
def FPT_EVSRC.GCHG (i : Nat) : BitRange := ⟨FPT_EVSRC i, 6, 6⟩
def FPT_EVSRC.MCRES (i : Nat) : BitRange := ⟨FPT_EVSRC i, 5, 5⟩
def FPT_EVSRC.TOMB (i : Nat) : BitRange := ⟨FPT_EVSRC i, 4, 4⟩
def FPT_EVSRC.LEDDUP (i : Nat) : BitRange := ⟨FPT_EVSRC i, 3, 3⟩
def FPT_EVSRC.UNDERRUN (i : Nat) : BitRange := ⟨FPT_EVSRC i, 2, 2⟩
def FPT_EVSRC.TSQDROP (i : Nat) : BitRange := ⟨FPT_EVSRC i, 1, 1⟩
def FPT_EVSRC.OOC (i : Nat) : BitRange := ⟨FPT_EVSRC i, 0, 0⟩

/-- FPT_PHY — line rate and PHY latency (11). -/
def FPT_PHY (i : Nat) : Nat := 0x900C + 0x100 * i
def FPT_PHY.TXLAT (i : Nat) : BitRange := ⟨FPT_PHY i, 31, 19⟩
def FPT_PHY.RXLAT (i : Nat) : BitRange := ⟨FPT_PHY i, 18, 6⟩
def FPT_PHY.SPEED (i : Nat) : BitRange := ⟨FPT_PHY i, 2, 0⟩

/-- FPT_PTP, FPT_LINKDLY — correction engine (11). -/
def FPT_PTP (i : Nat) : Nat := 0x9010 + 0x100 * i
def FPT_PTP.LDADDR (i : Nat) : BitRange := ⟨FPT_PTP i, 25, 3⟩
def FPT_PTP.LDSRC (i : Nat) : BitRange := ⟨FPT_PTP i, 2, 2⟩
def FPT_PTP.P2P (i : Nat) : BitRange := ⟨FPT_PTP i, 1, 1⟩
def FPT_PTP.OSYNC (i : Nat) : BitRange := ⟨FPT_PTP i, 0, 0⟩

/-- FPT_PTP, FPT_LINKDLY — correction engine (11). -/
def FPT_LINKDLY (i : Nat) : Nat := 0x9014 + 0x100 * i
def FPT_LINKDLY.DLY (i : Nat) : BitRange := ⟨FPT_LINKDLY i, 31, 0⟩

/-- FPT_RED, FPT_RGRP0–FPT_RGRP3 — redundancy (11). -/
def FPT_RED (i : Nat) : Nat := 0x9018 + 0x100 * i
def FPT_RED.LANB (i : Nat) : BitRange := ⟨FPT_RED i, 5, 5⟩
def FPT_RED.GROUP (i : Nat) : BitRange := ⟨FPT_RED i, 4, 3⟩
def FPT_RED.MODE (i : Nat) : BitRange := ⟨FPT_RED i, 2, 0⟩

/-- FPT_TSQ, FPT_INJ — stamp record and injection queues (11). -/
def FPT_TSQ (i : Nat) : Nat := 0x901C + 0x100 * i
def FPT_TSQ.CLSMASK (i : Nat) : BitRange := ⟨FPT_TSQ i, 31, 24⟩
def FPT_TSQ.EN (i : Nat) : BitRange := ⟨FPT_TSQ i, 10, 10⟩
def FPT_TSQ.QUEUE (i : Nat) : BitRange := ⟨FPT_TSQ i, 9, 0⟩

/-- FPT_TSQ, FPT_INJ — stamp record and injection queues (11). -/
def FPT_INJ (i : Nat) : Nat := 0x9020 + 0x100 * i
def FPT_INJ.EN (i : Nat) : BitRange := ⟨FPT_INJ i, 10, 10⟩
def FPT_INJ.QUEUE (i : Nat) : BitRange := ⟨FPT_INJ i, 9, 0⟩

/-- FPT_FRIDX, FPT_FRW0–FPT_FRW6 — Finder rules (11). -/
def FPT_FRIDX (i : Nat) : Nat := 0x9024 + 0x100 * i
def FPT_FRIDX.RULE (i : Nat) : BitRange := ⟨FPT_FRIDX i, 7, 0⟩

/-- FPT_FRIDX, FPT_FRW0–FPT_FRW6 — Finder rules (11). -/
def FPT_FRW0 (i j : Nat) : Nat := 0x1040000 + 0x2000 * i + 0x20 * j
def FPT_FRW0.VALUE (i j : Nat) : BitRange := ⟨FPT_FRW0 i j, 31, 16⟩
def FPT_FRW0.MASK (i j : Nat) : BitRange := ⟨FPT_FRW0 i j, 15, 0⟩

/-- FPT_FRIDX, FPT_FRW0–FPT_FRW6 — Finder rules (11). -/
def FPT_FRW1 (i j : Nat) : Nat := 0x1040004 + 0x2000 * i + 0x20 * j
def FPT_FRW1.VALUE (i j : Nat) : BitRange := ⟨FPT_FRW1 i j, 31, 16⟩
def FPT_FRW1.MASK (i j : Nat) : BitRange := ⟨FPT_FRW1 i j, 15, 0⟩

/-- FPT_FRIDX, FPT_FRW0–FPT_FRW6 — Finder rules (11). -/
def FPT_FRW2 (i j : Nat) : Nat := 0x1040008 + 0x2000 * i + 0x20 * j
def FPT_FRW2.VALUE (i j : Nat) : BitRange := ⟨FPT_FRW2 i j, 31, 16⟩
def FPT_FRW2.MASK (i j : Nat) : BitRange := ⟨FPT_FRW2 i j, 15, 0⟩

/-- FPT_FRIDX, FPT_FRW0–FPT_FRW6 — Finder rules (11). -/
def FPT_FRW3 (i j : Nat) : Nat := 0x104000C + 0x2000 * i + 0x20 * j
def FPT_FRW3.VALUE (i j : Nat) : BitRange := ⟨FPT_FRW3 i j, 31, 16⟩
def FPT_FRW3.MASK (i j : Nat) : BitRange := ⟨FPT_FRW3 i j, 15, 0⟩

/-- FPT_FRIDX, FPT_FRW0–FPT_FRW6 — Finder rules (11). -/
def FPT_FRW4 (i j : Nat) : Nat := 0x1040010 + 0x2000 * i + 0x20 * j
def FPT_FRW4.EN (i j : Nat) : BitRange := ⟨FPT_FRW4 i j, 29, 29⟩
def FPT_FRW4.DIR (i j : Nat) : BitRange := ⟨FPT_FRW4 i j, 28, 28⟩
def FPT_FRW4.OFF3_OFF0 (i j : Nat) : BitRange := ⟨FPT_FRW4 i j, 27, 0⟩

/-- FPT_FRIDX, FPT_FRW0–FPT_FRW6 — Finder rules (11). -/
def FPT_FRW5 (i j : Nat) : Nat := 0x1040014 + 0x2000 * i + 0x20 * j
def FPT_FRW5.QUEUE (i j : Nat) : BitRange := ⟨FPT_FRW5 i j, 31, 22⟩
def FPT_FRW5.POOL (i j : Nat) : BitRange := ⟨FPT_FRW5 i j, 21, 17⟩
def FPT_FRW5.FLOW (i j : Nat) : BitRange := ⟨FPT_FRW5 i j, 16, 5⟩
def FPT_FRW5.FLOWEN (i j : Nat) : BitRange := ⟨FPT_FRW5 i j, 4, 4⟩
def FPT_FRW5.TSR (i j : Nat) : BitRange := ⟨FPT_FRW5 i j, 3, 3⟩
def FPT_FRW5.PTPC (i j : Nat) : BitRange := ⟨FPT_FRW5 i j, 2, 2⟩
def FPT_FRW5.ACT (i j : Nat) : BitRange := ⟨FPT_FRW5 i j, 1, 0⟩

/-- FPT_FRIDX, FPT_FRW0–FPT_FRW6 — Finder rules (11). -/
def FPT_FRW6 (i j : Nat) : Nat := 0x1040018 + 0x2000 * i + 0x20 * j
def FPT_FRW6.RCVEN (i j : Nat) : BitRange := ⟨FPT_FRW6 i j, 5, 5⟩
def FPT_FRW6.RCV (i j : Nat) : BitRange := ⟨FPT_FRW6 i j, 4, 0⟩

/-- FPT_GCTL, FPT_GLIST, FPT_GACT, FPT_GCYC — gate control (11). -/
def FPT_GCTL (i : Nat) : Nat := 0x9044 + 0x100 * i
def FPT_GCTL.ENTRY (i : Nat) : BitRange := ⟨FPT_GCTL i, 15, 8⟩
def FPT_GCTL.GERR (i : Nat) : BitRange := ⟨FPT_GCTL i, 3, 3⟩
def FPT_GCTL.PENDING (i : Nat) : BitRange := ⟨FPT_GCTL i, 2, 2⟩
def FPT_GCTL.GO (i : Nat) : BitRange := ⟨FPT_GCTL i, 1, 1⟩
def FPT_GCTL.EN (i : Nat) : BitRange := ⟨FPT_GCTL i, 0, 0⟩

/-- FPT_GCTL, FPT_GLIST, FPT_GACT, FPT_GCYC — gate control (11). -/
def FPT_GLIST (i : Nat) : Nat := 0x9048 + 0x100 * i
def FPT_GLIST.LEN (i : Nat) : BitRange := ⟨FPT_GLIST i, 16, 8⟩
def FPT_GLIST.START (i : Nat) : BitRange := ⟨FPT_GLIST i, 7, 0⟩

/-- FPT_GCTL, FPT_GLIST, FPT_GACT, FPT_GCYC — gate control (11). -/
def FPT_GACT (i : Nat) : Nat := 0x904C + 0x100 * i
def FPT_GACT.ACT (i : Nat) : BitRange := ⟨FPT_GACT i, 31, 0⟩

/-- FPT_GCTL, FPT_GLIST, FPT_GACT, FPT_GCYC — gate control (11). -/
def FPT_GCYC (i : Nat) : Nat := 0x9050 + 0x100 * i
def FPT_GCYC.CYC (i : Nat) : BitRange := ⟨FPT_GCYC i, 31, 0⟩

/-- FPT_GBASE0–FPT_GBASE2 — pending base time (11). -/
def FPT_GBASE0 (i : Nat) : Nat := 0x9054 + 0x100 * i
def FPT_GBASE0.T0 (i : Nat) : BitRange := ⟨FPT_GBASE0 i, 31, 0⟩

/-- FPT_GBASE0–FPT_GBASE2 — pending base time (11). -/
def FPT_GBASE1 (i : Nat) : Nat := 0x9058 + 0x100 * i
def FPT_GBASE1.T1 (i : Nat) : BitRange := ⟨FPT_GBASE1 i, 31, 0⟩

/-- FPT_GBASE0–FPT_GBASE2 — pending base time (11). -/
def FPT_GBASE2 (i : Nat) : Nat := 0x905C + 0x100 * i
def FPT_GBASE2.T2 (i : Nat) : BitRange := ⟨FPT_GBASE2 i, 31, 0⟩

/-- FPT_GIDX, FPT_GENT — gate list entries (11). -/
def FPT_GIDX (i : Nat) : Nat := 0x9060 + 0x100 * i
def FPT_GIDX.ENTRY (i : Nat) : BitRange := ⟨FPT_GIDX i, 7, 0⟩

/-- FPT_GIDX, FPT_GENT — gate list entries (11). -/
def FPT_GENT (i j : Nat) : Nat := 0x1060000 + 0x400 * i + 0x4 * j
def FPT_GENT.GATES (i j : Nat) : BitRange := ⟨FPT_GENT i j, 31, 24⟩
def FPT_GENT.INTERVAL (i j : Nat) : BitRange := ⟨FPT_GENT i j, 23, 0⟩

/-- FPT_FTIDX, FPT_FTW0–FPT_FTW3 — flow table (11). -/
def FPT_FTIDX (i : Nat) : Nat := 0x9068 + 0x100 * i
def FPT_FTIDX.ENTRY (i : Nat) : BitRange := ⟨FPT_FTIDX i, 8, 0⟩

/-- FPT_FTIDX, FPT_FTW0–FPT_FTW3 — flow table (11). -/
def FPT_FTW0 (i j : Nat) : Nat := 0x1070000 + 0x2000 * i + 0x10 * j
def FPT_FTW0.POLICE (i j : Nat) : BitRange := ⟨FPT_FTW0 i j, 14, 14⟩
def FPT_FTW0.ROLE (i j : Nat) : BitRange := ⟨FPT_FTW0 i j, 13, 12⟩
def FPT_FTW0.FLOW (i j : Nat) : BitRange := ⟨FPT_FTW0 i j, 11, 0⟩

/-- FPT_FTIDX, FPT_FTW0–FPT_FTW3 — flow table (11). -/
def FPT_FTW1 (i j : Nat) : Nat := 0x1070004 + 0x2000 * i + 0x10 * j
def FPT_FTW1.SEQ (i j : Nat) : BitRange := ⟨FPT_FTW1 i j, 31, 0⟩

/-- FPT_FTIDX, FPT_FTW0–FPT_FTW3 — flow table (11). -/
def FPT_FTW2 (i j : Nat) : Nat := 0x1070008 + 0x2000 * i + 0x10 * j
def FPT_FTW2.RATE (i j : Nat) : BitRange := ⟨FPT_FTW2 i j, 23, 0⟩

/-- FPT_FTIDX, FPT_FTW0–FPT_FTW3 — flow table (11). -/
def FPT_FTW3 (i j : Nat) : Nat := 0x107000C + 0x2000 * i + 0x10 * j
def FPT_FTW3.BURST (i j : Nat) : BitRange := ⟨FPT_FTW3 i j, 23, 0⟩

/-- FPT_CLS0–FPT_CLS7 — egress class queues (11). -/
def FPT_CLS (i j : Nat) : Nat := 0x9080 + 0x100 * i + 0x4 * j
def FPT_CLS.MCMASK (i j : Nat) : BitRange := ⟨FPT_CLS i j, 31, 24⟩
def FPT_CLS.EN (i j : Nat) : BitRange := ⟨FPT_CLS i j, 10, 10⟩
def FPT_CLS.QUEUE (i j : Nat) : BitRange := ⟨FPT_CLS i j, 9, 0⟩

/-- FPT_SWLIM0–FPT_SWLIM7 — switch core limits (11). -/
def FPT_SWLIM (i j : Nat) : Nat := 0x90A0 + 0x100 * i + 0x4 * j
def FPT_SWLIM.LAT (i j : Nat) : BitRange := ⟨FPT_SWLIM i j, 19, 0⟩

/-- FPT_RCVIDX, FPT_RCVCFG — recovery streams (11). -/
def FPT_RCVIDX (i : Nat) : Nat := 0x90C0 + 0x100 * i
def FPT_RCVIDX.STREAM (i : Nat) : BitRange := ⟨FPT_RCVIDX i, 4, 0⟩

/-- FPT_RCVIDX, FPT_RCVCFG — recovery streams (11). -/
def FPT_RCVCFG (i j : Nat) : Nat := 0x1080000 + 0x100 * i + 0x4 * j
def FPT_RCVCFG.RESET (i j : Nat) : BitRange := ⟨FPT_RCVCFG i j, 23, 8⟩
def FPT_RCVCFG.SRC (i j : Nat) : BitRange := ⟨FPT_RCVCFG i j, 7, 6⟩
def FPT_RCVCFG.POP (i j : Nat) : BitRange := ⟨FPT_RCVCFG i j, 5, 5⟩
def FPT_RCVCFG.HIST (i j : Nat) : BitRange := ⟨FPT_RCVCFG i j, 4, 0⟩

/-- FPT_MCRES — switch core residue (11). -/
def FPT_MCRES (i : Nat) : Nat := 0x90C8 + 0x100 * i
def FPT_MCRES.PORTS (i : Nat) : BitRange := ⟨FPT_MCRES i, 7, 0⟩

/-- FPT_CNTIDX, FPT_CNT — counters (11). -/
def FPT_CNTIDX (i : Nat) : Nat := 0x90CC + 0x100 * i
def FPT_CNTIDX.INDEX (i : Nat) : BitRange := ⟨FPT_CNTIDX i, 4, 0⟩

/-- FPT_CNTIDX, FPT_CNT — counters (11). -/
def FPT_CNT (i j : Nat) : Nat := 0x1090000 + 0x100 * i + 0x4 * j
def FPT_CNT.COUNT (i j : Nat) : BitRange := ⟨FPT_CNT i j, 31, 0⟩

/-- FPT_RED, FPT_RGRP0–FPT_RGRP3 — redundancy (11). -/
def FPT_RGRP (i : Nat) : Nat := 0x9800 + 0x4 * i
def FPT_RGRP.SEQ (i : Nat) : BitRange := ⟨FPT_RGRP i, 31, 16⟩
def FPT_RGRP.FORGET (i : Nat) : BitRange := ⟨FPT_RGRP i, 15, 0⟩

/-- VRN_CTL0–VRN_CTL23 — Vernier control (12). -/
def VRN_CTL (i : Nat) : Nat := 0xA000 + 0x40 * i
def VRN_CTL.ENTRY (i : Nat) : BitRange := ⟨VRN_CTL i, 12, 8⟩
def VRN_CTL.START (i : Nat) : BitRange := ⟨VRN_CTL i, 3, 3⟩
def VRN_CTL.STOP (i : Nat) : BitRange := ⟨VRN_CTL i, 2, 2⟩
def VRN_CTL.GJOIN (i : Nat) : BitRange := ⟨VRN_CTL i, 1, 1⟩

/-- VRN_STAT0–VRN_STAT23 — Vernier status (12). -/
def VRN_STAT (i : Nat) : Nat := 0xA004 + 0x40 * i
def VRN_STAT.PC (i : Nat) : BitRange := ⟨VRN_STAT i, 31, 27⟩
def VRN_STAT.STATE (i : Nat) : BitRange := ⟨VRN_STAT i, 26, 24⟩
def VRN_STAT.FLAGS (i : Nat) : BitRange := ⟨VRN_STAT i, 23, 16⟩
def VRN_STAT.TXF (i : Nat) : BitRange := ⟨VRN_STAT i, 15, 15⟩
def VRN_STAT.RXF (i : Nat) : BitRange := ⟨VRN_STAT i, 14, 14⟩
def VRN_STAT.RXOVR (i : Nat) : BitRange := ⟨VRN_STAT i, 13, 13⟩
def VRN_STAT.PINCONF (i : Nat) : BitRange := ⟨VRN_STAT i, 12, 12⟩
def VRN_STAT.ILL (i : Nat) : BitRange := ⟨VRN_STAT i, 11, 11⟩
def VRN_STAT.ELAT (i : Nat) : BitRange := ⟨VRN_STAT i, 9, 8⟩

/-- VRN_CLK0–VRN_CLK23 — step clock (12). -/
def VRN_CLK (i : Nat) : Nat := 0xA008 + 0x40 * i
def VRN_CLK.SRC (i : Nat) : BitRange := ⟨VRN_CLK i, 16, 16⟩
def VRN_CLK.DIV (i : Nat) : BitRange := ⟨VRN_CLK i, 15, 0⟩

/-- VRN_PINS0–VRN_PINS23 — pin slots (12). -/
def VRN_PINS (i : Nat) : Nat := 0xA00C + 0x40 * i
def VRN_PINS.EN0 (i : Nat) : BitRange := ⟨VRN_PINS i, 6, 6⟩
def VRN_PINS.EN1 (i : Nat) : BitRange := ⟨VRN_PINS i, 13, 13⟩
def VRN_PINS.EN2 (i : Nat) : BitRange := ⟨VRN_PINS i, 20, 20⟩
def VRN_PINS.EN3 (i : Nat) : BitRange := ⟨VRN_PINS i, 27, 27⟩
def VRN_PINS.PIN0 (i : Nat) : BitRange := ⟨VRN_PINS i, 5, 0⟩
def VRN_PINS.PIN1 (i : Nat) : BitRange := ⟨VRN_PINS i, 12, 7⟩
def VRN_PINS.PIN2 (i : Nat) : BitRange := ⟨VRN_PINS i, 19, 14⟩
def VRN_PINS.PIN3 (i : Nat) : BitRange := ⟨VRN_PINS i, 26, 21⟩

/-- VRN_EVCFG0–VRN_EVCFG23 — Vernier events (12). -/
def VRN_EVCFG (i : Nat) : Nat := 0xA010 + 0x40 * i
def VRN_EVCFG.EVRXF (i : Nat) : BitRange := ⟨VRN_EVCFG i, 19, 19⟩
def VRN_EVCFG.EVTXE (i : Nat) : BitRange := ⟨VRN_EVCFG i, 18, 18⟩
def VRN_EVCFG.L1EN (i : Nat) : BitRange := ⟨VRN_EVCFG i, 17, 17⟩
def VRN_EVCFG.L0EN (i : Nat) : BitRange := ⟨VRN_EVCFG i, 16, 16⟩
def VRN_EVCFG.LINE1 (i : Nat) : BitRange := ⟨VRN_EVCFG i, 15, 8⟩
def VRN_EVCFG.LINE0 (i : Nat) : BitRange := ⟨VRN_EVCFG i, 7, 0⟩

/-- VRN_OSR, VRN_ISR, VRN_CNT — Vernier registers (12). -/
def VRN_OSR (i : Nat) : Nat := 0xA014 + 0x40 * i
def VRN_OSR.ESR (i : Nat) : BitRange := ⟨VRN_OSR i, 31, 0⟩

/-- VRN_OSR, VRN_ISR, VRN_CNT — Vernier registers (12). -/
def VRN_ISR (i : Nat) : Nat := 0xA018 + 0x40 * i
def VRN_ISR.GSR (i : Nat) : BitRange := ⟨VRN_ISR i, 31, 0⟩

/-- VRN_OSR, VRN_ISR, VRN_CNT — Vernier registers (12). -/
def VRN_CNT (i : Nat) : Nat := 0xA01C + 0x40 * i
def VRN_CNT.TB (i : Nat) : BitRange := ⟨VRN_CNT i, 31, 16⟩
def VRN_CNT.TA (i : Nat) : BitRange := ⟨VRN_CNT i, 15, 0⟩

/-- VRN_GRP0–VRN_GRP2, VRN_GSTART — group starts (12). -/
def VRN_GRP (i : Nat) : Nat := 0xA600 + 0x4 * i
def VRN_GRP.SEN (i : Nat) : BitRange := ⟨VRN_GRP i, 6, 6⟩
def VRN_GRP.SALM (i : Nat) : BitRange := ⟨VRN_GRP i, 4, 0⟩

/-- VRN_GRP0–VRN_GRP2, VRN_GSTART — group starts (12). -/
def VRN_GSTART : Nat := 0xA60C
def VRN_GSTART.GO : BitRange := ⟨VRN_GSTART, 2, 0⟩

/-- VRN_IMEMv_i — instruction memory (12). -/
def VRN_IMEM (i j : Nat) : Nat := 0x1200000 + 0x80 * i + 0x4 * j
def VRN_IMEM.INSN (i j : Nat) : BitRange := ⟨VRN_IMEM i j, 15, 0⟩

/-- FLD_CFG0–FLD_CFG47 — field pin configuration (12). -/
def FLD_CFG (i : Nat) : Nat := 0xB800 + 0x4 * i
def FLD_CFG.EVF (i : Nat) : BitRange := ⟨FLD_CFG i, 23, 23⟩
def FLD_CFG.EVR (i : Nat) : BitRange := ⟨FLD_CFG i, 22, 22⟩
def FLD_CFG.SAFE (i : Nat) : BitRange := ⟨FLD_CFG i, 19, 18⟩
def FLD_CFG.OD (i : Nat) : BitRange := ⟨FLD_CFG i, 17, 17⟩
def FLD_CFG.FORCE (i : Nat) : BitRange := ⟨FLD_CFG i, 16, 16⟩
def FLD_CFG.OWNER (i : Nat) : BitRange := ⟨FLD_CFG i, 13, 8⟩
def FLD_CFG.FUNC (i : Nat) : BitRange := ⟨FLD_CFG i, 2, 0⟩

/-- FLD_IN0, FLD_IN1, FLD_GPOUT0, FLD_GPOUT1 — pin levels (12). -/
def FLD_IN0 : Nat := 0xB900
def FLD_IN0.LEVEL : BitRange := ⟨FLD_IN0, 31, 0⟩

/-- FLD_IN0, FLD_IN1, FLD_GPOUT0, FLD_GPOUT1 — pin levels (12). -/
def FLD_IN1 : Nat := 0xB904
def FLD_IN1.LEVEL : BitRange := ⟨FLD_IN1, 15, 0⟩

/-- FLD_IN0, FLD_IN1, FLD_GPOUT0, FLD_GPOUT1 — pin levels (12). -/
def FLD_GPOUT0 : Nat := 0xB908
def FLD_GPOUT0.OUT : BitRange := ⟨FLD_GPOUT0, 31, 0⟩

/-- FLD_IN0, FLD_IN1, FLD_GPOUT0, FLD_GPOUT1 — pin levels (12). -/
def FLD_GPOUT1 : Nat := 0xB90C
def FLD_GPOUT1.OUT : BitRange := ⟨FLD_GPOUT1, 15, 0⟩

/-- FLD_PPS, FLD_PPSOFS, FLD_PPSCNT — 1PPS generator (12). -/
def FLD_PPS : Nat := 0xB910
def FLD_PPS.QGATE : BitRange := ⟨FLD_PPS, 31, 31⟩
def FLD_PPS.WIDTH : BitRange := ⟨FLD_PPS, 19, 0⟩

/-- FLD_PPS, FLD_PPSOFS, FLD_PPSCNT — 1PPS generator (12). -/
def FLD_PPSOFS : Nat := 0xB914
def FLD_PPSOFS.OFS : BitRange := ⟨FLD_PPSOFS, 29, 0⟩

/-- FLD_PPS, FLD_PPSOFS, FLD_PPSCNT — 1PPS generator (12). -/
def FLD_PPSCNT : Nat := 0xB918
def FLD_PPSCNT.SKIP : BitRange := ⟨FLD_PPSCNT, 31, 16⟩
def FLD_PPSCNT.SUPP : BitRange := ⟨FLD_PPSCNT, 15, 0⟩

/-- OCC_CHCTL0–OCC_CHCTL2 — channel control (13). -/
def OCC_CHCTL (i : Nat) : Nat := 0xB000 + 0x40 * i
def OCC_CHCTL.WARM (i : Nat) : BitRange := ⟨OCC_CHCTL i, 5, 5⟩
def OCC_CHCTL.POL (i : Nat) : BitRange := ⟨OCC_CHCTL i, 4, 3⟩
def OCC_CHCTL.MODE (i : Nat) : BitRange := ⟨OCC_CHCTL i, 2, 1⟩
def OCC_CHCTL.TRAIN (i : Nat) : BitRange := ⟨OCC_CHCTL i, 0, 0⟩

/-- OCC_CHSTAT0–OCC_CHSTAT2 — channel status (13). -/
def OCC_CHSTAT (i : Nat) : Nat := 0xB004 + 0x40 * i
def OCC_CHSTAT.FCPER (i : Nat) : BitRange := ⟨OCC_CHSTAT i, 31, 16⟩
def OCC_CHSTAT.WERR (i : Nat) : BitRange := ⟨OCC_CHSTAT i, 10, 10⟩
def OCC_CHSTAT.WEMPTY (i : Nat) : BitRange := ⟨OCC_CHSTAT i, 9, 9⟩
def OCC_CHSTAT.DROP (i : Nat) : BitRange := ⟨OCC_CHSTAT i, 8, 8⟩
def OCC_CHSTAT.LANEERR (i : Nat) : BitRange := ⟨OCC_CHSTAT i, 7, 7⟩
def OCC_CHSTAT.ARR (i : Nat) : BitRange := ⟨OCC_CHSTAT i, 6, 6⟩
def OCC_CHSTAT.STATE (i : Nat) : BitRange := ⟨OCC_CHSTAT i, 2, 0⟩

/-- OCC_CHCFG0–OCC_CHCFG2 — channel configuration (13). -/
def OCC_CHCFG (i : Nat) : Nat := 0xB008 + 0x40 * i
def OCC_CHCFG.HOSTW (i : Nat) : BitRange := ⟨OCC_CHCFG i, 31, 31⟩
def OCC_CHCFG.SNAP (i : Nat) : BitRange := ⟨OCC_CHCFG i, 30, 30⟩
def OCC_CHCFG.FMT (i : Nat) : BitRange := ⟨OCC_CHCFG i, 29, 29⟩
def OCC_CHCFG.FLOW (i : Nat) : BitRange := ⟨OCC_CHCFG i, 28, 17⟩
def OCC_CHCFG.POOL (i : Nat) : BitRange := ⟨OCC_CHCFG i, 16, 12⟩
def OCC_CHCFG.QUEUE (i : Nat) : BitRange := ⟨OCC_CHCFG i, 9, 0⟩

/-- OCC_THR0–OCC_THR2 — trigger threshold and holdoff (13). -/
def OCC_THR (i : Nat) : Nat := 0xB00C + 0x40 * i
def OCC_THR.HOLD (i : Nat) : BitRange := ⟨OCC_THR i, 31, 16⟩
def OCC_THR.THR (i : Nat) : BitRange := ⟨OCC_THR i, 15, 0⟩

/-- OCC_ADCLAT0–OCC_ADCLAT2 — ADC latency (13). -/
def OCC_ADCLAT (i : Nat) : Nat := 0xB010 + 0x40 * i
def OCC_ADCLAT.LAT (i : Nat) : BitRange := ⟨OCC_ADCLAT i, 23, 0⟩

/-- OCC_CNT0–OCC_CNT2 — channel counters (13). -/
def OCC_CNT (i : Nat) : Nat := 0xB014 + 0x40 * i
def OCC_CNT.RECS (i : Nat) : BitRange := ⟨OCC_CNT i, 31, 16⟩
def OCC_CNT.REJ (i : Nat) : BitRange := ⟨OCC_CNT i, 15, 8⟩
def OCC_CNT.OUTW (i : Nat) : BitRange := ⟨OCC_CNT i, 7, 0⟩

/-- OCC_WOPENc_0–_2, OCC_WCLOSEc_0–_2 — arming window (13). -/
def OCC_WOPEN (i j : Nat) : Nat := 0xB018 + 0x40 * i + 0x4 * j
def OCC_WOPEN.T0_T2 (i j : Nat) : BitRange := ⟨OCC_WOPEN i j, 31, 0⟩

/-- OCC_WOPENc_0–_2, OCC_WCLOSEc_0–_2 — arming window (13). -/
def OCC_WCLOSE (i j : Nat) : Nat := 0xB024 + 0x40 * i + 0x4 * j
def OCC_WCLOSE.T0_T2 (i j : Nat) : BitRange := ⟨OCC_WCLOSE i j, 31, 0⟩

/-- CST_CFG — member configuration (16). -/
def CST_CFG : Nat := 0xC000
def CST_CFG.PTEXP : BitRange := ⟨CST_CFG, 27, 24⟩
def CST_CFG.SERVO : BitRange := ⟨CST_CFG, 20, 16⟩
def CST_CFG.PRIO : BitRange := ⟨CST_CFG, 11, 9⟩
def CST_CFG.CAND : BitRange := ⟨CST_CFG, 8, 8⟩
def CST_CFG.MEMBER : BitRange := ⟨CST_CFG, 6, 4⟩
def CST_CFG.EN : BitRange := ⟨CST_CFG, 0, 0⟩

/-- CST_STAT — constellation status (16). -/
def CST_STAT : Nat := 0xC004
def CST_STAT.PRES : BitRange := ⟨CST_STAT, 31, 24⟩
def CST_STAT.SRCV : BitRange := ⟨CST_STAT, 23, 23⟩
def CST_STAT.SRCM : BitRange := ⟨CST_STAT, 22, 20⟩
def CST_STAT.HOPS : BitRange := ⟨CST_STAT, 19, 17⟩
def CST_STAT.UPX : BitRange := ⟨CST_STAT, 16, 16⟩
def CST_STAT.SCLASS : BitRange := ⟨CST_STAT, 15, 14⟩
def CST_STAT.SPRIO : BitRange := ⟨CST_STAT, 13, 11⟩
def CST_STAT.ISSRC : BitRange := ⟨CST_STAT, 10, 10⟩
def CST_STAT.FOLLOW : BitRange := ⟨CST_STAT, 9, 9⟩

/-- CST_CAND, CST_SERVO — candidate class and servo (16). -/
def CST_CAND : Nat := 0xC008
def CST_CAND.CLASS : BitRange := ⟨CST_CAND, 1, 0⟩

/-- CST_CAND, CST_SERVO — candidate class and servo (16). -/
def CST_SERVO : Nat := 0xC00C
def CST_SERVO.TAU : BitRange := ⟨CST_SERVO, 19, 16⟩
def CST_SERVO.STEPNS : BitRange := ⟨CST_SERVO, 15, 0⟩

/-- CST_LNKCTLx, CST_LNKSTATx — port control and status (16). -/
def CST_LNKCTL (i : Nat) : Nat := 0xC010 + 0x20 * i
def CST_LNKCTL.LEAVE (i : Nat) : BitRange := ⟨CST_LNKCTL i, 1, 1⟩
def CST_LNKCTL.EN (i : Nat) : BitRange := ⟨CST_LNKCTL i, 0, 0⟩

/-- CST_LNKCTLx, CST_LNKSTATx — port control and status (16). -/
def CST_LNKSTAT (i : Nat) : Nat := 0xC014 + 0x20 * i
def CST_LNKSTAT.PEERV (i : Nat) : BitRange := ⟨CST_LNKSTAT i, 27, 27⟩
def CST_LNKSTAT.PEERM (i : Nat) : BitRange := ⟨CST_LNKSTAT i, 26, 24⟩
def CST_LNKSTAT.ASYMERR (i : Nat) : BitRange := ⟨CST_LNKSTAT i, 7, 7⟩
def CST_LNKSTAT.RTTERR (i : Nat) : BitRange := ⟨CST_LNKSTAT i, 6, 6⟩
def CST_LNKSTAT.LOSS (i : Nat) : BitRange := ⟨CST_LNKSTAT i, 5, 5⟩
def CST_LNKSTAT.PLEAVE (i : Nat) : BitRange := ⟨CST_LNKSTAT i, 4, 4⟩
def CST_LNKSTAT.STATE (i : Nat) : BitRange := ⟨CST_LNKSTAT i, 2, 0⟩

/-- CST_ASYMx, CST_OFSx, CST_RTTx, CST_LNKCNTx — link measurement (16). -/
def CST_ASYM (i : Nat) : Nat := 0xC018 + 0x20 * i
def CST_ASYM.ASYM (i : Nat) : BitRange := ⟨CST_ASYM i, 31, 0⟩

/-- CST_ASYMx, CST_OFSx, CST_RTTx, CST_LNKCNTx — link measurement (16). -/
def CST_OFS (i : Nat) : Nat := 0xC01C + 0x20 * i
def CST_OFS.OFS (i : Nat) : BitRange := ⟨CST_OFS i, 31, 0⟩

/-- CST_ASYMx, CST_OFSx, CST_RTTx, CST_LNKCNTx — link measurement (16). -/
def CST_RTT (i : Nat) : Nat := 0xC020 + 0x20 * i
def CST_RTT.RTT (i : Nat) : BitRange := ⟨CST_RTT i, 31, 0⟩

/-- CST_ASYMx, CST_OFSx, CST_RTTx, CST_LNKCNTx — link measurement (16). -/
def CST_LNKCNT (i : Nat) : Nat := 0xC024 + 0x20 * i
def CST_LNKCNT.CRCERR (i : Nat) : BitRange := ⟨CST_LNKCNT i, 31, 16⟩
def CST_LNKCNT.DUP (i : Nat) : BitRange := ⟨CST_LNKCNT i, 15, 8⟩
def CST_LNKCNT.ABANDON (i : Nat) : BitRange := ⟨CST_LNKCNT i, 7, 0⟩

/-- CST_EVOUTi, CST_EVINj — events (16). -/
def CST_EVOUT (i : Nat) : Nat := 0xC080 + 0x4 * i
def CST_EVOUT.EN (i : Nat) : BitRange := ⟨CST_EVOUT i, 8, 8⟩
def CST_EVOUT.LINE (i : Nat) : BitRange := ⟨CST_EVOUT i, 7, 0⟩

/-- CST_EVOUTi, CST_EVINj — events (16). -/
def CST_EVIN (i : Nat) : Nat := 0xC0C0 + 0x4 * i
def CST_EVIN.EN (i : Nat) : BitRange := ⟨CST_EVIN i, 31, 31⟩
def CST_EVIN.MEMBER (i : Nat) : BitRange := ⟨CST_EVIN i, 6, 4⟩
def CST_EVIN.INDEX (i : Nat) : BitRange := ⟨CST_EVIN i, 3, 0⟩

/-- CST_CHIDX, CST_CHCFG, CST_CHSTAT, CST_CHSEQ — channels (16). -/
def CST_CHIDX : Nat := 0xC100
def CST_CHIDX.CH : BitRange := ⟨CST_CHIDX, 5, 0⟩

/-- CST_CHIDX, CST_CHCFG, CST_CHSTAT, CST_CHSEQ — channels (16). -/
def CST_CHCFG (i : Nat) : Nat := 0x10E0004 + 0x10 * i
def CST_CHCFG.EN (i : Nat) : BitRange := ⟨CST_CHCFG i, 31, 31⟩
def CST_CHCFG.ROUTE (i : Nat) : BitRange := ⟨CST_CHCFG i, 30, 29⟩
def CST_CHCFG.PEER (i : Nat) : BitRange := ⟨CST_CHCFG i, 28, 26⟩
def CST_CHCFG.RCH (i : Nat) : BitRange := ⟨CST_CHCFG i, 25, 20⟩
def CST_CHCFG.POOL (i : Nat) : BitRange := ⟨CST_CHCFG i, 19, 15⟩
def CST_CHCFG.OWNER (i : Nat) : BitRange := ⟨CST_CHCFG i, 14, 10⟩
def CST_CHCFG.QUEUE (i : Nat) : BitRange := ⟨CST_CHCFG i, 9, 0⟩

/-- CST_CHIDX, CST_CHCFG, CST_CHSTAT, CST_CHSEQ — channels (16). -/
def CST_CHSTAT (i : Nat) : Nat := 0x10E0008 + 0x10 * i
def CST_CHSTAT.CSEQ (i : Nat) : BitRange := ⟨CST_CHSTAT i, 15, 0⟩

/-- CST_CHIDX, CST_CHCFG, CST_CHSTAT, CST_CHSEQ — channels (16). -/
def CST_CHSEQ (i : Nat) : Nat := 0x10E000C + 0x10 * i
def CST_CHSEQ.SEQ (i : Nat) : BitRange := ⟨CST_CHSEQ i, 31, 0⟩

/-- EYE_CTL — run control (19). -/
def EYE_CTL : Nat := 0xD000
def EYE_CTL.RSTHALT : BitRange := ⟨EYE_CTL, 8, 8⟩
def EYE_CTL.STEPMASK : BitRange := ⟨EYE_CTL, 7, 7⟩
def EYE_CTL.LIVE : BitRange := ⟨EYE_CTL, 5, 5⟩
def EYE_CTL.STEP : BitRange := ⟨EYE_CTL, 4, 4⟩
def EYE_CTL.RESUME : BitRange := ⟨EYE_CTL, 3, 3⟩
def EYE_CTL.HALT_NOW : BitRange := ⟨EYE_CTL, 2, 2⟩
def EYE_CTL.HALT : BitRange := ⟨EYE_CTL, 1, 1⟩

/-- EYE_STAT — Eyepiece status (19). -/
def EYE_STAT : Nat := 0xD004
def EYE_STAT.SESS : BitRange := ⟨EYE_STAT, 31, 31⟩
def EYE_STAT.IFCPWR : BitRange := ⟨EYE_STAT, 30, 30⟩
def EYE_STAT.STEPPING : BitRange := ⟨EYE_STAT, 29, 29⟩
def EYE_STAT.EDEFER : BitRange := ⟨EYE_STAT, 23, 12⟩
def EYE_STAT.EHALT : BitRange := ⟨EYE_STAT, 11, 0⟩

/-- EYE_FREEZE — unit freezes (19). -/
def EYE_FREEZE : Nat := 0xD008
def EYE_FREEZE.ASST : BitRange := ⟨EYE_FREEZE, 1, 1⟩
def EYE_FREEZE.SERVO : BitRange := ⟨EYE_FREEZE, 0, 0⟩

/-- EYE_SESS, EYE_NONCE0, EYE_NONCE1 — session (19). -/
def EYE_SESS : Nat := 0xD00C
def EYE_SESS.REMAIN : BitRange := ⟨EYE_SESS, 31, 16⟩
def EYE_SESS.RIGHTS : BitRange := ⟨EYE_SESS, 15, 0⟩

/-- EYE_SESS, EYE_NONCE0, EYE_NONCE1 — session (19). -/
def EYE_NONCE0 : Nat := 0xD010
def EYE_NONCE0.NLO : BitRange := ⟨EYE_NONCE0, 31, 0⟩

/-- EYE_SESS, EYE_NONCE0, EYE_NONCE1 — session (19). -/
def EYE_NONCE1 : Nat := 0xD014
def EYE_NONCE1.NHI : BitRange := ⟨EYE_NONCE1, 31, 0⟩

/-- EYE_ESEL, EYE_VSEL, EYE_XTRIG, EYE_BRKEN — selection and triggers (19). -/
def EYE_ESEL : Nat := 0xD020
def EYE_ESEL.ENG : BitRange := ⟨EYE_ESEL, 11, 0⟩

/-- EYE_ESEL, EYE_VSEL, EYE_XTRIG, EYE_BRKEN — selection and triggers (19). -/
def EYE_VSEL : Nat := 0xD024
def EYE_VSEL.VRN : BitRange := ⟨EYE_VSEL, 23, 0⟩

/-- EYE_ESEL, EYE_VSEL, EYE_XTRIG, EYE_BRKEN — selection and triggers (19). -/
def EYE_XTRIG : Nat := 0xD028
def EYE_XTRIG.VGRP : BitRange := ⟨EYE_XTRIG, 14, 12⟩
def EYE_XTRIG.ENG : BitRange := ⟨EYE_XTRIG, 11, 0⟩

/-- EYE_ESEL, EYE_VSEL, EYE_XTRIG, EYE_BRKEN — selection and triggers (19). -/
def EYE_BRKEN : Nat := 0xD02C
def EYE_BRKEN.XT : BitRange := ⟨EYE_BRKEN, 12, 12⟩
def EYE_BRKEN.ENG : BitRange := ⟨EYE_BRKEN, 11, 0⟩

/-- EYE_EIDX, EYE_EDATA — engine state access (19). -/
def EYE_EIDX : Nat := 0xD030
def EYE_EIDX.ITEM : BitRange := ⟨EYE_EIDX, 13, 8⟩
def EYE_EIDX.LVL : BitRange := ⟨EYE_EIDX, 6, 4⟩
def EYE_EIDX.ENG : BitRange := ⟨EYE_EIDX, 3, 0⟩

/-- EYE_EIDX, EYE_EDATA — engine state access (19). -/
def EYE_EDATA : Nat := 0xD034
def EYE_EDATA.DATA : BitRange := ⟨EYE_EDATA, 31, 0⟩

/-- EYE_MCTL, EYE_MADDR, EYE_MDATA0, EYE_MDATA1 — Eyepiece master (19). -/
def EYE_MCTL : Nat := 0xD040
def EYE_MCTL.PBUSY : BitRange := ⟨EYE_MCTL, 11, 11⟩
def EYE_MCTL.DENY : BitRange := ⟨EYE_MCTL, 10, 10⟩
def EYE_MCTL.ERR : BitRange := ⟨EYE_MCTL, 9, 9⟩
def EYE_MCTL.DONE : BitRange := ⟨EYE_MCTL, 8, 8⟩
def EYE_MCTL.W64 : BitRange := ⟨EYE_MCTL, 4, 4⟩
def EYE_MCTL.EXT : BitRange := ⟨EYE_MCTL, 3, 3⟩
def EYE_MCTL.WR : BitRange := ⟨EYE_MCTL, 2, 2⟩
def EYE_MCTL.CANCEL : BitRange := ⟨EYE_MCTL, 1, 1⟩
def EYE_MCTL.GO : BitRange := ⟨EYE_MCTL, 0, 0⟩

/-- EYE_MCTL, EYE_MADDR, EYE_MDATA0, EYE_MDATA1 — Eyepiece master (19). -/
def EYE_MADDR : Nat := 0xD044
def EYE_MADDR.ADDR : BitRange := ⟨EYE_MADDR, 31, 0⟩

/-- EYE_MCTL, EYE_MADDR, EYE_MDATA0, EYE_MDATA1 — Eyepiece master (19). -/
def EYE_MDATA0 : Nat := 0xD048
def EYE_MDATA0.DLO : BitRange := ⟨EYE_MDATA0, 31, 0⟩

/-- EYE_MCTL, EYE_MADDR, EYE_MDATA0, EYE_MDATA1 — Eyepiece master (19). -/
def EYE_MDATA1 : Nat := 0xD04C
def EYE_MDATA1.DHI : BitRange := ⟨EYE_MDATA1, 31, 0⟩

/-- ENG_CTL — engine control (04). -/
def ENG_CTL (i : Nat) : Nat := 0x10000 + 0x4000 * i
def ENG_CTL.LTRAP (i : Nat) : BitRange := ⟨ENG_CTL i, 11, 8⟩
def ENG_CTL.FCLR (i : Nat) : BitRange := ⟨ENG_CTL i, 3, 3⟩
def ENG_CTL.PRECISE (i : Nat) : BitRange := ⟨ENG_CTL i, 2, 2⟩
def ENG_CTL.FORCE (i : Nat) : BitRange := ⟨ENG_CTL i, 1, 1⟩
def ENG_CTL.RUN (i : Nat) : BitRange := ⟨ENG_CTL i, 0, 0⟩

/-- ENG_STAT — engine status (04). -/
def ENG_STAT (i : Nat) : Nat := 0x10004 + 0x4000 * i
def ENG_STAT.BANKS (i : Nat) : BitRange := ⟨ENG_STAT i, 25, 21⟩
def ENG_STAT.BULKOUT (i : Nat) : BitRange := ⟨ENG_STAT i, 20, 16⟩
def ENG_STAT.LENSBUSY (i : Nat) : BitRange := ⟨ENG_STAT i, 15, 15⟩
def ENG_STAT.LOCKLOST (i : Nat) : BitRange := ⟨ENG_STAT i, 14, 14⟩
def ENG_STAT.LOCKCNT (i : Nat) : BitRange := ⟨ENG_STAT i, 13, 8⟩
def ENG_STAT.LOCK (i : Nat) : BitRange := ⟨ENG_STAT i, 7, 7⟩
def ENG_STAT.STALL (i : Nat) : BitRange := ⟨ENG_STAT i, 6, 6⟩
def ENG_STAT.LEVEL (i : Nat) : BitRange := ⟨ENG_STAT i, 5, 3⟩
def ENG_STAT.STATE (i : Nat) : BitRange := ⟨ENG_STAT i, 2, 0⟩

/-- ENG_UPC — current microaddress (04). -/
def ENG_UPC (i : Nat) : Nat := 0x10008 + 0x4000 * i
def ENG_UPC.UPC (i : Nat) : BitRange := ⟨ENG_UPC i, 12, 0⟩

/-- ENG_FAULT — last fault (04). -/
def ENG_FAULT (i : Nat) : Nat := 0x1000C + 0x4000 * i
def ENG_FAULT.LEVEL (i : Nat) : BitRange := ⟨ENG_FAULT i, 31, 29⟩
def ENG_FAULT.UPC (i : Nat) : BitRange := ⟨ENG_FAULT i, 28, 16⟩
def ENG_FAULT.GROUP (i : Nat) : BitRange := ⟨ENG_FAULT i, 15, 8⟩
def ENG_FAULT.CODE (i : Nat) : BitRange := ⟨ENG_FAULT i, 7, 0⟩

/-- ENG_BULK — bulk tags (04). -/
def ENG_BULK (i : Nat) : Nat := 0x10010 + 0x4000 * i
def ENG_BULK.TAGERR (i : Nat) : BitRange := ⟨ENG_BULK i, 31, 16⟩
def ENG_BULK.TAGBUSY (i : Nat) : BitRange := ⟨ENG_BULK i, 15, 0⟩

/-- WCS_ADDR — control store address (04). -/
def WCS_ADDR (i : Nat) : Nat := 0x10020 + 0x4000 * i
def WCS_ADDR.PERR (i : Nat) : BitRange := ⟨WCS_ADDR i, 31, 31⟩
def WCS_ADDR.PINJ (i : Nat) : BitRange := ⟨WCS_ADDR i, 30, 30⟩
def WCS_ADDR.AINC (i : Nat) : BitRange := ⟨WCS_ADDR i, 29, 29⟩
def WCS_ADDR.ADDR (i : Nat) : BitRange := ⟨WCS_ADDR i, 12, 0⟩

/-- WCS_D0–WCS_D4 — control store data (04). -/
def WCS_D (i j : Nat) : Nat := 0x10024 + 0x4000 * i + 0x4 * j
def WCS_D.DATA (i j : Nat) : BitRange := ⟨WCS_D i j, 31, 0⟩

/-- ENG_PRI — level and dispatch control (06). -/
def ENG_PRI (i : Nat) : Nat := 0x10040 + 0x4000 * i
def ENG_PRI.LEVEL (i : Nat) : BitRange := ⟨ENG_PRI i, 26, 24⟩
def ENG_PRI.PENDLVL (i : Nat) : BitRange := ⟨ENG_PRI i, 23, 20⟩
def ENG_PRI.GMASK (i : Nat) : BitRange := ⟨ENG_PRI i, 16, 16⟩
def ENG_PRI.INUSE (i : Nat) : BitRange := ⟨ENG_PRI i, 12, 8⟩
def ENG_PRI.LVLEN (i : Nat) : BitRange := ⟨ENG_PRI i, 3, 0⟩

/-- ENG_XCTX — exception context (06). -/
def ENG_XCTX (i : Nat) : Nat := 0x10044 + 0x4000 * i
def ENG_XCTX.FIRST (i : Nat) : BitRange := ⟨ENG_XCTX i, 23, 16⟩
def ENG_XCTX.CAUSE (i : Nat) : BitRange := ⟨ENG_XCTX i, 15, 8⟩
def ENG_XCTX.LHT (i : Nat) : BitRange := ⟨ENG_XCTX i, 7, 7⟩
def ENG_XCTX.ILVL (i : Nat) : BitRange := ⟨ENG_XCTX i, 2, 0⟩

/-- ENG_LENS — Lens ownership (06). -/
def ENG_LENS (i : Nat) : Nat := 0x10048 + 0x4000 * i
def ENG_LENS.LSTAT (i : Nat) : BitRange := ⟨ENG_LENS i, 27, 24⟩
def ENG_LENS.SAVED (i : Nat) : BitRange := ⟨ENG_LENS i, 20, 16⟩
def ENG_LENS.LAZY (i : Nat) : BitRange := ⟨ENG_LENS i, 8, 8⟩
def ENG_LENS.OWN (i : Nat) : BitRange := ⟨ENG_LENS i, 2, 0⟩

/-- ENG_PROG0–ENG_PROG4 — resumable progress (06). -/
def ENG_PROG (i j : Nat) : Nat := 0x10050 + 0x4000 * i + 0x4 * j
def ENG_PROG.UPC (i j : Nat) : BitRange := ⟨ENG_PROG i j, 31, 19⟩
def ENG_PROG.TAG (i j : Nat) : BitRange := ⟨ENG_PROG i j, 18, 16⟩
def ENG_PROG.COUNT (i j : Nat) : BitRange := ⟨ENG_PROG i j, 15, 0⟩

/-- ENG_SAL0–ENG_SAL4 — save-area links (06). -/
def ENG_SAL (i j : Nat) : Nat := 0x10070 + 0x4000 * i + 0x4 * j
def ENG_SAL.ADDR (i j : Nat) : BitRange := ⟨ENG_SAL i j, 22, 0⟩

/-- ENG_RESUME0–ENG_RESUME3 — resume microaddresses (06). -/
def ENG_RESUME (i j : Nat) : Nat := 0x10090 + 0x4000 * i + 0x4 * j
def ENG_RESUME.UPC (i j : Nat) : BitRange := ⟨ENG_RESUME i j, 12, 0⟩

/-- TMR_CTL0–TMR_CTL3 — timer control and status (07). -/
def TMR_CTL (i j : Nat) : Nat := 0x10100 + 0x4000 * i + 0x20 * j
def TMR_CTL.STALE (i j : Nat) : BitRange := ⟨TMR_CTL i j, 31, 31⟩
def TMR_CTL.ABORT (i j : Nat) : BitRange := ⟨TMR_CTL i j, 30, 30⟩
def TMR_CTL.LATE (i j : Nat) : BitRange := ⟨TMR_CTL i j, 29, 29⟩
def TMR_CTL.OVRF (i j : Nat) : BitRange := ⟨TMR_CTL i j, 28, 28⟩
def TMR_CTL.OVRR (i j : Nat) : BitRange := ⟨TMR_CTL i j, 27, 27⟩
def TMR_CTL.CAPTF (i j : Nat) : BitRange := ⟨TMR_CTL i j, 26, 26⟩
def TMR_CTL.CAPTR (i j : Nat) : BitRange := ⟨TMR_CTL i j, 25, 25⟩
def TMR_CTL.WRAPF (i j : Nat) : BitRange := ⟨TMR_CTL i j, 24, 24⟩
def TMR_CTL.CMPF (i j : Nat) : BitRange := ⟨TMR_CTL i j, 23, 23⟩
def TMR_CTL.PARMED (i j : Nat) : BitRange := ⟨TMR_CTL i j, 22, 22⟩
def TMR_CTL.CNTSRC (i j : Nat) : BitRange := ⟨TMR_CTL i j, 21, 21⟩
def TMR_CTL.PDIS (i j : Nat) : BitRange := ⟨TMR_CTL i j, 20, 20⟩
def TMR_CTL.SCAP (i j : Nat) : BitRange := ⟨TMR_CTL i j, 19, 19⟩
def TMR_CTL.EVSEL (i j : Nat) : BitRange := ⟨TMR_CTL i j, 18, 16⟩
def TMR_CTL.PRE (i j : Nat) : BitRange := ⟨TMR_CTL i j, 15, 12⟩
def TMR_CTL.CEDGE (i j : Nat) : BitRange := ⟨TMR_CTL i j, 11, 10⟩
def TMR_CTL.CFMT (i j : Nat) : BitRange := ⟨TMR_CTL i j, 9, 9⟩
def TMR_CTL.FRZ (i j : Nat) : BitRange := ⟨TMR_CTL i j, 8, 8⟩
def TMR_CTL.START (i j : Nat) : BitRange := ⟨TMR_CTL i j, 5, 4⟩
def TMR_CTL.LINK (i j : Nat) : BitRange := ⟨TMR_CTL i j, 3, 3⟩
def TMR_CTL.ONE (i j : Nat) : BitRange := ⟨TMR_CTL i j, 2, 2⟩
def TMR_CTL.MODE (i j : Nat) : BitRange := ⟨TMR_CTL i j, 1, 1⟩
def TMR_CTL.EN (i j : Nat) : BitRange := ⟨TMR_CTL i j, 0, 0⟩

/-- TMR_RELOAD0–TMR_RELOAD3, TMR_CMP0–TMR_CMP3 — reload and compare buffers (07). -/
def TMR_RELOAD (i j : Nat) : Nat := 0x10104 + 0x4000 * i + 0x20 * j
def TMR_RELOAD.RELOAD (i j : Nat) : BitRange := ⟨TMR_RELOAD i j, 31, 0⟩

/-- TMR_RELOAD0–TMR_RELOAD3, TMR_CMP0–TMR_CMP3 — reload and compare buffers (07). -/
def TMR_CMP (i j : Nat) : Nat := 0x10108 + 0x4000 * i + 0x20 * j
def TMR_CMP.CMP (i j : Nat) : BitRange := ⟨TMR_CMP i j, 31, 0⟩

/-- TMR_CAPR0–TMR_CAPR3, TMR_CAPF0–TMR_CAPF3 — edge captures (07). -/
def TMR_CAPR (i j : Nat) : Nat := 0x1010C + 0x4000 * i + 0x20 * j
def TMR_CAPR.CAP (i j : Nat) : BitRange := ⟨TMR_CAPR i j, 31, 0⟩

/-- TMR_CAPR0–TMR_CAPR3, TMR_CAPF0–TMR_CAPF3 — edge captures (07). -/
def TMR_CAPF (i j : Nat) : Nat := 0x10110 + 0x4000 * i + 0x20 * j
def TMR_CAPF.CAP (i j : Nat) : BitRange := ⟨TMR_CAPF i j, 31, 0⟩

/-- TMR_CNT0–TMR_CNT3 — latched count (07). -/
def TMR_CNT (i j : Nat) : Nat := 0x10114 + 0x4000 * i + 0x20 * j
def TMR_CNT.CNT (i j : Nat) : BitRange := ⟨TMR_CNT i j, 31, 0⟩

/-- TMR_IO0–TMR_IO3 — timer pins and sources (07). -/
def TMR_IO (i j : Nat) : Nat := 0x10118 + 0x4000 * i + 0x20 * j
def TMR_IO.SALM (i j : Nat) : BitRange := ⟨TMR_IO i j, 31, 27⟩
def TMR_IO.TRK (i j : Nat) : BitRange := ⟨TMR_IO i j, 26, 25⟩
def TMR_IO.WACT (i j : Nat) : BitRange := ⟨TMR_IO i j, 24, 23⟩
def TMR_IO.OACT (i j : Nat) : BitRange := ⟨TMR_IO i j, 22, 21⟩
def TMR_IO.OEN (i j : Nat) : BitRange := ⟨TMR_IO i j, 20, 20⟩
def TMR_IO.OPIN (i j : Nat) : BitRange := ⟨TMR_IO i j, 19, 14⟩
def TMR_IO.IEN (i j : Nat) : BitRange := ⟨TMR_IO i j, 13, 13⟩
def TMR_IO.IPIN (i j : Nat) : BitRange := ⟨TMR_IO i j, 12, 7⟩

/-- TMR_WDCTL — watchdog control (07). -/
def TMR_WDCTL (i : Nat) : Nat := 0x10180 + 0x4000 * i
def TMR_WDCTL.ECNT (i : Nat) : BitRange := ⟨TMR_WDCTL i, 31, 24⟩
def TMR_WDCTL.EXP (i : Nat) : BitRange := ⟨TMR_WDCTL i, 3, 3⟩
def TMR_WDCTL.IDLE (i : Nat) : BitRange := ⟨TMR_WDCTL i, 2, 2⟩
def TMR_WDCTL.FRZ (i : Nat) : BitRange := ⟨TMR_WDCTL i, 1, 1⟩
def TMR_WDCTL.EN (i : Nat) : BitRange := ⟨TMR_WDCTL i, 0, 0⟩

/-- TMR_WDPER — watchdog period (07). -/
def TMR_WDPER (i : Nat) : Nat := 0x10184 + 0x4000 * i
def TMR_WDPER.PER (i : Nat) : BitRange := ⟨TMR_WDPER i, 23, 0⟩

/-- TMR_WDKICK — watchdog kick (07). -/
def TMR_WDKICK (i : Nat) : Nat := 0x10188 + 0x4000 * i
def TMR_WDKICK.KEY (i : Nat) : BitRange := ⟨TMR_WDKICK i, 31, 0⟩

/-- CAP_IDX — capability slot index (09). -/
def CAP_IDX (i : Nat) : Nat := 0x10200 + 0x4000 * i
def CAP_IDX.SLOT (i : Nat) : BitRange := ⟨CAP_IDX i, 4, 0⟩

/-- CAP_W0–CAP_W3 — capability words (09). -/
def CAP_W (i j l : Nat) : Nat := 0x1020000 + 0x400 * i + 0x10 * j + 0x4 * l
def CAP_W.DATA (i j l : Nat) : BitRange := ⟨CAP_W i j l, 31, 0⟩

/-- CAP_VIOL — last capability violation (09). -/
def CAP_VIOL (i : Nat) : Nat := 0x10220 + 0x4000 * i
def CAP_VIOL.VALID (i : Nat) : BitRange := ⟨CAP_VIOL i, 31, 31⟩
def CAP_VIOL.CAPR (i : Nat) : BitRange := ⟨CAP_VIOL i, 19, 16⟩
def CAP_VIOL.FIELD (i : Nat) : BitRange := ⟨CAP_VIOL i, 11, 8⟩
def CAP_VIOL.REASON (i : Nat) : BitRange := ⟨CAP_VIOL i, 7, 0⟩

/-- CAP_XBASE, CAP_XLEN — bulk window (09). -/
def CAP_XBASE (i : Nat) : Nat := 0x10230 + 0x4000 * i
def CAP_XBASE.BASE (i : Nat) : BitRange := ⟨CAP_XBASE i, 31, 0⟩

/-- CAP_XBASE, CAP_XLEN — bulk window (09). -/
def CAP_XLEN (i : Nat) : Nat := 0x10234 + 0x4000 * i
def CAP_XLEN.LEN (i : Nat) : BitRange := ⟨CAP_XLEN i, 31, 0⟩

/-- ENG_DCMPk_CTL, ENG_DCMPk_A, ENG_DCMPk_B, ENG_DCMPk_CNT — debug comparators (19). -/
def ENG_DCMP_CTL (i j : Nat) : Nat := 0x10300 + 0x4000 * i + 0x10 * j
def ENG_DCMP_CTL.HIT (i j : Nat) : BitRange := ⟨ENG_DCMP_CTL i j, 12, 12⟩
def ENG_DCMP_CTL.ACT (i j : Nat) : BitRange := ⟨ENG_DCMP_CTL i j, 11, 10⟩
def ENG_DCMP_CTL.CHAIN (i j : Nat) : BitRange := ⟨ENG_DCMP_CTL i j, 9, 9⟩
def ENG_DCMP_CTL.LVLM (i j : Nat) : BitRange := ⟨ENG_DCMP_CTL i j, 8, 4⟩
def ENG_DCMP_CTL.KIND (i j : Nat) : BitRange := ⟨ENG_DCMP_CTL i j, 3, 0⟩

/-- ENG_DCMPk_CTL, ENG_DCMPk_A, ENG_DCMPk_B, ENG_DCMPk_CNT — debug comparators (19). -/
def ENG_DCMP_A (i j : Nat) : Nat := 0x10304 + 0x4000 * i + 0x10 * j
def ENG_DCMP_A.A (i j : Nat) : BitRange := ⟨ENG_DCMP_A i j, 31, 0⟩

/-- ENG_DCMPk_CTL, ENG_DCMPk_A, ENG_DCMPk_B, ENG_DCMPk_CNT — debug comparators (19). -/
def ENG_DCMP_B (i j : Nat) : Nat := 0x10308 + 0x4000 * i + 0x10 * j
def ENG_DCMP_B.B (i j : Nat) : BitRange := ⟨ENG_DCMP_B i j, 31, 0⟩

/-- ENG_DCMPk_CTL, ENG_DCMPk_A, ENG_DCMPk_B, ENG_DCMPk_CNT — debug comparators (19). -/
def ENG_DCMP_CNT (i j : Nat) : Nat := 0x1030C + 0x4000 * i + 0x10 * j
def ENG_DCMP_CNT.CNT (i j : Nat) : BitRange := ⟨ENG_DCMP_CNT i j, 31, 0⟩

end Sys2Proof.Machine
end

