-- ==== Sys2Proof/Machine/RegTable.lean ====
section
/-! DEFINITION. The register table: for every register its keys, its reset value, its minimum ring, whether it is logged, and
its access masks (00 R4 to R14), from the register tables of the manual's chapters. -/

namespace Sys2Proof.Machine

/-- One row of the register table: `c1` copies `t1` apart, each of `c2` copies `t2` apart, each of `c3` copies `t3` apart.
`rw`, `w1c`, `rc` are the bits with access RW or RWS, W1C and RC (00 R14); `aon` the bits that only AON reset resets (00 R13). -/
structure RegDesc where
  base : Nat
  c1 : Nat := 1
  t1 : Nat := 4
  c2 : Nat := 1
  t2 : Nat := 4
  c3 : Nat := 1
  t3 : Nat := 4
  reset : Nat := 0
  ring : Nat := 2
  logged : Bool := false
  rw : Nat := 0
  w1c : Nat := 0
  rc : Nat := 0
  aon : Nat := 0
  deriving DecidableEq, Repr

/-- Registers of the block at 0x0. -/
def regsClusterClock : List RegDesc := [
  -- CLU_ID
  { base := 0x0, reset := 0x58530C12, ring := 0 },
  -- CLU_STEP
  { base := 0x4, reset := 0x10320, ring := 0 },
  -- CLU_CTL
  { base := 0x8, logged := true, rw := 0x1, aon := 0x1 },
  -- CLU_STAT
  { base := 0xC, ring := 0 },
  -- CLU_ATTACH
  { base := 0x10, reset := 0x100, w1c := 0xF80800, aon := 0xFFFFFFFF },
  -- CLU_QMAP
  { base := 0x20, c1 := 1, t1 := 0x4, reset := 0x3210, ring := 0, logged := true, rw := 0xFFFF },
  -- CLU_QMAP
  { base := 0x24, c1 := 1, t1 := 0x4, reset := 0x7654, ring := 0, logged := true, rw := 0xFFFF },
  -- CLU_QMAP
  { base := 0x28, c1 := 1, t1 := 0x4, reset := 0xBA98, ring := 0, logged := true, rw := 0xFFFF },
  -- CLK_PLLSTAT
  { base := 0x1000 },
  -- CLK_OSC_TOL
  { base := 0x1004, reset := 0x19000000, logged := true, rw := 0xFFC7FFFF, aon := 0xFFC7FFFF },
  -- CLK_STAT
  { base := 0x1008, rw := 0xFF1B, aon := 0xFF1B },
  -- CLK_SSC
  { base := 0x100C, reset := 0x1E00, logged := true, rw := 0xFF0F },
  -- CLK_PWRCTL
  { base := 0x1010, logged := true, rw := 0xD, aon := 0x8 },
  -- CLK_QUIES
  { base := 0x1014, reset := 0x6403E8, ring := 1, logged := true, rw := 0xFFFFFFFF },
  -- CLK_AONALM
  { base := 0x1018, logged := true, rw := 0xFFFFFFFF, aon := 0xFFFFFFFF }
]

/-- Registers of the block at 0x2000. -/
def regsSecurityLog : List RegDesc := [
  -- SEC_LCS
  { base := 0x2000, reset := 0x1, ring := 0, aon := 0xFFFFFFFF },
  -- SEC_SERIAL0
  { base := 0x2004, ring := 0, aon := 0xFFFFFFFF },
  -- SEC_SERIAL1
  { base := 0x2008, ring := 0, aon := 0xFFFFFFFF },
  -- SEC_TAMPER_POL
  { base := 0x2010, reset := 0x249249, logged := true, rw := 0xFFFFFF, aon := 0xFFFFFFFF },
  -- SEC_ALARM
  { base := 0x2014, w1c := 0xFF, aon := 0xFFFFFFFF },
  -- SEC_MESH
  { base := 0x2018, reset := 0x105, logged := true, rw := 0x30F, aon := 0xFFFFFFFF },
  -- SEC_KHASH
  { base := 0x2020, c1 := 8, t1 := 0x4, ring := 0, aon := 0xFFFFFFFF },
  -- SEC_SLOTIDX
  { base := 0x2040, rw := 0x3F },
  -- SEC_AUTHQ
  { base := 0x2080, c1 := 8, t1 := 0x4, logged := true, rw := 0xBFFFFC3F },
  -- SEC_AUTHSTAT
  { base := 0x20A0, rc := 0xFFFFFFFF },
  -- LOG_CTL
  { base := 0x2800, ring := 0, aon := 0xFFFFFFFF },
  -- LOG_HEAD
  { base := 0x2804, aon := 0xFFFFFFFF },
  -- LOG_TAIL
  { base := 0x2808, rw := 0xFFFFFFFF, aon := 0xFFFFFFFF },
  -- LOG_LOST
  { base := 0x280C, aon := 0xFFFFFFFF },
  -- LOG_BASE
  { base := 0x2810, aon := 0xFFFFFFFF },
  -- LOG_SPILLBASE
  { base := 0x2814, aon := 0xFFFFFFFF },
  -- LOG_SPILLLEN
  { base := 0x2818, aon := 0xFFFFFFFF },
  -- LOG_SPILLWR
  { base := 0x281C, aon := 0xFFFFFFFF },
  -- LOG_SPILLRD
  { base := 0x2820, rw := 0xFFFFFFFF, aon := 0xFFFFFFFF }
]

/-- Registers of the block at 0x3000. -/
def regsChart : List RegDesc := [
  -- CHT_STAT
  { base := 0x3000 },
  -- CHT_ID
  { base := 0x3004 },
  -- CHT_VER
  { base := 0x3008 },
  -- CHT_SRC
  { base := 0x300C, logged := true, rw := 0x3, aon := 0x3 },
  -- CHT_SRCADDR
  { base := 0x3010, logged := true, rw := 0xFFFFFFFF, aon := 0xFFFFFFFF },
  -- CHT_SRCLEN
  { base := 0x3014, logged := true, rw := 0xFFFFFFFF, aon := 0xFFFFFFFF },
  -- CHT_FAIL
  { base := 0x3018 },
  -- CHT_HASH
  { base := 0x3020, c1 := 8, t1 := 0x4 },
  -- ADM_STAT
  { base := 0x3100 },
  -- ADM_VTIME
  { base := 0x3104 },
  -- ADM_FIDX
  { base := 0x3108, rw := 0xFFF }
]

/-- Registers of the block at 0x4000. -/
def regsRegulator : List RegDesc := [
  -- RGL_CTL
  { base := 0x4000, reset := 0x1002, ring := 0, logged := true, rw := 0xFF07 },
  -- RGL_STAT
  { base := 0x4004, w1c := 0xEC },
  -- RGL_QUAL
  { base := 0x4008, logged := true, rw := 0xFF07 },
  -- RGL_SRV_OWN
  { base := 0x400C, ring := 0, logged := true, rw := 0x1F },
  -- RGL_SNAP_CMD
  { base := 0x4010 },
  -- RGL_SNAP0
  { base := 0x4014, ring := 0 },
  -- RGL_SNAP1
  { base := 0x4018, ring := 0 },
  -- RGL_SNAP2
  { base := 0x401C, ring := 0 },
  -- RGL_SNAP_REM0
  { base := 0x4020, ring := 0 },
  -- RGL_SNAP_REM1
  { base := 0x4024, ring := 0 },
  -- RGL_RATE
  { base := 0x4030, rw := 0xFFFFFFFF },
  -- RGL_SLEW
  { base := 0x4034, reset := 0x1F4, logged := true, rw := 0x1FF },
  -- RGL_STEP_SEC
  { base := 0x4038, rw := 0xFFFFFFFF },
  -- RGL_STEP_FRAC
  { base := 0x403C, rw := 0xFFFF },
  -- RGL_STEP
  { base := 0x4040, logged := true },
  -- RGL_UTC
  { base := 0x4044, logged := true, rw := 0x3FFFF },
  -- RGL_TEMP
  { base := 0x4048, ring := 0 },
  -- RGL_PINCAL_IDX
  { base := 0x4050, rw := 0x7F },
  -- RGL_ALM_CTL
  { base := 0x4200, c1 := 32, t1 := 0x10, rw := 0x7, w1c := 0x38 },
  -- RGL_ALM_T0
  { base := 0x4204, c1 := 32, t1 := 0x10, rw := 0xFFFFFFFF },
  -- RGL_ALM_T1
  { base := 0x4208, c1 := 32, t1 := 0x10, rw := 0xFFFFFFFF },
  -- RGL_ALM_T2
  { base := 0x420C, c1 := 32, t1 := 0x10, rw := 0xFFFFFFFF }
]

/-- Registers of the block at 0x5000. -/
def regsClockDrive : List RegDesc := [
  -- CDR_STAT
  { base := 0x5000, w1c := 0x3 },
  -- CDR_EVSRC
  { base := 0x5004, w1c := 0xFFFFFF },
  -- CDR_SNAP_CMD
  { base := 0x5010 },
  -- CDR_SNAP_T0
  { base := 0x5014, ring := 0 },
  -- CDR_SNAP_T1
  { base := 0x5018, ring := 0 },
  -- CDR_SNAP_T2
  { base := 0x501C, ring := 0 },
  -- CDR_PHASE
  { base := 0x5020, c1 := 4, t1 := 0x8, ring := 0 },
  -- CDR_CYCLE
  { base := 0x5024, c1 := 4, t1 := 0x8, ring := 0 },
  -- CDR_FREQ
  { base := 0x5040, c1 := 4, t1 := 0x4, ring := 0 },
  -- CDR_ROCOF
  { base := 0x5050, c1 := 4, t1 := 0x4, ring := 0 },
  -- CDR_EPH_OWN
  { base := 0x5060, ring := 0, logged := true, rw := 0xFF },
  -- CDR_EPH_IDX
  { base := 0x5064, rw := 0xFF },
  -- CDR_PT_CTL
  { base := 0x5100, c1 := 4, t1 := 0x40, ring := 0, logged := true, rw := 0x1 },
  -- CDR_PT_STAT
  { base := 0x5104, c1 := 4, t1 := 0x40, w1c := 0x70 },
  -- CDR_PT_CFG
  { base := 0x5108, c1 := 4, t1 := 0x40, reset := 0xA00A100, ring := 0, logged := true, rw := 0xFF01F300 },
  -- CDR_PT_SRC
  { base := 0x510C, c1 := 4, t1 := 0x40, ring := 0, logged := true, rw := 0xFFBFF000 },
  -- CDR_PT_DLY
  { base := 0x5110, c1 := 4, t1 := 0x40, ring := 0, logged := true, rw := 0xFFFFFFFF },
  -- CDR_PT_OFS
  { base := 0x5114, c1 := 4, t1 := 0x40, ring := 0, logged := true, rw := 0xFFFFFFFF },
  -- CDR_PT_CYCINIT
  { base := 0x5118, c1 := 4, t1 := 0x40, ring := 0, logged := true, rw := 0xFFFFFFFF },
  -- CDR_PCAP_STAT
  { base := 0x511C, c1 := 4, t1 := 0x40, ring := 0, rw := 0x1F0004, w1c := 0x2 },
  -- CDR_PCAP_FRAC
  { base := 0x5120, c1 := 4, t1 := 0x40, ring := 0 },
  -- CDR_PCAP_CYC
  { base := 0x5124, c1 := 4, t1 := 0x40, ring := 0 },
  -- CDR_PALM_CTL
  { base := 0x5200, c1 := 16, t1 := 0x10, rw := 0xF807, w1c := 0xF8 },
  -- CDR_PALM_CYC
  { base := 0x5204, c1 := 16, t1 := 0x10, rw := 0xFFFFFFFF },
  -- CDR_PALM_FRAC
  { base := 0x5208, c1 := 16, t1 := 0x10, rw := 0xFFFFFFFF },
  -- CDR_PALM_PER
  { base := 0x520C, c1 := 16, t1 := 0x10, rw := 0xFFFFFFFF }
]

/-- Registers of the block at 0x6000. -/
def regsEvent : List RegDesc := [
  -- EVC_DOOR
  { base := 0x6000 },
  -- EVC_IRQEN
  { base := 0x6004, logged := true, rw := 0xF },
  -- EVC_IRQSTAT
  { base := 0x6008 },
  -- EVC_WAKEEN0
  { base := 0x6010, ring := 0, logged := true, rw := 0xFFFFFFFF },
  -- EVC_WAKEEN1
  { base := 0x6014, ring := 0, logged := true, rw := 0xFF00FFFF },
  -- EVC_WAKELAT0
  { base := 0x6018, ring := 0, aon := 0xFFFFFFFF },
  -- EVC_WAKELAT1
  { base := 0x601C, ring := 0, aon := 0xFFFFFFFF },
  -- EVC_MASK
  { base := 0x6040, c1 := 8, t1 := 0x4, reset := 0xFFFFFFFF, rw := 0xFFFFFFFF },
  -- EVC_PEND
  { base := 0x6060, c1 := 8, t1 := 0x4, rw := 0xFFFFFFFF },
  -- EVC_COAL
  { base := 0x6080, c1 := 8, t1 := 0x4, w1c := 0xFFFFFFFF },
  -- EVC_ENG
  { base := 0x6100, c1 := 12, t1 := 0x4, reset := 0x10000000, ring := 0, logged := true, rw := 0x1FFFFFFF },
  -- EVC_ROUTE
  { base := 0x6400, c1 := 240, t1 := 0x4, ring := 0, logged := true, rw := 0xFFFFFFF },
  -- EVC_ROUTE
  { base := 0x67C0, c1 := 16, t1 := 0x4, reset := 0x400000, ring := 0, logged := true, rw := 0xFFFFFFF }
]

/-- Registers of the block at 0x7000. -/
def regsAssistant : List RegDesc := [
  -- AST_MBOX_CMD
  { base := 0x7000 },
  -- AST_MBOX_STAT
  { base := 0x7004 },
  -- AST_MBOX_ARG
  { base := 0x7010, c1 := 8, t1 := 0x4, rw := 0xFFFFFFFF },
  -- AST_STAT
  { base := 0x7040, reset := 0x1 },
  -- AST_FPOL
  { base := 0x7044, reset := 0x40005E, ring := 1, logged := true, rw := 0x4E08F6 },
  -- AST_CVLIM
  { base := 0x7048, reset := 0x10, ring := 1, logged := true, rw := 0xFF },
  -- AST_CUTTO
  { base := 0x704C, reset := 0x3E8, ring := 1, logged := true, rw := 0xFFFF },
  -- AST_ENGMAP0
  { base := 0x7050, reset := 0x76543210, ring := 0, logged := true, rw := 0xFFFFFFFF },
  -- AST_ENGMAP1
  { base := 0x7054, reset := 0xBA98, ring := 0, logged := true, rw := 0xFFFF },
  -- AST_ENGROLE
  { base := 0x7058, ring := 0, rw := 0xFFFFFF },
  -- AST_OTIDX
  { base := 0x7060, rw := 0xFFF },
  -- SHT_STAT
  { base := 0x7100, logged := true, w1c := 0x80000000 },
  -- SHT_DRAIN
  { base := 0x7104, reset := 0x3E8, ring := 1, logged := true, rw := 0xFFFF }
]

/-- Registers of the block at 0x8000. -/
def regsQueue : List RegDesc := [
  -- QM_BMSTAT
  { base := 0x8008, w1c := 0x1 },
  -- QM_QIDX
  { base := 0x8010, rw := 0x3FF },
  -- QM_QCMD
  { base := 0x8030 },
  -- QM_QARG
  { base := 0x8034, rw := 0x7FFFFF },
  -- QM_QRES
  { base := 0x8038 },
  -- QM_PIDX
  { base := 0x8040, rw := 0x1F },
  -- PLT_MODE
  { base := 0x8300, reset := 0x1, ring := 0 },
  -- PLT_ECCSTAT
  { base := 0x8304, w1c := 0xC0000000, rc := 0xFFFF },
  -- PLT_ECCADDR
  { base := 0x8308 },
  -- PLT_SCRUB
  { base := 0x830C, ring := 0, logged := true, rw := 0xFFFF },
  -- PLT_OWN
  { base := 0x8400, c1 := 4, t1 := 0x4, reset := 0x4, ring := 1, logged := true, rw := 0x1F },
  -- PLT_OWN
  { base := 0x8410, c1 := 92, t1 := 0x4, ring := 1, logged := true, rw := 0x1F }
]

/-- Registers of the block at 0x9000. -/
def regsFramePort : List RegDesc := [
  -- FPT_CTL
  { base := 0x9000, c1 := 8, t1 := 0x100, reset := 0x1, ring := 0, logged := true, rw := 0xFF1D },
  -- FPT_STAT
  { base := 0x9004, c1 := 8, t1 := 0x100 },
  -- FPT_EVSRC
  { base := 0x9008, c1 := 8, t1 := 0x100, w1c := 0x707FF },
  -- FPT_PHY
  { base := 0x900C, c1 := 8, t1 := 0x100, reset := 0x5, logged := true, rw := 0xFFFFFFC7 },
  -- FPT_PTP
  { base := 0x9010, c1 := 8, t1 := 0x100, ring := 0, logged := true, rw := 0x3FFFFFF },
  -- FPT_LINKDLY
  { base := 0x9014, c1 := 8, t1 := 0x100, logged := true, rw := 0xFFFFFFFF },
  -- FPT_RED
  { base := 0x9018, c1 := 8, t1 := 0x100, ring := 0, logged := true, rw := 0x3F },
  -- FPT_TSQ
  { base := 0x901C, c1 := 8, t1 := 0x100, ring := 0, logged := true, rw := 0xFF0007FF },
  -- FPT_INJ
  { base := 0x9020, c1 := 8, t1 := 0x100, ring := 0, logged := true, rw := 0x7FF },
  -- FPT_FRIDX
  { base := 0x9024, c1 := 8, t1 := 0x100, ring := 0, rw := 0xFF },
  -- FPT_GCTL
  { base := 0x9044, c1 := 8, t1 := 0x100, ring := 0, logged := true, rw := 0x1, w1c := 0x8 },
  -- FPT_GLIST
  { base := 0x9048, c1 := 8, t1 := 0x100, ring := 0, rw := 0x1FFFF },
  -- FPT_GACT
  { base := 0x904C, c1 := 8, t1 := 0x100, ring := 0 },
  -- FPT_GCYC
  { base := 0x9050, c1 := 8, t1 := 0x100, ring := 0, rw := 0xFFFFFFFF },
  -- FPT_GBASE0
  { base := 0x9054, c1 := 8, t1 := 0x100, ring := 0, rw := 0xFFFFFFFF },
  -- FPT_GBASE1
  { base := 0x9058, c1 := 8, t1 := 0x100, ring := 0, rw := 0xFFFFFFFF },
  -- FPT_GBASE2
  { base := 0x905C, c1 := 8, t1 := 0x100, ring := 0, rw := 0xFFFFFFFF },
  -- FPT_GIDX
  { base := 0x9060, c1 := 8, t1 := 0x100, ring := 0, rw := 0xFF },
  -- FPT_FTIDX
  { base := 0x9068, c1 := 8, t1 := 0x100, ring := 0, rw := 0x1FF },
  -- FPT_CLS
  { base := 0x9080, c1 := 8, t1 := 0x100, c2 := 8, t2 := 0x4, ring := 0, logged := true, rw := 0xFF0007FF },
  -- FPT_SWLIM
  { base := 0x90A0, c1 := 8, t1 := 0x100, c2 := 8, t2 := 0x4 },
  -- FPT_RCVIDX
  { base := 0x90C0, c1 := 8, t1 := 0x100, ring := 0, rw := 0x1F },
  -- FPT_MCRES
  { base := 0x90C8, c1 := 8, t1 := 0x100, w1c := 0xFF },
  -- FPT_CNTIDX
  { base := 0x90CC, c1 := 8, t1 := 0x100, rw := 0x1F },
  -- FPT_RGRP
  { base := 0x9800, c1 := 4, t1 := 0x4, reset := 0x190, ring := 0, logged := true, rw := 0xFFFF }
]

/-- Registers of the block at 0xA000. -/
def regsVernier : List RegDesc := [
  -- VRN_CTL
  { base := 0xA000, c1 := 24, t1 := 0x40, ring := 0, logged := true, rw := 0x1F02 },
  -- VRN_STAT
  { base := 0xA004, c1 := 24, t1 := 0x40, w1c := 0x3800 },
  -- VRN_CLK
  { base := 0xA008, c1 := 24, t1 := 0x40, reset := 0x1, ring := 0, logged := true, rw := 0x1FFFF },
  -- VRN_PINS
  { base := 0xA00C, c1 := 24, t1 := 0x40, ring := 0, logged := true, rw := 0xFFFFFFF },
  -- VRN_EVCFG
  { base := 0xA010, c1 := 24, t1 := 0x40, ring := 0, logged := true, rw := 0xFFFFF },
  -- VRN_OSR
  { base := 0xA014, c1 := 24, t1 := 0x40 },
  -- VRN_ISR
  { base := 0xA018, c1 := 24, t1 := 0x40 },
  -- VRN_CNT
  { base := 0xA01C, c1 := 24, t1 := 0x40 },
  -- VRN_GRP
  { base := 0xA600, c1 := 3, t1 := 0x4, ring := 0, logged := true, rw := 0x5F },
  -- VRN_GSTART
  { base := 0xA60C, ring := 0, logged := true },
  -- FLD_CFG
  { base := 0xB800, c1 := 48, t1 := 0x4, reset := 0x80000, ring := 0, logged := true, rw := 0xCF3F07, aon := 0xC0000 },
  -- FLD_IN0
  { base := 0xB900 },
  -- FLD_IN1
  { base := 0xB904 },
  -- FLD_GPOUT0
  { base := 0xB908 },
  -- FLD_GPOUT1
  { base := 0xB90C },
  -- FLD_PPS
  { base := 0xB910, reset := 0x2710, ring := 0, logged := true, rw := 0x800FFFFF },
  -- FLD_PPSOFS
  { base := 0xB914, ring := 0, logged := true, rw := 0x3FFFFFFF },
  -- FLD_PPSCNT
  { base := 0xB918, rc := 0xFFFFFFFF }
]

/-- Registers of the block at 0xB000. -/
def regsOccultation : List RegDesc := [
  -- OCC_CHCTL
  { base := 0xB000, c1 := 3, t1 := 0x40, logged := true, rw := 0x3E },
  -- OCC_CHSTAT
  { base := 0xB004, c1 := 3, t1 := 0x40, w1c := 0x7C0 },
  -- OCC_CHCFG
  { base := 0xB008, c1 := 3, t1 := 0x40, ring := 0, logged := true, rw := 0xFFFFF3FF },
  -- OCC_THR
  { base := 0xB00C, c1 := 3, t1 := 0x40, reset := 0x1000190, ring := 0, logged := true, rw := 0xFFFFFFFF },
  -- OCC_ADCLAT
  { base := 0xB010, c1 := 3, t1 := 0x40, ring := 0, logged := true, rw := 0xFFFFFF },
  -- OCC_CNT
  { base := 0xB014, c1 := 3, t1 := 0x40, rc := 0xFFFFFFFF },
  -- OCC_WOPEN
  { base := 0xB018, c1 := 3, t1 := 0x40, c2 := 3, t2 := 0x4, rw := 0xFFFFFFFF },
  -- OCC_WCLOSE
  { base := 0xB024, c1 := 3, t1 := 0x40, c2 := 3, t2 := 0x4, rw := 0xFFFFFFFF }
]

/-- Registers of the block at 0xC000. -/
def regsConstEye : List RegDesc := [
  -- CST_CFG
  { base := 0xC000, ring := 0, logged := true, rw := 0xF1F0F71 },
  -- CST_STAT
  { base := 0xC004 },
  -- CST_CAND
  { base := 0xC008, reset := 0x3, logged := true, rw := 0x3 },
  -- CST_SERVO
  { base := 0xC00C, reset := 0x403E8, ring := 0, logged := true, rw := 0xFFFFF },
  -- CST_LNKCTL
  { base := 0xC010, c1 := 2, t1 := 0x20, ring := 0, logged := true, rw := 0x1 },
  -- CST_LNKSTAT
  { base := 0xC014, c1 := 2, t1 := 0x20, w1c := 0xF0 },
  -- CST_ASYM
  { base := 0xC018, c1 := 2, t1 := 0x20, ring := 0, logged := true, rw := 0xFFFFFFFF },
  -- CST_OFS
  { base := 0xC01C, c1 := 2, t1 := 0x20 },
  -- CST_RTT
  { base := 0xC020, c1 := 2, t1 := 0x20 },
  -- CST_LNKCNT
  { base := 0xC024, c1 := 2, t1 := 0x20, rc := 0xFFFFFFFF },
  -- CST_EVOUT
  { base := 0xC080, c1 := 16, t1 := 0x4, ring := 0, logged := true, rw := 0x1FF },
  -- CST_EVIN
  { base := 0xC0C0, c1 := 8, t1 := 0x4, ring := 0, logged := true, rw := 0x8000007F },
  -- CST_CHIDX
  { base := 0xC100, rw := 0x3F },
  -- EYE_CTL
  { base := 0xD000, ring := 1, rw := 0x1A0 },
  -- EYE_STAT
  { base := 0xD004, ring := 1 },
  -- EYE_FREEZE
  { base := 0xD008, ring := 1, logged := true, rw := 0x3 },
  -- EYE_SESS
  { base := 0xD00C, ring := 1 },
  -- EYE_NONCE0
  { base := 0xD010, ring := 1 },
  -- EYE_NONCE1
  { base := 0xD014, ring := 1 },
  -- EYE_ESEL
  { base := 0xD020, ring := 1, logged := true, rw := 0xFFF },
  -- EYE_VSEL
  { base := 0xD024, ring := 1, logged := true, rw := 0xFFFFFF },
  -- EYE_XTRIG
  { base := 0xD028, ring := 1, logged := true, rw := 0x7FFF },
  -- EYE_BRKEN
  { base := 0xD02C, ring := 1, logged := true, rw := 0x1FFF },
  -- EYE_EIDX
  { base := 0xD030, ring := 1, rw := 0x3F7F },
  -- EYE_EDATA
  { base := 0xD034, ring := 1, logged := true, rw := 0xFFFFFFFF },
  -- EYE_MCTL
  { base := 0xD040, ring := 1, rw := 0x1C, w1c := 0xE00 },
  -- EYE_MADDR
  { base := 0xD044, ring := 1, rw := 0xFFFFFFFF },
  -- EYE_MDATA0
  { base := 0xD048, ring := 1, rw := 0xFFFFFFFF },
  -- EYE_MDATA1
  { base := 0xD04C, ring := 1, rw := 0xFFFFFFFF }
]

/-- Registers of the block at 0x10000. -/
def regsEngine : List RegDesc := [
  -- ENG_CTL
  { base := 0x10000, c1 := 12, t1 := 0x4000, ring := 0, logged := true, rw := 0xF05 },
  -- ENG_STAT
  { base := 0x10004, c1 := 12, t1 := 0x4000, ring := 0, w1c := 0x4000 },
  -- ENG_UPC
  { base := 0x10008, c1 := 12, t1 := 0x4000, reset := 0x300, ring := 0, logged := true, rw := 0x1FFF },
  -- ENG_FAULT
  { base := 0x1000C, c1 := 12, t1 := 0x4000, ring := 0 },
  -- ENG_BULK
  { base := 0x10010, c1 := 12, t1 := 0x4000, ring := 0, w1c := 0xFFFF0000 },
  -- WCS_ADDR
  { base := 0x10020, c1 := 12, t1 := 0x4000, ring := 1, rw := 0x60001FFF, w1c := 0x80000000 },
  -- WCS_D
  { base := 0x10024, c1 := 12, t1 := 0x4000, c2 := 4, t2 := 0x4, ring := 1, rw := 0xFFFFFFFF },
  { base := 0x10034, c1 := 12, t1 := 0x4000, ring := 1, logged := true, rw := 0xFFFFFFFF },
  -- ENG_PRI
  { base := 0x10040, c1 := 12, t1 := 0x4000, reset := 0xF, ring := 0, logged := true, rw := 0x7011F0F },
  -- ENG_XCTX
  { base := 0x10044, c1 := 12, t1 := 0x4000, reset := 0x7, ring := 0 },
  -- ENG_LENS
  { base := 0x10048, c1 := 12, t1 := 0x4000, reset := 0x7, ring := 0, logged := true, rw := 0x100, w1c := 0xF000000 },
  -- ENG_PROG
  { base := 0x10050, c1 := 12, t1 := 0x4000, c2 := 5, t2 := 0x4, ring := 0 },
  -- ENG_SAL
  { base := 0x10070, c1 := 12, t1 := 0x4000, c2 := 5, t2 := 0x4, ring := 0, logged := true, rw := 0x7FFFFF },
  -- ENG_RESUME
  { base := 0x10090, c1 := 12, t1 := 0x4000, c2 := 4, t2 := 0x4, ring := 0 },
  -- TMR_CTL
  { base := 0x10100, c1 := 12, t1 := 0x4000, c2 := 4, t2 := 0x20, reset := 0x100, rw := 0x7FF3F, w1c := 0x79800000 },
  -- TMR_RELOAD
  { base := 0x10104, c1 := 12, t1 := 0x4000, c2 := 4, t2 := 0x20, ring := 1, rw := 0xFFFFFFFF },
  -- TMR_CMP
  { base := 0x10108, c1 := 12, t1 := 0x4000, c2 := 4, t2 := 0x20, ring := 1, rw := 0xFFFFFFFF },
  -- TMR_CAPR
  { base := 0x1010C, c1 := 12, t1 := 0x4000, c2 := 4, t2 := 0x20, ring := 1 },
  -- TMR_CAPF
  { base := 0x10110, c1 := 12, t1 := 0x4000, c2 := 4, t2 := 0x20, ring := 1 },
  -- TMR_CNT
  { base := 0x10114, c1 := 12, t1 := 0x4000, c2 := 4, t2 := 0x20, ring := 1, rw := 0xFFFFFFFF },
  -- TMR_IO
  { base := 0x10118, c1 := 12, t1 := 0x4000, c2 := 4, t2 := 0x20, ring := 0, logged := true, rw := 0xFFFFFF80 },
  -- TMR_WDCTL
  { base := 0x10180, c1 := 12, t1 := 0x4000, reset := 0x2, ring := 0, logged := true, rw := 0x7, w1c := 0x8 },
  -- TMR_WDPER
  { base := 0x10184, c1 := 12, t1 := 0x4000, reset := 0x8, ring := 0, logged := true, rw := 0xFFFFFF },
  -- TMR_WDKICK
  { base := 0x10188, c1 := 12, t1 := 0x4000, ring := 0 },
  -- CAP_IDX
  { base := 0x10200, c1 := 12, t1 := 0x4000, rw := 0x1F },
  -- CAP_VIOL
  { base := 0x10220, c1 := 12, t1 := 0x4000, ring := 0, w1c := 0x80000000 },
  -- CAP_XBASE
  { base := 0x10230, c1 := 12, t1 := 0x4000, ring := 0, logged := true, rw := 0xFFFFFFFF },
  -- CAP_XLEN
  { base := 0x10234, c1 := 12, t1 := 0x4000, ring := 0, logged := true, rw := 0xFFFFFFFF },
  -- ENG_DCMP_CTL
  { base := 0x10300, c1 := 12, t1 := 0x4000, c2 := 8, t2 := 0x10, ring := 1, logged := true, rw := 0xFFF, w1c := 0x1000 },
  -- ENG_DCMP_A
  { base := 0x10304, c1 := 12, t1 := 0x4000, c2 := 8, t2 := 0x10, ring := 1, rw := 0xFFFFFFFF },
  -- ENG_DCMP_B
  { base := 0x10308, c1 := 12, t1 := 0x4000, c2 := 8, t2 := 0x10, ring := 1, rw := 0xFFFFFFFF },
  -- ENG_DCMP_CNT
  { base := 0x1030C, c1 := 12, t1 := 0x4000, c2 := 8, t2 := 0x10, ring := 1, rc := 0xFFFFFFFF }
]

/-- Registers behind an index register. -/
def regsBanked : List RegDesc := [
  -- SEC_SLOT
  { base := 0x10A0000, c1 := 64, t1 := 0x4, aon := 0xFFFFFFFF },
  -- ADM_FSTATE
  { base := 0x10B0000, c1 := 4096, t1 := 0x8 },
  -- ADM_FBOUND
  { base := 0x10B0004, c1 := 4096, t1 := 0x8, reset := 0xFFFFFFFF },
  -- RGL_PINCAL
  { base := 0x1000000, c1 := 128, t1 := 0x4, ring := 1, logged := true, rw := 0xFFFFF },
  -- CDR_EPH_LO
  { base := 0x1010000, c1 := 256, t1 := 0x8, logged := true, rw := 0xFFFFFFFF },
  -- CDR_EPH_HI
  { base := 0x1010004, c1 := 256, t1 := 0x8, logged := true, rw := 0x30FFFFF },
  -- AST_OT0
  { base := 0x10C0000, c1 := 4096, t1 := 0x20, ring := 0 },
  -- AST_OT1
  { base := 0x10C0004, c1 := 4096, t1 := 0x20, ring := 0 },
  -- AST_OT2
  { base := 0x10C0008, c1 := 4096, t1 := 0x20, ring := 0 },
  -- AST_OT3
  { base := 0x10C000C, c1 := 4096, t1 := 0x20, ring := 0 },
  -- AST_OT4
  { base := 0x10C0010, c1 := 4096, t1 := 0x20, ring := 0 },
  -- AST_OT5
  { base := 0x10C0014, c1 := 4096, t1 := 0x20, ring := 0 },
  -- QM_QRING
  { base := 0x1100014, c1 := 1024, t1 := 0x40, ring := 0, logged := true, rw := 0xF07FFFFF },
  -- QM_QCFG
  { base := 0x1100018, c1 := 1024, t1 := 0x40, ring := 0, logged := true, rw := 0x3F1F1F },
  -- QM_QWM
  { base := 0x110001C, c1 := 1024, t1 := 0x40, ring := 0, logged := true, rw := 0x83FFFFFF },
  -- QM_QSPILL
  { base := 0x1100020, c1 := 1024, t1 := 0x40, ring := 0, logged := true, rw := 0xFFFFFFFF },
  -- QM_QSPLEN
  { base := 0x1100024, c1 := 1024, t1 := 0x40, ring := 0, logged := true, rw := 0x1FFFFF },
  -- QM_QCNT
  { base := 0x1100028, c1 := 1024, t1 := 0x40 },
  -- QM_QSTAT
  { base := 0x110002C, c1 := 1024, t1 := 0x40, w1c := 0x70000, rc := 0xFFFF },
  -- QM_PBASE
  { base := 0x1030000, c1 := 32, t1 := 0x8, ring := 0, logged := true, rw := 0x7FFFFF },
  -- QM_PCFG
  { base := 0x1030004, c1 := 32, t1 := 0x8, ring := 0, logged := true, rw := 0x3FF7FFF },
  -- FPT_FRW0
  { base := 0x1040000, c1 := 8, t1 := 0x2000, c2 := 256, t2 := 0x20, ring := 0, rw := 0xFFFFFFFF },
  -- FPT_FRW1
  { base := 0x1040004, c1 := 8, t1 := 0x2000, c2 := 256, t2 := 0x20, ring := 0, rw := 0xFFFFFFFF },
  -- FPT_FRW2
  { base := 0x1040008, c1 := 8, t1 := 0x2000, c2 := 256, t2 := 0x20, ring := 0, rw := 0xFFFFFFFF },
  -- FPT_FRW3
  { base := 0x104000C, c1 := 8, t1 := 0x2000, c2 := 256, t2 := 0x20, ring := 0, rw := 0xFFFFFFFF },
  -- FPT_FRW4
  { base := 0x1040010, c1 := 8, t1 := 0x2000, c2 := 256, t2 := 0x20, ring := 0, rw := 0x3FFFFFFF },
  -- FPT_FRW5
  { base := 0x1040014, c1 := 8, t1 := 0x2000, c2 := 256, t2 := 0x20, ring := 0, rw := 0xFFFFFFFF },
  -- FPT_FRW6
  { base := 0x1040018, c1 := 8, t1 := 0x2000, c2 := 256, t2 := 0x20, ring := 0, logged := true, rw := 0x3F },
  -- FPT_GENT
  { base := 0x1060000, c1 := 8, t1 := 0x400, c2 := 256, t2 := 0x4, ring := 0, logged := true, rw := 0xFFFFFFFF },
  -- FPT_FTW0
  { base := 0x1070000, c1 := 8, t1 := 0x2000, c2 := 512, t2 := 0x10, ring := 0, rw := 0x7FFF },
  -- FPT_FTW1
  { base := 0x1070004, c1 := 8, t1 := 0x2000, c2 := 512, t2 := 0x10, ring := 0, rw := 0xFFFFFFFF },
  -- FPT_FTW2
  { base := 0x1070008, c1 := 8, t1 := 0x2000, c2 := 512, t2 := 0x10, ring := 0, rw := 0xFFFFFF },
  -- FPT_FTW3
  { base := 0x107000C, c1 := 8, t1 := 0x2000, c2 := 512, t2 := 0x10, ring := 0, logged := true, rw := 0xFFFFFF },
  -- FPT_RCVCFG
  { base := 0x1080000, c1 := 8, t1 := 0x100, c2 := 32, t2 := 0x4, ring := 0, logged := true, rw := 0xFFFFFF },
  -- FPT_CNT
  { base := 0x1090000, c1 := 8, t1 := 0x100, c2 := 32, t2 := 0x4, rc := 0xFFFFFFFF },
  -- VRN_IMEM
  { base := 0x1200000, c1 := 24, t1 := 0x80, c2 := 32, t2 := 0x4, ring := 1, logged := true, rw := 0xFFFF },
  -- CST_CHCFG
  { base := 0x10E0004, c1 := 64, t1 := 0x10, ring := 0, logged := true, rw := 0xFFFF83FF },
  -- CST_CHSTAT
  { base := 0x10E0008, c1 := 64, t1 := 0x10 },
  -- CST_CHSEQ
  { base := 0x10E000C, c1 := 64, t1 := 0x10 },
  -- CAP_W, words 0 to 2
  { base := 0x1020000, c1 := 12, t1 := 0x400, c2 := 17, t2 := 0x10, c3 := 3, t3 := 0x4, ring := 0, rw := 0xFFFFFFFF },
  -- CAP_W, word 3
  { base := 0x102000C, c1 := 12, t1 := 0x400, c2 := 17, t2 := 0x10, ring := 0, logged := true, rw := 0xFFFFFFFF }
]

/-- The whole table, block by block. -/
def regTable : List (List RegDesc) := [regsClusterClock, regsSecurityLog, regsChart, regsRegulator, regsClockDrive, regsEvent, regsAssistant, regsQueue, regsFramePort, regsVernier, regsOccultation, regsConstEye, regsEngine, regsBanked]

/-- The row holds this key. -/
def RegDesc.has (d : RegDesc) (key : Nat) : Bool :=
  d.base ≤ key && (key - d.base) / d.t1 < d.c1 && (key - d.base) % d.t1 / d.t2 < d.c2 &&
  (key - d.base) % d.t1 % d.t2 / d.t3 < d.c3 && (key - d.base) % d.t1 % d.t2 % d.t3 = 0

/-- The rows that can hold a key: the block of the host window it lies in (21 R955). -/
def regBlock (key : Nat) : List RegDesc :=
  if key < 0x2000 then regsClusterClock else if key < 0x3000 then regsSecurityLog else if key < 0x4000 then regsChart
  else if key < 0x5000 then regsRegulator else if key < 0x6000 then regsClockDrive else if key < 0x7000 then regsEvent
  else if key < 0x8000 then regsAssistant else if key < 0x9000 then regsQueue else if key < 0xA000 then regsFramePort
  else if key < 0xB000 then regsVernier else if key < 0xB100 then regsOccultation else if key < 0xC000 then regsVernier
  else if key < 0x10000 then regsConstEye else if key < 0x1000000 then regsEngine else regsBanked

/-- The row of a key, if the key is a register. -/
def regDesc (key : Nat) : Option RegDesc := (regBlock key).find? (·.has key)

/-- The reset value of the register at a key; 0 for a key that is no register. -/
def resetWord (key : Nat) : Word :=
  match regDesc key with
  | some d => BitVec.ofNat 32 d.reset
  | none => 0

end Sys2Proof.Machine
end

