-- ==== Sys2Proof/Machine/State.lean ====
section
/-! DEFINITION. The state of the block as plain data, and its value after reset. A table is a list of (index, value) pairs
with rising indices and no entry at its default value (Machine/Ops.lean reads and writes it). -/

namespace Sys2Proof.Machine

/-- A sparse table: an index that is not listed has the table's default value. -/
abbrev Table (α : Type) := List (Nat × α)

/-- Why the machine stops with a fault. -/
inductive Fault where
  /-- Raised by no command on an address the plate store has; a plate byte outside 10 R481's 6 MiB was named by the
  completion of a transfer. Safe: the block issues no such transfer. -/
  | noSuchAddress
  deriving DecidableEq, Repr

/-- Why a command has no meaning. -/
inductive Refusal where
  /-- Raised by the dispatch for a command without a meaning in the model. Safe. -/
  | notModelled (mnemonic : String)
  deriving DecidableEq, Repr

/-- A byte-addressed memory: the bytes that differ from what an unlisted address reads as, by rising address. -/
abbrev Memory := List Host.Cell

/-- One record of the Logbook before it has its SEQ (18 R880). -/
structure LogRecord where
  stamp : Time96
  origin : Nat
  kind : Nat
  fcode : Nat
  qual : Nat
  refused : Bool
  object : Word
  value : Word
  aux : Word
  deriving DecidableEq, Repr

/-- What the Logbook holds beside its registers (18 R882 to R889): places reserved and not yet placed, the STAMP of the last
record placed, the origin and seconds of the first lost change. -/
structure Logbook where
  reserved : List LogRecord
  lastStamp : Time96
  lostOrigin : Nat
  lostSec : Nat
  deriving DecidableEq, Repr

/-- A delivery of a line, or of EVT SET (`line` none), to a vector line of an engine (08 R420, R425, R964), with the level of the route
under which it was made (R417). -/
structure Delivery where
  line : Option Nat
  eng : Nat
  vline : Nat
  serial : Nat
  claim : Bool
  held : Option Nat
  level : Option Nat := none
  deriving DecidableEq, Repr

/-- What the event controller holds of one line: whether it is carried (08 R408), the number of its present delivery, whether that
went to an engine (R411), and the TCLK edge at which its asynchronous latch registered last (R406). -/
structure LineState where
  taken : Bool
  serial : Nat
  delivered : Bool := false
  caught : Option Nat := none
  deriving DecidableEq, Repr

/-- The event controller's copies in the AON domain (08 R435). -/
structure Retained where
  routes : List (Nat × Word)
  masks : List (Nat × Word)
  irqen : Word
  engs : List (Nat × Word)
  wakeen : List (Nat × Word)
  pend : List (Nat × Word)
  deriving DecidableEq, Repr

/-- The last answer on the host slave port (21 R936 to R941). -/
structure HostPort where
  resp : Nat
  data : List Word
  busy : Bool
  deriving DecidableEq, Repr

/-- What a CLAIM does in a handler (08 R421 to R423, R964): it succeeds without effect; it contends for a delivery of a
claim-mode line; it fails, because the delivery has been claimed or the entry was spurious (06 R306). -/
inductive ClaimContext where
  | succeeds
  | contends (line : Nat) (serial : Nat)
  | fails
  deriving DecidableEq, Repr

/-- What the queue manager holds of one queue beside its registers (10 R519 to R537): the slot of the oldest visible
descriptor, how many are visible, how many slots before the head are still held under 15 R748, the descriptors taken and
still in copy to the ring, and how many descriptors lie in the spill ring, from which slot on (external memory holds their
bytes). `started` of the descriptors in copy were in copy when a handover of the ring's plate began (R493). -/
structure QueueState where
  head : Nat
  vis : Nat
  held : Nat
  copying : List (List Byte)
  spilled : Nat
  spillHead : Nat
  started : Nat := 0
  deriving DecidableEq, Repr

/-- A transfer of the queue manager that waits because a plate it needs is locked or being handed over (04 R219, 10 R493): a copy
that a frame port makes of a frame under a rule (11 R567), with its stamp, flow and SEQ; a record of an Occultation channel with
its snapshot (13 R684); a QHEAD frame of a constellation port with its stamp, and a QDATA frame (16 R811); an ENQ through
QM_QCMD (10 R540). -/
inductive QueueJob where
  | copy (p r : Nat) (frame : List Byte) (good : Bool) (stamp : Time96) (flow seq : Nat)
  | record (c : Nat) (desc snap : List Byte)
  | head (x stamp : Nat) (frame : List Byte)
  | data (x : Nat) (frame : List Byte)
  | enqueue (a : Nat)
  deriving DecidableEq, Repr

/-- A waiting transfer and the queue it is for. -/
structure Waiting where
  queue : Nat
  job : QueueJob
  deriving DecidableEq, Repr

/-- A CLAIM that has won: the engine and its level, and the other handlers that contended for the delivery, by 8·engine + level
(08 R421, R422). -/
structure Claimed where
  eng : Nat
  level : Nat
  others : List Nat
  deriving DecidableEq, Repr

/-- What the commands of one tick have done where the manual orders happenings of one tick: the handoff slots put into and taken
from (01 R20 to R23), the claims won (08 R422) and the objects bumped, by type + 16·number (09 R461;
log entry 82). `active` while such a command runs. -/
structure Tick where
  active : Bool := false
  puts : List Nat := []
  takes : List Nat := []
  claims : List Claimed := []
  bumps : List Nat := []
  deriving DecidableEq, Repr

/-- What a bulk tag in flight is for (10 R542, 04 R208 to R215): an engine's read into a plate, an engine's write, a spill
write of a queue, a read-back of some of its descriptors, an Eyepiece access, a transfer of the loader. -/
inductive BulkUse where
  | engineRead (plate : Nat) (len : Nat)
  | engineWrite (plate : Nat) (len : Nat)
  | spillWrite (q : Nat)
  | spillRead (q count : Nat)
  | eyepiece (write : Bool) (len : Nat)
  | loader
  deriving DecidableEq, Repr

/-- A bulk tag in flight: its use, its external address, the bytes of a write, whether its response is discarded (10 R546,
15 R760), and the bytes of an engine read's plate range that the engine has written after the transfer (04 R213), a mask. -/
structure BulkTag where
  use : BulkUse
  ext : Nat
  bytes : List Byte
  discard : Bool
  keep : Nat := 0
  deriving DecidableEq, Repr

/-- A handover waiting to take effect (10 R491 to R494): the new owner code and the origin code of the master that wrote it. -/
structure Handover where
  owner : Nat
  origin : Nat
  deriving DecidableEq, Repr

/-- A flow with a FLOWS record (14 R709): the record's twelve words, and the registration instants that the order table holds
for a flow of source kind 2 (15 R746), in units of 2^-16 ns, how many of its items are committed and not yet delivered (R743),
and whether its rule's commit activates it (1) or withdraws it (2) (14 R722, R723). -/
structure Flow where
  words : List Word
  instants : List Nat
  inFlight : Nat
  asked : Nat := 0
  deriving DecidableEq, Repr

/-- A write to a discipline register that takes effect at a TCLK edge (02 R78): the register's key, the edge, the writer's place
in the order (0 the owner, 1 ring 1, 2 ring 0) and the word. -/
structure DiscWrite where
  key : Nat
  edge : Nat
  rank : Nat
  value : Word
  deriving DecidableEq, Repr

/-- What the Regulator holds beside its registers (02): cluster time in units of 2^-40 ns (R45, R50), the number of TCLK
edges counted, the remaining offset Q in the same units (R81), discipline held by the servo freeze, a rate, a sum of steps and
the last words written to other discipline registers by key (R89), the edges of the last discipline write and of the entry into
HOLDOVER (R90, R958), the die temperature in use (R63), the AON time in periods of AON_CLK (R91), the edge of the last snapshot
(R71), the discipline writes of one edge and RGL_QUAL.STATE before them (R78, R957). -/
structure Regulator where
  time : Nat
  edge : Nat
  q : Int
  heldRate : Option Word
  heldStep : Int
  discEdge : Nat
  holdEdge : Nat
  theta : Int
  tempSeen : Bool
  aonTime : Nat
  held : Table Word := []
  snapEdge : Option Nat := none
  writes : List DiscWrite := []
  qualBefore : Nat := 0
  deriving DecidableEq, Repr

/-- A stamp point: the instants, in TDC bins, and the stamps of its latest stamped edge of each
polarity, and the numbers of those stamps in the order of stamping (02 R54 to R60). -/
structure StampPoint where
  riseAt : Option Nat
  fallAt : Option Nat
  rise : Time96
  fall : Time96
  riseNo : Nat
  fallNo : Nat
  deriving DecidableEq, Repr

/-- An armed alarm: the compare value in force, the cluster time of the arming edge (both in units of 2^-16 ns), whether a
range alarm is between its open and its close edge, whether a step has passed over its compare value or its close
time (02 R100 to R111), and the TCLK edge of its last periodic firing (R111). -/
structure Alarm where
  compare : Nat
  armTime : Nat
  opened : Bool
  lateOpen : Bool
  lateClose : Bool
  firedEdge : Option Nat := none
  deriving DecidableEq, Repr

/-- The repeat frame of a Vernier (12 R644): the block and the remaining count. -/
structure RepeatFrame where
  start : Nat
  last : Nat
  count : Nat
  deriving DecidableEq, Repr

/-- What a Vernier holds beside its registers (12 R631): the instruction register, the address of the next fetch, the steps
that the instruction in progress still takes and those it has taken, whether a restart has ended its WAIT, TXH and RXH, the
levels and output enables of its four slots, the repeat frame, the clock settings in force (R636), the flags set last and
the TCLK edge and party that set them (R652), the number of stamps taken before its last start (R648) and the state that
an Eyepiece halt holds. -/
structure Vernier where
  ir : BitVec 16
  next : Nat
  left : Nat
  taken : Nat
  txh : Word
  rxh : Word
  drive : Nat
  enable : Nat
  frame : Option RepeatFrame
  clock : Word
  flagMask : Nat
  flagEdge : Nat
  flagByEngine : Bool
  startNo : Nat
  was : Nat
  deriving DecidableEq, Repr

/-- The 1PPS generator (12 R660): how many rising instants have been handled, and the cluster time of the falling edge that is
due, in units of 2^-16 ns. -/
structure Pps where
  handled : Nat
  fallAt : Option Nat
  deriving DecidableEq, Repr

/-- What a timer holds beside its registers (07 R350 to R391): the count and the active compare, the index of the last count
boundary worked off, the start edge, the output level, the phase-mode compare's target (64 bits), its tracker and whether it had passed,
the value that a TMR.CAP in progress has latched, what its last steps left (boundary, count, count of the high half), the edge at
which its line was last registered (R361), and the numbers of the stamps last captured or before the enable (R382). -/
structure Timer where
  count : Nat
  compare : Nat
  done : Nat
  startEdge : Nat
  level : Bool
  target : Nat
  tracker : Nat
  late : Bool
  latched : Option (Nat × Nat)
  past : List (Nat × Nat × Nat)
  eventEdge : Option Nat
  seenRise : Nat
  seenFall : Nat
  deriving DecidableEq, Repr

/-- An engine's watchdog (07 R394 to R401): the TCLK edges counted before it was last held, the edge since which it counts,
the period in force, and an expiry that the engine has not recognised yet. -/
structure Watchdog where
  counted : Nat
  since : Option Nat
  period : Nat
  expired : Bool
  deriving DecidableEq, Repr

/-- A presented trajectory of a tracker (03 R132 to R141): the phase, in units of 2^-64 turn, at cluster time `start` (units of
2^-40 ns), the frequency (2^-24 Hz), the rate of change of frequency (2^-16 Hz/s) about `tu`, the correction spread over
250 µs, and whether the phase advances at half the rate (R135). -/
structure Trajectory where
  phase : Nat
  start : Nat
  freq : Nat
  rho : Int
  tu : Nat
  correction : Int
  half : Bool
  deriving DecidableEq, Repr

/-- An estimate for an update instant (03 R132): the fraction of a turn at `tu` (2^-64 turn), frequency and its rate of
change, and `tu` in units of 2^-40 ns. -/
structure Estimate where
  phase : Nat
  freq : Nat
  rho : Int
  tu : Nat
  deriving DecidableEq, Repr

/-- What a tracker holds beside its registers (03 R119 to R144). Instants are in units of 2^-16 ns, with the value fed or, for
a crossing, its phase in units of 2^-32 turn. `seenRise` and `seenFall` are the numbers of the stamps of the source pin's edges
taken last, or before the enable; `lost` says that the present loss of the source has been detected. -/
structure Tracker where
  path : Trajectory
  instants : List (Nat × Int)
  lastValid : Nat
  lastRise : Option Nat
  lastFall : Option Nat
  estimate : Option Estimate
  peer : Option Estimate
  good : Nat
  missed : Nat
  fromLost : Bool
  applied : Nat
  holdEdge : Nat
  seenRise : Nat := 0
  seenFall : Nat := 0
  lost : Bool := false
  deriving DecidableEq, Repr

/-- The target of an armed phase alarm (03 R145): phase time, whether it fires late, in table mode the entry whose target it is,
and the TCLK edges of its arming (R146) and of its last firing (R157). -/
structure PhaseTarget where
  target : Nat
  late : Bool
  entry : Nat
  armEdge : Option Nat := none
  firedEdge : Option Nat := none
  deriving DecidableEq, Repr

/-- What a level's bank holds beside r0 to r15 and the registers ENG_RESUMEl and ENG_PROGl (04 R192): condition codes and status
flags (05 R249), link register, loop counter and the slot of the descriptor most recently dequeued (05 R272, 0 for none). -/
structure Bank where
  cc : BitVec 10
  link : BitVec 13
  lcnt : BitVec 16
  rx : Nat
  deriving DecidableEq, Repr

/-- A Lens operation in flight (04 R197): the registers it writes, the flags it sets (bit 0 NV, 1 DZ, 2 OF, 3 SAT), and the
address and level of the microword that issued it. -/
structure LensOp where
  writes : List (Nat × DWord)
  flags : Nat
  upc : Nat
  level : Nat
  deriving DecidableEq, Repr

/-- What an engine holds beside its registers, banks, Lens registers and control store: the condition inputs 0 to 47 and r15 as
they stood in the last tick of the previous microword (04 R184); LRES (06 R326); the Lens operation in flight; the words held
for a control store write and read (04 R234, R235) and for a capability write (09 R478); capability writes that wait for the
microword boundary; the levels with a broken locked sequence that has not closed, a mask, and lock-failed (04 R221); the held bulk port
error and Lens fault, the latter with address and level (06 R309); the level of an event entry under way (06 R296); the halt
request, 0 none, 1 HALT, 2 HALT_NOW, and whether a stop is deferred (04 R223, 19 R900); a step in progress, a release whose
first microword raises no break, and the state that a halt holds (19 R903, R904); CUTREQ (05 R247); the comparators that a
session's close has put out of action (19 R895), and those that have fired since they were last written (19 R911); the condition
inputs and r15 of the last tick of a wait for bulk tags that has ended (04 R185, R214); whether the stalled microword's causes
are still to be judged, because a Lens operation in flight writes its operands (04 R198). -/
structure Engine where
  conds : Nat
  condR15 : Word
  lres : Word
  op : Option LensOp
  wcsHold : BitVec 128
  wcsRead : StoreWord
  capHold : BitVec 96
  capWrites : List (Nat × CapWord)
  broken : Nat
  lockFailed : Bool
  bulkError : Bool
  lensFault : Option (Nat × Nat)
  entry : Option Nat
  halt : Nat
  stop : Bool
  stepping : Bool
  released : Bool
  was : Nat
  cutReq : Bool
  dcmpOff : Nat
  dcmpFired : Nat
  lastConds : Option (Nat × Word) := none
  unjudged : Bool := false
  deriving DecidableEq, Repr

/-- A gate list of a frame port (11 R594 to R597): its first entry, its length (0 for none), its cycle in ns, and its change time
in units of 2^-16 ns. -/
structure GateList where
  start : Nat
  len : Nat
  cyc : Nat
  x : Nat
  deriving DecidableEq, Repr

/-- A frame from the switch core that waits for its transmission (11 R574, R600): its class, its bytes after the redundancy and
recovery edits, and the egress rule that matched. -/
structure CoreFrame where
  cls : Nat
  bytes : List Byte
  rule : Option Nat
  deriving DecidableEq, Repr

/-- What a frame port holds beside its registers (11): Finder words and flow table words written and not yet committed (R565,
R603), the rule that awaits its application, the active gate list and the one that awaits its change time (R594), the frame
from the switch core, whether a change of BYP has not taken effect (R554), the TCLK edges of the last bucket refill (R570) and
of the last link delay copy (R583), and the last frame presented to the MAC and to the switch core. -/
structure FramePort where
  ruleHold : List (Nat × Word)
  entryHold : List (Nat × Word)
  ruleWait : Option (Nat × List Word)
  gates : GateList
  nextGates : GateList
  core : Option CoreFrame
  bypWait : Bool
  refillEdge : Nat
  delayEdge : Nat
  toMac : List Byte
  toCore : List Byte
  deriving DecidableEq, Repr

/-- A frame of a class queue that has left the queue and that not every port of its set has emitted or dropped (11 R610): its
descriptor, and the ports that have, a mask. -/
structure Residue where
  desc : List Byte
  done : Nat
  deriving DecidableEq, Repr

/-- An entry of a redundancy group's duplicate table (11 R588): source address, sequence number, port, and the TCLK edge of its
creation. -/
structure Duplicate where
  source : Nat
  seq : Nat
  port : Nat
  edge : Nat
  deriving DecidableEq, Repr

/-- A redundancy group (11 R585): the proxy table, each source with the TCLK edge of its last frame, and the duplicate table,
oldest entry first. -/
structure RedundancyGroup where
  proxies : List (Nat × Nat)
  duplicates : List Duplicate
  deriving DecidableEq, Repr

/-- A sequence recovery stream (11 R592): the highest number accepted, the history as a mask (bit 0 that number), whether the
next number is taken as new, and the TCLK edge of the last accepted frame. -/
structure RecoveryStream where
  seq : Nat
  history : Nat
  takeAny : Bool
  edge : Nat
  deriving DecidableEq, Repr

/-- An accepted front of an Occultation channel that awaits its record (13 R672 to R676): its trigger n, m*, the arrival instant in
units of 2^-16 ns, the words of NOISE, SAT and QUAL, whether it falls, and the rise R. -/
structure Front where
  n : Nat
  steepest : Nat
  at_ : Nat
  noise : Nat
  sat : Bool
  qual : Bool
  neg : Bool
  rise : Nat
  deriving DecidableEq, Repr

/-- What an Occultation channel holds beside its registers (13): the ball stamps of its latest frame clock edges in RUN, newest
first, the number of the next sample, the TCLK edge of its entry into RUN, the lowest sample that can be a trigger (R675), the
front that awaits its record, whether the armed window has made a record (R681), and the record count (R683). -/
structure OccChannel where
  edges : List Nat
  samples : Nat
  runEdge : Nat
  next : Nat
  front : Option Front
  made : Bool
  seq : Nat
  deriving DecidableEq, Repr

/-- What the attach sequencer and the clock and reset controller hold beside their registers (17): PWR_REQ, whether the PLLs have
been started (R839), whether the reset in force is an IFC domain power-up (R846), a Nap that awaits its entry (R828), of a detach
the TCLK edge of step 1, whether step 4 has stopped the engines, the items tombstoned in step 4 and those then in flight (R851),
the AON seconds of a clock loss that awaits its record (R845), and whether the next load ignores CHT_SRC (14 R714). -/
structure Power where
  req : Bool
  pllsStarted : Bool
  powerUp : Bool
  napAsked : Bool
  detachEdge : Nat
  stopped : Bool
  tombstoned : Nat
  inFlight : Nat
  lossSec : Option Nat
  ignoreSrc : Bool
  deriving DecidableEq, Repr

/-- A request of the authentication unit in progress (18 R871): its binding, its descriptor, and the result it will carry. -/
structure AuthRequest where
  binding : Nat
  desc : List Byte
  result : Nat
  deriving DecidableEq, Repr

/-- What the security units hold beside their registers (18): the keys of the FULL slots (R864), the life-cycle state under which
they were filled (R860), the GEN recorded by each binding (R870), the request in progress (R871), the TOKEN results in a row
(tamper source 6), and tamper records that await service or first light, each with its source bits and its action (R876,
R877). -/
structure Security where
  keys : Table (BitVec 256)
  keysLcs : Nat
  bindGen : Table Nat
  auth : Option AuthRequest
  tokenFails : Nat
  tamper : List (Nat × Nat)
  deriving DecidableEq, Repr

/-- What the loader keeps of the chart in force (14): the words of the PLATFORM record, and the records of ENGINES and ANNOT, each
its words, for the verifier; the owner codes of the Verniers, for which there is no register (R698). -/
structure Chart where
  platform : List Word
  engines : List (List Word)
  annots : List (List Word)
  owners : Table Nat
  deriving DecidableEq, Repr

/-- An upgrade that awaits its cut-over (15 R768): the engine, its spare, and the TCLK edge at which CUTREQ was set. -/
structure Upgrade where
  eng : Nat
  spare : Nat
  edge : Nat
  deriving DecidableEq, Repr

/-- A mailbox command that waits for its execution (14 R735): its code, and the origin and ring of the master that wrote it (09
R472). -/
structure MailCommand where
  code : Nat
  origin : Origin
  ring : Nat
  deriving DecidableEq, Repr

/-- What the Assistant pair and the Shutter hold beside their registers (15): the mailbox command in progress with its origin (R784),
a LOAD that awaits its reset (14 R736), an upgrade that awaits its cut-over, the capability violations of each engine in the
last 1 ms, as TCLK edges (R757), the TCLK edges of the takeovers (R781) and the cause and edge of the one in force (R775). -/
structure Assistant where
  command : Option MailCommand
  loadAsked : Bool
  upgrade : Option Upgrade
  violations : Table (List Nat)
  takeovers : List Nat
  takeoverEdge : Nat
  deriving DecidableEq, Repr

/-- An item that an inbound channel assembles from one port (16 R811, R812): its CSEQ, the descriptor sent, the buffer taken, the
next CHUNK, and the receive stamp of the QHEAD's marker in units of 2^-16 ns. -/
structure Assembly where
  cseq : Nat
  desc : List Byte
  addr : Nat
  chunk : Nat
  stamp : Nat
  deriving DecidableEq, Repr

/-- What a constellation port holds beside its registers (16): frames with a good or a bad CRC in a row and the TCLK edge of the
last good one (R796); the ball stamps of the last markers received and sent (R791); its latest M, and the sums of its own and
the peer's over the update period with its count of frames (R800); update periods complete in CAL; the last ADV, and the ASYM of
the last CONTROL; the θ of the last update and how many updates in a row lay within the limit (R801, R802); the frames that await a
period, first in first out: forwarded ones, each with its origin and the period of its reception, and own ones by kind (R798, R799); the own slots
since the last CONTROL (R793), and the period after that of the last frame sent (R797). -/
structure LinkPort where
  good : Nat
  bad : Nat
  lastGood : Nat
  rxStamp : Option Nat
  txStamp : Nat
  meas : Int
  sumOwn : Int
  sumPeer : Int
  count : Nat
  peerCount : Nat
  periods : Nat
  adv : Option Word
  peerAsym : Option Word
  theta : Option Int
  within : Nat
  forward : List (Nat × Nat × List Byte)
  tracks : List (List Byte)
  events : List (List Byte)
  items : List (List Byte)
  controlDue : Bool
  sinceControl : Nat
  period : Nat
  lastSent : List Byte
  deriving DecidableEq, Repr

/-- What the constellation holds beside its registers and ports: the items in assembly, by 2·channel + port, the TCLK edge of
the last frame from each member (16 R811, R817), a change of ISSRC that the Assistant pair has not acted on (R807), and the
update instant after that of the last TRACK frame (R808). -/
structure Constellation where
  assemblies : Table (Option Assembly)
  seen : Table (Option Nat)
  servoDue : Bool
  exported : Nat
  deriving DecidableEq, Repr

/-- An access of the Eyepiece master that waits (19 R918 to R921): started through EYE_DR or EYE_MCTL, a write or a read, external or
in plate space, of 64 or 32 bits, its address and the data of a write, and for an external one its tag. -/
structure EyeAccess where
  viaDr : Bool
  write : Bool
  ext : Bool
  wide : Bool
  addr : Nat
  data : DWord
  tag : Option Nat
  deriving DecidableEq, Repr

/-- What the Eyepiece holds beside its registers (19): ADDR and OP of the last transaction of EYE_DR and whether it has not
completed (R890), the word of its control store reads (R915), the accesses of its master that wait, first come first, the AON
periods counted towards the next second of a session, and the seconds left of it, none for one without a limit (R898). -/
structure Eyepiece where
  drAddr : Nat
  drOp : Nat
  drBusy : Bool
  wcsRead : StoreWord
  access : List EyeAccess
  aonCount : Nat
  left : Option Nat
  deriving DecidableEq, Repr

/-- The state of the block. The registers of the register tables are `regs`, by key; what a unit holds beside its registers
stands in the tables and structures below. -/
structure State where
  /-- The commands that wait, first in, first out. -/
  pending : List Instr
  /-- The model's own counter of free values used (log entry 2). -/
  freeUsed : Nat
  /-- Every register at a value other than its reset value, by key (21 R955). -/
  regs : Table Word
  /-- The plate store: the bytes other than 0 (10 R481, R511). -/
  mem : Memory
  /-- Plate words that hold an error: 1 a single-bit error, 2 an uncorrectable one (10 R503 to R506). -/
  ecc : Table Nat
  /-- The last answer on the host slave port. -/
  host : HostPort
  /-- Handoff slots with entries, by 16·quad + 4·source + destination (01 R18, R19). -/
  handoff : Table (List Word)
  /-- The Regulator. -/
  rgl : Regulator
  /-- The stamp points, by RGL_PINCAL index (02 R58). -/
  stamps : Table StampPoint
  /-- The Regulator's armed alarms (02 R96). -/
  alarms : Table Alarm
  /-- The event lines (08 R404). -/
  lines : Table LineState
  /-- Deliveries held or pending in engines (08 R420, R425). -/
  deliveries : List Delivery
  /-- Lines copied to the Assistant pair and not yet handled (08 R434). -/
  asst : List Nat
  /-- The event controller's AON retention (08 R435). -/
  retained : Option Retained
  /-- The Logbook. -/
  log : Logbook
  /-- The queues (10 R513). -/
  queues : Table QueueState
  /-- Bulk tags in flight, 0 to 255 (10 R542). -/
  bulk : Table BulkTag
  /-- Plate handovers waiting (10 R493). -/
  handovers : Table Handover
  /-- The IFC domain is powered (01 R31, 17 R848). -/
  ifcOn : Bool
  /-- The debug domain is powered (01 R32). -/
  dbgOn : Bool
  /-- The last answer to an Eyepiece register write: coded as the host port's. -/
  eyeResp : Nat
  /-- What CLAIM does in the handler of a level: by 8·engine + level (08 R964). -/
  claims : Table ClaimContext
  /-- The pending EVMASK of exported events (16 R815). -/
  evmask : Nat
  /-- Queue manager transfers waiting for a free tag (10 R542). -/
  bulkWaiting : List BulkTag
  /-- The word the scrubber visits next (10 R507). -/
  scrubWord : Nat
  /-- The flows that have a FLOWS record (14 R709). -/
  flows : Table Flow
  /-- How many stamps have been taken (12 R648). -/
  stampCount : Nat
  /-- The Verniers (12 R631). -/
  verniers : Table Vernier
  /-- The 1PPS generator (12 R660). -/
  pps : Pps
  /-- The engine timers, by 4·engine + timer (07). -/
  timers : Table Timer
  /-- The engine watchdogs (07 R394). -/
  watchdogs : Table Watchdog
  /-- The trackers (03). -/
  trackers : Table Tracker
  /-- The targets of armed phase alarms (03 R145). -/
  phaseTargets : Table PhaseTarget
  /-- The fraction held until CDR_EPH_HI is written (03 `CDR_EPH_LO`). -/
  ephHold : Word
  /-- The last word read by the Eyepiece (19 R890). -/
  eyeData : Word
  /-- The spill transfers on which a queue stopped, to be retried first (10 R536, R537). -/
  failed : Table (List BulkTag)
  /-- r0 to r15 of every bank, by 80·engine + 16·level + register (04 R190). -/
  gprs : Table Word
  /-- The rest of every bank, by 5·engine + level. -/
  banks : Table Bank
  /-- The Lens registers, by 8·engine + register (04 R195). -/
  lens : Table DWord
  /-- The control stores, by 8192·engine + microaddress (04 R225). -/
  wcs : Table StoreWord
  /-- What an engine holds beside these. -/
  engines : Table Engine
  /-- The per-boot key (09 R454). -/
  bootKey : BitVec 128
  /-- A cross-trigger registered and not yet passed on (19 R914). -/
  crossTrigger : Bool
  /-- The Verniers with a halt request that has not taken effect, a mask (19 R908). -/
  vernierHalts : Nat
  /-- What the frame ports hold beside their registers (11). -/
  ports : Table FramePort
  /-- Frames of a leader's class queue in emission, by 8·port + class (11 R610). -/
  residues : Table (List Residue)
  /-- The buckets of acceptance entries, by 512·port + entry (11 R570). -/
  buckets : Table Nat
  /-- The redundancy groups (11 R585). -/
  groups : Table RedundancyGroup
  /-- The recovery streams, by 32·port + stream (11 R590). -/
  streams : Table RecoveryStream
  /-- The Occultation channels (13). -/
  channels : Table OccChannel
  /-- The attach sequencer and the clock and reset controller (17). -/
  power : Power
  /-- The vault, the authentication unit and the tamper monitor (18). -/
  security : Security
  /-- What the loader keeps of the chart in force (14). -/
  chart : Chart
  /-- The Assistant pair and the Shutter (15). -/
  assistant : Assistant
  /-- The constellation ports, 0 east, 1 west (16). -/
  links : Table LinkPort
  /-- The constellation's channels and members (16). -/
  constellation : Constellation
  /-- The Eyepiece (19). -/
  eyepiece : Eyepiece
  /-- The queue manager's transfers that wait for a plate, oldest first (04 R219, 10 R493). -/
  jobs : List Waiting := []
  /-- What the commands of the latest tick have done. -/
  tick : Tick := {}
  deriving DecidableEq, Repr

/-- The machine right after reset: every register at its reset value (nothing listed in `regs`), memory with nothing listed,
no command waiting, the IFC domain off in power state Detached (17 R850). Values that the manual does not give are named in log
entry 1. -/
def State.reset : State where
  pending := []
  freeUsed := 0
  regs := []
  mem := []
  ecc := []
  host := { resp := 0, data := [], busy := false }
  handoff := []
  rgl := { time := 0, edge := 0, q := 0, heldRate := none, heldStep := 0, discEdge := 0, holdEdge := 0, theta := 25, tempSeen := false, aonTime := 0 }
  stamps := []
  alarms := []
  lines := []
  deliveries := []
  asst := []
  retained := none
  log := { reserved := [], lastStamp := 0, lostOrigin := 0, lostSec := 0 }
  queues := []
  bulk := []
  handovers := []
  ifcOn := false
  dbgOn := false
  eyeResp := 0
  claims := []
  evmask := 0
  bulkWaiting := []
  scrubWord := 0
  flows := []
  stampCount := 0
  verniers := []
  pps := { handled := 0, fallAt := none }
  timers := []
  watchdogs := []
  trackers := []
  phaseTargets := []
  ephHold := 0
  eyeData := 0
  failed := []
  gprs := []
  banks := []
  lens := []
  wcs := []
  engines := []
  bootKey := 0
  crossTrigger := false
  vernierHalts := 0
  ports := []
  residues := []
  buckets := []
  groups := []
  streams := []
  channels := []
  power := { req := false, pllsStarted := false, powerUp := false, napAsked := false, detachEdge := 0, stopped := false, tombstoned := 0, inFlight := 0, lossSec := none, ignoreSrc := false }
  security := { keys := [], keysLcs := 1, bindGen := [], auth := none, tokenFails := 0, tamper := [] }
  chart := { platform := [], engines := [], annots := [], owners := [] }
  assistant := { command := none, loadAsked := false, upgrade := none, violations := [], takeovers := [], takeoverEdge := 0 }
  links := []
  constellation := { assemblies := [], seen := [], servoDue := false, exported := 0 }
  eyepiece := { drAddr := 0, drOp := 0, drBusy := false, wcsRead := 0, access := [], aonCount := 0, left := none }

end Sys2Proof.Machine
end

