-- ==== Sys2Proof/Machine/Ops.lean ====
section
/-! DEFINITION. The named operations over tables, registers, memory, free values, cluster time and the Logbook. -/

namespace Sys2Proof.Machine

/-! ## Tables -/

/-- The value of a table at an index: the default where nothing is listed. -/
def tget {α : Type} (d : Nat → α) : Table α → Nat → α
  | [], k => d k
  | (j, v) :: t, k => if j = k then v else tget d t k

/-- The entry listed at an index. -/
def tfind {α : Type} : Table α → Nat → Option α
  | [], _ => none
  | (j, v) :: t, k => if j = k then some v else tfind t k

/-- A new entry put before the first larger index. -/
def tinsert {α : Type} (k : Nat) (v : α) : Table α → Table α
  | [] => [(k, v)]
  | (j, w) :: t => if k < j then (k, v) :: (j, w) :: t else (j, w) :: tinsert k v t

/-- A table without an index. -/
def tdrop {α : Type} (k : Nat) (t : Table α) : Table α := t.filter fun p => decide (p.1 ≠ k)

/-- A table with a value written at an index; a default value is not listed. -/
def tset {α : Type} [DecidableEq α] (d : Nat → α) (t : Table α) (k : Nat) (v : α) : Table α :=
  if v = d k then tdrop k t else tinsert k v (tdrop k t)

/-- The canonical form of a table: indices strictly rising, no entry at its default. -/
abbrev TableWf {α : Type} (d : Nat → α) (t : Table α) : Prop :=
  t.Pairwise (fun p q => p.1 < q.1) ∧ ∀ p ∈ t, p.2 ≠ d p.1

/-! ## Registers -/

/-- The register at a key. -/
def State.reg (s : State) (key : Nat) : Word := tget resetWord s.regs key

/-- A register written. -/
def State.setReg (s : State) (key : Nat) (v : Word) : State := { s with regs := tset resetWord s.regs key v }

/-- A field's value. -/
def State.get (s : State) (f : BitRange) : Nat := fieldOf (s.reg f.key) f.hi f.lo

/-- A field written, the register's other bits unchanged. -/
def State.put (s : State) (f : BitRange) (v : Nat) : State := s.setReg f.key (fieldSet (s.reg f.key) f.hi f.lo v)

/-- A one-bit field is 1. -/
def State.on (s : State) (f : BitRange) : Bool := s.get f != 0

/-- A counter field raised by n, stopping at its largest value (saturating counters of the register tables). -/
def State.count (s : State) (f : BitRange) (n : Nat) : State :=
  s.put f (satAdd (2 ^ (f.hi + 1 - f.lo) - 1) (s.get f) n)

/-- Bits ORed into a field. -/
def State.orBits (s : State) (f : BitRange) (v : Nat) : State := s.put f (s.get f ||| v)

/-- Bits of a field cleared. -/
def State.clearBits (s : State) (f : BitRange) (v : Nat) : State := s.put f (s.get f - (s.get f &&& v))

/-! ## Free values -/

/-- The next free value of n bits, and the state that has used it (log entry 2). -/
def State.fresh (s : State) (n : Nat) : BitVec n × State :=
  (Config.freeBits n s.freeUsed, { s with freeUsed := s.freeUsed + 1 })

/-! ## The plate store (10 R481 to R512) -/

/-- The size of plate space, 6 MiB. -/
def plateBytes : Nat := 0x600000

/-- The canonical form of the memory: addresses rising, no listed byte equal to what an unlisted one reads as, 0. -/
def Memory.wf (m : Memory) : Bool :=
  decide (m.Pairwise (fun p q => p.1 < q.1)) && m.all fun p => decide (p.2 ≠ 0)

/-- The byte at a plate space address (10 R511: unwritten bytes read 0; log entry 3). -/
def State.byte (s : State) (a : Nat) : Byte := tget (fun _ => (0 : Byte)) s.mem a

/-- A byte written. -/
def State.setByte (s : State) (a : Nat) (b : Byte) : State := { s with mem := tset (fun _ => (0 : Byte)) s.mem a b }

/-- The n bytes from an address. -/
def State.bytes (s : State) (a : Nat) : Nat → List Byte
  | 0 => []
  | n + 1 => s.byte a :: s.bytes (a + 1) n

/-- Bytes written from an address up. -/
def State.setBytes (s : State) (a : Nat) : List Byte → State
  | [] => s
  | b :: bs => (s.setByte a b).setBytes (a + 1) bs

/-- The error mark of the word that holds an address: 0 none, 1 single-bit, 2 uncorrectable. -/
def State.eccAt (s : State) (a : Nat) : Nat := tget (fun _ => 0) s.ecc (a / 8)

/-- The words of a byte range hold an uncorrectable error. -/
def State.uncorrectable (s : State) (a n : Nat) : Bool :=
  (List.range ((a + n + 7) / 8 - a / 8)).any fun k => s.eccAt (8 * (a / 8 + k)) == 2

/-- The addresses of the words of a byte range, in rising order. -/
def wordsIn (a n : Nat) : List Nat := (List.range ((a + n + 7) / 8 - a / 8)).map fun k => 8 * (a / 8 + k)

/-- A single-bit error met by an access of an agent (10 R504): counted, flagged, recorded while UEV is 0. -/
def State.noteCorrected (s : State) (agent a : Nat) : State :=
  let t := (s.count PLT_ECCSTAT.CECNT 1).put PLT_ECCSTAT.CEV 1
  if s.on PLT_ECCSTAT.UEV then t
  else (t.put PLT_ECCADDR.AGENT agent).put PLT_ECCADDR.ADDR (a / 8 * 8)

/-- An uncorrectable error met by an access of an agent (10 R505): UEV set, the word recorded. -/
def State.noteUncorrectable (s : State) (agent a : Nat) : State :=
  ((s.put PLT_ECCSTAT.UEV 1).put PLT_ECCADDR.AGENT agent).put PLT_ECCADDR.ADDR (a / 8 * 8)

/-- Words read by an agent, in order: a corrected one is counted, and an uncorrectable one ends the reading (10 R504, R505). The Bool
says that there was none. -/
def State.readWords (s : State) (agent : Nat) : List Nat → Bool × State
  | [] => (true, s)
  | a :: as =>
    if s.eccAt a = 2 then (false, s.noteUncorrectable agent a)
    else (if s.eccAt a = 1 then s.noteCorrected agent a else s).readWords agent as

/-- A plate read of n bytes by an agent: the bytes, or none at an uncorrectable error (10 R504, R505). -/
def State.plateRead (s : State) (agent a n : Nat) : Option (List Byte) × State :=
  let r := s.readWords agent (wordsIn a n)
  (if r.1 then some (s.bytes a n) else none, r.2)

/-- New check bits over the words of a byte range. -/
def State.clearEcc (s : State) (a n : Nat) : State :=
  { s with ecc := s.ecc.filter fun p => decide (p.1 < a / 8 ∨ (a + n + 7) / 8 ≤ p.1) }

/-- Bytes inside one word written by an agent: a whole word is written as it is (10 R506); a narrower write, or one that leaves bytes
of the word out (`narrow`), reads the word first (10 R503, R505) and is not performed at an uncorrectable error. The Bool says it
was performed. -/
def State.writeWord (s : State) (agent a : Nat) (bs : List Byte) (narrow : Bool) : Bool × State :=
  let r := if narrow || bs.length != 8 then s.readWords agent [a / 8 * 8] else (true, s)
  (r.1, if r.1 then (r.2.setBytes a bs).clearEcc a bs.length else r.2)

/-- A byte range cut at the word boundaries, each piece with its address; `fuel` is at least the number of pieces. -/
def wordPieces : Nat → Nat → List Byte → List (Nat × List Byte)
  | 0, _, _ => []
  | _ + 1, _, [] => []
  | fuel + 1, a, bs => (a, bs.take (8 - a % 8)) :: wordPieces fuel (a + (8 - a % 8)) (bs.drop (8 - a % 8))

/-- Pieces of words written by an agent, in order. The Bool says that each was performed. -/
def State.writePieces (s : State) (agent : Nat) : List (Nat × List Byte) → Bool × State
  | [] => (true, s)
  | p :: ps =>
    let r := s.writeWord agent p.1 p.2 false
    let q := r.2.writePieces agent ps
    (r.1 && q.1, q.2)

/-- A plate write by an agent, word by word. The Bool says that it was performed whole. -/
def State.plateWrite (s : State) (agent a : Nat) (bs : List Byte) : Bool × State := s.writePieces agent (wordPieces bs.length a bs)

/-! ## Cluster time (02 R45 to R53) -/

/-- The number of 2^-16 ns units in a second. -/
def unitsPerSec : Nat := 1000000000 * 65536

/-- The cluster time format of a count of 2^-16 ns units (02 R45). -/
def toTime96 (u : Nat) : Time96 :=
  BitVec.ofNat 48 (u / unitsPerSec) ++ BitVec.ofNat 32 (u % unitsPerSec / 65536) ++ BitVec.ofNat 16 (u % 65536)

/-- The count of 2^-16 ns units of a cluster time. -/
def ofTime96 (t : Time96) : Nat :=
  (t.extractLsb' 48 48).toNat * unitsPerSec + (t.extractLsb' 16 32).toNat * 65536 + (t.extractLsb' 0 16).toNat

/-- The NS field of a cluster time. -/
def time96Ns (t : Time96) : Nat := (t.extractLsb' 16 32).toNat

/-- T(k) at the present TCLK edge, in units of 2^-16 ns. -/
def State.now (s : State) : Nat := s.rgl.time / 2 ^ 24

/-- T(k) at the present TCLK edge. -/
def State.now96 (s : State) : Time96 := toTime96 s.now

/-- Word i of a cluster time, as RGL_SNAP0 to RGL_SNAP2 lay it out. -/
def time96Word (t : Time96) (i : Nat) : Word := t.extractLsb' (32 * i) 32

/-- A cluster time from its three words. -/
def time96OfWords (w0 w1 w2 : Word) : Time96 := w2 ++ w1 ++ w0

/-! ## Origins (18 R881) and rings (09 R467, R468) -/

/-- The origin code. -/
def originCode : Origin → Nat
  | .host => 0x00
  | .eyepiece => 0x01
  | .engine e => 0x02 + e.val
  | .assistant => 0x0E
  | .shutter => 0x0F
  | .loader => 0x10
  | .peer k => 0x11 + k.val
  | .tamper => 0x18
  | .clock => 0x19
  | .lifeCycle => 0x1A
  | .cstLink => 0x1B

/-- The ring of a master (09 R467 to R469, 19 R892): the Eyepiece has ring 1 while a session is open, else ring 2; engines,
the constellation link and the hardware units have none. -/
def State.ringOf (s : State) : Origin → Option Nat
  | .host => some 2
  | .eyepiece => some (if s.on EYE_STAT.SESS then 1 else 2)
  | .assistant => some 0
  | .shutter => some 0
  | .loader => some 0
  | _ => none

/-! ## The Logbook (18 R879 to R889) -/

/-- The ring is full: records held and places reserved are 1024 (18 R883). -/
def State.logFull (s : State) : Bool :=
  decide (1024 ≤ (s.reg LOG_HEAD - s.reg LOG_TAIL).toNat + s.log.reserved.length)

/-- A change finds no place: the ring is full or changes have been lost (18 R883). -/
def State.logBlocked (s : State) : Bool := s.logFull || s.on LOG_LOST.COUNT

/-- The strict policy refuses a change by this master (18 R883). -/
def State.logRefuses (s : State) (o : Origin) : Bool :=
  s.on LOG_CTL.STRICT && s.logBlocked && (o == .host || o == .eyepiece)

/-- A change with a record: it reserves a place, or is counted as lost (18 R882, R883). -/
def State.logChange (s : State) (origin kind fcode : Nat) (refused : Bool) (object value aux : Nat) : State :=
  if s.logBlocked then
    let t := if s.on LOG_LOST.COUNT then s
      else { s with log := { s.log with lostOrigin := origin, lostSec := s.now / unitsPerSec % 2 ^ 32 } }
    t.count LOG_LOST.COUNT 1
  else
    { s with log := { s.log with reserved := s.log.reserved ++
      [{ stamp := s.now96, origin, kind, fcode, qual := s.get RGL_QUAL.STATE, refused,
         object := BitVec.ofNat 32 object, value := BitVec.ofNat 32 value, aux := BitVec.ofNat 32 aux }] } }

end Sys2Proof.Machine
end

