-- ==== Sys2Proof/Machine/Writes.lean ====
section
/-! DEFINITION. Register writes: ring, Logbook policy, access codes and responses, once for every register (00 R4 to R14,
21 R936 to R941). -/

namespace Sys2Proof.Machine

/-- Response codes of the host slave port (21 R934). -/
def respOk : Nat := 0
def respRetry : Nat := 1
def respDenied : Nat := 2
def respError : Nat := 3

/-- What a register's own rules make of a write: the state after it, the response, whether the register or a field was left
unchanged under a rule (REFUSED of 00 R12), the fault code its record carries, and further records placed after it. -/
structure Effect where
  state : State
  resp : Nat := 0
  refused : Bool := false
  fcode : Nat := 0
  after : State → State := id

/-- A refusal with response DENIED that changes nothing. -/
def Effect.denied (s : State) (fcode : Nat := 0) : Effect := { state := s, resp := respDenied, refused := true, fcode }

/-- An accepted write. -/
def Effect.ok (s : State) : Effect := { state := s }

/-- A write that leaves the register, or a field of it, unchanged under a rule, answered OK. -/
def Effect.kept (s : State) : Effect := { state := s, refused := true }

/-- The answer to a master: the host port holds its response, the Eyepiece its own (19 R891). -/
def State.respond (s : State) (o : Origin) (resp : Nat) : State :=
  match o with
  | .host => { s with host := { resp, data := [], busy := resp == respRetry } }
  | .eyepiece => { s with eyeResp := resp }
  | _ => s

/-- The answer to a read by a master: its response and the word read. -/
def State.answer (s : State) (o : Origin) (resp : Nat) (v : Word) : State :=
  match o with
  | .host => { s with host := { resp, data := [v], busy := resp == respRetry } }
  | .eyepiece => { s with eyeResp := resp, eyeData := v }
  | _ => s

/-- The PLLs run: TCLK and CCLK are locked (17 R835). -/
def State.pllsRun (s : State) : Bool := s.on CLK_PLLSTAT.TCLKLK && s.on CLK_PLLSTAT.CCLKLK

/-- A host access at an offset is answered ERROR (01 R31, 15 R783, 17 R843). -/
def State.hostError (s : State) (write : Bool) (off : Nat) : Bool :=
  if !s.ifcOn then off != CLU_ATTACH
  else if s.get CLU_STAT.STATE = 7 then
    write || !(off == CLU_ID || off == CLU_STEP || off == CLU_STAT || off == SHT_STAT)
  else if !s.pllsRun || s.get CLU_STAT.STATE = 6 then
    !(decide (off < 0x2000) || (decide (RGL_SNAP_CMD ≤ off) && decide (off ≤ RGL_SNAP_REM1)))
  else false

/-- The discipline registers of cluster time: the only ones that the constellation link writes (16 R801, R802). -/
def disciplineKeys : List Nat := [RGL_RATE, RGL_STEP_SEC, RGL_STEP_FRAC, RGL_STEP, RGL_SLEW, RGL_UTC, RGL_QUAL]

/-- An access of a master is answered ERROR: the host port's rules, which hold for the Eyepiece too (19 R892), but that with the
IFC domain off the Eyepiece reaches its own block and nothing else (19 R893). Engines address no register block (09 R470), nor do the
clusters beyond a link; neither has a port that could be answered. -/
def State.busError (s : State) (o : Origin) (write : Bool) (off : Nat) : Bool :=
  match o with
  | .host => s.hostError write off
  | .eyepiece => if s.ifcOn then s.hostError write off else !(decide (0xD000 ≤ off) && decide (off < 0xE000))
  | .engine _ => true
  | .peer _ => true
  | .cstLink => !disciplineKeys.contains off
  | _ => false

/-- The offset in the host window at which a register is reached (21 R955, R956). -/
def hostOffset (key : Nat) : Nat :=
  if key < 0x1000000 then key
  else
    let off := key % 0x10000
    match key / 0x10000 with
    | 0x100 => 0x4054
    | 0x101 => 0x5068 + off % 8
    | 0x102 => 0x10204 + 0x4000 * (off / 0x400) + off % 0x10
    | 0x103 => 0x8044 + off % 8
    | 0x104 => 0x9028 + 0x100 * (off / 0x2000) + off % 0x20
    | 0x106 => 0x9064 + 0x100 * (off / 0x400)
    | 0x107 => 0x906C + 0x100 * (off / 0x2000) + off % 0x10
    | 0x108 => 0x90C4 + 0x100 * (off / 0x100)
    | 0x109 => 0x90D0 + 0x100 * (off / 0x100)
    | 0x10A => 0x2044
    | 0x10B => 0x310C + off % 8
    | 0x10C => 0x7064 + off % 0x20
    | 0x10D => 0x7064 + off % 0x20
    | 0x10E => 0xC100 + off % 0x10
    | 0x120 =>
      if off / 0x80 = 16 ∨ off / 0x80 = 17 then 0xBA00 + 0x80 * (off / 0x80 - 16) + off % 0x80 else 0xA800 + off
    | _ => 0x8000 + off % 0x40

/-- The word a register holds after a plain write by its access codes (00 R14). -/
def mergeWrite (d : RegDesc) (old v : Word) : Word :=
  (((old &&& ~~~ BitVec.ofNat 32 d.rw) ||| (v &&& BitVec.ofNat 32 d.rw)) &&& ~~~ (v &&& BitVec.ofNat 32 d.w1c))

/-- A plain write: the access codes and no further rule. -/
def State.plainWrite (s : State) (key : Nat) (v : Word) : State :=
  match regDesc key with
  | some d => s.setReg key (mergeWrite d (s.reg key) v)
  | none => s

/-- The AUX of a record of kind 0x01: the writer's ring, 3 for a writer without one (18 R879). -/
def State.ringCode (s : State) (o : Origin) : Nat := (s.ringOf o).getD 3

/-- The record of a write to a register, if it is marked logged (00 R12). -/
def State.logWrite (s : State) (o : Origin) (key : Nat) (v : Word) (refused : Bool) (fcode : Nat) : State :=
  if (regDesc key).any (·.logged) then
    s.logChange (originCode o) 0x01 fcode refused (hostOffset key) v.toNat (s.ringCode o)
  else s

/-- The minimum ring of a register; 2 for a key that is no register. -/
def minRing (key : Nat) : Nat := ((regDesc key).map (·.ring)).getD 2

/-- The ring rule refuses the write (00 R9, R10): the writer has a ring, and it is above the minimum. -/
def State.ringDenies (s : State) (o : Origin) (ring : Nat) : Bool := (s.ringOf o).any fun r => decide (ring < r)

/-- A register of the Eyepiece block while the debug domain is off: no write reaches it (19 R894). -/
def State.debugOff (s : State) (key : Nat) : Bool := !s.dbgOn && decide (0xD000 ≤ key) && decide (key < 0xE000)

/-- A register write by a master, with the register's own rules `act` and a minimum ring given by the caller: ERROR, the
strict Logbook policy, the ring, then the effect, its record and its response (21 R940). -/
def State.writeAs (s : State) (o : Origin) (ring key : Nat) (v : Word) (act : State → Effect) : State :=
  if s.busError o true (hostOffset key) then s.respond o respError
  else if (regDesc key).any (·.logged) && s.logRefuses o then s.respond o respDenied
  else if s.ringDenies o ring || s.debugOff key then (s.logWrite o key v true 0).respond o respDenied
  else
    let e := act s
    (e.after (e.state.logWrite o key v e.refused e.fcode)).respond o e.resp

/-- A register write under the register's own minimum ring. -/
def State.writeReg (s : State) (o : Origin) (key : Nat) (v : Word) (act : State → Effect) : State :=
  s.writeAs o (minRing key) key v act

/-- The engine that acts for engine e (15 R759): field e of AST_ENGMAP0 and AST_ENGMAP1. -/
def State.engMap (s : State) (e : Nat) : Nat :=
  if e < 8 then fieldOf (s.reg AST_ENGMAP0) (4 * e + 3) (4 * e)
  else if e < 12 then fieldOf (s.reg AST_ENGMAP1) (4 * (e - 8) + 3) (4 * (e - 8))
  else e

/-- An owner or agent code names the acting engine e (15 R759). -/
def State.codeIsEngine (s : State) (code e : Nat) : Bool :=
  decide (0x10 ≤ code) && decide (code ≤ 0x1B) && s.engMap (code - 0x10) == e

/-- The owner code of `RGL_SRV_OWN` and its like that a master has as owner: the host port 0x01, the constellation link 0x02. -/
def State.ownedBy (s : State) (code : Nat) (o : Origin) : Bool :=
  match o with
  | .host => code == 1
  | .cstLink => code == 2
  | .engine e => s.codeIsEngine code e.val
  | _ => false

end Sys2Proof.Machine
end

