-- ==== Sys2Proof/Machine/Events.lean ====
section
/-! DEFINITION. The event controller (08): registration, masking, routing, delivery, claims, moderation and retirement. -/

namespace Sys2Proof.Machine

/-- The register and bit of a line. -/
def lineBit (n : Nat) : Nat := n % 32

/-- EVC_PEND bit of a line. -/
def State.linePending (s : State) (n : Nat) : Bool := bitAt (s.reg (EVC_PEND (n / 32))) (lineBit n)

/-- EVC_MASK bit of a line. -/
def State.lineMasked (s : State) (n : Nat) : Bool := bitAt (s.reg (EVC_MASK (n / 32))) (lineBit n)

/-- One bit of a register written. -/
def State.setBit (s : State) (key k : Nat) (b : Bool) : State := s.setReg key (fieldSet (s.reg key) k k (bit b))

/-- EVC_PEND bit of a line written. -/
def State.setLinePending (s : State) (n : Nat) (b : Bool) : State := s.setBit (EVC_PEND (n / 32)) (lineBit n) b

/-- The state of a line. -/
def State.line (s : State) (n : Nat) : LineState := tget (fun _ => { taken := false, serial := 0 }) s.lines n

/-- The state of a line written. -/
def State.setLine (s : State) (n : Nat) (l : LineState) : State :=
  { s with lines := tset (fun _ => { taken := false, serial := 0 }) s.lines n l }

/-- The engine is stopped, halted or frozen (04 `ENG_STAT.STATE`, 08 R419). -/
def State.engineDown (s : State) (e : Nat) : Bool :=
  s.get (ENG_STAT.STATE e) == 0 || s.get (ENG_STAT.STATE e) == 3 || s.get (ENG_STAT.STATE e) == 4

/-- The engine is idle (04 `ENG_STAT.STATE`). -/
def State.engineIdle (s : State) (e : Nat) : Bool := s.get (ENG_STAT.STATE e) == 2

/-- The pending bit of vector line v of engine e. -/
def State.vectorPending (s : State) (e v : Nat) : Bool :=
  s.deliveries.any fun d => d.eng == e && d.vline == v && d.held.isNone

/-- The vector lines pending in an engine. -/
def State.pendingVectors (s : State) (e : Nat) : List Nat := (List.range 64).filter fun v => s.vectorPending e v

/-- The deliveries held for an engine by moderation (08 R425). -/
def State.heldFor (s : State) (e : Nat) : List Delivery := s.deliveries.filter fun d => d.eng == e && d.held.isSome

/-- Deliveries that satisfy a condition withdrawn or taken. -/
def State.dropDeliveries (s : State) (p : Delivery → Bool) : State :=
  { s with deliveries := s.deliveries.filter fun d => !p d }

/-- A line retires (08 R412): its pending bit clears and it is no longer carried. -/
def State.retire (s : State) (n : Nat) : State :=
  (s.setLinePending n false).setLine n { s.line n with taken := false, delivered := false }

/-- A carried line that was delivered to an engine retires if no engine still holds its delivery (08 R411). -/
def State.retireIfDone (s : State) (n : Nat) : State :=
  if (s.line n).taken && (s.line n).delivered && !(s.deliveries.any fun d => d.line == some n) then s.retire n else s

/-- Retirement looked for on each of some lines. -/
def State.retireDone (s : State) : List Nat → State
  | [] => s
  | n :: ns => (s.retireIfDone n).retireDone ns

/-- The pending bits set by held deliveries of an engine (08 R425): they are released together. -/
def State.releaseHeld (s : State) (e : Nat) : State :=
  { s with deliveries := s.deliveries.map fun d => if d.eng = e then { d with held := none } else d }

/-- A condition of release holds for an engine (08 R425): the count, the time, or idle with IDLEBYP. The time of a hold is
counted in TCLK edges, five to 10 ns. -/
def State.releaseDue (s : State) (e : Nat) : Bool :=
  let held := s.heldFor e
  let oldest := (held.filterMap (·.held)).foldl Nat.min s.rgl.edge
  !held.isEmpty &&
    (decide (s.get (EVC_ENG.MCNT e) ≤ held.length) ||
     decide (oldest + 5 * Nat.max 1 (s.get (EVC_ENG.MINT e)) ≤ s.rgl.edge) ||
     (s.on (EVC_ENG.IDLEBYP e) && s.engineIdle e))

/-- One delivery of a line to an engine (08 R420, R425, R426): held under moderation, or its vector pending bit set. -/
def State.deliverTo (s : State) (n serial : Nat) (e : Nat) : State :=
  let moderated := s.on (EVC_ROUTE.MOD n) && s.get (EVC_ENG.MCNT e) != 0 &&
    !(s.on (EVC_ENG.IDLEBYP e) && s.engineIdle e)
  let d : Delivery := { line := some n, eng := e, vline := s.get (EVC_ROUTE.VLINE n), serial,
                        claim := s.on (EVC_ROUTE.CLAIMM n), held := if moderated then some s.rgl.edge else none,
                        level := some (s.get (EVC_ROUTE.LVL n)) }
  let t := { s with deliveries := s.deliveries ++ [d] }
  if moderated && t.releaseDue e then t.releaseHeld e else t

/-- Deliveries of a line to its targets. -/
def State.deliverAll (s : State) (n serial : Nat) : List Nat → State
  | [] => s
  | e :: es => (s.deliverTo n serial e).deliverAll n serial es

/-- The engines of a line's TMASK, each the acting one (08 R413, 15 R759), without repeats. -/
def State.routeEngines (s : State) (n : Nat) : List Nat :=
  ((onesBelow 12 (s.get (EVC_ROUTE.TMASK n))).map s.engMap).eraseDups

/-- A list, or the one before it where it would be empty (08 R419: "unless no engine would remain"). -/
def orElseKeep (new old : List Nat) : List Nat := if new.isEmpty then old else new

/-- The targets of a line (08 R419). -/
def State.targets (s : State) (n : Nat) : List Nat :=
  let es := s.routeEngines n
  if s.on (EVC_ROUTE.CLAIMM n) then
    let up := orElseKeep (es.filter fun e => !s.engineDown e) es
    orElseKeep (up.filter fun e =>
      s.get (EVC_ENG.THR e) == 0 || decide ((s.pendingVectors e).length ≤ s.get (EVC_ENG.THR e))) up
  else es

/-- A line is taken, routed and delivered if it is pending, not masked and not yet carried (08 R408, R413 to R420). -/
def State.serviceLine (s : State) (n : Nat) : State :=
  if s.linePending n && !s.lineMasked n && !(s.line n).taken then
    let serial := (s.line n).serial + 1
    (s.setLine n { s.line n with taken := true, serial, delivered := !(s.targets n).isEmpty }).deliverAll n serial (s.targets n)
  else s

/-- The copy to the Assistant pair, whatever the mask (08 R434). -/
def State.copyToAssistant (s : State) (n : Nat) : State :=
  if (s.on (EVC_ROUTE.ASST n) || decide (240 ≤ n)) && !s.asst.contains n then { s with asst := s.asst ++ [n] } else s

/-- A registration sets the event latches of the Verniers that name the line (12 `VRN_EVCFGv.LINE0`, LINE1). -/
def State.latchVerniers (s : State) (n : Nat) : List Nat → State
  | [] => s
  | v :: vs =>
    let e0 := s.on (VRN_EVCFG.L0EN v) && s.get (VRN_EVCFG.LINE0 v) == n
    let e1 := s.on (VRN_EVCFG.L1EN v) && s.get (VRN_EVCFG.LINE1 v) == n
    (if e0 || e1 then s.orBits (VRN_STAT.ELAT v) (bit e0 + 2 * bit e1) else s).latchVerniers n vs

/-- A registration of an exported line sets its bit of the pending EVMASK (16 R815). -/
def State.exportEvent (s : State) (n : Nat) : State :=
  let m := (List.range 16).filter fun i => s.on (CST_EVOUT.EN i) && s.get (CST_EVOUT.LINE i) == n
  if m.isEmpty then s else { s with evmask := m.foldl (fun a i => a ||| 2 ^ i) s.evmask }

/-- The record of flow f (14 R709). -/
def State.flow (s : State) (f : Nat) : Flow := tget (fun _ => { words := [], instants := [], inFlight := 0 }) s.flows f

/-- The record of flow f written. -/
def State.setFlow (s : State) (f : Nat) (x : Flow) : State :=
  { s with flows := tset (fun _ => { words := [], instants := [], inFlight := 0 }) s.flows f x }

/-- Word i of a flow's record. -/
def State.flowWord (s : State) (f i : Nat) : Word := (s.flow f).words.getD i 0

/-- How many items of flow f are ACCEPTED (15 R745). -/
def State.itemsAccepted (s : State) (f : Nat) : Nat := (s.reg (AST_OT1 f) - s.reg (AST_OT2 f)).toNat

/-- A registration taken by the order table for a flow of source kind 2, with its instant in units of 2^-16 ns (15 R744,
R746). -/
def State.acceptRegistration (s : State) (f instant : Nat) : State :=
  if s.itemsAccepted f < 8 then
    ((s.setReg (AST_OT1 f) (s.reg (AST_OT1 f) + 1)).put (AST_OT5.PEND f) ((s.flow f).instants.length + 1)).setFlow f
      { s.flow f with instants := (s.flow f).instants ++ [instant] }
  else s.count (AST_OT5.OOC f) 1

/-- The sources accept no items: the Shutter is in control, or a detach quiesces the cluster (15 R775, R776, 17 R851). -/
def State.sourcesClosed (s : State) : Bool := s.get CLU_STAT.STATE == 5 || s.get CLU_STAT.STATE == 4

/-- The ACTIVE flows of source kind 2 on a line (14 R709, R711). -/
def State.flowsOnLine (s : State) (n : Nat) : List Nat :=
  if s.sourcesClosed then [] else (s.flows.map (·.1)).filter fun f =>
    s.get (ADM_FSTATE.STATE f) == 2 && fieldOf (s.flowWord f 0) 14 12 == 2 && fieldOf (s.flowWord f 1) 9 0 == n

/-- A registration taken by the order table for each of some flows. -/
def State.acceptRegistrations (s : State) (instant : Nat) : List Nat → State
  | [] => s
  | f :: fs => (s.acceptRegistration f instant).acceptRegistrations instant fs

/-- Registration of a line whose happening has a stamp, in units of 2^-16 ns (08 R405): its pending bit is set and it is served, and it
reaches the order table (15 R746), the Vernier latches and the constellation export. A registration of a pending line sets its COAL bit
and has no other effect (R407). -/
def State.registerEventAt (s : State) (n instant : Nat) : State :=
  if s.linePending n then s.setBit (EVC_COAL (n / 32)) (lineBit n) true
  else
    let t := (s.latchVerniers n (List.range 24)).exportEvent n
    (((t.setLinePending n true).acceptRegistrations instant (t.flowsOnLine n)).copyToAssistant n).serviceLine n

/-- Registration of a line at the present edge. -/
def State.registerEvent (s : State) (n : Nat) : State := s.registerEventAt n s.now

/-- An edge caught by the asynchronous latch of a line (08 R406), which registers the line at the present TCLK edge (log entry 97): edges
caught before that edge has passed give one registration. -/
def State.catchEdge (s : State) (n : Nat) : State :=
  if (s.line n).caught == some s.rgl.edge then s
  else (s.setLine n { s.line n with caught := some s.rgl.edge }).registerEvent n

/-- A write refused for a resource conflict, after whose record EV252 is registered (08 R404, 15 fault 0x10). -/
def Effect.conflict (e : Effect) : Effect := { e with refused := true, fcode := 0x10, after := fun t => t.registerEvent 252 }

/-- Registration of several lines. -/
def State.registerEvents (s : State) : List Nat → State
  | [] => s
  | n :: ns => (s.registerEvent n).registerEvents ns

/-- The fault event of an engine, EV(240 + e) (08 R404). -/
def engineFaultLine (e : Nat) : Nat := 240 + e

/-- The level of a vector line of an engine: that of the route under which its pending delivery was made (08 R417), else that of the
routes that name it (R414). -/
def State.vectorLevel (s : State) (e v : Nat) : Option Nat :=
  (s.deliveries.findSome? fun d => if d.eng == e && d.vline == v && d.held.isNone then d.level else none).or
    (((List.range 256).find? fun n =>
      s.get (EVC_ROUTE.VLINE n) == v && (s.routeEngines n).contains e).map fun n => s.get (EVC_ROUTE.LVL n))

/-- What this tick's commands have done so far (log entry 82). -/
def State.ticked (s : State) : Tick := if s.tick.active then s.tick else {}

/-- A command run as one of the tick of the commands before it (`same`), or as the first of its tick (log entry 82). -/
def State.inTick (s : State) (same : Bool) (run : State → State) : State :=
  let t := run { s with tick := { (if same then s.tick else {}) with active := true } }
  { t with tick := { t.tick with active := false } }

/-- The context of CLAIM in a handler. -/
def State.claimContext (s : State) (e l : Nat) : ClaimContext := tget (fun _ => ClaimContext.succeeds) s.claims (8 * e + l)

/-- The context of CLAIM in a handler written. -/
def State.setClaimContext (s : State) (e l : Nat) (c : ClaimContext) : State :=
  { s with claims := tset (fun _ => ClaimContext.succeeds) s.claims (8 * e + l) c }

/-- An entry commits for vector line v of engine e at level l (06 R302): the pending bit clears, the handler's CLAIM contends
for the claim-mode delivery it held, if any, and lines without another delivery retire. -/
def State.commitEntry (s : State) (e v l : Nat) : State :=
  let mine := s.deliveries.filter fun d => d.eng == e && d.vline == v && d.held.isNone
  let ctx := match mine.find? (·.claim) with
    | some d => match d.line with
      | some n => ClaimContext.contends n d.serial
      | none => .succeeds
    | none => .succeeds
  ((s.dropDeliveries fun d => d.eng == e && d.vline == v && d.held.isNone).setClaimContext e l ctx).retireDone
    (mine.filterMap (·.line))

/-- A delivery is claimed: every other handler that contends for it has lost it. -/
def loseClaims (n serial : Nat) (t : Table ClaimContext) : Table ClaimContext :=
  t.map fun p => if p.2 = .contends n serial then (p.1, .fails) else p

/-- The handlers that contend for a delivery, by 8·engine + level. -/
def contenders (n serial : Nat) (t : Table ClaimContext) : List Nat :=
  (t.filter fun p => p.2 == .contends n serial).map (·.1)

/-- The deliveries of one serial of a line withdrawn, and what else has set the vector pending bits that they hold (08 R421). -/
def State.withdraw (s : State) (n serial : Nat) : State :=
  let mine := s.deliveries.filter fun d => d.line == some n && d.serial == serial
  s.dropDeliveries fun d => mine.any fun x => d == x || (x.held.isNone && d.held.isNone && d.eng == x.eng && d.vline == x.vline)

/-- CLAIM in a handler (08 R421, R423, R424, R964): whether it wins, and the state after it. The winner clears the delivery's bit in
every other target, and the line retires. -/
def State.claim (s : State) (e l : Nat) : Bool × State :=
  match s.claimContext e l with
  | .succeeds => (true, s)
  | .fails => (false, s)
  | .contends n serial =>
    let t := ({ s with
      claims := loseClaims n serial s.claims
      tick := { s.ticked with claims := { eng := e, level := l, others := contenders n serial s.claims } :: s.ticked.claims } } : State).withdraw
        n serial
    (true, if (t.line n).taken && (t.line n).serial == serial then t.retire n else t)

/-- EVT SET (05 R274): the pending state of a vector line set. -/
def State.setVector (s : State) (e v : Nat) : State :=
  if s.vectorPending e v then s
  else { s with deliveries := s.deliveries ++ [{ line := none, eng := e, vline := v, serial := 0, claim := false, held := none }] }

/-- EVT CLR (05 R274): the pending state of a vector line cleared, its deliveries withdrawn. -/
def State.clearVector (s : State) (e v : Nat) : State :=
  let mine := s.deliveries.filter fun d => d.eng == e && d.vline == v && d.held.isNone
  (s.dropDeliveries fun d => d.eng == e && d.vline == v && d.held.isNone).retireDone (mine.filterMap (·.line))

/-- The level on IFC_IRQ[k] (08 R433). -/
def State.irqLevel (s : State) (k : Nat) : Bool :=
  bitAt (s.reg EVC_IRQEN) k && (List.range 256).any fun n =>
    s.linePending n && !s.lineMasked n && (s.get (EVC_ROUTE.IRQ n)).testBit k

/-- The lines of register i whose mask and pending bits a master may change (08 R430). -/
def State.writableLines (s : State) (o : Origin) (i : Nat) : List Nat :=
  (List.range 32).filter fun b => s.ringOf o != some 2 || s.on (EVC_ROUTE.HOSTM (32 * i + b))

/-- One bit of an EVC_PEND write (08 R431): only a masked line, or one with no target, changes. -/
def State.writePendBit (s : State) (v : Word) (n : Nat) : State :=
  if s.lineMasked n || s.get (EVC_ROUTE.TMASK n) == 0 then
    match bitAt v (lineBit n), s.linePending n with
    | false, true => (s.dropDeliveries fun d => d.line == some n).retire n
    | true, false => s.registerEvent n
    | _, _ => s
  else s

/-- The bits of an EVC_PEND write, one line after another. -/
def State.writePendBits (s : State) (v : Word) : List Nat → State
  | [] => s
  | n :: ns => (s.writePendBit v n).writePendBits v ns

/-- The lines of a list served in turn. -/
def State.serviceLines (s : State) : List Nat → State
  | [] => s
  | n :: ns => (s.serviceLine n).serviceLines ns

/-- The mask register with the writable bits of v (08 R409, R430). -/
def maskWith (old v : Word) : List Nat → Word
  | [] => old
  | b :: bs => maskWith (fieldSet old b b (bit (bitAt v b))) v bs

/-- The rules of a write to EVC_MASKi. -/
def writeEvcMask (i : Nat) (o : Origin) (v : Word) (s : State) : Effect :=
  let t := s.setReg (EVC_MASK i) (maskWith (s.reg (EVC_MASK i)) v (s.writableLines o i))
  .ok (t.serviceLines ((List.range 32).map (32 * i + ·)))

/-- The rules of a write to EVC_PENDi. -/
def writeEvcPend (i : Nat) (o : Origin) (v : Word) (s : State) : Effect :=
  .ok (s.writePendBits v ((s.writableLines o i).map (32 * i + ·)))

/-- Two routes that share a vector line of an engine agree on the level, and neither is in claim mode (08 R414, R415). -/
def State.routesAgree (s : State) (n m : Nat) : Bool :=
  n == m || s.get (EVC_ROUTE.VLINE n) != s.get (EVC_ROUTE.VLINE m) ||
    (s.get (EVC_ROUTE.TMASK n) &&& s.get (EVC_ROUTE.TMASK m)) == 0 ||
    (s.get (EVC_ROUTE.LVL n) == s.get (EVC_ROUTE.LVL m) && !s.on (EVC_ROUTE.CLAIMM n) && !s.on (EVC_ROUTE.CLAIMM m))

/-- The rules of a write to EVC_ROUTEn (08 R414 to R418). -/
def writeEvcRoute (n : Nat) (v : Word) (s : State) : Effect :=
  let t0 := s.plainWrite (EVC_ROUTE n) v
  let t := if 240 ≤ n then t0.put (EVC_ROUTE.ASST n) 1 else t0
  if (List.range 256).all fun m => t.routesAgree n m then .ok t else (Effect.denied s).conflict

/-- A doorbell write (08 R404): bit n registers EVn. -/
def writeEvcDoor (v : Word) (s : State) : Effect := .ok (s.registerEvents (onesBelow 16 v.toNat))

/-! ## The commands -/

/-- EVENT_REGISTRATION (R405); while the IFC domain is off none is kept (R437). -/
def execEventRegistration (n : Fin 256) (s : State) : Host.Outcome State Fault Refusal :=
  .next (if s.ifcOn then s.registerEvent n else s)

/-- LINE_RETIRE (R411): a carried line retires once no engine holds its delivery. -/
def execLineRetire (n : Fin 256) (s : State) : Host.Outcome State Fault Refusal := .next (s.retireIfDone n)

/-- MODERATION_RELEASE (R425). -/
def execModerationRelease (e : Fin 12) (s : State) : Host.Outcome State Fault Refusal :=
  .next (if s.releaseDue e then s.releaseHeld e else s)

/-- EVC_DOOR (R404). -/
def execEvcDoor (o : Origin) (v : Word) (s : State) : Host.Outcome State Fault Refusal :=
  .next (s.writeReg o EVC_DOOR v (writeEvcDoor v))

/-- EVC_MASK_WRITE (R409). -/
def execEvcMaskWrite (i : Fin 8) (o : Origin) (v : Word) (s : State) : Host.Outcome State Fault Refusal :=
  .next (s.writeReg o (EVC_MASK i) v (writeEvcMask i o v))

/-- EVC_PEND_WRITE (R431). -/
def execEvcPendWrite (i : Fin 8) (o : Origin) (v : Word) (s : State) : Host.Outcome State Fault Refusal :=
  .next (s.writeReg o (EVC_PEND i) v (writeEvcPend i o v))

/-- EVC_ROUTE_WRITE (R416). -/
def execEvcRouteWrite (n : Fin 256) (o : Origin) (v : Word) (s : State) : Host.Outcome State Fault Refusal :=
  .next (s.writeReg o (EVC_ROUTE n) v (writeEvcRoute n v))

end Sys2Proof.Machine
end

