-- ==== Sys2Proof/Machine/Plates.lean ====
section
/-! DEFINITION. Plates and capabilities: the capability word and its checks (09), ownership and handover of plates, host
accesses, ECC and the scrubber (10 R481 to R512). -/

namespace Sys2Proof.Machine

/-! ## Capabilities (09 R439 to R466) -/

def capType (c : CapWord) : Nat := (c.extractLsb' 0 4).toNat
def capObj (c : CapWord) : Nat := (c.extractLsb' 4 16).toNat
def capRights (c : CapWord) : Nat := (c.extractLsb' 20 12).toNat
def capGen (c : CapWord) : Nat := (c.extractLsb' 32 16).toNat
def capBase (c : CapWord) : Nat := (c.extractLsb' 48 32).toNat
def capLen (c : CapWord) : Nat := (c.extractLsb' 80 32).toNat
def capSeal (c : CapWord) : Nat := (c.extractLsb' 112 16).toNat

/-- A capability from its fields, SEAL 0 (09 R439). -/
def mkCap (type obj rights gen base len : Nat) : CapWord :=
  BitVec.ofNat 16 0 ++ BitVec.ofNat 32 len ++ BitVec.ofNat 32 base ++ BitVec.ofNat 16 gen ++
    BitVec.ofNat 12 rights ++ BitVec.ofNat 16 obj ++ BitVec.ofNat 4 type

/-- Rights, by their bit in RIGHTS (09 R441). -/
def rightRead : Nat := 0x001
def rightWrite : Nat := 0x002
def rightLoad : Nat := 0x004
def rightEnq : Nat := 0x008
def rightDeq : Nat := 0x010
def rightAtomic : Nat := 0x020
def rightTime : Nat := 0x040
def rightPinDrive : Nat := 0x080
def rightPinRead : Nat := 0x100
def rightDerive : Nat := 0x200
def rightRevoke : Nat := 0x400
def rightLogRead : Nat := 0x800

/-- Object types (09 R440). -/
def typePlate : Nat := 0x1
def typeQueue : Nat := 0x2
def typePin : Nat := 0x3
def typeTimer : Nat := 0x4
def typeVernier : Nat := 0x5
def typePort : Nat := 0x6
def typeFlow : Nat := 0x7
def typeKeySlot : Nat := 0x8
def typeTracker : Nat := 0x9
def typeChannel : Nat := 0xA

/-- Slot k of an engine: C0 to C15, and 16 the save-area capability. -/
def State.cap (s : State) (e k : Nat) : CapWord :=
  s.reg (CAP_W e k 3) ++ s.reg (CAP_W e k 2) ++ s.reg (CAP_W e k 1) ++ s.reg (CAP_W e k 0)

/-- A slot of an engine written. -/
def State.setCap (s : State) (e k : Nat) (c : CapWord) : State :=
  (((s.setReg (CAP_W e k 0) (c.extractLsb' 0 32)).setReg (CAP_W e k 1) (c.extractLsb' 32 32)).setReg
    (CAP_W e k 2) (c.extractLsb' 64 32)).setReg (CAP_W e k 3) (c.extractLsb' 96 32)

/-- Where the capability table's entries of a type begin in plate 1, and how many objects the type has (09 R440, R458). -/
def capTableAt (type : Nat) : Option (Nat × Nat) :=
  match type with
  | 0x1 => some (0x0000, 96)
  | 0x2 => some (0x0400, 1024)
  | 0x3 => some (0x1400, 48)
  | 0x4 => some (0x1500, 48)
  | 0x5 => some (0x1600, 24)
  | 0x6 => some (0x1680, 8)
  | 0x7 => some (0x2000, 4096)
  | 0x8 => some (0x1700, 64)
  | 0x9 => some (0x1800, 4)
  | 0xA => some (0x1900, 64)
  | _ => none

/-- The plate space address of an object's table entry. -/
def capEntryAt (type obj : Nat) : Option Nat :=
  match capTableAt type with
  | some (off, n) => if obj < n then some (0x10000 + off + 4 * obj) else none
  | none => none

/-- The generation in an object's table entry; 0 for no object. -/
def State.gen (s : State) (type obj : Nat) : Nat :=
  match capEntryAt type obj with
  | some a => ofLeBytes (s.bytes a 2)
  | none => 0

/-- HOSTM of an object's table entry. -/
def State.hostManaged (s : State) (type obj : Nat) : Bool :=
  match capEntryAt type obj with
  | some a => (s.byte (a + 2)).getLsbD 0
  | none => false

/-- An object's table entry written by the Assistant pair, over a word that holds no uncorrectable error (10 R503, R505). -/
def State.setEntry (s : State) (type obj gen : Nat) (hostm : Bool) : State :=
  match capEntryAt type obj with
  | some a => (s.plateWrite 4 a (leBytes 4 (gen % 65536 + 65536 * bit hostm))).2
  | none => s

/-- A bump of an object's generation (09 R459): 0x0000 and 0xFFFF stay, and bumps of one edge add 1 in total (R461). A generation that
reaches 0xFFFF is spent, and the Assistant pair records fault 0x10 for it (log entry 7). -/
def State.bump (s : State) (type obj : Nat) : State :=
  let g := s.gen type obj
  let k := type + 16 * obj
  if g = 0 ∨ g = 0xFFFF ∨ s.ticked.bumps.contains k then s
  else
    let t := ({ s with tick := { s.ticked with bumps := k :: s.ticked.bumps } } : State).setEntry type obj (g + 1)
      (s.hostManaged type obj)
    if g + 1 = 0xFFFF then t.logChange (originCode .assistant) 0x02 0x10 false k 0xFFFF 0
    else t

/-- The capability is current (09 R457). -/
def State.capCurrent (s : State) (c : CapWord) : Bool :=
  capGen c == s.gen (capType c) (capObj c) && capGen c != 0 && capGen c != 0xFFFF

/-- Reasons of CAP_VIOL, in the order in which they are looked for: 0x09 ADDRESS, 0x0A STAGE, 0x0B LENGTH, 0x06 ALIGN, 0x01
TYPE, 0x02 STALE, 0x03 RIGHTS, 0x04 RANGE, 0x07 NARROW, 0x0C WINDOW, 0x05 OWNER, 0x08 SEAL (09 R479). -/
def firstReason : List (Bool × Nat) → Option Nat
  | [] => none
  | (bad, r) :: rest => if bad then some r else firstReason rest

/-- The checks of R442 on a capability: TYPE, STALE, RIGHTS, in this order. -/
def State.capChecks (s : State) (c : CapWord) (types : List Nat) (rightsOk : Bool) : List (Bool × Nat) :=
  [(!types.contains (capType c), 0x01), (!s.capCurrent c, 0x02), (!rightsOk, 0x03)]

/-- A capability holds every right of a mask. -/
def capHas (c : CapWord) (rights : Nat) : Bool := (capRights c &&& rights) == rights

/-- Bytes [a, a + n) lie in the capability's range (09 R442). -/
def capCovers (c : CapWord) (a n : Nat) : Bool := decide (capBase c ≤ a) && decide (a + n ≤ capBase c + capLen c)

/-! ## Plate ownership (10 R483 to R495) -/

/-- The plate of an address. -/
def plateOf (a : Nat) : Nat := a / 0x10000

/-- The owner code of plate k. -/
def State.plateOwner (s : State) (k : Nat) : Nat := s.get (PLT_OWN.OWNER k)

/-- The plate store is in fused mode: reset and loading (10 R483). -/
def State.fused (s : State) : Bool := decide (s.get CLU_STAT.STATE ≤ 1)

/-- Engine e reaches plate k in normal service (04 R202, 15 R759). -/
def State.ownsPlate (s : State) (e k : Nat) : Bool := !s.fused && s.codeIsEngine (s.plateOwner k) e

/-- Owner codes of `PLT_OWNk`. -/
def plateOwnerCode (c : Nat) : Bool := c == 0 || c == 1 || c == 4 || (decide (0x10 ≤ c) && decide (c ≤ 0x1B))

/-- The handover waiting for a plate. -/
def State.handover (s : State) (k : Nat) : Handover := tget (fun _ => { owner := 0, origin := 0 }) s.handovers k

/-- The handover waiting for a plate written. -/
def State.setHandover (s : State) (k : Nat) (h : Handover) : State :=
  { s with handovers := tset (fun _ => { owner := 0, origin := 0 }) s.handovers k h }

/-- The descriptors in copy to the rings of plate k are transfers in progress when a handover begins (10 R493, R494; log entry 83). -/
def State.startCopies (s : State) (k : Nat) : State :=
  { s with queues := s.queues.map fun p =>
      if plateOf (s.get (QM_QRING.BASE p.1)) = k then (p.1, { p.2 with started := p.2.copying.length }) else p }

/-- The rules of a write to PLT_OWNk (10 R491, R492, R495). -/
def writePltOwn (k : Nat) (o : Origin) (v : Word) (s : State) : Effect :=
  let c := fieldOf v 4 0
  if k < 4 then .denied s
  else if s.on (PLT_OWN.PEND k) then .denied s
  else if !plateOwnerCode c then .kept s
  else if s.fused then .ok (s.put (PLT_OWN.OWNER k) c)
  else if c = s.plateOwner k then .ok s
  else .ok (((s.startCopies k).put (PLT_OWN.PEND k) 1).setHandover k { owner := c, origin := originCode o })

/-- The plate a bulk tag in flight touches. -/
def bulkPlate : BulkUse → Option Nat
  | .engineRead a _ => some (plateOf a)
  | .engineWrite a _ => some (plateOf a)
  | _ => none

/-- The engine that owns plate k has a locked sequence open: no other master accesses the plate (04 R219). -/
def State.plateLocked (s : State) (k : Nat) : Bool :=
  (List.range 12).any fun e => s.codeIsEngine (s.plateOwner k) e && s.on (ENG_STAT.LOCK e)

/-- The plate admits no new access of a master other than its owner: the owner has a locked sequence open, or a handover waits (04
R219, 10 R493). -/
def State.plateHeld (s : State) (k : Nat) : Bool := s.plateLocked k || s.on (PLT_OWN.PEND k)

/-- A plate that some byte of a range lies in is held. -/
def State.rangeHeld (s : State) (a n : Nat) : Bool :=
  !s.fused && (List.range (plateOf (a + n - 1) + 1 - plateOf a)).any fun i => s.plateHeld (plateOf a + i)

/-- Engine e runs and is inside a microword: it is stalled, or between the elements of a resumable one. -/
def State.midMicroword (s : State) (e : Nat) : Bool := s.get (ENG_STAT.STATE e) == 1 && s.on (ENG_STAT.STALL e)

/-- A transfer keeps a handover of plate k waiting (10 R494): a descriptor whose copy to a ring of the plate began before it, a busy
bulk tag of the old owner on the plate, an open locked sequence of the old owner, or a microword in progress of the old owner. -/
def State.handoverBlocked (s : State) (k : Nat) : Bool :=
  (s.queues.any fun p => decide (0 < p.2.started) && plateOf (s.get (QM_QRING.BASE p.1)) == k) ||
  (s.bulk.any fun p => bulkPlate p.2.use == some k && s.codeIsEngine (s.plateOwner k) (p.1 / 16)) ||
  s.plateLocked k || (List.range 12).any fun e => s.codeIsEngine (s.plateOwner k) e && s.midMicroword e

/-- A handover takes effect (10 R494, 18 R967): the owner changes, PEND clears, the generation is bumped and a record of kind
0x09 made. -/
def State.takeHandover (s : State) (k : Nat) : State :=
  let h := s.handover k
  let t := (((s.put (PLT_OWN.OWNER k) h.owner).put (PLT_OWN.PEND k) 0).setHandover k { owner := 0, origin := 0 }).bump typePlate k
  t.logChange h.origin 0x09 0 false k h.owner (t.gen typePlate k)

/-! ## Host accesses to plates (10 R489, R496 to R502, 21 R938) -/

/-- The bytes of a 64-bit beat. -/
def beatBytes (d : DWord) : List Byte := leBytes 8 d.toNat

/-- A beat of bytes. -/
def beatOf (bs : List Byte) : DWord := BitVec.ofNat 64 (ofLeBytes bs)

/-- The bytes of a write beat merged over the word: byte i where byte enable i is 1. -/
def mergeBytes : Nat → List Byte → List Byte → List Byte
  | be, o :: os, n :: ns => (if be % 2 = 1 then n else o) :: mergeBytes (be / 2) os ns
  | _, _, _ => []

/-- One beat of a host write to a plate: a word with all bytes enabled is written whole, a narrower one read first (10 R503,
R505). The Bool says it was performed. -/
def State.hostWriteBeat (s : State) (a be : Nat) (d : DWord) : Bool × State :=
  s.writeWord 1 a (mergeBytes be (s.bytes a 8) (beatBytes d)) (be % 256 != 0xFF)

/-- The beats of a host write, in order. -/
def State.hostWriteBeats (s : State) (a be : Nat) : List DWord → Bool × State
  | [] => (true, s)
  | d :: ds =>
    let r := s.hostWriteBeat a be d
    let q := r.2.hostWriteBeats (a + 8) be ds
    (r.1 && q.1, q.2)

/-- The beats of a host read, in order: none at an uncorrectable error. -/
def State.hostReadBeats (s : State) (a : Nat) : Nat → Option (List Byte) × State
  | 0 => (some [], s)
  | n + 1 =>
    let r := s.plateRead 1 a 8
    let q := r.2.hostReadBeats (a + 8) n
    (match r.1, q.1 with | some x, some y => some (x ++ y) | _, _ => none, q.2)

/-- The words of a list of bytes, least significant byte first. -/
def wordsOf : List Byte → List Word
  | b0 :: b1 :: b2 :: b3 :: bs => BitVec.ofNat 32 (ofLeBytes [b0, b1, b2, b3]) :: wordsOf bs
  | _ => []

/-- The answer of a read on the host slave port. -/
def State.hostAnswer (s : State) (resp : Nat) (data : List Word) : State :=
  { s with host := { resp, data, busy := resp == respRetry } }

/-- A host access to the plate window, `data` with one beat per 64 bits for a write, `meet` how it meets an access of
the other port of the plate to the same word in the tick (10 R499): 21 R940 orders the outcomes. -/
def State.hostPlate (s : State) (off : Nat) (write burst : Bool) (be : Nat) (data : List DWord) (meet : Meeting) : State :=
  let n := if burst then 4 else 1
  let a := if burst then off - 0x400000 else (off - 0x400000) / 8 * 8
  let none8 := List.replicate (2 * n) (0 : Word)
  let malformed := decide (off < 0x400000) || decide (0xA00000 ≤ off) || (burst && off % 32 != 0) ||
    (write && data.length != n)
  if s.hostError write off || malformed then s.hostAnswer respError (if write then [] else none8)
  else if (if s.fused then decide (plateOf a < 8) || decide (64 ≤ plateOf a) else s.plateOwner (plateOf a) != 1) then
    s.hostAnswer respDenied (if write then [] else none8)
  else if write then
    let r := s.hostWriteBeats a be data
    if r.1 then r.2.hostAnswer (if s.fused && meet == .later then respRetry else respOk) [] else r.2.hostAnswer respError []
  else
    match s.hostReadBeats a n with
    | (none, t) => t.hostAnswer respError none8
    | (some bs, t) =>
      if s.fused && meet != .alone then
        let f := t.fresh 256
        f.2.hostAnswer (if meet == .later then respRetry else respOk) ((List.range (2 * n)).map fun i => f.1.extractLsb' (32 * i) 32)
      else t.hostAnswer respOk (wordsOf bs)

/-! ## The commands -/

/-- PLT_OWN_WRITE (R491). -/
def execPltOwnWrite (k : Fin 96) (o : Origin) (v : Word) (s : State) : Host.Outcome State Fault Refusal :=
  .next (s.writeReg o (PLT_OWN k) v (writePltOwn k o v))

/-- HANDOVER_TAKES_EFFECT (R494) of a plate, and whether it falls in the tick of the bump before it (09 R461). -/
def execHandoverTakesEffect (k : Fin 96 × Bool) (s : State) : Host.Outcome State Fault Refusal :=
  .next (if s.on (PLT_OWN.PEND k.1) && !s.handoverBlocked k.1 then s.inTick k.2 fun t => t.takeHandover k.1 else s)

/-- HOST_PLATE_ACCESS (R489). -/
def execHostPlateAccess (off : BitVec 24) (write burst : Bool) (be : BitVec 8) (data : List DWord) (meet : Meeting)
    (s : State) : Host.Outcome State Fault Refusal :=
  .next (s.hostPlate off.toNat write burst be.toNat data meet)

/-- SCRUBBER_VISIT (R508, R509): the next word is read, and a corrected one written back if the tick after is idle too. -/
def execScrubberVisit (idle : Bool) (s : State) : Host.Outcome State Fault Refusal :=
  .next <|
    let a := 8 * s.scrubWord
    if !s.on PLT_SCRUB.INTV || s.fused || s.plateHeld (plateOf a) then s
    else
      let t := { s with scrubWord := (s.scrubWord + 1) % (plateBytes / 8) }
      if s.eccAt a = 2 then (t.noteUncorrectable 3 a).registerEvent 253
      else if s.eccAt a = 1 then
        let u := t.noteCorrected 3 a
        if idle then u.clearEcc a 8 else u
      else t

end Sys2Proof.Machine
end

