-- ==== Sys2Proof/Machine/Handoff.lean ====
section
/-! DEFINITION. Quads, stages and handoff slots (01 R16 to R28, R43, R44). -/

namespace Sys2Proof.Machine

/-- The engine that holds stage g of quad q (01 R17). -/
def State.stageEngine (s : State) (q g : Nat) : Nat := fieldOf (s.reg (CLU_QMAP q)) (4 * g + 3) (4 * g)

/-- The stage of an engine in its quad (01 R16, R17), none for an engine in no stage. -/
def State.stageOf (s : State) (e : Nat) : Option Nat := (List.range 4).find? fun g => s.stageEngine (e / 4) g == e

/-- The entries of the slot from stage a to stage b of quad q, oldest first. -/
def State.slot (s : State) (q a b : Nat) : List Word := tget (fun _ => []) s.handoff (16 * q + 4 * a + b)

/-- The same written. -/
def State.setSlot (s : State) (q a b : Nat) (l : List Word) : State :=
  { s with handoff := tset (fun _ => []) s.handoff (16 * q + 4 * a + b) l }

/-- How often this tick's commands have done something to the slot from stage a to stage b of quad q. -/
def inSlot (done : List Nat) (q a b : Nat) : Nat := done.count (16 * q + 4 * a + b)

/-- A put by engine e to stage d, judged by the fill level at the start of the tick (01 R20, R23): whether it succeeded, and the state. -/
def State.put8 (s : State) (e d : Nat) (v : Word) : Bool × State :=
  match s.stageOf e with
  | some g =>
    let l := s.slot (e / 4) g d
    if l.length + inSlot s.ticked.takes (e / 4) g d < 8 then
      (true, { s.setSlot (e / 4) g d (l ++ [v]) with tick := { s.ticked with puts := (16 * (e / 4) + 4 * g + d) :: s.ticked.puts } })
    else (false, s)
  | none => (false, s)

/-- A take by engine e from stage a, of an entry present at the start of the tick (01 R21 to R23): the entry, none from an empty slot,
and the state. -/
def State.take8 (s : State) (e a : Nat) : Option Word × State :=
  match s.stageOf e with
  | some g =>
    match s.slot (e / 4) a g with
    | v :: l =>
      if inSlot s.ticked.puts (e / 4) a g ≤ l.length then
        (some v, { s.setSlot (e / 4) a g l with tick := { s.ticked with takes := (16 * (e / 4) + 4 * a + g) :: s.ticked.takes } })
      else (none, s)
    | [] => (none, s)
  | none => (none, s)

/-- HINi of 05 R247. -/
def State.handoffIn (s : State) (e a : Nat) : Bool :=
  match s.stageOf e with
  | some g => a != g && !(s.slot (e / 4) a g).isEmpty
  | none => false

/-- HOUTi of 05 R247. -/
def State.handoffOut (s : State) (e d : Nat) : Bool :=
  match s.stageOf e with
  | some g => d != g && decide ((s.slot (e / 4) g d).length < 8)
  | none => false

/-- A stage map names four distinct engines of quad q (01 R43). -/
def qmapGood (q : Nat) (v : Word) : Bool :=
  let es := (List.range 4).map fun g => fieldOf v (4 * g + 3) (4 * g)
  es.all (fun e => e / 4 == q) && es.eraseDups.length == 4

/-- The rules of a write to CLU_QMAPq (01 R43). -/
def writeCluQmap (q : Nat) (v : Word) (s : State) : Effect :=
  if qmapGood q v then .ok (s.plainWrite (CLU_QMAP q) v) else (Effect.denied s).conflict

end Sys2Proof.Machine
end

