-- ==== Sys2Proof/Machine/Microword.lean ====
section
/-! DEFINITION. The microword: its stored form and parity (04 R225 to R227), its fields (05 R239), the illegal microwords (05 R240,
R279, R284) and the minimum microcycles (05 R285). -/

namespace Sys2Proof.Machine

/-- The fields of a microword (05 R239). -/
structure Micro where
  next : Nat
  seq : Nat
  csel0 : Nat
  csel1 : Nat
  csel2 : Nat
  csel3 : Nat
  ways : Nat
  cyc : Nat
  alu : Nat
  asrc : Nat
  bsrc : Nat
  dst : Nat
  shf : Nat
  ccu : Nat
  imm : Word
  mem : Nat
  amode : Nat
  qop : Nat
  top : Nat
  evt : Nat
  pin : Nat
  lens : Nat
  capr : Nat
  lock : Nat
  bkpt : Bool
  rsv : Bool
  deriving DecidableEq, Repr

/-- Parity group g of a stored word (04 R225): its 20 bits, the highest the parity bit. -/
def parityGroup (w : StoreWord) (g : Nat) : BitVec 20 := w.extractLsb' (20 * g) 20

/-- A parity group holds an odd number of ones (04 R226). -/
def groupGood (w : StoreWord) (g : Nat) : Bool :=
  (List.range 20).foldl (fun p k => p != (parityGroup w g).getLsbD k) false

/-- The parity groups that fail, as a mask (04 R227). -/
def parityFails (w : StoreWord) : Nat :=
  (List.range 8).foldl (fun m g => if groupGood w g then m else m + 2 ^ g) 0

/-- The 152 data bits of a stored word (04 R225). -/
def microData (w : StoreWord) : BitVec 152 :=
  w.extractLsb' 140 19 ++ w.extractLsb' 120 19 ++ w.extractLsb' 100 19 ++ w.extractLsb' 80 19 ++
    w.extractLsb' 60 19 ++ w.extractLsb' 40 19 ++ w.extractLsb' 20 19 ++ w.extractLsb' 0 19

/-- Data bits hi down to lo of a microword. -/
def microField (d : BitVec 152) (hi lo : Nat) : Nat := (d.extractLsb' lo (hi + 1 - lo)).toNat

/-- The fields of a stored word. -/
def microOf (w : StoreWord) : Micro :=
  let d := microData w
  { next := microField d 12 0, seq := microField d 16 13, csel0 := microField d 22 17, csel1 := microField d 28 23,
    csel2 := microField d 34 29, csel3 := microField d 40 35, ways := microField d 42 41, cyc := microField d 44 43,
    alu := microField d 50 45, asrc := microField d 56 51, bsrc := microField d 62 57, dst := microField d 68 63,
    shf := microField d 74 69, ccu := microField d 76 75, imm := d.extractLsb' 77 32, mem := microField d 113 109,
    amode := microField d 117 114, qop := microField d 122 118, top := microField d 127 123, evt := microField d 133 128,
    pin := microField d 137 134, lens := microField d 143 138, capr := microField d 147 144, lock := microField d 149 148,
    bkpt := d.getLsbD 150, rsv := d.getLsbD 151 }

/-- The Lens register numbers that IMM names (05 R276). -/
def Micro.ld (w : Micro) : Nat := fieldOf w.imm 2 0
def Micro.la (w : Micro) : Nat := fieldOf w.imm 5 3
def Micro.lb (w : Micro) : Nat := fieldOf w.imm 8 6
def Micro.lc (w : Micro) : Nat := fieldOf w.imm 11 9

/-- A code names a Lens half (05 R250, R256). -/
def lensHalf (code : Nat) : Bool := decide (0x20 ≤ code) && decide (code ≤ 0x2F)

/-- The Lens register of a Lens half. -/
def halfReg (code : Nat) : Nat := (code - 0x20) / 2

/-- A code lies in a range. -/
def codeIn (lo hi c : Nat) : Bool := decide (lo ≤ c) && decide (c ≤ hi)

/-- The operand source codes, destination codes and Lens operation codes that are not reserved. -/
def sourceCode (c : Nat) : Bool := decide (c ≤ 0x19) || lensHalf c
def destCode (c : Nat) : Bool := decide (c ≤ 0x13) || lensHalf c
def lensCode (c : Nat) : Bool := decide (c ≤ 0x0A) || codeIn 0x10 0x11 c || codeIn 0x14 0x1A c || codeIn 0x20 0x21 c || codeIn 0x28 0x2A c

/-- A field holds a reserved value (05 R240). -/
def Micro.reserved (w : Micro) : Bool :=
  w.rsv || decide (0xB ≤ w.seq) || decide (0x21 ≤ w.alu) || !sourceCode w.asrc || !sourceCode w.bsrc || !destCode w.dst ||
    decide (0x18 ≤ w.mem) || decide (7 ≤ w.amode) || codeIn 6 7 w.qop || decide (0x10 ≤ w.qop) || decide (0x15 ≤ w.top) ||
    decide (8 ≤ w.evt) || decide (0xA ≤ w.pin) || !lensCode w.lens

/-- A plate load, store or atomic operation (05 R262). -/
def plateOp (m : Nat) : Bool := codeIn 0x01 0x0A m

/-- The block operations. -/
def blockOp (m : Nat) : Bool := codeIn 0x0B 0x0D m

/-- A Lens vector operation. -/
def vectorOp (l : Nat) : Bool := codeIn 0x28 0x2A l

/-- A CORDIC operation. -/
def cordicOp (l : Nat) : Bool := codeIn 0x20 0x21 l

/-- The microword starts a resumable operation (04 R179). -/
def Micro.resumable (w : Micro) : Bool := blockOp w.mem || cordicOp w.lens || vectorOp w.lens

/-- How many registers each field's operation writes from DST on (05 R258, R262, R269, R272, R274, R275). -/
def memDst (m : Nat) : Nat :=
  bit (codeIn 0x01 0x04 m || codeIn 0x09 0x0B m || codeIn 0x0D 0x0F m || m == 0x17)
def qopDst (q : Nat) : Nat := bit (codeIn 0x02 0x04 q || codeIn 0x0C 0x0F q)
def topDst (t : Nat) : Nat :=
  match t with
  | 0x01 => 3
  | 0x02 => 3
  | 0x03 => 4
  | 0x0B => 3
  | 0x07 => 1
  | 0x0D => 1
  | 0x0E => 1
  | _ => 0
def evtDst (e : Nat) : Nat := bit (codeIn 6 7 e)
def pinDst (p : Nat) : Nat := bit (codeIn 2 3 p || p == 8)

/-- The same for each field other than ALU. -/
def Micro.dstWrites (w : Micro) : List Nat := [memDst w.mem, qopDst w.qop, topDst w.top, evtDst w.evt, pinDst w.pin]

/-- How many registers an operation reads from BSRC on (05 R259, R272). -/
def topGroup (t : Nat) : Nat :=
  match t with
  | 0x04 => 3
  | 0x05 => 3
  | 0x08 => 2
  | 0x11 => 2
  | 0x13 => 3
  | _ => 0

/-- The ALU operation delivers a result (05 R252). -/
def aluResult (a : Nat) : Bool := !(a == 0 || a == 0x12 || a == 0x13)

/-- How many registers the microword writes from DST on. -/
def Micro.dstCount (w : Micro) : Nat :=
  let n := w.dstWrites.foldl Nat.max 0
  if n = 0 then bit (aluResult w.alu) else n

/-- The microword writes DST. -/
def Micro.writesDst (w : Micro) : Bool := w.dstWrites.any (· != 0) || aluResult w.alu

/-- An operation of the microword reads A, and one reads B (05 R242, R252, R260, R262, R269, R272, R274, R275, R277, 06 R328). -/
def Micro.readsA (w : Micro) : Bool :=
  !(w.alu == 0 || w.alu == 0x02 || codeIn 0x0C 0x0D w.alu || codeIn 0x17 0x1B w.alu) || w.seq == 0x8 || codeIn 2 6 w.amode ||
    codeIn 0x0B 0x10 w.mem || (codeIn 0x12 0x13 w.mem && bitAt w.imm 5) || w.mem == 0x14 || w.mem == 0x17 || w.qop == 1 ||
    w.qop == 5 || codeIn 0x04 0x0A w.top || w.top == 0x0C || codeIn 0x0E 0x11 w.top || codeIn 2 3 w.evt || vectorOp w.lens
def Micro.readsB (w : Micro) : Bool :=
  decide (2 ≤ w.alu) || w.amode == 4 || codeIn 0x05 0x0F w.mem || w.mem == 0x14 || codeIn 0x8 0xB w.qop || codeIn 0x04 0x05 w.top ||
    codeIn 0x07 0x09 w.top || codeIn 0x0C 0x0D w.top || w.top == 0x0F || codeIn 0x11 0x14 w.top || w.pin == 1 || codeIn 4 5 w.pin ||
    w.pin == 9 || vectorOp w.lens

/-- The operations of a microword that need a capability (05 R281), by field. -/
def memCap (m : Nat) : Bool := codeIn 0x01 0x0F m || codeIn 0x14 0x17 m
def qopCap (q : Nat) : Bool := codeIn 1 5 q
def topCap (t : Nat) : Bool := codeIn 0x08 0x0C t || t == 0x11
def Micro.caps (w : Micro) : Nat :=
  bit (memCap w.mem) + bit (qopCap w.qop) + bit (topCap w.top) + bit (w.pin != 0) + bit (vectorOp w.lens)

/-- The greatest minimum microcycle of the microword's operations (05 R285). -/
def Micro.minTicks (w : Micro) : Nat :=
  let alu := if codeIn 0x14 0x16 w.alu then 2 else 1
  let mem := if codeIn 0x01 0x04 w.mem || w.mem == 0x14 then 2 else if codeIn 0x09 0x0A w.mem then 3
    else if codeIn 0x12 0x13 w.mem || w.mem == 0x15 then 4 else 1
  let qop := if w.qop == 1 || codeIn 4 5 w.qop then 2 else if codeIn 2 3 w.qop then 3 else 1
  let top := if w.top == 0x03 || w.top == 0x0B then 3 else if codeIn 0x04 0x0D w.top || codeIn 0x10 0x14 w.top then 2 else 1
  let pin := if w.pin == 0 then 1 else 2
  [alu, mem, qop, top, pin].foldl Nat.max 1

/-- The first registers of the pairs that QCMAC, CROT and CVEC name (05 R279). -/
def Micro.pairs (w : Micro) : List Nat :=
  if w.lens == 0x0A then [w.ld, w.la, w.lb, w.lc] else if cordicOp w.lens then [w.ld, w.la] else []

/-- The rows of the table under R284, in its order. -/
def Micro.combos (w : Micro) : List Bool :=
  [ decide (w.cyc + 1 < w.minTicks),
    decide (1 < (w.dstWrites.filter (· != 0)).length),
    w.dstWrites.any (fun n => decide (2 ≤ n) && decide (16 - n < w.dst)) ||
      (topGroup w.top != 0 && decide (16 - topGroup w.top < w.bsrc)),
    codeIn 0x0B 0x0F w.mem && decide (16 ≤ w.dst),
    (w.mem == 0x04 && !lensHalf w.dst) || (w.mem == 0x08 && !lensHalf w.bsrc),
    plateOp w.mem != (w.amode != 0),
    codeIn 5 6 w.amode && decide (16 ≤ w.asrc),
    codeIn 5 6 w.amode && decide (w.dst < 16) && decide (w.dst ≤ w.asrc) && decide (w.asrc < w.dst + w.dstCount),
    decide (1 < w.caps),
    vectorOp w.lens && w.mem != 0,
    w.ccu == 3 && w.lens != 0x03,
    w.lens != 0 && w.mem == 0x04 && [w.dst, w.asrc, w.bsrc].any (fun c => lensHalf c && halfReg c == w.ld),
    w.pairs.any (fun r => r % 2 == 1),
    w.resumable && (w.seq == 0x5 || w.seq == 0x6 || w.seq == 0x7 || w.seq == 0x3),
    codeIn 9 0xA w.seq && (w.mem != 0 || w.qop != 0 || w.top != 0 || w.evt != 0 || w.pin != 0) ]

/-- The word itself makes the microword illegal (05 R240). -/
def Micro.illegal (w : Micro) : Bool := w.reserved || w.combos.any id

end Sys2Proof.Machine
end

