-- ==== Sys2Proof/Machine/Pins.lean ====
section
/-! DEFINITION. Field pins (12 R621 to R630, R966), stamp points (02 R54 to R66, R116) and the 1PPS generator (12 R660 to
R662). -/

namespace Sys2Proof.Machine

/-! ## Stamps -/

/-- The increment Δ of the next TCLK edge without its slew part (02 R49), in units of 2^-40 ns. -/
def State.rateStep (s : State) : Int := 2 ^ 41 + 2 * signed 32 (s.reg RGL_RATE).toNat

/-- σ of 02 R86: 2^41·PPM/10^6 units of 2^-40 ns, rounded to the nearest, ties away from zero. -/
def State.slewStep (s : State) : Nat := (2 * 2 ^ 41 * s.get RGL_SLEW.PPM + 1000000) / 2000000

/-- Δ with the slew part. -/
def State.increment (s : State) : Int :=
  s.rateStep + (if s.rgl.q = 0 then 0 else if s.rgl.q < 0 then -(s.slewStep : Int) else s.slewStep)

/-- A stamp point, by RGL_PINCAL index. -/
def State.stampPoint (s : State) (i : Nat) : StampPoint :=
  tget (fun _ => { riseAt := none, fallAt := none, rise := 0, fall := 0, riseNo := 0, fallNo := 0 }) s.stamps i

/-- A stamp point written. -/
def State.setStampPoint (s : State) (i : Nat) (p : StampPoint) : State :=
  { s with stamps := tset (fun _ => { riseAt := none, fallAt := none, rise := 0, fall := 0, riseNo := 0, fallNo := 0 }) s.stamps i p }

/-- The index of a field pin's input and output stamp point (02 R58). -/
def pinInput (k : Nat) : Nat := 0x10 + k
def pinOutput (k : Nat) : Nat := 0x40 + k

/-- A point is an output point (02 R58, `RGL_PINCAL.DIR`). -/
def outputPoint (i : Nat) : Bool :=
  (decide (0x08 ≤ i) && decide (i < 0x10)) || (decide (0x40 ≤ i) && decide (i < 0x70)) || i == 0x74 || i == 0x76

/-- D of 02 R61, in units of 2^-16 ns. -/
def State.padDelay (s : State) (i : Nat) : Int :=
  (s.get (RGL_PINCAL.DLY i) * 1024 : Nat) +
    (if s.on RGL_CTL.TCOMP then signed 8 (s.get (RGL_PINCAL.TC i)) * (s.rgl.theta - 25) else 0)

/-- The stamp of an edge in bin b of the present TCLK period (02 R55, R60, R66), in units of 2^-16 ns. Where the correction takes
it below cluster time 0 it is 0 (DESIGN CHOICE, log entry 81). -/
def State.stampOf (s : State) (i b : Nat) : Nat :=
  let raw := ((s.rgl.time : Int) + b * s.increment / 32) / 2 ^ 24
  let d := if s.on RGL_CTL.PCBYP then 0 else s.padDelay i
  (if outputPoint i then raw + d else raw - d).toNat

/-- An edge at a stamp point, at a bin counted from edge 0, stamped v unless it follows a stamped edge of its polarity by less than 4 ns,
64 bins (02 R55, R56). The Bool says that it was. -/
def State.putStamp (s : State) (i : Nat) (rising : Bool) (at_ : Nat) (v : Time96) : Bool × State :=
  let p := s.stampPoint i
  let last := if rising then p.riseAt else p.fallAt
  if last.any fun t => decide (at_ < t + 64) then (false, s)
  else
    let no := s.stampCount + 1
    let q := if rising then { p with riseAt := some at_, rise := v, riseNo := no }
      else { p with fallAt := some at_, fall := v, fallNo := no }
    (true, { s.setStampPoint i q with stampCount := no })

/-- An edge at a stamp point in bin b of the present TCLK period. -/
def State.stampEdge (s : State) (i : Nat) (rising : Bool) (b : Nat) : Bool × State :=
  s.putStamp i rising (32 * s.rgl.edge + b) (toTime96 (s.stampOf i b))

/-- The latest stamp of a polarity at a point. -/
def State.stampValue (s : State) (i : Nat) (rising : Bool) : Time96 :=
  if rising then (s.stampPoint i).rise else (s.stampPoint i).fall

/-- The 32-bit form of a stamp (07 R383): 62.5 ps units modulo 2^32. -/
def stampWord (t : Time96) : Word := BitVec.ofNat 32 (ofTime96 t / 4096)

/-! ## The frame clocks of the Occultation channels (13) -/

/-- An Occultation channel's hidden state at reset. -/
def channel0 : OccChannel := { edges := [], samples := 0, runEdge := 0, next := 0, front := none, made := false, seq := 0 }

/-- Occultation channel c. -/
def State.channel (s : State) (c : Nat) : OccChannel := tget (fun _ => channel0) s.channels c

/-- Occultation channel c written. -/
def State.setChannel (s : State) (c : Nat) (x : OccChannel) : State :=
  { s with channels := tset (fun _ => channel0) s.channels c x }

/-- A stamped rising edge of the frame clock of channel c, `before` the state ahead of it: FCPER follows, and in RUN a sample
begins at it (13 R664, R669, R670). -/
def State.frameClock (before s : State) (c : Nat) : State :=
  let new := (s.stampPoint (112 + c)).riseAt.getD 0
  let t := match (before.stampPoint (112 + c)).riseAt with
    | some old => s.put (OCC_CHSTAT.FCPER c) (Nat.min (new - old) 0xFFFF)
    | none => s
  let x := t.channel c
  if t.get (OCC_CHSTAT.STATE c) = 2 then
    t.setChannel c { x with edges := (ofTime96 (t.stampPoint (112 + c)).rise :: x.edges).take 64, samples := x.samples + 1 }
  else t

/-! ## Levels -/

/-- The level at the ball of FLDk. -/
def State.pinLevel (s : State) (k : Nat) : Bool :=
  if k < 32 then bitAt (s.reg FLD_IN0) k else bitAt (s.reg FLD_IN1) (k - 32)

/-- FLD_GPOUT bit of FLDk. -/
def State.pinOut (s : State) (k : Nat) : Bool :=
  if k < 32 then bitAt (s.reg FLD_GPOUT0) k else bitAt (s.reg FLD_GPOUT1) (k - 32)

/-- FLD_GPOUT bit of FLDk written. -/
def State.setPinOut (s : State) (k : Nat) (b : Bool) : State :=
  if k < 32 then s.setBit FLD_GPOUT0 k b else s.setBit FLD_GPOUT1 (k - 32) b

/-- The level at the ball of FLDk written. -/
def State.putPinLevel (s : State) (k : Nat) (b : Bool) : State :=
  if k < 32 then s.setBit FLD_IN0 k b else s.setBit FLD_IN1 (k - 32) b

/-- A new level at the ball of FLDk: an edge registers EV(32 + k) if its polarity is enabled (12 R626, 08 R406), and every
pin event acts whatever the pin's function (12 R622). -/
def State.setPinLevel (s : State) (k : Nat) (b : Bool) : State :=
  if s.pinLevel k = b then s
  else
    let t := s.putPinLevel k b
    if s.on (if b then FLD_CFG.EVR k else FLD_CFG.EVF k) then t.catchEdge (32 + k) else t

/-! ## Drives -/

/-- A Vernier's hidden state at its start (12 R631). -/
def vernier0 : Vernier :=
  { ir := 0, next := 0, left := 0, taken := 0, txh := 0, rxh := 0, drive := 0, enable := 0, frame := none, clock := 1,
    flagMask := 0, flagEdge := 0, flagByEngine := false, startNo := 0, was := 0 }

/-- Vernier v. -/
def State.vernier (s : State) (v : Nat) : Vernier := tget (fun _ => vernier0) s.verniers v

/-- Vernier v written. -/
def State.setVernier (s : State) (v : Nat) (x : Vernier) : State :=
  { s with verniers := tset (fun _ => vernier0) s.verniers v x }

/-- Slot i of Vernier v is enabled (12 R632). -/
def State.slotOn (s : State) (v i : Nat) : Bool := bitAt (s.reg (VRN_PINS v)) (7 * i + 6)

/-- The pin of slot i of Vernier v. -/
def State.slotPin (s : State) (v i : Nat) : Nat := fieldOf (s.reg (VRN_PINS v)) (7 * i + 5) (7 * i)

/-- A timer's hidden state at reset. -/
def timer0 : Timer :=
  { count := 0, compare := 0, done := 0, startEdge := 0, level := false, target := 0, tracker := 0, late := false, latched := none,
    past := [], eventEdge := none, seenRise := 0, seenFall := 0 }

/-- Timer n of engine e. -/
def State.timer (s : State) (e n : Nat) : Timer := tget (fun _ => timer0) s.timers (4 * e + n)

/-- Timer n of engine e written. -/
def State.setTimer (s : State) (e n : Nat) (x : Timer) : State :=
  { s with timers := tset (fun _ => timer0) s.timers (4 * e + n) x }

/-- The engine and the timer that a pin's OWNER names as 4·e + n, by the engine map (15 R759). -/
def State.pinTimer (s : State) (k : Nat) : Nat × Nat := (s.engMap (s.get (FLD_CFG.OWNER k) / 4), s.get (FLD_CFG.OWNER k) % 4)

/-- The chart gives pin k to the compare of timer n of engine e (07 R373, 12 R621). -/
def State.timerHasPin (s : State) (e n k : Nat) : Bool := s.get (FLD_CFG.FUNC k) == 3 && s.pinTimer k == (e, n)

/-- The drive of a pin's owning function, none at high impedance (12 R621). Of two slots of one Vernier that map to the pin
with their output enable set, the lower drives it (log entry 11). -/
def State.functionDrive (s : State) (k : Nat) : Option Bool :=
  let o := s.get (FLD_CFG.OWNER k)
  match s.get (FLD_CFG.FUNC k) with
  | 1 => some (s.pinOut k)
  | 2 => ((List.range 4).find? fun i => s.slotOn o i && s.slotPin o i == k && (s.vernier o).enable.testBit i).map
      fun i => (s.vernier o).drive.testBit i
  | 3 =>
    let (e, n) := s.pinTimer k
    if s.on (TMR_IO.OEN e n) && s.get (TMR_IO.OPIN e n) == k then some (s.timer e n).level else none
  | 5 => some s.pps.fallAt.isSome
  | _ => none

/-- The pin is in its safe state (12 R627). -/
def State.pinSafe (s : State) (k : Nat) : Bool :=
  !s.ifcOn || s.get CLU_STAT.STATE == 0 || s.get CLU_STAT.STATE == 1 || s.get CLU_STAT.STATE == 5 ||
    s.get CLU_STAT.STATE == 6 || s.get CLU_STAT.STATE == 7 || s.on (FLD_CFG.FORCE k) ||
    (s.get (FLD_CFG.FUNC k) == 2 && s.get (VRN_STAT.STATE (s.get (FLD_CFG.OWNER k))) == 4)

/-- What drives FLDk, none at high impedance (12 R624, R628). -/
def State.pinDrive (s : State) (k : Nat) : Option Bool :=
  if s.pinSafe k then
    match s.get (FLD_CFG.SAFE k) with
    | 0 => some false
    | 1 => some true
    | _ => none
  else if s.on (FLD_CFG.OD k) && s.functionDrive k == some true then none
  else s.functionDrive k

/-- The drive of FLDk reaches its ball; a pin at high impedance keeps the level that the outside gives it. -/
def State.settlePin (s : State) (k : Nat) : State :=
  match s.pinDrive k with
  | some b => s.setPinLevel k b
  | none => s

/-- The drives of some pins reach their balls. -/
def State.settlePins (s : State) : List Nat → State
  | [] => s
  | k :: ks => (s.settlePin k).settlePins ks

/-- The drives of all pins reach their balls. -/
def State.settleAll (s : State) : State := s.settlePins (List.range 48)

/-- The pins of a Vernier. -/
def State.vernierPins (s : State) (v : Nat) : List Nat :=
  (List.range 48).filter fun k => s.get (FLD_CFG.FUNC k) == 2 && s.get (FLD_CFG.OWNER k) == v

/-- PINWR by engine e (12 R625): it acts only on a general-purpose pin of the engine. -/
def State.pinWrite (s : State) (e k : Nat) (b : Bool) : State :=
  if s.get (FLD_CFG.FUNC k) == 1 && s.engMap (s.get (FLD_CFG.OWNER k)) == e then (s.setPinOut k b).settlePin k else s

/-- The rules of a write to FLD_CFGk (12 R621, R629, R966): a reserved FUNC or SAFE leaves its field unchanged. -/
def writeFldCfg (k : Nat) (v : Word) (s : State) : Effect :=
  let t := s.plainWrite (FLD_CFG k) v
  let badFunc := decide (6 ≤ fieldOf v 2 0)
  let badSafe := fieldOf v 19 18 == 3
  let t1 := if badFunc then t.put (FLD_CFG.FUNC k) (s.get (FLD_CFG.FUNC k)) else t
  let t2 := if badSafe then t1.put (FLD_CFG.SAFE k) (s.get (FLD_CFG.SAFE k)) else t1
  { state := t2.settlePin k, refused := badFunc || badSafe }

/-! ## The 1PPS generator -/

/-- How many rising instants lie at or before a cluster time, in units of 2^-16 ns. -/
def ppsCount (ofs u : Nat) : Nat := if u < ofs * 65536 then 0 else (u - ofs * 65536) / unitsPerSec + 1

/-- The pins with FUNC 1PPS. -/
def State.ppsPins (s : State) : List Nat := (List.range 48).filter fun k => s.get (FLD_CFG.FUNC k) == 5

/-- The generator follows a step of cluster time from `before` (12 R662): the rising instants that a forward step passes over
are not emitted and SKIP counts them. -/
def State.ppsStep (s : State) (before : Nat) : State :=
  let ofs := s.get FLD_PPSOFS.OFS
  let m := ppsCount ofs s.now - ppsCount ofs before
  { s.count FLD_PPSCNT.SKIP m with pps := { s.pps with handled := s.pps.handled + m } }

/-- The generator takes up a cluster time that a load has set. -/
def State.ppsRebase (s : State) : State :=
  { s with pps := { handled := ppsCount (s.get FLD_PPSOFS.OFS) s.now, fallAt := none } }

/-- A write to FLD_PPS: WIDTH is held between 1 and 999 999. -/
def writeFldPps (v : Word) (s : State) : Effect :=
  let w := fieldOf v 19 0
  .ok ((s.plainWrite FLD_PPS v).put FLD_PPS.WIDTH (if w = 0 then 1 else if 999999 < w then 999999 else w))

/-- A write to FLD_PPSOFS: a value above 999 999 999 leaves the field unchanged. -/
def writeFldPpsofs (v : Word) (s : State) : Effect :=
  if 999999999 < fieldOf v 29 0 then .kept s
  else
    let t := s.plainWrite FLD_PPSOFS v
    .ok { t with pps := { t.pps with handled := ppsCount (t.get FLD_PPSOFS.OFS) t.now } }

/-! ## The commands -/

/-- STAMP_POINT_EDGE (R55): an edge at point i in bin b of the present TCLK period. -/
def execStampPointEdge (i : Fin 119) (rising : Bool) (b : Fin 32) (s : State) : Host.Outcome State Fault Refusal :=
  .next <|
    if !s.pllsRun then s
    else
      let r := s.stampEdge i rising b
      if r.1 && rising && decide (112 ≤ i.val) && decide (i.val < 115) then s.frameClock r.2 (i - 112) else r.2

/-- FIELD_PIN_EDGE (R406, R437): the outside gives a pin at high impedance a new level. While the IFC domain is off an edge
sets its wake latch if its enable is 1. -/
def execFieldPinEdge (k : Fin 48) (level : Bool) (s : State) : Host.Outcome State Fault Refusal :=
  .next <|
    if s.pinLevel k = level then s
    else if !s.ifcOn then
      let t := s.putPinLevel k level
      if k.val < 32 then
        if bitAt (s.reg EVC_WAKEEN0) k then t.setBit EVC_WAKELAT0 k true else t
      else if bitAt (s.reg EVC_WAKEEN1) (k - 32) then t.setBit EVC_WAKELAT1 (k - 32) true else t
    else if (s.pinDrive k).isSome then s
    else s.setPinLevel k level

/-- FLD_CFG_WRITE (R966). -/
def execFldCfgWrite (k : Fin 48) (o : Origin) (v : Word) (s : State) : Host.Outcome State Fault Refusal :=
  .next (s.writeReg o (FLD_CFG k) v (writeFldCfg k v))

/-- PPS_RISING (R660, R661): a rising instant that has come, at the QGATE rule. -/
def execPpsRising (s : State) : Host.Outcome State Fault Refusal :=
  .next <|
    let c := ppsCount (s.get FLD_PPSOFS.OFS) s.now
    if !s.pllsRun || c ≤ s.pps.handled then s
    else
      let good := s.get RGL_QUAL.STATE == 3 || s.get RGL_QUAL.STATE == 4
      let t := { s with pps := { s.pps with handled := s.pps.handled + 1 } }
      if s.on FLD_PPS.QGATE && !good then t.count FLD_PPSCNT.SUPP 1
      else
        let rise := s.pps.handled * unitsPerSec + s.get FLD_PPSOFS.OFS * 65536
        ({ t with pps := { t.pps with fallAt := some (rise + s.get FLD_PPS.WIDTH * 65536000) } }).settlePins s.ppsPins

/-- PPS_FALLING (R660): WIDTH µs after the rising edge. -/
def execPpsFalling (s : State) : Host.Outcome State Fault Refusal :=
  .next <|
    match s.pps.fallAt with
    | some f => if s.pllsRun && decide (f ≤ s.now) then
        ({ s with pps := { s.pps with fallAt := none } }).settlePins s.ppsPins else s
    | none => s

end Sys2Proof.Machine
end

