-- ==== Sys2Proof/Machine/Verniers.lean ====
section
/-! DEFINITION. The Verniers (12 R631 to R659). A command of an instruction's row is one step edge of a Vernier at which that
instruction begins or goes on (log entry 12). -/

namespace Sys2Proof.Machine

/-! ## Start, stop and restart (12 R637 to R641) -/

/-- The address after an instruction at `a` that did not branch, and the repeat frame then (12 R644). -/
def afterInsn (a : Nat) : Option RepeatFrame → Nat × Option RepeatFrame
  | some f =>
    if a = f.last then
      if f.count = 0 then ((a + 1) % 32, none) else (f.start, some { f with count := f.count - 1 })
    else ((a + 1) % 32, some f)
  | none => ((a + 1) % 32, none)

/-- An instruction in progress is a WAIT of kind 3 (12 R646). -/
def waitsRestart (ir : BitVec 16) : Bool := ir.extractLsb' 10 6 == 0x27#6

/-- START on Vernier v, by its state (12 R637, R638). -/
def State.vernierStart (s : State) (v : Nat) : State :=
  let x := s.vernier v
  match s.get (VRN_STAT.STATE v) with
  | 0 | 4 =>
    let entry := s.get (VRN_CTL.ENTRY v)
    let t := ((s.put (VRN_STAT.PC v) entry).put (VRN_STAT.ELAT v) 0).put (VRN_STAT.STATE v) 1
    (t.setVernier v { x with next := entry, left := 0, taken := 0, frame := none, clock := s.reg (VRN_CLK v),
                             startNo := s.stampCount }).settlePins (s.vernierPins v)
  | 1 => s.setVernier v { x with clock := s.reg (VRN_CLK v) }
  | 2 =>
    if waitsRestart x.ir then
      let n := afterInsn (s.get (VRN_STAT.PC v)) x.frame
      (s.put (VRN_STAT.STATE v) 1).setVernier v { x with clock := s.reg (VRN_CLK v), next := n.1, frame := n.2, left := 0 }
    else s.setVernier v { x with clock := s.reg (VRN_CLK v) }
  | _ => s

/-- A start that does not act on a fault-stopped Vernier (12 R637, R658: it leaves that state only when START is written). -/
def State.vernierRestart (s : State) (v : Nat) : State :=
  if s.get (VRN_STAT.STATE v) = 4 then s else s.vernierStart v

/-- STOP on Vernier v (12 R639). -/
def State.vernierStop (s : State) (v : Nat) : State :=
  if s.get (VRN_STAT.STATE v) = 1 ∨ s.get (VRN_STAT.STATE v) = 2 then
    (s.put (VRN_STAT.STATE v) 0).setVernier v { s.vernier v with left := 0 }
  else s

/-- The joined Verniers of a group, started in turn. -/
def State.startJoined (s : State) : List Nat → State
  | [] => s
  | v :: vs => (if s.on (VRN_CTL.GJOIN v) then s.vernierRestart v else s).startJoined vs

/-- A group start of group g (12 R640, R641). -/
def State.groupStart (s : State) (g : Nat) : State := s.startJoined ((List.range 8).map (8 * g + ·))

/-- Group starts of several groups. -/
def State.groupStarts (s : State) : List Nat → State
  | [] => s
  | g :: gs => (s.groupStart g).groupStarts gs

/-! ## Drives, samples and holding registers -/

/-- Vernier v has its slot's pin (12 R659). -/
def State.slotOwned (s : State) (v i : Nat) : Bool :=
  s.get (FLD_CFG.FUNC (s.slotPin v i)) == 2 && s.get (FLD_CFG.OWNER (s.slotPin v i)) == v

/-- A Vernier fault 0x15 on EV252 (12 R658, R659). -/
def State.vernierFault (s : State) : State := s.registerEvent 252

/-- A drive or an output enable of Vernier v on slot i (12 R632, R659): discarded on a disabled slot, reported on a pin that
the Vernier does not have. -/
def State.driveSlot (s : State) (v i : Nat) (enable b : Bool) : State :=
  if !s.slotOn v i then s
  else if !s.slotOwned v i then (s.put (VRN_STAT.PINCONF v) 1).vernierFault
  else
    let x := s.vernier v
    let set (w : Nat) : Nat := if b then w ||| 2 ^ i else w - (w &&& 2 ^ i)
    (s.setVernier v (if enable then { x with enable := set x.enable } else { x with drive := set x.drive })).settlePin (s.slotPin v i)

/-- Drives or output enables on the slots of a list. -/
def State.driveSlots (s : State) (v : Nat) (enable : Bool) (bits : Nat) : List Nat → State
  | [] => s
  | i :: is => (s.driveSlot v i enable (bits.testBit i)).driveSlots v enable bits is

/-- A sample of slot i (12 R632, R647). -/
def State.sampleSlot (s : State) (v i : Nat) : Bool := s.slotOn v i && s.pinLevel (s.slotPin v i)

/-- The event of Vernier v, EV(80 + v). -/
def vernierLine (v : Nat) : Nat := 80 + v

/-- An engine PUSH (12 R650): whether TXH was empty, and the state after it. -/
def State.vernierPush (s : State) (v : Nat) (w : Word) : Bool × State :=
  if s.on (VRN_STAT.TXF v) then (false, s)
  else (true, (s.put (VRN_STAT.TXF v) 1).setVernier v { s.vernier v with txh := w })

/-- An engine PULL (12 R650): RXH's word if it was full, and the state after it. -/
def State.vernierPull (s : State) (v : Nat) : Option Word × State :=
  if s.on (VRN_STAT.RXF v) then (some (s.vernier v).rxh, s.put (VRN_STAT.RXF v) 0) else (none, s)

/-- Flags set or cleared by the Vernier or by the owning engine. A clear does not undo a set that the other party made within
the same TCLK period (12 R652). -/
def State.vernierFlags (s : State) (v : Nat) (byEngine set : Bool) (mask : Nat) : State :=
  let x := s.vernier v
  if set then
    let old := if x.flagEdge = s.rgl.edge ∧ x.flagByEngine = byEngine then x.flagMask else 0
    (s.orBits (VRN_STAT.FLAGS v) mask).setVernier v
      { x with flagMask := old ||| mask, flagEdge := s.rgl.edge, flagByEngine := byEngine }
  else
    let kept := if x.flagEdge = s.rgl.edge ∧ x.flagByEngine ≠ byEngine then x.flagMask else 0
    s.clearBits (VRN_STAT.FLAGS v) (mask - (mask &&& kept))

/-! ## Instructions (12 R642 to R648) -/

/-- Bits hi down to lo of an instruction word. -/
def insnField (w : BitVec 16) (hi lo : Nat) : Nat := (w.extractLsb' lo (hi + 1 - lo)).toNat

/-- The operation code of an instruction. -/
def insnOp (w : BitVec 16) : Nat := insnField w 15 12

/-- The reserved instructions (12 R642), for an instruction at address a. -/
def insnReserved (w : BitVec 16) (a : Nat) : Bool :=
  match insnOp w with
  | 0x5 | 0x6 => insnField w 10 0 != 0
  | 0x7 => (insnField w 11 10 == 2 && insnField w 9 0 != 0) || (insnField w 11 10 == 3 && insnField w 8 0 != 0)
  | 0x8 => insnField w 7 5 != 0
  | 0x9 => insnField w 5 0 != 0 || (insnField w 11 10 == 0 && decide (3 < insnField w 8 6)) ||
      (insnField w 11 10 == 2 && decide (1 < insnField w 8 6))
  | 0xA => insnField w 8 0 != 0
  | 0xB => insnField w 10 9 != 0
  | 0xC => insnField w 6 6 == 2 || decide (insnField w 11 7 ≤ a)
  | 0xD | 0xE | 0xF => true
  | _ => false

/-- The steps an instruction occupies (12 R642). -/
def State.insnSteps (s : State) (v : Nat) (w : BitVec 16) : Nat :=
  match insnOp w with
  | 0x0 =>
    if insnField w 11 11 = 0 then insnField w 9 0 + 1
    else (if insnField w 10 10 = 0 then s.get (VRN_CNT.TA v) else s.get (VRN_CNT.TB v)) + 1
  | 0x1 | 0x2 => insnField w 3 0 + 1
  | 0x3 | 0x4 => (insnField w 9 5 + 1) * (insnField w 4 0 + 1)
  | _ => 1

/-- The condition of a BR (12 R645). -/
def State.branchHolds (s : State) (v cond : Nat) : Bool :=
  match cond with
  | 0x0 => true
  | 0x1 => s.get (VRN_CNT.TA v) == 0
  | 0x2 => s.get (VRN_CNT.TB v) == 0
  | 0x3 => s.get (VRN_CNT.TA v) != 0
  | 0x4 => s.get (VRN_CNT.TB v) != 0
  | 0x5 => bitAt (s.reg (VRN_OSR v)) 0
  | 0x6 => s.reg (VRN_OSR v) == 0
  | 0x7 => s.on (VRN_STAT.TXF v)
  | 0x8 => !s.on (VRN_STAT.RXF v)
  | 0x9 => s.sampleSlot v 0
  | 0xA => s.sampleSlot v 1
  | 0xB => s.sampleSlot v 2
  | 0xC => s.sampleSlot v 3
  | 0xD => (s.get (VRN_STAT.FLAGS v)).testBit 0
  | 0xE => (s.get (VRN_STAT.FLAGS v)).testBit 1
  | _ => (s.get (VRN_STAT.ELAT v)).testBit 0

/-- The condition of a WAIT (12 R646); a restart ends a WAIT of kind 3 outside its steps. -/
def State.waitHolds (s : State) (v : Nat) (w : BitVec 16) : Bool :=
  let i := insnField w 8 6
  let level := insnField w 9 9 == 1
  match insnField w 11 10 with
  | 0 => s.sampleSlot v i == level
  | 1 => (s.get (VRN_STAT.FLAGS v)).testBit i == level
  | 2 => (s.get (VRN_STAT.ELAT v)).testBit i
  | _ => false

/-- The stamp that STMP takes (12 R648). -/
def State.stmpValue (s : State) (v : Nat) (w : BitVec 16) : Word :=
  let i := insnField w 11 10
  let rising := insnField w 9 9 == 0
  let p := s.stampPoint (if (s.vernier v).enable.testBit i then pinOutput (s.slotPin v i) else pinInput (s.slotPin v i))
  if s.slotOn v i && decide ((s.vernier v).startNo < (if rising then p.riseNo else p.fallNo)) then
    stampWord (if rising then p.rise else p.fall)
  else 0

/-- The bit of an EMIT or the sample of a GATHER due at a step (12 R643). -/
def State.shiftStep (s : State) (v : Nat) (w : BitVec 16) (taken : Nat) : State :=
  if taken % (insnField w 4 0 + 1) ≠ 0 then s
  else if insnOp w = 3 then
    let e := s.reg (VRN_OSR v)
    (s.driveSlot v (insnField w 11 10) false (bitAt e 0)).setReg (VRN_OSR v) (e >>> 1)
  else if insnOp w = 4 then
    let g := s.reg (VRN_ISR v)
    s.setReg (VRN_ISR v) ((g >>> 1) ||| BitVec.ofNat 32 (bit (s.sampleSlot v (insnField w 11 10)) * 2 ^ 31))
  else s

/-- An instruction that waits stalls the Vernier: it is looked at again at the next step edge. -/
def State.stallVernier (s : State) (v : Nat) : State := s.put (VRN_STAT.STATE v) 2

/-- The instruction at address a ends after `steps` steps; the next one follows in line or after the repeat frame. -/
def State.endInsn (s : State) (v a steps : Nat) : State :=
  let x := s.vernier v
  let n := afterInsn a x.frame
  (s.put (VRN_STAT.STATE v) 1).setVernier v { x with next := n.1, frame := n.2, left := steps - 1, taken := 1 }

/-- A BR that is taken (12 R644). -/
def State.takeBranch (s : State) (v target : Nat) : State :=
  let x := s.vernier v
  let f := match x.frame with
    | some f => if f.start ≤ target ∧ target ≤ f.last then some f else none
    | none => none
  (s.put (VRN_STAT.STATE v) 1).setVernier v { x with next := target, frame := f, left := 0, taken := 1 }

/-- The effects of instruction w at its begin edge or, for one that waits, at a later step edge (12 R642). -/
def State.runInsn (s : State) (v a : Nat) (w : BitVec 16) : State :=
  let n := s.insnSteps v w
  match insnOp w with
  | 0x0 => s.endInsn v a n
  | 0x1 => (s.driveSlots v false (insnField w 7 4) (onesBelow 4 (insnField w 11 8))).endInsn v a n
  | 0x2 => (s.driveSlots v true (insnField w 7 4) (onesBelow 4 (insnField w 11 8))).endInsn v a n
  | 0x3 | 0x4 => (s.shiftStep v w 0).endInsn v a n
  | 0x5 =>
    if s.on (VRN_STAT.TXF v) then
      let t := (s.setReg (VRN_OSR v) (s.vernier v).txh).put (VRN_STAT.TXF v) 0
      (if s.on (VRN_EVCFG.EVTXE v) then t.registerEvent (vernierLine v) else t).endInsn v a n
    else if insnField w 11 11 = 1 then s.stallVernier v
    else s.endInsn v a n
  | 0x6 =>
    if !s.on (VRN_STAT.RXF v) then
      let t := ((s.setVernier v { s.vernier v with rxh := s.reg (VRN_ISR v) }).put (VRN_STAT.RXF v) 1).setReg (VRN_ISR v) 0
      (if s.on (VRN_EVCFG.EVRXF v) then t.registerEvent (vernierLine v) else t).endInsn v a n
    else if insnField w 11 11 = 1 then s.stallVernier v
    else ((s.setReg (VRN_ISR v) 0).put (VRN_STAT.RXOVR v) 1).endInsn v a n
  | 0x7 =>
    (match insnField w 11 10 with
     | 0 => s.put (VRN_CNT.TA v) (insnField w 9 0)
     | 1 => s.put (VRN_CNT.TB v) (insnField w 9 0)
     | 2 => s.setReg (VRN_CNT v) (s.reg (VRN_OSR v))
     | _ =>
       if insnField w 9 9 = 0 then s.put (VRN_CNT.TA v) (s.get (VRN_CNT.TA v) - 1)
       else s.put (VRN_CNT.TB v) (s.get (VRN_CNT.TB v) - 1)).endInsn v a n
  | 0x8 =>
    if s.branchHolds v (insnField w 11 8) then
      (if insnField w 11 8 = 0xF then s.clearBits (VRN_STAT.ELAT v) 1 else s).takeBranch v (insnField w 4 0)
    else s.endInsn v a n
  | 0x9 =>
    if s.waitHolds v w then
      (if insnField w 11 10 = 2 then s.clearBits (VRN_STAT.ELAT v) (2 ^ insnField w 8 6) else s).endInsn v a n
    else s.stallVernier v
  | 0xA => (s.setReg (VRN_ISR v) (s.stmpValue v w)).endInsn v a n
  | 0xB =>
    let t := s.vernierFlags v false (insnField w 11 11 == 1) (insnField w 7 0)
    (if insnField w 8 8 = 1 then t.registerEvent (vernierLine v) else t).endInsn v a n
  | _ =>
    let count := if insnField w 6 6 = 1 then s.get (VRN_CNT.TA v) else insnField w 5 0
    (s.setVernier v { s.vernier v with frame := some { start := a + 1, last := insnField w 11 7, count } }).endInsn v a n

/-- A fetched reserved instruction (12 R658). -/
def State.vernierIll (s : State) (v : Nat) : State :=
  (((s.put (VRN_STAT.STATE v) 4).put (VRN_STAT.ILL v) 1).vernierFault).settlePins (s.vernierPins v)

/-- The instruction that a Vernier works on at its next step edge: the one in progress, or the one it fetches. -/
def State.vernierInsn (s : State) (v : Nat) : BitVec 16 :=
  let x := s.vernier v
  if x.left ≠ 0 ∨ s.get (VRN_STAT.STATE v) = 2 then x.ir
  else (s.reg (VRN_IMEM v x.next)).extractLsb' 0 16

/-- One step edge of Vernier v, whatever its instruction. -/
def State.vernierStep (s : State) (v : Nat) : State :=
  let x := s.vernier v
  if x.left ≠ 0 then
    (s.shiftStep v x.ir x.taken).setVernier v { (s.shiftStep v x.ir x.taken).vernier v with left := x.left - 1, taken := x.taken + 1 }
  else if s.get (VRN_STAT.STATE v) = 2 then s.runInsn v (s.get (VRN_STAT.PC v)) x.ir
  else
    let w := s.vernierInsn v
    let t := (s.put (VRN_STAT.PC v) x.next).setVernier v { x with ir := w, taken := 0 }
    if insnReserved w x.next then t.vernierIll v else t.runInsn v x.next w

/-- A Vernier takes steps: it runs or is stalled, no halt waits for its next step edge (19 R908), and its clock runs. -/
def State.vernierSteps (s : State) (v : Nat) : Bool :=
  s.ifcOn && s.pllsRun && !s.vernierHalts.testBit v && (s.get (VRN_STAT.STATE v) == 1 || s.get (VRN_STAT.STATE v) == 2)

/-- A step edge of Vernier v at which it works on an instruction of operation `op`; a reserved operation code is met by the
row of any instruction. -/
def State.vernierRow (s : State) (op : Nat) (v : Nat) : State :=
  if s.vernierSteps v && (insnOp (s.vernierInsn v) == op || decide (0xD ≤ insnOp (s.vernierInsn v))) then s.vernierStep v else s

/-! ## Register writes -/

/-- The rules of a write to VRN_CTLv: START and STOP act after the write; both in one write start and then stop. -/
def writeVrnCtl (v : Nat) (w : Word) (s : State) : Effect :=
  let t := s.plainWrite (VRN_CTL v) w
  let t1 := if bitAt w 3 then t.vernierStart v else t
  .ok (if bitAt w 2 then t1.vernierStop v else t1)

/-- The rules of a write to VRN_CLKv: a DIV of 0 stores 1. -/
def writeVrnClk (v : Nat) (w : Word) (s : State) : Effect :=
  let t := s.plainWrite (VRN_CLK v) w
  .ok (if fieldOf w 15 0 = 0 then t.put (VRN_CLK.DIV v) 1 else t)

/-- One pin field of VRN_PINSv: a value above 47 leaves it unchanged. -/
def keepPin (old new : Word) (i : Nat) : Word :=
  if 47 < fieldOf new (7 * i + 5) (7 * i) then fieldSet new (7 * i + 5) (7 * i) (fieldOf old (7 * i + 5) (7 * i)) else new

/-- The rules of a write to VRN_PINSv. -/
def writeVrnPins (v : Nat) (w : Word) (s : State) : Effect :=
  let old := s.reg (VRN_PINS v)
  let w' := keepPin old (keepPin old (keepPin old (keepPin old w 0) 1) 2) 3
  { state := (s.plainWrite (VRN_PINS v) w').settlePins (s.vernierPins v), refused := w' != w }

/-- The rules of a write to VRN_GSTART (12 R640). -/
def writeVrnGstart (w : Word) (s : State) : Effect := .ok (s.groupStarts (onesBelow 3 w.toNat))

/-- The rules of a write to VRN_IMEMv_i by a master (12 R655 to R657, 18 R879): ring 1 only in DEVELOP; a program write has a
record of kind 0x05. -/
def writeVrnImem (v i : Nat) (o : Origin) (w : Word) (s : State) : Effect :=
  if s.ringOf o = some 1 ∧ s.get SEC_LCS.STATE ≠ 2 then .denied s
  else
    { state := s.plainWrite (VRN_IMEM v i) w
      after := fun t => t.logChange (originCode o) 0x05 0 false (v + i * 65536 + 2147483648) (fieldOf w 15 0) 0 }

/-! ## The commands -/

/-- VRN_CTL_START (R637): a write with START = 1. -/
def execVrnCtlStart (v : Fin 24) (o : Origin) (w : Word) (s : State) : Host.Outcome State Fault Refusal :=
  .next (s.writeReg o (VRN_CTL v) (w ||| 8) (writeVrnCtl v (w ||| 8)))

/-- VRN_CTL_STOP (R639): a write with STOP = 1. -/
def execVrnCtlStop (v : Fin 24) (o : Origin) (w : Word) (s : State) : Host.Outcome State Fault Refusal :=
  .next (s.writeReg o (VRN_CTL v) (w ||| 4) (writeVrnCtl v (w ||| 4)))

/-- GROUP_START (R640): a write to VRN_GSTART. The starts by an alarm and by an ephemeris entry are part of their firings. -/
def execGroupStart (o : Origin) (w : Word) (s : State) : Host.Outcome State Fault Refusal :=
  .next (s.writeReg o VRN_GSTART w (writeVrnGstart w))

/-- VRN_IMEM_WRITE (R655). -/
def execVrnImemWrite (v : Fin 24) (i : Fin 32) (o : Origin) (w : Word) (s : State) : Host.Outcome State Fault Refusal :=
  .next (s.writeReg o (VRN_IMEM v i) w (writeVrnImem v i o w))

/-- IDLE (R642). -/
def execIdle (v : Fin 24) (s : State) : Host.Outcome State Fault Refusal := .next (s.vernierRow 0x0 v)
/-- SETP (R642). -/
def execSetp (v : Fin 24) (s : State) : Host.Outcome State Fault Refusal := .next (s.vernierRow 0x1 v)
/-- SETE (R642). -/
def execSete (v : Fin 24) (s : State) : Host.Outcome State Fault Refusal := .next (s.vernierRow 0x2 v)
/-- EMIT (R643). -/
def execEmit (v : Fin 24) (s : State) : Host.Outcome State Fault Refusal := .next (s.vernierRow 0x3 v)
/-- GATHER (R643). -/
def execGather (v : Fin 24) (s : State) : Host.Outcome State Fault Refusal := .next (s.vernierRow 0x4 v)
/-- VERNIER_LOAD (R642). -/
def execVernierLoad (v : Fin 24) (s : State) : Host.Outcome State Fault Refusal := .next (s.vernierRow 0x5 v)
/-- POST (R642). -/
def execPost (v : Fin 24) (s : State) : Host.Outcome State Fault Refusal := .next (s.vernierRow 0x6 v)
/-- TALLY (R642). -/
def execTally (v : Fin 24) (s : State) : Host.Outcome State Fault Refusal := .next (s.vernierRow 0x7 v)
/-- VERNIER_BR (R645). -/
def execVernierBr (v : Fin 24) (s : State) : Host.Outcome State Fault Refusal := .next (s.vernierRow 0x8 v)
/-- VERNIER_WAIT (R646). -/
def execVernierWait (v : Fin 24) (s : State) : Host.Outcome State Fault Refusal := .next (s.vernierRow 0x9 v)
/-- STMP (R648). -/
def execStmp (v : Fin 24) (s : State) : Host.Outcome State Fault Refusal := .next (s.vernierRow 0xA v)
/-- FLG (R642). -/
def execFlg (v : Fin 24) (s : State) : Host.Outcome State Fault Refusal := .next (s.vernierRow 0xB v)
/-- REP (R644). -/
def execRep (v : Fin 24) (s : State) : Host.Outcome State Fault Refusal := .next (s.vernierRow 0xC v)

end Sys2Proof.Machine
end

