-- ==== Sys2Proof/Machine/PhaseTime.lean ====
section
/-! DEFINITION. Phase time (03 R119 to R123), the trackers' trajectories (R132 to R141) and the distance to a target. -/

namespace Sys2Proof.Machine

/-- The trajectory of a frozen phase. -/
def frozenAt (phase start : Nat) : Trajectory :=
  { phase, start, freq := 0, rho := 0, tu := start, correction := 0, half := false }

/-- A tracker's hidden state at reset. -/
def tracker0 : Tracker :=
  { path := frozenAt 0 0, instants := [], lastValid := 0, lastRise := none, lastFall := none, estimate := none, peer := none,
    good := 0, missed := 0, fromLost := false, applied := 0, holdEdge := 0 }

/-- Tracker n. -/
def State.tracker (s : State) (n : Nat) : Tracker := tget (fun _ => tracker0) s.trackers n

/-- Tracker n written. -/
def State.setTracker (s : State) (n : Nat) (x : Tracker) : State :=
  { s with trackers := tset (fun _ => tracker0) s.trackers n x }

/-- 250 µs in units of 2^-40 ns. -/
def updateSpan : Nat := 250000 * 2 ^ 40

/-- The phase that a frequency and a rate of change of frequency about `tu` add between two cluster times, in units of 2^-64
turn (03 R133). -/
def sweep (freq : Nat) (rho : Int) (tu t0 t1 : Nat) : Int :=
  (freq : Int) * ((t1 : Int) - t0) / 1000000000 +
    rho * (((t1 : Int) - tu) * ((t1 : Int) - tu) - ((t0 : Int) - tu) * ((t0 : Int) - tu)) / (2 ^ 33 * 10 ^ 18)

/-- The phase of a trajectory at a cluster time, in units of 2^-64 turn modulo 2^96. At a time before the start of the trajectory,
where the manual states none, frequency and rate of change run backwards and the correction is 0 (DESIGN CHOICE, log entry 75). -/
def Trajectory.at (p : Trajectory) (t : Nat) : Nat :=
  let run := sweep p.freq p.rho p.tu p.start t
  let c := p.correction * (Nat.min (t - p.start) updateSpan : Nat) / (updateSpan : Int)
  (((p.phase : Int) + (if p.half then run / 2 else run) + c) % (2 ^ 96 : Int)).toNat

/-- φp of tracker n at the present edge, in units of 2^-64 turn. -/
def State.finePhase (s : State) (n : Nat) : Nat := (s.tracker n).path.at s.rgl.time

/-- The phase time of tracker n (03 R119): 64 bits, CYC and FRAC. -/
def State.phase (s : State) (n : Nat) : Nat := s.finePhase n / 2 ^ 32

/-- The distance from a phase to a target (03 R122). -/
def phaseDistance (target phase : Nat) : Int := signed 64 (unsigned 64 ((target : Int) - phase))

/-- A target of tracker n has passed. -/
def State.phasePassed (s : State) (n target : Nat) : Bool := decide (phaseDistance target (s.phase n) ≤ 0)

/-- `CDR_PTn_STAT.STATE` codes. -/
def trackerOff : Nat := 0
def trackerAcquire : Nat := 1
def trackerLocked : Nat := 2
def trackerHoldover : Nat := 3
def trackerLost : Nat := 4

/-- The tracker is LOCKED or HOLDOVER. -/
def State.trackerValid (s : State) (n : Nat) : Bool :=
  s.get (CDR_PT_STAT.STATE n) == trackerLocked || s.get (CDR_PT_STAT.STATE n) == trackerHoldover

/-- Arming a target on tracker n is refused by its state (03 R144). -/
def State.trackerRefuses (s : State) (n : Nat) : Bool :=
  !(s.get (CDR_PT_STAT.STATE n) == trackerLocked ||
    (s.get (CDR_PT_STAT.STATE n) == trackerHoldover && !s.on (CDR_PT_CFG.LOSSACT n)))

/-- A target lies beyond the horizon of 2^20 turns (03 R147). -/
def State.beyondHorizon (s : State) (n target : Nat) : Bool := decide (2 ^ 52 < phaseDistance target (s.phase n))

/-- JUMPLIM in units of 2^-64 turn (03 R132). -/
def State.jumpLimit (s : State) (n : Nat) : Nat := 2 ^ (64 - s.get (CDR_PT_CFG.JUMPK n))

/-- A cluster time moved by a whole offset, in units of 2^-40 ns, and one in units of 2^-16 ns. -/
def movedTime (q : Int) (t : Nat) : Nat := ((t : Int) + q).toNat
def movedStamp (q : Int) (u : Nat) : Nat := ((u : Int) + q / 2 ^ 24).toNat

/-- A tracker moved with cluster time (03 R136): its trajectory, the estimate that it holds and the instants measured on cluster
time; the instants of sampled values are those of their senders (log entry 76). -/
def Tracker.moved (x : Tracker) (crossings : Bool) (q : Int) : Tracker :=
  { x with
    path := { x.path with start := movedTime q x.path.start, tu := movedTime q x.path.tu }
    estimate := x.estimate.map fun y => { y with tu := movedTime q y.tu }
    lastValid := movedStamp q x.lastValid
    instants := if crossings then x.instants.map fun p => (movedStamp q p.1, p.2) else x.instants
    lastRise := x.lastRise.map (movedStamp q)
    lastFall := x.lastFall.map (movedStamp q) }

/-- A whole offset that the Regulator adds moves every tracker with cluster time (03 R136). -/
def State.shiftTrackers (s : State) (q : Int) : State :=
  { s with trackers := s.trackers.map fun p => (p.1, p.2.moved (s.get (CDR_PT_SRC.KIND p.1) == 2) q) }

/-- Bits of CDR_EVSRC set by the hardware, their line registered at the same edge (03 R153, R170). -/
def State.evsrc (s : State) (f : BitRange) (mask line : Nat) : State := (s.orBits f mask).registerEvent line

/-- A TRK bit set: a change of state or a setting of PHJUMP (03 R170). -/
def State.trackerEvent (s : State) (n : Nat) : State := s.evsrc CDR_EVSRC.TRK (2 ^ n) 107

/-- A phase capture of each tracker that names Regulator alarm a, at the compare value c of its firing (03 R164 to R166), in
units of 2^-16 ns. -/
def State.phaseCaptures (s : State) (a c : Nat) (late : Bool) : List Nat → State
  | [] => s
  | n :: ns =>
    (if s.on (CDR_PCAP_STAT.EN n) && s.get (CDR_PCAP_STAT.ALM n) == a then
      let ph := (s.tracker n).path.at (c * 2 ^ 24) / 2 ^ 32
      let t := (s.setReg (CDR_PCAP_FRAC n) (BitVec.ofNat 32 ph)).setReg (CDR_PCAP_CYC n) (BitVec.ofNat 32 (ph / 2 ^ 32))
      let t := if t.on (CDR_PCAP_STAT.CAPTURED n) then t.put (CDR_PCAP_STAT.OVERRUN n) 1 else t
      let t := (t.put (CDR_PCAP_STAT.SEQ n) (t.get (CDR_PCAP_STAT.SEQ n) + 1)).put (CDR_PCAP_STAT.VALID n) (bit (s.trackerValid n))
      ((t.put (CDR_PCAP_STAT.LATE n) (bit late)).put (CDR_PCAP_STAT.CAPTURED n) 1).evsrc CDR_EVSRC.CAP (2 ^ n) 107
    else s).phaseCaptures a c late ns

end Sys2Proof.Machine
end

