-- ==== Sys2Proof/Machine/Timers.lean ====
section
/-! DEFINITION. The engines' timers and watchdogs (07). A timer's count is held as of its last count boundary worked off;
wraps and compare matches are worked off one by one, in the order of their boundaries. -/

namespace Sys2Proof.Machine

/-! ## Counts -/

/-- Timer n of engine e runs: from its start edge until it stops (07 R378). -/
def State.timerRuns (s : State) (e n : Nat) : Bool := s.on (TMR_CTL.STALE e n)

/-- The timer is the low half of a pair (07 R374). -/
def State.timerPaired (s : State) (e n : Nat) : Bool := n % 2 == 0 && s.on (TMR_CTL.LINK e n)

/-- The timer is the high half of a pair. -/
def State.timerHigh (s : State) (e n : Nat) : Bool := n % 2 == 1 && s.on (TMR_CTL.LINK e (n - 1))

/-- The timer finds no count boundary: FRZ, and the engine is halted by the Eyepiece (07 R390). -/
def State.timerFrozen (s : State) (e n : Nat) : Bool := s.on (TMR_CTL.FRZ e n) && s.get (ENG_STAT.STATE e) == 3

/-- The count boundaries of a phase-mode timer repeat after this many (07 R362): multiples of 2^(PRE - 16) turn in 2^32 turns. -/
def State.timerModulus (s : State) (e n : Nat) : Nat := 2 ^ (48 - s.get (TMR_CTL.PRE e n))

/-- The index of the last count boundary at or before TCLK edge k and cluster time t (07 R351, R362). -/
def State.timerIndex (s : State) (e n k t : Nat) : Nat :=
  if s.on (TMR_CTL.MODE e n) then
    (s.tracker (s.get (TMR_IO.TRK e n))).path.at t / 2 ^ (48 + s.get (TMR_CTL.PRE e n))
  else (k - (s.timer e n).startEdge) / 2 ^ s.get (TMR_CTL.PRE e n)

/-- From one boundary index to another: none where the second lies before the first. Phase-mode indices wrap (07 R362). -/
def State.timerGap (s : State) (e n d i : Nat) : Option Nat :=
  if s.on (TMR_CTL.MODE e n) then
    let g := (i + s.timerModulus e n - d % s.timerModulus e n) % s.timerModulus e n
    if 2 * g < s.timerModulus e n then some g else none
  else if d ≤ i then some (i - d) else none

/-- How many count boundaries lie after those worked off, up to the index i. -/
def State.timerBehind (s : State) (e n i : Nat) : Nat := (s.timerGap e n (s.timer e n).done i).getD 0

/-- The index of the present edge, and of the edge before it. -/
def State.timerNow (s : State) (e n : Nat) : Nat := s.timerIndex e n s.rgl.edge s.rgl.time
def State.timerBefore (s : State) (e n : Nat) : Nat := s.timerIndex e n (s.rgl.edge - 1) (s.rgl.time - s.increment.toNat)

/-- Count boundaries up to an index that have come and are not worked off. -/
def State.timerDueAt (s : State) (e n i : Nat) : Nat := if s.timerRuns e n && !s.timerFrozen e n then s.timerBehind e n i else 0

/-- Count boundaries that have come and are not worked off. -/
def State.timerDue (s : State) (e n : Nat) : Nat := s.timerDueAt e n (s.timerNow e n)

/-- The TCLK edge of the boundary that lies d after those worked off. In phase mode the boundaries that came before the present edge are
told apart, no more (07 R361; log entry 95). -/
def State.boundaryEdge (s : State) (e n d : Nat) : Nat :=
  if s.on (TMR_CTL.MODE e n) then
    let b := s.timerBehind e n (s.timerBefore e n)
    if d ≤ b then s.rgl.edge - 1 - (b - d) else s.rgl.edge
  else (s.timer e n).startEdge + ((s.timer e n).done + d) * 2 ^ s.get (TMR_CTL.PRE e n)

/-- A compare match at the present counts acts (07 R356, R366, R376). -/
def State.matchActs (s : State) (e n : Nat) : Bool :=
  !s.on (TMR_CTL.PARMED e n) &&
    (!s.timerPaired e n || (s.timer e (n + 1)).count == (s.timer e (n + 1)).compare)

/-- A match comes before the next wrap. -/
def State.matchAhead (s : State) (e n : Nat) : Bool :=
  decide ((s.timer e n).compare < (s.timer e n).count) && s.matchActs e n

/-- How many boundaries after the last one worked off the next match or wrap lies. -/
def State.nextHappening (s : State) (e n : Nat) : Nat :=
  if s.matchAhead e n then (s.timer e n).count - (s.timer e n).compare else (s.timer e n).count + 1

/-! ## Pin actions and events -/

/-- A level after an action code (07 R370). -/
def actLevel (act : Nat) (b : Bool) : Bool :=
  match act with
  | 1 => true
  | 2 => false
  | 3 => !b
  | _ => b

/-- The pin that the timer's output drives (07 R370, R373): none while OEN = 0 or the pin is not the timer's. -/
def State.timerPin (s : State) (e n : Nat) : Option Nat :=
  let k := s.get (TMR_IO.OPIN e n)
  if s.on (TMR_IO.OEN e n) && s.timerHasPin e n k then some k else none

/-- An action on the timer's output level (07 R370, R373). -/
def State.timerAct (s : State) (e n act : Nat) : State :=
  if (s.timerPin e n).isSome then s.setTimer e n { s.timer e n with level := actLevel act (s.timer e n).level } else s

/-- The output stamp of an edge at pin k (07 R372) that crosses its ball at u, within 125 ps (02 R67): a free value says where. With no u,
where the manual gives no crossing, the stamp is free (log entry 96). -/
def State.stampCrossing (s : State) (k : Nat) (rising : Bool) (at_ : Nat) (u : Option Nat) : State :=
  let f := s.fresh 96
  let v := match u with
    | some u =>
      let d := if s.on RGL_CTL.PCBYP then s.padDelay (pinOutput k) else 0
      toTime96 ((u : Int) + (f.1.toNat % 16385 : Nat) - 8192 - d).toNat
    | none => f.1
  (f.2.putStamp (pinOutput k) rising at_ v).2

/-- The timer's level reaches its pin at a bin and a cluster time in units of 2^-16 ns; an edge there is stamped (07 R372). -/
def State.timerDrive (s : State) (e n at_ : Nat) (u : Option Nat) : State :=
  match s.timerPin e n with
  | some k =>
    let t := s.settlePin k
    if t.pinLevel k == s.pinLevel k then t else t.stampCrossing k (t.pinLevel k) at_ u
  | none => s

/-- The same for a count-mode match or a wrap at TCLK edge k: T(k) + 32 ns (07 R372). -/
def State.timerDriveAt (s : State) (e n k : Nat) : State :=
  s.timerDrive e n (32 * (k + 16)) (some ((s.rgl.time - (s.rgl.edge - k) * s.increment.toNat) / 2 ^ 24 + 32 * 65536))

/-- The event line of a timer (07 R361). -/
def timerLine (e n : Nat) : Nat := 144 + 4 * e + n

/-- The timer's event of TCLK edge k, if the selection says so: once for an edge (07 R361). -/
def State.timerEvent (s : State) (e n : Nat) (selected : Bool) (k : Nat) : State :=
  if selected && (s.timer e n).eventEdge != some k then
    (s.setTimer e n { s.timer e n with eventEdge := some k }).registerEvent (timerLine e n)
  else s

/-- EVSEL bit b. -/
def State.evsel (s : State) (e n b : Nat) : Bool := (s.get (TMR_CTL.EVSEL e n)).testBit b

/-- The marks and action of a compare match, `late` when a phase jump passed over it (07 R356, R363). -/
def State.timerMatch (s : State) (e n : Nat) (late : Bool) : State :=
  let t := s.put (TMR_CTL.CMPF e n) 1
  (if late then t.put (TMR_CTL.LATE e n) 1 else t).timerAct e n (s.get (TMR_IO.OACT e n))

/-- The marks and action of a wrap (07 R355, R363). -/
def State.timerWrapped (s : State) (e n : Nat) (late : Bool) : State :=
  let t := s.put (TMR_CTL.WRAPF e n) 1
  (if late then t.put (TMR_CTL.LATE e n) 1 else t).timerAct e n (s.get (TMR_IO.WACT e n))

/-- The count and the active compare reloaded (07 R355). -/
def State.timerReload (s : State) (e n : Nat) : State :=
  s.setTimer e n { s.timer e n with count := s.get (TMR_RELOAD.RELOAD e n), compare := s.get (TMR_CMP.CMP e n) }

/-- A stopped timer holds a latched count (07 R359, R377, R378): TMR_CNTn takes it, CNTSRC reads 0. -/
def State.timerLatched (s : State) (e n v : Nat) : State :=
  ((s.setReg (TMR_CNT e n) (BitVec.ofNat 32 v)).put (TMR_CTL.CNTSRC e n) 0).put (TMR_CTL.STALE e n) 0

/-- The first wrap of a ONE timer (07 R358), the high half of a pair with it (07 R375): the count stays 0. -/
def State.timerOneStop (s : State) (e n : Nat) : State :=
  let t := (s.put (TMR_CTL.EN e n) 0).timerLatched e n 0
  if s.timerPaired e n then t.timerLatched e (n + 1) 0 else t

/-- The match that falls on a wrap boundary, after the wrap (07 R356, R371): whether its event is selected, and the state. -/
def State.matchAtWrap (s : State) (e n : Nat) (late : Bool) : Bool × State :=
  if (s.timer e n).count = (s.timer e n).compare ∧ s.matchActs e n then (s.evsel e n 0, s.timerMatch e n late) else (false, s)

/-- The wrap of a timer or of the low half of a pair (07 R355, R358, R374 to R376): whether an event is selected, and the
state. -/
def State.timerWrap (s : State) (e n : Nat) (late : Bool) : Bool × State :=
  if s.timerPaired e n ∧ (s.timer e (n + 1)).count ≠ 0 then
    let t := (s.timerReload e n).setTimer e (n + 1) { s.timer e (n + 1) with count := (s.timer e (n + 1)).count - 1 }
    t.matchAtWrap e n late
  else
    let t := if s.on (TMR_CTL.ONE e n) then s.timerOneStop e n
      else if s.timerPaired e n then (s.timerReload e n).timerReload e (n + 1)
      else s.timerReload e n
    let r := (t.timerWrapped e n late).matchAtWrap e n late
    (s.evsel e n 1 || r.1, r.2)

/-- The boundaries worked off up to d further ones, with a count, what was before them kept (log entry 13). -/
def State.timerStep (s : State) (e n d count : Nat) : State :=
  let x := s.timer e n
  s.setTimer e n { x with done := x.done + d, count, past := ((x.done, x.count, (s.timer e (n + 1)).count) :: x.past).take 8 }

/-- The next match or wrap worked off: whether an event is selected, and the state. -/
def State.timerHappening (s : State) (e n : Nat) (late : Bool) : Bool × State :=
  let x := s.timer e n
  if s.matchAhead e n then (s.evsel e n 0, (s.timerStep e n (x.count - x.compare) x.compare).timerMatch e n late)
  else (s.timerStep e n (x.count + 1) 0).timerWrap e n late

/-- The same at its own TCLK edge, with its drive and its event (07 R361, R372). -/
def State.timerNext (s : State) (e n : Nat) : State :=
  let k := s.boundaryEdge e n (s.nextHappening e n)
  let r := s.timerHappening e n false
  (r.2.timerDriveAt e n k).timerEvent e n r.1 k

/-- Matches and wraps up to the index i worked off, each at its edge, at most `fuel` of them. -/
def State.timerHappenings (s : State) (e n i : Nat) : Nat → State
  | 0 => s
  | fuel + 1 => if s.nextHappening e n ≤ s.timerDueAt e n i then (s.timerNext e n).timerHappenings e n i fuel else s

/-- Every match and wrap up to the index i worked off. -/
def State.timerCatchUp (s : State) (e n i : Nat) : State := s.timerHappenings e n i (s.timerDueAt e n i)

/-- Matches and wraps that a phase jump passes over worked off, at most `fuel` of them: whether an event is selected, and the state. -/
def State.timerPassed (s : State) (e n : Nat) : Nat → Bool × State
  | 0 => (false, s)
  | fuel + 1 =>
    if s.nextHappening e n ≤ s.timerDue e n then
      let r := s.timerHappening e n true
      let q := r.2.timerPassed e n fuel
      (r.1 || q.1, q.2)
    else (false, s)

/-- The boundaries of a phase jump processed at its edge, with one registration (07 R363). -/
def State.timerJump (s : State) (e n : Nat) : State :=
  let r := s.timerPassed e n (s.timerDue e n)
  (r.2.timerDriveAt e n s.rgl.edge).timerEvent e n r.1 s.rgl.edge

/-- The count after the boundaries that have come, once no match or wrap is due. -/
def State.timerCount (s : State) (e n : Nat) : Nat := (s.timer e n).count - s.timerDue e n

/-- The boundaries up to the index i worked off into the count. -/
def State.timerSync (s : State) (e n i : Nat) : State :=
  let t := s.timerCatchUp e n i
  let d := t.timerDueAt e n i
  if d = 0 then t else t.timerStep e n d ((t.timer e n).count - d)

/-- The timer whose boundaries a timer counts by: for the high half of a pair its low half (07 R375). -/
def State.timerLead (s : State) (e n : Nat) : Nat := if s.timerHigh e n then n - 1 else n

/-- The boundaries that have come worked off, of a running timer or pair. -/
def State.timerSettle (s : State) (e n : Nat) : State :=
  let m := s.timerLead e n
  if s.timerRuns e m then s.timerSync e m (s.timerNow e m) else s

/-- The boundaries of a hold skipped: counting goes on from the held count (07 R390). -/
def State.timerRebase (s : State) (e n : Nat) : State :=
  s.setTimer e n { s.timer e n with done := s.timerNow e n, past := [] }

/-! ## Start, stop and captures -/

/-- The start edge of a timer (07 R354); the high half of a pair starts with it. -/
def State.timerStart (s : State) (e n : Nat) : State :=
  let begin_ (t : State) (m : Nat) : State :=
    (t.setTimer e m { t.timer e m with count := t.get (TMR_CNT.CNT e m), compare := t.get (TMR_CMP.CMP e m),
                                       startEdge := t.rgl.edge, done := 0, past := [] }).put (TMR_CTL.STALE e m) 1
  let t := begin_ s n
  let t1 := t.setTimer e n { t.timer e n with done := t.timerNow e n }
  if s.timerPaired e n then begin_ t1 (n + 1) else t1

/-- The stop edge of a timer (07 R359), which is not a count boundary: TMR_CNTn takes the count as it stood before it. -/
def State.timerStop (s : State) (e n : Nat) : State :=
  let t := s.timerSync e n (s.timerBefore e n)
  let t1 := t.timerLatched e n (t.timer e n).count
  if s.timerPaired e n then t1.timerLatched e (n + 1) (t.timer e (n + 1)).count else t1

/-- The counts that a software capture latches (07 R379): of the timer or the low half of its pair, and of the high half. -/
def State.timerLatch (s : State) (e n : Nat) : (Nat × Nat) × State :=
  let m := s.timerLead e n
  if s.timerRuns e m then
    let t := s.timerSettle e m
    (((t.timer e m).count, (t.timer e (m + 1)).count), t)
  else ((s.get (TMR_CNT.CNT e m), s.get (TMR_CNT.CNT e (m + 1))), s)

/-- Latched counts written to TMR_CNTn (07 R379). -/
def State.timerPutLatch (s : State) (e n : Nat) (c : Nat × Nat) : State :=
  let m := s.timerLead e n
  let t := (s.setReg (TMR_CNT e m) (BitVec.ofNat 32 c.1)).put (TMR_CTL.CNTSRC e m) 1
  if s.timerPaired e m then (t.setReg (TMR_CNT e (m + 1)) (BitVec.ofNat 32 c.2)).put (TMR_CTL.CNTSRC e (m + 1)) 1 else t

/-- A software capture at the present edge (07 R379). -/
def State.timerCapture (s : State) (e n : Nat) : State :=
  let r := s.timerLatch e n
  r.2.timerPutLatch e n r.1

/-- The TCLK edge at or before a cluster time that lies within a few edges of the present one, in units of 2^-16 ns. -/
def State.edgeAt (s : State) (u : Nat) : Nat :=
  if s.rgl.time ≤ u * 2 ^ 24 then s.rgl.edge
  else s.rgl.edge - ((s.rgl.time - u * 2 ^ 24 + s.increment.toNat - 1) / s.increment.toNat)

/-- The boundary index of a ball stamp in units of 2^-16 ns; of a held timer, that of its held count if the stamp is not older. -/
def State.stampIndex (s : State) (e n u : Nat) : Nat :=
  let i := s.timerIndex e n (s.edgeAt u) (u * 2 ^ 24)
  if s.timerFrozen e n && (s.timerGap e n (s.timer e n).done i).isSome then (s.timer e n).done else i

/-- The counts in force at a boundary index, of the timer and of the high half of its pair (07 R384): those held, or those left by one
of its last steps. Of an index before all of these the count held is taken (log entry 13). -/
def State.countsAt (s : State) (e n i : Nat) : Nat × Nat :=
  let x := s.timer e n
  let hi := (s.timer e (n + 1)).count
  let held := ((x.done, x.count, hi) :: x.past).filterMap fun p =>
    match s.timerGap e n p.1 i with
    | some g => if g ≤ p.2.1 then some (p.2.1 - g, p.2.2) else none
    | none => none
  held.headD (x.count, hi)

/-- The count in force at the last TCLK edge at or before a ball stamp (07 R384). -/
def State.countAt (s : State) (e n u : Nat) : Nat :=
  if s.timerRuns e n then (s.countsAt e n (s.stampIndex e n u)).1 else s.get (TMR_CNT.CNT e n)

/-- One capture register written (07 R385, R388): its CAPTURED flag set, and its overrun flag if CAPTURED was 1 and no read of
it is served in the tick. -/
def State.putCapture (s : State) (e n : Nat) (rising readInTick : Bool) (v : Word) : State :=
  let cap := if rising then TMR_CTL.CAPTR e n else TMR_CTL.CAPTF e n
  let ovr := if rising then TMR_CTL.OVRR e n else TMR_CTL.OVRF e n
  let t := s.setReg (if rising then TMR_CAPR e n else TMR_CAPF e n) v
  (if s.on cap && !readInTick then t.put ovr 1 else t).put cap 1

/-- A read of TMR_CAPRn or TMR_CAPFn (07 R386, R387): the value, and the state with CAPTURED cleared unless a capture to the
register occurs in the tick. -/
def State.captureRead (s : State) (e n : Nat) (rising captureInTick : Bool) : Word × State :=
  (s.reg (if rising then TMR_CAPR e n else TMR_CAPF e n),
   if captureInTick then s else s.put (if rising then TMR_CTL.CAPTR e n else TMR_CTL.CAPTF e n) 0)

/-- An edge of the timer's capture pin has been stamped that it has not captured (07 R382, 02 R56). -/
def State.freshEdge (s : State) (e n : Nat) (rising : Bool) : Bool :=
  let p := s.stampPoint (pinInput (s.get (TMR_IO.IPIN e n)))
  if rising then decide ((s.timer e n).seenRise < p.riseNo) else decide ((s.timer e n).seenFall < p.fallNo)

/-- The edges stamped up to now are not for the timer: captured, or before the enable of a polarity. -/
def State.seeEdges (s : State) (e n : Nat) (rising falling : Bool) : State :=
  let x := s.timer e n
  s.setTimer e n { x with seenRise := if rising then s.stampCount else x.seenRise, seenFall := if falling then s.stampCount else x.seenFall }

/-- The words of a capture, and the state that has worked off the boundaries up to the stamp (07 R383, R384). -/
def State.captureWords (s : State) (e n : Nat) (stamp : Time96) : Word × Word × State :=
  if s.on (TMR_CTL.CFMT e n) then (stampWord stamp, stampWord stamp, s)
  else if s.timerRuns e n then
    let i := s.stampIndex e n (ofTime96 stamp)
    let t := s.timerCatchUp e n i
    (BitVec.ofNat 32 (t.countsAt e n i).1, BitVec.ofNat 32 (t.countsAt e n i).2, t)
  else (s.reg (TMR_CNT e n), s.reg (TMR_CNT e (n + 1)), s)

/-- An edge captured by a timer (07 R382 to R388); with CFMT = 0 the high half of a pair captures with its low half. -/
def State.edgeCapture (s : State) (e n : Nat) (rising readInTick highRead : Bool) : State :=
  if s.timerHigh e n || !s.on (TMR_IO.IEN e n) ||
      !(s.get (TMR_CTL.CEDGE e n)).testBit (if rising then 0 else 1) || !s.freshEdge e n rising then s
  else
    let c := s.captureWords e n (s.stampValue (pinInput (s.get (TMR_IO.IPIN e n))) rising)
    let t := (c.2.2.timerSettle e n).putCapture e n rising readInTick c.1
    let t := if s.timerPaired e n && !s.on (TMR_CTL.CFMT e n) then t.putCapture e (n + 1) rising highRead c.2.1 else t
    (t.seeEdges e n rising !rising).timerEvent e n (s.evsel e n 2) s.rgl.edge

/-! ## Phase-mode compares (07 R365 to R369) -/

/-- TMR.PARM on tracker k: whether the arming is accepted, and the state after it (07 R365, 03 R144, R147). The boundaries before it are
worked off first (07 R366). -/
def State.timerParm (s : State) (e n k target : Nat) : Bool × State :=
  if s.on (TMR_CTL.PARMED e n) || s.trackerRefuses k then (false, s)
  else if s.beyondHorizon k target then (false, s.put CDR_STAT.HZNERR 1)
  else
    let t := s.timerSettle e n
    (true, (t.setTimer e n { t.timer e n with target, tracker := k, late := s.phasePassed k target }).put (TMR_CTL.PARMED e n) 1)

/-- PARMED clears once the boundaries passed while it was 1 are worked off: no match among them acts (07 R366). -/
def State.timerDisarm (s : State) (e n : Nat) : State := (s.timerSettle e n).put (TMR_CTL.PARMED e n) 0

/-- The least cluster time after lo and up to hi at which the presented trajectory of tracker n has reached a target, by halving. -/
def State.reachTime (s : State) (n target lo hi : Nat) : Nat → Nat
  | 0 => hi
  | fuel + 1 =>
    if hi ≤ lo + 1 then hi
    else if phaseDistance target ((s.tracker n).path.at ((lo + hi) / 2) / 2 ^ 32) ≤ 0 then s.reachTime n target lo ((lo + hi) / 2) fuel
    else s.reachTime n target ((lo + hi) / 2) hi fuel

/-- The compare value of a target that has been reached (03 R145), in units of 2^-40 ns. -/
def State.compareValue (s : State) (n target : Nat) : Nat :=
  let back := 2 * (((-(phaseDistance target (s.phase n))).toNat + 1) * 1000000000 * 2 ^ 32 / Nat.max 1 (s.tracker n).path.freq) + 2 ^ 42
  s.reachTime n target (s.rgl.time - back) s.rgl.time 96

/-- The phase-mode compare fires (07 R367): its edge crosses the ball at C (07 R372). Of a late one the manual gives no crossing (log
entry 96). -/
def State.timerParmFire (s : State) (e n : Nat) : State :=
  let x := s.timer e n
  let t := (s.timerDisarm e n).put (TMR_CTL.CMPF e n) 1
  let t := if x.late then t.put (TMR_CTL.LATE e n) 1 else t
  let u := if x.late then none else some (s.compareValue x.tracker x.target / 2 ^ 24)
  ((t.timerAct e n (s.get (TMR_IO.OACT e n))).timerDrive e n (32 * s.rgl.edge) u).timerEvent e n (s.evsel e n 0) s.rgl.edge

/-- The Clock Drive aborts a phase-mode compare (07 R368). -/
def State.timerAbort (s : State) (e n : Nat) : State :=
  ((s.timerDisarm e n).put (TMR_CTL.ABORT e n) 1).timerEvent e n (s.evsel e n 0) s.rgl.edge

/-- The compare's firing has come, and no halt holds it (07 R367, R391). -/
def State.timerParmDue (s : State) (e n : Nat) : Bool :=
  s.on (TMR_CTL.PARMED e n) && !s.timerFrozen e n && s.phasePassed (s.timer e n).tracker (s.timer e n).target

/-- The timers whose index, 4·engine + timer, satisfies a condition, changed in turn. -/
def State.eachTimer (s : State) (f : State → Nat → Nat → State) : List Nat → State
  | [] => s
  | i :: is => (f s (i / 4) (i % 4)).eachTimer f is

/-- Abort of every phase-mode compare on tracker k (03 R142). -/
def State.abortTimers (s : State) (k : Nat) : State :=
  s.eachTimer (fun t e n => if t.on (TMR_CTL.PARMED e n) && (t.timer e n).tracker == k then t.timerAbort e n else t)
    (List.range 48)

/-- The timers that count tracker k in phase mode worked off to the present phase. -/
def State.syncPhaseTimers (s : State) (k : Nat) : State :=
  s.eachTimer (fun t e n =>
    if t.timerRuns e n && !t.timerHigh e n && t.on (TMR_CTL.MODE e n) && t.get (TMR_IO.TRK e n) == k then t.timerSettle e n else t)
    (List.range 48)

/-- The same timers after the phase of tracker k has stepped forward (07 R363): over several multiples, every match and wrap
among them is late. A phase-mode compare stepped over is late too (03 R134). -/
def State.jumpPhaseTimers (s : State) (k before : Nat) : State :=
  s.eachTimer (fun t e n =>
    let t := if t.on (TMR_CTL.PARMED e n) && (t.timer e n).tracker == k && t.phasePassed k (t.timer e n).target &&
        decide (0 < phaseDistance (t.timer e n).target before) then
      t.setTimer e n { t.timer e n with late := true } else t
    if t.timerRuns e n && !t.timerHigh e n && t.on (TMR_CTL.MODE e n) && t.get (TMR_IO.TRK e n) == k && decide (2 ≤ t.timerDue e n)
      then t.timerJump e n else t)
    (List.range 48)

/-- The same timers after CYC has been loaded: they go on from their counts. -/
def State.rebasePhaseTimers (s : State) (k : Nat) : State :=
  s.eachTimer (fun t e n => if t.timerRuns e n && t.on (TMR_CTL.MODE e n) && t.get (TMR_IO.TRK e n) == k then t.timerRebase e n else t)
    (List.range 48)

/-- The timers that wait for Regulator alarm a start (07 R353). -/
def State.startTimersOn (s : State) (a : Nat) : State :=
  s.eachTimer (fun t e n =>
    if t.on (TMR_CTL.EN e n) && !t.timerRuns e n && !t.timerHigh e n && t.get (TMR_CTL.START e n) == 1 && t.get (TMR_IO.SALM e n) == a
      then t.timerStart e n else t)
    (List.range 48)

/-! ## The watchdog (07 R394 to R402) and an engine's state -/

/-- An engine's hidden state at reset. -/
def engine0 : Engine :=
  { conds := 0, condR15 := 0, lres := 0, op := none, wcsHold := 0, wcsRead := 0, capHold := 0, capWrites := [], broken := 0,
    lockFailed := false, bulkError := false, lensFault := none, entry := none, halt := 0, stop := false, stepping := false,
    released := false, was := 0, cutReq := false, dcmpOff := 0, dcmpFired := 0 }

/-- What engine e holds beside its registers. -/
def State.eng (s : State) (e : Nat) : Engine := tget (fun _ => engine0) s.engines e

/-- The same written. -/
def State.setEng (s : State) (e : Nat) (x : Engine) : State := { s with engines := tset (fun _ => engine0) s.engines e x }

/-- A watchdog at reset. -/
def watchdog0 : Watchdog := { counted := 0, since := none, period := 8, expired := false }

/-- The watchdog of engine e. -/
def State.watchdog (s : State) (e : Nat) : Watchdog := tget (fun _ => watchdog0) s.watchdogs e

/-- The watchdog of engine e written. -/
def State.setWatchdog (s : State) (e : Nat) (x : Watchdog) : State :=
  { s with watchdogs := tset (fun _ => watchdog0) s.watchdogs e x }

/-- The watchdog counts (07 R394, R399 to R401, 17 R830): enabled, outside Nap, while the engine runs, or is idle with IDLE = 1, or is
halted with FRZ = 0 over one of these. -/
def State.watchdogCounts (s : State) (e : Nat) : Bool :=
  let st := s.get (ENG_STAT.STATE e)
  let under := if st == 3 && !s.on (TMR_WDCTL.FRZ e) then (s.eng e).was else st
  s.on (TMR_WDCTL.EN e) && s.get CLU_ATTACH.PSTATE != 3 && (under == 1 || (under == 2 && s.on (TMR_WDCTL.IDLE e)))

/-- A restart of the full period (07 R395, R399). -/
def State.watchdogRestart (s : State) (e : Nat) : State :=
  s.setWatchdog e { s.watchdog e with
    counted := 0, period := s.get (TMR_WDPER.PER e), since := if s.watchdogCounts e then some s.rgl.edge else none }

/-- The count held (07 R399). -/
def State.watchdogHold (s : State) (e : Nat) : State :=
  let x := s.watchdog e
  s.setWatchdog e { x with counted := x.counted + (match x.since with | some k => s.rgl.edge - k | none => 0), since := none }

/-- The watchdog goes on or is held, as the engine's state and the settings now say. -/
def State.watchdogSettle (s : State) (e : Nat) : State :=
  if !s.watchdogCounts e then s.watchdogHold e
  else if (s.watchdog e).since.isSome then s
  else s.setWatchdog e { s.watchdog e with since := some s.rgl.edge }

/-- The TCLK edges counted since the last restart. -/
def State.watchdogElapsed (s : State) (e : Nat) : Nat :=
  (s.watchdog e).counted + (match (s.watchdog e).since with | some k => s.rgl.edge - k | none => 0)

/-- An expiry (07 R396): the engine then recognises fault 0x04. -/
def State.watchdogExpire (s : State) (e : Nat) : State :=
  let t := ((s.put (TMR_WDCTL.EXP e) 1).count (TMR_WDCTL.ECNT e) 1).watchdogRestart e
  t.setWatchdog e { t.watchdog e with expired := true }

/-- A kick with a value (07 R395). -/
def State.watchdogKick (s : State) (e : Nat) (v : Word) : State :=
  if v = 0xC3A5 then s.watchdogRestart e else s.watchdogExpire e

/-- The timers of an engine that FRZ holds, at a halt and at its release (07 R390, R391). -/
def State.freezeTimers (s : State) (e : Nat) (halt : Bool) : State :=
  s.eachTimer (fun t e n =>
    if t.on (TMR_CTL.FRZ e n) then
      let t1 := if t.timerRuns e n && !t.timerHigh e n then (if halt then t.timerSettle e n else t.timerRebase e n) else t
      if !halt && t1.on (TMR_CTL.PARMED e n) && t1.phasePassed (t1.timer e n).tracker (t1.timer e n).target then
        t1.setTimer e n { t1.timer e n with late := true }
      else t1
    else t)
    ((List.range 4).map (4 * e + ·))

/-- A change of an engine's state (04 `ENG_STAT.STATE`), with what it does to the watchdog and to the timers: 0 stopped,
1 running, 2 idle, 3 halted, 4 frozen. -/
def State.setEngineState (s : State) (e st : Nat) : State :=
  let old := s.get (ENG_STAT.STATE e)
  if st = old then s
  else
    let t := if st = 3 then s.freezeTimers e true else s
    let t := t.put (ENG_STAT.STATE e) st
    let t := if old = 3 then t.freezeTimers e false else t
    if (old = 3 ∧ s.on (TMR_WDCTL.FRZ e)) ∨ (old ≠ 3 ∧ st = 2 ∧ !s.on (TMR_WDCTL.IDLE e)) then t.watchdogRestart e else t.watchdogSettle e

/-! ## Register writes -/

/-- TMR_CTLn with the writable fields of v (07 R353, R360, R374): while EN = 1 six fields stay, a reserved START stays, LINK
exists on T0 and T2 only. -/
def timerCtlWord (n : Nat) (old v : Word) : Word :=
  let take (w : Word) (hi lo : Nat) : Word := fieldSet w hi lo (fieldOf v hi lo)
  let w := take (take (take (take old 18 16) 11 10) 8 8) 0 0
  if bitAt old 0 then w
  else
    let w := take (take (take (take w 15 12) 9 9) 2 2) 1 1
    let w := if fieldOf v 5 4 < 2 then take w 5 4 else w
    if n % 2 = 0 then take w 3 3 else w

/-- A write would have changed one of the six fields that EN = 1 holds (07 R360), had EN been 0. -/
def timerCtlHeld (n : Nat) (old v : Word) : Bool :=
  bitAt old 0 && (timerCtlWord n (old &&& 0xFFFFFFFE) v ^^^ old) &&& 0xF23E != 0

/-- The W1C bits of TMR_CTLn. -/
def timerW1c : Word := 0x79800000

/-- The rules of a write to TMR_CTLn, `all` from ring 0, ring 1 or the engine; from ring 2 only SCAP and the W1C fields act
(07 R403). A PDIS that meets the firing is lost (07 R369). -/
def State.timerCtlWrite (s : State) (e n : Nat) (all : Bool) (v : Word) : State :=
  let frozen := s.timerFrozen e n
  let s := if all && s.get (ENG_STAT.STATE e) == 3 && bitAt v 8 && !frozen && !s.timerHigh e n then s.timerSettle e n else s
  let s := if all && bitAt v 20 && s.on (TMR_CTL.PARMED e n) && !s.timerParmDue e n then s.timerDisarm e n else s
  let old := s.reg (TMR_CTL e n)
  let w := (if all then timerCtlWord n old v else old) &&& ~~~ (v &&& timerW1c)
  let t := s.setReg (TMR_CTL e n) w
  let t := t.seeEdges e n (!bitAt old 10 && bitAt w 10) (!bitAt old 11 && bitAt w 11)
  let t := if frozen && !t.timerFrozen e n && !t.timerHigh e n then t.timerRebase e n else t
  if bitAt v 19 then t.timerCapture e n else t

/-- The rules of a write to TMR_CTLn by a master. -/
def writeTmrCtl (e n : Nat) (o : Origin) (v : Word) (s : State) : Effect :=
  .ok (s.timerCtlWrite e n (s.ringOf o != some 2) v)

/-- A write to TMR_CNTn is refused (07 R377, R381): while EN = 1, for the high half of a pair the EN of its low half (07 R375). -/
def State.countHeld (s : State) (e n : Nat) : Bool := s.on (TMR_CTL.EN e (s.timerLead e n))

/-- The rules of a write to TMR_CNTn (07 R381). -/
def writeTmrCnt (e n : Nat) (v : Word) (s : State) : Effect :=
  if s.countHeld e n then .denied s else .ok ((s.setReg (TMR_CNT e n) v).put (TMR_CTL.CNTSRC e n) 0)

/-- The rules of a write to TMR_IOn: a pin above 47 leaves its field unchanged. A phase-mode timer goes on from its count with the
multiples of a new tracker (07 R362), and captures no edge that came before IEN or the pin was set. -/
def writeTmrIo (e n : Nat) (v : Word) (s : State) : Effect :=
  let old := s.reg (TMR_IO e n)
  let move := s.timerRuns e n && !s.timerHigh e n && s.on (TMR_CTL.MODE e n) && fieldOf v 26 25 != fieldOf old 26 25
  let s := if move then s.timerSettle e n else s
  let v1 := if 47 < fieldOf v 19 14 then fieldSet v 19 14 (fieldOf old 19 14) else v
  let v2 := if 47 < fieldOf v1 12 7 then fieldSet v1 12 7 (fieldOf old 12 7) else v1
  let t := s.plainWrite (TMR_IO e n) v2
  let t := if move then t.timerRebase e n else t
  let moved := fieldOf v2 13 7 != fieldOf old 13 7
  let t := t.seeEdges e n moved moved
  { state := t.settlePins [s.get (TMR_IO.OPIN e n), t.get (TMR_IO.OPIN e n)], refused := v2 != v }

/-- The rules of a write to TMR_WDCTL (07 R399 to R401). -/
def writeTmrWdctl (e : Nat) (v : Word) (s : State) : Effect :=
  let t := s.plainWrite (TMR_WDCTL e) v
  .ok (if !s.on (TMR_WDCTL.EN e) && t.on (TMR_WDCTL.EN e) then t.watchdogRestart e else t.watchdogSettle e)

/-- The rules of a write to TMR_WDPER: below 8 stores 8. -/
def writeTmrWdper (e : Nat) (v : Word) (s : State) : Effect :=
  let t := s.plainWrite (TMR_WDPER e) v
  .ok (if fieldOf v 23 0 < 8 then t.put (TMR_WDPER.PER e) 8 else t)

/-! ## The commands -/

/-- TIMER_START (R353): the start edge of a timer with START = 0b00 whose EN has been set. -/
def execTimerStart (e : Fin 12) (n : Fin 4) (s : State) : Host.Outcome State Fault Refusal :=
  .next (if s.pllsRun && s.on (TMR_CTL.EN e n) && !s.timerRuns e n && !s.timerHigh e n && s.get (TMR_CTL.START e n) == 0
    then s.timerStart e n else s)

/-- TIMER_WRAP (R355): the next wrap, once its count boundary has come. -/
def execTimerWrap (e : Fin 12) (n : Fin 4) (s : State) : Host.Outcome State Fault Refusal :=
  .next (if !s.timerHigh e n && s.on (TMR_CTL.EN e n) && !s.matchAhead e n && decide (s.nextHappening e n ≤ s.timerDue e n)
    then s.timerNext e n else s)

/-- TIMER_COMPARE_MATCH (R356): the next compare match before a wrap, once its count boundary has come. -/
def execTimerCompareMatch (e : Fin 12) (n : Fin 4) (s : State) : Host.Outcome State Fault Refusal :=
  .next (if !s.timerHigh e n && s.on (TMR_CTL.EN e n) && s.matchAhead e n && decide (s.nextHappening e n ≤ s.timerDue e n)
    then s.timerNext e n else s)

/-- TIMER_STOP (R359): the stop edge after EN has been written 0. -/
def execTimerStop (e : Fin 12) (n : Fin 4) (s : State) : Host.Outcome State Fault Refusal :=
  .next (if !s.on (TMR_CTL.EN e n) && s.timerRuns e n && !s.timerHigh e n then s.timerStop e n else s)

/-- PHASE_MODE_COMPARE_FIRE (R367): an armed compare whose target has been reached, unless a halt holds it (R391). -/
def execPhaseModeCompareFire (e : Fin 12) (n : Fin 4) (s : State) : Host.Outcome State Fault Refusal :=
  .next (if s.timerParmDue e n then s.timerParmFire e n else s)

/-- PDIS (R369): a write of TMR_CTLn with PDIS = 1. -/
def execPdis (e : Fin 12) (n : Fin 4) (o : Origin) (v : Word) (s : State) : Host.Outcome State Fault Refusal :=
  .next (s.writeReg o (TMR_CTL e n) (v ||| 0x100000) (writeTmrCtl e n o (v ||| 0x100000)))

/-- SCAP (R379): a write of TMR_CTLn with SCAP = 1. -/
def execScap (e : Fin 12) (n : Fin 4) (o : Origin) (v : Word) (s : State) : Host.Outcome State Fault Refusal :=
  .next (s.writeReg o (TMR_CTL e n) (v ||| 0x80000) (writeTmrCtl e n o (v ||| 0x80000)))

/-- EDGE_CAPTURE (R382): the latest stamped edge of the capture pin; whether the register is read in the tick, and whether that of the
high half of a pair is. -/
def execEdgeCapture (e : Fin 12) (n : Fin 4) (rising : Bool) (reads : Bool × Bool) (s : State) : Host.Outcome State Fault Refusal :=
  .next (s.edgeCapture e n rising reads.1 reads.2)

/-- TMR_CNT_WRITE (R381). -/
def execTmrCntWrite (e : Fin 12) (n : Fin 4) (o : Origin) (v : Word) (s : State) : Host.Outcome State Fault Refusal :=
  .next (s.writeReg o (TMR_CNT e n) v (writeTmrCnt e n v))

/-- TMR_CTL_WRITE (R360). -/
def execTmrCtlWrite (e : Fin 12) (n : Fin 4) (o : Origin) (v : Word) (s : State) : Host.Outcome State Fault Refusal :=
  .next (s.writeReg o (TMR_CTL e n) v (writeTmrCtl e n o v))

/-- WATCHDOG_KICK (R395): a ring 0 write of TMR_WDKICK. The microword's kick is part of TMR_WR. -/
def execWatchdogKick (e : Fin 12) (o : Origin) (v : Word) (s : State) : Host.Outcome State Fault Refusal :=
  .next (s.writeReg o (TMR_WDKICK e) v fun t => .ok (t.watchdogKick e v))

/-- WATCHDOG_EXPIRY (R396): P − 200 ns, 100 TCLK edges before the end of the period. -/
def execWatchdogExpiry (e : Fin 12) (s : State) : Host.Outcome State Fault Refusal :=
  .next (if s.watchdogCounts e && decide (125 * (s.watchdog e).period - 100 ≤ s.watchdogElapsed e)
    then s.watchdogExpire e else s)

end Sys2Proof.Machine
end

