-- ==== Sys2Proof/Machine/ClockDrive.lean ====
section
/-! DEFINITION. The Clock Drive (03): trackers, estimates, phase alarms, ephemeris tables, phase captures and snapshots. -/

namespace Sys2Proof.Machine

/-! ## Phase alarms (03 R150 to R163) -/

/-- The event line of phase alarm m (03 R153). -/
def palmLine (m : Nat) : Nat := 108 + m / 4

/-- The target of an armed phase alarm. -/
def State.phaseTarget (s : State) (m : Nat) : PhaseTarget :=
  tget (fun _ => { target := 0, late := false, entry := 0 }) s.phaseTargets m

/-- The target of a phase alarm written. -/
def State.setPhaseTarget (s : State) (m : Nat) (x : PhaseTarget) : State :=
  { s with phaseTargets := tset (fun _ => { target := 0, late := false, entry := 0 }) s.phaseTargets m x }

/-- Phase alarm m fired, aborted or ended with TERR: its bit of CDR_EVSRC and its line. -/
def State.palmEvent (s : State) (m : Nat) : State := s.evsrc CDR_EVSRC.PALM (2 ^ m) (palmLine m)

/-- An abort of phase alarm m (03 R143). -/
def State.palmAbort (s : State) (m : Nat) : State :=
  ((s.put (CDR_PALM_CTL.ARM m) 0).put (CDR_PALM_CTL.ABORT m) 1).palmEvent m

/-- Each phase alarm of a list changed in turn. -/
def State.eachPalm (s : State) (f : State → Nat → State) : List Nat → State
  | [] => s
  | m :: ms => (f s m).eachPalm f ms

/-- Every armed target of tracker n aborted (03 R142). -/
def State.abortTargets (s : State) (n : Nat) : State :=
  (s.eachPalm (fun t m => if t.on (CDR_PALM_CTL.ARM m) && t.get (CDR_PALM_CTL.TRK m) == n then t.palmAbort m else t)
    (List.range 16)).abortTimers n

/-- Phase alarms of tracker n whose target a forward step of the phase has passed over are late (03 R134). -/
def State.jumpPalms (s : State) (n before : Nat) : State :=
  s.eachPalm (fun t m =>
    if t.on (CDR_PALM_CTL.ARM m) && t.get (CDR_PALM_CTL.TRK m) == n && t.phasePassed n (t.phaseTarget m).target &&
        decide (0 < phaseDistance (t.phaseTarget m).target before) then
      t.setPhaseTarget m { t.phaseTarget m with late := true } else t)
    (List.range 16)

/-- Entry e of table t ends it (03 R162): VGRP 0b11 with VSTART. -/
def State.ephBad (s : State) (i : Nat) : Bool := s.on (CDR_EPH_HI.VSTART i) && s.get (CDR_EPH_HI.VGRP i) == 3

/-- The index in the ephemeris memory of entry e of alarm m's table (03 R158). -/
def State.ephIndex (s : State) (m e : Nat) : Nat := 32 * s.get (CDR_PALM_CTL.TABLE m) + e

/-- The target of entry i of the ephemeris memory after cycle `cyc` (03 R159). -/
def State.ephTarget (s : State) (i cyc : Nat) : Nat :=
  (cyc + s.get (CDR_EPH_HI.DCYC i)) % 2 ^ 32 * 2 ^ 32 + s.get (CDR_EPH_LO.FRAC i)

/-- The end of a table by an error (03 R162). -/
def State.palmTerr (s : State) (m : Nat) : State :=
  ((s.put (CDR_PALM_CTL.ARM m) 0).put (CDR_PALM_CTL.TERR m) 1).palmEvent m

/-- The target that an arming of alarm m takes from its registers. -/
def State.palmTargetNow (s : State) (m : Nat) : Nat :=
  if s.get (CDR_PALM_CTL.MODE m) = 2 then s.ephTarget (s.ephIndex m 0) (s.get (CDR_PALM_CYC.CYC m))
  else s.get (CDR_PALM_CYC.CYC m) * 2 ^ 32 + s.get (CDR_PALM_FRAC.FRAC m)

/-- Arming of phase alarm m with the target, mode and tracker in its registers (03 R144 to R147, R156, R159, R162): whether it
was refused, and the state. The reserved mode 0b11 is refused (log entry 14). Where another refusal applies as well, HZNERR is not
set (DESIGN CHOICE, log entry 77). -/
def State.palmArm (s : State) (m : Nat) : Bool × State :=
  let k := s.get (CDR_PALM_CTL.TRK m)
  let mode := s.get (CDR_PALM_CTL.MODE m)
  let target := s.palmTargetNow m
  if s.trackerRefuses k || mode == 3 || (mode == 1 && decide (s.get (CDR_PALM_PER.PER m) < 0x10000)) then
    (true, s.put (CDR_PALM_CTL.WERR m) 1)
  else if s.beyondHorizon k target then (true, (s.put (CDR_PALM_CTL.WERR m) 1).put CDR_STAT.HZNERR 1)
  else if mode = 2 ∧ s.ephBad (s.ephIndex m 0) then (false, s.palmTerr m)
  else (false, (s.put (CDR_PALM_CTL.ARM m) 1).setPhaseTarget m
    { target, late := s.phasePassed k target, entry := 0, armEdge := some s.rgl.edge })

/-- Phase alarm m is armed in a mode, before the present edge, and has reached its target (03 R145, R146). -/
def State.palmDue (s : State) (m mode : Nat) : Bool :=
  s.on (CDR_PALM_CTL.ARM m) && s.get (CDR_PALM_CTL.MODE m) == mode && (s.phaseTarget m).armEdge != some s.rgl.edge &&
    s.phasePassed (s.get (CDR_PALM_CTL.TRK m)) (s.phaseTarget m).target

/-- FIRED, and LATE when the firing is late. -/
def State.palmMarks (s : State) (m : Nat) (late : Bool) : State :=
  let t := s.put (CDR_PALM_CTL.FIRED m) 1
  if late then t.put (CDR_PALM_CTL.LATE m) 1 else t

/-- The one-shot firing (03 R154). -/
def State.palmFire (s : State) (m : Nat) : State :=
  ((s.palmMarks m (s.phaseTarget m).late).put (CDR_PALM_CTL.ARM m) 0).palmEvent m

/-- The periodic firing (03 R155). -/
def State.palmPeriodicFire (s : State) (m : Nat) : State :=
  let x := s.phaseTarget m
  let per := s.get (CDR_PALM_PER.PER m) * 256
  let times := (-(phaseDistance x.target (s.phase (s.get (CDR_PALM_CTL.TRK m))))).toNat / per + 1
  ((s.palmMarks m (x.late || decide (1 < times))).setPhaseTarget m
    { target := (x.target + times * per) % 2 ^ 64, late := false, entry := 0, firedEdge := some s.rgl.edge }).palmEvent m

/-- The entry after entry e of alarm m's table, none at the end of the table (03 R161). -/
def State.ephNext (s : State) (m e : Nat) : Option Nat :=
  let i := s.ephIndex m e
  if s.on (CDR_EPH_HI.LAST i) then (if s.on (CDR_EPH_HI.LOOP i) then some 0 else none)
  else if e = 31 then none else some (e + 1)

/-- The firing of a table entry and the load of the next (03 R160 to R162). -/
def State.palmEntryFire (s : State) (m : Nat) : State :=
  let x := s.phaseTarget m
  let i := s.ephIndex m x.entry
  let t := (s.palmMarks m x.late).put (CDR_PALM_CTL.ENTRY m) x.entry
  let t := if s.on (CDR_EPH_HI.EVENT i) then t.palmEvent m else t
  let t := if s.on (CDR_EPH_HI.VSTART i) then t.groupStart (s.get (CDR_EPH_HI.VGRP i)) else t
  match s.ephNext m x.entry with
  | none => t.put (CDR_PALM_CTL.ARM m) 0
  | some e =>
    let next := s.ephTarget (s.ephIndex m e) (x.target / 2 ^ 32)
    if phaseDistance next x.target ≤ 0 ∨ s.ephBad (s.ephIndex m e) then t.palmTerr m
    else t.setPhaseTarget m { target := next, late := false, entry := e, firedEdge := some s.rgl.edge }

/-- A master may write the registers of phase alarm m (03 R151). -/
def State.palmDenies (s : State) (o : Origin) (m : Nat) : Bool :=
  s.ringOf o == some 2 && s.get (CDR_PALM_CTL.OWNER m) != 1

/-- Phase alarm m fires at the present edge: a ring write of ARM = 0 is lost (00 R14, 03 R157). -/
def State.palmFiring (s : State) (m : Nat) : Bool := s.palmDue m 0 || s.palmDue m 1 || s.palmDue m 2 ||
  (s.phaseTarget m).firedEdge == some s.rgl.edge

/-- The rules of a write to CDR_PALM_CTLm (03 R151, R157). A write that repeats TRK, TABLE and MODE of an armed alarm sets no WERR
(DESIGN CHOICE, log entry 78). -/
def writePalmCtl (m : Nat) (o : Origin) (v : Word) (s : State) : Effect :=
  if s.palmDenies o m then .denied s
  else if s.on (CDR_PALM_CTL.ARM m) then
    let old := s.reg (CDR_PALM_CTL m)
    let changes := fieldOf v 15 11 != fieldOf old 15 11 || fieldOf v 2 1 != fieldOf old 2 1
    let v' := fieldSet (fieldSet v 15 11 (fieldOf old 15 11)) 2 1 (fieldOf old 2 1)
    let v' := if s.palmFiring m then fieldSet v' 0 0 1 else v'
    let t := s.plainWrite (CDR_PALM_CTL m) v'
    .ok (if changes then t.put (CDR_PALM_CTL.WERR m) 1 else t)
  else
    let t := s.plainWrite (CDR_PALM_CTL m) (fieldSet v 0 0 0)
    .ok (if bitAt v 0 then (t.palmArm m).2 else t)

/-- The rules of a write to CDR_PALM_CYCm, CDR_PALM_FRACm or CDR_PALM_PERm (03 R151, R157). -/
def writePalmValue (m key : Nat) (o : Origin) (v : Word) (s : State) : Effect :=
  if s.palmDenies o m then .denied s
  else if s.on (CDR_PALM_CTL.ARM m) then .kept (s.put (CDR_PALM_CTL.WERR m) 1)
  else .ok (s.plainWrite key v)

/-- An armed alarm in table mode uses table t (03 R163). -/
def State.tableBusy (s : State) (t : Nat) : Bool :=
  (List.range 16).any fun m =>
    s.on (CDR_PALM_CTL.ARM m) && s.get (CDR_PALM_CTL.MODE m) == 2 && s.get (CDR_PALM_CTL.TABLE m) == t

/-- The rules of a write to CDR_EPH_HI for entry i: it stores the whole entry (03 R163). -/
def writeEphHi (i : Nat) (o : Origin) (v : Word) (s : State) : Effect :=
  if s.tableBusy (i / 32) || (s.ringOf o == some 2 && !(s.get CDR_EPH_OWN.HOSTW).testBit (i / 32)) then
    { state := s.put CDR_STAT.EPHBUSY 1, resp := respDenied, refused := true }
  else .ok ((s.plainWrite (CDR_EPH_HI i) v).setReg (CDR_EPH_LO i) s.ephHold)

/-- The rules of a write to CDR_EPH_LO: held until CDR_EPH_HI is written. -/
def writeEphLo (v : Word) (s : State) : Effect := .ok { s with ephHold := v }

/-! ## Trackers (03 R124 to R144) -/

/-- A change of a tracker's state, with its LOCK bit and its TRK bit (03 R170). -/
def State.setTrackerState (s : State) (n st : Nat) : State :=
  let t := s.put (CDR_PT_STAT.STATE n) st
  let lock := t.get CDR_STAT.LOCK
  let t := t.put CDR_STAT.LOCK (if st = trackerLocked then lock ||| 2 ^ n else lock - (lock &&& 2 ^ n))
  t.trackerEvent n

/-- Entry into LOST (03 R138, R142): with LOSSACT = 0 every target is aborted. -/
def State.trackerEnterLost (s : State) (n : Nat) : State :=
  let t := s.setTrackerState n trackerLost
  if s.on (CDR_PT_CFG.LOSSACT n) then t else t.abortTargets n

/-- Entry into HOLDOVER (03 R138, R141, R142). -/
def State.trackerEnterHoldover (s : State) (n : Nat) : State :=
  let x := s.tracker n
  let t := s.setTracker n { x with
    path := { frozenAt (s.finePhase n) s.rgl.time with freq := s.get (CDR_FREQ.FREQ n) }
    good := 0, missed := 0, holdEdge := s.rgl.edge }
  let t := ((t.setReg (CDR_ROCOF n) 0).put (CDR_PT_STAT.CATCHUP n) 0).setTrackerState n trackerHoldover
  let t := if s.on (CDR_PT_CFG.LOSSACT n) then t.abortTargets n else t
  if s.get (CDR_PT_CFG.HOLDLIM n) = 0 then t.trackerEnterLost n else t

/-- Entry into OFF (03 R138, R140, R142). -/
def State.trackerOffEntry (s : State) (n : Nat) : State :=
  if s.get (CDR_PT_STAT.STATE n) = trackerOff then s
  else
    let t := s.setTracker n { tracker0 with path := frozenAt (s.finePhase n) s.rgl.time }
    (((((t.setReg (CDR_FREQ n) 0).setReg (CDR_ROCOF n) 0).put (CDR_PT_STAT.CATCHUP n) 0).setTrackerState n
      trackerOff).abortTargets n)

/-- The index of the last update instant whose estimate can be applied at a cluster time (03 R131, R132), plus 1. -/
def State.updatesNow (s : State) : Nat :=
  if s.now < 20000 * 65536 then 0 else (s.now - 20000 * 65536) / (250000 * 65536) + 1

/-- OFF to ACQUIRE (03 R138). -/
def State.trackerOn (s : State) (n : Nat) : State :=
  if s.get (CDR_PT_STAT.STATE n) = trackerOff then
    (s.setTracker n { tracker0 with path := frozenAt (s.finePhase n) s.rgl.time, lastValid := s.now,
                                    applied := s.updatesNow, seenRise := s.stampCount, seenFall := s.stampCount }).setTrackerState n trackerAcquire
  else s

/-- CYCLOAD in OFF (03 R123): CYC takes CDR_PTn_CYCINIT. -/
def State.trackerCycload (s : State) (n : Nat) : State :=
  if s.get (CDR_PT_STAT.STATE n) = trackerOff then
    let p := s.finePhase n % 2 ^ 64 + s.get (CDR_PT_CYCINIT.CYC n) * 2 ^ 64
    let t := s.syncPhaseTimers n
    (t.setTracker n { t.tracker n with path := frozenAt p s.rgl.time }).rebasePhaseTimers n
  else s

/-- The rules of a write to CDR_PTn_CTL. -/
def writePtCtl (n : Nat) (v : Word) (s : State) : Effect :=
  let t := s.plainWrite (CDR_PT_CTL n) v
  let t := if bitAt v 1 then t.trackerCycload n else t
  .ok (if bitAt v 0 then t.trackerOn n else t.trackerOffEntry n)

/-- The rules of a write to CDR_PTn_CFG (03 R124): a JUMPK below 9 stores 9. -/
def writePtCfg (n : Nat) (v : Word) (s : State) : Effect :=
  if s.get (CDR_PT_STAT.STATE n) ≠ trackerOff then .denied s
  else
    let t := s.plainWrite (CDR_PT_CFG n) v
    .ok (if fieldOf v 15 12 < 9 then t.put (CDR_PT_CFG.JUMPK n) 9 else t)

/-- The rules of a write to CDR_PTn_SRC (03 R124): a PIN above 47 leaves the register unchanged. -/
def writePtSrc (n : Nat) (v : Word) (s : State) : Effect :=
  if s.get (CDR_PT_STAT.STATE n) ≠ trackerOff then .denied s
  else if 47 < fieldOf v 29 24 then .kept s
  else .ok (s.plainWrite (CDR_PT_SRC n) v)

/-- A source instant with its value (03 R126, R129). -/
def State.trackerInstant (s : State) (n at_ : Nat) (v : Int) : State :=
  let x := s.tracker n
  s.setTracker n { x with instants := x.instants ++ [(at_, v)], lastValid := s.now, lost := false }

/-- An instant less the source delay `CDR_PTn_DLY` × 62.5 ps. -/
def State.lessDelay (s : State) (n : Nat) (u : Int) : Nat := (u - signed 32 (s.get (CDR_PT_DLY.DLY n)) * 4096).toNat

/-- The second of cluster time nearest to the present one whose low 16 bits are given (03 R126). Of two equally near, 2^15 s
away, it is the earlier one (DESIGN CHOICE, log entry 79). -/
def State.nearestSecond (s : State) (low : Nat) : Int :=
  let sec := s.now / unitsPerSec
  (sec : Int) + signed 16 (unsigned 16 ((low : Int) - sec))

/-- The phase-feed operation (03 R125 to R127): a sample with its second, smpCnt and quality. -/
def State.phaseFeed (s : State) (n : Nat) (value : Int) (secLow smpCnt : Nat) (quality : Bool) : State :=
  let fs := if s.on (CDR_PT_SRC.RATE n) then 14400 else 4800
  if s.get (CDR_PT_SRC.KIND n) ≠ 1 ∨ s.get (CDR_PT_STAT.STATE n) = trackerOff ∨ fs ≤ smpCnt ∨ !quality then s
  else s.trackerInstant n (s.lessDelay n (s.nearestSecond secLow * unitsPerSec + (smpCnt * unitsPerSec / fs : Nat))) value

/-- The chart gives pin k to tracker n as its capture input (03 R128, 12 R621). -/
def State.trackerHasPin (s : State) (n k : Nat) : Bool := s.get (FLD_CFG.FUNC k) == 4 && s.get (FLD_CFG.OWNER k) == 0x30 + n

/-- The number of the latest stamp of a polarity at a point, 0 for none (12 R648). -/
def State.stampNo (s : State) (i : Nat) (rising : Bool) : Nat :=
  if rising then (s.stampPoint i).riseNo else (s.stampPoint i).fallNo

/-- An edge of the source pin, stamped since the enable and not taken before (03 R128, R129). -/
def State.zeroCrossing (s : State) (n : Nat) (rising : Bool) : State :=
  let x := s.tracker n
  let st := s.get (CDR_PT_STAT.STATE n)
  let pin := s.get (CDR_PT_SRC.PIN n)
  let no := s.stampNo (pinInput pin) rising
  let u := s.lessDelay n (ofTime96 (s.stampValue (pinInput pin) rising))
  let freq := if st = trackerAcquire then 75 * 2 ^ 24 else s.get (CDR_FREQ.FREQ n)
  let last := if rising then x.lastRise else x.lastFall
  let early := last.any fun t => decide ((u - t) * freq * 2 < unitsPerSec * 2 ^ 24)
  if s.get (CDR_PT_SRC.KIND n) ≠ 2 ∨ st = trackerOff ∨ (!rising ∧ !s.on (CDR_PT_SRC.BOTH n)) ∨ !s.trackerHasPin n pin ∨
      no ≤ (if rising then x.seenRise else x.seenFall) then s
  else
    let y := if rising then { x with seenRise := no } else { x with seenFall := no }
    if early then s.setTracker n y
    else
      let t := s.setTracker n (if rising then { y with lastRise := some u } else { y with lastFall := some u })
      t.trackerInstant n u (if rising then 0 else 2 ^ 31)

/-- The source's timeout has passed (03 R124). -/
def State.sourceLost (s : State) (n : Nat) : Bool :=
  let x := s.tracker n
  let gap := s.now - x.lastValid
  match s.get (CDR_PT_SRC.KIND n) with
  | 0 => true
  | 1 => decide (Nat.max 1 (s.get (CDR_PT_SRC.GAP n)) * 250000 * 65536 < gap)
  | 2 =>
    if s.get (CDR_PT_STAT.STATE n) = trackerAcquire then decide (100000000 * 65536 < gap)
    else decide (3 * unitsPerSec * 2 ^ 24 < 2 * gap * s.get (CDR_FREQ.FREQ n))
  | _ => decide (2 ≤ x.missed)

/-- W nominal cycles (03 R132). -/
def State.windowCycles (s : State) (n : Nat) : Nat := 2 ^ s.get (CDR_PT_CFG.WIN n)

/-- A nominal cycle in units of 2^-40 ns: 20 ms (log entry 80). -/
def nominalCycle : Nat := 20000000 * 2 ^ 40

/-- The source instants at or before `tu` (2^-40 ns) and later than some nominal cycles before it. -/
def State.instantsWithin (s : State) (n tu cycles : Nat) : List (Nat × Int) :=
  (s.tracker n).instants.filter fun p => decide (p.1 * 2 ^ 24 ≤ tu) && decide (tu < p.1 * 2 ^ 24 + cycles * nominalCycle)

/-- The source instants that an estimate for `tu` uses: those of the last W nominal cycles (03 R132). -/
def State.windowInstants (s : State) (n tu : Nat) : List (Nat × Int) := s.instantsWithin n tu (s.windowCycles n)

/-- The estimate of tracker n for update instant k (03 R130 to R132), with CDR_PTn_OFS added (R120). -/
def State.estimateFor (s : State) (n k : Nat) : Option Estimate :=
  let tu := k * updateSpan
  let ofs := s.get (CDR_PT_OFS.OFS n) * 2 ^ 32
  match s.get (CDR_PT_SRC.KIND n) with
  | 0 => none
  | 3 => ((s.tracker n).peer.filter fun p => p.tu == tu).map fun p => { p with phase := (p.phase + ofs) % 2 ^ 64 }
  | _ =>
    if s.sourceLost n || (s.windowInstants n tu).isEmpty then none
    else
      let r := Config.fitPhase (s.get (CDR_PT_CFG.WIN n)) tu (s.windowInstants n tu)
      some { phase := (r.1.toNat * 2 ^ 32 + ofs) % 2 ^ 64, freq := r.2.1.toNat, rho := signed 32 r.2.2.toNat, tu }

/-- The estimated phase, a fraction of a turn in units of 2^-64, at a cluster time. -/
def Estimate.at (x : Estimate) (t : Nat) : Nat := unsigned 64 ((x.phase : Int) + sweep x.freq x.rho x.tu x.tu t)

/-- An estimate lies between 15 Hz and 75 Hz (03 R138). -/
def Estimate.inRange (x : Estimate) : Bool := decide (15 * 2 ^ 24 ≤ x.freq) && decide (x.freq ≤ 75 * 2 ^ 24)

/-- The correction c at the present edge (03 R132). -/
def State.correctionOf (s : State) (n : Nat) (x : Estimate) : Int :=
  signed 64 (unsigned 64 ((x.at s.rgl.time : Int) - s.finePhase n))

/-- The presented trajectory written, at the present edge. -/
def State.setPath (s : State) (n phase : Nat) (x : Estimate) (correction : Int) (half : Bool) : State :=
  s.setTracker n { s.tracker n with path :=
    { phase, start := s.rgl.time, freq := x.freq, rho := x.rho, tu := x.tu, correction, half } }

/-- A forward step of the presented phase of tracker n to `phase` (03 R134, R139). -/
def State.phaseForward (s : State) (n phase : Nat) (x : Estimate) (mark : State → State) : State :=
  let before := s.phase n
  let t := mark ((s.syncPhaseTimers n).setPath n phase x 0 false)
  (t.jumpPalms n before).jumpPhaseTimers n before

/-- The frequency and rate of change registers, and the estimate held. -/
def State.putEstimate (s : State) (n : Nat) (x : Estimate) : State :=
  ((s.setReg (CDR_FREQ n) (BitVec.ofNat 32 x.freq)).setReg (CDR_ROCOF n) (BitVec.ofInt 32 x.rho)).setTracker n
    { s.tracker n with estimate := some x }

/-- An estimate applied through 03 R133 to R135. -/
def State.applyEstimate (s : State) (n : Nat) (x : Estimate) : State :=
  let c := s.correctionOf n x
  let lim := (s.jumpLimit n : Int)
  let t := s.putEstimate n x
  if lim < c then
    (t.put (CDR_PT_STAT.CATCHUP n) 0).phaseForward n (unsigned 96 ((s.finePhase n : Int) + c)) x
      fun u => (u.put (CDR_PT_STAT.PHJUMP n) 1).trackerEvent n
  else if c < -lim then
    (((t.setPath n (s.finePhase n) x 0 true).put (CDR_PT_STAT.PHJUMP n) 1).put (CDR_PT_STAT.CATCHUP n) 1).trackerEvent n
  else (t.setPath n (s.finePhase n) x c false).put (CDR_PT_STAT.CATCHUP n) 0

/-- The first lock after OFF (03 R139): the phase moves forward by less than one turn, without PHJUMP. -/
def State.lockForward (s : State) (n : Nat) (x : Estimate) : State :=
  let p := s.finePhase n
  let f := x.at s.rgl.time
  let q := p / 2 ^ 64 * 2 ^ 64 + f + (if f < p % 2 ^ 64 then 2 ^ 64 else 0)
  (s.putEstimate n x).phaseForward n (q % 2 ^ 96) x id

/-- Successive phase predictions agree within JUMPLIM (03 R138): the last estimate, run on to this one's instant. -/
def State.predictionAgrees (s : State) (n : Nat) (x : Estimate) : Bool :=
  match (s.tracker n).estimate with
  | some y => decide ((signed 64 (unsigned 64 ((x.phase : Int) - y.at x.tu))).natAbs ≤ s.jumpLimit n)
  | none => false

/-- The window has filled with source instants (03 R138): one of the W cycles before it is held too. -/
def State.windowFilled (s : State) (n : Nat) (x : Estimate) : Bool :=
  s.get (CDR_PT_SRC.KIND n) == 3 ||
    (s.instantsWithin n x.tu (2 * s.windowCycles n)).any fun p => decide (p.1 * 2 ^ 24 + s.windowCycles n * nominalCycle ≤ x.tu)

/-- The application of update instant k at the present edge, by the tracker's state (03 R138). -/
def State.trackerUpdate (s : State) (n k : Nat) : State :=
  let est := s.estimateFor n k
  let st := s.get (CDR_PT_STAT.STATE n)
  let t0 := s.setTracker n { s.tracker n with applied := k + 1, missed := if est.isSome then 0 else (s.tracker n).missed + 1
                                              lost := if est.isSome then false else (s.tracker n).lost
                                              instants := s.instantsWithin n (k * updateSpan) (2 * s.windowCycles n) ++
                                                ((s.tracker n).instants.filter fun p => decide (k * updateSpan < p.1 * 2 ^ 24)) }
  match est with
  | none => if st = trackerLocked then t0 else t0.setTracker n { t0.tracker n with good := 0 }
  | some x =>
    let t := if x.inRange then t0 else t0.put (CDR_PT_STAT.RANGE n) 1
    if st = trackerLocked then (if x.inRange then t.applyEstimate n x else t.trackerEnterHoldover n)
    else if st = trackerLost then
      (t.setTracker n { t.tracker n with fromLost := true, good := 0, estimate := none }).setTrackerState n trackerAcquire
    else if st = trackerHoldover then
      let good := if x.inRange then (t.tracker n).good + 1 else 0
      if good < 8 then t.setTracker n { t.tracker n with good }
      else (t.applyEstimate n x).setTrackerState n trackerLocked
    else
      let good := if !x.inRange then 0 else if s.predictionAgrees n x then (t.tracker n).good + 1 else 1
      let t := t.setTracker n { t.tracker n with good, estimate := some x }
      if good < 8 ∨ !s.windowFilled n x then t
      else if (t.tracker n).fromLost then (t.applyEstimate n x).setTrackerState n trackerLocked
      else (t.lockForward n x).setTrackerState n trackerLocked

/-! ## Snapshots -/

/-- The phases of some trackers latched (03 R168). -/
def State.latchPhases (s : State) : List Nat → State
  | [] => s
  | n :: ns =>
    ((s.setReg (CDR_PHASE n) (BitVec.ofNat 32 (s.phase n))).setReg (CDR_CYCLE n) (BitVec.ofNat 32 (s.phase n / 2 ^ 32))).latchPhases ns

/-- The Clock Drive snapshot (03 R168). -/
def State.phaseSnapshot (s : State) : State :=
  let t := ((s.setReg CDR_SNAP_T0 (time96Word s.now96 0)).setReg CDR_SNAP_T1 (time96Word s.now96 1)).setReg CDR_SNAP_T2
    (time96Word s.now96 2)
  let t := t.latchPhases (List.range 4)
  (t.put CDR_SNAP_CMD.VALID ((List.range 4).foldl (fun a n => a + 2 ^ n * bit (s.trackerValid n)) 0)).put CDR_SNAP_CMD.SEQ
    (s.get CDR_SNAP_CMD.SEQ + 1)

/-- The rules of a write to CDR_SNAP_CMD. -/
def writeCdrSnap (v : Word) (s : State) : Effect := .ok (if bitAt v 0 then s.phaseSnapshot else s)

/-- A read of CDR_PCAP_CYCn (03 R167). -/
def State.pcapRead (s : State) (n : Nat) (captureInTick : Bool) : Word × State :=
  (s.reg (CDR_PCAP_CYC n), if captureInTick then s else s.put (CDR_PCAP_STAT.CAPTURED n) 0)

/-! ## The commands -/

/-- PCAP_CYC_READ (R167), by the host port; `captureInTick` when a capture occurs in the tick. -/
def execPcapCycRead (n : Fin 4) (captureInTick : Bool) (s : State) : Host.Outcome State Fault Refusal :=
  .next (if s.hostError false (CDR_PCAP_CYC n) then s.answer .host respError 0
    else (s.pcapRead n captureInTick).2.answer .host respOk (s.pcapRead n captureInTick).1)

/-- CDR_SNAPSHOT (R168): a write of CDR_SNAP_CMD with GO = 1. -/
def execCdrSnapshot (o : Origin) (v : Word) (s : State) : Host.Outcome State Fault Refusal :=
  .next (s.writeReg o CDR_SNAP_CMD (v ||| 1) (writeCdrSnap (v ||| 1)))

/-- ZERO_CROSSING (R129): the latest stamped edge of a polarity on the tracker's source pin. -/
def execZeroCrossing (n : Fin 4) (rising : Bool) (s : State) : Host.Outcome State Fault Refusal :=
  .next (s.zeroCrossing n rising)

/-- ESTIMATE_APPLICATION (R132): the first update instant due whose estimate is not applied yet. -/
def execEstimateApplication (n : Fin 4) (s : State) : Host.Outcome State Fault Refusal :=
  .next (if s.pllsRun && s.get (CDR_PT_STAT.STATE n) != trackerOff && decide ((s.tracker n).applied < s.updatesNow)
    then s.trackerUpdate n (s.tracker n).applied else s)

/-- CATCHUP_END (R135): the gap has fallen to JUMPLIM, and R133 applies from here. -/
def execCatchupEnd (n : Fin 4) (s : State) : Host.Outcome State Fault Refusal :=
  .next <|
    match (s.tracker n).estimate with
    | some x =>
      if s.on (CDR_PT_STAT.CATCHUP n) && decide ((s.correctionOf n x).natAbs ≤ s.jumpLimit n) then
        (s.setPath n (s.finePhase n) x (s.correctionOf n x) false).put (CDR_PT_STAT.CATCHUP n) 0
      else s
    | none => s

/-- TRACKER_SOURCE_LOSS (R124, R138). -/
def execTrackerSourceLoss (n : Fin 4) (s : State) : Host.Outcome State Fault Refusal :=
  .next <|
    let st := s.get (CDR_PT_STAT.STATE n)
    if !s.sourceLost n || st == trackerOff || ((st == trackerHoldover || st == trackerLost) && (s.tracker n).lost) then s
    else
      let t := s.put (CDR_PT_STAT.SRCLOSS n) 1
      let t := t.setTracker n { t.tracker n with lost := true }
      if st = trackerLocked then t.trackerEnterHoldover n
      else t.setTracker n { t.tracker n with good := 0, instants := [], estimate := if st = trackerAcquire then none else (t.tracker n).estimate }

/-- HOLDOVER_LIMIT (R138): HOLDLIM × 10 ms, 5 000 000 edges each. -/
def execHoldoverLimit (n : Fin 4) (s : State) : Host.Outcome State Fault Refusal :=
  .next (if s.get (CDR_PT_STAT.STATE n) == trackerHoldover &&
      decide (s.get (CDR_PT_CFG.HOLDLIM n) * 5000000 ≤ s.rgl.edge - (s.tracker n).holdEdge)
    then s.trackerEnterLost n else s)

/-- TRACKER_ENABLE (R138): a write of CDR_PTn_CTL with EN = 1. -/
def execTrackerEnable (n : Fin 4) (o : Origin) (v : Word) (s : State) : Host.Outcome State Fault Refusal :=
  .next (s.writeReg o (CDR_PT_CTL n) (v ||| 1) (writePtCtl n (v ||| 1)))

/-- TRACKER_DISABLE (R142): a write of CDR_PTn_CTL with EN = 0. -/
def execTrackerDisable (n : Fin 4) (o : Origin) (v : Word) (s : State) : Host.Outcome State Fault Refusal :=
  .next (s.writeReg o (CDR_PT_CTL n) (v &&& 0xFFFFFFFE) (writePtCtl n (v &&& 0xFFFFFFFE)))

/-- CYCLOAD (R123): a write of CDR_PTn_CTL with CYCLOAD = 1. -/
def execCycload (n : Fin 4) (o : Origin) (v : Word) (s : State) : Host.Outcome State Fault Refusal :=
  .next (s.writeReg o (CDR_PT_CTL n) (v ||| 2) (writePtCtl n (v ||| 2)))

/-- PHASE_ALARM_ARM (R146): a write of CDR_PALM_CTLm with ARM = 1. -/
def execPhaseAlarmArm (m : Fin 16) (o : Origin) (v : Word) (s : State) : Host.Outcome State Fault Refusal :=
  .next (s.writeReg o (CDR_PALM_CTL m) (v ||| 1) (writePalmCtl m o (v ||| 1)))

/-- PHASE_ALARM_DISARM (R157): a write of CDR_PALM_CTLm with ARM = 0. -/
def execPhaseAlarmDisarm (m : Fin 16) (o : Origin) (v : Word) (s : State) : Host.Outcome State Fault Refusal :=
  .next (s.writeReg o (CDR_PALM_CTL m) (v &&& 0xFFFFFFFE) (writePalmCtl m o (v &&& 0xFFFFFFFE)))

/-- PHASE_ALARM_FIRE (R154). -/
def execPhaseAlarmFire (m : Fin 16) (s : State) : Host.Outcome State Fault Refusal :=
  .next (if s.palmDue m 0 then s.palmFire m else s)

/-- PHASE_ALARM_PERIODIC_FIRE (R155). -/
def execPhaseAlarmPeriodicFire (m : Fin 16) (s : State) : Host.Outcome State Fault Refusal :=
  .next (if s.palmDue m 1 then s.palmPeriodicFire m else s)

/-- EPHEMERIS_ENTRY_FIRE (R160). -/
def execEphemerisEntryFire (m : Fin 16) (s : State) : Host.Outcome State Fault Refusal :=
  .next (if s.palmDue m 2 then s.palmEntryFire m else s)

/-- EPHEMERIS_ENTRY_WRITE (R163): a write of CDR_EPH_HI at the index. -/
def execEphemerisEntryWrite (o : Origin) (v : Word) (s : State) : Host.Outcome State Fault Refusal :=
  .next (s.writeReg o (CDR_EPH_HI (s.get CDR_EPH_IDX.INDEX)) v (writeEphHi (s.get CDR_EPH_IDX.INDEX) o v))

/-- TRACKER_CONFIG_WRITE (R124): a write of CDR_PTn_SRC or, with `cfg`, of CDR_PTn_CFG. -/
def execTrackerConfigWrite (n : Fin 4) (cfg : Bool) (o : Origin) (v : Word) (s : State) : Host.Outcome State Fault Refusal :=
  .next (if cfg then s.writeReg o (CDR_PT_CFG n) v (writePtCfg n v) else s.writeReg o (CDR_PT_SRC n) v (writePtSrc n v))

end Sys2Proof.Machine
end

