-- ==== Sys2Proof/Machine/Regulator.lean ====
section
/-! DEFINITION. The Regulator (02): cluster time and its count, discipline, time quality, snapshots, pad calibration writes and
the 32 alarms. -/

namespace Sys2Proof.Machine

/-! ## Alarms (02 R96 to R111, R959 to R961) -/

/-- The armed alarm n. -/
def State.alarm (s : State) (n : Nat) : Alarm :=
  tget (fun _ => { compare := 0, armTime := 0, opened := false, lateOpen := false, lateClose := false }) s.alarms n

/-- The armed alarm n written. -/
def State.setAlarm (s : State) (n : Nat) (x : Alarm) : State :=
  { s with alarms := tset (fun _ => { compare := 0, armTime := 0, opened := false, lateOpen := false, lateClose := false }) s.alarms n x }

/-- The compare registers of alarm n as a cluster time. -/
def State.alarmCompare (s : State) (n : Nat) : Time96 :=
  time96OfWords (s.reg (RGL_ALM_T0 n)) (s.reg (RGL_ALM_T1 n)) (s.reg (RGL_ALM_T2 n))

/-- The compare registers of alarm n written. -/
def State.putCompare (s : State) (n : Nat) (c : Time96) : State :=
  ((s.setReg (RGL_ALM_T0 n) (time96Word c 0)).setReg (RGL_ALM_T1 n) (time96Word c 1)).setReg (RGL_ALM_T2 n) (time96Word c 2)

/-- Alarm n is armed. -/
def State.alarmArmed (s : State) (n : Nat) : Bool := s.on (RGL_ALM_CTL.ARM n)

/-- A write to alarm n's compare registers is ignored (02 R110). -/
def State.alarmLocked (s : State) (n : Nat) : Bool :=
  s.alarmArmed n || (n % 2 == 1 && s.alarmArmed (n - 1) && s.get (RGL_ALM_CTL.MODE (n - 1)) != 0)

/-- An arming of alarm n with its registers is accepted (02 R103, R105, R108, R109, R118, R960). -/
def State.alarmArmable (s : State) (n : Nat) : Bool :=
  let mode := s.get (RGL_ALM_CTL.MODE n)
  let c := s.alarmCompare n
  let p := s.alarmCompare (n + 1)
  decide (time96Ns c ≤ 999999999) && mode != 3 && !(n % 2 == 1 && mode != 0) &&
    !(n % 2 == 1 && (s.get (RGL_ALM_CTL.MODE (n - 1)) == 1 || s.get (RGL_ALM_CTL.MODE (n - 1)) == 2)) &&
    (mode == 0 || decide (time96Ns p ≤ 999999999)) &&
    (mode != 1 || decide (1000 * 65536 ≤ ofTime96 p)) &&
    (mode != 2 || decide (ofTime96 c < ofTime96 p))

/-- The arming of alarm n with the mode and compare value in its registers (02 R100): whether it was accepted, and the state. -/
def State.alarmArm (s : State) (n : Nat) : Bool × State :=
  if s.alarmArmable n then
    (true, (s.put (RGL_ALM_CTL.ARM n) 1).setAlarm n
      { compare := ofTime96 (s.alarmCompare n), armTime := s.now, opened := false, lateOpen := false, lateClose := false })
  else (false, s.put (RGL_ALM_CTL.WERR n) 1)

/-- A disarm (02 R107, R959, R961): OUT clears with it. -/
def State.alarmDisarm (s : State) (n : Nat) : State :=
  (s.put (RGL_ALM_CTL.ARM n) 0).put (RGL_ALM_CTL.OUT n) 0

/-- The event of alarm a with what it starts: phase captures (03 R164), Vernier groups (12 R640) and timers (07 R353). -/
def State.alarmEvent (s : State) (a c : Nat) (late : Bool) : State :=
  (((s.registerEventAt (112 + a) c).phaseCaptures a c late (List.range 4)).groupStarts
    ((List.range 3).filter fun g => s.on (VRN_GRP.SEN g) && s.get (VRN_GRP.SALM g) == a)).startTimersOn a

/-- FIRED, and LATE when the firing is late. -/
def State.alarmMarks (s : State) (n : Nat) (late : Bool) : State :=
  let t := s.put (RGL_ALM_CTL.FIRED n) 1
  if late then t.put (RGL_ALM_CTL.LATE n) 1 else t

/-- An armed alarm of a mode whose compare value cluster time has reached after the arming edge (02 R101). -/
def State.alarmDue (s : State) (n mode : Nat) : Bool :=
  s.alarmArmed n && s.get (RGL_ALM_CTL.MODE n) == mode && decide ((s.alarm n).armTime < s.now) &&
    decide ((s.alarm n).compare ≤ s.now)

/-- The opening of an alarm is late: its compare value had passed at the arming edge, or a step passed over it (02 R102,
R111). -/
def State.alarmLate (s : State) (n : Nat) : Bool :=
  decide ((s.alarm n).compare ≤ (s.alarm n).armTime) || (s.alarm n).lateOpen

/-- The one-shot firing (02 R101). -/
def State.alarmFire (s : State) (n : Nat) : State :=
  let t := (s.alarmMarks n (s.alarmLate n)).put (RGL_ALM_CTL.ARM n) 0
  t.alarmEvent n (s.alarm n).compare (s.alarmLate n)

/-- The periodic firing (02 R106). RGL_ALM_T0n to RGL_ALM_T2n keep the value written: the compare value that advances is the one in
force (DESIGN CHOICE, log entry 73). -/
def State.alarmPeriodicFire (s : State) (n : Nat) : State :=
  let x := s.alarm n
  let p := ofTime96 (s.alarmCompare (n + 1))
  let times := (s.now - x.compare) / p + 1
  let late := s.alarmLate n || decide (1 < times)
  ((s.alarmMarks n late).setAlarm n { x with compare := x.compare + times * p, armTime := 0, lateOpen := false, firedEdge := some s.rgl.edge }).alarmEvent n
    x.compare late

/-- The open event of a range alarm (02 R107). -/
def State.alarmOpen (s : State) (n : Nat) : State :=
  let t := ((s.alarmMarks n (s.alarmLate n)).put (RGL_ALM_CTL.OUT n) 1).setAlarm n { s.alarm n with opened := true }
  t.alarmEvent n (s.alarm n).compare (s.alarmLate n)

/-- The close event of a range alarm (02 R107). -/
def State.alarmClose (s : State) (n : Nat) : State :=
  let x := s.alarm n
  let late := x.lateClose || decide (ofTime96 (s.alarmCompare (n + 1)) ≤ x.armTime)
  ((s.alarmMarks n late).alarmDisarm n).registerEventAt (113 + n) (ofTime96 (s.alarmCompare (n + 1)))

/-- The firing that is due of alarm n, at the edge at which it is disarmed (02 R961). -/
def State.alarmSettle (s : State) (n : Nat) : State :=
  if s.alarmDue n 0 then s.alarmFire n
  else if s.alarmDue n 1 then s.alarmPeriodicFire n
  else if s.alarmDue n 2 then
    let t := if (s.alarm n).opened then s else s.alarmOpen n
    if ofTime96 (s.alarmCompare (n + 1)) ≤ s.now then t.alarmClose n else t
  else s

/-- A write of ARM = 0 meets an edge at which the alarm fires and clears ARM, or fires periodically, and is lost (00 R14, 02
R111): the firing of this edge has been taken, or is due. -/
def State.disarmLost (s : State) (n : Nat) : Bool :=
  s.alarmDue n 0 || s.alarmDue n 1 || (s.get (RGL_ALM_CTL.MODE n) == 1 && (s.alarm n).firedEdge == some s.rgl.edge) ||
    (s.alarmDue n 2 && decide (ofTime96 (s.alarmCompare (n + 1)) ≤ s.now))

/-- The partner of an even alarm in periodic or range mode stands disarmed (02 R109). -/
def State.settlePartner (s : State) (n : Nat) : State :=
  if n % 2 = 0 ∧ (s.get (RGL_ALM_CTL.MODE n) = 1 ∨ s.get (RGL_ALM_CTL.MODE n) = 2) ∧ s.alarmArmed (n + 1) then s.alarmDisarm (n + 1)
  else s

/-- Marks an armed alarm whose compare value or close time a forward step passes over (02 R111). -/
def State.skipAlarm (s : State) (before : Nat) (n : Nat) : State :=
  let x := s.alarm n
  let inside (c : Nat) : Bool := decide (before < c) && decide (c ≤ s.now)
  let c := !x.opened && inside x.compare
  let d := s.get (RGL_ALM_CTL.MODE n) == 2 && inside (ofTime96 (s.alarmCompare (n + 1)))
  if s.alarmArmed n && (c || d) then
    (s.setAlarm n { x with lateOpen := x.lateOpen || c, lateClose := x.lateClose || d }).put RGL_STAT.SKIPPED 1
  else s

/-- Marks every alarm that a forward step passes over. -/
def State.skipAlarms (s : State) (before : Nat) : List Nat → State
  | [] => s
  | n :: ns => (s.skipAlarm before n).skipAlarms before ns

/-- A master may write the registers of alarm n (02 R97). -/
def State.alarmDenies (s : State) (o : Origin) (n : Nat) : Bool :=
  s.ringOf o == some 2 && s.get (RGL_ALM_CTL.OWNER n) != 1

/-- The rules of a write to RGL_ALM_CTLn (02 R97, R100, R109, R111, R959, R960). -/
def writeAlmCtl (n : Nat) (o : Origin) (v : Word) (s : State) : Effect :=
  if s.alarmDenies o n then .denied s
  else
    let mode := s.get (RGL_ALM_CTL.MODE n)
    if s.alarmArmed n then
      if bitAt v 0 || s.disarmLost n then
        let t := s.plainWrite (RGL_ALM_CTL n) (fieldSet (fieldSet v 2 1 mode) 0 0 1)
        .ok (if fieldOf v 2 1 ≠ mode then t.put (RGL_ALM_CTL.WERR n) 1 else t)
      else .ok (((s.plainWrite (RGL_ALM_CTL n) v).alarmDisarm n).settlePartner n)
    else
      let t := (s.plainWrite (RGL_ALM_CTL n) (fieldSet v 0 0 0)).settlePartner n
      .ok (if bitAt v 0 then (t.alarmArm n).2 else t)

/-- The rules of a write to a compare register of alarm n (02 R97, R110). -/
def writeAlmTime (n key : Nat) (o : Origin) (v : Word) (s : State) : Effect :=
  if s.alarmDenies o n then .denied s
  else if s.alarmLocked n then .kept (s.put (RGL_ALM_CTL.WERR n) 1)
  else .ok (s.plainWrite key v)

/-- ALM.ARM (02 R100, R959, R960): compare value and mode written and the alarm armed; on an armed alarm nothing changes but
WERR. The Bool says that it armed. -/
def State.engineAlarmArm (s : State) (n mode : Nat) (c : Time96) : Bool × State :=
  if s.alarmArmed n then (false, s.put (RGL_ALM_CTL.WERR n) 1)
  else
    let t := if s.alarmLocked n then s else s.putCompare n c
    ((t.put (RGL_ALM_CTL.MODE n) mode).settlePartner n).alarmArm n

/-- ALM.SET (02 R110, R959). The Bool says that it wrote. -/
def State.engineAlarmSet (s : State) (n : Nat) (c : Time96) : Bool × State :=
  if s.alarmLocked n then (false, s.put (RGL_ALM_CTL.WERR n) 1) else (true, s.putCompare n c)

/-! ## The count (02 R49 to R53, R84 to R88, R91) -/

/-- Cluster time written. At an increment of SEC in LOCKED or HOLDOVER the AON seconds counter takes SEC and becomes valid (02 R91). -/
def State.setTime (s : State) (t : Nat) : State :=
  let u := { s with rgl := { s.rgl with time := t } }
  let sec := u.now / unitsPerSec
  if s.now / unitsPerSec < sec ∧ (s.get RGL_QUAL.STATE = 3 ∨ s.get RGL_QUAL.STATE = 4) then
    { u with rgl := { u.rgl with aonTime := sec % 2 ^ 48 * 32768 } }.put RGL_STAT.AONV 1
  else u

/-- The remaining offset Q written, with SLEWING (02 R87). -/
def State.setQ (s : State) (q : Int) : State :=
  { s with rgl := { s.rgl with q } }.put RGL_STAT.SLEWING (bit (q != 0))

/-- A whole offset added to cluster time: the trackers move with it (03 R136). -/
def State.addOffset (s : State) (q : Int) : State :=
  (s.setTime ((s.rgl.time : Int) + q).toNat).shiftTrackers q

/-- A forward step by q > 0 (02 R84, R85, R111, 12 R662). -/
def State.stepForward (s : State) (q : Int) : State :=
  ((((s.addOffset q).setQ 0).skipAlarms s.now (List.range 32))).ppsStep s.now

/-- The next TCLK edge (02 R49, R50, R86, R87). -/
def State.tclkEdge (s : State) : State :=
  if !s.pllsRun then s
  else
    let q := s.rgl.q
    let t := { s with rgl := { s.rgl with edge := s.rgl.edge + 1 } }
    if q = 0 then t.setTime ((s.rgl.time : Int) + s.rateStep).toNat
    else if q.natAbs < s.slewStep then
      ((t.setTime ((s.rgl.time : Int) + s.rateStep + q).toNat).shiftTrackers q).setQ 0
    else (t.setTime ((s.rgl.time : Int) + s.increment).toNat).setQ (if q < 0 then q + s.slewStep else q - s.slewStep)

/-- An idle step: the next TCLK edge, or without a TCLK the next period of AON_CLK (02 R72, R93; log entry 5). -/
def State.idle (s : State) : State :=
  if s.pllsRun then s.tclkEdge else { s with rgl := { s.rgl with aonTime := s.rgl.aonTime + 1 } }

/-! ## Discipline (02 R74 to R89) -/

/-- A discipline write by a master: from ring 2 only while the host port is the owner (02 R75, R77). -/
def State.discipline (s : State) (o : Origin) (act : State → Effect) : Effect :=
  if s.ringOf o = some 2 ∧ s.get RGL_SRV_OWN.OWNER ≠ 1 then
    { state := s.put RGL_STAT.OWNDENY 1, resp := respDenied, refused := true }
  else act s

/-- The servo freeze holds a write by this master: the owner's, not one from ring 0 or ring 1 (02 R89). -/
def State.servoHolds (s : State) (o : Origin) : Bool :=
  s.on RGL_STAT.SVCFRZ && !(s.ringOf o == some 0 || s.ringOf o == some 1)

/-- A writer's place in the order of the writes of one edge (02 R78): the owner, ring 1, ring 0. -/
def State.discRank (s : State) (o : Origin) : Nat :=
  if s.ringOf o = some 0 then 2 else if s.ringOf o = some 1 then 1 else 0

/-- The discipline writes of the present edge. -/
def State.edgeWrites (s : State) : List DiscWrite := s.rgl.writes.filter fun w => w.edge == s.rgl.edge

/-- A write to a discipline register comes, in the order of 02 R78, before one of the same edge that prevails over it. -/
def State.outranked (s : State) (o : Origin) (key : Nat) : Bool :=
  s.edgeWrites.any fun w => w.key == key && decide (s.discRank o < w.rank)

/-- A discipline write noted with the others of its edge. -/
def State.noteWrite (s : State) (o : Origin) (key : Nat) (v : Word) : State :=
  { s with rgl := { s.rgl with writes := s.edgeWrites ++ [{ key, edge := s.rgl.edge, rank := s.discRank o, value := v }] } }

/-- A word held by the servo freeze for a discipline register (02 R89). -/
def State.holdWrite (s : State) (key : Nat) (v : Word) : State :=
  { s with rgl := { s.rgl with held := tinsert key v (tdrop key s.rgl.held) } }

/-- The largest rate correction, 1000 ppm (02 R79). -/
def rateLimit : Nat := 0x4189374B

/-- The last discipline write (02 R90). -/
def State.markDiscipline (s : State) : State := { s with rgl := { s.rgl with discEdge := s.rgl.edge } }

/-- A rate write (02 R78 to R80, R89). -/
def State.writeRate (s : State) (o : Origin) (v : Word) : State :=
  let r := signed 32 v.toNat
  let w := BitVec.ofInt 32 (clampInt (-(rateLimit : Int)) rateLimit r)
  let t := if rateLimit < r.natAbs then s.put RGL_STAT.RCLAMP 1 else s
  let t := t.markDiscipline
  if s.servoHolds o then { t with rgl := { t.rgl with heldRate := some w } }
  else
    let t := t.noteWrite o RGL_RATE v
    if s.outranked o RGL_RATE then t else t.setReg RGL_RATE w

/-- The 64-bit count of Q's units has a magnitude below 2^63 (02 R81, R82). -/
def qFits (q : Int) : Bool := decide ((q / 2 ^ 24).natAbs < 2 ^ 63)

/-- Q after a commit, judged by mode and state (02 R83 to R85). -/
def State.applyQ (s : State) (q : Int) : State :=
  if (s.on RGL_CTL.MODE || s.get RGL_QUAL.STATE == 0) && decide (0 < q) then s.stepForward q else s.setQ q

/-- A discipline register as a commit by this master reads it: the word it wrote last, if the servo freeze holds it (02 R89). -/
def State.discReg (s : State) (o : Origin) (key : Nat) : Word :=
  if s.servoHolds o then (tfind s.rgl.held key).getD (s.reg key) else s.reg key

/-- The offset O of a commit with nanoseconds v (02 R80), in units of 2^-16 ns. -/
def State.stepOffsetBy (s : State) (o : Origin) (v : Word) : Int :=
  (signed 32 (s.discReg o RGL_STEP_SEC).toNat * 1000000000 + signed 32 v.toNat) * 65536 + ((s.discReg o RGL_STEP_FRAC).toNat % 65536 : Nat)

/-- A step commit of the offset with nanoseconds v (02 R81 to R85, R89): whether it was accepted, and the state. A commit that the
freeze holds is judged with the steps held before it (log entry 74). -/
def State.commitStep (s : State) (o : Origin) (v : Word) : Bool × State :=
  let offset := s.stepOffsetBy o v * 2 ^ 24
  let q := s.rgl.q + (if s.servoHolds o then s.rgl.heldStep else 0) + offset
  if 999999999 < (signed 32 v.toNat).natAbs ∨ !qFits q then (false, s.put RGL_STAT.STEPERR 1)
  else
    let t := s.markDiscipline
    if s.servoHolds o then (true, { t with rgl := { t.rgl with heldStep := t.rgl.heldStep + offset } })
    else (true, t.applyQ q)

/-- A change of `RGL_QUAL.STATE`, with the instants that R90 and R958 count from. -/
def State.setQuality (s : State) (st : Nat) : State :=
  let t := s.put RGL_QUAL.STATE st
  let t := if st = 3 ∧ s.get RGL_QUAL.STATE ≠ 3 then t.markDiscipline else t
  if st = 4 ∧ s.get RGL_QUAL.STATE ≠ 4 then { t with rgl := { t.rgl with holdEdge := t.rgl.edge } } else t

/-- A write of STATE names the present state or a transition of 02 R90 (R957). -/
def State.qualityNames (s : State) (st : Nat) : Bool :=
  let old := s.get RGL_QUAL.STATE
  st == old || (st == 2 && decide (old ≤ 4)) || (st == 3 && (old == 2 || old == 4))

/-- Writes to RGL_QUAL taken in turn (02 R957): ACC always, STATE where it names the present state or a transition. -/
def State.takeQuality (s : State) : List Word → State
  | [] => s
  | v :: vs =>
    let t := s.put RGL_QUAL.ACC (fieldOf v 15 8)
    (if s.qualityNames (fieldOf v 2 0) then t.setQuality (fieldOf v 2 0) else t).takeQuality vs

/-- The writes to RGL_QUAL of one edge, in the order of 02 R78. -/
def qualOrder (ws : List DiscWrite) : List Word :=
  [0, 1, 2].flatMap fun r => (ws.filter fun w => w.key == RGL_QUAL && w.rank == r).map (·.value)

/-- An accepted write to RGL_QUAL (02 R957): whether its STATE was taken, and the state. Behind a write of the same edge that
prevails over it (R78), the writes of the edge are judged anew, in their order, from the state before them. -/
def State.writeQuality (s : State) (o : Origin) (v : Word) : Bool × State :=
  if s.servoHolds o then (s.qualityNames (fieldOf v 2 0), s.holdWrite RGL_QUAL v)
  else
    let before := if s.edgeWrites.any (·.key == RGL_QUAL) then s.rgl.qualBefore else s.get RGL_QUAL.STATE
    let t := s.noteWrite o RGL_QUAL v
    let t := { t with rgl := { t.rgl with qualBefore := before } }
    if s.outranked o RGL_QUAL then
      let u := t.put RGL_QUAL.STATE before
      ((u.qualityNames (fieldOf v 2 0)), u.takeQuality (qualOrder t.rgl.writes))
    else (s.qualityNames (fieldOf v 2 0), t.takeQuality [v])

/-- RGL_SLEW written: PPM is held between 1 and 500. -/
def State.putSlew (s : State) (v : Word) : State :=
  let p := fieldOf v 8 0
  (s.plainWrite RGL_SLEW v).put RGL_SLEW.PPM (if p = 0 then 1 else if 500 < p then 500 else p)

/-- A word taken by a discipline register other than RGL_RATE and RGL_STEP. -/
def State.putDiscipline (s : State) (key : Nat) (v : Word) : State :=
  if key = RGL_QUAL then s.takeQuality [v] else if key = RGL_SLEW then s.putSlew v else s.plainWrite key v

/-- An accepted write to RGL_SLEW, RGL_STEP_SEC, RGL_STEP_FRAC or RGL_UTC: held by the servo freeze (02 R89), or taken unless a
write of the same edge prevails over it (R78). -/
def State.takeDiscipline (s : State) (o : Origin) (key : Nat) (v : Word) : State :=
  if s.servoHolds o then s.holdWrite key v
  else if s.outranked o key then s.noteWrite o key v
  else (s.noteWrite o key v).putDiscipline key v

/-- Held words taken by their registers (02 R89). -/
def State.putHeld (s : State) : List (Nat × Word) → State
  | [] => s
  | (k, v) :: r => (s.putDiscipline k v).putHeld r

/-- The servo freeze released (02 R89): the held words, the held rate and the held steps apply. A sum of steps that Q cannot hold
is refused as a commit is (log entry 74). -/
def State.releaseServo (s : State) : State :=
  let t := s.put RGL_STAT.SVCFRZ 0
  let t := match s.rgl.heldRate with
    | some w => t.setReg RGL_RATE w
    | none => t
  let h := s.rgl.heldStep
  let t := { t with rgl := { t.rgl with heldRate := none, heldStep := 0, held := [] } }
  let t := if h = 0 then t else if qFits (t.rgl.q + h) then t.applyQ (t.rgl.q + h) else t.put RGL_STAT.STEPERR 1
  t.putHeld s.rgl.held

/-! ## Register writes -/

/-- The rules of a write to RGL_RATE. -/
def writeRglRate (o : Origin) (v : Word) (s : State) : Effect := s.discipline o fun t => .ok (t.writeRate o v)

/-- The rules of a write to RGL_STEP. -/
def writeRglStep (o : Origin) (v : Word) (s : State) : Effect :=
  s.discipline o fun t => { state := (t.commitStep o v).2, refused := !(t.commitStep o v).1 }

/-- The rules of a write to RGL_QUAL. -/
def writeRglQual (o : Origin) (v : Word) (s : State) : Effect :=
  s.discipline o fun t => { state := (t.writeQuality o v).2, refused := !(t.writeQuality o v).1 }

/-- The rules of a write to another discipline register: RGL_SLEW, RGL_STEP_SEC, RGL_STEP_FRAC, RGL_UTC. -/
def writeRglPlain (key : Nat) (o : Origin) (v : Word) (s : State) : Effect := s.discipline o fun t => .ok (t.takeDiscipline o key v)

/-- A code of `RGL_SRV_OWN.OWNER`. -/
def servoOwnerCode (c : Nat) : Bool := decide (c ≤ 2) || (decide (0x10 ≤ c) && decide (c ≤ 0x1B))

/-- The rules of a write to RGL_SRV_OWN (02 R90). -/
def writeRglSrvOwn (v : Word) (s : State) : Effect :=
  let c := fieldOf v 4 0
  if !servoOwnerCode c then .kept s
  else
    let t := s.put RGL_SRV_OWN.OWNER c
    .ok (if c ≠ s.get RGL_SRV_OWN.OWNER ∧ s.get RGL_QUAL.STATE = 3 then t.setQuality 4 else t)

/-- The AON time as cluster time (02 R93). -/
def State.aonAsTime (s : State) : Nat :=
  s.rgl.aonTime / 32768 * unitsPerSec + s.rgl.aonTime % 32768 * 1000000000 / 32768 * 65536

/-- A snapshot (02 R69, R71, R72). Requests at one TCLK edge share one snapshot. -/
def State.rglSnapshot (s : State) : State :=
  let waiting := s.get CLU_STAT.STATE == 6
  if !waiting && s.rgl.snapEdge == some s.rgl.edge then s
  else
    let t96 := if waiting then toTime96 s.aonAsTime else s.now96
    let rem := unsigned 64 (s.rgl.q / 2 ^ 24)
    let t := { s with rgl := { s.rgl with snapEdge := if waiting then none else some s.rgl.edge } }
    let t := ((t.setReg RGL_SNAP0 (time96Word t96 0)).setReg RGL_SNAP1 (time96Word t96 1)).setReg RGL_SNAP2 (time96Word t96 2)
    let t := (t.setReg RGL_SNAP_REM0 (BitVec.ofNat 32 rem)).setReg RGL_SNAP_REM1 (BitVec.ofNat 32 (rem / 2 ^ 32))
    let t := (t.put RGL_SNAP_CMD.CLKW (bit waiting)).put RGL_SNAP_CMD.SLEW (s.get RGL_STAT.SLEWING)
    (t.put RGL_SNAP_CMD.QUAL (if waiting then 1 else s.get RGL_QUAL.STATE)).put RGL_SNAP_CMD.SEQ (s.get RGL_SNAP_CMD.SEQ + 1)

/-- The rules of a write to RGL_SNAP_CMD. -/
def writeRglSnap (v : Word) (s : State) : Effect := .ok (if bitAt v 0 then s.rglSnapshot else s)

/-- The rules of a write to RGL_PINCAL (02 R116, R117). -/
def writeRglPincal (v : Word) (s : State) : Effect :=
  let i := s.get RGL_PINCAL_IDX.INDEX
  if s.get SEC_LCS.STATE ≠ 2 then .denied s
  else if 0x77 ≤ i then .kept s
  else .ok (s.plainWrite (RGL_PINCAL i) v)

/-! ## The commands -/

/-- TEMP_READING (R62, R63). -/
def execTempReading (valid : Bool) (degc : BitVec 9) (s : State) : Host.Outcome State Fault Refusal :=
  .next (if valid then
      let t := (s.put RGL_TEMP.DEGC degc.toNat).put RGL_TEMP.VALID 1
      { t with rgl := { t.rgl with theta := signed 9 degc.toNat, tempSeen := true } }
    else (s.put RGL_TEMP.VALID 0).put RGL_STAT.TEMPERR 1)

/-- SNAPSHOT (R69): a write of RGL_SNAP_CMD with GO = 1. -/
def execSnapshot (o : Origin) (v : Word) (s : State) : Host.Outcome State Fault Refusal :=
  .next (s.writeReg o RGL_SNAP_CMD (v ||| 1) (writeRglSnap (v ||| 1)))

/-- RATE_WRITE (R79). -/
def execRateWrite (o : Origin) (v : Word) (s : State) : Host.Outcome State Fault Refusal :=
  .next (s.writeReg o RGL_RATE v (writeRglRate o v))

/-- STEP_COMMIT (R81). -/
def execStepCommit (o : Origin) (v : Word) (s : State) : Host.Outcome State Fault Refusal :=
  .next (s.writeReg o RGL_STEP v (writeRglStep o v))

/-- SLEW_COMPLETE (R87): the edge at which the remaining offset is less than a slew step. -/
def execSlewComplete (s : State) : Host.Outcome State Fault Refusal :=
  .next (if s.rgl.q ≠ 0 ∧ s.rgl.q.natAbs < s.slewStep then s.tclkEdge else s)

/-- QUAL_WRITE (R957). -/
def execQualWrite (o : Origin) (v : Word) (s : State) : Host.Outcome State Fault Refusal :=
  .next (s.writeReg o RGL_QUAL v (writeRglQual o v))

/-- HOLDOVER_TIMEOUT (R90): HOLDTO × 125 ms, 62 500 000 edges each. -/
def execHoldoverTimeout (s : State) : Host.Outcome State Fault Refusal :=
  .next (if s.get RGL_QUAL.STATE == 3 && s.on RGL_CTL.HOLDTO &&
      decide (s.get RGL_CTL.HOLDTO * 62500000 ≤ s.rgl.edge - s.rgl.discEdge) then s.setQuality 4 else s)

/-- SRV_OWN_WRITE (R90). -/
def execSrvOwnWrite (o : Origin) (v : Word) (s : State) : Host.Outcome State Fault Refusal :=
  .next (s.writeReg o RGL_SRV_OWN v (writeRglSrvOwn v))

/-- SERVO_FREEZE_RELEASE (R89): the freeze in force ends once EYE_FREEZE no longer sets it. -/
def execServoFreezeRelease (s : State) : Host.Outcome State Fault Refusal :=
  .next (if s.on RGL_STAT.SVCFRZ && !s.on EYE_FREEZE.SERVO then s.releaseServo else s)

/-- PINCAL_WRITE (R116). -/
def execPincalWrite (o : Origin) (v : Word) (s : State) : Host.Outcome State Fault Refusal :=
  .next (s.writeReg o (RGL_PINCAL (Nat.min (s.get RGL_PINCAL_IDX.INDEX) 0x76)) v (writeRglPincal v))

/-- ALARM_ARM (R100): a write of RGL_ALM_CTLn with ARM = 1. -/
def execAlarmArm (n : Fin 32) (o : Origin) (v : Word) (s : State) : Host.Outcome State Fault Refusal :=
  .next (s.writeReg o (RGL_ALM_CTL n) (v ||| 1) (writeAlmCtl n o (v ||| 1)))

/-- ALARM_DISARM (R959): a write of RGL_ALM_CTLn with ARM = 0. -/
def execAlarmDisarm (n : Fin 32) (o : Origin) (v : Word) (s : State) : Host.Outcome State Fault Refusal :=
  .next (s.writeReg o (RGL_ALM_CTL n) (v &&& 0xFFFFFFFE) (writeAlmCtl n o (v &&& 0xFFFFFFFE)))

/-- ALARM_FIRE (R101). -/
def execAlarmFire (n : Fin 32) (s : State) : Host.Outcome State Fault Refusal :=
  .next (if s.alarmDue n 0 then s.alarmFire n else s)

/-- ALARM_PERIODIC_FIRE (R106). -/
def execAlarmPeriodicFire (n : Fin 32) (s : State) : Host.Outcome State Fault Refusal :=
  .next (if s.alarmDue n 1 then s.alarmPeriodicFire n else s)

/-- ALARM_RANGE_OPEN (R107). -/
def execAlarmRangeOpen (n : Fin 32) (s : State) : Host.Outcome State Fault Refusal :=
  .next (if s.alarmDue n 2 && !(s.alarm n).opened then s.alarmOpen n else s)

/-- ALARM_RANGE_CLOSE (R107). -/
def execAlarmRangeClose (n : Fin 32) (s : State) : Host.Outcome State Fault Refusal :=
  .next (if s.alarmDue n 2 && (s.alarm n).opened && decide (ofTime96 (s.alarmCompare (n + 1)) ≤ s.now) then s.alarmClose n else s)

/-- SECOND_CARRY (R51, R91): the edge at which NS would reach 10^9. -/
def execSecondCarry (s : State) : Host.Outcome State Fault Refusal :=
  .next (if s.now / unitsPerSec < s.tclkEdge.now / unitsPerSec then s.tclkEdge else s)

end Sys2Proof.Machine
end

