-- ==== Sys2Proof/Machine/Queues.lean ====
section
/-! DEFINITION. The queue manager (10 R513 to R549, R965) and the order table (15 R743 to R754): queues, pools, spill, host
queue commands, commit and breach records. -/

namespace Sys2Proof.Machine

/-! ## Descriptors (10 R515) -/

/-- Word i of a descriptor. -/
def descWord (d : List Byte) (i : Nat) : Word := BitVec.ofNat 32 (ofLeBytes ((d.drop (4 * i)).take 4))

def descAddr (d : List Byte) : Nat := (descWord d 0).toNat
def descLen (d : List Byte) : Nat := fieldOf (descWord d 1) 15 0
def descExt (d : List Byte) : Bool := bitAt (descWord d 1) 21
def descTomb (d : List Byte) : Bool := bitAt (descWord d 1) 23
def descFlow (d : List Byte) : Nat := fieldOf (descWord d 2) 11 0
def descSeq (d : List Byte) : Nat := (descWord d 3).toNat
def descStamp (d : List Byte) : Time96 := time96OfWords (descWord d 4) (descWord d 5) (descWord d 6)

/-- A descriptor from its eight words. -/
def mkDesc (ws : List Word) : List Byte := (ws.map fun w => leBytes 4 w.toNat).flatten

/-- A descriptor with word i replaced. -/
def descSet (d : List Byte) (i : Nat) (w : Word) : List Byte := d.take (4 * i) ++ leBytes 4 w.toNat ++ d.drop (4 * i + 4)

/-- A descriptor with its STAMP replaced. -/
def descSetStamp (d : List Byte) (t : Time96) : List Byte :=
  descSet (descSet (descSet d 4 (time96Word t 0)) 5 (time96Word t 1)) 6 (time96Word t 2)

/-- Word 1 of a descriptor (10 R515). -/
def descWord1 (len src : Nat) (ext fcsok tomb : Bool) (cls : Nat) : Word :=
  BitVec.ofNat 32 (len % 65536 + src % 32 * 2 ^ 16 + bit ext * 2 ^ 21 + bit fcsok * 2 ^ 22 + bit tomb * 2 ^ 23 + cls % 8 * 2 ^ 24)

/-- A descriptor of a hardware producer. -/
def hwDesc (addr : Nat) (w1 : Word) (flow seq : Nat) (stamp : Time96) (rule : Nat) : List Byte :=
  mkDesc [BitVec.ofNat 32 addr, w1, BitVec.ofNat 32 (flow % 4096), BitVec.ofNat 32 seq, time96Word stamp 0, time96Word stamp 1,
    time96Word stamp 2, BitVec.ofNat 32 (rule % 256 * 256)]

/-- The SEQ of an item carried best-effort (14 R720, 15 R748). -/
def seqNone : Nat := 0xFFFFFFFF

/-! ## Queue counts (10 R514, R519, R521, R524) -/

/-- What the queue manager holds of queue q. -/
def State.queue (s : State) (q : Nat) : QueueState :=
  tget (fun _ => { head := 0, vis := 0, held := 0, copying := [], spilled := 0, spillHead := 0 }) s.queues q

/-- The same written. -/
def State.setQueue (s : State) (q : Nat) (x : QueueState) : State :=
  { s with queues := tset (fun _ => { head := 0, vis := 0, held := 0, copying := [], spilled := 0, spillHead := 0 }) s.queues q x }

/-- The slots of a queue's ring. -/
def State.ringSlots (s : State) (q : Nat) : Nat := 2 ^ s.get (QM_QRING.RSZ q)

/-- The slots of a queue's spill ring. -/
def State.spillSlots (s : State) (q : Nat) : Nat := s.get (QM_QSPLEN.LEN q) / 32

/-- COUNT (10 R519). -/
def State.queueCount (s : State) (q : Nat) : Nat := (s.queue q).copying.length + (s.queue q).vis + (s.queue q).spilled

/-- The capacity of a queue (10 R519). -/
def State.queueCapacity (s : State) (q : Nat) : Nat := s.ringSlots q - 1 + s.spillSlots q

/-- The queue is stopped (10 R536). -/
def State.queueStopped (s : State) (q : Nat) : Bool := s.on (QM_QSTAT.STOP q)

/-- The queue takes no new descriptor: stopped or at its capacity (10 R520, R527). -/
def State.queueRefuses (s : State) (q : Nat) : Bool := s.queueStopped q || decide (s.queueCapacity q ≤ s.queueCount q)

/-- The plate address of ring slot i, counted modulo the ring. -/
def State.slotAddr (s : State) (q i : Nat) : Nat := s.get (QM_QRING.BASE q) + 32 * (i % s.ringSlots q)

/-- The descriptor in ring slot i. -/
def State.slotDesc (s : State) (q i : Nat) : List Byte := s.bytes (s.slotAddr q i) 32

/-- The ring has a slot for `n` more descriptors beside the visible ones, the held ones and the slot of the last DEQ (10 R521,
R524, 15 R748). -/
def State.ringHas (s : State) (q n : Nat) : Bool :=
  decide ((s.queue q).vis + Nat.max (s.queue q).held 1 + n ≤ s.ringSlots q)

/-! ## Flows of a queue (15 R743 to R748) -/

/-- Flow f is ACTIVE or WITHDRAWING. -/
def State.flowValid (s : State) (f : Nat) : Bool := s.on (AST_OT0.VALID f)

/-- Its source kind is 2, an event line. -/
def State.flowEventSourced (s : State) (f : Nat) : Bool := s.get (AST_OT0.SRCK f) == 2

/-- The flow whose input queue is q (15 R747). -/
def State.inqFlow (s : State) (q : Nat) : Option Nat :=
  (s.flows.map (·.1)).find? fun f => s.flowValid f && s.on (AST_OT0.INQV f) && s.get (AST_OT0.INQ f) == q

/-- A SEQ of flow f is ACCEPTED: it lies in [NEXTC, NEXTA) modulo 2^32 (15 R745). -/
def State.seqAccepted (s : State) (f seq : Nat) : Bool :=
  decide ((BitVec.ofNat 32 seq - s.reg (AST_OT2 f)).toNat < s.itemsAccepted f)

/-- A held slot's descriptor no longer holds it: its item is committed or tombstoned, or it is best-effort (15 R748). -/
def State.slotReleased (s : State) (q i : Nat) : Bool :=
  match s.inqFlow q with
  | some f => descSeq (s.slotDesc q i) == seqNone || !s.seqAccepted f (descSeq (s.slotDesc q i))
  | none => true

/-- MARK moved past the released slots before the head, of which the last DEQ's stays (10 R524, 15 R748). -/
def State.releaseSlots (s : State) (q : Nat) : Nat → State
  | 0 => s
  | fuel + 1 =>
    let x := s.queue q
    if 1 < x.held && s.slotReleased q (x.head + s.ringSlots q * x.held - x.held) then
      (s.setQueue q { x with held := x.held - 1 }).releaseSlots q fuel
    else s

/-- An Occultation record is an item only while its flow is active and sources accept (14 R711, 15 R776). -/
def State.recordRefused (s : State) (f : Nat) : Bool :=
  s.get (AST_OT0.SRCK f) == 1 && (s.sourcesClosed || s.get (ADM_FSTATE.STATE f) != 2)

/-- NEXTA follows an item that joins its input queue or is dropped on its way (15 R745). -/
def State.noteItem (s : State) (q : Nat) (d : List Byte) : State :=
  match s.inqFlow q with
  | some f => if descSeq d = seqNone ∨ descFlow d ≠ f ∨ s.recordRefused f then s else s.setReg (AST_OT1 f) (BitVec.ofNat 32 (descSeq d + 1))
  | none => s

/-! ## Transfers of the queue manager (10 R534 to R537, R542) -/

/-- The bulk port issues no request: a tag issued before a cluster reset has not received its response (10 R546; such a tag has the
use `loader` and its response is discarded), or the cluster is isolated (15 R782). -/
def State.bulkHeld (s : State) : Bool := s.get CLU_STAT.STATE == 7 || s.bulk.any fun p => p.2.use == .loader && p.2.discard

/-- The lowest free tag of a range. -/
def State.freeTag (s : State) (lo n : Nat) : Option Nat :=
  ((List.range n).map (lo + ·)).find? fun t => !s.bulk.any fun p => p.1 == t

/-- The lowest free tag of the queue manager, while the bulk port issues requests. -/
def State.managerTag (s : State) : Option Nat := if s.bulkHeld then none else s.freeTag 0xC0 48

/-- A bulk transaction put in flight on a tag. -/
def State.putBulk (s : State) (tag : Nat) (b : BulkTag) : State := { s with bulk := tinsert tag b (tdrop tag s.bulk) }

/-- A queue manager transfer issued on a free tag, or waiting for one. -/
def State.issueTransfer (s : State) (b : BulkTag) : State :=
  match s.managerTag with
  | some t => s.putBulk t b
  | none => { s with bulkWaiting := s.bulkWaiting ++ [b] }

/-- A queue stopped by a transfer (10 R505, R536). -/
def State.stopQueue (s : State) (q : Nat) (ecc : Bool) : State :=
  ((s.put (QM_QSTAT.STOP q) 1).put (if ecc then QM_QSTAT.ECCERR q else QM_QSTAT.SPILLERR q) 1).registerEvent 253

/-! ## Enqueueing (10 R517 to R522, R526 to R532) -/

/-- The pool whose free queue is q (10 R530). -/
def State.poolOfQueue (s : State) (q : Nat) : Option Nat :=
  (List.range 32).find? fun p => s.on (QM_PCFG.NBUF p) && s.get (QM_PCFG.FREEQ p) == q

/-- The size of a pool's buffers. -/
def State.bufferSize (s : State) (p : Nat) : Nat := 2 ^ (6 + s.get (QM_PCFG.BSZ p))

/-- An address is the start of a buffer of pool p (10 R529, R532). -/
def State.bufferStart (s : State) (p a : Nat) : Bool :=
  decide (s.get (QM_PBASE.BASE p) ≤ a) && (a - s.get (QM_PBASE.BASE p)) % s.bufferSize p == 0 &&
    decide ((a - s.get (QM_PBASE.BASE p)) / s.bufferSize p < s.get (QM_PCFG.NBUF p))

/-- A descriptor taken into queue q: it goes to the spill ring when the plate ring has no free slot or the spill ring already
holds one, else it is in copy to the plate ring (10 R521, R534). -/
def State.joinQueue (s : State) (q : Nat) (d : List Byte) : State :=
  let x := s.queue q
  let t := s.noteItem q d
  if s.spillSlots q ≠ 0 ∧ (x.spilled ≠ 0 ∨ !s.ringHas q (x.copying.length + 1)) then
    (t.setQueue q { x with spilled := x.spilled + 1 }).issueTransfer
      { use := .spillWrite q, ext := (s.reg (QM_QSPILL q)).toNat + 32 * ((x.spillHead + x.spilled) % s.spillSlots q), bytes := d,
        discard := false }
  else t.setQueue q { x with copying := x.copying ++ [d] }

/-- A descriptor taken on a queue that does not refuse it; one that names no buffer of the pool of a free queue is discarded
(10 R532). -/
def State.takeDescriptor (s : State) (q : Nat) (d : List Byte) : State :=
  match s.poolOfQueue q with
  | some p => if !descExt d && s.bufferStart p (descAddr d) then s.joinQueue q d else s.count (QM_QSTAT.DROPS q) 1
  | none => s.joinQueue q d

/-- A descriptor offered to a queue: whether it was taken, and the state (10 R520). -/
def State.tryEnqueue (s : State) (q : Nat) (d : List Byte) : Bool × State :=
  if s.queueRefuses q then (false, s) else (true, s.takeDescriptor q d)

/-- The buffer of a dropped descriptor returned to its pool (10 R527), as the loader placed it (R530). -/
def State.returnBuffer (s : State) (d : List Byte) : State :=
  match (List.range 32).find? fun p => !descExt d && s.bufferStart p (descAddr d) with
  | some p =>
    (s.tryEnqueue (s.get (QM_PCFG.FREEQ p))
      (mkDesc [descWord d 0, BitVec.ofNat 32 (s.bufferSize p % 65536), 0, 0, 0, 0, 0, 0])).2
  | none => s

/-- A drop counted against a queue, fault 0x0A on EV253 (10 R527). -/
def State.countDrop (s : State) (q : Nat) : State := (s.count (QM_QSTAT.DROPS q) 1).registerEvent 253

/-- A descriptor of a hardware producer (10 R527). The Bool says that it was taken. -/
def State.hwEnqueue (s : State) (q : Nat) (d : List Byte) : Bool × State :=
  if s.queueRefuses q then (false, ((s.noteItem q d).returnBuffer d).countDrop q) else (true, s.takeDescriptor q d)

/-! ## Dequeueing (10 R523 to R525, R528) -/

/-- The address of the head visible descriptor's slot. -/
def State.headSlot (s : State) (q : Nat) : Option Nat :=
  if (s.queue q).vis = 0 then none else some (s.slotAddr q (s.queue q).head)

/-- DEQ: the slot of the head visible descriptor, which leaves the queue. The slot of a DEQ is held until the next one; on an
input queue each slot is held under 15 R748. -/
def State.dequeue (s : State) (q : Nat) : Option Nat × State :=
  let x := s.queue q
  match s.headSlot q with
  | none => (none, s)
  | some a =>
    let held := if (s.inqFlow q).isSome then x.held + 1 else 1
    (some a, (s.setQueue q { x with head := (x.head + 1) % s.ringSlots q, vis := x.vis - 1, held }).releaseSlots q held)

/-- A hardware consumer has finished with a descriptor (10 R528). -/
def State.finishDescriptor (s : State) (q : Nat) (d : List Byte) : State :=
  if s.on (QM_QWM.RETEN q) then (s.hwEnqueue (s.get (QM_QWM.RETQ q)) d).2 else s

/-- The descriptor at a queue's head read by a hardware consumer (10 R505, R528): an uncorrectable error stops the queue. -/
def State.readHead (s : State) (q : Nat) : Option (List Byte) × State :=
  match s.headSlot q with
  | none => (none, s)
  | some a =>
    match s.plateRead 3 a 32 with
    | (none, t) => (none, t.stopQueue q true)
    | (some d, t) => (some d, t)

/-- The plate of queue q's head is held, so that no hardware consumer reads it. -/
def State.headHeld (s : State) (q : Nat) : Bool := (s.headSlot q).any fun a => s.rangeHeld a 32

/-- A hardware producer takes the head of a pool's free queue (10 R531). -/
def State.takeBuffer (s : State) (p : Nat) : Option Nat × State :=
  let q := s.get (QM_PCFG.FREEQ p)
  match s.readHead q with
  | (some d, t) => (some (descAddr d), (t.dequeue q).2)
  | (none, t) => (none, t)

/-- A burst of a hardware producer placed in a buffer of pool p and its descriptor `d`, ADDR apart, on queue q (10 R531): with no free
buffer, or data longer than a buffer, it is dropped. A transfer that meets an uncorrectable error is abandoned and stops the queue
(R505). The Bool says that the descriptor was taken. -/
def State.placeBurst (s : State) (p q : Nat) (data d : List Byte) : Bool × State :=
  if s.bufferSize p < data.length then (false, (s.noteItem q d).countDrop q)
  else
    match s.takeBuffer p with
    | (none, t) => (false, (t.noteItem q d).countDrop q)
    | (some a, t) =>
      let d := descSet d 0 (BitVec.ofNat 32 a)
      let r := t.plateWrite 3 a data
      if r.1 then r.2.hwEnqueue q d else (false, ((r.2.noteItem q d).returnBuffer d).stopQueue q true)

/-! ## Transfers that wait (04 R219, 10 R488, R493) -/

/-- A transfer of the queue manager waits for queue q, behind which later ones of that queue wait too. -/
def State.queueWaits (s : State) (q : Nat) : Bool := s.jobs.any fun j => j.queue == q

/-- The plates that a burst into pool p needs are held: that of its free queue's head and that of its buffers. -/
def State.poolHeld (s : State) (p : Nat) : Bool :=
  s.headHeld (s.get (QM_PCFG.FREEQ p)) || s.rangeHeld (s.get (QM_PBASE.BASE p)) 1

/-- A transfer put behind those that wait. -/
def State.wait (s : State) (q : Nat) (job : QueueJob) : State := { s with jobs := s.jobs ++ [{ queue := q, job }] }

/-! ## Visibility (10 R521, R533) and delivery -/

/-- An item delivered at its destination or tombstoned there is no longer in flight (15 R743). -/
def State.itemDone (s : State) (f : Nat) : State :=
  s.setFlow f { s.flow f with inFlight := (s.flow f).inFlight - 1 }

/-- A descriptor visible in queue q delivers the item of a flow whose destination is that queue and no frame port. -/
def State.deliverItem (s : State) (q : Nat) (d : List Byte) : State :=
  let f := descFlow d
  if !descTomb d && s.flowValid f && s.get (AST_OT0.DSTQ f) == q && s.get (AST_OT0.DSTK f) != 1 && descSeq d != seqNone &&
      decide (0 < (s.flow f).inFlight) then s.itemDone f else s

/-- The watermark event of a queue whose visible descriptors have risen from `before` to one more (10 R533). -/
def State.watermark (s : State) (q before : Nat) : State :=
  if s.on (QM_QCFG.WEN q) && before + 1 == s.get (QM_QWM.WMARK q) then s.registerEvent (192 + s.get (QM_QCFG.WLINE q)) else s

/-- The ring's plate lets a descriptor in copy be written: it is not locked (04 R219), and a handover that waits found the copy in
progress (10 R493). -/
def State.copyAllowed (s : State) (q : Nat) : Bool :=
  let k := plateOf (s.slotAddr q ((s.queue q).head + (s.queue q).vis))
  s.fused || (!s.plateLocked k && (!s.on (PLT_OWN.PEND k) || decide (0 < (s.queue q).started)))

/-- The oldest descriptor in copy becomes visible in the next ring slot, with the watermark event. -/
def State.makeVisible (s : State) (q : Nat) : State :=
  let x := s.queue q
  match x.copying with
  | [] => s
  | d :: rest =>
    if s.ringHas q 1 && s.copyAllowed q then
      let t := (s.plateWrite 3 (s.slotAddr q (x.head + x.vis)) d).2.setQueue q
        { x with vis := x.vis + 1, copying := rest, started := x.started - 1 }
      (t.deliverItem q d).watermark q x.vis
    else s

/-- The external address of slot i of a queue's spill ring, counted modulo the ring. -/
def State.spillAddr (s : State) (q i : Nat) : Nat := (s.reg (QM_QSPILL q)).toNat + 32 * (i % s.spillSlots q)

/-- The spill transfers on which a queue stopped. -/
def State.failures (s : State) (q : Nat) : List BulkTag := tget (fun _ => []) s.failed q

/-- The same written. -/
def State.setFailures (s : State) (q : Nat) (bs : List BulkTag) : State := { s with failed := tset (fun _ => []) s.failed q bs }

/-- The queue manager's transfers in flight, waiting for a tag, or failed and not retried. -/
def State.transfers (s : State) (q : Nat) : List BulkTag := s.bulk.map (·.2) ++ s.bulkWaiting ++ s.failures q

/-- The spill write of spill slot i has not completed. -/
def State.spillPending (s : State) (q i : Nat) : Bool :=
  (s.transfers q).any fun b => b.use == .spillWrite q && b.ext == s.spillAddr q i

/-- A read-back of a queue is in flight or waiting. -/
def State.readBackBusy (s : State) (q : Nat) : Bool :=
  (s.transfers q).any fun b => b.use == .spillRead q 1 || b.use == .spillRead q 2

/-- The read-back of the oldest spilled descriptors, once their spill writes have completed (10 R535): two when two are there, the ring
has room for both and they lie in one 64-byte block, else one. -/
def State.readBack (s : State) (q : Nat) : State :=
  let x := s.queue q
  if s.queueStopped q || x.spilled == 0 || s.spillPending q x.spillHead || s.readBackBusy q || !s.ringHas q (x.copying.length + 1) then s
  else
    let n := if 2 ≤ x.spilled ∧ !s.spillPending q (x.spillHead + 1) ∧ x.spillHead % s.spillSlots q % 2 = 0 ∧
      s.ringHas q (x.copying.length + 2) then 2 else 1
    s.issueTransfer { use := .spillRead q n, ext := s.spillAddr q x.spillHead, bytes := [], discard := false }

/-- A spill transfer answered ERROR stops the queue and is kept for its retry (10 R536, R537). -/
def State.transferFailed (s : State) (q : Nat) (b : BulkTag) : State := (s.setFailures q (s.failures q ++ [b])).stopQueue q false

/-- The response to a queue manager transfer (10 R535, R536, R542): the read-back's descriptors join the plate ring's copies, but those
of a stopped queue stay where they are.
The next waiting transfer takes the freed tag. -/
def State.transferDone (s : State) (b : BulkTag) (error : Bool) (data : List Byte) : State :=
  match b.use with
  | .spillWrite q => if error then s.transferFailed q b else s
  | .spillRead q n =>
    if error then s.transferFailed q b
    else if s.queueStopped q then s
    else
      let x := s.queue q
      let ds := if n = 2 then [data.take 32, (data.drop 32).take 32] else [data.take 32]
      s.setQueue q { x with copying := x.copying ++ ds, spilled := x.spilled - n, spillHead := (x.spillHead + n) % s.spillSlots q }
  | _ => s

/-- The next waiting transfer of the queue manager issued. -/
def State.issueWaiting (s : State) : State :=
  match s.bulkWaiting, s.managerTag with
  | b :: bs, some t => { s with bulkWaiting := bs }.putBulk t b
  | _, _ => s

/-! ## The order table: commit and breach (15 R745 to R753) -/

/-- The descriptor of item NEXTC of flow f in its input queue: in a held or visible slot, or in copy. The order table has taken its SEQ
and STAMP when it joined the queue, with no access to the plate (log entry 84). -/
def State.inqItem (s : State) (f : Nat) : Option (List Byte) :=
  let q := s.get (AST_OT0.INQ f)
  let x := s.queue q
  let slots := (List.range (x.held + x.vis)).map fun i => s.slotDesc q (x.head + s.ringSlots q * x.held - x.held + i)
  (slots ++ x.copying).find? fun d => descSeq d == (s.reg (AST_OT2 f)).toNat && descFlow d == f

/-- REFC, the reference instant of item NEXTC, in units of 2^-16 ns (15 R750). -/
def State.refInstant (s : State) (f : Nat) : Option Nat :=
  if s.flowEventSourced f then (s.flow f).instants.head? else (s.inqItem f).map fun d => ofTime96 (descStamp d)

/-- Cluster time is at or beyond REFC + DEADLINE − DBUD (15 R750, R752). -/
def State.itemLate (s : State) (f : Nat) : Bool :=
  (s.refInstant f).any fun r =>
    decide (r + (s.reg (AST_OT3 f)).toNat * 65536 ≤ s.now + s.get (AST_OT4.DBUD f) * 65536)

/-- NEXTC advances by 1: the item leaves ACCEPTED, and its slot may be released (15 R748, R749). -/
def State.advanceItem (s : State) (f : Nat) : State :=
  let t := s.setReg (AST_OT2 f) (s.reg (AST_OT2 f) + 1)
  if s.flowEventSourced f then
    (t.put (AST_OT5.PEND f) ((s.flow f).instants.length - 1)).setFlow f { s.flow f with instants := (s.flow f).instants.tail }
  else t.releaseSlots (s.get (AST_OT0.INQ f)) (s.queue (s.get (AST_OT0.INQ f))).held

/-- A breach record for item NEXTC of flow f (15 R753). -/
def State.breachRecord (s : State) (f src fcode : Nat) : List Byte :=
  let stamp := match s.refInstant f with
    | some r => toTime96 r
    | none => 0
  let d := hwDesc 0 (descWord1 0 src false false true 0) f (s.reg (AST_OT2 f)).toNat stamp 0
  descSet d 7 (BitVec.ofNat 32 fcode)

/-- A breach record placed on the flow's destination queue, in place of item NEXTC (15 R752, R753). The Bool says that there
was room. -/
def State.placeBreach (s : State) (f src fcode : Nat) : Bool × State :=
  let q := s.get (AST_OT0.DSTQ f)
  if s.queueRefuses q then (false, s)
  else (true, ((s.takeDescriptor q (s.breachRecord f src fcode)).count (AST_OT5.BREACH f) 1).advanceItem f)

/-- COMMIT of a descriptor for flow f (14 R720, 15 R749 to R751): whether QFAIL is set, and the state. -/
def State.commit (s : State) (f : Nat) (d : List Byte) : Bool × State :=
  let q := s.get (AST_OT0.DSTQ f)
  let nextC := s.reg (AST_OT2 f)
  let refused := !s.flowValid f || descFlow d != f || descSeq d == seqNone ||
    (!s.flowEventSourced f && descSeq d != nextC.toNat) || s.itemsAccepted f == 0 || s.queueRefuses q
  if refused then (true, s)
  else if s.itemLate f then (true, (s.placeBreach f 0x03 0x08).2)
  else
    let d1 := if s.flowEventSourced f then descSet d 3 nextC else d
    let d2 := match s.get (AST_OT0.DSTK f) == 1, s.refInstant f with
      | true, some r => descSetStamp d1 (toTime96 (r + (s.reg (AST_OT3 f)).toNat * 65536))
      | _, _ => d1
    let t := s.takeDescriptor q d2
    (false, (t.setFlow f { t.flow f with inFlight := (t.flow f).inFlight + 1 }).advanceItem f)

/-- A visit of the breach watch to flow f (15 R752). -/
def State.breachVisit (s : State) (f : Nat) : State :=
  if s.itemsAccepted f = 0 ∨ !s.flowValid f then s
  else if !s.flowEventSourced f && (s.inqItem f).isNone then (s.placeBreach f 0x03 0x0A).2
  else if s.itemLate f then (s.placeBreach f 0x03 0x08).2
  else s

/-! ## Register writes (10 R513, R514, R537 to R540, R547 to R549) -/

/-- QM_QRES written by an operation (10 R538). -/
def State.queueResult (s : State) (fail : Bool) (value : Nat) : State :=
  ((s.put QM_QRES.FAIL (bit fail)).put QM_QRES.VALUE value).put QM_QRES.SEQ (s.get QM_QRES.SEQ + 1)

/-- An ENQ through QM_QCMD may take the descriptor at an address (10 R540). -/
def State.queueArgOk (s : State) (o : Origin) (a : Nat) : Bool :=
  a % 32 == 0 && decide (a < plateBytes) &&
    (match s.ringOf o with
     | some 2 => s.plateOwner (plateOf a) == 1
     | some 1 => decide (4 ≤ plateOf a)
     | _ => true)

/-- An ENQ through QM_QCMD carried out (10 R538, R540). -/
def State.queueEnqueue (s : State) (q a : Nat) : State :=
  match s.plateRead 3 a 32 with
  | (none, t) => (t.stopQueue q true).queueResult true 0
  | (some d, t) => (t.tryEnqueue q d).2.queueResult (!(t.tryEnqueue q d).1) 0

/-- The rules of a write to QM_QCMD (10 R538 to R540). An ENQ from a held plate waits, and QM_QRES follows it (log entry 85). -/
def writeQmQcmd (o : Origin) (v : Word) (s : State) : Effect :=
  let q := fieldOf v 9 0
  let prod := s.get (QM_QCFG.PROD q) == 1
  let cons := s.get (QM_QCFG.CONS q) == 1
  let ring2 := s.ringOf o == some 2
  match fieldOf v 18 16 with
  | 1 =>
    let a := s.get QM_QARG.ADDR
    if (ring2 && !prod) || !s.queueArgOk o a then .denied s
    else .ok (if s.rangeHeld a 32 || s.queueWaits q then s.wait q (.enqueue a) else s.queueEnqueue q a)
  | 2 => if ring2 && !cons then .denied s else
      .ok ((s.dequeue q).2.queueResult (s.dequeue q).1.isNone ((s.dequeue q).1.getD 0))
  | 3 => if ring2 && !cons then .denied s else .ok (s.queueResult (s.headSlot q).isNone ((s.headSlot q).getD 0))
  | 4 => if ring2 && !(prod || cons) then .denied s else .ok (s.queueResult false (s.queueCount q))
  | _ => .ok s

/-- Producer codes and consumer codes (10 R513). -/
def producerCode (c : Nat) : Bool :=
  decide (c ≤ 2) || c == 4 || c == 5 || (decide (0x08 ≤ c) && decide (c ≤ 0x0F)) || (decide (0x10 ≤ c) && decide (c ≤ 0x1B))
def consumerCode (c : Nat) : Bool :=
  decide (c ≤ 4) || (decide (0x08 ≤ c) && decide (c ≤ 0x0F)) || (decide (0x10 ≤ c) && decide (c ≤ 0x1B))

/-- The queue whose registers are presented. -/
def State.queueIndex (s : State) : Nat := s.get QM_QIDX.QUEUE

/-- The state of a queue whose ring is written: an unchanged ring keeps its slots; in another one, slot 0 is next, or the slot after that
of the last DEQ where it lies in the new ring, for that slot is not rewritten (10 R524; log entry 86). -/
def State.newRing (s : State) (q base slots : Nat) : QueueState :=
  let x := s.queue q
  let last := s.slotAddr q (x.head + s.ringSlots q - 1)
  if base = s.get (QM_QRING.BASE q) ∧ slots = s.ringSlots q then x
  else if 0 < x.held ∧ base ≤ last ∧ last < base + 32 * slots then { x with head := ((last - base) / 32 + 1) % slots, held := 1 }
  else { x with head := 0, held := 0 }

/-- The rules of a write to QM_QRING: an RSZ that names no size, or a ring that breaks R514, leaves the register unchanged. -/
def writeQmQring (q : Nat) (v : Word) (s : State) : Effect :=
  let rsz := fieldOf v 31 28
  let base := fieldOf v 22 0
  let size := 32 * 2 ^ rsz
  if s.queueCount q ≠ 0 then .denied s
  else if rsz = 1 ∨ 11 < rsz ∨ base % size ≠ 0 ∨ plateBytes ≤ base then .kept s
  else .ok ((s.plainWrite (QM_QRING q) v).setQueue q (s.newRing q base (2 ^ rsz)))

/-- The rules of a write to QM_QCFG (10 R513, R547). -/
def writeQmQcfg (q : Nat) (v : Word) (s : State) : Effect :=
  if s.queueCount q ≠ 0 then .denied s
  else if !producerCode (fieldOf v 4 0) || !consumerCode (fieldOf v 12 8) then .kept s
  else .ok (s.plainWrite (QM_QCFG q) v)

/-- The rules of a write to QM_QSPILL (10 R547). -/
def writeQmQspill (q : Nat) (v : Word) (s : State) : Effect :=
  if s.queueCount q ≠ 0 then .denied s else .ok (s.plainWrite (QM_QSPILL q) (v &&& 0xFFFFFFC0))

/-- The rules of a write to QM_QSPLEN (10 R547): a multiple of 64, at most 0x1E_0000. -/
def writeQmQsplen (q : Nat) (v : Word) (s : State) : Effect :=
  let n := fieldOf v 20 0
  if s.queueCount q ≠ 0 then .denied s
  else if n % 64 ≠ 0 ∨ 0x1E0000 < n then .kept s
  else .ok ((s.plainWrite (QM_QSPLEN q) v).setQueue q { s.queue q with spillHead := 0 })

/-- Transfers issued in order. -/
def State.issueTransfers (s : State) : List BulkTag → State
  | [] => s
  | b :: bs => (s.issueTransfer b).issueTransfers bs

/-- The rules of a write to QM_QSTAT: STOP resumes from ring 0 only, the failed transfers first (10 R537). -/
def writeQmQstat (q : Nat) (o : Origin) (v : Word) (s : State) : Effect :=
  let v' := if s.ringOf o = some 0 then v else fieldSet v 16 16 0
  let t := s.plainWrite (QM_QSTAT q) v'
  if bitAt v' 16 && s.queueStopped q then
    .ok ((t.setFailures q []).issueTransfers (s.failures q))
  else .ok t

/-- A pool lies inside one plate with its buffers aligned (10 R529, R549). -/
def poolFits (base nbuf bsz : Nat) : Bool :=
  let size := 2 ^ (6 + bsz)
  base % size == 0 && decide (base + nbuf * size ≤ plateBytes) && (nbuf == 0 || base / 0x10000 == (base + nbuf * size - 1) / 0x10000)

/-- The free queue of a pool holds fewer descriptors than the pool has buffers (10 R548). -/
def State.poolBusy (s : State) (p : Nat) : Bool :=
  decide (s.queueCount (s.get (QM_PCFG.FREEQ p)) < s.get (QM_PCFG.NBUF p))

/-- The rules of a write to QM_PBASE. -/
def writeQmPbase (p : Nat) (v : Word) (s : State) : Effect :=
  if s.poolBusy p then .denied s
  else if !poolFits (fieldOf v 22 0) (s.get (QM_PCFG.NBUF p)) (s.get (QM_PCFG.BSZ p)) then (Effect.denied s).conflict
  else .ok (s.plainWrite (QM_PBASE p) v)

/-- The rules of a write to QM_PCFG. -/
def writeQmPcfg (p : Nat) (v : Word) (s : State) : Effect :=
  if s.poolBusy p then .denied s
  else if 8 < fieldOf v 3 0 then .kept s
  else if !poolFits (s.get (QM_PBASE.BASE p)) (fieldOf v 14 4) (fieldOf v 3 0) then (Effect.denied s).conflict
  else .ok (s.plainWrite (QM_PCFG p) v)

/-- A QM_QCMD word with its OP replaced. -/
def withOp (v : Word) (op : Nat) : Word := fieldSet v 18 16 op

/-! ## The commands -/

/-- SPILL_READBACK (R535). -/
def execSpillReadback (q : Fin 1024) (s : State) : Host.Outcome State Fault Refusal := .next (s.readBack q)

/-- QUEUE_RESUME (R537): a write of QM_QSTAT with STOP = 1, for the queue at the index. -/
def execQueueResume (o : Origin) (v : Word) (s : State) : Host.Outcome State Fault Refusal :=
  .next (s.writeReg o (QM_QSTAT s.queueIndex) (fieldSet v 16 16 1) (writeQmQstat s.queueIndex o (fieldSet v 16 16 1)))

/-- QM_ENQ (R540). -/
def execQmEnq (o : Origin) (v : Word) (s : State) : Host.Outcome State Fault Refusal :=
  .next (s.writeReg o QM_QCMD (withOp v 1) (writeQmQcmd o (withOp v 1)))

/-- QM_DEQ (R538). -/
def execQmDeq (o : Origin) (v : Word) (s : State) : Host.Outcome State Fault Refusal :=
  .next (s.writeReg o QM_QCMD (withOp v 2) (writeQmQcmd o (withOp v 2)))

/-- QM_PEEK (R538). -/
def execQmPeek (o : Origin) (v : Word) (s : State) : Host.Outcome State Fault Refusal :=
  .next (s.writeReg o QM_QCMD (withOp v 3) (writeQmQcmd o (withOp v 3)))

/-- QM_LEN (R538). -/
def execQmLen (o : Origin) (v : Word) (s : State) : Host.Outcome State Fault Refusal :=
  .next (s.writeReg o QM_QCMD (withOp v 4) (writeQmQcmd o (withOp v 4)))

/-- QUEUE_CONFIG_WRITE (R547): QM_QRING, QM_QCFG, QM_QSPILL or QM_QSPLEN of the queue at the index. -/
def execQueueConfigWrite (r : Fin 4) (o : Origin) (v : Word) (s : State) : Host.Outcome State Fault Refusal :=
  let q := s.queueIndex
  .next (match r.val with
    | 0 => s.writeReg o (QM_QRING q) v (writeQmQring q v)
    | 1 => s.writeReg o (QM_QCFG q) v (writeQmQcfg q v)
    | 2 => s.writeReg o (QM_QSPILL q) v (writeQmQspill q v)
    | _ => s.writeReg o (QM_QSPLEN q) v (writeQmQsplen q v))

/-- POOL_CONFIG_WRITE (R548): QM_PBASE or, with `cfg`, QM_PCFG of the pool at the index. -/
def execPoolConfigWrite (cfg : Bool) (o : Origin) (v : Word) (s : State) : Host.Outcome State Fault Refusal :=
  let p := s.get QM_PIDX.POOL
  .next (if cfg then s.writeReg o (QM_PCFG p) v (writeQmPcfg p v) else s.writeReg o (QM_PBASE p) v (writeQmPbase p v))

/-- BREACH_WATCH_VISIT (R752). -/
def execBreachWatchVisit (f : Fin 4096) (s : State) : Host.Outcome State Fault Refusal := .next (s.breachVisit f)

end Sys2Proof.Machine
end

