-- ==== Sys2Proof/Machine/Operands.lean ====
section
/-! DEFINITION. An engine's banks and registers, its operand sources and destinations (05 R250, R251, R256, R260) and its condition
inputs (05 R247, R248). -/

namespace Sys2Proof.Machine

/-! ## Banks and registers -/

/-- A bank's values at reset. -/
def bank0 : Bank := { cc := 0, link := 0, lcnt := 0, rx := 0 }

/-- The bank of level l of engine e. -/
def State.bank (s : State) (e l : Nat) : Bank := tget (fun _ => bank0) s.banks (5 * e + l)

/-- The same written. -/
def State.setBank (s : State) (e l : Nat) (x : Bank) : State := { s with banks := tset (fun _ => bank0) s.banks (5 * e + l) x }

/-- Register i of a bank (04 R190). -/
def State.gpr (s : State) (e l i : Nat) : Word := tget (fun _ => (0 : Word)) s.gprs (80 * e + 16 * l + i)

/-- The same written (04 R191). -/
def State.setGpr (s : State) (e l i : Nat) (v : Word) : State :=
  { s with gprs := tset (fun _ => (0 : Word)) s.gprs (80 * e + 16 * l + i) v }

/-- Lens register j. -/
def State.lensReg (s : State) (e j : Nat) : DWord := tget (fun _ => (0 : DWord)) s.lens (8 * e + j % 8)

/-- The same written. -/
def State.setLensReg (s : State) (e j : Nat) (v : DWord) : State :=
  { s with lens := tset (fun _ => (0 : DWord)) s.lens (8 * e + j % 8) v }

/-- Several Lens registers written. -/
def State.setLensRegs (s : State) (e : Nat) : List (Nat × DWord) → State
  | [] => s
  | (j, v) :: r => (s.setLensReg e j v).setLensRegs e r

/-- A half of a Lens register: code 0x20 + 2j + h. -/
def State.lensHalfWord (s : State) (e code : Nat) : Word :=
  (s.lensReg e (halfReg code)).extractLsb' (32 * (code % 2)) 32

/-- A Lens register with one half replaced. -/
def putHalf (old : DWord) (h : Nat) (v : Word) : DWord :=
  if h = 0 then old.extractLsb' 32 32 ++ v else v ++ old.extractLsb' 0 32

/-- The stored word at a microaddress. -/
def State.storeWord (s : State) (e a : Nat) : StoreWord := tget (fun _ => (0 : StoreWord)) s.wcs (8192 * e + a % 8192)

/-- The same written. -/
def State.setStoreWord (s : State) (e a : Nat) (v : StoreWord) : State :=
  { s with wcs := tset (fun _ => (0 : StoreWord)) s.wcs (8192 * e + a % 8192) v }

/-- The running level, coded as ENG_STAT.LEVEL (06 R286), 4 the highest code. -/
def State.level (s : State) (e : Nat) : Nat := Nat.min 4 (s.get (ENG_STAT.LEVEL e))

/-- The microaddress. -/
def State.upc (s : State) (e : Nat) : Nat := s.get (ENG_UPC.UPC e)

/-- The bank of level l is in use (06 R287). -/
def State.bankUsed (s : State) (e l : Nat) : Bool := (s.get (ENG_STAT.BANKS e)).testBit l

/-- A locked sequence is open. -/
def State.lockOpen (s : State) (e : Nat) : Bool := s.on (ENG_STAT.LOCK e)

/-- A bulk tag of the engine is busy (04 R214). -/
def State.tagBusy (s : State) (e t : Nat) : Bool := s.bulk.any fun p => p.1 == 16 * e + t

/-- ENG_BULK as it reads. -/
def State.bulkWord (s : State) (e : Nat) : Word :=
  (List.range 16).foldl (fun w t => fieldSet w t t (bit (s.tagBusy e t))) (s.reg (ENG_BULK e))

/-! ## Operands -/

/-- Operand source ID (05 R250). -/
def State.engineId (s : State) (e : Nat) : Word :=
  match s.stageOf e with
  | some g => BitVec.ofNat 32 (e + 16 * (e / 4) + 64 * g + 256)
  | none => BitVec.ofNat 32 (e + 16 * (e / 4))

/-- An operand of the microword at address `upc`, at level l (05 R250). -/
def State.source (s : State) (e l upc : Nat) (imm : Word) (code : Nat) : Word :=
  if code < 0x10 then s.gpr e l code
  else if lensHalf code then s.lensHalfWord e code
  else match code with
    | 0x10 => imm
    | 0x12 => (s.bank e l).lcnt.setWidth 32
    | 0x13 => (s.bank e l).link.setWidth 32
    | 0x14 => BitVec.ofNat 32 upc
    | 0x15 => s.engineId e
    | 0x16 => (s.bank e l).cc.setWidth 32
    | 0x17 => s.reg (ENG_PROG e l)
    | 0x18 => s.reg (ENG_FAULT e)
    | 0x19 => s.bulkWord e
    | _ => 0

/-- A word with its bytes reversed. -/
def byteSwap (b : Word) : Word := b.extractLsb' 0 8 ++ b.extractLsb' 8 8 ++ b.extractLsb' 16 8 ++ b.extractLsb' 24 8

/-- The B operand after SHF (05 R251). -/
def shiftB (shf : Nat) (b : Word) : Word :=
  if shf < 0x20 then b <<< shf else if shf = 0x20 then byteSwap b else b >>> (shf - 0x20)

/-- The destination of a code written (05 R256). -/
def State.putDst (s : State) (e l code : Nat) (v : Word) : State :=
  if code < 0x10 then s.setGpr e l code v
  else if lensHalf code then s.setLensReg e (halfReg code) (putHalf (s.lensReg e (halfReg code)) (code % 2) v)
  else match code with
    | 0x11 => s.setBank e l { s.bank e l with lcnt := v.extractLsb' 0 16 }
    | 0x12 => s.setBank e l { s.bank e l with link := v.extractLsb' 0 13 }
    | 0x13 => s.setBank e l { s.bank e l with cc := v.extractLsb' 0 10 }
    | _ => s

/-- The results of an operation written to DST, DST + 1, … (05 R259). -/
def State.putDsts (s : State) (e l code : Nat) : List Word → State
  | [] => s
  | v :: vs => (s.putDst e l code v).putDsts e l (code + 1) vs

/-- The plate address that AMODE forms (05 R260). -/
def microAddr (w : Micro) (a b : Word) : Nat :=
  (match w.amode with
    | 0x1 => w.imm
    | 0x2 => a
    | 0x3 => a + w.imm
    | 0x4 => a + b
    | 0x5 => a
    | 0x6 => a + w.imm
    | _ => 0).toNat

/-- The width in bytes of a plate load, store or atomic operation. -/
def opWidth (m : Nat) : Nat :=
  match m with
  | 0x01 => 1
  | 0x02 => 2
  | 0x04 => 8
  | 0x05 => 1
  | 0x06 => 2
  | 0x08 => 8
  | _ => 4

/-- The address register's write-back value (05 R260). -/
def writeBack (w : Micro) (a : Word) : Option Word :=
  match w.amode with
  | 0x5 => some (a + BitVec.ofNat 32 (opWidth w.mem))
  | 0x6 => some (a + w.imm)
  | _ => none

/-! ## Condition inputs -/

/-- An event is pending for the engine at a level that satisfies a condition. -/
def State.pendingAt (s : State) (e : Nat) (p : Nat → Bool) : Bool :=
  (s.pendingVectors e).any fun v => (s.vectorLevel e v).any p

/-- Shared condition input k of engine e at level l (05 R247). -/
def State.condInput (s : State) (e l k : Nat) : Bool :=
  let x := s.bank e l
  let cc := fun i => x.cc.getLsbD i
  match k with
  | 1 => true
  | 2 => cc ccZ
  | 3 => !cc ccZ
  | 4 => cc ccN
  | 5 => cc ccC
  | 6 => cc ccV
  | 7 => !cc ccC
  | 8 => cc ccC && !cc ccZ
  | 9 => cc ccN != cc ccV
  | 10 => cc ccZ || cc ccN != cc ccV
  | 11 => x.lcnt == 0
  | 12 => (s.eng e).lockFailed
  | 13 => s.lockOpen e
  | 14 => (s.eng e).op.isSome
  | 15 => (s.get (ENG_LENS.LSTAT e)).testBit 0
  | 16 => (s.get (ENG_LENS.LSTAT e)).testBit 1
  | 17 => (s.get (ENG_LENS.LSTAT e)).testBit 2
  | 18 => (s.get (ENG_LENS.LSTAT e)).testBit 3
  | 19 => cc ccQfail
  | 20 => cc ccHfail
  | 21 => cc ccPfail
  | 22 => cc ccTfail
  | 23 => cc ccEfail
  | 24 => cc ccBfull
  | 25 => (List.range 16).any (s.tagBusy e)
  | 26 => s.on (ENG_BULK.TAGERR e)
  | 39 => s.pendingAt e (fun m => decide (l < m))
  | 40 => !(s.pendingVectors e).isEmpty
  | 41 => s.on (ENG_PRI.GMASK e)
  | 42 => s.get RGL_QUAL.STATE == 3
  | 43 => (s.eng e).cutReq
  | 44 => (s.eng e).halt == 1 && s.lockOpen e
  | 45 => (s.stageOf e).isSome
  | _ =>
    if 27 ≤ k ∧ k ≤ 30 then s.handoffIn e (k - 27)
    else if 31 ≤ k ∧ k ≤ 34 then s.handoffOut e (k - 31)
    else if 35 ≤ k ∧ k ≤ 38 then s.on (TMR_CTL.CMPF e (k - 35))
    else false

/-- The shared inputs as they stand, as a mask. -/
def State.condMask (s : State) (e l : Nat) : Nat :=
  (List.range 48).foldl (fun m k => if s.condInput e l k then m + 2 ^ k else m) 0

/-- The condition register takes the inputs as they stand (04 R184, R186). -/
def State.captureConds (s : State) (e : Nat) : State :=
  s.setEng e { s.eng e with conds := s.condMask e (s.level e), condR15 := s.gpr e (s.level e) 15 }

/-- Condition bit i of a condition register (05 R247, R248). -/
def condBit (conds : Nat) (r15 : Word) (i sel : Nat) : Bool :=
  if sel < 48 then conds.testBit sel else r15.getLsbD (i + sel - 48)

/-- The condition bits that take part, c0 least significant (04 R187). -/
def Micro.condVector (w : Micro) (conds : Nat) (r15 : Word) : Nat :=
  (([w.csel0, w.csel1, w.csel2, w.csel3].take (w.ways + 1)).mapIdx fun i c => 2 ^ i * bit (condBit conds r15 i c)).foldl (· + ·) 0

end Sys2Proof.Machine
end

