-- ==== Sys2Proof/Machine/EngineControl.lean ====
section
/-! DEFINITION. Run control of an engine: debug comparators (19 R911 to R914), halts and stops (04 R223, R224, 19 R900, R901), event
dispatch (06 R291 to R306), entry to PF (06 R308 to R314), and the writes of ENG_CTL, ENG_UPC, ENG_PRI, ENG_SALl and the control
store (04 R231 to R238, 06 R348, R349). -/

namespace Sys2Proof.Machine

/-! ## Halt requests and debug comparators -/

/-- A halt request to an engine, 1 for HALT, 2 for HALT_NOW: ignored by an engine that is stopped, halted or frozen (19 R900). -/
def State.requestHalt (s : State) (e kind : Nat) : State :=
  if s.engineDown e then s else s.setEng e { s.eng e with halt := Nat.max (s.eng e).halt kind }

/-- The Verniers of the groups of EYE_XTRIG.VGRP, a mask. -/
def State.crossVerniers (s : State) : Nat :=
  (List.range 3).foldl (fun m g => if (s.get EYE_XTRIG.VGRP).testBit g then m + 255 * 2 ^ (8 * g) else m) 0

/-- The record of a halt that engine e caused (19 R922), `cross` with the cross-trigger set. -/
def State.haltRecord (s : State) (e : Nat) (cross : Bool) (aux : Nat) : State :=
  s.logChange (0x02 + e) 0x08 0 false (0x04000000 + ((if cross then s.get EYE_XTRIG.ENG else 0) ||| 2 ^ e))
    (if cross then s.crossVerniers else 0) (aux + 256 * e)

/-- Comparator k of engine e fires on a happening of some kinds whose operands satisfy `hit` (19 R911). -/
def State.dcmpFires (s : State) (e k : Nat) (kinds : List Nat) (hit : Word → Word → Bool) : Bool :=
  kinds.contains (s.get (ENG_DCMP_CTL.KIND e k)) &&
    (s.get (ENG_DCMP_CTL.LVLM e k) == 0 || (s.get (ENG_DCMP_CTL.LVLM e k)).testBit (s.level e)) &&
    (!s.on (ENG_DCMP_CTL.CHAIN e k) || k == 0 || (s.eng e).dcmpFired.testBit (k - 1)) &&
    hit (s.reg (ENG_DCMP_A e k)) (s.reg (ENG_DCMP_B e k))

/-- The action of comparator k, 0 where the close of a session has put it out of action (19 R895). -/
def State.dcmpAct (s : State) (e k : Nat) : Nat :=
  if (s.eng e).dcmpOff.testBit k then 0 else s.get (ENG_DCMP_CTL.ACT e k)

/-- A firing of comparator k (19 R912). -/
def State.fire (s : State) (e k : Nat) : State :=
  let t := (s.put (ENG_DCMP_CTL.HIT e k) 1).count (ENG_DCMP_CNT.CNT e k) 1
  let u := t.setEng e { t.eng e with dcmpFired := (t.eng e).dcmpFired ||| 2 ^ k }
  match s.dcmpAct e k with
  | 1 => (u.requestHalt e 1).haltRecord e false (3 + 16 * k)
  | 2 => { (u.requestHalt e 1).haltRecord e true (3 + 16 * k) with crossTrigger := true }
  | _ => u

/-- The comparators that fire on one happening, judged together. -/
def State.fireEach (s : State) (e : Nat) : List Nat → State
  | [] => s
  | k :: ks => (s.fire e k).fireEach e ks

/-- A happening seen by the comparators of engine e. -/
def State.happening (s : State) (e : Nat) (kinds : List Nat) (hit : Word → Word → Bool) : State :=
  s.fireEach e ((List.range 8).filter fun k => s.dcmpFires e k kinds hit)

/-- An access of n bytes from plate address a meets [A, B). -/
def dcmpRange (a n : Nat) (lo hi : Word) : Bool := decide (a < hi.toNat) && decide (lo.toNat < a + n)

/-- A plate read of engine e or its bulk unit. -/
def State.sawRead (s : State) (e a n : Nat) : State := s.happening e [2, 4] (dcmpRange a n)

/-- A plate write of engine e or its bulk unit. -/
def State.sawWrite (s : State) (e a n : Nat) : State := s.happening e [3, 4] (dcmpRange a n)

/-- A DST write of engine e. -/
def State.sawDst (s : State) (e : Nat) (v : Word) : State := s.happening e [5] fun a b => (v ^^^ a) &&& b == 0

/-! ## What is due at a microword boundary -/

/-- A halt request takes effect at this boundary (04 R223, R224). -/
def State.haltDue (s : State) (e : Nat) : Bool :=
  (s.eng e).halt == 2 || (s.eng e).halt == 1 && !s.lockOpen e

/-- A stop takes effect at this boundary. -/
def State.stopDue (s : State) (e : Nat) : Bool := (s.eng e).stop && !s.lockOpen e

/-- CCLK reaches the engines: the PLLs run and the cluster is not in Nap (17 R828, R842). -/
def State.engineClock (s : State) : Bool := s.pllsRun && s.get CLU_ATTACH.PSTATE != 3

/-- The PF bank is in use. -/
def State.inPF (s : State) (e : Nat) : Bool := s.bankUsed e 4

/-- An asynchronous cause enters PF, or freezes the engine, at this boundary (06 R309, R312, R313, R320). -/
def State.asyncDue (s : State) (e : Nat) : Bool :=
  !s.lockOpen e && ((s.watchdog e).expired || !s.inPF e && ((s.eng e).bulkError || (s.eng e).lensFault.isSome))

/-- In precise mode the next microword waits for the Lens operation (06 R344). -/
def State.lensGap (s : State) (e : Nat) : Bool := s.on (ENG_CTL.PRECISE e) && (s.eng e).op.isSome

/-- Engine e begins or continues a microword: it runs, no entry is under way, and nothing else is due. -/
def State.ready (s : State) (e : Nat) : Bool :=
  s.engineClock && s.get (ENG_STAT.STATE e) == 1 && (s.eng e).entry.isNone && !s.haltDue e && !s.stopDue e && !s.asyncDue e &&
    !s.lensGap e

/-- The capability writes that wait for the boundary (09 R474, R477, R478). -/
def State.putCaps (s : State) (e : Nat) : List (Nat × CapWord) → State
  | [] => s
  | (k, c) :: r => (s.setCap e k c).putCaps e r

/-- A microword boundary of engine e. -/
def State.boundary (s : State) (e : Nat) : State :=
  let t := s.putCaps e (s.eng e).capWrites
  t.setEng e { t.eng e with capWrites := [] }

/-- A capability register written at the next microword boundary, or at once if the engine is not running (09 R478). -/
def State.commitCap (s : State) (e k : Nat) (c : CapWord) : State :=
  if s.get (ENG_STAT.STATE e) = 1 then s.setEng e { s.eng e with capWrites := (s.eng e).capWrites ++ [(k, c)] }
  else s.setCap e k c

/-! ## Locked sequences, halts and stops -/

/-- An engine's tag completes with or without an error (04 R214, R215). -/
def State.tagDone (s : State) (e t : Nat) (error : Bool) : State :=
  let u := { s with bulk := tdrop (16 * e + t) s.bulk }
  if error then (u.orBits (ENG_BULK.TAGERR e) (2 ^ t)).setEng e { u.eng e with bulkError := true } else u

/-- The plate bytes of a bulk write of engine e read (04 R213, 10 R505): at an uncorrectable error the tag completes with
TAGERR. -/
def State.fetchBulk (s : State) (e t : Nat) (b : BulkTag) (a n : Nat) : State :=
  match s.plateRead (0x10 + e) a n with
  | (some bs, u) => u.putBulk (16 * e + t) { b with bytes := bs }
  | (none, u) => u.tagDone e t true

/-- Pieces of words from plate address a written by the bulk unit of engine e; the bytes of `keep`, a mask, stay. A piece that meets an
uncorrectable error is not performed. The Bool says that every piece was. -/
def State.bulkStore (s : State) (e a keep : Nat) : List (Nat × List Byte) → Bool × State
  | [] => (true, s)
  | p :: ps =>
    let kept := fun (i : Nat) => keep.testBit (p.1 - a + i)
    let r := if (List.range p.2.length).all kept then (true, s)
      else s.writeWord (0x10 + e) p.1 (p.2.mapIdx fun i b => if kept i then s.byte (p.1 + i) else b) ((List.range p.2.length).any kept)
    let q := r.2.bulkStore e a keep ps
    (r.1 && q.1, q.2)

/-- A bulk read of engine e writes the bytes it has brought, and completes (04 R213 to R215). -/
def State.bulkReadIn (s : State) (e t a keep : Nat) (error : Bool) (data : List Byte) : State :=
  let r := s.bulkStore e a keep (wordPieces data.length a data)
  (r.2.sawWrite e a data.length).tagDone e t (error || !r.1)

/-- The bulk transfers that waited for the end of a locked sequence (04 R219): writes read their plate bytes, reads that have been
answered write theirs. -/
def State.fetchBulks (s : State) (e : Nat) : List Nat → State
  | [] => s
  | t :: ts =>
    (match tfind s.bulk (16 * e + t) with
      | some b => match b.use with
        | .engineWrite a n => if b.bytes.isEmpty then s.fetchBulk e t b a n else s
        | .engineRead a _ => if b.bytes.isEmpty then s else s.bulkReadIn e t a b.keep false b.bytes
        | _ => s
      | none => s).fetchBulks e ts

/-- A locked sequence is no longer open. -/
def State.endLock (s : State) (e : Nat) : State :=
  ((s.put (ENG_STAT.LOCK e) 0).put (ENG_STAT.LOCKCNT e) 0).fetchBulks e (List.range 16)

/-- An open locked sequence is broken (04 R220, R221). -/
def State.breakLock (s : State) (e : Nat) : State :=
  if s.lockOpen e then
    let t := s.endLock e
    t.setEng e { t.eng e with broken := (t.eng e).broken ||| 2 ^ t.level e }
  else s

/-- The counts that TMR.CAP has latched in a stalled microword given up (07 R379). -/
def State.dropLatches (s : State) (e : Nat) : List Nat → State
  | [] => s
  | n :: ns => (s.setTimer e n { s.timer e n with latched := none }).dropLatches e ns

/-- A stalled microword is abandoned (06 R299, R300). -/
def State.unstall (s : State) (e : Nat) : State :=
  if s.on (ENG_STAT.STALL e) then
    let t := (s.dropLatches e (List.range 4)).put (ENG_STAT.STALL e) 0
    t.setEng e { t.eng e with lastConds := none, unjudged := false }
  else s

/-- A halt takes effect (19 R901): ENG_UPC is the halt address. -/
def State.takeHalt (s : State) (e : Nat) : State :=
  let t := ((s.breakLock e).unstall e).boundary e
  let u := t.setEng e { t.eng e with was := t.get (ENG_STAT.STATE e), entry := none, halt := 0, stepping := false, released := false }
  u.setEngineState e 3

/-- A stop takes effect (04 R223, R224): ENG_UPC is the address at which the engine stopped. -/
def State.takeStop (s : State) (e : Nat) : State :=
  let t := ((s.breakLock e).unstall e).boundary e
  let u := t.setEng e { t.eng e with entry := none, halt := 0, stop := false, stepping := false, released := false }
  u.setEngineState e 0

/-- A halt or stop that is due takes effect. -/
def State.settleRun (s : State) (e : Nat) : State :=
  if s.engineDown e then s
  else if s.haltDue e then (if s.stopDue e then (s.takeHalt e).takeStop e else s.takeHalt e)
  else if s.stopDue e then s.takeStop e
  else s

/-! ## Entry to PF -/

/-- The vector of a fault code (06 R307, R308). -/
def faultVector (code : Nat) : Nat := 8 * code

/-- The level an exception interrupts: 7 for an idle engine (06 R311, R314). -/
def State.interrupted (s : State) (e : Nat) : Nat := if s.get (ENG_STAT.BANKS e) = 0 then 7 else s.level e

/-- A double fault (06 R320, R321, 04 R232). -/
def State.doubleFault (s : State) (e code upc : Nat) : State :=
  let t := ((s.breakLock e).unstall e).boundary e
  let t := (t.put (ENG_XCTX.FIRST e) (t.get (ENG_FAULT.CODE e))).put (ENG_XCTX.CAUSE e) code
  let t := (((t.put (ENG_FAULT.LEVEL e) 4).put (ENG_FAULT.UPC e) upc).put (ENG_FAULT.GROUP e) 0).put (ENG_FAULT.CODE e) 0x03
  let t := t.setEng e { t.eng e with entry := none, halt := 0, stop := false, stepping := false, released := false }
  ((t.put (ENG_CTL.RUN e) 0).setEngineState e 4).registerEvent (engineFaultLine e)

/-- The bank switch to PF (06 R288, R310, R311): the resume microaddress goes to the interrupted level's bank and to the link
register of PF. -/
def State.switchToPF (s : State) (e vector resume : Nat) (lht : Bool) : State :=
  let i := s.interrupted e
  let t := ((s.breakLock e).unstall e).boundary e
  let t := if 3 < i then t else t.put (ENG_RESUME.UPC e i) resume
  let t := t.setBank e 4 { t.bank e 4 with link := BitVec.ofNat 13 resume }
  let t := (t.put (ENG_XCTX.ILVL e) i).put (ENG_XCTX.LHT e) (bit lht)
  let t := (t.orBits (ENG_STAT.BANKS e) 16).put (ENG_STAT.LEVEL e) 4
  let t := (t.put (ENG_UPC.UPC e) vector).setEngineState e 1
  (t.setEng e { t.eng e with entry := none, released := false }).captureConds e

/-- A fault enters PF, or is a double fault (06 R310, R311, R320): its code, the parity groups that failed, the level and
microaddress that ENG_FAULT reports and the resume microaddress. -/
def State.enterPF (s : State) (e code group lvl upc resume : Nat) : State :=
  if s.inPF e then s.doubleFault e code upc
  else
    let t := s.switchToPF e (faultVector code) resume false
    let t := (((t.put (ENG_FAULT.LEVEL e) lvl).put (ENG_FAULT.UPC e) upc).put (ENG_FAULT.GROUP e) group).put (ENG_FAULT.CODE e) code
    (t.registerEvent (engineFaultLine e)).happening e [7] fun a _ => fieldOf a 7 0 == 0 || fieldOf a 7 0 == code

/-- The Lens handover trap enters PF (06 R311, R340): it writes no ENG_FAULT and registers no event. -/
def State.enterLht (s : State) (e : Nat) : State :=
  (s.switchToPF e 0 (s.upc e) true).happening e [7] fun a _ => fieldOf a 7 0 == 0

/-- A synchronous cause at this edge is discarded: the engine halts here, at the end of a step or by a request (19 R901, R904). -/
def State.discards (s : State) (e : Nat) : Bool := (s.eng e).stepping || (s.breakLock e).haltDue e

/-- A synchronous cause of the microword at address a (06 R309). At the edge of a halt it is discarded and the microword is the
halt address (19 R901). -/
def State.syncFault (s : State) (e code group lvl a resume : Nat) : State :=
  if s.discards e then ((s.breakLock e).put (ENG_UPC.UPC e) a).takeHalt e
  else s.enterPF e code group lvl a resume

/-- The asynchronous cause that is due (06 R309): watchdog, bulk port error, Lens arithmetic. No microword causes the first two:
ENG_FAULT.UPC is a free value (log entry 21). -/
def State.takeAsync (s : State) (e : Nat) : State :=
  if (s.watchdog e).expired then
    let f := s.fresh 13
    let t := f.2.setWatchdog e { f.2.watchdog e with expired := false }
    t.enterPF e 0x04 0 (t.level e) f.1.toNat (t.upc e)
  else if (s.eng e).bulkError then
    let f := s.fresh 13
    let t := f.2.setEng e { f.2.eng e with bulkError := false }
    t.enterPF e 0x0B 0 (t.level e) f.1.toNat (t.upc e)
  else
    match (s.eng e).lensFault with
    | some (upc, lvl) => (s.setEng e { s.eng e with lensFault := none }).enterPF e 0x12 0 lvl upc (s.upc e)
    | none => s

/-! ## Event dispatch -/

/-- The level that R291 compares with: 5 below every level for an idle engine. -/
def State.aboveRunning (s : State) (e l : Nat) : Bool :=
  s.get (ENG_STAT.BANKS e) == 0 || s.get (ENG_STAT.STATE e) == 2 || decide (s.level e < l)

/-- The conditions of R291 for level l, other than the pending vector line. -/
def State.levelAdmits (s : State) (e l : Nat) : Bool :=
  (s.get (ENG_PRI.LVLEN e)).testBit l && s.aboveRunning e l && !s.bankUsed e l && !s.inPF e && !s.on (ENG_PRI.GMASK e) && !s.lockOpen e

/-- A vector line of level l is pending. -/
def State.levelPending (s : State) (e l : Nat) : Bool := s.pendingAt e (· == l)

/-- The highest eligible level (06 R291). -/
def State.eligible (s : State) (e : Nat) : Option Nat := [3, 2, 1, 0].find? fun l => s.levelAdmits e l && s.levelPending e l

/-- A step masks dispatch, but for the entry that it began with (19 R904). -/
def State.stepMasked (s : State) (e : Nat) : Bool := (s.eng e).stepping && (s.on EYE_CTL.STEPMASK || (s.eng e).entry.isNone)

/-- A dispatch may begin at this boundary: the engine runs or is idle and nothing else is due. -/
def State.mayDispatch (s : State) (e : Nat) : Bool :=
  s.engineClock && (s.get (ENG_STAT.STATE e) == 1 || s.get (ENG_STAT.STATE e) == 2) && !s.haltDue e && !s.stopDue e &&
    !s.asyncDue e && !s.lensGap e && !s.stepMasked e

/-- A bank switch to level l begins (06 R288, R298 to R301): the running level's resume microaddress is written. -/
def State.beginEntry (s : State) (e l : Nat) : State :=
  let t := if s.get (ENG_STAT.STATE e) = 2 ∨ s.get (ENG_STAT.BANKS e) = 0 then s
    else s.put (ENG_RESUME.UPC e (s.level e)) (s.upc e)
  let t := (t.unstall e).boundary e
  t.setEng e { t.eng e with entry := some l }

/-- The pending vector lines of level l (06 R293). -/
def State.linesAt (s : State) (e l : Nat) : List Nat := (s.pendingVectors e).filter fun v => s.vectorLevel e v == some l

/-- An entry at level l commits (06 R302, R305 to R307): at the lowest pending line of the level, or at the spurious vector. The
condition inputs are those of the last tick of the bank switch, before the line clears (04 R186). -/
def State.commitDispatch (s : State) (e l : Nat) : State :=
  let open_ := fun (t : State) (vector : Nat) =>
    let t := (t.orBits (ENG_STAT.BANKS e) (2 ^ l)).put (ENG_STAT.LEVEL e) l
    let t := (t.put (ENG_UPC.UPC e) vector).setEngineState e 1
    (t.setEng e { t.eng e with entry := none, released := false, conds := s.condMask e l, condR15 := s.gpr e l 15 }).boundary e
  match s.linesAt e l with
  | [] => open_ (s.setClaimContext e l .fails) 0x0F8
  | v :: _ => (open_ (s.commitEntry e v l) (0x100 + 8 * v)).happening e [6] fun a _ => fieldOf a 5 0 == v

/-- One stage of a dispatch: a request begins a bank switch; an entry under way gives way to a higher level (06 R303), is
withdrawn, with a bank switch back (06 R963, 04 R186), or commits. A step halts before the first microword of the handler (19 R904). -/
def State.dispatch (s : State) (e : Nat) : State :=
  if !s.mayDispatch e then s
  else match (s.eng e).entry with
    | none => match s.eligible e with
      | some l => s.beginEntry e l
      | none => s
    | some l =>
      match s.eligible e with
      | some h => if l < h ∨ !s.levelAdmits e l then s.setEng e { s.eng e with entry := some h }
        else
          let t := s.commitDispatch e l
          if (s.eng e).stepping then t.takeHalt e else t
      | none =>
        if s.levelAdmits e l then
          let t := s.commitDispatch e l
          if (s.eng e).stepping then t.takeHalt e else t
        else (s.setEng e { s.eng e with entry := none }).captureConds e

/-! ## Register writes -/

/-- RUN written 1 on a stopped engine (04 R231, 06 R295, 19 R906). -/
def State.startEngine (s : State) (e : Nat) : State :=
  if s.get (ENG_STAT.BANKS e) = 0 then
    let t := (s.orBits (ENG_STAT.BANKS e) (2 ^ s.level e)).captureConds e
    if s.on EYE_CTL.RSTHALT && (s.get EYE_ESEL.ENG).testBit e then
      (t.setEng e { t.eng e with was := 1 }).setEngineState e 3
    else t.setEngineState e 1
  else s.setEngineState e 1

/-- RUN written 0 (04 R223, R224, 19 R905). A stop that finds the engine inside a microword, stalled or between elements of a resumable
one, takes effect at once and the microword is abandoned, as 19 R900 says of halts (log entry 87). -/
def State.stopRequest (s : State) (e : Nat) (force : Bool) : State :=
  if s.get (ENG_STAT.STATE e) = 0 ∨ s.get (ENG_STAT.STATE e) = 4 then s
  else if s.lockOpen e && !force then s.setEng e { s.eng e with stop := true }
  else s.takeStop e

/-- The rules of a write to ENG_CTL (04 R231): one of RUN = 1 and FCLR = 0 to a frozen engine is ignored. RUN = 1 restarts the watchdog's
full period (07 R399). -/
def writeEngCtl (e : Nat) (v : Word) (s : State) : Effect :=
  let st := s.get (ENG_STAT.STATE e)
  let t := s.plainWrite (ENG_CTL e) v
  let t := if bitAt v 3 then t.setReg (ENG_FAULT e) 0 else t
  if st = 4 && bitAt v 0 && !bitAt v 3 then .kept s
  else if st = 4 then
    .ok (if bitAt v 3 then (t.put (ENG_CTL.RUN e) 0).setEngineState e 0 else t.put (ENG_CTL.RUN e) 0)
  else if bitAt v 0 then
    .ok ((if st = 0 then t.startEngine e else t.setEng e { t.eng e with stop := false }).watchdogRestart e)
  else .ok (t.stopRequest e (bitAt v 1))

/-- The engine is stopped. -/
def State.stopped (s : State) (e : Nat) : Bool := s.get (ENG_STAT.STATE e) == 0

/-- The rules of a write to ENG_UPC (04 R233). -/
def writeEngUpc (e : Nat) (v : Word) (s : State) : Effect :=
  if s.stopped e then .ok (s.plainWrite (ENG_UPC e) v) else .denied s

/-- The rules of a write to ENG_SALl (06 R349). -/
def writeEngSal (e l : Nat) (v : Word) (s : State) : Effect :=
  if s.stopped e then .ok (s.plainWrite (ENG_SAL e l) v) else .denied s

/-- The rules of a write to ENG_PRI (06 R348): LEVEL and INUSE stand in ENG_STAT. A level that the coding does not have leaves
LEVEL as it is (log entry 22). -/
def writeEngPri (e : Nat) (v : Word) (s : State) : Effect :=
  let lvl := if fieldOf v 26 24 ≤ 4 then fieldOf v 26 24 else s.level e
  let inuse := fieldOf v 12 8
  if !s.stopped e && (lvl != s.level e || inuse != s.get (ENG_STAT.BANKS e)) then .denied s
  else
    let t := (s.put (ENG_PRI.GMASK e) (fieldOf v 16 16)).put (ENG_PRI.LVLEN e) (fieldOf v 3 0)
    let u := if s.stopped e then (t.put (ENG_STAT.LEVEL e) lvl).put (ENG_STAT.BANKS e) inuse else t
    { state := u, refused := fieldOf v 26 24 > 4 }

/-! ## The control store -/

/-- ENG_STAT.STATE is running or idle (04 R237). -/
def State.wcsBusy (s : State) (e : Nat) : Bool := s.get (ENG_STAT.STATE e) == 1 || s.get (ENG_STAT.STATE e) == 2

/-- The life-cycle state is DEVELOP. -/
def State.develop (s : State) : Bool := s.get SEC_LCS.STATE == 2

/-- A ring 1 write to the control store registers is refused outside DEVELOP (04 R238). -/
def State.wcsRingRefuses (s : State) (o : Origin) : Bool := s.ringOf o == some 1 && !s.develop

/-- The address moves on under AINC. -/
def State.wcsNext (s : State) (e : Nat) : State :=
  if s.on (WCS_ADDR.AINC e) then s.put (WCS_ADDR.ADDR e) (s.get (WCS_ADDR.ADDR e) + 1) else s

/-- Commits skip the parity check (04 `WCS_ADDR.PINJ`). -/
def State.parityInjects (s : State) (e : Nat) : Bool := s.on (WCS_ADDR.PINJ e) && s.develop

/-- The rules of a write to WCS_ADDR (04 R238): PINJ is writable in DEVELOP only. -/
def writeWcsAddr (e : Nat) (o : Origin) (v : Word) (s : State) : Effect :=
  if s.wcsRingRefuses o then .denied s
  else
    let t := s.plainWrite (WCS_ADDR e) v
    .ok (if s.develop then t else t.put (WCS_ADDR.PINJ e) 0)

/-- A word of the control store written by the loader through WCS_ADDR and WCS_D0 to WCS_D4 (04 R230). -/
def State.loadStoreWord (s : State) (e a : Nat) (w : StoreWord) : State :=
  let t := (s.put (WCS_ADDR.ADDR e) a).setStoreWord e a w
  t.setEng e { t.eng e with wcsHold := w.extractLsb' 0 128 }

/-- The rules of a write to WCS_D0 to WCS_D4 (04 R234, R236 to R238). One that is refused for parity moves the address like any other
under AINC (log entry 88). A commit makes a record of kind 0x05 (18 R879, R967). -/
def writeWcsD (e i : Nat) (o : Origin) (v : Word) (s : State) : Effect :=
  if s.wcsRingRefuses o || s.wcsBusy e then .denied s
  else if i < 4 then
    let h := (s.eng e).wcsHold
    let m : BitVec 128 := BitVec.ofNat 128 (0xFFFFFFFF <<< (32 * i))
    .ok (s.setEng e { s.eng e with wcsHold := (h &&& ~~~ m) ||| (v.setWidth 128 <<< (32 * i)) })
  else
    let w : StoreWord := v ++ (s.eng e).wcsHold
    let a := s.get (WCS_ADDR.ADDR e)
    if parityFails w ≠ 0 ∧ !s.parityInjects e then
      { state := (s.put (WCS_ADDR.PERR e) 1).wcsNext e, refused := true }
    else
      { state := (s.setStoreWord e a w).wcsNext e,
        after := fun t => t.logChange (originCode o) 0x05 0 false (e + 65536 * a) (crc32 (leBytes 20 w.toNat)).toNat 0 }

/-- A read of WCS_D0 to WCS_D4 (04 R235, R237): the response, the word and the state after it. The bits held by a read and those held by
writes of WCS_D0 to WCS_D3 are two stores (log entry 89). -/
def State.readWcsD (s : State) (e i : Nat) : Nat × Word × State :=
  if s.wcsBusy e then (respDenied, 0, s)
  else
    let t := if i = 0 then s.setEng e { s.eng e with wcsRead := s.storeWord e (s.get (WCS_ADDR.ADDR e)) } else s
    (respOk, ((t.eng e).wcsRead).extractLsb' (32 * i) 32, if i = 4 then t.wcsNext e else t)

/-! ## The commands -/

/-- EVENT_DISPATCH (R296): one stage, the bank switch or the commitment of the entry (log entry 20). -/
def execEventDispatch (e : Fin 12) (s : State) : Host.Outcome State Fault Refusal := .next (s.dispatch e)

/-- ENGINE_RUN (R231): ENG_CTL written with RUN = 1 and FCLR = 0. -/
def execEngineRun (e : Fin 12) (o : Origin) (v : Word) (s : State) : Host.Outcome State Fault Refusal :=
  let w := (v ||| 1) &&& ~~~ 8#32
  .next (s.writeReg o (ENG_CTL e) w (writeEngCtl e w))

/-- ENGINE_STOP (R223): ENG_CTL written with RUN = 0 and FORCE = 0. -/
def execEngineStop (e : Fin 12) (o : Origin) (v : Word) (s : State) : Host.Outcome State Fault Refusal :=
  let w := v &&& ~~~ 3#32
  .next (s.writeReg o (ENG_CTL e) w (writeEngCtl e w))

/-- ENGINE_FORCE_STOP (R224): ENG_CTL written with RUN = 0 and FORCE = 1. -/
def execEngineForceStop (e : Fin 12) (o : Origin) (v : Word) (s : State) : Host.Outcome State Fault Refusal :=
  let w := (v ||| 2) &&& ~~~ 1#32
  .next (s.writeReg o (ENG_CTL e) w (writeEngCtl e w))

/-- FCLR (R231): ENG_CTL written with FCLR = 1. -/
def execFclr (e : Fin 12) (o : Origin) (v : Word) (s : State) : Host.Outcome State Fault Refusal :=
  let w := v ||| 8
  .next (s.writeReg o (ENG_CTL e) w (writeEngCtl e w))

/-- DEFERRED_HALT (R223): a halt or a stop that a locked sequence deferred takes effect. -/
def execDeferredHalt (e : Fin 12) (s : State) : Host.Outcome State Fault Refusal :=
  .next (if s.engineClock then s.settleRun e else s)

/-- ENG_UPC_WRITE (R233). -/
def execEngUpcWrite (e : Fin 12) (o : Origin) (v : Word) (s : State) : Host.Outcome State Fault Refusal :=
  .next (s.writeReg o (ENG_UPC e) v (writeEngUpc e v))

/-- ENG_PRI_WRITE (R348). -/
def execEngPriWrite (e : Fin 12) (o : Origin) (v : Word) (s : State) : Host.Outcome State Fault Refusal :=
  .next (s.writeReg o (ENG_PRI e) v (writeEngPri e v))

/-- ENG_SAL_WRITE (R349). -/
def execEngSalWrite (e : Fin 12) (l : Fin 5) (o : Origin) (v : Word) (s : State) : Host.Outcome State Fault Refusal :=
  .next (s.writeReg o (ENG_SAL e l) v (writeEngSal e l v))

/-- WCS_COMMIT (R234): a write of WCS_D4. -/
def execWcsCommit (e : Fin 12) (o : Origin) (v : Word) (s : State) : Host.Outcome State Fault Refusal :=
  .next (s.writeReg o (WCS_D e 4) v (writeWcsD e 4 o v))

end Sys2Proof.Machine
end

