-- ==== Sys2Proof/Machine/EngineOps.lean ====
section
/-! DEFINITION. The capability checks of a microword (05 R281, 09 R442 to R452, R479) and its MEM, QOP, TOP, EVT and PIN operations
(05 R262 to R275), other than the resumable and the SAVE operations. -/

namespace Sys2Proof.Machine

/-! ## Operands of one microword -/

/-- A microword with its engine, level, address and operands: A, B after SHF, the Lens register and the group that BSRC names. -/
structure Args where
  e : Nat
  l : Nat
  upc : Nat
  w : Micro
  a : Word
  b : Word
  b0 : Word
  b1 : Word
  b2 : Word
  c : CapWord
  deriving DecidableEq, Repr

/-- The operands of microword w at address upc, as they stand. -/
def State.args (s : State) (e : Nat) (w : Micro) (upc : Nat) : Args :=
  let l := s.level e
  let src := s.source e l upc w.imm
  { e, l, upc, w, a := src w.asrc, b := shiftB w.shf (src w.bsrc), b0 := src w.bsrc, b1 := src (w.bsrc + 1),
    b2 := src (w.bsrc + 2), c := s.cap e w.capr }

/-- The plate address that AMODE forms. -/
def Args.addr (x : Args) : Nat := microAddr x.w x.a x.b

/-- What an operation delivers: the state, the words for DST on (none delivered by an operation that fails), a Lens register
for LD.D, the status flags it writes with their values, and whether it met an uncorrectable error. -/
structure OpOut where
  state : State
  dst : List Word := []
  lens : Option (Nat × DWord) := none
  mask : Nat := 0
  flags : Nat := 0
  ecc : Bool := false

/-- An operation that writes one status flag. -/
def OpOut.flag (o : OpOut) (k : Nat) (fails : Bool) : OpOut := { o with mask := 2 ^ k, flags := 2 ^ k * bit fails }

/-! ## Plate accesses of an engine -/

/-- An engine owns every plate of [a, a + n). -/
def State.ownsRange (s : State) (e a n : Nat) : Bool :=
  (List.range ((a + n - 1) / 0x10000 + 1 - a / 0x10000)).all fun k =>
    decide (a / 0x10000 + k < 96) && s.ownsPlate e (a / 0x10000 + k)

/-- Byte a lies in the plate range of a bulk read of engine e in flight, in a word that has not been transferred. -/
def State.underBulkRead (s : State) (e a : Nat) : Bool :=
  s.bulk.any fun p => p.1 / 16 == e && match p.2.use with
    | .engineRead b n => decide (b ≤ a) && decide (a < b + n) && !p.2.keep.testBit (a - b)
    | _ => false

/-- The bytes [a, a + n) marked in a mask over a range from b. -/
def keepMask (b a n : Nat) : Nat :=
  (List.range n).foldl (fun m i => if b ≤ a + i then m ||| 2 ^ (a + i - b) else m) 0

/-- Bytes of the plate that the bulk reads of engine e in flight have passed: their transfers write them no more. -/
def State.passBulk (s : State) (e a n : Nat) : State :=
  { s with bulk := s.bulk.map fun p =>
      match p.2.use with
      | .engineRead b len => if p.1 / 16 = e then (p.1, { p.2 with keep := p.2.keep ||| (keepMask b a n % 2 ^ len) }) else p
      | _ => p }

/-- Bytes inside one word read by engine e while a bulk read of them is in flight (04 R213, log entry 24): a free bit says whether the
word is read before its transfer or after it; after it, the bytes it has brought are free values. -/
def State.readUnderBulk (s : State) (e a : Nat) (bs : List Byte) : List Byte × State :=
  if (List.range bs.length).any fun i => s.underBulkRead e (a + i) then
    let f := s.fresh 65
    if f.1.getLsbD 64 then
      let new := bs.mapIdx fun i b => if s.underBulkRead e (a + i) then f.1.extractLsb' (8 * (i % 8)) 8 else b
      (new, (f.2.setBytes a new).passBulk e a bs.length)
    else (bs, f.2)
  else (bs, s)

/-- Pieces of words read by engine e. -/
def State.readPieces (s : State) (e : Nat) : List (Nat × List Byte) → List Byte × State
  | [] => ([], s)
  | p :: ps =>
    let r := s.readUnderBulk e p.1 p.2
    let q := r.2.readPieces e ps
    (r.1 ++ q.1, q.2)

/-- A plate read of engine e. -/
def State.engRead (s : State) (e a n : Nat) : Option (List Byte) × State :=
  let r := s.plateRead (0x10 + e) a n
  match r.1 with
  | some bs => let f := (r.2.sawRead e a n).readPieces e (wordPieces n a bs); (some f.1, f.2)
  | none => (none, r.2.sawRead e a n)

/-- Bytes written over those of a range from address b. -/
def patchBytes (b : Nat) (old : List Byte) (a : Nat) (bs : List Byte) : List Byte :=
  old.mapIdx fun i x => if a ≤ b + i ∧ b + i < a + bs.length then bs.getD (b + i - a) x else x

/-- Byte a lies in the plate range of a bulk write of engine e in flight. -/
def State.underBulkWrite (s : State) (e a : Nat) : Bool :=
  s.bulk.any fun p => p.1 / 16 == e && match p.2.use with
    | .engineWrite b n => decide (b ≤ a) && decide (a < b + n)
    | _ => false

/-- Bytes inside one word, written by engine e while bulk transfers of them are in flight (04 R213, log entry 24): free bits say whether
the write comes after the transfer of a bulk read, and before that of a bulk write. -/
def State.writeUnderBulk (s : State) (e a : Nat) (bs : List Byte) : State :=
  let t := if (List.range bs.length).any fun i => s.underBulkRead e (a + i) then
      if (s.fresh 1).1 = 1 then (s.fresh 1).2.passBulk e a bs.length else (s.fresh 1).2
    else s
  if (List.range bs.length).any fun i => t.underBulkWrite e (a + i) then
    let f := t.fresh 1
    if f.1 = 1 then
      { f.2 with bulk := f.2.bulk.map fun p =>
          match p.2.use with
          | .engineWrite b _ => if p.1 / 16 = e then (p.1, { p.2 with bytes := patchBytes b p.2.bytes a bs }) else p
          | _ => p }
    else f.2
  else t

/-- The same for pieces of words. -/
def State.writesUnderBulk (s : State) (e : Nat) : List (Nat × List Byte) → State
  | [] => s
  | p :: ps => (s.writeUnderBulk e p.1 p.2).writesUnderBulk e ps

/-- A plate write of engine e, not performed where a broken locked sequence suppresses it (04 R221). The Bool says that no
uncorrectable error was met. -/
def State.engWrite (s : State) (e a : Nat) (bs : List Byte) (suppressed : Bool) : Bool × State :=
  if suppressed then (true, s)
  else
    let r := s.plateWrite (0x10 + e) a bs
    (r.1, if r.1 then (r.2.sawWrite e a bs.length).writesUnderBulk e (wordPieces bs.length a bs) else r.2)

/-- Microwords of a broken locked sequence with hold or close make no plate writes (04 R221). -/
def State.suppresses (s : State) (e : Nat) (w : Micro) : Bool :=
  (s.eng e).broken.testBit (s.level e) && !s.lockOpen e && (w.lock == 2 || w.lock == 3)

/-! ## Capability checks -/

/-- The checks of a plate access of n bytes at a (04 R202, R203, 05 R261, 09 R442). -/
def State.plateReasons (s : State) (e : Nat) (c : CapWord) (a n rights : Nat) : List (Bool × Nat) :=
  [(decide (plateBytes ≤ a), 0x09), (a % n != 0, 0x06)] ++ s.capChecks c [typePlate] (capHas c rights) ++
    [(!capCovers c a n, 0x04), (!s.ownsRange e a n, 0x05)]

/-- The checks of a range that an operation works through, aligned to `al` (05 R265, R277). -/
def State.rangeReasons (s : State) (e : Nat) (c : CapWord) (a n al rights : Nat) : List (Bool × Nat) :=
  [(a % al != 0 || n % al != 0, 0x06)] ++ s.capChecks c [typePlate] (capHas c rights) ++
    [(!capCovers c a n, 0x04), (!s.ownsRange e a n, 0x05)]

/-- Two lists of checks judged together, in the order of R479. -/
def mergeReasons (x y : List (Bool × Nat)) : List (Bool × Nat) :=
  [0x09, 0x0A, 0x0B, 0x06, 0x01, 0x02, 0x03, 0x04, 0x07, 0x0C, 0x05, 0x08].map fun r =>
    ((x ++ y).any fun p => p.1 && p.2 == r, r)

/-- A range lies in one aligned 64-byte block. -/
def inBlock (a n : Nat) : Bool := a / 64 == (a + n - 1) / 64

/-- The checks of a bulk issue (04 R211, 09 R449, 10 R493). A range that crosses a 64-byte boundary has reason ALIGN (log entry
25). -/
def State.bulkReasons (s : State) (x : Args) (rights : Nat) : List (Bool × Nat) :=
  let n := fieldOf x.w.imm 5 0 + 1
  let a := x.a.toNat
  let ext := x.b.toNat
  let base := s.get (CAP_XBASE.BASE x.e)
  [(!inBlock a n || !inBlock ext n, 0x06)] ++ s.capChecks x.c [typePlate] (capHas x.c rights) ++
    [(!capCovers x.c a n, 0x04),
     (!(decide (base ≤ ext) && decide (ext + n ≤ base + s.get (CAP_XLEN.LEN x.e))), 0x0C),
     (!s.ownsRange x.e a n || s.on (PLT_OWN.PEND (plateOf a)), 0x05)]

/-- The types of capabilities other than null. -/
def anyType : List Nat := [0x1, 0x2, 0x3, 0x4, 0x5, 0x6, 0x7, 0x8, 0x9, 0xA]

/-- The checks of the MEM operation. A block operation of length 0 makes none. -/
def State.memReasons (s : State) (x : Args) : List (Bool × Nat) :=
  let n := x.b.toNat
  let long := (decide (65536 < n), 0x0B)
  match x.w.mem with
  | 0x09 => s.plateReasons x.e x.c x.addr 4 (rightRead + rightWrite + rightAtomic)
  | 0x0A => s.plateReasons x.e x.c x.addr 4 (rightRead + rightWrite + rightAtomic)
  | 0x0B => if n = 0 then [] else long :: s.rangeReasons x.e x.c x.a.toNat n 1 rightRead
  | 0x0C => if n = 0 then [] else
      let d := (s.source x.e x.l x.upc x.w.imm x.w.dst).toNat
      long :: mergeReasons (s.rangeReasons x.e x.c x.a.toNat n 8 (rightRead + rightWrite))
        (s.rangeReasons x.e x.c d n 8 (rightRead + rightWrite))
  | 0x0D => if n = 0 then [] else long :: s.rangeReasons x.e x.c x.a.toNat n 1 rightRead
  | 0x0E => s.bulkReasons x (rightWrite + rightLoad)
  | 0x0F => s.bulkReasons x (rightRead + rightLoad)
  | 0x14 => s.capChecks x.c anyType (capHas x.c rightDerive) ++
      [(capType x.c == typePlate && !capCovers x.c x.a.toNat x.b.toNat, 0x07)]
  | 0x15 => s.capChecks x.c anyType (capHas x.c rightRevoke)
  | m =>
    if codeIn 0x01 0x04 m then s.plateReasons x.e x.c x.addr (opWidth m) rightRead
    else if codeIn 0x05 0x08 m then s.plateReasons x.e x.c x.addr (opWidth m) rightWrite
    else []

/-- The checks of the descriptor address of ENQ and COMMIT (10 R517, 15 R749), around those of the capability. -/
def State.descReasons (s : State) (x : Args) (checks : List (Bool × Nat)) : List (Bool × Nat) :=
  let a := x.a.toNat
  [(decide (plateBytes ≤ a), 0x09), (a % 32 != 0, 0x06)] ++ checks ++ [(!s.ownsRange x.e a 32, 0x05)]

/-- The checks of the QOP operation. -/
def State.qopReasons (s : State) (x : Args) : List (Bool × Nat) :=
  let queues := [typeQueue, typeChannel]
  match x.w.qop with
  | 0x01 => s.descReasons x (s.capChecks x.c queues (capHas x.c rightEnq))
  | 0x02 => s.capChecks x.c queues (capHas x.c rightDeq)
  | 0x03 => s.capChecks x.c queues (capHas x.c rightDeq)
  | 0x04 => s.capChecks x.c queues (capHas x.c rightEnq || capHas x.c rightDeq)
  | 0x05 => s.descReasons x (s.capChecks x.c [typeFlow] (capHas x.c rightWrite))
  | q =>
    if codeIn 0x08 0x0F q then [((s.stageOf x.e).isNone || s.stageOf x.e == some (q % 4), 0x0A)] else []

/-- The alarm, phase alarm and timer that A names. -/
def Args.alarm (x : Args) : Nat := fieldOf x.a 4 0
def Args.palm (x : Args) : Nat := fieldOf x.a 3 0
def Args.timer (x : Args) : Nat := fieldOf x.a 1 0

/-- The checks of the TOP operation (02 R76, R98, 03 R125, R152, R169). -/
def State.topReasons (s : State) (x : Args) : List (Bool × Nat) :=
  let t := x.w.top
  if codeIn 0x04 0x07 t then [(!s.codeIsEngine (s.get (RGL_ALM_CTL.OWNER x.alarm)) x.e, 0x05)]
  else if codeIn 0x08 0x0A t then
    s.capChecks x.c [typeTracker] (capHas x.c rightTime) ++
      [(!s.codeIsEngine (s.get (CDR_PALM_CTL.OWNER x.palm)) x.e || capObj x.c != s.get (CDR_PALM_CTL.TRK x.palm), 0x05)]
  else if t = 0x0B then s.capChecks x.c [typeTracker] (capHas x.c rightRead)
  else if t = 0x0C then s.capChecks x.c [typeTracker] (capHas x.c rightWrite)
  else if t = 0x11 then s.capChecks x.c [typeTracker] (capHas x.c rightTime)
  else if codeIn 0x12 0x14 t then [(!s.codeIsEngine (s.get RGL_SRV_OWN.OWNER) x.e, 0x05)]
  else []

/-- The checks of the PIN operation. -/
def State.pinReasons (s : State) (x : Args) : List (Bool × Nat) :=
  match x.w.pin with
  | 0x1 => s.capChecks x.c [typeVernier] (capHas x.c rightWrite)
  | 0x2 => s.capChecks x.c [typeVernier] (capHas x.c rightRead)
  | 0x3 => s.capChecks x.c [typeVernier] (capHas x.c rightRead)
  | 0x4 => s.capChecks x.c [typeVernier] (capHas x.c rightWrite)
  | 0x5 => s.capChecks x.c [typeVernier] (capHas x.c rightWrite)
  | 0x6 => s.capChecks x.c [typeVernier] (capHas x.c rightPinDrive)
  | 0x7 => s.capChecks x.c [typeVernier] (capHas x.c rightPinDrive)
  | 0x8 => s.capChecks x.c [typePin] (capHas x.c rightPinRead)
  | 0x9 => s.capChecks x.c [typePin] (capHas x.c rightPinDrive)
  | _ => []

/-- The bytes of one element of a Lens vector operation, and how many elements the microword names (05 R277). -/
def elementBytes (lens : Nat) : Nat := if lens = 0x29 then 4 else 8
def Micro.elements (w : Micro) : Nat := fieldOf w.imm 27 12

/-- The checks of a Lens vector operation. With no element it makes none. -/
def State.lensReasons (s : State) (x : Args) : List (Bool × Nat) :=
  if vectorOp x.w.lens && x.w.elements != 0 then
    let k := elementBytes x.w.lens
    let n := k * x.w.elements
    mergeReasons (s.rangeReasons x.e x.c x.a.toNat n k rightRead) (s.rangeReasons x.e x.c x.b.toNat n k rightRead)
  else []

/-- The first refused operation of a microword: its FIELD code and REASON (09 R479). A SAVE.LO load's seals are judged apart. -/
def State.capViolation (s : State) (x : Args) : Option (Nat × Nat) :=
  match firstReason (s.memReasons x), firstReason (s.qopReasons x), firstReason (s.topReasons x),
      firstReason (s.pinReasons x), firstReason (s.lensReasons x) with
  | some r, _, _, _, _ => some (1, r)
  | none, some r, _, _, _ => some (2, r)
  | none, none, some r, _, _ => some (3, r)
  | none, none, none, some r, _ => some (4, r)
  | none, none, none, none, some r => some (5, r)
  | none, none, none, none, none => none

/-- A reason that the operands alone can give, judged again at each element of a resumable operation (log entry 26). -/
def shapeReason (r : Nat) : Bool := r == 0x04 || r == 0x06 || r == 0x0B

/-- CAP_VIOL written at a violation (09 R479). -/
def State.noteViolation (s : State) (e capr field reason : Nat) : State :=
  s.setReg (CAP_VIOL e) (BitVec.ofNat 32 (2 ^ 31 + 65536 * capr + 256 * field + reason))

/-! ## MEM -/

/-- The low n bytes of a word. -/
def lowBytes (n : Nat) (v : Word) : List Byte := leBytes n v.toNat

/-- A plate load. -/
def State.loadOut (s : State) (x : Args) : OpOut :=
  match s.engRead x.e x.addr (opWidth x.w.mem) with
  | (none, t) => { state := t, ecc := true }
  | (some bs, t) =>
    if x.w.mem = 0x04 then { state := t, lens := some (halfReg x.w.dst, BitVec.ofNat 64 (ofLeBytes bs)) }
    else { state := t, dst := [BitVec.ofNat 32 (ofLeBytes bs)] }

/-- A plate store. -/
def State.storeOut (s : State) (x : Args) : OpOut :=
  let bs := if x.w.mem = 0x08 then leBytes 8 (s.lensReg x.e (halfReg x.w.bsrc)).toNat else lowBytes (opWidth x.w.mem) x.b
  let r := s.engWrite x.e x.addr bs (s.suppresses x.e x.w)
  { state := r.2, ecc := !r.1 }

/-- ADD.A and SWP.A (10 R490): at an uncorrectable error nothing is written (10 R505). -/
def State.atomicOut (s : State) (x : Args) : OpOut :=
  match s.engRead x.e x.addr 4 with
  | (none, t) => { state := t, ecc := true }
  | (some bs, t) =>
    let old : Word := BitVec.ofNat 32 (ofLeBytes bs)
    let new := if x.w.mem = 0x09 then old + x.b else x.b
    let r := t.engWrite x.e x.addr (lowBytes 4 new) (s.suppresses x.e x.w)
    { state := r.2, dst := [old], ecc := !r.1 }

/-- BRD and BWR: the lowest free tag, or BFULL (04 R208 to R211). A bulk write reads its plate bytes at issue, or at the end of
an open locked sequence (log entry 24). -/
def State.bulkOut (s : State) (x : Args) : OpOut :=
  let n := fieldOf x.w.imm 5 0 + 1
  let a := x.a.toNat
  let use : BulkUse := if x.w.mem = 0x0E then .engineRead a n else .engineWrite a n
  match s.freeTag (16 * x.e) 16 with
  | none => { (⟨s, [0xFFFFFFFF], none, 0, 0, false⟩ : OpOut).flag ccBfull true with dst := [0xFFFFFFFF] }
  | some tag =>
    let b : BulkTag := { use, ext := x.b.toNat, bytes := [], discard := false }
    let t := s.putBulk tag b
    let u := if x.w.mem = 0x0F ∧ !s.lockOpen x.e then t.fetchBulk x.e (tag % 16) b a n else t
    { (⟨u, [], none, 0, 0, false⟩ : OpOut).flag ccBfull false with dst := [BitVec.ofNat 32 (tag % 16)] }

/-- CAP.DRV (09 R451). -/
def deriveCap (x : Args) : CapWord :=
  let plate := capType x.c == typePlate
  mkCap (capType x.c) (capObj x.c) (capRights x.c &&& fieldOf x.w.imm 15 4 &&& 0x7FF) (capGen x.c)
    (if plate then x.a.toNat else 0) (if plate then x.b.toNat else 0)

/-- A revocation (09 R459, R460): a bump, with a record of kind 0x02 (18 R967); `upper` is OBJECT[29:20]. -/
def State.revoke (s : State) (origin type obj upper : Nat) : State :=
  let t := s.bump type obj
  t.logChange origin 0x02 0 false (type + 16 * obj + 2 ^ 20 * upper) (t.gen type obj) 0

/-- The MEM operation at e(N). -/
def State.memOut (s : State) (x : Args) : OpOut :=
  match x.w.mem with
  | 0x0E => s.bulkOut x
  | 0x0F => s.bulkOut x
  | 0x14 => { state := s.setCap x.e (fieldOf x.w.imm 3 0) (deriveCap x) }
  | 0x15 => { state := s.revoke (0x02 + x.e) (capType x.c) (capObj x.c) (x.e + 16 * x.w.capr + 512) }
  | 0x16 => { state := s.setCap x.e x.w.capr 0 }
  | 0x17 => { state := s, dst := [if fieldOf x.a 1 0 = 3 then (x.c.extractLsb' 96 16).setWidth 32
                                   else x.c.extractLsb' (32 * fieldOf x.a 1 0) 32] }
  | m =>
    if codeIn 0x01 0x04 m then s.loadOut x
    else if codeIn 0x05 0x08 m then s.storeOut x
    else if codeIn 0x09 0x0A m then s.atomicOut x
    else { state := s }

/-! ## QOP -/

/-- The queue that a capability names: a channel's is in CST_CHCFG (16 R809). -/
def State.capQueue (s : State) (c : CapWord) : Nat :=
  if capType c = typeChannel then s.get (CST_CHCFG.QUEUE (capObj c)) else capObj c

/-- The receive context of a dequeued descriptor: the slot whose stamp STAMP.RX delivers. -/
def State.setRx (s : State) (e l slot : Nat) : State := s.setBank e l { s.bank e l with rx := slot }

/-- The descriptor at plate address a as it stands in `pre` (10 R518), with its errors noted (R504, R505). -/
def State.takeDesc (s pre : State) (a : Nat) : Option (List Byte) × State :=
  let r := ({ s with ecc := pre.ecc } : State).readWords 3 (wordsIn a 32)
  (if r.1 then some (pre.bytes a 32) else none, { r.2 with ecc := s.ecc })

/-- The QOP operation at e(N) (05 R269, 10 R518 to R525). `pre` is the state at the start of the microword's last tick. -/
def State.qopOut (s pre : State) (x : Args) : OpOut :=
  let q := s.capQueue x.c
  match x.w.qop with
  | 0x01 =>
    match s.takeDesc pre x.a.toNat with
    | (none, t) => ({ state := t.stopQueue q true } : OpOut).flag ccQfail true
    | (some d, t) =>
      let r := t.tryEnqueue q d
      ({ state := r.2 } : OpOut).flag ccQfail (!r.1)
  | 0x02 =>
    match s.dequeue q with
    | (some a, t) => { (⟨t.setRx x.e x.l a, [], none, 0, 0, false⟩ : OpOut).flag ccQfail false with dst := [BitVec.ofNat 32 a] }
    | (none, t) => { (⟨t, [], none, 0, 0, false⟩ : OpOut).flag ccQfail true with dst := [0] }
  | 0x03 =>
    { (⟨s, [], none, 0, 0, false⟩ : OpOut).flag ccQfail (s.headSlot q).isNone with dst := [BitVec.ofNat 32 ((s.headSlot q).getD 0)] }
  | 0x04 => { state := s, dst := [BitVec.ofNat 32 (s.queueCount q)] }
  | 0x05 =>
    match s.takeDesc pre x.a.toNat with
    | (none, t) => ({ state := t.stopQueue (s.get (AST_OT0.DSTQ (capObj x.c))) true } : OpOut).flag ccQfail true
    | (some d, t) =>
      let r := t.commit (capObj x.c) d
      ({ state := r.2 } : OpOut).flag ccQfail r.1
  | k =>
    if codeIn 0x08 0x0B k then
      let r := s.put8 x.e (k % 4) x.b
      ({ state := r.2 } : OpOut).flag ccHfail (!r.1)
    else if codeIn 0x0C 0x0F k then
      let r := s.take8 x.e (k % 4)
      { ({ state := r.2 } : OpOut).flag ccHfail r.1.isNone with dst := [r.1.getD 0] }
    else { state := s }

/-! ## TOP -/

/-- The three words of a cluster time. -/
def timeWords (t : Time96) : List Word := [time96Word t 0, time96Word t 1, time96Word t 2]

/-- The cluster time of a CCLK edge in the present TCLK period: its TDC bin is a free value (02 R59, log entry 23). -/
def State.cclkStamp (s : State) : Time96 × State :=
  let f := s.fresh 5
  (toTime96 (((s.rgl.time : Int) + f.1.toNat * s.increment / 32) / 2 ^ 24).toNat, f.2)

/-- The bits of CDR_EVSRC that engine e may see (03 R170): those of its phase alarms, and those of the trackers for which it
holds READ. -/
def State.evsrcSeen (s : State) (e : Nat) : Nat :=
  let own := (List.range 16).foldl (fun m k => m + 2 ^ k * bit (s.codeIsEngine (s.get (CDR_PALM_CTL.OWNER k)) e)) 0
  let trk := (List.range 4).foldl (fun m k => m + 2 ^ k * bit ((List.range 16).any fun i =>
    let c := s.cap e i
    capType c == typeTracker && capObj c == k && s.capCurrent c && capHas c rightRead)) 0
  own + 2 ^ 16 * trk + 2 ^ 20 * trk

/-- TMR.RD: whether it is refused, the word read and the state (05 R272, R962, 07 R386, R387, R402). The word of a refused read
is a free value (log entry 27). -/
def State.timerRead (s : State) (e n sel : Nat) (high : Bool) : Bool × Word × State :=
  if high then
    match sel with
    | 0 => (false, s.reg (TMR_CNT e n), s)
    | 1 => (false, s.reg (TMR_WDCTL e), s)
    | 2 => (false, s.reg (TMR_WDPER e), s)
    | 3 => (false, 0, s)
    | _ => (true, (s.fresh 32).1, (s.fresh 32).2)
  else
    match sel with
    | 0 => (false, s.reg (TMR_CTL e n), s)
    | 1 => (false, s.reg (TMR_RELOAD e n), s)
    | 2 => (false, s.reg (TMR_CMP e n), s)
    | 3 => let r := s.captureRead e n true false; (false, r.1, r.2)
    | 4 => let r := s.captureRead e n false false; (false, r.1, r.2)
    | _ => (true, (s.fresh 32).1, (s.fresh 32).2)

/-- TMR.WR: whether TFAIL is set, and the state (05 R272, R962, 07 R360, R381, R395, R402). -/
def State.timerWrite (s : State) (e n sel : Nat) (high : Bool) (v : Word) : Bool × State :=
  if high then
    match sel with
    | 0 => if s.countHeld e n then (true, s) else (false, (s.setReg (TMR_CNT e n) v).put (TMR_CTL.CNTSRC e n) 0)
    | 3 => (false, s.watchdogKick e v)
    | _ => (true, s)
  else
    match sel with
    | 0 => (timerCtlHeld n (s.reg (TMR_CTL e n)) v, s.timerCtlWrite e n true v)
    | 1 => (false, s.setReg (TMR_RELOAD e n) v)
    | 2 => (false, s.setReg (TMR_CMP e n) v)
    | _ => (true, s)

/-- PH.ARM by an engine: target, mode and table written and the alarm armed; on an armed alarm nothing changes but WERR (03
R157). Whether it is refused. -/
def State.enginePalmArm (s : State) (m mode table : Nat) (cyc frac : Word) : Bool × State :=
  if s.on (CDR_PALM_CTL.ARM m) then (true, s.put (CDR_PALM_CTL.WERR m) 1)
  else
    let t := (s.setReg (CDR_PALM_CYC m) cyc).setReg (CDR_PALM_FRAC m) frac
    ((t.put (CDR_PALM_CTL.MODE m) mode).put (CDR_PALM_CTL.TABLE m) table).palmArm m

/-- DISC.STEP: RGL_STEP_SEC, RGL_STEP_FRAC and the commit, with their records (00 R12). Whether the commit is accepted. -/
def State.discStep (s : State) (e : Fin 12) (x : Args) : Bool × State :=
  let o := Origin.engine e
  let t := (s.takeDiscipline o RGL_STEP_SEC x.b0).takeDiscipline o RGL_STEP_FRAC x.b2
  let r := t.commitStep o x.b1
  (r.1, ((r.2.logWrite o RGL_STEP_SEC x.b0 false 0).logWrite o RGL_STEP_FRAC x.b2 false 0).logWrite o RGL_STEP x.b1 (!r.1) 0)

/-- The engine as an origin. -/
def engineOrigin (e : Nat) : Origin := .engine (Fin.ofNat 12 e)

/-- An operation that writes TFAIL. -/
def topOut (s : State) (fails : Bool) (dst : List Word := []) : OpOut :=
  { state := s, dst, mask := 2 ^ ccTfail, flags := 2 ^ ccTfail * bit fails }

/-- The TOP operation at e(N) (05 R272, R273). -/
def State.timeOut (s : State) (x : Args) : OpOut :=
  let n := x.alarm
  let m := x.palm
  let k := capObj x.c
  let o := engineOrigin x.e
  match x.w.top with
  | 0x01 => let r := s.cclkStamp; { state := r.2, dst := timeWords r.1 }
  | 0x02 =>
    let a := (s.bank x.e x.l).rx
    if a = 0 then topOut s true [0, 0, 0]
    else match s.plateRead (0x10 + x.e) (a + 16) 12 with
      | (some bs, t) => topOut t false (timeWords (time96OfWords (descWord bs 0) (descWord bs 1) (descWord bs 2)))
      | (none, t) => { state := t, ecc := true }
  | 0x03 =>
    let r := s.cclkStamp
    { state := r.2, dst := timeWords r.1 ++ [BitVec.ofNat 32 (s.get RGL_QUAL.STATE + 8 * s.get RGL_STAT.SLEWING)] }
  | 0x04 => let r := s.engineAlarmArm n (fieldOf x.a 6 5) (time96OfWords x.b0 x.b1 x.b2); topOut r.2 (!r.1)
  | 0x05 => let r := s.engineAlarmSet n (time96OfWords x.b0 x.b1 x.b2); topOut r.2 (!r.1)
  | 0x06 => topOut ((s.alarmSettle n).alarmDisarm n) false
  | 0x07 => topOut (s.setReg (RGL_ALM_CTL n) (s.reg (RGL_ALM_CTL n) &&& ~~~(x.b &&& 0x38))) false [s.reg (RGL_ALM_CTL n)]
  | 0x08 => let r := s.enginePalmArm m (fieldOf x.a 5 4) (fieldOf x.a 8 6) x.b0 x.b1; topOut r.2 r.1
  | 0x09 => if s.on (CDR_PALM_CTL.ARM m) then topOut (s.put (CDR_PALM_CTL.WERR m) 1) true
      else topOut (s.setReg (CDR_PALM_PER m) x.b) false
  | 0x0A => topOut (s.put (CDR_PALM_CTL.ARM m) 0) false
  | 0x0B => topOut s.phaseSnapshot false
      [BitVec.ofNat 32 (s.phase k), BitVec.ofNat 32 (s.phase k / 2 ^ 32), s.reg (CDR_FREQ k)]
  | 0x0C => topOut (s.phaseFeed k x.a.toInt (fieldOf x.b 31 16) (fieldOf x.b 14 0) (bitAt x.b 15)) false
  | 0x0D =>
    let seen : Word := BitVec.ofNat 32 (s.evsrcSeen x.e)
    topOut (s.setReg CDR_EVSRC (s.reg CDR_EVSRC &&& ~~~(seen &&& x.b))) false [s.reg CDR_EVSRC &&& seen]
  | 0x0E => let r := s.timerRead x.e x.timer (fieldOf x.a 6 4) (bitAt x.a 7); topOut r.2.2 r.1 [r.2.1]
  | 0x0F => let r := s.timerWrite x.e x.timer (fieldOf x.a 6 4) (bitAt x.a 7) x.b; topOut r.2 r.1
  | 0x10 =>
    let n := if s.timerHigh x.e x.timer then x.timer - 1 else x.timer
    let r := match (s.timer x.e n).latched with
      | some c => (c, s)
      | none => s.timerLatch x.e n
    topOut ((r.2.timerPutLatch x.e n r.1).dropLatches x.e (List.range 4)) false
  | 0x11 => let r := s.timerParm x.e x.timer k (x.b0.toNat * 2 ^ 32 + x.b1.toNat); topOut r.2 (!r.1)
  | 0x12 => topOut ((s.writeRate o x.b).logWrite o RGL_RATE x.b false 0) false
  | 0x13 => let r := s.discStep (Fin.ofNat 12 x.e) x; topOut r.2 (!r.1)
  | 0x14 => let r := s.writeQuality o x.b; topOut (r.2.logWrite o RGL_QUAL x.b (!r.1) 0) (!r.1)
  | _ => { state := s }

/-! ## EVT and PIN -/

/-- The pending state of 32 vector lines from line n. -/
def State.pendingWord (s : State) (e n : Nat) : Word :=
  (List.range 32).foldl (fun w i => if s.vectorPending e (n + i) then fieldSet w i i 1 else w) 0

/-- CLAIM by engine e at level l (08 R421, R422): over the win of a CLAIM of the same edge by a higher-numbered engine it prevails, and
that one sets EFAIL. -/
def State.claimFor (s : State) (e l : Nat) : Bool × State :=
  match s.ticked.claims.find? fun c => c.others.contains (8 * e + l) && decide (e < c.eng) with
  | none => s.claim e l
  | some c =>
    let t := s.setBank c.eng c.level { s.bank c.eng c.level with cc := (s.bank c.eng c.level).cc ||| 2 ^ ccEfail }
    (true, { t with tick := { s.ticked with
      claims := { eng := e, level := l, others := (8 * c.eng + c.level) :: c.others } :: s.ticked.claims.filter (· != c) } })

/-- The EVT operation at e(N) (05 R274). -/
def State.evtOut (s : State) (x : Args) : OpOut :=
  match x.w.evt with
  | 0x01 => let r := s.claimFor x.e x.l; ({ state := r.2 } : OpOut).flag ccEfail (!r.1)
  | 0x02 => { state := s.setVector x.e (fieldOf x.a 5 0) }
  | 0x03 => { state := s.clearVector x.e (fieldOf x.a 5 0) }
  | 0x04 => { state := s.put (ENG_PRI.GMASK x.e) 1 }
  | 0x05 => { state := s.put (ENG_PRI.GMASK x.e) 0 }
  | 0x06 => { state := s, dst := [s.pendingWord x.e 0] }
  | 0x07 => { state := s, dst := [s.pendingWord x.e 32] }
  | _ => { state := s }

/-- The PIN operation at e(N) (05 R275, 12 R625, R637, R639, R650). -/
def State.pinOut5 (s : State) (x : Args) : OpOut :=
  let v := capObj x.c
  match x.w.pin with
  | 0x1 => let r := s.vernierPush v x.b; ({ state := r.2 } : OpOut).flag ccPfail (!r.1)
  | 0x2 => let r := s.vernierPull v; { ({ state := r.2 } : OpOut).flag ccPfail r.1.isNone with dst := [r.1.getD 0] }
  | 0x3 => { state := s, dst := [s.reg (VRN_STAT v)] }
  | 0x4 => { state := s.vernierFlags v true true (fieldOf x.b 7 0) }
  | 0x5 => { state := s.vernierFlags v true false (fieldOf x.b 7 0) }
  | 0x6 => { state := s.vernierRestart v }
  | 0x7 => { state := s.vernierStop v }
  | 0x8 => { state := s, dst := [BitVec.ofNat 32 (bit (s.pinLevel v))] }
  | 0x9 => { state := s.pinWrite x.e v (bitAt x.b 0) }
  | _ => { state := s }

/-! ## Bulk completion -/

/-- The response to an engine's transaction (04 R213 to R215). Its plate accesses wait for the end of an open locked sequence
(R219). After an ERROR the bytes that the response brought have been written, none while a sequence is open: a part of the range. -/
def State.engineBulkDone (s : State) (e t : Nat) (b : BulkTag) (error : Bool) (data : List Byte) : State :=
  if b.discard then { s with bulk := tdrop (16 * e + t) s.bulk }
  else match b.use with
    | .engineRead a n =>
      if !b.bytes.isEmpty || (!error && data.length != n) then s
      else if s.lockOpen e then (if error then s.tagDone e t true else s.putBulk (16 * e + t) { b with bytes := data })
      else s.bulkReadIn e t a b.keep error (data.take n)
    | .engineWrite a n => if b.bytes.isEmpty then s else (s.sawRead e a n).tagDone e t error
    | _ => s

/-- A response of the bulk port to tag `tag`: an engine's, or a transfer of the queue manager. -/
def State.bulkResponse (s : State) (tag : Nat) (error : Bool) (data : List Byte) : State :=
  match tfind s.bulk tag with
  | none => s
  | some b =>
    if b.use = .loader then ({ s with bulk := tdrop tag s.bulk }).issueWaiting
    else if tag < 0xC0 then s.engineBulkDone (tag / 16) (tag % 16) b error data
    else match b.use with
      | .spillWrite _ => ({ s with bulk := tdrop tag s.bulk }.transferDone b error data).issueWaiting
      | .spillRead _ k =>
        if !error && data.length != 32 * k then s
        else ({ s with bulk := tdrop tag s.bulk }.transferDone b error data).issueWaiting
      | _ => if b.discard then { s with bulk := tdrop tag s.bulk } else s

end Sys2Proof.Machine
end

