-- ==== Sys2Proof/Machine/Numbers.lean ====
section
/-! DEFINITION. The Lens number formats: binary32 (04 R195), Q31.32 (04 R196) and the bounds of a CORDIC vectoring (04 R199). -/

namespace Sys2Proof.Machine

/-! Lens flags, by their bit in `ENG_LENS.LSTAT` (04 R200). -/

def lensNV : Nat := 1
def lensDZ : Nat := 2
def lensOF : Nat := 4
def lensSAT : Nat := 8

/-! ## binary32 -/

/-- A binary32 value: not a number (`invalid` when it comes of an invalid operation or a signalling operand), an infinity, or
the number m·2^e with its sign. -/
inductive Real32 where
  | nan (invalid : Bool)
  | inf (neg : Bool)
  | num (neg : Bool) (m : Nat) (e : Int)
  deriving DecidableEq, Repr

/-- The value of a binary32 word; a subnormal is a zero of its sign (04 R195). -/
def real32 (w : Word) : Real32 :=
  let neg := w.msb
  let ex := fieldOf w 30 23
  let fr := fieldOf w 22 0
  if ex = 255 then (if fr = 0 then .inf neg else .nan (!bitAt w 22))
  else if ex = 0 then .num neg 0 0
  else .num neg (fr + 2 ^ 23) ((ex : Int) - 150)

/-- A product. -/
def Real32.mul : Real32 → Real32 → Real32
  | .nan a, .nan b => .nan (a || b)
  | .nan a, _ => .nan a
  | _, .nan b => .nan b
  | .inf a, .inf b => .inf (a != b)
  | .inf a, .num b m _ => if m = 0 then .nan true else .inf (a != b)
  | .num b m _, .inf a => if m = 0 then .nan true else .inf (a != b)
  | .num a m e, .num b n f => .num (a != b) (m * n) (e + f)

/-- A value with its sign changed. -/
def Real32.neg : Real32 → Real32
  | .nan a => .nan a
  | .inf a => .inf (!a)
  | .num a m e => .num (!a) m e

/-- A signed mantissa. -/
def signedOf (neg : Bool) (m : Nat) : Int := if neg then -(m : Int) else m

/-- A sum, exact; a zero sum is negative only if both terms are. -/
def Real32.add : Real32 → Real32 → Real32
  | .nan a, .nan b => .nan (a || b)
  | .nan a, _ => .nan a
  | _, .nan b => .nan b
  | .inf a, .inf b => if a = b then .inf a else .nan true
  | .inf a, _ => .inf a
  | _, .inf b => .inf b
  | .num a m e, .num b n f =>
    let g := min e f
    let v := signedOf a (m * 2 ^ (e - g).toNat) + signedOf b (n * 2 ^ (f - g).toNat)
    .num (if v = 0 then a && b else decide (v < 0)) v.natAbs g

/-- A quotient, with a last bit that says whether it is inexact, and whether a finite number was divided by zero. -/
def Real32.div : Real32 → Real32 → Real32 × Bool
  | .nan a, .nan b => (.nan (a || b), false)
  | .nan a, _ => (.nan a, false)
  | _, .nan b => (.nan b, false)
  | .inf _, .inf _ => (.nan true, false)
  | .inf a, .num b _ _ => (.inf (a != b), false)
  | .num a _ _, .inf b => (.num (a != b) 0 0, false)
  | .num a m e, .num b n f =>
    if n = 0 then (if m = 0 then (.nan true, false) else (.inf (a != b), true))
    else
      let q := m * 2 ^ 64 / n
      (.num (a != b) (2 * q + bit (m * 2 ^ 64 % n != 0)) (e - f - 65), false)

/-- A square root, with a last bit that says whether it is inexact. -/
def Real32.sqrt : Real32 → Real32
  | .nan a => .nan a
  | .inf a => if a then .nan true else .inf false
  | .num a m e =>
    if m = 0 then .num a 0 0
    else if a then .nan true
    else
      let odd := (e % 2).toNat
      let n := m * 2 ^ (64 + odd)
      let r := rootBits 2 n 48 0
      .num false (2 * r + bit (r * r != n)) ((e - 64 - odd) / 2 - 1)

/-- The number rounded to binary32, to nearest with ties to even; a subnormal result is a zero of its sign (04 R195). Whether
it overflowed. -/
def roundNum (neg : Bool) (m : Nat) (e : Int) : Word × Bool :=
  let sign : Nat := if neg then 2 ^ 31 else 0
  if m = 0 then (BitVec.ofNat 32 sign, false)
  else
    let q := max (e + (Nat.log2 m : Int) + 1 - 24) (-149)
    let mant :=
      if q ≤ e then m * 2 ^ (e - q).toNat
      else
        let d := (q - e).toNat
        let t := m / 2 ^ d
        let rem := m % 2 ^ d
        if rem * 2 > 2 ^ d ∨ (rem * 2 = 2 ^ d ∧ t % 2 = 1) then t + 1 else t
    let up : Bool := mant == 2 ^ 24
    let mant := if up then 2 ^ 23 else mant
    let ex := q + 150 + (bit up : Nat)
    if mant < 2 ^ 23 then (BitVec.ofNat 32 sign, false)
    else if 255 ≤ ex then (BitVec.ofNat 32 (sign + 255 * 2 ^ 23), true)
    else (BitVec.ofNat 32 (sign + ex.toNat * 2 ^ 23 + (mant - 2 ^ 23)), false)

/-- The binary32 word of a value with its flags; a NaN is quiet, its sign and payload the free bits (log entry 16). -/
def Real32.word (free : BitVec 23) : Real32 → Word × Nat
  | .nan inv => (BitVec.ofNat 32 ((free.extractLsb' 22 1).toNat * 2 ^ 31 + 0x7FC00000 + (free.extractLsb' 0 22).toNat),
                 if inv then lensNV else 0)
  | .inf neg => (BitVec.ofNat 32 ((if neg then 2 ^ 31 else 0) + 0x7F800000), 0)
  | .num neg m e => let r := roundNum neg m e; (r.1, if r.2 then lensOF else 0)

/-! ## Q31.32 -/

/-- A Q31.32 value in units of 2^-32. -/
def qInt (v : DWord) : Int := v.toInt

/-- A value in units of 2^-32 as Q31.32, saturated (04 R196), with its flags. -/
def qOf (v : Int) : DWord × Nat :=
  (BitVec.ofInt 64 (clampInt (-(2 ^ 63)) (2 ^ 63 - 1) v),
   if v < -(2 ^ 63) ∨ 2 ^ 63 ≤ v then lensSAT else 0)

/-- A product in units of 2^-64 rounded to units of 2^-32, to nearest with ties away from zero (04 R196). -/
def qRound (p : Int) : Int := signedOf (decide (p < 0)) ((p.natAbs + 2 ^ 31) / 2 ^ 32)

/-- A Q31.32 product, rounded. -/
def qMul (a b : DWord) : Int := qRound (qInt a * qInt b)

/-- A binary32 value converted to Q31.32, to nearest with ties to even; an infinity saturates, a NaN gives the free bits
(log entry 16). -/
def qOfReal (free : DWord) : Real32 → DWord × Nat
  | .nan _ => (free, lensNV)
  | .inf neg => qOf (if neg then -(2 ^ 64) else 2 ^ 64)
  | .num neg m e =>
    let k := e + 32
    if 0 ≤ k then qOf (signedOf neg (m * 2 ^ k.toNat))
    else
      let d := (-k).toNat
      let t := m / 2 ^ d
      let rem := m % 2 ^ d
      qOf (signedOf neg (if rem * 2 > 2 ^ d ∨ (rem * 2 = 2 ^ d ∧ t % 2 = 1) then t + 1 else t))

/-- A Q31.32 value as a number. -/
def realOfQ (v : DWord) : Real32 := .num v.msb (qInt v).natAbs (-32)

/-! ## The bounds of a CORDIC vectoring -/

/-- arctan(2^-k) in units of 2^-48 turn, k = 0 to 47, rounded to nearest. -/
def arctanTurns : List Nat := [
  35184372088832, 20770547670515, 10974586953444, 5570871696862, 2796246208089, 1399486241028, 699913886760, 349978300884,
  174991820497, 87496244017, 43748163730, 21874087080, 10937044192, 5468522177, 2734261099, 1367130551,
  683565276, 341782638, 170891319, 85445659, 42722830, 21361415, 10680707, 5340354,
  2670177, 1335088, 667544, 333772, 166886, 83443, 41722, 20861,
  10430, 5215, 2608, 1304, 652, 326, 163, 81,
  41, 20, 10, 5, 3, 1, 1, 0]

/-- The angle of a vector with x ≥ 0 turned towards the x axis through the arctangents of a list, in units of 2^-48 turn. -/
def angleLoop : List Nat → Nat → Int → Int → Int → Int
  | [], _, _, _, z => z
  | t :: ts, k, x, y, z =>
    if 0 ≤ y then angleLoop ts (k + 1) (x + y / 2 ^ k) (y - x / 2 ^ k) (z + t)
    else angleLoop ts (k + 1) (x - y / 2 ^ k) (y + x / 2 ^ k) (z - t)

/-- The angle of a vector other than zero in units of 2^-48 turn, modulo one turn, to within a few units. -/
def angleOf (x y : Int) : Nat :=
  let sx := x * 2 ^ 64
  let sy := y * 2 ^ 64
  unsigned 48 (if x < 0 then angleLoop arctanTurns 0 (-sx) (-sy) 0 + 2 ^ 47 else angleLoop arctanTurns 0 sx sy 0)

/-- The vector turned through an angle of z units of 2^-48 turn, |z| at most a quarter turn, by the arctangents of a list, with their
gain. -/
def turnLoop : List Nat → Nat → Int → Int → Int → Int × Int
  | [], _, x, y, _ => (x, y)
  | t :: ts, k, x, y, z =>
    if 0 ≤ z then turnLoop ts (k + 1) (x - y / 2 ^ k) (y + x / 2 ^ k) (z - t)
    else turnLoop ts (k + 1) (x + y / 2 ^ k) (y - x / 2 ^ k) (z + t)

/-- 0.607252935008881256… in units of 2^-64: the product of 1/√(1 + 2^-2k), k = 0 to 47. -/
def cordicGain : Nat := 11201839480117811816

/-- The vector (x, y) rotated by z units of 2^-32 turn, counted from the x axis towards the y axis, to within a few units of the last
place: the gain of the 48 turns, 1/0.607252935008881256…, is taken out in units of 2^-64. -/
def rotated (x y : Int) (z : Nat) : Int × Int :=
  let far := decide (2 ^ 30 ≤ z) && decide (z < 3 * 2 ^ 30)
  let s : Int := if far then -(2 ^ 64) else 2 ^ 64
  let r := turnLoop arctanTurns 0 (x * s) (y * s) (signed 32 (if far then z + 2 ^ 31 else z) * 65536)
  let out (v : Int) : Int := (v * cordicGain + 2 ^ 127) / 2 ^ 128
  (out r.1, out r.2)

/-- An angle whose error is at most 4·2^-32 turn (04 R199). -/
def angleGood (a : Word) (x y : Int) : Bool :=
  let d := signed 48 (unsigned 48 ((a.toNat * 65536 : Nat) - (angleOf x y : Int)))
  decide (d.natAbs ≤ 4 * 65536)

/-- A magnitude, in units of 2^-32, whose relative error is at most 2^-30 (04 R199): 2^60·(m^2 - r^2) lies within
(2^31 ± 1)·r^2 of zero, on either side, for r^2 = x^2 + y^2. -/
def magnitudeGood (m : Nat) (x y : Int) : Bool :=
  let r2 := x.natAbs * x.natAbs + y.natAbs * y.natAbs
  decide ((2 ^ 30 - 1) * (2 ^ 30 - 1) * r2 ≤ 2 ^ 60 * (m * m)) && decide (2 ^ 60 * (m * m) ≤ (2 ^ 30 + 1) * (2 ^ 30 + 1) * r2)

/-- The nearest Q31.32 magnitude below or at the true one. -/
def magnitudeOf (x y : Int) : Nat := rootBits 2 (x.natAbs * x.natAbs + y.natAbs * y.natAbs) 65 0

end Sys2Proof.Machine
end

