-- ==== Sys2Proof/Machine/LensOps.lean ====
section
/-! DEFINITION. The Lens operations: their results, flags and latencies (04 R195 to R200, 05 R276 to R280), the elements of the
vector operations and of CROT and CVEC (06 R326). -/

namespace Sys2Proof.Machine

/-- The halves of a packed complex or of a 64-bit word. -/
def loWord (v : DWord) : Word := v.extractLsb' 0 32
def hiWord (v : DWord) : Word := v.extractLsb' 32 32

/-- A binary32 result in a Lens register: [63:32] are 0. -/
def scalar (r : Word × Nat) : DWord × Nat := (r.1.setWidth 64, r.2)

/-- c + a·b in binary32, rounded once. -/
def fmaWord (free : BitVec 23) (c a b : Word) : Word × Nat := (((real32 a).mul (real32 b)).add (real32 c)).word free

/-- c + a·b in packed complex binary32, each component rounded once (log entry 28). -/
def cfmaWord (free : BitVec 64) (c a b : DWord) : DWord × Nat :=
  let p (x y : Word) : Real32 := (real32 x).mul (real32 y)
  let re := (((p (loWord a) (loWord b)).add (p (hiWord a) (hiWord b)).neg).add (real32 (loWord c))).word (free.extractLsb' 0 23)
  let im := (((p (loWord a) (hiWord b)).add (p (hiWord a) (loWord b))).add (real32 (hiWord c))).word (free.extractLsb' 32 23)
  (im.1 ++ re.1, re.2 ||| im.2)

/-- LDK's constants (05 R278). -/
def lensConstant : Nat → DWord
  | 1 => 0x0000000100000000
  | 2 => 0xFFFFFFFF00000000
  | 3 => 0x0000000080000000
  | 4 => 0x000000003F800000
  | 5 => 0x000000003F000000
  | 6 => 0x0000000040000000
  | 7 => 0x0000000080000000
  | _ => 0

/-- The ticks after e(N) at which an operation writes its destination (04 R197). -/
def lensLatency (op : Nat) : Nat :=
  match op with
  | 0x08 => 2
  | 0x09 => 2
  | 0x0A => 5
  | 0x10 => 1
  | 0x11 => 1
  | 0x14 => 2
  | 0x15 => 2
  | 0x16 => 2
  | 0x17 => 3
  | 0x18 => 11
  | 0x19 => 13
  | 0x1A => 4
  | _ => 0

/-- The result of a Lens operation that is not resumable, from La, Lb, Lc, La+1, Lb+1, Lc+1 and free bits: the registers written
and the flags (05 R277). QMAC and QCMAC round each product and saturate the sum once (log entry 28). -/
def lensResult (w : Micro) (free : BitVec 64) (a b c a1 b1 c1 : DWord) : List (Nat × DWord) × Nat :=
  let one (r : DWord × Nat) : List (Nat × DWord) × Nat := ([(w.ld, r.1)], r.2)
  let nan : BitVec 23 := free.extractLsb' 0 23
  let ra := real32 (loWord a)
  let rb := real32 (loWord b)
  match w.lens with
  | 0x01 => one (qOf (qInt a + qInt b))
  | 0x02 => one (qOf (qInt a - qInt b))
  | 0x04 => one (a, 0)
  | 0x05 => one (qOf (-(qInt a)))
  | 0x06 => one (qOf ((qInt a).natAbs : Nat))
  | 0x07 => one (lensConstant w.la, 0)
  | 0x08 => one (qOf (qMul a b))
  | 0x09 => one (qOf (qInt c + qMul a b))
  | 0x0A =>
    let re := qOf (qInt c + qMul a b - qMul a1 b1)
    let im := qOf (qInt c1 + qMul a b1 + qMul a1 b)
    ([(w.ld, re.1), (w.ld + 1, im.1)], re.2 ||| im.2)
  | 0x10 => one (qOfReal free ra)
  | 0x11 => one (scalar ((realOfQ a).word nan))
  | 0x14 => one (scalar ((ra.add rb).word nan))
  | 0x15 => one (scalar ((ra.add rb.neg).word nan))
  | 0x16 => one (scalar ((ra.mul rb).word nan))
  | 0x17 => one (scalar (fmaWord nan (loWord c) (loWord a) (loWord b)))
  | 0x18 =>
    let q := ra.div rb
    let r := q.1.word nan
    one (r.1.setWidth 64, if q.2 then lensDZ else r.2)
  | 0x19 => one (scalar (ra.sqrt.word nan))
  | 0x1A => one (cfmaWord free c a b)
  | _ => ([], 0)

/-- An operation that may give a NaN draws a free value. -/
def lensDraws (op : Nat) : Bool := codeIn 0x10 0x2A op

/-- The free bits of an operation, and the state after drawing them. -/
def State.lensFree (s : State) (op : Nat) : BitVec 64 × State := if lensDraws op then s.fresh 64 else (0, s)

/-- The result of microword w's Lens operation on the Lens registers of `pre`, and the state after its free bits are drawn. -/
def State.lensOut (s pre : State) (e : Nat) (w : Micro) : (List (Nat × DWord) × Nat) × State :=
  let f := s.lensFree w.lens
  (lensResult w f.1 (pre.lensReg e w.la) (pre.lensReg e w.lb) (pre.lensReg e w.lc) (pre.lensReg e (w.la + 1))
    (pre.lensReg e (w.lb + 1)) (pre.lensReg e (w.lc + 1)), f.2)

/-- LCMP: Z, N, C and V from the comparison of La and Lb (05 R255). -/
def State.lensCompare (s : State) (e : Nat) (w : Micro) : Nat :=
  bit (s.lensReg e w.la == s.lensReg e w.lb) + 2 * bit (decide (qInt (s.lensReg e w.la) < qInt (s.lensReg e w.lb)))

/-- Flags set in the Lens status; the first enabled one raises the Lens arithmetic fault of the microword that issued the operation
(04 R200, 06 R343, R345); one set while a fault is held changes nothing in it (log entry 90). -/
def State.lensFlags (s : State) (e flags upc l : Nat) : State :=
  let t := s.orBits (ENG_LENS.LSTAT e) flags
  if flags &&& s.get (ENG_CTL.LTRAP e) ≠ 0 ∧ (s.eng e).lensFault.isNone then
    t.setEng e { t.eng e with lensFault := some (upc, l) }
  else t

/-- Completion of a Lens operation: its registers and flags. -/
def State.lensFinish (s : State) (e : Nat) (x : LensOp) : State :=
  (s.setLensRegs e x.writes).lensFlags e x.flags x.upc x.level

/-- A Lens operation issued at e(N): one of latency 0 completes there (05 R280). -/
def State.lensIssue (s : State) (e : Nat) (w : Micro) (result : List (Nat × DWord) × Nat) (upc l : Nat) : State :=
  let x : LensOp := { writes := result.1, flags := result.2, upc, level := l }
  if lensLatency w.lens = 0 then s.lensFinish e x else s.setEng e { s.eng e with op := some x }

/-! ## Elements of the resumable Lens operations -/

/-- One element of a vector operation: Ld with the product of x and y added (05 R277), and the flags. -/
def vectorStep (op : Nat) (free : BitVec 64) (ld x y : DWord) : DWord × Nat :=
  match op with
  | 0x28 => qOf (qInt ld + qMul x y)
  | 0x29 => scalar (fmaWord (free.extractLsb' 0 23) (loWord ld) (loWord x) (loWord y))
  | _ => cfmaWord free ld x y

/-- The result of CVEC within the bounds of 04 R199; the angle of the zero vector, and a magnitude that no value of the format
meets the bound for, are not stated (log entry 29). -/
def vectorResult (x y : DWord) : DWord × DWord × Bool :=
  let r := Config.cordicVector x y
  let xi := qInt x
  let yi := qInt y
  let floor := magnitudeOf xi yi
  let good := fun (m : Nat) => decide (m < 2 ^ 63) && magnitudeGood m xi yi
  let angle : Word := if (xi = 0 ∧ yi = 0) ∨ angleGood r.2 xi yi then r.2 else BitVec.ofNat 32 (angleOf xi yi / 65536)
  let sat := !good r.1.toNat && decide (2 ^ 63 ≤ floor)
  let m : DWord := if sat then BitVec.ofNat 64 (2 ^ 63 - 1)
    else if good r.1.toNat then r.1
    else if good floor then BitVec.ofNat 64 floor
    else if good (floor + 1) then BitVec.ofNat 64 (floor + 1)
    else r.1
  (m, angle.setWidth 64, sat)

/-- The result of CROT (04 R196, R199): the rotated vector within the bound that R199 gives for CVEC, by a free error, each component
saturated (log entry 91). -/
def rotateResult (x y : DWord) (z : Word) : DWord × DWord × Bool :=
  let v := rotated (qInt x) (qInt y) z.toNat
  let limit : Int := (magnitudeOf (qInt x) (qInt y) / 2 ^ 27 + 1 : Nat)
  let err := Config.cordicError x y z
  let a := qOf (v.1 + clampInt (-limit) limit err.1)
  let b := qOf (v.2 + clampInt (-limit) limit err.2)
  (a.1, b.1, (a.2 ||| b.2) != 0)

/-- What CROT or CVEC (`vector`) holds of its operands in Ld, Ld+1 and LRES after k iterations (06 R326; log entry 92): its three values,
and back from them. -/
def cordicHide (vector : Bool) (k : Nat) (v : DWord × DWord × Word) : DWord × DWord × Word :=
  let x := v.1 ^^^ Config.cordicFirst vector k (v.2.1 ++ v.2.2)
  let r := (v.2.1 ++ v.2.2) ^^^ Config.cordicRest vector k x
  (x, r.extractLsb' 32 64, r.extractLsb' 0 32)
def cordicShow (vector : Bool) (k : Nat) (v : DWord × DWord × Word) : DWord × DWord × Word :=
  let r := (v.2.1 ++ v.2.2) ^^^ Config.cordicRest vector k v.1
  (v.1 ^^^ Config.cordicFirst vector k r, r.extractLsb' 32 64, r.extractLsb' 0 32)

/-- The operands of CROT or CVEC with k iterations done: the Lens registers that IMM names, or what the operation holds. Disturbed in
between, it goes on from what it finds (06, caution under R326). -/
def State.cordicOperands (s : State) (e k : Nat) (w : Micro) : DWord × DWord × Word :=
  if k = 0 then (s.lensReg e w.la, s.lensReg e (w.la + 1), if w.lens = 0x20 then loWord (s.lensReg e w.lb) else 0)
  else cordicShow (w.lens == 0x21) k (s.lensReg e w.ld, s.lensReg e (w.ld + 1), (s.eng e).lres)

/-- One iteration of CROT or CVEC, of index k: the running state goes to Ld, Ld+1 and LRES. -/
def State.cordicIterate (s : State) (e k : Nat) (w : Micro) : State :=
  let n := cordicHide (w.lens == 0x21) (k + 1) (s.cordicOperands e k w)
  let t := (s.setLensReg e w.ld n.1).setLensReg e (w.ld + 1) n.2.1
  t.setEng e { t.eng e with lres := n.2.2 }

/-- The end of CROT or CVEC: Ld, Ld+1 and the flag. -/
def State.cordicEnd (s : State) (e l upc : Nat) (w : Micro) : State :=
  let v := s.cordicOperands e 32 w
  let r := if w.lens = 0x20 then rotateResult v.1 v.2.1 v.2.2 else vectorResult v.1 v.2.1
  ((s.setLensReg e w.ld r.1).setLensReg e (w.ld + 1) r.2.1).lensFlags e (if r.2.2 then lensSAT else 0) upc l

/-- LENS_COMPLETE (R197): the operation in flight writes its destination and its flags. -/
def execLensComplete (e : Fin 12) (s : State) : Host.Outcome State Fault Refusal :=
  .next (match (s.eng e).op with
    | some x => if s.engineClock then (s.setEng e { s.eng e with op := none }).lensFinish e x else s
    | none => s)

end Sys2Proof.Machine
end

