-- ==== Sys2Proof/Machine/SaveAreas.lean ====
section
/-! DEFINITION. SAVE.LO and SAVE.HI: parameters, checks, records and sealing (06 R328 to R338, 09 R455, R456). -/

namespace Sys2Proof.Machine

/-- The parameters in IMM (06 R328). -/
def Micro.saves (w : Micro) : Bool := codeIn 0x12 0x13 w.mem
def Micro.saveHi (w : Micro) : Bool := w.mem == 0x13
def Micro.saveLoad (w : Micro) : Bool := bitAt w.imm 0
def Micro.saveLvl (w : Micro) : Nat := fieldOf w.imm 3 1
def Micro.saveAdv (w : Micro) : Bool := bitAt w.imm 4
def Micro.saveSet (w : Micro) : Bool := bitAt w.imm 5

/-- The level that LVL names: 7 for a Lens owner of none. -/
def State.saveLevel (s : State) (e : Nat) (w : Micro) : Nat :=
  match w.saveLvl with
  | 6 => s.get (ENG_XCTX.ILVL e)
  | 7 => s.get (ENG_LENS.OWN e)
  | l => l

/-- A SAVE that is illegal as it stands (06 R329). -/
def State.saveIllegal (s : State) (e : Nat) (w : Micro) : Bool :=
  w.saves && (w.saveLvl == 5 || (w.saveLvl == 6 && s.level e != 4) || (w.saveLvl == 7 && !w.saveHi) ||
    (w.saveLvl == 6 && s.get (ENG_XCTX.ILVL e) == 7))

/-- A SAVE.HI store for the owner that has nothing to save (06 R337). -/
def State.saveIdle (s : State) (e : Nat) (w : Micro) : Bool :=
  w.saveHi && w.saveLvl == 7 && !w.saveLoad && (s.get (ENG_LENS.OWN e) == 7 || !s.bankUsed e (s.get (ENG_LENS.OWN e)))

/-- A SAVE.HI load for the interrupted level that only takes ownership (06 R337). -/
def State.saveOwns (s : State) (e : Nat) (w : Micro) : Bool :=
  w.saveHi && w.saveLvl == 6 && w.saveLoad && !(s.get (ENG_LENS.SAVED e)).testBit (s.get (ENG_XCTX.ILVL e))

/-- The record's address (06 R330, R332). -/
def State.saveRecord (s : State) (x : Args) : Nat :=
  if x.w.saveSet then fieldOf x.a 22 0 else s.get (ENG_SAL.ADDR x.e (s.saveLevel x.e x.w))

/-- An address meets the first three conditions of R331. -/
def State.saveAddrOk (s : State) (e a : Nat) : Bool :=
  let c := s.cap e 16
  a % 512 == 0 && s.ownsRange e a 512 && capType c == typePlate && capHas c (rightRead + rightWrite) && capCovers c a 512

/-- The LINK of a record. -/
def State.saveLink (s : State) (a : Nat) : Nat := ofLeBytes (s.bytes a 4) % 2 ^ 23

/-- The record itself fails the checks of R331. A Lens owner of none has no record (log entry 30). -/
def State.saveRecordBad (s : State) (x : Args) : Bool :=
  s.saveLevel x.e x.w == 7 || !s.saveAddrOk x.e (s.saveRecord x) || !s.capCurrent (s.cap x.e 16)

/-- The checks of R331 fail: the record's, or those of the LINK that ADV takes. -/
def State.saveLinkBad (s : State) (x : Args) : Bool :=
  s.saveRecordBad x || (x.w.saveAdv && !s.saveAddrOk x.e (s.saveLink (s.saveRecord x)))

/-- A SAVE transfers a record, with the checks of R331. -/
def State.saveActs (s : State) (x : Args) : Bool := x.w.saves && !s.saveIdle x.e x.w && !s.saveOwns x.e x.w

/-- The seal of C[k] in a record (09 R455). -/
def State.seal (s : State) (e k a : Nat) (c : CapWord) : Nat :=
  ofBeBytes ((cmac (beBytes 16 s.bootKey.toNat) (leBytes 14 (c.toNat % 2 ^ 112) ++ leBytes 4 a ++ leBytes 1 e ++ leBytes 1 k)).take 2)

/-- The 16 bytes of a capability as stored: sealed, a null one as zeros. -/
def State.sealedBytes (s : State) (e k a : Nat) (c : CapWord) : List Byte :=
  if capType c = 0 then leBytes 16 0 else leBytes 16 (c.toNat % 2 ^ 112 + 2 ^ 112 * s.seal e k a c)

/-- C8 + i as a record holds it. -/
def State.storedCap (s : State) (a i : Nat) : CapWord := BitVec.ofNat 128 (ofLeBytes (s.bytes (a + 0x60 + 16 * i) 16))

/-- A stored capability fails its seal check (09 R456). -/
def State.sealBad (s : State) (e a i : Nat) : Bool :=
  let c := s.storedCap a i
  capType c != 0 && capSeal c != s.seal e (8 + i) a c

/-- A capability loaded from a record: without its seal, a null one all zeros. -/
def State.loadedCap (s : State) (a i : Nat) : CapWord :=
  let c := s.storedCap a i
  if capType c = 0 then 0 else BitVec.ofNat 128 (c.toNat % 2 ^ 112)

/-- The bytes of the record that a load reads. -/
def saveReads (hi : Bool) : Nat × Nat := if hi then (0x100, 0x48) else (0x10, 0xD0)

/-- A load's seal check fails (06 R334). -/
def State.saveSealBad (s : State) (x : Args) : Bool :=
  s.saveActs x && !s.saveRecordBad x && x.w.saveLoad && !x.w.saveHi && !s.uncorrectable (s.saveRecord x + 0x10) 0xD0 &&
    (List.range 8).any (s.sealBad x.e (s.saveRecord x))

/-- A load into a bank in use that is not the running one (06 R335). -/
def State.saveBankBusy (s : State) (x : Args) : Bool :=
  s.saveActs x && x.w.saveLoad && !x.w.saveHi && s.saveLevel x.e x.w != s.level x.e && s.bankUsed x.e (s.saveLevel x.e x.w)

/-- The low part of a record from the bank of level l, without HDR: r0 to r15, condition codes, link register and loop counter,
and ENG_PROG, each with its offset; then the sealed capabilities (06 R330). -/
def State.lowPart (s : State) (e l a : Nat) : List (Nat × List Byte) :=
  let x := s.bank e l
  [(0x10, (List.range 16).flatMap fun i => leBytes 4 (s.gpr e l i).toNat),
   (0x50, leBytes 4 x.cc.toNat ++ leBytes 4 (x.link.toNat + 65536 * x.lcnt.toNat)),
   (0x58, leBytes 4 (s.reg (ENG_PROG e l)).toNat),
   (0x60, (List.range 8).flatMap fun i => s.sealedBytes e (8 + i) a (s.cap e (8 + i)))]

/-- The high part of a record (06 R330). -/
def State.highPart (s : State) (e : Nat) : List (Nat × List Byte) :=
  [(0x100, (List.range 8).flatMap fun j => leBytes 8 (s.lensReg e j).toNat),
   (0x140, leBytes 4 (s.get (ENG_LENS.LSTAT e)) ++ leBytes 4 (s.eng e).lres.toNat)]

/-- HDR after a store (06 R330). -/
def headerAfter (old : Nat) (hi : Bool) (l : Nat) : Nat :=
  (if hi then old % 8 + 16 * l else l + old / 16 % 8 * 16) + (old / 65536 + 1) % 65536 * 65536

/-- Parts of a record written. The Bool says that no uncorrectable error was met. -/
def State.saveWrites (s : State) (e a : Nat) (suppressed : Bool) : List (Nat × List Byte) → Bool × State
  | [] => (true, s)
  | (off, bs) :: r =>
    let t := s.engWrite e (a + off) bs suppressed
    let u := t.2.saveWrites e a suppressed r
    (t.1 && u.1, u.2)

/-- ENG_SAL after SET and ADV (06 R328). -/
def State.saveAdvance (s : State) (x : Args) (l a link : Nat) : State :=
  if x.w.saveAdv then s.put (ENG_SAL.ADDR x.e l) link
  else if x.w.saveSet then s.put (ENG_SAL.ADDR x.e l) a
  else s

/-- The words of a record that a SAVE reads, LINK first where it needs it: none at an uncorrectable error. -/
def State.saveRead (s : State) (x : Args) (a off n : Nat) : Option (List Byte) × State :=
  if x.w.saveAdv then
    match s.engRead x.e a 4 with
    | (none, t) => (none, t)
    | (some _, t) => t.engRead x.e (a + off) n
  else s.engRead x.e (a + off) n

/-- A store at e(N) (06 R332, R333, R336), with the values of `pre`. -/
def State.saveStore (s pre : State) (x : Args) : OpOut :=
  let l := pre.saveLevel x.e x.w
  let a := pre.saveRecord x
  match s.saveRead x a 4 4 with
  | (none, t) => { state := t, ecc := true }
  | (some h, t) =>
    let parts := (4, leBytes 4 (headerAfter (ofLeBytes h) x.w.saveHi l)) ::
      (if x.w.saveHi then pre.highPart x.e else pre.lowPart x.e l a)
    let r := t.saveWrites x.e a (s.suppresses x.e x.w) parts
    let u := r.2.saveAdvance x l a (pre.saveLink a)
    let u := if x.w.saveHi then
        let v := u.orBits (ENG_LENS.SAVED x.e) (2 ^ l)
        if pre.get (ENG_LENS.OWN x.e) = l then v.put (ENG_LENS.OWN x.e) 7 else v
      else u
    { state := u, ecc := !r.1 }

/-- r0 to r15 of a bank from the bytes of a record. -/
def State.loadGprs (s : State) (e l : Nat) : List Nat → List Word → State
  | i :: is, v :: vs => (s.setGpr e l i v).loadGprs e l is vs
  | _, _ => s

/-- C8 to C15 from a record. -/
def State.loadCaps (s pre : State) (e a : Nat) : List Nat → State
  | [] => s
  | i :: is => (s.setCap e (8 + i) (pre.loadedCap a i)).loadCaps pre e a is

/-- L0 to L7 from the bytes of a record. -/
def State.loadLens (s pre : State) (e a : Nat) : List Nat → State
  | [] => s
  | j :: js => (s.setLensReg e j (BitVec.ofNat 64 (ofLeBytes (pre.bytes (a + 0x100 + 8 * j) 8)))).loadLens pre e a js

/-- A load at e(N) (06 R332, R333, R336). -/
def State.saveLoadOut (s pre : State) (x : Args) : OpOut :=
  let l := pre.saveLevel x.e x.w
  let a := pre.saveRecord x
  let part := saveReads x.w.saveHi
  match s.saveRead x a part.1 part.2 with
  | (none, t) => { state := t, ecc := true }
  | (some bs, t) =>
    let word := fun (off : Nat) => descWord (bs.drop (off - part.1)) 0
    let t := t.saveAdvance x l a (pre.saveLink a)
    if x.w.saveHi then
      let u := t.loadLens pre x.e a (List.range 8)
      let u := (u.put (ENG_LENS.LSTAT x.e) (fieldOf (word 0x140) 3 0)).setEng x.e { u.eng x.e with lres := word 0x144 }
      { state := (u.clearBits (ENG_LENS.SAVED x.e) (2 ^ l)).put (ENG_LENS.OWN x.e) l }
    else
      let u := t.loadGprs x.e l (List.range 16) (wordsOf (bs.take 64))
      let u := u.setBank x.e l { u.bank x.e l with
        cc := (word 0x50).extractLsb' 0 10, link := (word 0x54).extractLsb' 0 13, lcnt := (word 0x54).extractLsb' 16 16 }
      { state := (u.setReg (ENG_PROG x.e l) (word 0x58)).loadCaps pre x.e a (List.range 8) }

/-- The SAVE operation at e(N). -/
def State.saveOut (s pre : State) (x : Args) : OpOut :=
  if !x.w.saves || pre.saveIdle x.e x.w then { state := s }
  else if pre.saveOwns x.e x.w then { state := s.put (ENG_LENS.OWN x.e) (pre.saveLevel x.e x.w) }
  else if x.w.saveLoad then s.saveLoadOut pre x
  else s.saveStore pre x

/-- A microword waits for the Lens operation in flight (04 R198): it issues one, or reads or writes a register that the operation will
write. -/
def State.lensInterlock (s : State) (e : Nat) (w : Micro) : Bool :=
  match (s.eng e).op with
  | none => false
  | some x =>
    let meets := fun (acts : Bool) (c : Nat) => acts && lensHalf c && x.writes.any fun p => p.1 == halfReg c
    w.lens != 0 || (w.mem == 0x13 && !s.saveIdle e w && !s.saveOwns e w) || meets w.readsA w.asrc || meets w.readsB w.bsrc ||
      meets w.writesDst w.dst

end Sys2Proof.Machine
end

