-- ==== Sys2Proof/Machine/Resumable.lean ====
section
/-! DEFINITION. The elements of the resumable operations (05 R264 to R268, R277, 06 R323 to R327). -/

namespace Sys2Proof.Machine

/-- A byte worked into a reflected CRC with polynomial p, least significant bit first (05 R267). -/
def crcByte (p : Word) (crc : Word) (b : Byte) : Word :=
  (List.range 8).foldl (fun c _ => if c.getLsbD 0 then (c >>> 1) ^^^ p else c >>> 1) (crc ^^^ b.setWidth 32)

/-- A byte worked into the 16-bit CRC with polynomial 0x1021, most significant bit first. -/
def crcByteMsb (crc : Word) (b : Byte) : Word :=
  (List.range 8).foldl (fun c _ => (if c.getLsbD 15 then (c <<< 1) ^^^ 0x1021#32 else c <<< 1) &&& 0xFFFF#32)
    (crc ^^^ (b.setWidth 32 <<< 8))

/-- CRCBLK's running CRC after some bytes, by IMM[1:0] (05 R267). -/
def crcBytes (sel : Nat) (dst : Word) (bs : List Byte) : Word :=
  match sel with
  | 0 => bs.foldl (crcByte 0xEDB88320#32) dst
  | 1 => bs.foldl (crcByte 0x0000A001#32) (dst &&& 0xFFFF#32)
  | 2 => bs.foldl (crcByte 0x0000A6BC#32) (dst &&& 0xFFFF#32)
  | _ => bs.foldl crcByteMsb (dst &&& 0xFFFF#32)

/-- SUMBLK's running sum after some bytes, the first of which has an index in its range: bytes of even index are the more
significant (05 R268). -/
def sumBytes : Nat → Nat → List Byte → Nat
  | _, sum, [] => sum
  | i, sum, b :: bs => sumBytes (i + 1) (onesSum sum (if i % 2 = 0 then b.toNat * 256 else b.toNat)) bs

/-- ENG_PROG.TAG of a microword (06 `ENG_PROGl`), 0 for one that is not resumable. -/
def Micro.progTag (w : Micro) : Nat :=
  match w.mem with
  | 0x0B => 1
  | 0x0C => 2
  | 0x0D => 3
  | _ => if cordicOp w.lens then 4 else if vectorOp w.lens then w.lens - 0x28 + 5 else 0

/-- ENG_PROG of the level names the microword (06 R324). -/
def State.progMatches (s : State) (e l upc : Nat) (w : Micro) : Bool :=
  s.get (ENG_PROG.TAG e l) == w.progTag && s.get (ENG_PROG.UPC e l) == upc

/-- The element that comes next. -/
def State.progCount (s : State) (e l upc : Nat) (w : Micro) : Nat :=
  if s.progMatches e l upc w then s.get (ENG_PROG.COUNT e l) else 0

/-- ENG_PROG written. -/
def State.putProg (s : State) (e l upc tag count : Nat) : State :=
  ((s.put (ENG_PROG.UPC e l) upc).put (ENG_PROG.TAG e l) tag).put (ENG_PROG.COUNT e l) count

/-- How many elements the operation has (05 R264, R277): a CORDIC operation has 32 iterations. -/
def Args.total (x : Args) : Nat :=
  if blockOp x.w.mem then
    (if x.b.toNat = 0 then 0 else (x.a.toNat + x.b.toNat + 7) / 8 - x.a.toNat / 8)
  else if cordicOp x.w.lens then 32
  else x.w.elements

/-- The part of the range [a, a + n) in its k-th word: its start and length. -/
def elementRange (a n k : Nat) : Nat × Nat :=
  let lo := Nat.max a (8 * (a / 8 + k))
  (lo, Nat.min (a + n) (8 * (a / 8 + k) + 8) - lo)

/-- An element of CRCBLK or SUMBLK: DST takes the running value. -/
def State.accumulate (s : State) (x : Args) (k : Nat) : OpOut :=
  let r := elementRange x.a.toNat x.b.toNat k
  match s.engRead x.e r.1 r.2 with
  | (none, t) => { state := t, ecc := true }
  | (some bs, t) =>
    let old := s.source x.e x.l x.upc x.w.imm x.w.dst
    let v : Word := if x.w.mem = 0x0B then crcBytes (fieldOf x.w.imm 1 0) old bs
      else BitVec.ofNat 32 (sumBytes (r.1 - x.a.toNat) (fieldOf old 15 0) bs)
    { state := (t.putDst x.e x.l x.w.dst v).sawDst x.e v }

/-- An element of MOVBLK (05 R266). -/
def State.moveElement (s : State) (x : Args) (k : Nat) : OpOut :=
  match s.engRead x.e (x.a.toNat + 8 * k) 8 with
  | (none, t) => { state := t, ecc := true }
  | (some bs, t) =>
    let d := (s.source x.e x.l x.upc x.w.imm x.w.dst).toNat
    let r := t.engWrite x.e (d + 8 * k) bs (s.suppresses x.e x.w)
    { state := r.2, ecc := !r.1 }

/-- An element of a Lens vector operation: Ld and the flags (06 R326). -/
def State.vectorElement (s : State) (x : Args) (k : Nat) : OpOut :=
  let n := elementBytes x.w.lens
  match s.engRead x.e (x.a.toNat + n * k) n with
  | (none, t) => { state := t, ecc := true }
  | (some xs, t) =>
    match t.engRead x.e (x.b.toNat + n * k) n with
    | (none, u) => { state := u, ecc := true }
    | (some ys, u) =>
      let f := u.lensFree x.w.lens
      let r := vectorStep x.w.lens f.1 (s.lensReg x.e x.w.ld) (BitVec.ofNat 64 (ofLeBytes xs)) (BitVec.ofNat 64 (ofLeBytes ys))
      { state := (f.2.setLensReg x.e x.w.ld r.1).orBits (ENG_LENS.LSTAT x.e) r.2 }

/-- Element k of the microword's operation. -/
def State.elementOut (s : State) (x : Args) (k : Nat) : OpOut :=
  if x.w.mem = 0x0B ∨ x.w.mem = 0x0D then s.accumulate x k
  else if x.w.mem = 0x0C then s.moveElement x k
  else if cordicOp x.w.lens then { state := s.cordicIterate x.e k x.w }
  else s.vectorElement x k

/-- The flags that the elements of a vector operation may set (04 R197). -/
def vectorFlags (op : Nat) : Nat := if op = 0x28 then lensSAT else lensNV + lensOF

/-- The end of the operation: ENG_PROG is 0 (06 R325), the results of CROT and CVEC are delivered, and an enabled flag of a vector
operation that stands in the Lens status raises the Lens arithmetic fault (04 R200): between elements the operation keeps nothing
else (06 R326; log entry 93). -/
def State.endResumable (s : State) (x : Args) : State :=
  let t := s.setReg (ENG_PROG x.e x.l) 0
  if cordicOp x.w.lens then t.cordicEnd x.e x.l x.upc x.w
  else if vectorOp x.w.lens then t.lensFlags x.e (t.get (ENG_LENS.LSTAT x.e) &&& vectorFlags x.w.lens) x.upc x.l
  else t

end Sys2Proof.Machine
end

