-- ==== Sys2Proof/Machine/Engine.lean ====
section
/-! DEFINITION. The execution of one microword (04 R173 to R224, 05 R240 to R259, 06 R308, R309): causes, stalls, effects at e(N)
and next address. -/

namespace Sys2Proof.Machine

/-! ## Next address -/

/-- A number picked by a free bit where two updates of one microword meet on it (log entry 31). -/
def State.pick (s : State) (meet : Bool) (a b : Nat) : Nat × State :=
  if meet && a != b then (if (s.fresh 1).1 = 1 then a else b, (s.fresh 1).2) else (a, s)

/-- The microword waits (05 R243, R244). -/
def Micro.waits (w : Micro) : Bool := w.seq == 5 || w.seq == 6

/-- The condition inputs and r15 that the next address uses (04 R184): a wait past its first tick looks at the inputs as they
stand (05 R243). -/
def State.condsFor (s : State) (e : Nat) (w : Micro) : Nat × Word :=
  if w.waits && (w.cyc != 0 || s.on (ENG_STAT.STALL e)) then (s.condMask e (s.level e), s.gpr e (s.level e) 15)
  else ((s.eng e).conds, (s.eng e).condR15)

/-- The wait of a WAIT or WAIT.BR microword has not ended. -/
def State.waitHolds5 (s : State) (e : Nat) (w : Micro) : Bool :=
  let c := s.condsFor e w
  match w.seq with
  | 5 => !condBit c.1 c.2 0 w.csel0
  | 6 => w.condVector c.1 c.2 == 0
  | _ => false

/-- The next microaddress (05 R242, R245, R246), for a microword other than a return. -/
def State.nextAddress (s : State) (x : Args) : Nat :=
  let c := s.condsFor x.e x.w
  let merged := x.w.next ||| x.w.condVector c.1 c.2
  let b := s.bank x.e x.l
  match x.w.seq with
  | 1 => merged
  | 3 => merged
  | 4 => b.link.toNat
  | 6 => merged
  | 7 => if 1 < b.lcnt.toNat then x.w.next else x.w.next ||| 1
  | 8 => fieldOf x.a 12 0
  | _ => x.w.next

/-! ## Causes before any effect (06 R309) -/

/-- The microword touches the Lens (06 R339). -/
def Micro.touches (w : Micro) : Bool :=
  w.lens != 0 || lensHalf w.asrc || lensHalf w.bsrc || lensHalf w.dst || w.mem == 0x04 || w.mem == 0x08 || w.ccu == 3

/-- The Lens handover trap (06 R340, R342). -/
def State.handoverTrap (s : State) (e : Nat) (w : Micro) : Bool :=
  let m := s.level e
  let own := s.get (ENG_LENS.OWN e)
  s.on (ENG_LENS.LAZY e) && m != 4 && w.touches && own != m &&
    ((own != 7 && s.bankUsed e own) || (s.get (ENG_LENS.SAVED e)).testBit m)

/-- The microword is illegal (05 R240, 06 R318, R329). -/
def State.microIllegal (s : State) (e : Nat) (w : Micro) : Bool :=
  w.illegal || (w.seq == 9 && s.level e == 4) || (w.seq == 0xA && s.level e != 4) || s.saveIllegal e w

/-- A return below a bank in use (06 R319). -/
def State.nestingError (s : State) (e : Nat) (w : Micro) : Bool :=
  w.seq == 9 && [1, 2, 3, 4].any fun b => decide (s.level e < b) && s.bankUsed e b

/-- The microword waits for bulk tags (04 R214). -/
def State.bulkWaits (s : State) (x : Args) : Bool :=
  match x.w.mem with
  | 0x10 => s.tagBusy x.e (fieldOf x.a 3 0)
  | 0x11 => (List.range 16).any (s.tagBusy x.e)
  | _ => false

/-- The microword stalls (04 R179). -/
def State.stalls (s : State) (x : Args) : Bool := s.lensInterlock x.e x.w || s.bulkWaits x || s.waitHolds5 x.e x.w

/-- A stalling or resumable microword of a locked sequence (04 R220). -/
def State.lockTimeout (s : State) (x : Args) : Bool :=
  (s.lockOpen x.e || x.w.lock == 1) && (x.w.resumable || s.stalls x)

/-- A synchronous cause before any effect. -/
inductive Cause where
  | illegal
  | handover
  | capability (field reason : Nat)
  | bankBusy
  | linkInvalid
  | nesting
  | lockTimeout
  deriving DecidableEq, Repr

/-- The first synchronous cause of the microword, in the order of R309. While a Lens operation in flight is to write its operands, what
depends on them is not judged (04 R198). -/
def State.firstCause (s : State) (x : Args) : Option Cause :=
  if s.microIllegal x.e x.w then some .illegal
  else if s.handoverTrap x.e x.w then some .handover
  else if s.lensInterlock x.e x.w then (if s.lockTimeout x then some .lockTimeout else none)
  else match s.capViolation x with
    | some v => some (.capability v.1 v.2)
    | none =>
      if s.saveSealBad x then some (.capability 6 0x08)
      else if s.saveBankBusy x then some .bankBusy
      else if s.saveActs x && s.saveLinkBad x then some .linkInvalid
      else if s.nestingError x.e x.w then some .nesting
      else if s.lockTimeout x then some .lockTimeout
      else none

/-- A capability violation: CAP_VIOL is written where the fault enters PF (09 R479). -/
def State.capFault (s : State) (x : Args) (field reason : Nat) : State :=
  let t := s.syncFault x.e 0x05 0 x.l x.upc x.upc
  if s.inPF x.e || !t.inPF x.e then t else t.noteViolation x.e x.w.capr field reason

/-- A cause taken: the microword has no effect (05 R241). -/
def State.takeCause (s : State) (x : Args) : Cause → State
  | .illegal => s.syncFault x.e 0x02 0 x.l x.upc x.upc
  | .handover => if s.discards x.e then (s.breakLock x.e).takeHalt x.e else s.enterLht x.e
  | .capability f r => s.capFault x f r
  | .bankBusy => s.syncFault x.e 0x16 0 x.l x.upc x.upc
  | .linkInvalid => s.syncFault x.e 0x11 0 x.l x.upc x.upc
  | .nesting => s.syncFault x.e 0x06 0 x.l x.upc x.upc
  | .lockTimeout => s.syncFault x.e 0x07 0 x.l x.upc x.upc

/-! ## Effects at e(N) -/

/-- The operations of the fields other than ALU, LENS and SEQ, with what they deliver together. -/
def State.fieldOps (s : State) (x : Args) : OpOut :=
  let m := s.memOut x
  let q := m.state.qopOut s x
  let t := q.state.timeOut x
  let v := t.state.evtOut x
  let p := v.state.pinOut5 x
  { state := p.state, dst := m.dst ++ q.dst ++ t.dst ++ v.dst ++ p.dst, lens := m.lens,
    mask := m.mask ||| q.mask ||| t.mask ||| v.mask ||| p.mask, flags := m.flags ||| q.flags ||| t.flags ||| v.flags ||| p.flags,
    ecc := m.ecc || t.ecc }

/-- The condition codes that the microword writes other than by DST: status flags (05 R249), then CCU (05 R255). -/
def Micro.ccUpdate (w : Micro) (alu : AluOut) (compare mask flags : Nat) (cc : BitVec 10) : BitVec 10 :=
  let c := ccMerge cc mask flags
  match w.ccu with
  | 1 => ccMerge c (alu.mask &&& 3) alu.flags
  | 2 => ccMerge c alu.mask alu.flags
  | 3 => ccMerge c 0xF compare
  | _ => c

/-- The words that DST receives (05 R258). -/
def Micro.dstWords (w : Micro) (alu : AluOut) (results : List Word) : List Word :=
  if w.dstWrites.any (· != 0) then results else alu.result.toList

/-- The comparators see the words that DST receives; NONE receives none. -/
def State.sawDsts (s : State) (e code : Nat) : List Word → State
  | [] => s
  | v :: vs => (if code = 0x10 then s else s.sawDst e v).sawDsts e (code + 1) vs

/-- The link register and the loop counter of the level after the microword (05 R242, R245); a DST write of the same register
meets them (log entry 31), while a SAVE.LO load of the same bank comes last (log entry 94). -/
def State.seqRegs (s pre : State) (x : Args) : State :=
  let old := pre.bank x.e x.l
  let t :=
    if x.w.seq = 2 ∨ x.w.seq = 3 then
      let r := s.pick (x.w.dst == 0x12 && x.w.writesDst) ((x.upc + 1) % 8192) (s.bank x.e x.l).link.toNat
      r.2.setBank x.e x.l { r.2.bank x.e x.l with link := BitVec.ofNat 13 r.1 }
    else s
  if x.w.seq = 7 then
    let r := t.pick (x.w.dst == 0x11 && x.w.writesDst) (old.lcnt.toNat - 1) (t.bank x.e x.l).lcnt.toNat
    r.2.setBank x.e x.l { r.2.bank x.e x.l with lcnt := BitVec.ofNat 16 r.1 }
  else t

/-- A mask without bit k. -/
def clearBit (m k : Nat) : Nat := m - (m &&& 2 ^ k)

/-- The locked sequence after the microword (04 R216, R221, R222): the state, and whether this was a 32nd microword that does not
close (R220). -/
def State.lockStep (s : State) (e l : Nat) (w : Micro) : Bool × State :=
  let x := s.eng e
  if s.lockOpen e then
    let n := s.get (ENG_STAT.LOCKCNT e) + 1
    if w.lock = 3 then (false, s.endLock e) else (decide (32 ≤ n), s.put (ENG_STAT.LOCKCNT e) n)
  else if w.lock = 1 then
    (false, ((s.put (ENG_STAT.LOCK e) 1).put (ENG_STAT.LOCKCNT e) 1).setEng e { x with lockFailed := false, broken := clearBit x.broken l })
  else if w.lock = 3 ∧ x.broken.testBit l then
    (false, (s.put (ENG_STAT.LOCKLOST e) 1).setEng e { x with lockFailed := true, broken := clearBit x.broken l })
  else (false, s)

/-- The Lens registers that a resumable Lens operation has written by e(N). -/
def State.lensResults (s : State) (x : Args) : List (Nat × DWord) :=
  if x.total = 0 then []
  else if cordicOp x.w.lens then [(x.w.ld, s.lensReg x.e x.w.ld), (x.w.ld + 1, s.lensReg x.e (x.w.ld + 1))]
  else if vectorOp x.w.lens then [(x.w.ld, s.lensReg x.e x.w.ld)]
  else []

/-- The registers of the level and the Lens that the microword writes beside its field operations: DST, the address register,
the condition codes, the Lens result, which prevails over DST (05 R280), and its owner. -/
def State.writeResults (s pre : State) (x : Args) (o : OpOut) : State :=
  let b := pre.bank x.e x.l
  let alu := aluOut x.w.alu x.a x.b (b.cc.getLsbD ccC)
  let cc := x.w.ccUpdate alu (pre.lensCompare x.e x.w) o.mask o.flags b.cc
  let t := s.setBank x.e x.l { s.bank x.e x.l with cc }
  let words := x.w.dstWords alu o.dst
  let t := (t.putDsts x.e x.l x.w.dst words).sawDsts x.e x.w.dst words
  let t := match o.lens with
    | some (j, v) => (t.setLensReg x.e j v).happening x.e [5] fun a b => (loWord v ^^^ a) &&& b == 0 || (hiWord v ^^^ a) &&& b == 0
    | none => t
  let t := match writeBack x.w x.a with
    | some v => if plateOp x.w.mem then t.setGpr x.e x.l x.w.asrc v else t
    | none => t
  let t := if x.w.lens = 0 then t
    else if x.w.resumable then t.setLensRegs x.e (pre.lensResults x)
    else let r := t.lensOut pre x.e x.w; r.2.lensIssue x.e x.w r.1 x.upc x.l
  if x.w.touches && x.l != 4 then t.put (ENG_LENS.OWN x.e) x.l else t

/-- The highest bank in use. -/
def State.topBank (s : State) (e : Nat) : Option Nat := [3, 2, 1, 0].find? (s.bankUsed e)

/-- The next level at a return (06 R294, R313): a dispatch if a level above those in use is eligible and no asynchronous cause is
held, else the highest bank in use at its resume microaddress, else idle. -/
def State.nextLevel (s : State) (e : Nat) : State :=
  let t := match s.topBank e with
    | some l => (s.put (ENG_STAT.LEVEL e) l).put (ENG_UPC.UPC e) (s.get (ENG_RESUME.UPC e l))
    | none => s.setEngineState e 2
  let t := if t.asyncDue e || t.stepMasked e || t.lensGap e then t
    else match t.eligible e with
      | some l => t.setEng e { t.eng e with entry := some l }
      | none => t
  t.captureConds e

/-- A return (06 R315, R317): the bank is freed and the next level chosen. -/
def State.returnFrom (s : State) (e l : Nat) : State :=
  let i := s.get (ENG_XCTX.ILVL e)
  let t := if l = 4 ∧ i < 4 then s.put (ENG_RESUME.UPC e i) (s.bank e 4).link.toNat else s
  (t.clearBits (ENG_STAT.BANKS e) (2 ^ l)).nextLevel e

/-- The condition inputs and r15 in a microword's last tick, which begins in state `s`; a wait for bulk tags ended at the edge that
completed the tag (04 R185, R214). -/
def State.lastInputs (s : State) (e l : Nat) : Nat × Word := (s.eng e).lastConds.getD (s.condMask e l, s.gpr e l 15)

/-- The condition register takes the inputs of the microword's last tick (04 R184), which begins in state `last`, and the engine goes
to the next address or returns. -/
def State.goOn (s last : State) (x : Args) (next : Nat) : State :=
  let c := last.lastInputs x.e x.l
  let t := s.setEng x.e { s.eng x.e with conds := c.1, condR15 := c.2, released := false }
  if x.w.seq = 9 ∨ x.w.seq = 0xA then t.returnFrom x.e x.l else t.put (ENG_UPC.UPC x.e) next

/-- The end of the microword: a microword boundary. A step halts (19 R904). -/
def State.finishMicro (s last : State) (x : Args) (next : Nat) : State :=
  let t := ((s.unstall x.e).boundary x.e).goOn last x next
  if (t.eng x.e).stepping && !t.lockOpen x.e then t.takeHalt x.e else t

/-- The record of an uncorrectable error outlives a microword without effect (10 R505). -/
def State.keepEcc (s t : State) : State :=
  (s.setReg PLT_ECCSTAT (t.reg PLT_ECCSTAT)).setReg PLT_ECCADDR (t.reg PLT_ECCADDR)

/-- A cause recognised at e(N) (06 R308), in the state after the microword's effects: the resume microaddress is the next one.
In PF it is a double fault, and the microword has no effect (06 R321). -/
def State.lateFault (s pre last : State) (x : Args) (code next : Nat) : State :=
  if pre.inPF x.e && !s.discards x.e then (pre.keepEcc s).syncFault x.e code 0 x.l x.upc x.upc
  else
    let t := s.goOn last x next
    t.syncFault x.e code 0 x.l x.upc (t.upc x.e)

/-- The microword's effects at e(N), with the causes recognised there (04 R175, R207, R220): the lock timeout of a 32nd
microword, and the uncorrectable plate error. Its last tick begins in state `last`. -/
def State.complete (s last : State) (x : Args) : State :=
  let next := s.nextAddress x
  let o := s.fieldOps x
  let v := ((o.state.writeResults s x o).seqRegs s x).saveOut s x
  let k := v.state.lockStep x.e x.l x.w
  if k.1 then k.2.lateFault s last x 0x07 next
  else if o.ecc || v.ecc then k.2.lateFault s last x 0x13 next
  else k.2.finishMicro last x next

/-! ## Running -/

/-- In its first tick a microword with TMR.CAP latches the count (07 R379). -/
def State.latchFirst (s : State) (x : Args) : State :=
  let n := if s.timerHigh x.e x.timer then x.timer - 1 else x.timer
  if x.w.top = 0x10 ∧ (s.timer x.e n).latched.isNone then
    let r := s.timerLatch x.e n
    r.2.setTimer x.e n { r.2.timer x.e n with latched := some r.1 }
  else s

/-- A stalled microword waits (04 R180). -/
def State.waitOn (s : State) (x : Args) : State :=
  let t := (s.latchFirst x).put (ENG_STAT.STALL x.e) 1
  t.setEng x.e { t.eng x.e with unjudged := (t.eng x.e).unjudged || s.lensInterlock x.e x.w }

/-- One element of a resumable microword (06 R323 to R327), and its end with the rest of the microword's effects. -/
def State.runElement (s : State) (x : Args) : State :=
  let k := s.progCount x.e x.l x.upc x.w
  if x.total ≤ k then (if x.total = 0 then s else s.endResumable x).complete s x
  else
    let o := ((s.latchFirst x).putProg x.e x.l x.upc x.w.progTag k).elementOut x k
    if o.ecc then
      if s.inPF x.e && !s.discards x.e then (s.keepEcc o.state).syncFault x.e 0x13 0 x.l x.upc x.upc
      else o.state.syncFault x.e 0x13 0 x.l x.upc x.upc
    else
      let t := o.state.putProg x.e x.l x.upc x.w.progTag (k + 1)
      if x.total ≤ k + 1 then (t.endResumable x).complete s x else t.put (ENG_STAT.STALL x.e) 1

/-- The microword goes on: it stalls, or takes effect. -/
def State.advance (s : State) (x : Args) : State :=
  if s.stalls x then s.waitOn x
  else if x.w.resumable then s.runElement x
  else s.complete s x

/-- The comparators and the microbreak see the microword begin (05 R282, R283, 19 R911 to R913), unless it is the first after a
release (log entry 32). -/
def State.microBegins (s : State) (e upc : Nat) (w : Micro) : State :=
  if (s.eng e).released then s
  else
    let t := s.happening e [1] fun a b => decide (a.toNat ≤ upc) && decide (upc < b.toNat)
    if w.bkpt && (s.get EYE_BRKEN.ENG).testBit e then
      let u := (t.requestHalt e 1).haltRecord e (s.on EYE_BRKEN.XT) 2
      if s.on EYE_BRKEN.XT then { u with crossTrigger := true } else u
    else t

/-- The microword at ENG_UPC. -/
def State.micro (s : State) (e : Nat) : Micro := microOf (s.storeWord e (s.upc e))

/-- The parity groups of the word at ENG_UPC that fail. -/
def State.badGroups (s : State) (e : Nat) : Nat := parityFails (s.storeWord e (s.upc e))

/-- The reason that a resumable operation under way meets in its operands (log entry 26). -/
def State.shapeFault (s : State) (x : Args) : Option (Nat × Nat) :=
  if x.w.resumable then (s.capViolation x).filter fun v => shapeReason v.2 else none

/-- The causes of the microword judged (06 R309), and its execution where there is none. -/
def State.judge (s : State) (x : Args) : State :=
  match s.firstCause x with
  | some c => s.takeCause x c
  | none => s.advance x

/-- A stalled microword goes on: it stalls still; at the end of its stall its causes are judged, for what it checks may have changed; of
a resumable operation under way, only its operands (log entry 26). -/
def State.goOnStalled (s : State) (x : Args) : State :=
  if s.stalls x then s.waitOn x
  else if x.w.resumable && !(s.eng x.e).unjudged then
    match s.shapeFault x with
    | some v => s.capFault x v.1 v.2
    | none => s.advance x
  else (s.setEng x.e { s.eng x.e with unjudged := false }).judge x

/-- The microword at ENG_UPC begins, or goes on after a stall. -/
def State.runWord (s : State) (e : Nat) : State :=
  let upc := s.upc e
  let w := s.micro e
  if s.on (ENG_STAT.STALL e) then s.goOnStalled (s.args e w upc)
  else if s.badGroups e ≠ 0 then s.syncFault e 0x01 (s.badGroups e) (s.level e) upc upc
  else
    let t := s.microBegins e upc w
    if t.haltDue e then t.takeHalt e else t.judge (t.args e w upc)

/-- A microword row: the word at ENG_UPC runs if the engine is at a microword and the word holds the row's operation (log entry
33). -/
def State.microRow (s : State) (e : Nat) (holds : Micro → Bool) : State :=
  if s.ready e && holds (s.micro e) then s.runWord e else s

/-- RESUMABLE_ELEMENT (R264, R300, R323): the next element of the operation under way. -/
def execResumableElement (e : Fin 12) (s : State) : Host.Outcome State Fault Refusal :=
  .next (if s.ready e && s.on (ENG_STAT.STALL e) && (s.micro e).resumable && s.progMatches e (s.level e) (s.upc e) (s.micro e)
    then s.runWord e else s)

/-- MICROBREAK (R282): the microword at ENG_UPC is tagged and microbreaks are enabled. -/
def execMicrobreak (e : Fin 12) (s : State) : Host.Outcome State Fault Refusal :=
  .next (if s.ready e && (s.micro e).bkpt && (s.get EYE_BRKEN.ENG).testBit e && !(s.eng e).released && !s.on (ENG_STAT.STALL e)
    then s.runWord e else s)

/-- The word at ENG_UPC has bad parity, or a SEQ that its table reserves, for which no command has a row (04 R227, 05 R240). -/
def State.badWordDue (s : State) (e : Nat) : Bool :=
  s.ready e && !s.on (ENG_STAT.STALL e) && (s.badGroups e != 0 || decide (0xB ≤ (s.micro e).seq))

/-- EXCEPTION_ENTRY (R310): the asynchronous cause that is due; an event entry under way is abandoned, and its event stays pending. A
synchronous cause enters with its microword, that of a word that no command's row names, here. -/
def execExceptionEntry (e : Fin 12) (s : State) : Host.Outcome State Fault Refusal :=
  .next (if s.engineClock && s.wcsBusy e && s.asyncDue e && !s.haltDue e && !s.stopDue e && !s.lensGap e then s.takeAsync e
    else if s.badWordDue e then s.runWord e
    else s)

/-- The completion of a bulk tag between states s and t ends the wait of engine e's microword (04 R214). -/
def State.endsBulkWait (s t : State) (e : Nat) : Bool :=
  let x := s.args e (s.micro e) (s.upc e)
  s.on (ENG_STAT.STALL e) && s.bulkWaits x && !t.stalls x

/-- BULK_COMPLETE (R214): a response of the bulk port, with the bytes of a read. A wait for tags that ends saw the condition inputs
before it (R185). -/
def execBulkComplete (tag : Fin 256) (error : Bool) (data : List Byte) (s : State) : Host.Outcome State Fault Refusal :=
  .next <|
    let t := s.bulkResponse tag error data
    let e := tag.val / 16
    if !s.pllsRun then s
    else if decide (tag.val < 0xC0) && s.endsBulkWait t e then
      t.setEng e { t.eng e with lastConds := some (s.condMask e (s.level e), s.gpr e (s.level e) 15) }
    else t

end Sys2Proof.Machine
end

