-- ==== Sys2Proof/Machine/Flows.lean ====
section
/-! DEFINITION. Flow states (14 R719 to R723) and the flow tables of the frame ports (11 R603). -/

namespace Sys2Proof.Machine

/-! ## FLOWS records (14 R709) -/

def State.flowSrck (s : State) (f : Nat) : Nat := fieldOf (s.flowWord f 0) 14 12
def State.flowDstk (s : State) (f : Nat) : Nat := fieldOf (s.flowWord f 0) 17 15
def State.flowSrcobj (s : State) (f : Nat) : Nat := fieldOf (s.flowWord f 1) 9 0
def State.flowRule (s : State) (f : Nat) : Nat := fieldOf (s.flowWord f 1) 17 10
def State.flowDstobj (s : State) (f : Nat) : Nat := fieldOf (s.flowWord f 2) 9 0
def State.flowDcls (s : State) (f : Nat) : Nat := fieldOf (s.flowWord f 2) 12 10
def State.flowPort (s : State) (f : Nat) : Nat := fieldOf (s.flowWord f 2) 2 0

/-- The state of flow f: 0 no record, 1 LATENT, 2 ACTIVE, 3 WITHDRAWING. -/
def State.flowState (s : State) (f : Nat) : Nat := s.get (ADM_FSTATE.STATE f)

/-- The flows with a record, in ascending order. -/
def State.flowNumbers (s : State) : List Nat := s.flows.map (·.1)

/-- ADM_STAT counts the flows by their states. -/
def State.countFlows (s : State) : State :=
  let n := fun (p : Nat → Bool) => (s.flowNumbers.filter fun f => p (s.flowState f)).length
  (s.put ADM_STAT.LATENT (n (· == 1))).put ADM_STAT.ACTIVE (n fun x => x == 2 || x == 3)

/-! ## Flow table entries (11 R603) -/

/-- The entry of port p that names flow f in a role, 1 acceptance, 2 ledger. -/
def State.portEntry (s : State) (p role f : Nat) : Option Nat :=
  (List.range 512).find? fun k => s.get (FPT_FTW0.ROLE p k) == role && s.get (FPT_FTW0.FLOW p k) == f

/-- The bucket of an entry. -/
def State.bucket (s : State) (p k : Nat) : Nat := tget (fun _ => 0) s.buckets (512 * p + k)

/-- The same written. -/
def State.setBucket (s : State) (p k v : Nat) : State := { s with buckets := tset (fun _ => 0) s.buckets (512 * p + k) v }

/-- An entry written: what its bucket then holds, at most BURST, is a free value (log entry 35). -/
def State.writeEntry (s : State) (p k : Nat) (w0 w1 w2 w3 : Word) : State :=
  let t := (((s.setReg (FPT_FTW0 p k) (w0 &&& 0x7FFF)).setReg (FPT_FTW1 p k) w1).setReg (FPT_FTW2 p k) (w2 &&& 0xFFFFFF)).setReg
    (FPT_FTW3 p k) (w3 &&& 0xFFFFFF)
  let f := t.fresh 24
  f.2.setBucket p k (Nat.min f.1.toNat (fieldOf w3 23 0))

/-- The entry that gives flow f a role on port p, removed. -/
def State.dropEntry (s : State) (p role f : Nat) : State :=
  match s.portEntry p role f with
  | some k => s.put (FPT_FTW0.ROLE p k) 0
  | none => s

/-- The entries of flow f on some ports removed (14 R723). -/
def State.dropEntries (s : State) (f : Nat) : List Nat → State
  | [] => s
  | p :: ps => ((s.dropEntry p 1 f).dropEntry p 2 f).dropEntries f ps

/-! ## Activation and withdrawal -/

/-- DSTQ of flow f (15 R749): its queue, or the queue of its egress class. -/
def State.flowDstq (s : State) (f : Nat) : Nat :=
  if s.flowDstk f = 1 then s.get (FPT_CLS.QUEUE (s.flowPort f) (s.flowDcls f)) else s.flowDstobj f

/-- INQ of flow f (15 R747). -/
def State.flowInq (s : State) (f : Nat) : Nat :=
  match s.flowSrck f with
  | 0 => s.get (FPT_FRW5.QUEUE (s.flowSrcobj f) (s.flowRule f))
  | 1 => s.get (OCC_CHCFG.QUEUE (s.flowSrcobj f))
  | 3 => s.get (CST_CHCFG.QUEUE (s.flowSrcobj f))
  | _ => 0

/-- The SEQ that the source of flow f gives next (15 R744, R745). -/
def State.flowNextSeq (s : State) (f : Nat) : Word :=
  match s.flowSrck f with
  | 0 => match s.portEntry (s.flowSrcobj f) 1 f with
    | some k => s.reg (FPT_FTW1 (s.flowSrcobj f) k)
    | none => 1
  | 1 => BitVec.ofNat 32 (s.channel (s.flowSrcobj f)).seq
  | _ => 1

/-- The flow becomes ACTIVE (14 R719, R722, 15 R745): its order table entry takes the record. The channel of a flow of source
kind 3 numbers from 1 (16 R813). -/
def State.activateFlow (s : State) (f : Nat) : State :=
  let q := s.flowNextSeq f
  let t := if s.flowSrck f = 3 then s.setReg (CST_CHSEQ (s.flowSrcobj f)) 1 else s
  let t := (t.put (AST_OT0.VALID f) 1).put (AST_OT0.INQV f) (bit (s.flowSrck f != 2))
  let t := (t.put (AST_OT0.SRCK f) (s.flowSrck f)).put (AST_OT0.DSTK f) (s.flowDstk f)
  let t := (t.put (AST_OT0.DSTQ f) (s.flowDstq f)).put (AST_OT0.INQ f) (s.flowInq f)
  let t := ((t.setReg (AST_OT1 f) q).setReg (AST_OT2 f) q).setReg (AST_OT3 f) (s.flowWord f 3)
  let t := (t.put (AST_OT5.PEND f) 0).setFlow f { s.flow f with instants := [], inFlight := 0, asked := 0 }
  (t.put (ADM_FSTATE.STATE f) 2).countFlows

/-- The flow becomes WITHDRAWING (14 R719, R723). -/
def State.withdrawFlow (s : State) (f : Nat) : State :=
  ((s.setFlow f { s.flow f with asked := 0 }).put (ADM_FSTATE.STATE f) 3).countFlows

/-- The items of flow f are delivered or tombstoned. -/
def State.flowDrained (s : State) (f : Nat) : Bool := s.itemsAccepted f == 0 && (s.flow f).inFlight == 0

/-- A withdrawn flow becomes LATENT (14 R719, R723): the loader removes its flow table entries. -/
def State.releaseFlow (s : State) (f : Nat) : State :=
  (((s.put (AST_OT0.VALID f) 0).dropEntries f (indices 8)).put (ADM_FSTATE.STATE f) 1).countFlows

/-- FLOW_WITHDRAWN (R719): the last item accepted under a withdrawing flow is delivered or tombstoned. -/
def execFlowWithdrawn (f : Fin 4096) (s : State) : Host.Outcome State Fault Refusal :=
  .next (if s.flowState f = 3 ∧ s.flowDrained f then s.releaseFlow f else s)

/-! ## Finder rules -/

/-- The flows of source kind 0 whose rule is rule r of port p. -/
def State.flowsOfRule (s : State) (p r : Nat) : List Nat :=
  s.flowNumbers.filter fun f => s.flowSrck f == 0 && s.flowSrcobj f == p && s.flowRule f == r

/-- The rule of each of some flows has committed with EN as given: an admitted flow becomes ACTIVE, a withdrawn one WITHDRAWING
(14 R722, R723). -/
def State.ruleCommitted (s : State) (en : Bool) : List Nat → State
  | [] => s
  | f :: fs =>
    (if en && (s.flow f).asked == 1 then s.activateFlow f
      else if !en && (s.flow f).asked == 2 then s.withdrawFlow f else s).ruleCommitted en fs

end Sys2Proof.Machine
end

