-- ==== Sys2Proof/Machine/Logs.lean ====
section
/-! DEFINITION. The Logbook's ring, gap records and spill (18 R880 to R889). Changes reserve their records in Machine/Ops.lean. -/

namespace Sys2Proof.Machine

/-! ## Placing records (18 R880, R882, R884) -/

/-- The 32 bytes of a record with its STAMP and SEQ (R880). -/
def recordBytes (r : LogRecord) (stamp : Time96) (seq : Word) : List Byte :=
  mkDesc [time96Word stamp 0, time96Word stamp 1, time96Word stamp 2,
    BitVec.ofNat 32 (r.origin % 256 + r.kind % 256 * 2 ^ 8 + r.fcode % 256 * 2 ^ 16 + r.qual % 8 * 2 ^ 24 + bit r.refused * 2 ^ 27),
    seq, r.object, r.value, r.aux]

/-- The plate address of the record with a SEQ (R861). -/
def recordAddr (seq : Nat) : Nat := 32 * (seq % 1024)

/-- The oldest reserved record placed: its STAMP is not below that of the record before it (R882). -/
def State.placeRecord (s : State) : State :=
  match s.log.reserved with
  | [] => s
  | r :: rest =>
    let stamp := if s.log.lastStamp.toNat ≤ r.stamp.toNat then r.stamp else s.log.lastStamp
    let seq := s.reg LOG_HEAD
    let t := (s.plateWrite 4 (recordAddr seq.toNat) (recordBytes r stamp seq)).2
    { t.setReg LOG_HEAD (seq + 1) with log := { s.log with reserved := rest, lastStamp := stamp } }

/-- Reserved records placed, `fuel` at most. -/
def State.placeRecords (s : State) : Nat → State
  | 0 => s
  | fuel + 1 => s.placeRecord.placeRecords fuel

/-- Every reserved record placed. -/
def State.placeAll (s : State) : State := s.placeRecords s.log.reserved.length

/-- The gap record reserves its place (R884). -/
def State.reserveGap (s : State) : State :=
  if !s.on LOG_LOST.COUNT || s.logFull then s
  else
    let r : LogRecord := { stamp := s.now96, origin := s.log.lostOrigin, kind := 0x0D, fcode := 0, qual := s.get RGL_QUAL.STATE,
                           refused := false, object := 0, value := s.reg LOG_LOST, aux := BitVec.ofNat 32 s.log.lostSec }
    { s.setReg LOG_LOST 0 with log := { s.log with reserved := s.log.reserved ++ [r] } }

/-- The unconsumed records are lost at an IFC domain power-up (R889). -/
def State.discardLog (s : State) : State :=
  let n := (s.reg LOG_HEAD - s.reg LOG_TAIL).toNat
  let t := if s.on LOG_LOST.COUNT || n == 0 then s
    else { s with log := { s.log with lostOrigin := originCode .clock, lostSec := ofTime96 s.log.lastStamp / unitsPerSec % 2 ^ 32 } }
  ((t.count LOG_LOST.COUNT n).setReg LOG_TAIL (s.reg LOG_HEAD)).setReg LOG_BASE (s.reg LOG_HEAD)

/-! ## Spill and consumption (18 R885 to R888) -/

/-- The next record to spill: never one below LOG_TAIL (log entry 44). -/
def State.spillNext (s : State) : Word :=
  if (s.reg LOG_HEAD - s.reg LOG_TAIL).toNat < (s.reg LOG_HEAD - s.reg LOG_SPILLWR).toNat then s.reg LOG_TAIL else s.reg LOG_SPILLWR

/-- A record may be spilled (R886). -/
def State.spillDue (s : State) : Bool :=
  s.on LOG_CTL.SPILLEN && s.pllsRun && s.spillNext != s.reg LOG_HEAD &&
    decide ((s.spillNext - s.reg LOG_SPILLRD).toNat < (s.reg LOG_SPILLLEN).toNat / 32)

/-- The response to a spill write (R886). -/
def State.spillDone (s : State) (error : Bool) : State :=
  if error then (s.put LOG_CTL.SPILLERR 1).put LOG_CTL.SPILLEN 0
  else (s.setReg LOG_SPILLWR (s.spillNext + 1)).setReg LOG_TAIL (s.spillNext + 1)

/-- LOGSPILL (R885). -/
def State.setSpill (s : State) (addr len : Word) (strict : Bool) : State :=
  let t := (s.put LOG_CTL.STRICT (bit strict)).put LOG_CTL.SPILLERR 0
  if len = 0 then (t.put LOG_CTL.SPILLEN 0).setReg LOG_SPILLLEN 0
  else (((t.put LOG_CTL.SPILLEN 1).setReg LOG_SPILLBASE addr).setReg LOG_SPILLLEN len).setReg LOG_SPILLWR t.spillNext

/-- LOGREAD has a record to return (R888). -/
def State.hasRecord (s : State) (seq : Word) : Bool :=
  let back := (s.reg LOG_HEAD - seq).toNat
  decide (1 ≤ back) && decide (back ≤ 1024) && decide (back ≤ (s.reg LOG_HEAD - s.reg LOG_BASE).toNat)

/-- The eight words of a record as the Assistant pair reads them, none at an uncorrectable error (10 R505). -/
def State.readRecord (s : State) (seq : Word) : Option (List Word) × State :=
  let r := s.plateRead 4 (recordAddr seq.toNat) 32
  (r.1.map fun b => (List.range 8).map (descWord b), r.2)

/-- A write that may move a count forward only, up to a limit (R887). -/
def advanceOnly (key : Nat) (limit v : Word) (s : State) : Effect :=
  if (v - s.reg key).toNat ≤ (limit - s.reg key).toNat then .ok (s.setReg key v) else .kept s

/-- The rules of a write to LOG_SPILLRD. -/
def writeLogSpillrd (v : Word) (s : State) : Effect := advanceOnly LOG_SPILLRD (s.reg LOG_SPILLWR) v s

/-- The rules of a write to LOG_TAIL: only while spill is off. -/
def writeLogTail (v : Word) (s : State) : Effect :=
  if s.on LOG_CTL.SPILLEN then .kept s else advanceOnly LOG_TAIL (s.reg LOG_HEAD) v s

/-! ## The commands -/

/-- LOG_RECORD_PLACE (R882). -/
def execLogRecordPlace (s : State) : Host.Outcome State Fault Refusal := .next (if s.ifcOn && s.pllsRun then s.placeRecord else s)

/-- GAP_RECORD (R884). -/
def execGapRecord (s : State) : Host.Outcome State Fault Refusal := .next (if s.ifcOn && s.pllsRun then s.reserveGap else s)

/-- LOG_SPILL_WRITE (R886): the next record is written to the spill ring, with the response of the write. -/
def execLogSpillWrite (error : Bool) (s : State) : Host.Outcome State Fault Refusal :=
  .next (if s.spillDue then s.spillDone error else s)

/-- LOG_SPILLRD_WRITE (R887). -/
def execLogSpillrdWrite (o : Origin) (v : Word) (s : State) : Host.Outcome State Fault Refusal :=
  .next (s.writeReg o LOG_SPILLRD v (writeLogSpillrd v))

/-- LOG_TAIL_WRITE (R887). -/
def execLogTailWrite (o : Origin) (v : Word) (s : State) : Host.Outcome State Fault Refusal :=
  .next (s.writeReg o LOG_TAIL v (writeLogTail v))

end Sys2Proof.Machine
end

