-- ==== Sys2Proof/Machine/Constellation.lean ====
section
/-! DEFINITION. The constellation link (16): frames, link states, slots, time transfer, the election, trackers, queue items and
events across the ring. Port 0 is the east port, port 1 the west port. -/

namespace Sys2Proof.Machine

/-! ## State -/

/-- A port's hidden state in DOWN. -/
def link0 : LinkPort :=
  { good := 0, bad := 0, lastGood := 0, rxStamp := none, txStamp := 0, meas := 0, sumOwn := 0, sumPeer := 0, count := 0,
    peerCount := 0, periods := 0, adv := none, peerAsym := none, theta := none, within := 0, forward := [], tracks := [],
    events := [], items := [], controlDue := false, sinceControl := 0, period := 0, lastSent := [] }

/-- Port x. -/
def State.link (s : State) (x : Nat) : LinkPort := tget (fun _ => link0) s.links x

/-- The same written. -/
def State.setLink (s : State) (x : Nat) (l : LinkPort) : State := { s with links := tset (fun _ => link0) s.links x l }

/-- The state of port x: 0 DOWN, 1 TRAIN, 2 CAL, 3 SYNC. -/
def State.linkState (s : State) (x : Nat) : Nat := s.get (CST_LNKSTAT.STATE x)

/-- This member's number. -/
def State.member (s : State) : Nat := s.get CST_CFG.MEMBER

/-- The item in assembly on channel c from port x. -/
def State.assembly (s : State) (c x : Nat) : Option Assembly := tget (fun _ => none) s.constellation.assemblies (2 * c + x)

/-- The same written. -/
def State.setAssembly (s : State) (c x : Nat) (a : Option Assembly) : State :=
  { s with constellation := { s.constellation with assemblies := tset (fun _ => none) s.constellation.assemblies (2 * c + x) a } }

/-- A change of a port's state, with its event (R816). -/
def State.setLinkState (s : State) (x st : Nat) : State :=
  if s.linkState x = st then s else (s.put (CST_LNKSTAT.STATE x) st).registerEvent (232 + x)

/-- A quotient of which the manual fixes no rounding: a value that lies between two units takes either (log entry 47). -/
def State.freeQuotient (s : State) (num : Int) (den : Nat) : Int × State :=
  if num % (den : Int) = 0 then (num / den, s)
  else
    let f := s.fresh 1
    (num / den + f.1.toNat, f.2)

/-- A quotient rounded to nearest; of a tie the manual does not say which way. -/
def State.nearest (s : State) (num : Int) (den : Nat) : Int × State :=
  if (2 * num + den) % (2 * (den : Int)) = 0 then
    if num % (den : Int) = 0 then (num / den, s)
    else
      let f := s.fresh 1
      ((2 * num + den) / (2 * (den : Int)) - f.1.toNat, f.2)
  else ((2 * num + den) / (2 * (den : Int)), s)

/-! ## Frames (R788 to R791) -/

/-- Bits [63:0] of a cluster time in units of 2^-16 ns. -/
def stamp64 (u : Nat) : Nat := (toTime96 u).toNat % 2 ^ 64

/-- A frame of 128 bytes before its sender's TXSTAMP, ADV, MEAS and CRC. -/
def linkFrame (ftype src dst : Nat) (bcast : Bool) (chdr : Nat) (payload : List Byte) : List Byte :=
  [0xBC#8, 0xBC#8] ++ leBytes 1 ftype ++ leBytes 1 (src % 8 + 8 * (dst % 8) + 64 * bit bcast) ++ List.replicate 20 0 ++
    leBytes 4 chdr ++ (payload ++ List.replicate (96 - payload.length) 0) ++ List.replicate 4 0

/-- The number at some bytes of a frame. -/
def linkNum (f : List Byte) (i n : Nat) : Nat := ofLeBytes ((f.drop i).take n)

def linkType (f : List Byte) : Nat := linkNum f 2 1 % 16
def linkSrc (f : List Byte) : Nat := linkNum f 3 1 % 8
def linkDst (f : List Byte) : Nat := linkNum f 3 1 / 8 % 8
def linkBcast (f : List Byte) : Bool := (linkNum f 3 1).testBit 6
def linkChannel (f : List Byte) : Nat := linkNum f 24 1 % 64
def linkLast (f : List Byte) : Bool := (linkNum f 24 1).testBit 6
def linkChunk (f : List Byte) : Nat := linkNum f 25 1
def linkCseq (f : List Byte) : Nat := linkNum f 26 2

/-- The CRC of a frame holds (R791). -/
def linkCrcGood (f : List Byte) : Bool := f.length == 128 && (crc32 ((f.drop 2).take 122)).toNat == linkNum f 124 4

/-- A frame with some bytes replaced. -/
def linkSet (f : List Byte) (i : Nat) (bs : List Byte) : List Byte := f.take i ++ bs ++ f.drop (i + bs.length)

/-- The advertisement of port x (16 "The time source"). -/
def State.linkAdv (s : State) (x : Nat) : Nat :=
  s.get CST_STAT.SRCM + 8 * s.get CST_STAT.SRCV + 16 * s.get CST_STAT.HOPS + 128 * bit (s.linkState x == 3) +
    256 * s.get CST_STAT.PRES + 2 ^ 16 * s.get CST_STAT.SCLASS + 2 ^ 18 * s.get CST_STAT.SPRIO + 2 ^ 21 * s.get RGL_QUAL.ACC

/-- A frame as port x sends it: TXSTAMP, ADV and MEAS its own, the CRC over bytes 2 to 123 (R791, R794). -/
def State.sealFrame (s : State) (x : Nat) (f : List Byte) : List Byte :=
  let g := linkSet (linkSet (linkSet f 4 (leBytes 8 (s.link x).txStamp)) 12 (leBytes 4 (s.linkAdv x))) 16
    (leBytes 8 (unsigned 64 (s.link x).meas))
  linkSet g 124 (leBytes 4 (crc32 ((g.drop 2).take 122)).toNat)

/-- A frame sent on port x, its marker in bin b of the present TCLK period (R789). -/
def State.sendLink (s : State) (x b : Nat) (f : List Byte) : State :=
  let g := s.sealFrame x f
  let i := 0x74 + 2 * x
  let t := (s.stampEdge i true b).2
  t.setLink x { t.link x with txStamp := stamp64 (s.stampOf i b), lastSent := g }

/-- An own frame without a payload; what DST an IDLE frame and a CONTROL frame to an unknown neighbour carry is free (log entry
48). -/
def State.emptyFrame (s : State) (ftype x : Nat) (payload : List Byte) : List Byte × State :=
  if ftype = 4 ∧ s.on (CST_LNKSTAT.PEERV x) then (linkFrame ftype s.member (s.get (CST_LNKSTAT.PEERM x)) false 0 payload, s)
  else
    let f := s.fresh 3
    (linkFrame ftype s.member f.1.toNat false 0 payload, f.2)

/-- The payload of a CONTROL frame of port x (R791). -/
def State.controlPayload (s : State) (x : Nat) (leave : Bool) : List Byte :=
  leBytes 4 (s.reg (CST_ASYM x)).toNat ++
    leBytes 1 (s.member + 8 * s.get CST_CFG.CAND + 16 * s.get CST_CFG.PRIO) ++ leBytes 1 (s.get CST_CAND.CLASS + 4 * bit leave)

/-! ## The election (R804 to R807) -/

/-- A source on offer: class, priority, member, links, and the port that offers it (none for this member). -/
structure SourceOffer where
  cls : Nat
  prio : Nat
  src : Nat
  hops : Nat
  port : Option Nat
  deriving DecidableEq, Repr

/-- This member's own offer (R804). -/
def State.ownOffer (s : State) : List SourceOffer :=
  if s.on CST_CFG.CAND && s.get CST_CAND.CLASS != 3 then
    [{ cls := s.get CST_CAND.CLASS, prio := s.get CST_CFG.PRIO, src := s.member, hops := 0, port := none }]
  else []

/-- The offer that port x has received (R805). -/
def State.portOffer (s : State) (x : Nat) : List SourceOffer :=
  match (s.link x).adv with
  | some a =>
    if decide (2 ≤ s.linkState x) && bitAt a 3 && fieldOf a 2 0 != s.member && decide (fieldOf a 6 4 < 6) then
      [{ cls := fieldOf a 17 16, prio := fieldOf a 20 18, src := fieldOf a 2 0, hops := fieldOf a 6 4 + 1, port := some x }]
    else []
  | none => []

/-- The first offer ranks above the second, or equally with no more links (R805, R806). -/
def SourceOffer.before (p q : SourceOffer) : Bool :=
  if p.cls ≠ q.cls then decide (p.cls < q.cls)
  else if p.prio ≠ q.prio then decide (p.prio < q.prio)
  else if p.src ≠ q.src then decide (p.src < q.src)
  else decide (p.hops ≤ q.hops)

/-- The best of some offers; the earlier of two equal ones. -/
def bestOffer : List SourceOffer → Option SourceOffer
  | [] => none
  | p :: ps =>
    match bestOffer ps with
    | some q => if p.before q then some p else some q
    | none => some p

/-- The choice (R805): the source in force is kept while it is offered and its class is not above the best one's. -/
def State.chooseSource (s : State) : Option SourceOffer :=
  let offers := s.ownOffer ++ s.portOffer 0 ++ s.portOffer 1
  match bestOffer offers with
  | none => none
  | some best =>
    if s.on CST_STAT.SRCV then
      match bestOffer (offers.filter fun p => p.src == s.get CST_STAT.SRCM) with
      | some p => if p.cls ≤ best.cls then some p else some best
      | none => some best
    else some best

/-- The time source chosen anew, with what follows from a change (R805 to R807). A change of UPX restarts the servo's
difference (R801). -/
def State.elect (s : State) : State :=
  let c := s.chooseSource
  let isSrc := c.any fun p => p.port.isNone
  let t := s.put CST_STAT.SRCV (bit c.isSome)
  let t := match c with
    | some p => ((((t.put CST_STAT.SRCM p.src).put CST_STAT.HOPS p.hops).put CST_STAT.SCLASS p.cls).put CST_STAT.SPRIO p.prio).put
        CST_STAT.UPX (p.port.getD 0)
    | none => t
  let t := (t.put CST_STAT.ISSRC (bit isSrc)).put CST_STAT.FOLLOW (bit (c.isSome && !isSrc && s.get RGL_SRV_OWN.OWNER == 2))
  let t := if t.get CST_STAT.UPX ≠ s.get CST_STAT.UPX then
      let u := t.setLink 0 { t.link 0 with theta := none }
      u.setLink 1 { u.link 1 with theta := none }
    else t
  let turned := t.get CST_STAT.ISSRC != s.get CST_STAT.ISSRC
  let t := if turned then { t with constellation := { t.constellation with servoDue := true } } else t
  if turned || t.get CST_STAT.SRCM != s.get CST_STAT.SRCM then t.registerEvent 235 else t

/-! ## Link states (R796, R818) -/

/-- An abandoned item: its buffer returns to its pool and the port counts it (R811). -/
def State.abandonItem (s : State) (c x : Nat) : State :=
  match s.assembly c x with
  | some a => (((s.setAssembly c x none).returnBuffer (mkDesc [BitVec.ofNat 32 a.addr, 0, 0, 0, 0, 0, 0, 0])).count (CST_LNKCNT.ABANDON x) 1)
  | none => s

/-- The items in assembly from port x abandoned on some channels. -/
def State.abandonItems (s : State) (x : Nat) : List Nat → State
  | [] => s
  | c :: cs => (s.abandonItem c x).abandonItems x cs

/-- Trackers with a constellation peer for their source lose it at a link loss (03 R124). -/
def State.losePeers (s : State) : List Nat → State
  | [] => s
  | n :: ns =>
    (if s.get (CDR_PT_SRC.KIND n) = 3 then s.setTracker n { s.tracker n with missed := 2, peer := none } else s).losePeers ns

/-- The record of a port that goes down (R818); what R818 does not say of it is free (log entry 48). -/
def State.linkRecord (s : State) (fcode : Nat) : State :=
  let f := s.fresh 104
  f.2.logChange (f.1.toNat % 256) 0x0C fcode false (f.1.toNat / 2 ^ 8 % 2 ^ 32) (f.1.toNat / 2 ^ 40 % 2 ^ 32) (f.1.toNat / 2 ^ 72)

/-- How a port enters DOWN: by its own LEAVE, by its peer's, or lost. -/
inductive LinkEnd where
  | left
  | peerLeft
  | lost
  deriving DecidableEq, Repr

/-- Port x enters DOWN (R796, R818). -/
def State.linkDown (s : State) (x : Nat) (why : LinkEnd) : State :=
  if s.linkState x = 0 then s
  else
    let t := ((s.abandonItems x (List.range 64)).setLinkState x 0).setLink x { link0 with lastSent := (s.link x).lastSent }
    let t := match why with
      | .left => t
      | .peerLeft => (t.put (CST_LNKSTAT.PLEAVE x) 1).linkRecord 0
      | .lost => ((t.put (CST_LNKSTAT.LOSS x) 1).linkRecord 0x14).losePeers (List.range 4)
    t.elect

/-- The cluster is in a state in which its ports may be up (R796). -/
def State.linksAllowed (s : State) : Bool :=
  s.pllsRun && s.on CLK_PLLSTAT.LINKLK && decide (2 ≤ s.get CLU_STAT.STATE) && decide (s.get CLU_STAT.STATE ≤ 5)

/-- Both ports are lost. -/
def State.linksLost (s : State) : State := (s.linkDown 0 .lost).linkDown 1 .lost

/-- A write of LEAVE, or the one of a detach (R819, 17 R851): CONTROL with LEAVE goes out, then the port is down. -/
def State.leaveLink (s : State) (x : Nat) : State :=
  if s.linkState x = 0 then s
  else
    let f := s.emptyFrame 4 x (s.controlPayload x true)
    (f.2.sendLink x 0 f.1).linkDown x .left

/-- |ASYM + peer ASYM| ≤ 0x0400 (R796), false before a CONTROL has come. -/
def State.asymGood (s : State) (x : Nat) : Bool :=
  match (s.link x).peerAsym with
  | some p => decide (((s.reg (CST_ASYM x)).toInt + p.toInt).natAbs ≤ 0x400)
  | none => false

/-- Both ends advertise the same source (R796). -/
def State.sameSource (s : State) (x : Nat) : Bool :=
  match (s.link x).adv with
  | some a => s.on CST_STAT.SRCV && bitAt a 3 && fieldOf a 2 0 == s.get CST_STAT.SRCM
  | none => false

/-- |OFS| of port x is at most some ns. -/
def State.offsetWithin (s : State) (x ns : Nat) : Bool := decide ((s.reg (CST_OFS x)).toInt.natAbs ≤ ns * 65536)

/-- CAL to SYNC (R796). -/
def State.linkSyncs (s : State) (x : Nat) : State :=
  if s.linkState x = 2 ∧ s.asymGood x ∧ (s.reg (CST_RTT x)).toNat ≤ 128 * 65536 ∧ 4 ≤ (s.link x).periods ∧ s.sameSource x ∧
      s.offsetWithin x 50 then s.setLinkState x 3
  else s

/-- SYNC to CAL (R796). -/
def State.linkCals (s : State) (x : Nat) (update : Bool) : State :=
  if s.linkState x = 3 ∧ ((update ∧ !s.offsetWithin x 100) ∨ !s.sameSource x) then
    (s.setLinkState x 2).setLink x { s.link x with periods := 0 }
  else s

/-! ## Time transfer (R800 to R802) -/

/-- An offset committed as a step by the link: the three registers of 02 R81. -/
def State.linkStep (s : State) (units : Int) : State :=
  let sec := (units / 65536).tdiv 1000000000
  let ns := units / 65536 - sec * 1000000000
  let put (t : State) (key : Nat) (v : Word) := t.writeReg .cstLink key v (writeRglPlain key .cstLink v)
  let v := BitVec.ofInt 32 ns
  (put (put s RGL_STEP_SEC (BitVec.ofInt 32 sec)) RGL_STEP_FRAC (BitVec.ofInt 32 (units % 65536))).writeReg .cstLink RGL_STEP v
    (writeRglStep .cstLink v)

/-- The upstream port's update disciplines cluster time (R801). -/
def State.linkDiscipline (s : State) (x : Nat) : State :=
  let theta := (s.reg (CST_OFS x)).toInt + s.rgl.q / 2 ^ 24
  let lim := Nat.max 1 (s.get CST_SERVO.STEPNS) * 65536
  if lim < theta.natAbs then
    (s.linkStep (-theta)).setLink x { s.link x with theta := none, within := 0 }
  else
    let last := (s.link x).theta.getD theta
    let tau := Nat.max 4 (s.get CST_SERVO.TAU)
    let den : Nat := 2 ^ (tau - 4)
    let r := s.nearest (((s.reg RGL_RATE).toInt - 16 * (theta - last)) * (den : Int) - theta) den
    let v := BitVec.ofInt 32 (clampInt (-(2 ^ 31)) (2 ^ 31 - 1) r.1)
    let within := if theta.natAbs ≤ 0x10000 then (s.link x).within + 1 else 0
    (r.2.writeReg .cstLink RGL_RATE v (writeRglRate .cstLink v)).setLink x { s.link x with theta := some theta, within }

/-- The quality that the link writes with an update (R802). -/
def State.linkQuality (s : State) (x : Nat) : State :=
  let acc := match (s.link x).adv with
    | some a => Nat.min 0xFF (fieldOf a 28 21 + 1)
    | none => 0xFF
  let st := s.get RGL_QUAL.STATE
  let new := if st = 0 ∨ st = 1 ∨ st = 4 then 2 else if st = 2 ∧ 16 ≤ (s.link x).within then 3 else st
  let v := BitVec.ofNat 32 (acc * 256 + new)
  s.writeReg .cstLink RGL_QUAL v (writeRglQual .cstLink v)

/-- The link disciplines cluster time through port x. -/
def State.linkLeads (s : State) (x : Nat) : Bool :=
  s.get RGL_SRV_OWN.OWNER == 2 && s.on CST_STAT.SRCV && !s.on CST_STAT.ISSRC && s.get CST_STAT.UPX == x

/-- An update of port x (R800 to R802, R796), due after 4096 good frames. -/
def State.linkUpdate (s : State) (x : Nat) : State :=
  let l := s.link x
  if l.peerCount < 4096 then s
  else
    let n := Nat.max 1 l.count
    let own := l.sumOwn * l.peerCount
    let peer := l.sumPeer * n
    let o := s.freeQuotient (own - peer + (s.reg (CST_ASYM x)).toInt * (n * l.peerCount : Nat)) (2 * n * l.peerCount)
    let r := o.2.freeQuotient (own + peer) (n * l.peerCount)
    let t := (r.2.setReg (CST_OFS x) (BitVec.ofInt 32 (clampInt (-0x7FFFFFFF) 0x7FFFFFFF o.1))).setReg (CST_RTT x)
      (BitVec.ofInt 32 (clampInt 0 0xFFFFFFFF r.1))
    let t := t.setLink x { l with sumOwn := 0, sumPeer := 0, count := 0, peerCount := 0, periods := l.periods + 1 }
    let t := if l.peerAsym.isSome && !t.asymGood x then t.put (CST_LNKSTAT.ASYMERR x) 1 else t
    let t := if 128 * 65536 < (t.reg (CST_RTT x)).toNat then t.put (CST_LNKSTAT.RTTERR x) 1 else t
    let t := if t.linkLeads x then (t.linkDiscipline x).linkQuality x else t
    (t.linkCals x true).linkSyncs x

/-- A good frame measured (R799): the marker of the frame before it has its TXSTAMP. -/
def State.measure (s : State) (x : Nat) (f : List Byte) (stamp : Nat) : State :=
  let l := s.link x
  let l1 := match l.rxStamp with
    | some r =>
      let m := signed 64 (unsigned 64 ((r : Int) - linkNum f 4 8))
      { l with meas := m, sumOwn := l.sumOwn + m, count := l.count + 1 }
    | none => l
  s.setLink x { l1 with
    sumPeer := l1.sumPeer + signed 64 (linkNum f 16 8), peerCount := l1.peerCount + 1, rxStamp := some (stamp64 stamp)
    adv := some (BitVec.ofNat 32 (linkNum f 12 4)), good := l1.good + 1, bad := 0, lastGood := s.rgl.edge }

/-! ## Presence (R817) -/

/-- A change of PRES, with its event (R816). -/
def State.setPresent (s : State) (m : Nat) (b : Bool) : State :=
  if (s.get CST_STAT.PRES).testBit m = b then s else (s.setBit CST_STAT (24 + m) b).registerEvent 234

/-- A frame from member m has arrived. -/
def State.notePresence (s : State) (m : Nat) : State :=
  { s with constellation := { s.constellation with seen := tset (fun _ => none) s.constellation.seen m (some s.rgl.edge) } }.setPresent m true

/-! ## Items, events and trackers received (R808, R811 to R813, R816) -/

/-- The inbound channel that takes a frame: its peer and its queue's producer are the link's (R809, R811). -/
def State.inboundChannel (s : State) (f : List Byte) : Option Nat :=
  let c := linkChannel f
  if s.on (CST_CHCFG.EN c) && s.get (CST_CHCFG.PEER c) == linkSrc f && s.get (QM_QCFG.PROD (s.get (CST_CHCFG.QUEUE c))) == 2 then
    some c
  else none

/-- The flow whose items channel c brings, while it accepts (R813, 15 R776). -/
def State.channelFlow (s : State) (c : Nat) : Option Nat :=
  if s.sourcesClosed then none
  else s.flowNumbers.find? fun f => s.flowState f == 2 && s.flowSrck f == 3 && s.flowSrcobj f == c

/-- A complete item placed, or discarded as one that has come before (R811 to R813). -/
def State.placeItem (s : State) (c x : Nat) (a : Assembly) : State :=
  let t := s.setAssembly c x none
  let d := (a.cseq + 65536 - s.get (CST_CHSTAT.CSEQ c)) % 65536
  if d = 0 ∨ 2 ^ 15 ≤ d then
    (t.returnBuffer (mkDesc [BitVec.ofNat 32 a.addr, 0, 0, 0, 0, 0, 0, 0])).count (CST_LNKCNT.DUP x) 1
  else
    let t := t.put (CST_CHSTAT.CSEQ c) a.cseq
    let w1 := fieldSet (fieldSet (descWord a.desc 1) 21 21 0) 20 16 0x02
    let d1 := descSetStamp (descSet (descSet a.desc 0 (BitVec.ofNat 32 a.addr)) 1 w1) (toTime96 a.stamp)
    let put (flow seq : Nat) := descSet (descSet d1 2 (fieldSet (descWord a.desc 2) 11 0 flow)) 3 (BitVec.ofNat 32 seq)
    match t.channelFlow c with
    | some f =>
      let seq := t.reg (CST_CHSEQ c)
      ((t.setReg (CST_CHSEQ c) (seq + 1)).hwEnqueue (s.get (CST_CHCFG.QUEUE c)) (put f seq.toNat)).2
    | none => (t.hwEnqueue (s.get (CST_CHCFG.QUEUE c)) (put 0 seqNone)).2

/-- A chunk of an item written to its buffer; after LAST the item is placed, and abandoned if a chunk is missing (R811). A chunk that
meets an uncorrectable plate error ends the item and stops the queue (10 R505). -/
def State.addChunk (s : State) (c x : Nat) (a : Assembly) (f : List Byte) : State :=
  let w := s.plateWrite 3 (a.addr + 64 * a.chunk) ((f.drop 60).take 64)
  let t := w.2.setAssembly c x (some { a with chunk := a.chunk + 1 })
  if !w.1 then (t.abandonItem c x).stopQueue (s.get (CST_CHCFG.QUEUE c)) true
  else if linkLast f then
    if 64 * (a.chunk + 1) < descLen a.desc then t.abandonItem c x else t.placeItem c x a
  else t

/-- A QHEAD frame for channel c (R811): it opens an item in a buffer of the channel's pool (10 R531). -/
def State.openItem (s : State) (c x stamp : Nat) (f : List Byte) : State :=
  let t := s.abandonItem c x
  let d := (f.drop 28).take 32
  let q := t.get (CST_CHCFG.QUEUE c)
  if t.bufferSize (t.get (CST_CHCFG.POOL c)) < descLen d then t.countDrop q
  else
    match t.takeBuffer (t.get (CST_CHCFG.POOL c)) with
    | (none, u) => u.countDrop q
    | (some a, u) => u.addChunk c x { cseq := linkCseq f, desc := d, addr := a, chunk := 0, stamp } f

/-- A QDATA frame for channel c (R811): the next chunk of the item open from this port, or a chunk out of order. -/
def State.continueItem (s : State) (c x : Nat) (f : List Byte) : State :=
  match s.assembly c x with
  | none => s
  | some a =>
    if linkCseq f = a.cseq ∧ linkChunk f = a.chunk ∧ 64 * (a.chunk + 1) ≤ s.bufferSize (s.get (CST_CHCFG.POOL c)) then
      s.addChunk c x a f
    else s.abandonItem c x

/-- A QHEAD or QDATA frame taken by its inbound channel, or put behind the queue manager's transfers that wait. -/
def State.takeItemFrame (s : State) (f : List Byte) (job : QueueJob) (run : State → Nat → State) : State :=
  match s.inboundChannel f with
  | none => s
  | some c =>
    let q := s.get (CST_CHCFG.QUEUE c)
    if s.queueWaits q || s.poolHeld (s.get (CST_CHCFG.POOL c)) then s.wait q job else run s c

/-- A QHEAD frame (R811). -/
def State.takeHead (s : State) (x stamp : Nat) (f : List Byte) : State :=
  s.takeItemFrame f (.head x stamp f) fun t c => t.openItem c x stamp f

/-- A QDATA frame (R811). -/
def State.takeData (s : State) (x : Nat) (f : List Byte) : State :=
  s.takeItemFrame f (.data x f) fun t c => t.continueItem c x f

/-- An EVENT frame (R816). -/
def State.takeEvents (s : State) (f : List Byte) : State :=
  let m := linkNum f 28 2
  s.registerEvents (((List.range 8).filter fun j =>
    s.on (CST_EVIN.EN j) && s.get (CST_EVIN.MEMBER j) == linkSrc f && m.testBit (s.get (CST_EVIN.INDEX j))).map (224 + ·))

/-- A CONTROL frame (R791, R796). -/
def State.takeControl (s : State) (x : Nat) (f : List Byte) : State :=
  let t := ((s.put (CST_LNKSTAT.PEERM x) (linkNum f 32 1 % 8)).put (CST_LNKSTAT.PEERV x) 1).setLink x
    { s.link x with peerAsym := some (BitVec.ofNat 32 (linkNum f 28 4)) }
  if (linkNum f 33 1).testBit 2 then t.linkDown x .peerLeft else t

/-- The estimate of a TRACK record (R808). -/
def trackEstimate (f : List Byte) (i tu : Nat) : Estimate :=
  { phase := linkNum f (i + 8) 4 * 2 ^ 32, freq := linkNum f (i + 12) 4, rho := signed 32 (linkNum f (i + 16) 4), tu }

/-- The record at byte i of a TRACK frame given to the trackers that follow it, if its instant is theirs (R808, 03 R124). -/
def State.takeTrack (s : State) (f : List Byte) (i : Nat) : List Nat → State
  | [] => s
  | n :: ns =>
    let k := s.rgl.time / updateSpan
    let pos := (linkSrc f + 8 - s.member) % 8
    (if s.get (CDR_PT_SRC.KIND n) = 3 ∧ s.get (CDR_PT_SRC.PEER n) = pos ∧ s.get (CDR_PT_SRC.PTRK n) = linkNum f i 1 ∧
        (linkNum f (i + 1) 1 = 2 ∨ linkNum f (i + 1) 1 = 3) ∧ linkNum f (i + 20) 4 = k * 250000 % 1000000000 then
      s.setTracker n { s.tracker n with peer := some (trackEstimate f i (k * updateSpan)) }
    else s).takeTrack f i ns

/-- The four records of a TRACK frame. -/
def State.takeTracks (s : State) (f : List Byte) : List Nat → State
  | [] => s
  | r :: rs => (s.takeTrack f (28 + 24 * r) (List.range 4)).takeTracks f rs

/-- A frame that this member consumes. -/
def State.consumeFrame (s : State) (x stamp : Nat) (f : List Byte) : State :=
  match linkType f with
  | 1 => s.takeHead x stamp f
  | 2 => s.takeData x f
  | 3 => s.takeEvents f
  | 5 => s.takeTracks f (List.range 4)
  | _ => s

/-- The position steps of the hop that a frame has taken to port x (R786). -/
def State.hopSteps (s : State) (x : Nat) : Nat :=
  let p := s.get (CST_LNKSTAT.PEERM x)
  if x = 1 then (s.member + 8 - p) % 8 else (p + 8 - s.member) % 8

/-- A frame queued for the other port (R794, R795, R820). -/
def State.forwardFrame (s : State) (x : Nat) (f : List Byte) : State :=
  let y := 1 - x
  if s.linkState x ≠ 3 ∨ s.linkState y ≠ 3 then s
  else
    let steps := (linkNum f 2 1 / 16 + s.hopSteps x) % 8
    let g := linkSet f 2 (leBytes 1 (linkType f + 16 * steps))
    s.setLink y { s.link y with forward := (s.link y).forward ++ [(linkSrc f, s.now / (256 * 65536), g)] }

/-- What a member does with a good frame after its measurement (R793, R795). -/
def State.routeFrame (s : State) (x stamp : Nat) (f : List Byte) : State :=
  if linkType f = 4 then s.takeControl x f
  else if linkType f = 0 ∨ linkSrc f = s.member then s
  else if linkBcast f then (s.consumeFrame x stamp f).forwardFrame x f
  else if linkDst f = s.member then s.consumeFrame x stamp f
  else s.forwardFrame x f

/-- Sixty-four good frames one after another take port x from TRAIN to CAL (R796). -/
def State.trained (s : State) (x : Nat) : State :=
  if s.linkState x = 1 ∧ 64 ≤ (s.link x).good then (s.setLinkState x 2).setLink x { s.link x with periods := 0 } else s

/-- A good frame of a reserved type on port x: it is counted, and it means nothing else (log entry 72). -/
def State.takeReserved (s : State) (x edge stamp : Nat) : State :=
  (s.setLink x { s.link x with good := (s.link x).good + 1, bad := 0, lastGood := edge, rxStamp := some stamp }).trained x

/-- A frame on port x whose CRC fails (R796). -/
def State.takeBad (s : State) (x stamp : Nat) : State :=
  let t := (s.count (CST_LNKCNT.CRCERR x) 1).setLink x { s.link x with good := 0, bad := (s.link x).bad + 1, rxStamp := some stamp }
  if 16 ≤ (t.link x).bad then t.linkDown x .lost else t

/-- What a good frame of a type in use does to port x itself: its counts, the members seen and the port's way up. -/
def State.takeGood (s : State) (x : Nat) (f : List Byte) (stamp : Nat) : State :=
  let t := (s.measure x f stamp).trained x
  let t := if linkSrc f = t.member then t else t.notePresence (linkSrc f)
  if 2 ≤ t.linkState x then ((t.elect).linkCals x false).linkSyncs x else t

/-- A frame received on port x, its marker in bin b of the present TCLK period. One of a reserved type is discarded whole (R792): its
CRC counts among the good ones, its marker is stamped, and nothing that it carries is used (log entry 72). -/
def State.receiveLink (s : State) (x b : Nat) (f : List Byte) : State :=
  if !s.linksAllowed || s.linkState x == 0 then s
  else
    let i := 0x73 + 2 * x
    let stamp := s.stampOf i b
    let t := (s.stampEdge i true b).2.linkUpdate x
    if !linkCrcGood f then t.takeBad x (stamp64 stamp)
    else if 6 ≤ linkType f then t.takeReserved x s.rgl.edge (stamp64 stamp)
    else
      let u := t.takeGood x f stamp
      if u.linkState x = 0 then u else u.routeFrame x stamp f

/-- The command of a frame of one type. -/
def State.receiveTyped (s : State) (ftype x b : Nat) (f : List Byte) : State :=
  if linkType f = ftype then s.receiveLink x b f else s

/-! ## Sending (R793, R797 to R799, R808, R810, R815) -/

/-- The pending EVMASK becomes an EVENT frame on every port in SYNC (R815). -/
def State.loadEvents (s : State) : State :=
  if s.evmask = 0 then s
  else
    let f := linkFrame 3 s.member 0 true 0 (leBytes 2 s.evmask)
    let add (t : State) (x : Nat) := if t.linkState x = 3 then t.setLink x { t.link x with events := (t.link x).events ++ [f] } else t
    { add (add s 0) 1 with evmask := 0 }

/-- CONTROL is due on port x (R793). -/
def State.controlReady (s : State) (x : Nat) : Bool := (s.link x).controlDue || decide (63 ≤ (s.link x).sinceControl)

/-- A CONTROL frame sent on port x. -/
def State.sendControl (s : State) (x b : Nat) : State :=
  let f := s.emptyFrame 4 x (s.controlPayload x false)
  let t := f.2.sendLink x b f.1
  t.setLink x { t.link x with controlDue := false, sinceControl := 0 }

/-- An IDLE frame sent on port x. -/
def State.sendIdle (s : State) (x b : Nat) : State :=
  let f := s.emptyFrame 0 x []
  f.2.sendLink x b f.1

/-- The first available frame of this member's own slot on port x, in the order of R799: `even` with TRACK, EVENT and CONTROL
ahead of the items. -/
def State.sendOwn (s : State) (x b : Nat) (even : Bool) : State :=
  let s := s.loadEvents
  let l := s.link x
  let t := s.setLink x { l with sinceControl := l.sinceControl + 1 }
  let l1 := t.link x
  match even && !(l.tracks.isEmpty && l.events.isEmpty && !s.controlReady x), l.items, l.tracks, l.events with
  | false, f :: r, _, _ => (t.setLink x { l1 with items := r }).sendLink x b f
  | _, _, f :: r, _ => (t.setLink x { l1 with tracks := r }).sendLink x b f
  | _, _, [], f :: r => (t.setLink x { l1 with events := r }).sendLink x b f
  | _, _, [], [] => if s.controlReady x then t.sendControl x b else t.sendIdle x b

/-- The origin to which period k belongs on port x (R798). -/
def State.slotOrigin (s : State) (x k : Nat) : Nat :=
  if x = 0 then (2 * s.member + 8 - k % 8) % 8 else (2 * s.member + k) % 8

/-- The frame of period k on port x in SYNC (R798, R799). -/
def State.sendSlot (s : State) (x b k : Nat) : State :=
  let m := s.slotOrigin x k
  let t := s.setLink x { s.link x with period := k + 1 }
  if m = s.member then t.sendOwn x b (k / 8 % 2 == 0)
  else
    match (s.link x).forward.find? fun p => p.1 == m && decide (p.2.1 < k) with
    | some p => (t.setLink x { t.link x with forward := (t.link x).forward.erase p }).sendLink x b p.2.2
    | none => t.sendIdle x b

/-- The payload record of tracker n at update instant k (R808). -/
def State.trackRecord (s : State) (n k : Nat) : List Byte :=
  let p := (s.tracker n).path.at (k * updateSpan) / 2 ^ 32
  leBytes 1 n ++ leBytes 1 (s.get (CDR_PT_STAT.STATE n)) ++ leBytes 2 0 ++ leBytes 4 (p / 2 ^ 32) ++ leBytes 4 p ++
    leBytes 4 (s.reg (CDR_FREQ n)).toNat ++ leBytes 4 (s.reg (CDR_ROCOF n)).toNat ++ leBytes 4 (k * 250000 % 1000000000)

/-- The records of every exported tracker put in a TRACK frame on each port in SYNC (R808). -/
def State.exportTracks (s : State) : State :=
  let k := s.rgl.time / updateSpan
  let ns := (List.range 4).filter fun n => (s.get CST_CFG.PTEXP).testBit n &&
    (s.get (CDR_PT_STAT.STATE n) == trackerLocked || s.get (CDR_PT_STAT.STATE n) == trackerHoldover)
  let t := { s with constellation := { s.constellation with exported := k + 1 } }
  if ns.isEmpty then t
  else
    let f := linkFrame 5 s.member 0 true 0 (ns.flatMap fun n => s.trackRecord n k)
    let add (u : State) (x : Nat) := if u.linkState x = 3 then u.setLink x { u.link x with tracks := (u.link x).tracks ++ [f] } else u
    add (add t 0) 1

/-- The ports in SYNC on which channel c sends. -/
def State.channelPorts (s : State) (c : Nat) : List Nat :=
  (List.range 2).filter fun x => (s.get (CST_CHCFG.ROUTE c)).testBit x && s.linkState x == 3

/-- The next outbound channel with a visible descriptor (R810). -/
def State.outboundChannel (s : State) : Option Nat :=
  (List.range 64).find? fun c =>
    s.on (CST_CHCFG.EN c) && s.get (QM_QCFG.CONS (s.get (CST_CHCFG.QUEUE c))) == 2 && !(s.channelPorts c).isEmpty &&
      (s.headSlot (s.get (CST_CHCFG.QUEUE c))).isSome && !s.headHeld (s.get (CST_CHCFG.QUEUE c))

/-- The frames of an item on channel c (R810): QHEAD and QDATA with CHUNK ascending. -/
def State.itemFrames (s : State) (c : Nat) (d bs : List Byte) : List (List Byte) :=
  let n := Nat.max 1 ((descLen d + 63) / 64)
  (List.range n).map fun i =>
    linkFrame (if i = 0 then 1 else 2) s.member (s.get (CST_CHCFG.PEER c)) false
      (s.get (CST_CHCFG.RCH c) + 64 * bit (i + 1 == n) + 256 * i + 65536 * s.get (CST_CHSTAT.CSEQ c))
      ((if i = 0 then d else List.replicate 32 0) ++ (bs.drop (64 * i)).take 64)

/-- Frames of an item queued on some ports. -/
def State.queueItem (s : State) (fs : List (List Byte)) : List Nat → State
  | [] => s
  | x :: xs => (s.setLink x { s.link x with items := (s.link x).items ++ fs }).queueItem fs xs

/-- ABANDON counted on some ports. -/
def State.countAbandon (s : State) : List Nat → State
  | [] => s
  | x :: xs => (s.count (CST_LNKCNT.ABANDON x) 1).countAbandon xs

/-- The head item of channel c taken and its frames queued; an uncorrectable error stops the queue (R810, 10 R505). -/
def State.sendItem (s : State) (c : Nat) : State :=
  let q := s.get (CST_CHCFG.QUEUE c)
  match s.readHead q with
  | (none, t) => t
  | (some d, t) =>
    if descExt d || decide (16384 < descLen d) then
      ((t.dequeue q).2.finishDescriptor q d).countAbandon (s.channelPorts c)
    else if s.rangeHeld (descAddr d) (descLen d) then s
    else
      match t.plateRead 3 (descAddr d) ((descLen d + 63) / 64 * 64) with
      | (none, u) => u.stopQueue q true
      | (some bs, u) =>
        (((u.dequeue q).2.queueItem (s.itemFrames c d bs) (s.channelPorts c)).put (CST_CHSTAT.CSEQ c)
          (s.get (CST_CHSTAT.CSEQ c) + 1)).finishDescriptor q d

/-! ## Register writes (R793, R819, R821) -/

/-- CONTROL is due at once on both ports (R793). -/
def State.controlNow (s : State) : State :=
  let t := if 2 ≤ s.linkState 0 then s.setLink 0 { s.link 0 with controlDue := true } else s
  if 2 ≤ t.linkState 1 then t.setLink 1 { t.link 1 with controlDue := true } else t

/-- The rules of a write to CST_CFG. The member's own bit in PRES is 1 while it takes part (R817). -/
def writeCstCfg (v : Word) (s : State) : Effect :=
  if s.on CST_CFG.EN && fieldOf v 6 4 != s.member then .denied s
  else
    let t := s.plainWrite CST_CFG v
    let t := if bitAt v 0 then t.setPresent t.member true else t
    .ok (t.controlNow.elect)

/-- The rules of a write to CST_CAND. -/
def writeCstCand (v : Word) (s : State) : Effect := .ok ((s.plainWrite CST_CAND v).controlNow.elect)

/-- The rules of a write to CST_SERVO: a TAU below 4 stores 4. -/
def writeCstServo (v : Word) (s : State) : Effect :=
  let t := s.plainWrite CST_SERVO v
  .ok (if fieldOf v 19 16 < 4 then t.put CST_SERVO.TAU 4 else t)

/-- The rules of a write to CST_LNKCTLx. -/
def writeCstLnkctl (x : Nat) (v : Word) (s : State) : Effect :=
  let t := if bitAt v 1 then s.leaveLink x else s
  let u := t.plainWrite (CST_LNKCTL x) v
  .ok (if bitAt v 0 then u else u.linkDown x .lost)

/-- The rules of a write to CST_ASYMx. -/
def writeCstAsym (x : Nat) (v : Word) (s : State) : Effect :=
  if s.linkState x ≠ 0 then .denied s else .ok ((s.plainWrite (CST_ASYM x) v).controlNow)

/-- The rules of a write to CST_CHCFG of channel c. -/
def writeCstChcfg (c : Nat) (v : Word) (s : State) : Effect :=
  if s.on (CST_CHCFG.EN c) then .denied s else .ok (s.plainWrite (CST_CHCFG c) v)

/-! ## The commands -/

/-- LINK_TRAINING_ENTRY (R796): K28.5 received on both lanes in DOWN. -/
def execLinkTrainingEntry (x : Fin 2) (s : State) : Host.Outcome State Fault Refusal :=
  .next (if s.linksAllowed && s.linkState x == 0 && s.on (CST_LNKCTL.EN x) then
      (s.setLinkState x 1).setLink x { link0 with lastGood := s.rgl.edge }
    else s)

/-- LINK_FRAME_RECEIVED (R792, R795). -/
def execLinkFrameReceived (x : Fin 2) (b : Fin 32) (frame : List Byte) (s : State) : Host.Outcome State Fault Refusal :=
  .next (s.receiveLink x b frame)

/-- QHEAD (R811). -/
def execQhead (x : Fin 2) (b : Fin 32) (frame : List Byte) (s : State) : Host.Outcome State Fault Refusal :=
  .next (s.receiveTyped 1 x b frame)

/-- QDATA (R811). -/
def execQdata (x : Fin 2) (b : Fin 32) (frame : List Byte) (s : State) : Host.Outcome State Fault Refusal :=
  .next (s.receiveTyped 2 x b frame)

/-- EVENT_FRAME (R816). -/
def execEventFrame (x : Fin 2) (b : Fin 32) (frame : List Byte) (s : State) : Host.Outcome State Fault Refusal :=
  .next (s.receiveTyped 3 x b frame)

/-- CONTROL_FRAME (R791, R796). -/
def execControlFrame (x : Fin 2) (b : Fin 32) (frame : List Byte) (s : State) : Host.Outcome State Fault Refusal :=
  .next (s.receiveTyped 4 x b frame)

/-- TRACK (R808). -/
def execTrack (x : Fin 2) (b : Fin 32) (frame : List Byte) (s : State) : Host.Outcome State Fault Refusal :=
  .next (s.receiveTyped 5 x b frame)

/-- TRACK_EXPORT (R808): once for each update instant. -/
def execTrackExport (s : State) : Host.Outcome State Fault Refusal :=
  .next (if s.linksAllowed && decide (s.constellation.exported ≤ s.rgl.time / updateSpan) then s.exportTracks else s)

/-- LINK_FRAME_TIMEOUT (R796): no good frame for 1 µs, 500 TCLK periods. -/
def execLinkFrameTimeout (x : Fin 2) (s : State) : Host.Outcome State Fault Refusal :=
  .next (if s.linkState x ≠ 0 ∧ (s.link x).lastGood + 500 ≤ s.rgl.edge then s.linkDown x .lost else s)

/-- LINK_UPDATE (R800). -/
def execLinkUpdate (x : Fin 2) (s : State) : Host.Outcome State Fault Refusal :=
  .next (if s.linkState x = 0 then s else s.linkUpdate x)

/-- SERVO_OWNER_HANDOVER (R807). -/
def execServoOwnerHandover (s : State) : Host.Outcome State Fault Refusal :=
  .next <|
    if !s.constellation.servoDue || !s.pllsRun then s
    else
      let t := { s with constellation := { s.constellation with servoDue := false } }
      let v := BitVec.ofNat 32 (if s.on CST_STAT.ISSRC then s.get CST_CFG.SERVO else 2)
      if s.on CST_CFG.EN then (t.writeReg .assistant RGL_SRV_OWN v (writeRglSrvOwn v)).elect else t

/-- PRESENCE_TIMEOUT (R817): 1 ms, 500 000 TCLK periods, without a frame from member m. -/
def execPresenceTimeout (m : Fin 8) (s : State) : Host.Outcome State Fault Refusal :=
  .next <|
    match tget (fun _ => none) s.constellation.seen m.val with
    | some k => if k + 500000 ≤ s.rgl.edge ∧ m.val ≠ s.member then
        { s with constellation := { s.constellation with seen := tset (fun _ => none) s.constellation.seen m.val none } }.setPresent m false
      else s
    | none => s

/-- LEAVE (R819): a write of CST_LNKCTLx with LEAVE = 1. -/
def execLeave (x : Fin 2) (o : Origin) (v : Word) (s : State) : Host.Outcome State Fault Refusal :=
  .next (s.writeReg o (CST_LNKCTL x) (v ||| 2) (writeCstLnkctl x (v ||| 2)))

/-- OUTBOUND_ITEM_SEND (R810): an item is sent whole before the next is chosen. -/
def execOutboundItemSend (s : State) : Host.Outcome State Fault Refusal :=
  .next <|
    if !s.linksAllowed || !((s.link 0).items.isEmpty && (s.link 1).items.isEmpty) then s
    else match s.outboundChannel with
      | some c => s.sendItem c
      | none => s

/-- FRAME_PERIOD_SLOT (R797 to R799, R796): in SYNC one frame for each period; in CAL CONTROL or IDLE, in TRAIN IDLE, back to
back. -/
def execFramePeriodSlot (x : Fin 2) (b : Fin 32) (s : State) : Host.Outcome State Fault Refusal :=
  .next <|
    if !s.linksAllowed then s
    else
      let k := s.now / (256 * 65536)
      match s.linkState x with
      | 3 => if (s.link x).period ≤ k then s.sendSlot x b k else s
      | 2 =>
        let t := s.setLink x { s.link x with sinceControl := (s.link x).sinceControl + 1 }
        if s.controlReady x then t.sendControl x b else t.sendIdle x b
      | 1 => s.sendIdle x b
      | _ => s

end Sys2Proof.Machine
end

