-- ==== Sys2Proof/Machine/Frames.lean ====
section
/-! DEFINITION. Ethernet frames as lists of bytes, from the first byte of the destination address to the frame check sequence: the
edits of the PTP correction engine (11 R578 to R582), of HSR and PRP (R586 to R589) and of sequence recovery (R590, R593). The
formats of IEEE 802.3, 802.1Q, 802.1CB, 1588 and IEC 62439-3 are those standards' (log entry 34). -/

namespace Sys2Proof.Machine

/-- The big-endian number in n bytes from offset i. -/
def frameNum (f : List Byte) (i n : Nat) : Nat := ofBeBytes ((f.drop i).take n)

/-- Bytes replaced from offset i on. -/
def framePut (f : List Byte) (i : Nat) (bs : List Byte) : List Byte := f.take i ++ bs ++ f.drop (i + bs.length)

/-- The frame without its frame check sequence. -/
def frameBody (f : List Byte) : List Byte := f.take (f.length - 4)

/-- The frame check sequence is that of the body. -/
def fcsGood (f : List Byte) : Bool :=
  decide (4 ≤ f.length) && ofLeBytes (f.drop (f.length - 4)) == (crc32 (frameBody f)).toNat

/-- A body with its frame check sequence, or with a bad one (11 R581). -/
def withFcs (body : List Byte) (good : Bool) : List Byte :=
  body ++ leBytes 4 (if good then crc32 body else ~~~ crc32 body).toNat

/-- The frame ended with its frame check sequence inverted (11 R554, R573, R576, R616). -/
def spoilFcs (f : List Byte) : List Byte := frameBody f ++ (f.drop (f.length - 4)).map (~~~ ·)

/-- The source address. -/
def frameSource (f : List Byte) : Nat := frameNum f 6 6

/-- The frame has a VLAN tag after its source address. -/
def hasVlan (f : List Byte) : Bool := frameNum f 12 2 == 0x8100

/-- Where an HSR tag's Ethertype stands: after the source address or after one VLAN tag. -/
def hsrAt (f : List Byte) : Option Nat :=
  if frameNum f 12 2 = 0x892F then some 12 else if hasVlan f && frameNum f 16 2 == 0x892F then some 16 else none

/-- Where the Ethertype stands, past at most one VLAN tag and one HSR tag. -/
def etherAt (f : List Byte) : Nat :=
  match hsrAt f with
  | some 12 => if frameNum f 18 2 = 0x8100 then 22 else 18
  | some _ => 22
  | none => if hasVlan f then 16 else 12

/-- Where an R-TAG's Ethertype stands. -/
def rTagAt (f : List Byte) : Option Nat := if frameNum f (etherAt f) 2 = 0xF1C1 then some (etherAt f) else none

/-- The LSDU size of IEC 62439-3 for a body with its tag or trailer. -/
def lsduSize (body : List Byte) : Nat := body.length - 14 - (if hasVlan body then 4 else 0)

/-- Where a PRP trailer stands: the last six bytes of the body, with suffix 0x88FB and the LSDU size of the body. -/
def rctAt (f : List Byte) : Option Nat :=
  let b := frameBody f
  if 20 ≤ b.length ∧ frameNum b (b.length - 2) 2 = 0x88FB ∧ frameNum b (b.length - 4) 2 % 4096 = lsduSize b % 4096 then
    some (b.length - 6)
  else none

/-- The sequence number of an HSR tag or a PRP trailer. -/
def hsrSeq (f : List Byte) : Option Nat := (hsrAt f).map fun i => frameNum f (i + 4) 2
def rctSeq (f : List Byte) : Option Nat := (rctAt f).map fun i => frameNum f i 2

/-- The sequence number that a recovery stream judges, by `FPT_RCVCFG.SRC` (11 R590). -/
def recoverySeq (src : Nat) (f : List Byte) : Option Nat :=
  match src with
  | 0 => (rTagAt f).map fun i => frameNum f (i + 4) 2
  | 1 => hsrSeq f
  | _ => rctSeq f

/-- Bytes taken out of a frame, with a new frame check sequence. -/
def frameCut (f : List Byte) (i n : Nat) : List Byte :=
  let b := frameBody f
  withFcs (b.take i ++ b.drop (i + n)) (fcsGood f)

/-- A frame without its R-TAG (11 R593), its HSR tag or its PRP trailer (R586). -/
def popRTag (f : List Byte) : List Byte :=
  match rTagAt f with
  | some i => frameCut f i 6
  | none => f
def popHsr (f : List Byte) : List Byte :=
  match hsrAt f with
  | some i => frameCut f i 6
  | none => f
def popRct (f : List Byte) : List Byte :=
  match rctAt f with
  | some i => frameCut f i 6
  | none => f

/-- An HSR tag put after the source address (11 R586). -/
def pushHsr (f : List Byte) (seq : Nat) : List Byte :=
  let b := frameBody f
  let n := b.length + 6 - 14 - (if hasVlan b then 4 else 0)
  withFcs (b.take 12 ++ beBytes 2 0x892F ++ beBytes 2 (n % 4096) ++ beBytes 2 seq ++ b.drop 12) (fcsGood f)

/-- A PRP trailer appended, with LAN identifier 0xA (11 R586). -/
def pushRct (f : List Byte) (seq : Nat) : List Byte :=
  let b := frameBody f
  let n := lsduSize b + 6
  withFcs (b ++ beBytes 2 seq ++ beBytes 2 (0xA000 + n % 4096) ++ beBytes 2 0x88FB) (fcsGood f)

/-- The path identifier of an HSR tag, or the LAN identifier of a PRP trailer, replaced: the top four bits of the 16-bit word at
offset i. -/
def setLan (f : List Byte) (i lan : Nat) : List Byte :=
  let b := frameBody f
  withFcs (framePut b i (beBytes 2 (lan % 16 * 4096 + frameNum b i 2 % 4096))) (fcsGood f)

/-! ## PTP (11 R578 to R582) -/

/-- Where the PTP header stands, and the UDP checksum if the frame is UDP/IPv4: the supported forms of *PTP correction*. -/
def ptpAt (f : List Byte) : Option (Nat × Option Nat) :=
  let i := etherAt f
  let at_ := if frameNum f i 2 = 0x88F7 then some (i + 2, none)
    else if frameNum f i 2 = 0x0800 ∧ frameNum f (i + 2) 1 = 0x45 ∧ frameNum f (i + 11) 1 = 17 ∧ frameNum f (i + 24) 2 = 319 then
      some (i + 30, some (i + 28))
    else none
  at_.filter fun p => decide (p.1 + 34 ≤ (frameBody f).length) && decide (frameNum f p.1 1 % 16 ≤ 3)

/-- The PTP message type. -/
def ptpType (f : List Byte) (i : Nat) : Nat := frameNum f i 1 % 16

/-- The frame after a PTP edit of its body: the UDP checksum is 0 and the frame check sequence new (11 R581). -/
def ptpSeal (f body : List Byte) (udp : Option Nat) : List Byte :=
  withFcs (match udp with | some u => framePut body u [0, 0] | none => body) (fcsGood f)

/-- V, from a receive stamp in units of 2^-16 ns (11 R579). -/
def ptpIngressWord (stamp rxlat ld : Nat) : Nat := unsigned 32 ((stamp / 4096 : Nat) - (rxlat : Int) - (ld : Int))

/-- The ingress edit (11 R579): bytes 16 to 19 of the header take V. -/
def ptpIngress (f : List Byte) (at_ : Nat × Option Nat) (v : Nat) : List Byte :=
  ptpSeal f (framePut (frameBody f) (at_.1 + 16) (beBytes 4 v)) at_.2

/-- A correctionField with a number added, saturating at its largest value. -/
def correctionPlus (c d : Nat) : Nat := unsigned 64 (clampInt (-(2 ^ 63)) (2 ^ 63 - 1) (signed 64 c + d))

/-- Δ of 11 R580, from the transmit stamp in units of 2^-16 ns. -/
def ptpDelta (stamp txlat v : Nat) : Nat := (stamp / 4096 + txlat + 2 ^ 32 - v) % 2 ^ 32

/-- The egress edit (11 R580), and whether the correctionField was left unchanged. -/
def ptpEgress (f : List Byte) (at_ : Nat × Option Nat) (stamp txlat : Nat) : Bool × List Byte :=
  let b := frameBody f
  let d := ptpDelta stamp txlat (frameNum f (at_.1 + 16) 4)
  let skip := decide (2 ^ 31 ≤ d)
  let c := framePut b (at_.1 + 8) (beBytes 8 (correctionPlus (frameNum f (at_.1 + 8) 8) (d * 4096)))
  (skip, ptpSeal f (framePut (if skip then b else c) (at_.1 + 16) [0, 0, 0, 0]) at_.2)

/-- The frame is a Sync with twoStepFlag 0 that holds an originTimestamp (11 R582). -/
def oneStepSync (f : List Byte) : Option (Nat × Option Nat) :=
  (ptpAt f).filter fun p => ptpType f p.1 == 0 && !(frameNum f (p.1 + 6) 1).testBit 1 && decide (p.1 + 44 ≤ (frameBody f).length)

/-- The origin insertion (11 R582), from t in units of 2^-16 ns. -/
def ptpOrigin (f : List Byte) (at_ : Nat × Option Nat) (t : Nat) : List Byte :=
  let b := frameBody f
  let sec := t / (1000000000 * 65536)
  let ns := t % (1000000000 * 65536) / 65536
  let b := framePut b (at_.1 + 34) (beBytes 6 sec ++ beBytes 4 ns)
  let c := correctionPlus (frameNum f (at_.1 + 8) 8) (t % 65536 / 4096 * 4096)
  ptpSeal f (framePut b (at_.1 + 8) (beBytes 8 c)) at_.2

end Sys2Proof.Machine
end

