-- ==== Sys2Proof/Machine/FramePorts.lean ====
section
/-! DEFINITION. The frame ports (11): bypass, stamps, Finder, copies, PTP correction, redundancy, sequence recovery, gates, the
emission ledger, multicast and counters. One command passes one frame (log entry 36). -/

namespace Sys2Proof.Machine

/-! ## Ports, events and counters -/

/-- A gate list of no entries. -/
def gates0 : GateList := { start := 0, len := 0, cyc := 0, x := 0 }

/-- A port's hidden state at reset. -/
def port0 : FramePort :=
  { ruleHold := [], entryHold := [], ruleWait := none, gates := gates0, nextGates := gates0, core := none, bypWait := false,
    refillEdge := 0, delayEdge := 0, toMac := [], toCore := [] }

/-- What port p holds beside its registers. -/
def State.port (s : State) (p : Nat) : FramePort := tget (fun _ => port0) s.ports p

/-- The same written. -/
def State.setPort (s : State) (p : Nat) (x : FramePort) : State := { s with ports := tset (fun _ => port0) s.ports p x }

/-- BYPASS[p] is 1 (11 R553). -/
def State.bypassed (s : State) (p : Nat) : Bool :=
  !s.ifcOn || s.get CLU_STAT.STATE == 0 || s.get CLU_STAT.STATE == 1 || s.get CLU_STAT.STATE == 6 ||
    s.get CLU_STAT.STATE == 7 || (s.on (FPT_CTL.BYP p) != (s.port p).bypWait)

/-- Bit b of FPT_EVSRC set by the hardware, with its line (11 R619). -/
def State.portEvent (s : State) (p b : Nat) : State :=
  (s.setBit (FPT_EVSRC p) b true).registerEvent (if b < 16 then 16 + 2 * p else 17 + 2 * p)

/-- Counter i of port p (11 R620). -/
def State.portCount (s : State) (p i : Nat) : State := s.count (FPT_CNT.COUNT p i) 1

/-- The frame at a stamp point of port p in bin b of the present TCLK period: its stamp in units of 2^-16 ns (11 R557). -/
def State.frameStamp (s : State) (i b : Nat) : Nat × State := (s.stampOf i b, (s.stampEdge i true b).2)

/-- A write of FPT_CTL (11 R554): a change of BYP waits for the end of the frames in progress. -/
def writeFptCtl (p : Nat) (v : Word) (s : State) : Effect :=
  let inForce := s.on (FPT_CTL.BYP p) != (s.port p).bypWait
  .ok ((s.plainWrite (FPT_CTL p) v).setPort p { s.port p with bypWait := bitAt v 0 != inForce })

/-! ## The Finder (11 R560 to R566) -/

/-- Term t of rule r: its VALUE and MASK. -/
def State.ruleTerm (s : State) (p r t : Nat) : Word := s.reg (FPT_FRW0 p r + 4 * t)

/-- Term t of rule r is true of a frame (11 R561, R562). -/
def State.termTrue (s : State) (p r t : Nat) (f : List Byte) : Bool :=
  let w := s.ruleTerm p r t
  let i := 2 * fieldOf (s.reg (FPT_FRW4 p r)) (7 * t + 6) (7 * t)
  let mask := fieldOf w 15 0
  mask == 0 || decide (i + 2 ≤ f.length) && (frameNum f i 2 &&& mask) == (fieldOf w 31 16 &&& mask)

/-- Rule r matches a frame of a direction, true for egress (11 R563). -/
def State.ruleMatches (s : State) (p r : Nat) (egress : Bool) (f : List Byte) : Bool :=
  s.on (FPT_FRW4.EN p r) && s.on (FPT_FRW4.DIR p r) == egress && (List.range 4).all fun t => s.termTrue p r t f

/-- The rule that decides. -/
def State.finderRule (s : State) (p : Nat) (egress : Bool) (f : List Byte) : Option Nat :=
  (List.range 256).find? fun r => s.ruleMatches p r egress f

/-- The action: 0 FORWARD, 1 DROP, 2 COPY, 3 REDIRECT (11 R563, R566). -/
def State.finderAct (s : State) (p : Nat) (egress : Bool) (rule : Option Nat) : Nat :=
  match rule with
  | some r => s.get (FPT_FRW5.ACT p r)
  | none => s.get (if egress then FPT_CTL.DEFE p else FPT_CTL.DEFI p)

/-- The decision has PTPC. -/
def State.finderPtp (s : State) (p : Nat) (rule : Option Nat) : Bool := rule.any fun r => s.on (FPT_FRW5.PTPC p r)

/-! ## Copies (11 R567 to R571) -/

/-- The judgement of a copy under a flow (11 R570, R571): whether the copy is made, its SEQ, and the state. An acceptance entry
that is missing leaves SEQ free (log entry 37). While sources do not accept, every copy is policed (15 R776). -/
def State.judgeCopy (s : State) (p f len : Nat) : Bool × Nat × State :=
  match s.portEntry p 1 f with
  | none => (true, (s.fresh 32).1.toNat, (s.fresh 32).2)
  | some k =>
    if s.sourcesClosed then (false, 0, (s.portCount p 3).portEvent p 0)
    else if len ≤ s.bucket p k then
      let t := s.setBucket p k (s.bucket p k - len)
      (true, (s.reg (FPT_FTW1 p k)).toNat, t.setReg (FPT_FTW1 p k) (s.reg (FPT_FTW1 p k) + 1))
    else if s.on (FPT_FTW0.POLICE p k) then (false, 0, (s.portCount p 3).portEvent p 0)
    else (true, seqNone, s.portCount p 4)

/-- A copy written into a buffer and its descriptor placed on queue q (11 R567); one that finds no buffer counts as dropped (R620). -/
def State.placeCopy (s : State) (q p r : Nat) (f : List Byte) (good : Bool) (stamp : Time96) (flow seq : Nat) : State :=
  let pool := s.get (FPT_FRW5.POOL p r)
  let t := if s.bufferSize pool < f.length ∨ (s.queue (s.get (QM_PCFG.FREEQ pool))).vis = 0 then s.portCount p 2 else s
  (t.placeBurst pool q f (hwDesc 0 (descWord1 f.length (8 + p) false good false 0) flow seq stamp r)).2

/-- A copy of rule r placed, or put behind the transfers that wait (11 R569). -/
def State.offerCopy (s : State) (p r : Nat) (f : List Byte) (good : Bool) (stamp : Time96) (flow seq : Nat) : State :=
  let q := s.get (FPT_FRW5.QUEUE p r)
  if s.queueWaits q || s.poolHeld (s.get (FPT_FRW5.POOL p r)) then s.wait q (.copy p r f good stamp flow seq)
  else s.placeCopy q p r f good stamp flow seq

/-- The copy that rule r makes of a frame: whether it was policed, and the state. `full` says that the copy buffering was full at
one of its bytes (11 R569). An egress copy has no receive stamp: its STAMP is free (log entry 37). -/
def State.copyFrame (s : State) (p r : Nat) (egress : Bool) (f : List Byte) (good full : Bool) (stamp : Nat) : Bool × State :=
  if full then (false, (s.portCount p 2).portEvent p 10)
  else if !good && !s.on (FPT_CTL.KEEPBAD p) then (false, if egress then s.portCount p 1 else s)
  else if egress then (false, (s.fresh 96).2.offerCopy p r f good (s.fresh 96).1 0 0)
  else if s.on (FPT_FRW5.FLOWEN p r) then
    let flow := s.get (FPT_FRW5.FLOW p r)
    let j := s.judgeCopy p flow f.length
    if j.1 then (false, j.2.2.offerCopy p r f good (toTime96 stamp) flow j.2.1) else (true, j.2.2)
  else (false, s.offerCopy p r f good (toTime96 stamp) 0 0)

/-! ## Redundancy (11 R585 to R589) -/

/-- Redundancy group g. -/
def State.group (s : State) (g : Nat) : RedundancyGroup := tget (fun _ => { proxies := [], duplicates := [] }) s.groups g

/-- The same written. -/
def State.setGroup (s : State) (g : Nat) (x : RedundancyGroup) : State :=
  { s with groups := tset (fun _ => { proxies := [], duplicates := [] }) s.groups g x }

/-- The group of port p. -/
def State.groupOf (s : State) (p : Nat) : Nat := s.get (FPT_RED.GROUP p)

/-- TCLK edges in a millisecond: 2 ns each (02 R45). -/
def edgesPerMs : Nat := 500000

/-- A source address is in the proxy table of port p's group. -/
def State.proxied (s : State) (p source : Nat) : Bool := (s.group (s.groupOf p)).proxies.any fun x => x.1 == source

/-- A source address enters the proxy table, or its entry is renewed; a full table of 128 takes no further one (log entry 38). -/
def State.enterProxy (s : State) (p source : Nat) : State :=
  let g := s.group (s.groupOf p)
  let others := g.proxies.filter fun x => x.1 != source
  if others.length < 128 then s.setGroup (s.groupOf p) { g with proxies := others ++ [(source, s.rgl.edge)] } else s

/-- The lifetime of a duplicate entry in TCLK edges (11 R588). -/
def State.forgetEdges (s : State) (g : Nat) : Nat := Nat.max 1 (s.get (FPT_RGRP.FORGET g)) * edgesPerMs

/-- A pair of source address and sequence number is in the duplicate table for port p. -/
def State.duplicateAt (s : State) (p source seq : Nat) : Bool :=
  (s.group (s.groupOf p)).duplicates.any fun d =>
    d.source == source && d.seq == seq && d.port == p && decide (s.rgl.edge < d.edge + s.forgetEdges (s.groupOf p))

/-- An entry of the duplicate table for a frame that passed its check; in a full table of 1024 it replaces the oldest (11
R588). -/
def State.noteDuplicate (s : State) (p source seq : Nat) : State :=
  let g := s.group (s.groupOf p)
  let full := decide (1024 ≤ g.duplicates.length)
  let kept := if full then g.duplicates.tail else g.duplicates
  let t := s.setGroup (s.groupOf p) { g with duplicates := kept ++ [{ source, seq, port := p, edge := s.rgl.edge }] }
  if full then (t.portCount p 12).portEvent p 9 else t

/-- The next sequence number of port p's group, and the state that has used it (11 R587). -/
def State.nextRedSeq (s : State) (p : Nat) : Nat × State :=
  let g := s.groupOf p
  (s.get (FPT_RGRP.SEQ g), s.put (FPT_RGRP.SEQ g) (s.get (FPT_RGRP.SEQ g) + 1))

/-- The ingress path's part of the redundancy role (11 R586): the frame that goes on, none if it is dropped. -/
def State.redIngress (s : State) (p : Nat) (f : List Byte) : Option (List Byte) × State :=
  match s.get (FPT_RED.MODE p) with
  | 1 => if (hsrAt f).isSome && s.proxied p (frameSource f) then (none, s.portCount p 11) else (some f, s)
  | 2 => if (hsrAt f).isSome then (some f, s)
    else
      let q := (s.enterProxy p (frameSource f)).nextRedSeq p
      (some (pushHsr f q.1), q.2)
  | 4 =>
    let q := (s.enterProxy p (frameSource f)).nextRedSeq p
    (some (pushRct f q.1), q.2)
  | _ => (some f, s)

/-- The duplicate check of the egress path: whether the frame passes. -/
def State.checkDuplicate (s : State) (p source : Nat) (seq : Option Nat) : Bool × State :=
  match seq with
  | some q => if s.duplicateAt p source q then (false, s.portCount p 10) else (true, s.noteDuplicate p source q)
  | none => (true, s)

/-- The identifiers that the egress path writes for a source in the proxy table (11 R586). -/
def State.redMark (s : State) (p : Nat) (f : List Byte) : List Byte :=
  let lan := s.get (FPT_RED.LANB p)
  if !s.proxied p (frameSource f) then f
  else match s.get (FPT_RED.MODE p), hsrAt f, rctAt f with
    | 1, some i, _ => setLan f (i + 2) lan
    | 3, _, some i => setLan f (i + 2) (0xA + lan)
    | _, _, _ => f

/-- The egress path's part of the redundancy role for a frame from the switch core (11 R586): the frame that goes on, none if it
is dropped. -/
def State.redEgress (s : State) (p : Nat) (f : List Byte) : Option (List Byte) × State :=
  match s.get (FPT_RED.MODE p) with
  | 1 =>
    let r := s.checkDuplicate p (frameSource f) (hsrSeq f)
    (if r.1 then some (s.redMark p f) else none, r.2)
  | 2 =>
    if s.proxied p (frameSource f) then (none, s)
    else
      let r := s.checkDuplicate p (frameSource f) (hsrSeq f)
      (if r.1 then some (popHsr f) else none, r.2)
  | 3 => (some (s.redMark p f), s)
  | 4 =>
    let r := s.checkDuplicate p (frameSource f) (rctSeq f)
    (if r.1 then some (popRct f) else none, r.2)
  | _ => (some f, s)

/-! ## Sequence recovery (11 R590 to R593) -/

/-- A stream that takes the next number as new. -/
def stream0 : RecoveryStream := { seq := 0, history := 0, takeAny := true, edge := 0 }

/-- Recovery stream i of port p. -/
def State.stream (s : State) (p i : Nat) : RecoveryStream := tget (fun _ => stream0) s.streams (32 * p + i)

/-- The same written. -/
def State.setStream (s : State) (p i : Nat) (x : RecoveryStream) : State :=
  { s with streams := tset (fun _ => stream0) s.streams (32 * p + i) x }

/-- The vector recovery algorithm of IEEE 802.1CB with a history of n numbers: whether number q is accepted, and the stream
(log entry 34). -/
def RecoveryStream.judge (x : RecoveryStream) (n q edge : Nat) : Bool × RecoveryStream :=
  let d := signed 16 (q + 65536 - x.seq)
  if x.takeAny then (true, { seq := q, history := 1, takeAny := false, edge })
  else if d ≤ -(n : Int) ∨ (n : Int) ≤ d then (false, x)
  else if d ≤ 0 then
    if x.history.testBit (-d).toNat then (false, x) else (true, { x with history := x.history ||| 2 ^ (-d).toNat, edge })
  else (true, { x with seq := q, history := (x.history <<< d.toNat ||| 1) % 2 ^ n, edge })

/-- A frame judged by its rule's recovery stream (11 R590, R592, R593): the frame that goes on, none if it is discarded. -/
def State.recover (s : State) (p : Nat) (rule : Option Nat) (f : List Byte) : Option (List Byte) × State :=
  match rule with
  | some r =>
    if s.on (FPT_FRW6.RCVEN p r) then
      let i := s.get (FPT_FRW6.RCV p r)
      match recoverySeq (s.get (FPT_RCVCFG.SRC p i)) f with
      | some q =>
        let j := (s.stream p i).judge (s.get (FPT_RCVCFG.HIST p i) + 1) q s.rgl.edge
        if j.1 then (some (if s.on (FPT_RCVCFG.POP p i) then popRTag f else f), s.setStream p i j.2) else (none, s.portCount p 14)
      | none => (none, s.portCount p 14)
    else (some f, s)
  | none => (some f, s)

/-! ## The ingress path -/

/-- A frame presented to the switch core. -/
def State.sendCore (s : State) (p : Nat) (f : List Byte) : State := s.setPort p { s.port p with toCore := f }

/-- The PTP edit of the ingress path (11 R578, R579). -/
def State.ptpIn (s : State) (p stamp : Nat) (f : List Byte) : List Byte × State :=
  match ptpAt f with
  | some at_ =>
    let ld := if s.on (FPT_PTP.P2P p) && ptpType f at_.1 == 0 then s.get (FPT_LINKDLY.DLY p) else 0
    (ptpIngress f at_ (ptpIngressWord stamp (s.get (FPT_PHY.RXLAT p)) ld), s)
  | none => (f, s.portCount p 13)

/-- A frame from the MAC through the port (11 R552, R557, R563 to R573, R579, R586, R616). -/
def State.receiveFrame (s : State) (p b : Nat) (f : List Byte) (runtf full late : Bool) : State :=
  if s.bypassed p || !s.pllsRun then s
  else if f.length < 64 ∧ runtf then s
  else
    let st := s.frameStamp p b
    let good := fcsGood f
    let t := st.2.portCount p 0
    let t := if good then t else t.portCount p 1
    if f.length < 64 then (t.portCount p 16).sendCore p (spoilFcs f)
    else
      let rule := t.finderRule p false f
      let act := t.finderAct p false rule
      let c := match rule, act with
        | some r, 2 => t.copyFrame p r false f good full st.1
        | some r, 3 => t.copyFrame p r false f good full st.1
        | _, _ => (false, t)
      let pass := (act == 0 || act == 2) && !c.1
      let e := if t.finderPtp p rule then c.2.ptpIn p st.1 f else (f, c.2)
      if pass then
        match e.2.redIngress p e.1 with
        | (some g, u) => u.sendCore p g
        | (none, u) => u
      else if late then c.2.sendCore p (spoilFcs f)
      else c.2

/-- FRAME_RECEIVED (R557): a frame from the MAC in bin b of the present TCLK period. `runtf` is the level of RUNTF, `full` says that
the copy buffering was full at one of its bytes, `late` that a decision not to pass it came after its start. -/
def execFrameReceived (p : Fin 8) (b : Fin 32) (frame : List Byte) (runtf full late : Bool) (s : State) :
    Host.Outcome State Fault Refusal := .next (s.receiveFrame p b frame runtf full late)

/-- FRAME_FROM_SWITCH_CORE (R574): a frame of class c from the switch core is judged and waits for its transmission. While one waits
the port takes no other (21 R946). -/
def execFrameFromSwitchCore (p c : Fin 8) (frame : List Byte) (full : Bool) (s : State) : Host.Outcome State Fault Refusal :=
  .next <|
    if s.bypassed p || !s.pllsRun || (s.port p).core.isSome then s
    else
      let rule := s.finderRule p true frame
      let act := s.finderAct p true rule
      let t := match rule, act with
        | some r, 2 => (s.copyFrame p r true frame (fcsGood frame) full 0).2
        | some r, 3 => (s.copyFrame p r true frame (fcsGood frame) full 0).2
        | _, _ => s
      if act = 1 ∨ act = 3 then t
      else match t.redEgress p frame with
        | (none, u) => u
        | (some g, u) => match u.recover p rule g with
          | (none, v) => v
          | (some h, v) => v.setPort p { v.port p with core := some { cls := c, bytes := h, rule } }

/-! ## Gates (11 R594 to R602) -/

/-- The bit time of port p in units of 0.1 ns (11 `FPT_PHY.SPEED`). -/
def State.bitTenths (s : State) (p : Nat) : Nat :=
  match s.get (FPT_PHY.SPEED p) with
  | 0 => 1000
  | 1 => 100
  | 2 => 10
  | 3 => 4
  | 4 => 2
  | _ => 1

/-- The open intervals of class c in one cycle of a gate list, from entry i at offset `at_` on, `n` entries left, in ns: the
last entry's gates hold to the end of the cycle (11 R596). -/
def State.openSpans (s : State) (p c cyc : Nat) (i at_ : Nat) : Nat → List (Nat × Nat)
  | 0 => []
  | n + 1 =>
    let stop := at_ + s.get (FPT_GENT.INTERVAL p i)
    let upTo := if n = 0 then cyc else Nat.min stop cyc
    let rest := s.openSpans p c cyc (i + 1) stop n
    if (s.get (FPT_GENT.GATES p i)).testBit c && decide (at_ < upTo) then (at_, upTo) :: rest else rest

/-- Adjacent intervals joined: the windows of two consecutive cycles. -/
def joinSpans : List (Nat × Nat) → List (Nat × Nat)
  | [] => []
  | (a, b) :: r =>
    match joinSpans r with
    | [] => [(a, b)]
    | (c, d) :: q => if c ≤ b then (a, d) :: q else (a, b) :: (c, d) :: q

/-- The open intervals of one cycle of the active list. -/
def State.cycleSpans (s : State) (p c : Nat) : List (Nat × Nat) :=
  let g := (s.port p).gates
  s.openSpans p c g.cyc g.start 0 g.len

/-- The class is open in every instant of the cycle. -/
def State.alwaysOpen (s : State) (p c : Nat) : Bool := joinSpans (s.cycleSpans p c) == [(0, (s.port p).gates.cyc)]

/-- The windows over two cycles, in ns from the start of the first. -/
def State.windows (s : State) (p c : Nat) : List (Nat × Nat) :=
  let l := s.cycleSpans p c
  let n := (s.port p).gates.cyc
  joinSpans (l ++ l.map fun x => (x.1 + n, x.2 + n))

/-- A tenth of 2^-16 ns: the scale in which the gate rule compares. -/
def tenths (ns : Nat) : Nat := ns * 655360

/-- The length of a frame's occupancy (11 R598), scaled. -/
def State.occupancy (s : State) (p len : Nat) : Nat := (64 + 8 * len) * s.bitTenths p * 65536

/-- A frame of class c with `len` bytes and transmit stamp u (2^-16 ns) may start (11 R598, R599). With no list active none may
(log entry 39). -/
def State.mayStart (s : State) (p c len u : Nat) : Bool :=
  let g := (s.port p).gates
  if !s.on (FPT_GCTL.EN p) then true
  else
    let a := 10 * u - 64 * s.bitTenths p * 65536
    let x := 10 * g.x
    if g.len = 0 ∨ a < x then false
    else if s.alwaysOpen p c then true
    else
      let o := (a - x) % tenths g.cyc
      (s.windows p c).any fun w => decide (tenths w.1 ≤ o) && decide (o + s.occupancy p len ≤ tenths w.2)

/-- A frame fits in no window of its class in the active list (11 R601). -/
def State.fitsNever (s : State) (p c len : Nat) : Bool :=
  s.on (FPT_GCTL.EN p) && (s.port p).gates.len != 0 && !s.alwaysOpen p c &&
    !(s.windows p c).any fun w => decide (s.occupancy p len ≤ tenths (w.2 - w.1))

/-- GO is refused (11 R595). -/
def State.goRefused (s : State) (p : Nat) : Bool :=
  let len := s.get (FPT_GLIST.LEN p)
  len == 0 || decide (256 < s.get (FPT_GLIST.START p) + len) || decide (s.get (FPT_GCYC.CYC p) < 1000) ||
    s.on (FPT_GCTL.PENDING p)

/-- The pending list of port p, with its change time (11 R594). -/
def State.pendingList (s : State) (p : Nat) : GateList :=
  let base := ofTime96 (time96OfWords (s.reg (FPT_GBASE0 p)) (s.reg (FPT_GBASE1 p)) (s.reg (FPT_GBASE2 p)))
  let cyc := s.get (FPT_GCYC.CYC p)
  let least := s.now + 1000 * 65536
  { start := s.get (FPT_GLIST.START p), len := s.get (FPT_GLIST.LEN p), cyc,
    x := if least ≤ base then base else base + (least - base + cyc * 65536 - 1) / (cyc * 65536) * (cyc * 65536) }

/-- The rules of a write to FPT_GCTL (11 R594, R595). -/
def writeFptGctl (p : Nat) (v : Word) (s : State) : Effect :=
  let t := s.plainWrite (FPT_GCTL p) v
  if !bitAt v 1 then .ok t
  else if s.goRefused p then { state := (t.put (FPT_GCTL.GERR p) 1).portEvent p 7, refused := true }
  else .ok ((t.put (FPT_GCTL.PENDING p) 1).setPort p { t.port p with nextGates := s.pendingList p })

/-- An entry belongs to a list. -/
def GateList.holds (g : GateList) (i : Nat) : Bool := decide (g.start ≤ i) && decide (i < g.start + g.len)

/-- The rules of a write to FPT_GENT at entry i (11 R597). -/
def writeFptGent (p i : Nat) (v : Word) (s : State) : Effect :=
  if (s.port p).gates.holds i || (s.on (FPT_GCTL.PENDING p) && (s.port p).nextGates.holds i) then .denied s
  else .ok (s.plainWrite (FPT_GENT p i) v)

/-- GO (R594): FPT_GCTL written with GO = 1. -/
def execGo (p : Fin 8) (o : Origin) (v : Word) (s : State) : Host.Outcome State Fault Refusal :=
  .next (s.writeReg o (FPT_GCTL p) (v ||| 2) (writeFptGctl p (v ||| 2)))

/-- GATE_LIST_CHANGE (R594): the pending list becomes active at its change time. -/
def execGateListChange (p : Fin 8) (s : State) : Host.Outcome State Fault Refusal :=
  .next <|
    let g := (s.port p).nextGates
    if s.on (FPT_GCTL.PENDING p) && s.pllsRun && decide (g.x ≤ s.now) then
      let t := (s.put (FPT_GCTL.PENDING p) 0).setPort p { s.port p with gates := g, nextGates := gates0 }
      (t.setReg (FPT_GACT p) (BitVec.ofNat 32 (256 * g.len + g.start))).portEvent p 6
    else s

/-- The entry of a list in force at an offset into its cycle, in ns (11 R596). -/
def State.entryAt (s : State) (p : Nat) (o at_ i : Nat) : Nat → Nat
  | 0 => i
  | n + 1 =>
    let stop := at_ + s.get (FPT_GENT.INTERVAL p i)
    if n = 0 ∨ o < stop then i else s.entryAt p o stop (i + 1) n

/-- FPT_GCTL.ENTRY: the entry of the active list now in force, 0 with none. -/
def State.gateEntry (s : State) (p : Nat) : Nat :=
  let g := (s.port p).gates
  if g.len = 0 ∨ s.now < g.x then 0 else s.entryAt p ((s.now - g.x) / 65536 % g.cyc) 0 g.start g.len

/-! ## The egress path (11 R600, R603 to R612, 15 R751, R754) -/

/-- The frames of class queue c of leader l that wait for some port. -/
def State.residue (s : State) (l c : Nat) : List Residue := tget (fun _ => []) s.residues (8 * l + c)

/-- The same written. -/
def State.setResidue (s : State) (l c : Nat) (x : List Residue) : State :=
  { s with residues := tset (fun _ => []) s.residues (8 * l + c) x }

/-- The ports that emit class queue c of leader l, a mask (11 R609). -/
def State.leaderSet (s : State) (l c : Nat) : Nat := s.get (FPT_CLS.MCMASK l c) ||| 2 ^ l

/-- The next frame that port p has to emit from class queue c of leader l: its place in the residue and its descriptor (11 R610). -/
def State.portHead (s : State) (l c p : Nat) : Option (Nat × List Byte) :=
  if !s.on (FPT_CLS.EN l c) || !(s.leaderSet l c).testBit p then none
  else
    let r := s.residue l c
    match r.findIdx? (fun x => !x.done.testBit p) with
    | some i => (r[i]?).map fun x => (i, x.desc)
    | none => if 16 ≤ r.length then none
      else if s.headHeld (s.get (FPT_CLS.QUEUE l c)) then none
      else (s.headSlot (s.get (FPT_CLS.QUEUE l c))).map fun a => (r.length, s.bytes a 32)

/-- The head of class queue c of leader l read for port p, where the port has not kept it (10 R504, R505): the Bool says that it holds no
uncorrectable error, which stops the queue. -/
def State.readPortHead (s : State) (l c i : Nat) : Bool × State :=
  if i < (s.residue l c).length then (true, s)
  else ((s.readHead (s.get (FPT_CLS.QUEUE l c))).1.isSome, (s.readHead (s.get (FPT_CLS.QUEUE l c))).2)

/-- The leader whose queue port p serves next in class c: `lead` if it has a frame, else the first that has one. -/
def State.classLeader (s : State) (p c lead : Nat) : Option Nat :=
  if (s.portHead lead c p).isSome then some lead else (List.range 8).find? fun l => (s.portHead l c p).isSome

/-- An item of a flow to a frame port is delivered or tombstoned there (15 R743). -/
def State.portItemDone (s : State) (q : Nat) (d : List Byte) : State :=
  let f := descFlow d
  if s.flowValid f && s.get (AST_OT0.DSTK f) == 1 && s.get (AST_OT0.DSTQ f) == q && descSeq d != seqNone &&
      decide (0 < (s.flow f).inFlight) then s.itemDone f else s

/-- The frames at the front that every port of the set has emitted or dropped are finished with: the leader returns their
descriptors (11 R608, R612). -/
def State.finishFront (s : State) (l c : Nat) : Nat → State
  | 0 => s
  | n + 1 =>
    match s.residue l c with
    | x :: r =>
      if x.done &&& s.leaderSet l c = s.leaderSet l c then
        let q := s.get (FPT_CLS.QUEUE l c)
        (((s.setResidue l c r).finishDescriptor q x.desc).portItemDone q x.desc).finishFront l c n
      else s
    | [] => s

/-- Port p has emitted, dropped or consumed frame i of class queue c of leader l. -/
def State.portDone (s : State) (l c p i : Nat) (d : List Byte) : State :=
  let t := if i < (s.residue l c).length then s
    else (s.dequeue (s.get (FPT_CLS.QUEUE l c))).2.setResidue l c (s.residue l c ++ [{ desc := d, done := 0 }])
  let r := (t.residue l c).mapIdx fun j x => if j = i then { x with done := x.done ||| 2 ^ p } else x
  (t.setResidue l c r).finishFront l c 16

/-- s is above L (11 R604). -/
def seqAbove (q last : Nat) : Bool := let d := (q + 2 ^ 32 - last) % 2 ^ 32; decide (1 ≤ d) && decide (d < 2 ^ 31)

/-- The ledger entry that checks a descriptor (11 R605). -/
def State.ledgerFor (s : State) (p : Nat) (d : List Byte) : Option Nat :=
  if descSeq d = seqNone then none else s.portEntry p 2 (descFlow d)

/-- LAST of an entry takes a descriptor's SEQ. -/
def State.ledgerTake (s : State) (p : Nat) (d : List Byte) : State :=
  match s.ledgerFor p d with
  | some k => s.setReg (FPT_FTW1 p k) (BitVec.ofNat 32 (descSeq d))
  | none => s

/-- A ledger entry finds the descriptor's SEQ not above LAST. -/
def State.ledgerOld (s : State) (p : Nat) (d : List Byte) : Bool :=
  (s.ledgerFor p d).any fun k => !seqAbove (descSeq d) (s.reg (FPT_FTW1 p k)).toNat

/-- A descriptor checked by its ledger can no longer leave by its expiry (15 R754). -/
def State.expired (s : State) (p : Nat) (d : List Byte) : Bool :=
  (s.ledgerFor p d).isSome && decide (10 * ofTime96 (descStamp d) < 10 * s.now + s.occupancy p (descLen d))

/-- A descriptor consumed without transmission (11 R607, 15 R754): LAST takes a SEQ above it. -/
def State.consumeTomb (s : State) (p : Nat) (d : List Byte) : State :=
  let t := if s.ledgerOld p d then s else s.ledgerTake p d
  (t.portCount p 7).portEvent p 4

/-- The bytes of a descriptor's buffer, moved by the queue manager: the plate's, or those the bulk port reads; none at an uncorrectable
error. -/
def State.bufferBytes (s : State) (d ext : List Byte) : Option (List Byte) × State :=
  if descExt d then (some (ext.take (descLen d)), s) else s.plateRead 3 (descAddr d) (descLen d)

/-- The plate of a descriptor's buffer is held, so that the buffer's frame waits. -/
def State.bufferHeld (s : State) (d : List Byte) : Bool := !descExt d && s.rangeHeld (descAddr d) (descLen d)

/-- A stamp record (11 R559). -/
def State.stampRecord (s : State) (p : Nat) (d : List Byte) : State :=
  if s.on (FPT_TSQ.EN p) then
    let r := s.hwEnqueue (s.get (FPT_TSQ.QUEUE p)) d
    if r.1 then r.2 else r.2.portEvent p 1
  else s

/-- The descriptor of the stamp record of an emitted descriptor. -/
def tsDesc (d : List Byte) (p c : Nat) (stamp : Time96) : List Byte :=
  let w1 := descWord1 (descLen d) (8 + p) (descExt d) true false c
  descSet (descSetStamp (descSet d 1 w1) stamp) 7 (descWord d 7 &&& 0xFFFF0000)

/-- A frame presented to the MAC. -/
def State.sendMac (s : State) (p : Nat) (f : List Byte) : State :=
  (s.setPort p { s.port p with toMac := f }).portCount p 5

/-- A frame of class c from leader l's queue starts (11 R582, R606, 15 R751): `ext` are the bytes of an external buffer. -/
def State.emitQueue (s : State) (p b l c i : Nat) (d ext : List Byte) : State :=
  match s.bufferBytes d ext with
  | (none, t) => t.stopQueue (s.get (FPT_CLS.QUEUE l c)) true
  | (some f, t) =>
    let st := t.frameStamp (8 + p) b
    let t := st.2.ledgerTake p d
    let f := match t.on (FPT_PTP.OSYNC p), oneStepSync f with
      | true, some at_ => ptpOrigin f at_ (st.1 + s.get (FPT_PHY.TXLAT p) * 4096)
      | _, _ => f
    let t := t.sendMac p (t.redMark p f)
    let t := if (s.get (FPT_TSQ.CLSMASK p)).testBit c then t.stampRecord p (tsDesc d p c (toTime96 st.1)) else t
    t.portDone l c p i d

/-- The frame from the switch core starts (11 R576, R580). -/
def State.emitCore (s : State) (p b : Nat) (x : CoreFrame) (underrun : Bool) : State :=
  let st := s.frameStamp (8 + p) b
  let t := st.2.setPort p { st.2.port p with core := none }
  let e : List Byte × State := match t.finderPtp p x.rule, ptpAt x.bytes with
    | true, some at_ =>
      let r := ptpEgress x.bytes at_ st.1 (s.get (FPT_PHY.TXLAT p))
      (r.2, if r.1 then t.portCount p 13 else t)
    | true, none => (x.bytes, t.portCount p 13)
    | false, _ => (x.bytes, t)
  let t := e.2.sendMac p (if underrun then spoilFcs e.1 else e.1)
  let t := if underrun then (t.portCount p 8).portEvent p 2 else t
  match x.rule with
  | some r =>
    if s.on (FPT_FRW5.TSR p r) then
      let flow := if s.on (FPT_FRW5.FLOWEN p r) then s.get (FPT_FRW5.FLOW p r) else 0
      t.stampRecord p (hwDesc 0 (descWord1 x.bytes.length (8 + p) false true false x.cls) flow 0 (toTime96 st.1) r)
    else t
  | none => t

/-- What class c of port p does with its head frame: none if there is none or it may not start. -/
def State.serveClass (s : State) (p b lead : Nat) (ext : List Byte) (underrun : Bool) (c : Nat) : Option State :=
  let u := s.stampOf (8 + p) b
  match s.classLeader p c lead with
  | some l =>
    match s.portHead l c p with
    | some (i, d) =>
      let r := s.readPortHead l c i
      let s := r.2
      if !r.1 then some s
      else if descTomb d then some ((s.consumeTomb p d).portDone l c p i d)
      else if s.ledgerOld p d then some (((s.portCount p 6).portEvent p 3).portDone l c p i d)
      else if !s.on (FPT_STAT.LINK p) && decide (i < (s.residue l c).length) then some ((s.portCount p 15).portDone l c p i d)
      else if s.expired p d then some ((s.consumeTomb p d).portDone l c p i d)
      else if s.fitsNever p c (descLen d) then some (((s.portCount p 9).portEvent p 8).portDone l c p i d)
      else if s.mayStart p c (descLen d) u && !s.bufferHeld d then some (s.emitQueue p b l c i d ext)
      else none
    | none => none
  | none =>
    match (s.port p).core with
    | some x =>
      if x.cls ≠ c then none
      else if s.fitsNever p c x.bytes.length then
        some (((s.setPort p { s.port p with core := none }).portCount p 9).portEvent p 8)
      else if s.mayStart p c x.bytes.length u then some (s.emitCore p b x underrun)
      else none
    | none => none

/-- FRAME_EMISSION (R600): on a free line the head frame of the highest class that may start is sent, in bin b of the present TCLK
period, or a head that may not be sent is consumed. `lead` is the leader served where several have a frame for the class
(log entry 40), `ext` the bytes of an external buffer, `underrun` says that a beat of the frame came too late. -/
def execFrameEmission (p : Fin 8) (b : Fin 32) (lead : Fin 8) (ext : List Byte) (underrun : Bool) (s : State) :
    Host.Outcome State Fault Refusal :=
  .next (if s.bypassed p || !s.pllsRun then s
    else ([7, 6, 5, 4, 3, 2, 1, 0].findSome? (s.serveClass p b lead ext underrun)).getD s)

/-- EXPIRY_CONVERSION (R754): the head descriptor of leader l's queue in class c is converted at its expiry. -/
def execExpiryConversion (p c l : Fin 8) (s : State) : Host.Outcome State Fault Refusal :=
  .next <|
    if s.bypassed p || !s.pllsRun then s
    else match s.portHead l c p with
      | some (i, d) =>
        let r := s.readPortHead l c i
        if r.1 && !descTomb d && !s.ledgerOld p d && s.expired p d then (r.2.consumeTomb p d).portDone l c p i d else r.2
      | none => s

/-- INJECTED_FRAME (R577): the head of the injection queue goes to the switch core; `ext` are the bytes of an external buffer. -/
def execInjectedFrame (p : Fin 8) (ext : List Byte) (s : State) : Host.Outcome State Fault Refusal :=
  .next <|
    let q := s.get (FPT_INJ.QUEUE p)
    if s.bypassed p || !s.pllsRun || !s.on (FPT_INJ.EN p) then s
    else if s.headHeld q then s
    else match s.readHead q with
      | (none, t) => t
      | (some d, t) =>
        if descTomb d then (((t.dequeue q).2.portCount p 7).portEvent p 4).finishDescriptor q d
        else if t.bufferHeld d then s
        else match t.bufferBytes d ext with
          | (none, u) => u.stopQueue q true
          | (some f, u) => ((u.dequeue q).2.sendCore p f).finishDescriptor q d

/-! ## Finder rules and flow table entries -/

/-- The rules of a write to FPT_FRW0 to FPT_FRW5 (11 R565): the word is held until the commit (log entry 41). -/
def writeFptFrw (p w : Nat) (v : Word) (s : State) : Effect :=
  if (s.port p).ruleWait.isSome then .denied s
  else .ok (s.setPort p { s.port p with ruleHold := tset (fun _ => (0 : Word)) (tdrop w (s.port p).ruleHold) w v ++
    (if v = 0 then [(w, v)] else []) })

/-- A word of rule r as a commit leaves it. -/
def State.ruleWord (s : State) (p r w : Nat) : Word :=
  match (s.port p).ruleHold.find? fun x => x.1 == w with
  | some x => x.2
  | none => s.reg (FPT_FRW0 p r + 4 * w)

/-- The rules of a write to FPT_FRW6 (11 R565): the rule waits for its application. -/
def writeFptFrw6 (p : Nat) (v : Word) (s : State) : Effect :=
  if (s.port p).ruleWait.isSome then .denied s
  else
    let r := s.get (FPT_FRIDX.RULE p)
    let ws := (List.range 6).map (s.ruleWord p r) ++ [v]
    .ok ((s.put (FPT_STAT.FRPEND p) 1).setPort p { s.port p with ruleHold := [], ruleWait := some (r, ws) })

/-- The words of a rule written, each by its access codes. -/
def State.putRule (s : State) (p r : Nat) : Nat → List Word → State
  | _, [] => s
  | w, v :: vs => (s.plainWrite (FPT_FRW0 p r + 4 * w) v).putRule p r (w + 1) vs

/-- The words of flow f's rule with EN as given. -/
def State.ruleWithEn (s : State) (f : Nat) (en : Bool) : List Word :=
  (List.range 7).map fun w =>
    let v := s.reg (FPT_FRW0 (s.flowSrcobj f) (s.flowRule f) + 4 * w)
    if w = 4 then fieldSet v 29 29 (bit en) else v

/-- A flow that the Assistant pair has admitted or withdrawn and whose rule of port p does not yet say so (14 R722, R723). -/
def State.askedFlow (s : State) (p : Nat) : Option Nat :=
  s.flowNumbers.find? fun f => s.flowSrck f == 0 && s.flowSrcobj f == p && (s.flow f).asked != 0

/-- The rule of such a flow committed by the Assistant pair once no other rule of the port waits. -/
def State.askRule (s : State) (p : Nat) : State :=
  if (s.port p).ruleWait.isSome then s
  else match s.askedFlow p with
    | some f => (s.put (FPT_STAT.FRPEND p) 1).setPort p
        { s.port p with ruleWait := some (s.flowRule f, s.ruleWithEn f ((s.flow f).asked == 1)) }
    | none => s

/-- A waiting rule applies (11 R565), with the flows that its commit activates or withdraws (14 R722, R723). -/
def State.applyRule (s : State) (p : Nat) : State :=
  match (s.port p).ruleWait with
  | some (r, ws) =>
    let t := (s.put (FPT_STAT.FRPEND p) 0).setPort p { s.port p with ruleWait := none }
    let t := t.putRule p r 0 ws
    (t.ruleCommitted (t.on (FPT_FRW4.EN p r)) (t.flowsOfRule p r)).askRule p
  | none => s

/-- FINDER_RULE_COMMIT (R565): a write of FPT_FRW6. -/
def execFinderRuleCommit (p : Fin 8) (o : Origin) (v : Word) (s : State) : Host.Outcome State Fault Refusal :=
  .next (s.writeReg o (FPT_FRW6 p (s.get (FPT_FRIDX.RULE p))) v (writeFptFrw6 p v))

/-- FINDER_RULE_APPLY (R565): in the first tick in which no frame of the rule's direction is being classified. -/
def execFinderRuleApply (p : Fin 8) (s : State) : Host.Outcome State Fault Refusal := .next (s.applyRule p)

/-- The rules of a write to FPT_FTW0 to FPT_FTW2: held until the commit (11 R603, log entry 41). -/
def writeFptFtw (p w : Nat) (v : Word) (s : State) : Effect :=
  .ok (s.setPort p { s.port p with entryHold := tdrop w (s.port p).entryHold ++ [(w, v)] })

/-- A word of entry k as a commit leaves it. -/
def State.entryWord (s : State) (p k w : Nat) : Word :=
  match (s.port p).entryHold.find? fun x => x.1 == w with
  | some x => x.2
  | none => s.reg (FPT_FTW0 p k + 4 * w)

/-- Entry k would give a flow a second entry of the same role (11 R603). -/
def State.entryClashes (s : State) (p k : Nat) (w0 : Word) : Bool :=
  let role := fieldOf w0 13 12
  (role == 1 || role == 2) && (s.portEntry p role (fieldOf w0 11 0)).any fun j => j != k

/-- The rules of a write to FPT_FTW3 (11 R603). -/
def writeFptFtw3 (p : Nat) (v : Word) (s : State) : Effect :=
  let k := s.get (FPT_FTIDX.ENTRY p)
  let t := s.setPort p { s.port p with entryHold := [] }
  if s.entryClashes p k (s.entryWord p k 0) then (Effect.denied t).conflict
  else .ok (t.writeEntry p k (s.entryWord p k 0) (s.entryWord p k 1) (s.entryWord p k 2) v)

/-- FLOW_TABLE_COMMIT (R603): a write of FPT_FTW3. -/
def execFlowTableCommit (p : Fin 8) (o : Origin) (v : Word) (s : State) : Host.Outcome State Fault Refusal :=
  .next (s.writeReg o (FPT_FTW3 p (s.get (FPT_FTIDX.ENTRY p))) v (writeFptFtw3 p v))

/-- The buckets of some entries gain RATE bytes, up to BURST (11 R570). -/
def State.refill (s : State) (p : Nat) : List Nat → State
  | [] => s
  | k :: ks =>
    (if s.get (FPT_FTW0.ROLE p k) = 1 then
        s.setBucket p k (Nat.min (s.get (FPT_FTW3.BURST p k)) (s.bucket p k + s.get (FPT_FTW2.RATE p k)))
      else s).refill p ks

/-- BUCKET_REFILL (R570): every 1 ms. -/
def execBucketRefill (p : Fin 8) (s : State) : Host.Outcome State Fault Refusal :=
  .next (if s.pllsRun && decide ((s.port p).refillEdge + edgesPerMs ≤ s.rgl.edge) then
      (s.setPort p { s.port p with refillEdge := s.rgl.edge }).refill p (List.range 512)
    else s)

/-! ## Other events of a port -/

/-- BYPASS_CHANGE (R554): a change of BYP takes effect; a frame in progress at a forced change ends within its own command. -/
def execBypassChange (p : Fin 8) (s : State) : Host.Outcome State Fault Refusal :=
  .next (s.setPort p { s.port p with bypWait := false })

/-- MAC_STATISTICS_CODE (R617). -/
def execMacStatisticsCode (p : Fin 8) (code : Fin 16) (s : State) : Host.Outcome State Fault Refusal :=
  .next <|
    if !s.ifcOn || s.get CLU_STAT.STATE == 0 || !s.pllsRun then s
    else if 1 ≤ code.val ∧ code.val ≤ 9 then s.portCount p (16 + code)
    else if code.val = 0xE then (s.put (FPT_STAT.LINK p) 1).portEvent p 16
    else if code.val = 0xF then (s.put (FPT_STAT.LINK p) 0).portEvent p 17
    else s

/-- MAC_WAKE_EDGE (R618): caught by the port, or by its wake latch while the IFC domain is off (08 R437). -/
def execMacWakeEdge (p : Fin 8) (s : State) : Host.Outcome State Fault Refusal :=
  .next <|
    if s.ifcOn then (if s.get CLU_STAT.STATE = 0 then s else (s.setBit (FPT_EVSRC p) 18 true).catchEdge (17 + 2 * p))
    else if bitAt (s.reg EVC_WAKEEN1) (24 + p) then s.setBit EVC_WAKELAT1 (24 + p) true
    else s

/-- RESIDUE_INDICATION (R613): the switch core's mask of ports to which it did not forward an injected frame. -/
def execResidueIndication (p : Fin 8) (mask : BitVec 8) (s : State) : Host.Outcome State Fault Refusal :=
  .next (if s.bypassed p || !s.pllsRun then s else (s.orBits (FPT_MCRES.PORTS p) mask.toNat).portEvent p 5)

/-- LINK_DELAY_COPY (R583): every 1 ms while LDSRC is 1; a read that finds an uncorrectable error leaves the old value. -/
def execLinkDelayCopy (p : Fin 8) (served : Bool) (s : State) : Host.Outcome State Fault Refusal :=
  .next <|
    if !s.on (FPT_PTP.LDSRC p) || !s.pllsRun || decide (s.rgl.edge < (s.port p).delayEdge + edgesPerMs) then s
    else
      let t := s.setPort p { s.port p with delayEdge := s.rgl.edge }
      let a := s.get (FPT_PTP.LDADDR p) / 4 * 4
      if !served || t.rangeHeld a 4 then t
      else match t.plateRead (8 + p) a 4 with
        | (some bs, u) => u.setReg (FPT_LINKDLY p) (BitVec.ofNat 32 (ofLeBytes bs))
        | (none, u) => u

/-- DUPLICATE_ENTRY_EXPIRY (R588): the entries of group g past their lifetime are removed. -/
def execDuplicateEntryExpiry (g : Fin 4) (s : State) : Host.Outcome State Fault Refusal :=
  .next (s.setGroup g { s.group g with
    duplicates := (s.group g).duplicates.filter fun d => decide (s.rgl.edge < d.edge + s.forgetEdges g) })

/-- PROXY_ENTRY_EXPIRY (R588): the entries of group g with no frame for 60 s are removed. -/
def execProxyEntryExpiry (g : Fin 4) (s : State) : Host.Outcome State Fault Refusal :=
  .next (s.setGroup g { s.group g with
    proxies := (s.group g).proxies.filter fun x => decide (s.rgl.edge < x.2 + 60000 * edgesPerMs) })

/-- RECOVERY_STREAM_RESET (R592): after RESET ms without an accepted frame the stream takes the next number as new. -/
def execRecoveryStreamReset (p : Fin 8) (i : Fin 32) (s : State) : Host.Outcome State Fault Refusal :=
  .next <|
    let x := s.stream p i
    if x.edge + Nat.max 1 (s.get (FPT_RCVCFG.RESET p i)) * edgesPerMs ≤ s.rgl.edge then s.setStream p i { x with takeAny := true }
    else s

/-! ## Other register writes -/

/-- A write to FPT_PHY: a SPEED that names none leaves the field unchanged. -/
def writeFptPhy (p : Nat) (v : Word) (s : State) : Effect :=
  if 5 < fieldOf v 2 0 then { state := s.plainWrite (FPT_PHY p) (fieldSet v 2 0 (s.get (FPT_PHY.SPEED p))), refused := true }
  else .ok (s.plainWrite (FPT_PHY p) v)

/-- A write to FPT_RED: a MODE that names none leaves the field unchanged. -/
def writeFptRed (p : Nat) (v : Word) (s : State) : Effect :=
  if 4 < fieldOf v 2 0 then { state := s.plainWrite (FPT_RED p) (fieldSet v 2 0 (s.get (FPT_RED.MODE p))), refused := true }
  else .ok (s.plainWrite (FPT_RED p) v)

/-- A write to FPT_RCVCFG: SRC 0b11 leaves the field unchanged. -/
def writeFptRcvcfg (p i : Nat) (v : Word) (s : State) : Effect :=
  if fieldOf v 7 6 = 3 then { state := s.plainWrite (FPT_RCVCFG p i) (fieldSet v 7 6 (s.get (FPT_RCVCFG.SRC p i))), refused := true }
  else .ok (s.plainWrite (FPT_RCVCFG p i) v)

end Sys2Proof.Machine
end

