-- ==== Sys2Proof/Machine/Occultation.lean ====
section
/-! DEFINITION. Occultation (13): the wavefront channels, the detection and interpolation of fronts, arming windows and records. -/

namespace Sys2Proof.Machine

/-! ## Samples and fronts (13 R665, R671 to R676) -/

/-- A received word as a signed sample: offset binary is converted to two's complement first (R665). -/
def sampleOf (offset : Bool) (w : BitVec 16) : Int := (if offset then w ^^^ 0x8000 else w).toInt

/-- The sum of some samples. -/
def sumOf (xs : List Int) : Int := xs.foldl (· + ·) 0

/-- The largest root r with r² ≤ n, for n below 2^48, bit by bit. -/
def isqrt (n : Nat) : Nat :=
  (List.range 24).foldl (fun r i => let c := r + 2 ^ (23 - i); if c * c ≤ n then c else r) 0

/-- x_i of the list of samples n − 19 to n + 7: `at_` is i − n + 19. -/
def sampleAt (xs : List Int) (at_ : Nat) : Int := xs.getD at_ 0

/-- σ·(x_m − x_(m−4)), for m = n + j (R671). -/
def riseAt (xs : List Int) (sigma : Int) (j : Nat) : Int := sigma * (sampleAt xs (19 + j) - sampleAt xs (15 + j))

/-- σ of a trigger under POL: +1, −1, and with POL 0b11 the sign of the rise (R671). -/
def polarity (pol : Nat) (xs : List Int) : Int :=
  if pol = 2 ∨ (pol = 3 ∧ sampleAt xs 19 < sampleAt xs 15) then -1 else 1

/-- m* − n: the lowest steepest point of n to n + 7 (R672). -/
def steepestOf (xs : List Int) (sigma : Int) : Nat :=
  (List.range 8).foldl (fun best j => if riseAt xs sigma best < riseAt xs sigma j then j else best) 0

/-- The quantities of a front (R672), without division: `base` is 16·B, `spread` 16·V, `slope` 10·S, `mean` 5·X̄. -/
structure FrontShape where
  step : Nat
  base : Int
  spread : Int
  slope : Int
  mean : Int
  rise : Int
  fit : List Int

/-- The quantities of a trigger with samples n − 19 to n + 7. -/
def frontShape (xs : List Int) (sigma : Int) : FrontShape :=
  let j := steepestOf xs sigma
  let b := xs.take 16
  let fit := (xs.drop (15 + j)).take 5
  { step := j, base := sumOf b, spread := 16 * sumOf (b.map fun x => x * x) - sumOf b * sumOf b,
    slope := sumOf (fit.mapIdx fun i y => ((i : Int) - 2) * y), mean := sumOf fit, rise := riseAt xs sigma j, fit }

/-- D/S as a fraction: 80·D = 16·(5·X̄) − 5·(16·B), over 8·(10·S), both times σ. -/
def FrontShape.num (f : FrontShape) (sigma : Int) : Int := sigma * (16 * f.mean - 5 * f.base)
def FrontShape.den (f : FrontShape) (sigma : Int) : Int := sigma * (8 * f.slope)

/-- The front is rejected (R673): σ·D ≤ 0, σ·S ≤ 0, or a outside [m* − 12, m* − 2), which is D/S outside (0, 10]. -/
def FrontShape.rejected (f : FrontShape) (sigma : Int) : Bool :=
  decide (f.num sigma ≤ 0) || decide (f.den sigma ≤ 0) || decide (10 * f.den sigma < f.num sigma)

/-- The whole sample periods from k to m* − 2, with a = m* − 2 − D/S and k = ⌊a⌋ (R674). -/
def FrontShape.back (f : FrontShape) (sigma : Int) : Nat := ((f.num sigma + f.den sigma - 1) / f.den sigma).toNat

/-- The arrival instant from τk and τ(k+1), rounded to a multiple of 62.5 ps, 4096 units of 2^-16 ns, ties to the later (R674). -/
def FrontShape.arrival (f : FrontShape) (sigma : Int) (t0 t1 : Int) : Nat :=
  let den := f.den sigma
  let exact := t0 * den + ((f.back sigma : Int) * den - f.num sigma) * (t1 - t0)
  (4096 * ((2 * exact + 4096 * den) / (8192 * den))).toNat

/-- A fit sample is at full scale (R676). -/
def FrontShape.saturated (f : FrontShape) : Bool := f.fit.any fun y => y == 0x7FFF || y == -0x8000

/-- The record is qualified (R676). -/
def FrontShape.qualified (f : FrontShape) : Bool :=
  decide (80 ≤ f.rise) && decide (10000 * f.spread ≤ 256 * f.rise * f.rise) && !f.saturated

/-- The stamp of frame clock edge i of channel c, if the channel still holds it. -/
def State.frameEdge (s : State) (c i : Nat) : Option Nat :=
  if (s.channel c).samples ≤ i then none else (s.channel c).edges[(s.channel c).samples - 1 - i]?

/-- Samples n − 19 to n + 7 are received in RUN (R671). -/
def State.samplesIn (s : State) (c n : Nat) : Bool :=
  decide (19 ≤ n) && (s.frameEdge c (n - 19)).isSome && (s.frameEdge c (n + 7)).isSome

/-- The instant τ of sample i (R669). -/
def State.sampleTime (s : State) (c i : Nat) : Int := (((s.frameEdge c i).getD 0 : Nat) : Int) - 4096 * s.get (OCC_ADCLAT.LAT c)

/-- A trigger at sample n of channel c evaluated, with samples n − 19 to n + 7 (R671 to R676). -/
def State.evaluateFront (s : State) (c n : Nat) (xs : List Int) : State :=
  let sigma := polarity (s.get (OCC_CHCTL.POL c)) xs
  let f := frontShape xs sigma
  let t := s.setChannel c { s.channel c with next := n + 8 }
  if f.rejected sigma then t.count (OCC_CNT.REJ c) 1
  else
    let k := n + f.step - 2 - f.back sigma
    let front : Front :=
      { n, steepest := n + f.step, at_ := f.arrival sigma (s.sampleTime c k) (s.sampleTime c (k + 1)),
        noise := Nat.min (isqrt f.spread.toNat) 0x7FFF, sat := f.saturated, qual := f.qualified, neg := sigma == -1,
        rise := f.rise.toNat }
    t.setChannel c { t.channel c with front := some front }

/-! ## Records (13 R678 to R687) -/

/-- The instant of a window register set, in units of 2^-16 ns. -/
def State.windowOpen (s : State) (c : Nat) : Time96 :=
  time96OfWords (s.reg (OCC_WOPEN c 0)) (s.reg (OCC_WOPEN c 1)) (s.reg (OCC_WOPEN c 2))
def State.windowShut (s : State) (c : Nat) : Time96 :=
  time96OfWords (s.reg (OCC_WCLOSE c 0)) (s.reg (OCC_WCLOSE c 1)) (s.reg (OCC_WCLOSE c 2))

/-- The mode lets a front with stamp t make a record (R678, R682). -/
def State.frontWanted (s : State) (c t : Nat) : Bool :=
  match s.get (OCC_CHCTL.MODE c) with
  | 1 => true
  | 2 => s.on (OCC_CHCTL.WARM c) && decide (ofTime96 (s.windowOpen c) ≤ t) && decide (t < ofTime96 (s.windowShut c))
  | _ => false

/-- The descriptor of a record (R683), ADDR 0. -/
def State.arrivalRecord (s : State) (c : Nat) (f : Front) : List Byte :=
  let w2 := s.get (OCC_CHCFG.FLOW c) + f.noise * 2 ^ 12 + bit f.sat * 2 ^ 27 + c % 4 * 2 ^ 28 + bit f.neg * 2 ^ 30 + bit f.qual * 2 ^ 31
  let d := hwDesc 0 (descWord1 (if s.on (OCC_CHCFG.SNAP c) then 128 else 0) 0x05 false false false 0) 0 (s.channel c).seq
    (toTime96 f.at_) 0
  descSet (descSet d 2 (BitVec.ofNat 32 w2)) 7 (BitVec.ofNat 32 ((f.steepest - f.n) % 256 * 256 + Nat.min f.rise 0xFFFF * 65536))

/-- The bytes of a snapshot (R684). -/
def State.snapshotBytes (s : State) (c : Nat) (snap : List (BitVec 16)) : List Byte :=
  (List.range 64).flatMap fun i => leBytes 2 (unsigned 16 (sampleOf (s.on (OCC_CHCFG.FMT c)) (snap.getD i 0)))

/-- A record, with its snapshot unless that is empty, handed to the queue manager for queue q; one that is not taken is dropped (R684
to R687). -/
def State.placeArrival (s : State) (q c : Nat) (d snap : List Byte) : State :=
  let r := if snap.isEmpty then s.hwEnqueue q d else s.placeBurst (s.get (OCC_CHCFG.POOL c)) q snap d
  if r.1 then r.2 else (r.2.put (OCC_CHSTAT.DROP c) 1).registerEvent (104 + c)

/-- A record placed, or put behind the queue manager's transfers that wait. -/
def State.offerRecord (s : State) (c : Nat) (d snap : List Byte) : State :=
  let q := s.get (OCC_CHCFG.QUEUE c)
  if s.queueWaits q || (!snap.isEmpty && s.poolHeld (s.get (OCC_CHCFG.POOL c))) then s.wait q (.record c d snap)
  else s.placeArrival q c d snap

/-- The front that waits on channel c judged, and its record offered (R675, R678, R682 to R687). -/
def State.judgeFront (s : State) (c : Nat) (f : Front) (snap : List (BitVec 16)) : State :=
  let x := s.channel c
  if s.frontWanted c f.at_ then
    let t := s.setChannel c { x with front := none, next := f.steepest + s.get (OCC_THR.HOLD c), made := true,
                                     seq := (x.seq + 1) % 2 ^ 32 }
    let t := ((t.count (OCC_CNT.RECS c) 1).put (OCC_CHSTAT.ARR c) 1).registerEvent (104 + c)
    t.offerRecord c (s.arrivalRecord c f) (if s.on (OCC_CHCFG.SNAP c) then s.snapshotBytes c snap else [])
  else
    let t := s.setChannel c { x with front := none }
    if s.get (OCC_CHCTL.MODE c) = 2 then t.count (OCC_CNT.OUTW c) 1 else t

/-! ## Channel state and register writes (13 R667, R668, R679, R680, R688, R689) -/

/-- The channel enters OFF: nothing is in progress (R667). -/
def State.channelOff (s : State) (c : Nat) : State :=
  (s.put (OCC_CHSTAT.STATE c) 0).setChannel c { s.channel c with edges := [], front := none }

/-- A ring 2 write to the channel's control or window registers is refused (R688). -/
def State.channelDenied (s : State) (o : Origin) (c : Nat) : Bool := s.ringOf o == some 2 && !s.on (OCC_CHCFG.HOSTW c)

/-- The window held may be armed (R679). -/
def State.windowGood (s : State) (c : Nat) : Bool :=
  decide ((s.windowOpen c).toNat < (s.windowShut c).toNat) && decide (time96Ns (s.windowOpen c) ≤ 999999999) &&
    decide (time96Ns (s.windowShut c) ≤ 999999999)

/-- WARM written (R679): 1 arms the window held unless it is armed already, 0 disarms it (log entry 43). -/
def State.writeWarm (s : State) (c : Nat) (b : Bool) : State :=
  if !b then s.put (OCC_CHCTL.WARM c) 0
  else if s.on (OCC_CHCTL.WARM c) then s
  else if s.windowGood c then (s.put (OCC_CHCTL.WARM c) 1).setChannel c { s.channel c with made := false }
  else s.put (OCC_CHSTAT.WERR c) 1

/-- The rules of a write to OCC_CHCTLc. -/
def writeOccChctl (c : Nat) (o : Origin) (v : Word) (s : State) : Effect :=
  if s.channelDenied o c then .denied s
  else
    let t := s.put (OCC_CHCTL.POL c) (fieldOf v 4 3)
    let t := if fieldOf v 2 1 = 3 then t else t.put (OCC_CHCTL.MODE c) (fieldOf v 2 1)
    let t := t.writeWarm c (bitAt v 5)
    let t := if bitAt v 0 && s.get (OCC_CHSTAT.STATE c) != 1 then (t.channelOff c).put (OCC_CHSTAT.STATE c) 1 else t
    { state := t, refused := fieldOf v 2 1 == 3 || (bitAt v 5 && !s.on (OCC_CHCTL.WARM c) && !s.windowGood c) }

/-- The rules of a write to a window register of channel c (R680, R688). -/
def writeOccWindow (key c : Nat) (o : Origin) (v : Word) (s : State) : Effect :=
  if s.channelDenied o c then .denied s
  else if s.on (OCC_CHCTL.WARM c) then .kept (s.put (OCC_CHSTAT.WERR c) 1)
  else .ok (s.plainWrite key v)

/-- The rules of a write to OCC_CHCFGc (R689). -/
def writeOccChcfg (c : Nat) (v : Word) (s : State) : Effect :=
  if s.get (OCC_CHSTAT.STATE c) ≠ 0 then .denied s else .ok (s.plainWrite (OCC_CHCFG c) v)

/-- A write to OCC_THRc: HOLD below 20 stores 20, THR of 0 stores 1. -/
def writeOccThr (c : Nat) (v : Word) (s : State) : Effect :=
  .ok ((s.put (OCC_THR.HOLD c) (Nat.max 20 (fieldOf v 31 16))).put (OCC_THR.THR c) (Nat.max 1 (fieldOf v 15 0)))

/-- The frame clock is lost (R667): no rising edge for 100 ns, 1600 bins, or a period outside 12.0 ns to 25.6 ns. -/
def State.frameClockLost (s : State) (c : Nat) : Bool :=
  let last := Nat.max ((s.stampPoint (112 + c)).riseAt.getD 0) (32 * (s.channel c).runEdge)
  decide (last + 1600 ≤ 32 * s.rgl.edge) ||
    (!(s.channel c).edges.isEmpty &&
      (decide (s.get (OCC_CHSTAT.FCPER c) < 192) || decide (409 < s.get (OCC_CHSTAT.FCPER c))))

/-! ## The commands -/

/-- TRAIN (R667): a write of OCC_CHCTLc with TRAIN 1. -/
def execTrain (c : Fin 3) (o : Origin) (v : Word) (s : State) : Host.Outcome State Fault Refusal :=
  .next (s.writeReg o (OCC_CHCTL c) (v ||| 1) (writeOccChctl c o (v ||| 1)))

/-- TRAINING_COMPLETE (R667): 1024 consecutive words have carried the pattern. -/
def execTrainingComplete (c : Fin 3) (s : State) : Host.Outcome State Fault Refusal :=
  .next (if s.get (OCC_CHSTAT.STATE c) = 1 ∧ s.pllsRun then
      (s.put (OCC_CHSTAT.STATE c) 2).setChannel c { s.channel c with edges := [], runEdge := s.rgl.edge }
    else s)

/-- CHANNEL_LOST (R667, R668). -/
def execChannelLost (c : Fin 3) (s : State) : Host.Outcome State Fault Refusal :=
  .next (if s.get (OCC_CHSTAT.STATE c) = 2 ∧ s.pllsRun ∧ s.frameClockLost c then
      (((s.put (OCC_CHSTAT.STATE c) 3).put (OCC_CHSTAT.LANEERR c) 1).setChannel c { s.channel c with edges := [] }).registerEvent (104 + c)
    else s)

/-- FRONT_TRIGGER (R671): sample n of channel c with samples n − 19 to n + 7 as received; `lost` says that one of their frames was
lost. A front that awaits its record is judged first (log entry 43). -/
def execFrontTrigger (c : Fin 3) (n : Nat) (words : List (BitVec 16)) (lost : Bool) (s : State) : Host.Outcome State Fault Refusal :=
  .next <|
    let xs := words.map (sampleOf (s.on (OCC_CHCFG.FMT c)))
    let pol := s.get (OCC_CHCTL.POL c)
    if s.get (OCC_CHSTAT.STATE c) = 2 ∧ s.pllsRun ∧ !lost ∧ words.length = 27 ∧ pol ≠ 0 ∧ (s.channel c).next ≤ n ∧
        s.samplesIn c n ∧ (s.channel c).front.isNone ∧ (s.get (OCC_THR.THR c) : Int) ≤ riseAt xs (polarity pol xs) 0 then
      s.evaluateFront c n xs
    else s

/-- ARRIVAL_RECORD (R685): `snap` holds the 64 words of a snapshot as received. -/
def execArrivalRecord (c : Fin 3) (snap : List (BitVec 16)) (s : State) : Host.Outcome State Fault Refusal :=
  .next (match (s.channel c).front with
    | some f => if s.pllsRun then s.judgeFront c f snap else s
    | none => s)

/-- WARM (R679): a write of OCC_CHCTLc with WARM 1. -/
def execWarm (c : Fin 3) (o : Origin) (v : Word) (s : State) : Host.Outcome State Fault Refusal :=
  .next (s.writeReg o (OCC_CHCTL c) (v ||| 0x20) (writeOccChctl c o (v ||| 0x20)))

/-- WINDOW_CLOSE (R681). -/
def execWindowClose (c : Fin 3) (s : State) : Host.Outcome State Fault Refusal :=
  .next (if s.on (OCC_CHCTL.WARM c) ∧ s.pllsRun ∧ ofTime96 (s.windowShut c) + 1000 * 65536 ≤ s.now then
      let t := s.put (OCC_CHCTL.WARM c) 0
      if (s.channel c).made then t else (t.put (OCC_CHSTAT.WEMPTY c) 1).registerEvent (104 + c)
    else s)

/-- OCC_CHCFG_WRITE (R689). -/
def execOccChcfgWrite (c : Fin 3) (o : Origin) (v : Word) (s : State) : Host.Outcome State Fault Refusal :=
  .next (s.writeReg o (OCC_CHCFG c) v (writeOccChcfg c v))

end Sys2Proof.Machine
end

