-- ==== Sys2Proof/Machine/Resets.lean ====
section
/-! DEFINITION. What each reset reaches (01 R30 to R34), the power-off of the IFC domain, and the work of the release sequence
(17 R846). -/

namespace Sys2Proof.Machine

/-- A table with a function on its entries; an entry that becomes the default is not listed. -/
def tmap {α : Type} [DecidableEq α] (d : Nat → α) (f : Nat → α → α) (t : Table α) : Table α :=
  (t.map fun p => (p.1, f p.1 p.2)).filter fun p => decide (p.2 ≠ d p.1)

/-! ## Registers across resets -/

/-- The bits of a register that only AON reset resets (00 R13). -/
def aonBits (key : Nat) : Nat := ((regDesc key).map (·.aon)).getD 0

/-- The register belongs to the debug domain (01, 19). -/
def debugRegister (key : Nat) : Bool := decide (0xD000 ≤ key) && decide (key < 0xE000)

/-- A presented word of a memory, or a register that the manual says is not reset (01 "memory contents", 03 `CDR_EPH`, 11 flow
tables, Finder words and gate entries, 12 R631): cluster reset leaves it. -/
def memoryRegister (key : Nat) : Bool :=
  [0x101, 0x104, 0x106, 0x107, 0x120].contains (key / 0x10000) ||
    (decide (0xA000 ≤ key) && decide (key < 0xA600) && [0x14, 0x18, 0x1C].contains ((key - 0xA000) % 0x40))

/-- The queue and pool configuration that cluster reset keeps (10 R965). -/
def queueBits (key : Nat) : Nat :=
  if key / 0x10000 = 0x110 then
    match key % 0x40 with
    | 0x14 => 0x007FFFFF
    | 0x18 | 0x1C | 0x20 | 0x24 => 0xFFFFFFFF
    | _ => 0
  else if key / 0x10000 = 0x103 then (if key % 8 = 0 then 0xFFFFFFFF else 0xFFFF800F)
  else 0

/-- The bits that power-off of the IFC domain leaves: those of the AON domain, the levels at the field balls, and the debug
domain's while it is powered (01 R32). -/
def powerOffKeeps (dbg : Bool) (key : Nat) : Nat :=
  if key = FLD_IN0 ∨ key = FLD_IN1 ∨ (dbg ∧ debugRegister key) then 0xFFFFFFFF else aonBits key

/-- The bits that cluster reset leaves: those, the debug domain's, the memories', the queue configuration, the status of the
PLLs, which run on (17 R835; log entry 45), the validity of the AON time (02 R92), and the Verniers' flags (12 R631). -/
def clusterKeeps (key : Nat) : Nat :=
  if key = FLD_IN0 ∨ key = FLD_IN1 ∨ key = CLK_PLLSTAT ∨ debugRegister key ∨ memoryRegister key then 0xFFFFFFFF
  else if key = RGL_STAT then 0x100
  else if 0xA000 ≤ key ∧ key < 0xA600 ∧ (key - 0xA000) % 0x40 = 4 then 0x00FF0000
  else aonBits key ||| queueBits key

/-- Registers at their reset values but for the bits kept. -/
def keepBits (keeps : Nat → Nat) (regs : Table Word) : Table Word :=
  tmap resetWord (fun k v => (v &&& BitVec.ofNat 32 (keeps k)) ||| (resetWord k &&& ~~~ BitVec.ofNat 32 (keeps k))) regs

/-! ## The resets -/

/-- The tags in flight at a reset: their responses are discarded, and no request is issued before they have come (10 R546). -/
def discardTags (t : Table BulkTag) : Table BulkTag := t.map fun p => (p.1, { p.2 with use := .loader, discard := true })

/-- The Eyepiece's freezes act on the reset units as they stand (19 R910). -/
def State.mirrorFreeze (s : State) : State :=
  (s.put RGL_STAT.SVCFRZ (s.get EYE_FREEZE.SERVO)).put AST_STAT.WDFRZ (s.get EYE_FREEZE.ASST)

/-- The repeat frame becomes inactive and PC takes ENTRY in each of some Verniers (12 R631). -/
def State.resetVerniers (s : State) : List Nat → State
  | [] => s
  | v :: vs =>
    let x := s.vernier v
    ((s.put (VRN_STAT.PC v) (s.get (VRN_CTL.ENTRY v))).setVernier v
      { x with frame := none, next := s.get (VRN_CTL.ENTRY v), left := 0, taken := 0, startNo := 0, was := 0 }).resetVerniers vs

/-- RGL_QUAL.STATE at its reset value: COARSE where the AON time is valid (02 "RGL_QUAL"). -/
def State.resetQuality (s : State) : State := s.put RGL_QUAL.STATE (s.get RGL_STAT.AONV)

/-- Cluster reset (01 R33): the IFC domain, and neither AON state (PSTATE and the event state retained for an exit from Dormant among
it), nor debug state, nor the contents of memories. -/
def State.clusterReset (s : State) : State :=
  let t : State :=
    { State.reset with
      pending := s.pending, freeUsed := s.freeUsed, regs := keepBits clusterKeeps s.regs, mem := s.mem, ecc := s.ecc,
      host := s.host, rgl := { State.reset.rgl with time := s.rgl.time, edge := s.rgl.edge, aonTime := s.rgl.aonTime },
      log := { s.log with reserved := [] }, bulk := discardTags s.bulk, ifcOn := s.ifcOn, dbgOn := s.dbgOn,
      eyeResp := s.eyeResp, eyeData := s.eyeData, verniers := s.verniers, gprs := s.gprs,
      banks := tmap (fun _ => bank0) (fun _ b => { b with rx := 0 }) s.banks, retained := s.retained,
      lens := s.lens, wcs := s.wcs,
      engines := tmap (fun _ => engine0) (fun _ x => { engine0 with wcsHold := x.wcsHold, wcsRead := x.wcsRead }) s.engines,
      power := { s.power with napAsked := false }, bootKey := s.bootKey,
      security := { s.security with bindGen := [], auth := none },
      eyepiece := { s.eyepiece with access := s.eyepiece.access.map fun a => { a with tag := none } } }
  ((t.resetVerniers (List.range 24)).mirrorFreeze.resetQuality).settleAll

/-- The Clock Drive at an entry into loading (03 R138, R171): its registers at their reset values, every tracker OFF; the ephemeris
memory keeps its contents. -/
def State.resetClockDrive (s : State) : State :=
  { s with regs := s.regs.filter fun p => decide (p.1 < 0x5000 ∨ 0x6000 ≤ p.1)
           trackers := [], phaseTargets := [], ephHold := State.reset.ephHold }

/-- The cluster enters loading (01 R42). -/
def State.enterLoading (s : State) : State := s.resetClockDrive.put CLU_STAT.STATE 1

/-- A cluster reset with its cause (01 `CLU_STAT.RSTCAUSE`). -/
def State.resetWith (s : State) (cause : Nat) : State := s.clusterReset.put CLU_STAT.RSTCAUSE cause

/-- A new nonce from the random source (19 R897). -/
def State.newNonce (s : State) : State :=
  let f := s.fresh 64
  (f.2.setReg EYE_NONCE0 (f.1.extractLsb' 0 32)).setReg EYE_NONCE1 (f.1.extractLsb' 32 32)

/-- The IFC domain is off: of its state nothing is left (17 R848, R851). Accesses of the Eyepiece master that wait end with an
error (19 R893; log entry 55). What memories without a stated content hold when it is
on again is named in log entry 1. -/
def State.powerOff (s : State) : State :=
  let t : State :=
    { State.reset with
      pending := s.pending, freeUsed := s.freeUsed, regs := keepBits (powerOffKeeps s.dbgOn) s.regs,
      host := s.host, rgl := { State.reset.rgl with aonTime := s.rgl.aonTime }, retained := s.retained,
      log := { s.log with reserved := [] }, bulk := discardTags s.bulk, dbgOn := s.dbgOn,
      eyeResp := if s.eyepiece.drBusy then respError else s.eyeResp, eyeData := s.eyeData,
      power := { s.power with napAsked := false, pllsStarted := false },
      security := { s.security with bindGen := [], auth := none },
      eyepiece := if s.dbgOn then { s.eyepiece with access := [], drBusy := false } else State.reset.eyepiece }
  let t := if s.eyepiece.access.any fun a => !a.viaDr then (t.put EYE_MCTL.DONE 1).put EYE_MCTL.ERR 1 else t
  t.mirrorFreeze.settleAll

/-- The validity of the AON time outlives the IFC domain (02 R92): RGL_STAT presents it. -/
def State.aonValid (s : State) : Bool := s.on RGL_STAT.AONV

/-- Power-off that keeps the validity of the AON time. -/
def State.ifcOff (s : State) : State := (s.powerOff.put RGL_STAT.AONV (bit s.aonValid)).resetQuality

/-- The registers of one-time-programmable cells (18), which AON reset reads again. -/
def otpRegister (key : Nat) : Bool :=
  key == SEC_LCS || key == SEC_SERIAL0 || key == SEC_SERIAL1 || (decide (0x2020 ≤ key) && decide (key < 0x2040))

/-- AON reset (01): all three domains; OTP cells, the levels at the balls and what the chip drives on ATTACH_REQ and DBG_PWR stay. -/
def State.aonReset (s : State) : State :=
  let t : State := { State.reset with
      pending := s.pending, freeUsed := s.freeUsed, dbgOn := s.dbgOn,
      regs := keepBits (fun k => if otpRegister k ∨ k = FLD_IN0 ∨ k = FLD_IN1 then 0xFFFFFFFF else if k = CLU_ATTACH then 0x80 else 0) s.regs,
      bulk := discardTags s.bulk, security := { State.reset.security with keysLcs := s.get SEC_LCS.STATE } }
  t.newNonce.settleAll

/-! ## The release sequence (17 R846) -/

/-- The fuse word's 21 bits hold an odd number of ones (21 R954). -/
def fuseGood (w : BitVec 21) : Bool := ((List.range 21).filter w.getLsbD).length % 2 == 1

/-- Entry i of RGL_PINCAL loaded from its fuses (02 R64, R65). -/
def State.loadPincal (s : State) (i : Nat) (w : BitVec 21) : State :=
  let t := s.put (RGL_PINCAL.DIR i) (bit (outputPoint i))
  if fuseGood w then
    ((t.put (RGL_PINCAL.FVALID i) 1).put (RGL_PINCAL.TC i) (w.toNat / 4096 % 256)).put (RGL_PINCAL.DLY i) (w.toNat % 4096)
  else ((t.put (RGL_PINCAL.FVALID i) 0).put (RGL_PINCAL.TC i) 0).put (RGL_PINCAL.DLY i) 0

/-- Every entry loaded, from index i up: 0x00 to 0x76. -/
def State.loadPincals (s : State) (i : Nat) : List (BitVec 21) → State
  | [] => s
  | w :: ws => (if i < 119 then s.loadPincal i w else s).loadPincals (i + 1) ws

/-- The records of entries that failed their check, in ascending index order (02 R65). -/
def State.fuseRecords (s : State) (i : Nat) : List (BitVec 21) → State
  | [] => s
  | w :: ws => (if decide (i < 119) && !fuseGood w then s.logChange (originCode .clock) 0x0C 0 false i w.toNat 0 else s).fuseRecords (i + 1) ws

/-- The limits of the switch core, port by port and class by class (21 R948). -/
def State.loadLimits (s : State) (i : Nat) : List (BitVec 20) → State
  | [] => s
  | w :: ws => (if i < 64 then s.put (FPT_SWLIM.LAT (i / 8) (i % 8)) w.toNat else s).loadLimits (i + 1) ws

/-- Registers written from a list of keys and values. -/
def State.setRegs (s : State) : List (Nat × Word) → State
  | [] => s
  | (k, v) :: r => (s.setReg k v).setRegs r

/-- The routing state copied on entry into Dormant (08 R435). -/
def State.retention (s : State) : Retained :=
  { routes := (List.range 256).map fun n => (EVC_ROUTE n, s.reg (EVC_ROUTE n))
    masks := (List.range 8).map fun i => (EVC_MASK i, s.reg (EVC_MASK i))
    irqen := s.reg EVC_IRQEN
    engs := (List.range 12).map fun e => (EVC_ENG e, s.reg (EVC_ENG e))
    wakeen := [(EVC_WAKEEN0, s.reg EVC_WAKEEN0), (EVC_WAKEEN1, s.reg EVC_WAKEEN1)]
    pend := (List.range 8).map fun i => (EVC_PEND i,
      maskWith 0 (s.reg (EVC_PEND i)) ((List.range 32).filter fun b =>
        s.lineMasked (32 * i + b) || s.get (EVC_ROUTE.TMASK (32 * i + b)) == 0)) }

/-- The retained values restored (08 R436). -/
def State.restore (s : State) (r : Retained) : State :=
  (((((s.setRegs r.routes).setRegs r.masks).setReg EVC_IRQEN r.irqen).setRegs r.engs).setRegs r.wakeen).setRegs r.pend

/-- The restart load of cluster time (02 R93), `aon` AON periods after the AON time was last set. -/
def State.restartLoad (s : State) (aon : Nat) : State :=
  let t := { s with rgl := { s.rgl with aonTime := s.rgl.aonTime + aon } }
  let u := { t with rgl := { t.rgl with time := (if t.aonValid then t.aonAsTime else 0) * 2 ^ 24, q := 0, heldRate := none, heldStep := 0 } }
  (u.setQuality (bit t.aonValid)).ppsRebase

/-- Every key slot emptied, the keys overwritten (18 R865, R868). -/
def State.emptySlots (s : State) : List Nat → State
  | [] => s
  | i :: is => ({ s.setReg (SEC_SLOT i) 0 with security := { s.security with keys := tdrop i s.security.keys } } : State).emptySlots is

/-- A vault filled under another life-cycle state empties its slots (18 R860). -/
def State.vaultCheck (s : State) : State :=
  let t := if s.security.keysLcs = s.get SEC_LCS.STATE then s else s.emptySlots (List.range 64)
  { t with security := { t.security with keysLcs := s.get SEC_LCS.STATE } }

/-- Records and EV254 of tamper events that waited for service (18 R876, R877). -/
def State.tamperRecords (s : State) : List (Nat × Nat) → State
  | [] => s
  | (bits, act) :: r =>
    let t := s.logChange (originCode .tamper) 0x0B 0x0E false bits act 0
    (if 2 ≤ act ∧ act ≠ 4 then t.registerEvent 254 else t).tamperRecords r

/-- The record of a tamper reset is the first after it (18 R876). -/
def State.tamperFirst (s : State) : State :=
  let first := s.security.tamper.filter fun p => p.2 == 4
  let rest := s.security.tamper.filter fun p => p.2 != 4
  if s.power.powerUp then s
  else ({ s with security := { s.security with tamper := rest } } : State).tamperRecords first

/-- Steps 3 to 6 of the release sequence, and its end in loading (17 R846). -/
def State.releaseReset (s : State) (fuses : List (BitVec 21)) (limits : List (BitVec 20)) (aon : Nat) : State :=
  let t := if s.power.powerUp then s.discardLog.vaultCheck else s
  let t := (t.loadPincals 0 fuses).put RGL_STAT.PCVALID (bit ((fuses.take 119).all fuseGood))
  let t := match t.retained with
    | some r => t.restore r
    | none => t
  let t := (t.restartLoad aon).loadLimits 0 limits
  let k := t.fresh 128
  let u := ({ k.2 with bootKey := k.1 } : State).enterLoading.tamperFirst.fuseRecords 0 fuses
  { u with power := { u.power with powerUp := false } }

end Sys2Proof.Machine
end

