-- ==== Sys2Proof/Machine/Sessions.lean ====
section
/-! DEFINITION. Halts released, the close of a debug session and the debug reset (19 R895 to R898, R903, R909). -/

namespace Sys2Proof.Machine

/-- A halted engine goes on at its halt address, or is idle if it was (19 R903). -/
def State.releaseHalt (s : State) (e : Nat) : State :=
  if s.get (ENG_STAT.STATE e) = 3 then (s.setEng e { s.eng e with released := true }).setEngineState e (s.eng e).was else s

/-- Some engines released. -/
def State.releaseHalts (s : State) : List Nat → State
  | [] => s
  | e :: es => (s.releaseHalt e).releaseHalts es

/-- A halted Vernier goes on with its instruction (19 R909). -/
def State.releaseVernier (s : State) (v : Nat) : State :=
  if s.get (VRN_STAT.STATE v) = 3 then s.put (VRN_STAT.STATE v) (s.vernier v).was else s

/-- Some Verniers released. -/
def State.releaseVerniers (s : State) : List Nat → State
  | [] => s
  | v :: vs => (s.releaseVernier v).releaseVerniers vs

/-- Halt requests and steps of some engines withdrawn, and their comparators put out of action (19 R895). -/
def State.dropRequests (s : State) : List Nat → State
  | [] => s
  | e :: es => (s.setEng e { s.eng e with halt := 0, stepping := false, dcmpOff := 0xFF }).dropRequests es

/-- What a close and a debug reset do to the units under debug (19 R895, R898): halts released, requests withdrawn, comparators
out of action, the freezes ended. The servo's hold ends at its own edge. -/
def State.endDebug (s : State) : State :=
  let t := ((s.dropRequests (List.range 12)).releaseHalts (List.range 12)).releaseVerniers (List.range 24)
  let t := ({ t with vernierHalts := 0, crossTrigger := false } : State)
  let t := ((t.put EYE_CTL.LIVE 0).setReg EYE_FREEZE 0).setReg EYE_BRKEN 0
  (t.put AST_STAT.WDFRZ 0).newNonce

/-- The record of a close (19 R922), while the Logbook's domain is on. -/
def State.closeRecord (s : State) (why origin : Nat) : State :=
  if s.on EYE_STAT.SESS && s.ifcOn then s.logChange origin 0x08 0 false (0x02000000 + why) 0 0 else s

/-- An open session closes (19 R898): 0 DBGLOCK, 1 expiry, 2 debug reset, 3 life cycle, 4 tamper. -/
def State.closeSession (s : State) (why origin : Nat) : State :=
  if s.on EYE_STAT.SESS then
    let t := ((s.closeRecord why origin).put EYE_STAT.SESS 0).setReg EYE_SESS 0
    ({ t with eyepiece := { t.eyepiece with aonCount := 0, left := none } } : State).endDebug
  else s

/-- The responses of the Eyepiece master's tags are discarded. -/
def discardEyepiece (t : Table BulkTag) : Table BulkTag :=
  t.map fun p => (p.1, match p.2.use with | .eyepiece _ _ => { p.2 with discard := true } | _ => p.2)

/-- Debug reset (19 R895): the Eyepiece block at its reset values, with a new nonce. -/
def State.debugReset (s : State) : State :=
  let t := (s.closeRecord 2 (originCode .eyepiece)).endDebug
  ({ t with regs := t.regs.filter fun p => !debugRegister p.1, bulk := discardEyepiece t.bulk, eyeResp := 0, eyeData := 0,
            eyepiece := State.reset.eyepiece } : State).newNonce

end Sys2Proof.Machine
end

