-- ==== Sys2Proof/Machine/Power.lean ====
section
/-! DEFINITION. Power states, clocks, the attach sequencer and the clock and reset controller (17), and the resets' commands. -/

namespace Sys2Proof.Machine

/-! ## Attach status -/

/-- PSTATE of CLU_ATTACH. -/
def State.pstate (s : State) : Nat := s.get CLU_ATTACH.PSTATE

/-- Service or first light. -/
def State.inService (s : State) : Bool := s.get CLU_STAT.STATE == 2 || s.get CLU_STAT.STATE == 3

/-- PWR_REQ raised and the attach sequence begun (17 R850, step 1). -/
def State.startAttach (s : State) : State :=
  { s.put CLU_ATTACH.PSTATE 1 with power := { s.power with req := true } }

/-- The IFC domain goes off with ISO_EN at 1 and PWR_REQ at 0, and the sequencer enters a state (17 R849, R851, R853). -/
def State.detachTo (s : State) (pstate : Nat) : State :=
  let t := { s with power := { s.power with req := false } }.ifcOff
  ((t.put CLU_ATTACH.ISO 1).put CLU_ATTACH.PWRACK 0).put CLU_ATTACH.PSTATE pstate

/-- Detached (17 R851 step 10, R854): no wake source and no retention; an attach follows at once if ATTACH_REQ is 1 (R855). -/
def State.enterDetached (s : State) : State :=
  let t := ({ (s.detachTo 0).put CLU_ATTACH.ATTACK 0 with retained := none } : State)
  let t := (((t.setReg EVC_WAKEEN0 0).setReg EVC_WAKEEN1 0).setReg EVC_WAKELAT0 0).setReg EVC_WAKELAT1 0
  if t.on CLU_ATTACH.ATTREQ then t.startAttach else t

/-- PWR_ACK has risen: the IFC domain is on and held in reset (17 R850, step 2). -/
def State.powerUp (s : State) : State :=
  let t := ({ s with ifcOn := true, power := { s.power with powerUp := true, pllsStarted := false } } : State)
  ((t.put CLU_ATTACH.PWRACK 1).put CLU_STAT.RSTCAUSE 3).settleAll

/-! ## Nap (R828 to R830) -/

/-- A write of NAP or DORMANT is refused (R828, R831). -/
def State.sleepRefused (s : State) : Bool := s.on ADM_STAT.ACTIVE || !s.inService

/-- The watchdogs of some engines held. -/
def State.holdWatchdogs (s : State) : List Nat → State
  | [] => s
  | e :: es => (s.watchdogHold e).holdWatchdogs es

/-- The watchdogs of some engines start their full period. -/
def State.restartWatchdogs (s : State) : List Nat → State
  | [] => s
  | e :: es => (s.watchdogRestart e).restartWatchdogs es

/-- Nap ends (R829, R830). -/
def State.leaveNap (s : State) : State :=
  if s.pstate = 3 then (s.put CLU_ATTACH.PSTATE 2).restartWatchdogs (List.range 12) else s

/-! ## Detach (R851, R852) -/

/-- Steps 1 and 2: quiescing, in which the sources are closed (15 R776). -/
def State.startDetach (s : State) : State :=
  let t := (s.leaveNap).put CLU_ATTACH.PSTATE 5
  let t := if s.inService then t.put CLU_STAT.STATE 4 else t
  { t with power := { t.power with detachEdge := t.rgl.edge, stopped := false, tombstoned := 0, inFlight := 0, napAsked := false } }

/-- Every engine stopped as by a forced stop (04 R224). -/
def State.stopEngines (s : State) : List Nat → State
  | [] => s
  | e :: es => ((s.put (ENG_CTL.RUN e) 0).stopRequest e true).stopEngines es

/-- Breach records for the ACCEPTED items of flow f while its destination queue has room (15 R778), with how many were placed. -/
def State.tombstoneFlow (s : State) (f fcode : Nat) : Nat → Nat × State
  | 0 => (0, s)
  | fuel + 1 =>
    if s.itemsAccepted f = 0 || !s.flowValid f then (0, s)
    else
      match s.placeBreach f 0x04 fcode with
      | (true, t) =>
        let r := t.tombstoneFlow f fcode fuel
        (r.1 + 1, r.2)
      | (false, t) => (0, t)

/-- The same for some flows, in ascending FLOW order: a flow whose queue has no room is waited for. -/
def State.tombstoneFlows (s : State) (fcode : Nat) : List Nat → Nat × State
  | [] => (0, s)
  | f :: fs =>
    let r := s.tombstoneFlow f fcode (s.itemsAccepted f)
    if r.2.flowValid f && r.2.itemsAccepted f != 0 then r
    else
      let q := r.2.tombstoneFlows fcode fs
      (r.1 + q.1, q.2)

/-- The same for every flow. -/
def State.tombstoneAll (s : State) (fcode : Nat) : Nat × State := s.tombstoneFlows fcode s.flowNumbers

/-- Every flow has NEXTC = NEXTA. -/
def State.allTombstoned (s : State) : Bool := s.flowNumbers.all fun f => !s.flowValid f || s.itemsAccepted f == 0

/-- The destination queues of frame port flows. -/
def State.portQueues (s : State) : List Nat :=
  ((s.flowNumbers.filter fun f => s.flowValid f && s.get (AST_OT0.DSTK f) == 1).map fun f => s.get (AST_OT0.DSTQ f)).eraseDups

/-- The descriptors in some queues. -/
def State.queued (s : State) (qs : List Nat) : Nat := (qs.map s.queueCount).foldl (· + ·) 0

/-- The committed items not yet delivered. -/
def State.itemsInFlight (s : State) : Nat := (s.flowNumbers.map fun f => (s.flow f).inFlight).foldl (· + ·) 0

/-- Bypass of every port asked for by the clock and reset controller (R851, step 8). -/
def State.bypassPorts (s : State) : List Nat → State
  | [] => s
  | p :: ps =>
    let v := s.reg (FPT_CTL p) ||| 1
    (s.writeReg .clock (FPT_CTL p) v (writeFptCtl p v)).bypassPorts ps

/-- Step 5 has ended (R851): every frame port queue empty, or LIM × 10 µs after step 1. -/
def State.drainEnded (s : State) : Bool :=
  s.power.stopped && s.allTombstoned &&
    (s.queued s.portQueues == 0 || decide (s.power.detachEdge + 5000 * Nat.max 1 (s.get CLK_QUIES.LIM) ≤ s.rgl.edge))

/-- Steps 6 to 10 (R851, R852): the order of the three counts in the record is that of the rule (log entry 49). -/
def State.finishDetach (s : State) : State :=
  let left := s.queued s.portQueues
  let t := (s.leaveLink 0).leaveLink 1
  let t := t.logChange (originCode .clock) 0x0C 0 false (s.power.inFlight - s.itemsInFlight) s.power.tombstoned left
  let t := if left = 0 then t else t.put CLU_ATTACH.LOSTDRAIN 1
  (t.bypassPorts (List.range 8)).placeAll.enterDetached

/-! ## Dormant (R831, R832, R853) -/

/-- The Dormant entry sequence (R853): bypass, the retention copy, power-off; ATTACH_ACK stays 1. EVC_WAKEEN stays in force for
08 R437. A fall of ATTACH_REQ meanwhile is acted on at once (R855). -/
def State.enterDormant (s : State) : State :=
  let t := s.bypassPorts (List.range 8)
  let r := t.retention
  let u := ({ t.placeAll.detachTo 4 with retained := some r } : State).setRegs r.wakeen
  if u.on CLU_ATTACH.ATTREQ then u else u.enterDetached

/-- A wake source starts the attach sequence (R832). -/
def State.wake (s : State) (source : Nat) : State :=
  if s.pstate = 4 then (s.setBit CLU_ATTACH (19 + source) true).startAttach else s

/-! ## Clocks (R833 to R845) -/

/-- The nominal frequency of candidate c in kHz (R838). -/
def xrefKhz (c : Nat) : Nat := if c = 1 then 10000 else if c = 2 then 20000 else 25000

/-- The check of R838 passes for candidate c: N edges of HOST_CLK in 4096 periods, lo and hi in a single one. -/
def State.checkPasses (s : State) (n lo hi c : Nat) : Bool :=
  let h := s.get CLK_OSC_TOL.HOSTKHZ
  let f := xrefKhz c
  let ppm := Nat.max 1 (s.get CLK_OSC_TOL.PPM)
  decide (((n * f : Nat) - ((4096 * h : Nat) : Int)).natAbs * 1000000 ≤ 4096 * h * ppm + f * 1000000) &&
    decide (h / f ≤ lo + 1) && decide (hi ≤ (h + f - 1) / f + 1)

/-- A check is under way (R838, R840): the domain is on, its PLLs have not been started. -/
def State.checking (s : State) : Bool :=
  s.ifcOn && !s.power.pllsStarted && !s.pllsRun && s.on CLK_OSC_TOL.HOSTKHZ

/-- The one element of a list of one. -/
def onlyOne : List Nat → Option Nat
  | [c] => some c
  | _ => none

/-- What R839 does with the candidate that passed, if exactly one has: it starts the PLLs, or the check has failed. -/
def State.checked (s : State) : Option Nat → State
  | some c =>
    let t := ((s.put CLK_PLLSTAT.XFREQ c).put CLK_PLLSTAT.CHECKOK 1).put CLK_STAT.OSCFAIL 0
    { t with power := { t.power with pllsStarted := true } }
  | none => (s.put CLK_PLLSTAT.CHECKOK 0).count CLK_STAT.OSCFAIL 1

/-- A check has completed (R839). -/
def State.stabilityCheck (s : State) (n lo hi : Nat) : State := s.checked (onlyOne ([1, 2, 3].filter (s.checkPasses n lo hi)))

/-- All three PLLs are locked. -/
def State.lockAll (s : State) : State := ((s.put CLK_PLLSTAT.TCLKLK 1).put CLK_PLLSTAT.CCLKLK 1).put CLK_PLLSTAT.LINKLK 1

/-- The PLLs lock (R835): after a clock loss the clock-restart reset follows (R844), in an attach ISO_EN falls (R850, step 4). -/
def State.pllsLock (s : State) : State :=
  let t := s.lockAll
  if s.get CLU_STAT.STATE = 6 then (t.resetWith (s.get CLU_STAT.RSTCAUSE)).put CLK_STAT.CLKRST 1
  else if s.pstate = 1 then t.put CLU_ATTACH.ISO 0
  else t

/-- A clock loss (R842), `aon` AON periods after the AON time was last set. In isolation the state stays (01 R42). -/
def State.loseClock (s : State) (cause aon : Nat) : State :=
  let t := { s with rgl := { s.rgl with aonTime := s.rgl.aonTime + aon } }
  let t := (((t.put CLK_PLLSTAT.TCLKLK 0).put CLK_PLLSTAT.CCLKLK 0).put CLK_PLLSTAT.LINKLK 0)
  let t := (((t.put CLK_STAT.LOSS 1).put CLK_STAT.CAUSE cause).count CLK_STAT.LOSSCNT 1)
  let t := { t with power := { t.power with pllsStarted := false, lossSec := some (t.rgl.aonTime / 32768) } }
  let t := ((t.put (CST_LNKSTAT.STATE 0) 0).put (CST_LNKSTAT.STATE 1) 0)
  let t := if s.get CLU_STAT.STATE = 7 then t else (t.put CLU_STAT.STATE 6).setQuality 1
  ({ t with links := [] } : State).settleAll

/-! ## The first tick of service or first light -/

/-- What the first tick of service or first light brings: the tamper records, first of all after a tamper reset (18 R876); the
record of a clock loss, of whose fields R845 names the AON seconds only (log entry 49), and EV255; the end of the Shutter's Restart
phase (15 R775); and the end of the attach sequence, with a detach at once if ATTACH_REQ has fallen (R850, R855). -/
def State.serviceStart (s : State) : State :=
  let t := ({ s with security := { s.security with tamper := [] } } : State).tamperRecords s.security.tamper
  let t := match s.power.lossSec with
    | some sec =>
      let f := t.fresh 64
      ({ f.2.logChange (originCode .clock) 0x0C 0x0C false (f.1.toNat % 2 ^ 32) sec (f.1.toNat / 2 ^ 32) with
          power := { f.2.power with lossSec := none } } : State).registerEvent 255
    | none => t
  let t := if t.get SHT_STAT.PHASE = 5 then t.put SHT_STAT.PHASE 0 else t
  if t.pstate = 1 then
    let u := ((t.put CLU_ATTACH.ATTACK 1).put CLU_ATTACH.PSTATE 2)
    if u.on CLU_ATTACH.ATTREQ then u else u.startDetach
  else t

/-- The lines of the wake latches registered, and the latches cleared (08 R438). -/
def State.replayLatches (s : State) : State :=
  let w0 := (s.reg EVC_WAKELAT0).toNat
  let w1 := (s.reg EVC_WAKELAT1).toNat
  let pins := (onesBelow 32 w0).map (32 + ·) ++ (onesBelow 16 w1).map (64 + ·)
  let macs := ((List.range 8).filter fun p => w1.testBit (24 + p)).map fun p => 17 + 2 * p
  ((s.setReg EVC_WAKELAT0 0).setReg EVC_WAKELAT1 0).registerEvents (pins ++ macs)

/-! ## Register writes -/

/-- The rules of a write to CLU_CTL: the record is written before the reset (01 R41). -/
def writeCluCtl (v : Word) (s : State) : Effect :=
  let t := s.plainWrite CLU_CTL v
  if bitAt v 1 then { state := t, after := fun u => u.placeAll.resetWith 2 } else .ok t

/-- The rules of a write to CLU_ATTACH. -/
def writeCluAttach (v : Word) (s : State) : Effect :=
  let t := s.plainWrite CLU_ATTACH v
  .ok (if bitAt v 10 then t.wake 4 else t)

/-- The rules of a write to CLK_OSC_TOL: a HOSTKHZ outside 100 000 to 400 000, and not 0, is not taken. -/
def writeClkOscTol (v : Word) (s : State) : Effect :=
  let h := fieldOf v 18 0
  let t := s.plainWrite CLK_OSC_TOL v
  if h = 0 ∨ (100000 ≤ h ∧ h ≤ 400000) then .ok t else .kept (t.put CLK_OSC_TOL.HOSTKHZ (s.get CLK_OSC_TOL.HOSTKHZ))

/-- The largest DEPTH permitted: 0 in first light, else SPREAD of the PLATFORM record in force (R837). -/
def State.spreadLimit (s : State) : Nat :=
  if s.get CLU_STAT.STATE = 2 then 0 else fieldOf (s.chart.platform.getD 2 0) 11 8

/-- The rules of a write to CLK_SSC (R837). -/
def writeClkSsc (v : Word) (s : State) : Effect :=
  let t := s.plainWrite CLK_SSC v
  let r := fieldOf v 15 8
  let t := t.put CLK_SSC.RATE (if r < 30 then 30 else if 120 < r then 120 else r)
  if s.spreadLimit < fieldOf v 3 0 then .denied s
  else if 8 < fieldOf v 3 0 then .kept (t.put CLK_SSC.DEPTH (s.get CLK_SSC.DEPTH))
  else .ok t

/-- The rules of a write to CLK_PWRCTL (R828, R829, R831): Dormant prevails over Nap where both are asked for. -/
def writeClkPwrctl (v : Word) (s : State) : Effect :=
  if (bitAt v 0 || bitAt v 1) && s.sleepRefused then .denied s
  else
    let t := s.plainWrite CLK_PWRCTL v
    if bitAt v 1 then { state := (t.put CLU_ATTACH.PSTATE 6), after := State.enterDormant }
    else if bitAt v 0 then .ok { t with power := { t.power with napAsked := t.pstate == 2 } }
    else .ok ({ t with power := { t.power with napAsked := false } } : State).leaveNap

/-! ## The commands -/

/-- AON_RST_N_ASSERT (R33, 18 R860). -/
def execAonRstNAssert (s : State) : Host.Outcome State Fault Refusal := .next s.aonReset

/-- CLU_RST_N_ASSERT (R33). -/
def execCluRstNAssert (s : State) : Host.Outcome State Fault Refusal := .next (if s.ifcOn then s.resetWith 1 else s)

/-- CLURST (R41): a write of CLU_CTL with CLURST = 1. -/
def execClurst (o : Origin) (v : Word) (s : State) : Host.Outcome State Fault Refusal :=
  .next (s.writeReg o CLU_CTL (v ||| 2) (writeCluCtl (v ||| 2)))

/-- RESET_RELEASE_SEQUENCE (R846), with what the fuses and the switch core present and the AON periods since the AON time was
last set. -/
def execResetReleaseSequence (fuses : List (BitVec 21)) (limits : List (BitVec 20)) (aon : Nat) (s : State) :
    Host.Outcome State Fault Refusal :=
  .next (if s.ifcOn && s.get CLU_STAT.STATE == 0 && s.pllsRun then s.releaseReset fuses limits aon else s)

/-- STABILITY_CHECK_COMPLETE (R839). -/
def execStabilityCheckComplete (n lo hi : Nat) (s : State) : Host.Outcome State Fault Refusal :=
  .next (if s.checking then s.stabilityCheck n lo hi else s)

/-- PLL_LOCK (R835, R844): the PLLs after a passed check, or the link PLL alone after its loss of lock. -/
def execPllLock (s : State) : Host.Outcome State Fault Refusal :=
  .next (if !s.ifcOn then s
    else if s.pllsRun then s.put CLK_PLLSTAT.LINKLK 1
    else if s.power.pllsStarted then s.pllsLock
    else s)

/-- CLOCK_LOSS (R841, R842): cause 0b01 XREF_CLK, 0b10 TCLK PLL, 0b11 CCLK PLL. -/
def execClockLoss (cause : Fin 3) (aon : Nat) (s : State) : Host.Outcome State Fault Refusal :=
  .next (if s.ifcOn && s.pllsRun then s.loseClock (cause + 1) aon else s)

/-- LINK_PLL_LOCK_LOSS (R835). -/
def execLinkPllLockLoss (s : State) : Host.Outcome State Fault Refusal :=
  .next (if s.on CLK_PLLSTAT.LINKLK then (s.put CLK_PLLSTAT.LINKLK 0).linksLost else s)

/-- ATTACH_SEQUENCE (R850): ATTACH_REQ is 1, and `ack` is the level of PWR_ACK while PWR_REQ is 1. -/
def execAttachSequence (ack : Bool) (s : State) : Host.Outcome State Fault Refusal :=
  .next <|
    let t := s.put CLU_ATTACH.ATTREQ 1
    let t := if t.pstate = 0 then t.startAttach else t
    if t.pstate = 1 ∧ t.power.req ∧ !t.ifcOn ∧ ack then t.powerUp else t

/-- DETACH_SEQUENCE (R851, R855): ATTACH_REQ falls. -/
def execDetachSequence (s : State) : Host.Outcome State Fault Refusal :=
  .next <|
    let t := s.put CLU_ATTACH.ATTREQ 0
    if t.pstate = 2 ∨ t.pstate = 3 then t.startDetach else t

/-- DETACH_COMMIT_WINDOW_END (R851, steps 3 and 4): CMT µs after step 1 the engines stop; the breach records of items that found
no room are placed at a later such command. -/
def execDetachCommitWindowEnd (s : State) : Host.Outcome State Fault Refusal :=
  .next <|
    if s.pstate ≠ 5 || !s.pllsRun || decide (s.rgl.edge < s.power.detachEdge + 500 * s.get CLK_QUIES.CMT) then s
    else
      let t := if s.power.stopped then s else s.stopEngines (List.range 12)
      let r := t.tombstoneAll 0
      let u := r.2
      { u with power := { u.power with stopped := true, tombstoned := s.power.tombstoned + r.1,
                                       inFlight := if s.power.stopped then s.power.inFlight else u.itemsInFlight } }

/-- DETACH_DRAIN_END (R851 steps 5 to 10, R852). -/
def execDetachDrainEnd (s : State) : Host.Outcome State Fault Refusal :=
  .next (if s.pstate = 5 && s.pllsRun && s.drainEnded then s.finishDetach else s)

/-- PWR_ACK_LOSS (R849). -/
def execPwrAckLoss (s : State) : Host.Outcome State Fault Refusal :=
  .next (if s.power.req && s.on CLU_ATTACH.PWRACK then s.enterDetached else s)

/-- ATTACH_REQ_FALL_IN_DORMANT (R854, R855). -/
def execAttachReqFallInDormant (s : State) : Host.Outcome State Fault Refusal :=
  .next <|
    let t := s.put CLU_ATTACH.ATTREQ 0
    if t.pstate = 4 then t.enterDetached else if t.pstate = 2 ∨ t.pstate = 3 then t.startDetach else t

/-- NAP_REQUEST (R828): a write of CLK_PWRCTL with NAP = 1. -/
def execNapRequest (o : Origin) (v : Word) (s : State) : Host.Outcome State Fault Refusal :=
  .next (s.writeReg o CLK_PWRCTL (v ||| 1) (writeClkPwrctl (v ||| 1)))

/-- NAP_ENTRY (R828, R830): every engine is idle, stopped, halted or frozen. -/
def execNapEntry (s : State) : Host.Outcome State Fault Refusal :=
  .next <|
    if s.power.napAsked && s.pstate == 2 && s.pllsRun && (List.range 12).all fun e => s.get (ENG_STAT.STATE e) != 1 then
      ({ s.put CLU_ATTACH.PSTATE 3 with power := { s.power with napAsked := false } } : State).holdWatchdogs (List.range 12)
    else s

/-- NAP_EXIT (R829): a write of CLK_PWRCTL with NAP = 0, or a vector pending bit while NAPEV is 1. -/
def execNapExit (w : Option (Origin × Word)) (s : State) : Host.Outcome State Fault Refusal :=
  .next <|
    match w with
    | some (o, v) => s.writeReg o CLK_PWRCTL (v &&& ~~~ 1) (writeClkPwrctl (v &&& ~~~ 1))
    | none => if s.on CLK_PWRCTL.NAPEV && s.deliveries.any fun d => d.held.isNone then s.leaveNap else s

/-- DORMANT (R831, R853): a write of CLK_PWRCTL with DORMANT = 1. -/
def execDormant (o : Origin) (v : Word) (s : State) : Host.Outcome State Fault Refusal :=
  .next (s.writeReg o CLK_PWRCTL (v ||| 2) (writeClkPwrctl (v ||| 2)))

/-- DORMANT_WAKE (R832): source 0 field pin, 1 MAC_WAKE, 2 AON alarm, 3 tamper; `aon` AON periods have passed. -/
def execDormantWake (source : Fin 4) (aon : Nat) (s : State) : Host.Outcome State Fault Refusal :=
  .next <|
    let t := { s with rgl := { s.rgl with aonTime := s.rgl.aonTime + aon } }
    let due := match source.val with
      | 0 => s.reg EVC_WAKELAT0 != 0 || s.on EVC_WAKELAT1.PIN
      | 1 => s.on EVC_WAKELAT1.MAC
      | 2 => s.on CLK_PWRCTL.ALMEN && s.aonValid && BitVec.ofNat 32 (t.rgl.aonTime / 32768) == s.reg CLK_AONALM
      | _ => !s.security.tamper.isEmpty
    if due then t.wake source else t

/-- WAKE (R832): a write of CLU_ATTACH with WAKE = 1. -/
def execWake (o : Origin) (v : Word) (s : State) : Host.Outcome State Fault Refusal :=
  .next (s.writeReg o CLU_ATTACH (v ||| 0x400) (writeCluAttach (v ||| 0x400)))

/-- WAKE_LATCH_REPLAY (R438). -/
def execWakeLatchReplay (s : State) : Host.Outcome State Fault Refusal :=
  .next (if s.ifcOn && s.inService then s.replayLatches else s)

/-- CLK_SSC_WRITE (R837). -/
def execClkSscWrite (o : Origin) (v : Word) (s : State) : Host.Outcome State Fault Refusal :=
  .next (s.writeReg o CLK_SSC v (writeClkSsc v))

end Sys2Proof.Machine
end

