-- ==== Sys2Proof/Machine/Security.lean ====
section
/-! DEFINITION. The vault, the authentication unit, the tamper monitor and the wipe of the secure region (18). -/

namespace Sys2Proof.Machine

/-! ## The vault (R864 to R869) -/

/-- A key usage that is not reserved (R864). -/
def keyUsage (u : Nat) : Bool := decide (1 ≤ u) && decide (u ≤ 4)

/-- The length of a key of a usage in bytes (R864). -/
def keyBytes (usage : Nat) : Nat := if usage = 2 then 16 else 32

/-- Slot i is FULL. -/
def State.slotFull (s : State) (i : Nat) : Bool := s.on (SEC_SLOT.FULL i)

/-- The key in slot i. -/
def State.slotKey (s : State) (i : Nat) : BitVec 256 := tget (fun _ => (0 : BitVec 256)) s.security.keys i

/-- The bytes of the key in slot i, as many as its usage has. -/
def State.keyOf (s : State) (i : Nat) : List Byte := leBytes (keyBytes (s.get (SEC_SLOT.USAGE i))) (s.slotKey i).toNat

/-- A slot filled with a key (R866, R869), of which the bytes of its usage count. -/
def State.fillSlot (s : State) (i usage : Nat) (key : BitVec 256) : State :=
  let k : BitVec 256 := BitVec.ofNat 256 (key.toNat % 2 ^ (8 * keyBytes usage))
  let v := BitVec.ofNat 32 (2 ^ 31 + usage % 8 * 2 ^ 28 + keyCheckValue usage (leBytes (keyBytes usage) k.toNat))
  { s.setReg (SEC_SLOT i) v with
    security := { s.security with keys := tset (fun _ => (0 : BitVec 256)) s.security.keys i k, keysLcs := s.get SEC_LCS.STATE } }

/-- Slot i emptied (R868). -/
def State.emptySlot (s : State) (i : Nat) : State := s.emptySlots [i]

/-! ## The secure region (R861, R863) -/

/-- Plates from k up, n of them, written 0 with valid check bits. -/
def State.wipePlates (s : State) (k n : Nat) : State :=
  { s with mem := s.mem.filter fun p => decide (p.1 < 0x10000 * k ∨ 0x10000 * (k + n) ≤ p.1),
           ecc := s.ecc.filter fun p => decide (p.1 < 0x2000 * k ∨ 0x2000 * (k + n) ≤ p.1) }

/-- A wipe of the secure region (R863). -/
def State.wipe (s : State) : State := s.wipePlates 0 4

/-! ## The tamper monitor (R876 to R878) -/

/-- The source exists and can be detected now ("Tamper sources"). -/
def State.tamperSource (s : State) (b : Nat) : Bool :=
  let runs := s.pstate == 2 || s.pstate == 3
  match b with
  | 0 => s.on SEC_MESH.MEN
  | 3 => runs && s.on CLU_ATTACH.PWRACK
  | 4 => runs
  | 6 => runs && decide (4 ≤ s.security.tokenFails)
  | _ => true

/-- The action of source b. -/
def State.tamperAction (s : State) (b : Nat) : Nat := fieldOf (s.reg SEC_TAMPER_POL) (3 * b + 2) (3 * b)

/-- A record of some sources and an action, now or, while the IFC domain is off, at the first tick of service (R877). -/
def State.tamperRecord (s : State) (bits act : Nat) : State :=
  if s.ifcOn then s.tamperRecords [(bits, act)]
  else { s with security := { s.security with tamper := s.security.tamper ++ [(bits, act)] } }

/-- Action 0b100 (R876): keys emptied, TAMPERED programmed, region wiped and the cluster reset, whose cause code the manual does
not give (log entry 51). Its record is the first after the reset. -/
def State.tamperKill (s : State) (bits : Nat) : State :=
  let t := s.emptySlots (List.range 64)
  let t := if s.get SEC_LCS.STATE = 4 then t else t.put SEC_LCS.STATE 0xF
  let t := { t with security := { t.security with keysLcs := t.get SEC_LCS.STATE } }
  if s.ifcOn then
    let f := t.fresh 2
    let u := f.2.placeAll.wipe.resetWith f.1.toNat
    { u with security := { u.security with tamper := u.security.tamper ++ [(bits, 4)] } }
  else t.tamperRecord bits 4

/-- Sources detected at one edge (R876, R877); actions 0b011 and 0b100 close a session (19 R898). -/
def State.tamperDetect (s : State) (bits : Nat) : State :=
  let new := (List.range 8).filter fun b => bits.testBit b && s.tamperSource b && !(s.get SEC_ALARM.SRC).testBit b
  let mask := new.foldl (fun m b => m + 2 ^ b) 0
  let act := (new.map s.tamperAction).foldl Nat.max 0
  let t := s.orBits SEC_ALARM.SRC mask
  let t := if mask.testBit 6 then { t with security := { t.security with tokenFails := 0 } } else t
  match act with
  | 0 => t
  | 1 | 2 => t.tamperRecord mask act
  | 3 =>
    let u := ((t.emptySlots (List.range 64)).tamperRecord mask 3).closeSession 4 (originCode .tamper)
    if u.ifcOn then u.wipePlates 2 1 else u
  | _ => (t.closeSession 4 (originCode .tamper)).tamperKill mask

/-- The action codes that R876 gives. -/
def tamperCode (c : Nat) : Bool := decide (c ≤ 4)

/-- The policy with the fields of v whose code is not reserved. -/
def policyWith (old v : Word) : List Nat → Word
  | [] => old
  | b :: bs =>
    let c := fieldOf v (3 * b + 2) (3 * b)
    policyWith (if tamperCode c then fieldSet old (3 * b + 2) (3 * b) c else old) v bs

/-- The rules of a write to SEC_TAMPER_POL (R878). -/
def writeTamperPol (v : Word) (s : State) : Effect :=
  let open_ := s.get SEC_LCS.STATE == 1 || s.get SEC_LCS.STATE == 2
  let code (b : Nat) := fieldOf v (3 * b + 2) (3 * b)
  let bad := (List.range 8).any fun b => !tamperCode (code b)
  let lower := (List.range 8).any fun b => decide (code b < s.tamperAction b)
  if !open_ && (bad || lower) then .denied s
  else { state := s.setReg SEC_TAMPER_POL (policyWith (s.reg SEC_TAMPER_POL) v (List.range 8)), refused := bad }

/-- The rules of a write to SEC_MESH: an INT above 10 stores 10. -/
def writeSecMesh (v : Word) (s : State) : Effect :=
  let t := s.plainWrite SEC_MESH v
  .ok (if 10 < fieldOf v 3 0 then t.put SEC_MESH.INT 10 else t)

/-! ## The authentication unit (R870 to R872) -/

/-- The engine that produces REQQ and consumes RESQ (R870). -/
def State.bindingEngine (s : State) (req res : Nat) : Option Nat :=
  let c := s.get (QM_QCFG.PROD req)
  if decide (0x10 ≤ c) && decide (c ≤ 0x1B) && s.get (QM_QCFG.CONS res) == c then some (s.engMap (c - 0x10)) else none

/-- An engine holds a current key slot capability for a slot with READ (R870). -/
def State.holdsSlot (s : State) (e slot : Nat) : Bool :=
  (List.range 16).any fun k =>
    capType (s.cap e k) == typeKeySlot && capObj (s.cap e k) == slot && s.capCurrent (s.cap e k) && capHas (s.cap e k) rightRead

/-- A binding is acceptable (R870). -/
def State.bindingGood (s : State) (req res slot : Nat) : Bool :=
  s.get (QM_QCFG.CONS req) == 4 && s.get (QM_QCFG.PROD res) == 4 &&
    (s.bindingEngine req res).any fun e => s.holdsSlot e slot

/-- The rules of a write to SEC_AUTHQn (R870, "SEC_AUTHQ0"); an accepted binding has a record of kind 0x06 (R879) besides, whose
VALUE, a command code, the manual does not give for it (log entry 52). -/
def writeAuthq (n : Nat) (o : Origin) (v : Word) (s : State) : Effect :=
  let slot := fieldOf v 5 0
  let changed := fieldOf v 29 10 != fieldOf (s.reg (SEC_AUTHQ n)) 29 10 || slot != s.get (SEC_AUTHQ.SLOT n)
  if s.on (SEC_AUTHQ.EN n) && changed then .denied s
  else if !bitAt v 31 then .ok (s.plainWrite (SEC_AUTHQ n) v)
  else if !s.bindingGood (fieldOf v 19 10) (fieldOf v 29 20) slot then (Effect.kept s).conflict
  else
    let t := { s.plainWrite (SEC_AUTHQ n) v with
      security := { s.security with bindGen := tset (fun _ => 0) s.security.bindGen n (s.gen typeKeySlot slot) } }
    { state := t, after := fun u =>
        let f := u.fresh 32
        f.2.logChange (originCode o) 0x06 0 false slot f.1.toNat (s.get (SEC_SLOT.KCV slot)) }

/-- OP, TL and START of a request (R871; log entry 50). -/
def authOp (d : List Byte) : Nat := fieldOf (descWord d 2) 31 28
def authTagBytes (d : List Byte) : Nat := if bitAt (descWord d 2) 27 then 32 else 16
def authStart (d : List Byte) : Nat := fieldOf (descWord d 7) 31 16

/-- OP is GMAC. -/
def authGmac (d : List Byte) : Bool := authOp d == 3 || authOp d == 4

/-- A request with result 0x0004 (R872). -/
def State.authBad (s : State) (n : Nat) (d : List Byte) : Bool :=
  let a := descAddr d
  let k := plateOf a
  authOp d == 0 || decide (4 < authOp d) || descExt d || (authGmac d && (decide (authStart d < 12) || authTagBytes d == 32)) ||
    decide (descLen d < authStart d + authTagBytes d) || plateOf (a + descLen d - 1) != k ||
    !(s.codeIsEngine (s.plateOwner k) (s.engMap (s.get (QM_QCFG.PROD (s.get (SEC_AUTHQ.REQQ n))) - 0x10)))

/-- The usage of a slot is that of OP (R872). -/
def usageFits (usage : Nat) (d : List Byte) : Bool := if authGmac d then usage == 2 || usage == 3 else usage == 1

/-- The bytes under a tag, GMAC's IV before them, and the tag's place. -/
def authRange (d : List Byte) : Nat × Nat :=
  let lead := if authGmac d then 12 else 0
  (descAddr d + authStart d - lead, descLen d - authTagBytes d - authStart d + lead)

/-- A request carried out (R871, R872): its result, and the state. What a result is after an uncorrectable error in the buffer
is free (10 R505; log entry 52). -/
def State.authRun (s : State) (n : Nat) (d : List Byte) : Nat × State :=
  let slot := s.get (SEC_AUTHQ.SLOT n)
  let tagAt := descAddr d + descLen d - authTagBytes d
  if !s.slotFull slot || (decide (1 ≤ authOp d) && decide (authOp d ≤ 4) && !usageFits (s.get (SEC_SLOT.USAGE slot)) d) then (2, s)
  else if s.gen typeKeySlot slot ≠ tget (fun _ => 0) s.security.bindGen n then (3, s.put (SEC_AUTHQ.REVOKED n) 1)
  else if s.authBad n d then (4, s)
  else
    match s.plateRead 4 (authRange d).1 (authRange d).2 with
    | (none, t) =>
      let f := t.fresh 16
      (f.1.toNat, f.2)
    | (some bs, t) =>
      let tag := (authTag (authGmac d) (s.keyOf slot) bs).take (authTagBytes d)
      if authOp d = 1 ∨ authOp d = 3 then (0, (t.plateWrite 4 tagAt tag).2)
      else
        match t.plateRead 4 tagAt (authTagBytes d) with
        | (none, u) =>
          let f := u.fresh 16
          (f.1.toNat, f.2)
        | (some old, u) => (if old = tag then 0 else 1, u)

/-- The unit takes the head of binding n's request queue (R871), once no plate it needs is held (04 R219, 10 R493). -/
def State.authTake (s : State) (n : Nat) : State :=
  let q := s.get (SEC_AUTHQ.REQQ n)
  if s.headHeld q then s
  else match s.readHead q with
    | (none, t) => t
    | (some d, t) =>
      if !s.authBad n d && s.rangeHeld (descAddr d) (descLen d) then s
      else
        let r := (t.dequeue q).2.authRun n d
        { r.2 with security := { r.2.security with auth := some { binding := n, desc := d, result := r.1 } } }

/-- The completed request placed on its result queue and counted (R872); its own queue's RETQ takes its descriptor (10 R528). -/
def State.authDone (s : State) (a : AuthRequest) : State :=
  let t := { s with security := { s.security with auth := none } }
  let d := descSet a.desc 7 (fieldSet (descWord a.desc 7) 31 16 a.result)
  let u := ((t.hwEnqueue (s.get (SEC_AUTHQ.RESQ a.binding)) d).2.finishDescriptor (s.get (SEC_AUTHQ.REQQ a.binding)) a.desc).count
    SEC_AUTHSTAT.REQS 1
  if a.result = 0 then u else u.count SEC_AUTHSTAT.FAILS 1

/-! ## The commands -/

/-- TAMPER_DETECTION (R876, R877): the sources detected at one AON_CLK edge. -/
def execTamperDetection (bits : BitVec 8) (s : State) : Host.Outcome State Fault Refusal := .next (s.tamperDetect bits.toNat)

/-- TAMPER_POL_WRITE (R878). -/
def execTamperPolWrite (o : Origin) (v : Word) (s : State) : Host.Outcome State Fault Refusal :=
  .next (s.writeReg o SEC_TAMPER_POL v (writeTamperPol v))

/-- The minimum ring of SEC_AUTHQn: 2 if the slot's HOSTM is 1, else 1. -/
def State.authqRing (s : State) (v : Word) : Nat := if s.hostManaged typeKeySlot (fieldOf v 5 0) then 2 else 1

/-- AUTH_BINDING_WRITE (R870). -/
def execAuthBindingWrite (n : Fin 8) (o : Origin) (v : Word) (s : State) : Host.Outcome State Fault Refusal :=
  .next (s.writeAs o (s.authqRing v) (SEC_AUTHQ n) v (writeAuthq n o v))

/-- AUTH_REQUEST (R871): the binding whose head request became visible first. -/
def execAuthRequest (n : Fin 8) (s : State) : Host.Outcome State Fault Refusal :=
  .next (if s.pllsRun && s.security.auth.isNone && s.on (SEC_AUTHQ.EN n) then s.authTake n else s)

/-- AUTH_RESULT (R872). -/
def execAuthResult (s : State) : Host.Outcome State Fault Refusal :=
  .next (match s.security.auth with
    | some a => if s.pllsRun then s.authDone a else s
    | none => s)

end Sys2Proof.Machine
end

