-- ==== Sys2Proof/Machine/Eyepiece.lean ====
section
/-! DEFINITION. The Eyepiece (19): run control, engine state access, cross-triggers, freezes, sessions' expiry and the master. EYE_DR's
transactions stand in Machine/Bus.lean. -/

namespace Sys2Proof.Machine

/-! ## Rights (R899) -/

/-- The open session has right b: 0 RUNCTL, 1 LIVE, 2 MEMR, 3 MEMW, 4 SECR, 5 FRZA, 6 FRZS. -/
def State.right (s : State) (b : Nat) : Bool := (s.get EYE_SESS.RIGHTS).testBit b

/-- A write by the Eyepiece lacks a right. -/
def State.lacks (s : State) (o : Origin) (b : Nat) : Bool := o == .eyepiece && !s.right b

/-- A register that RUNCTL guards, with no rule of its own: EYE_ESEL, EYE_VSEL, EYE_XTRIG, EYE_BRKEN. -/
def writeRunctl (key : Nat) (o : Origin) (v : Word) (s : State) : Effect :=
  if s.lacks o 0 then .denied s else .ok (s.plainWrite key v)

/-- The rules of a write to ENG_DCMPk registers (R895, R899, R911): register r of comparator k, 0 CTL, 1 A, 2 B, 3 CNT. A write
of CTL ends what the close of a session did to the comparator, and a write makes a chained comparator wait again. -/
def writeDcmp (e k r : Nat) (o : Origin) (v : Word) (s : State) : Effect :=
  if s.lacks o 0 then .denied s
  else
    let t := s.plainWrite (ENG_DCMP_CTL e k + 4 * r) v
    let x := t.eng e
    .ok (t.setEng e { x with dcmpFired := x.dcmpFired - (x.dcmpFired &&& 2 ^ k),
                             dcmpOff := if r = 0 then x.dcmpOff - (x.dcmpOff &&& 2 ^ k) else x.dcmpOff })

/-! ## Run control (R900 to R910) -/

/-- The selected engines and Verniers. -/
def State.selectedEngines (s : State) : List Nat := onesBelow 12 (s.reg EYE_ESEL).toNat
def State.selectedVerniers (s : State) : List Nat := onesBelow 24 (s.reg EYE_VSEL).toNat

/-- Halt requests to some engines (R900). -/
def State.requestHalts (s : State) (kind : Nat) : List Nat → State
  | [] => s
  | e :: es => (s.requestHalt e kind).requestHalts kind es

/-- Vernier v runs or is stalled. -/
def State.vernierActive (s : State) (v : Nat) : Bool := s.get (VRN_STAT.STATE v) == 1 || s.get (VRN_STAT.STATE v) == 2

/-- Halt requests to some Verniers (R908). -/
def State.requestVernierHalts (s : State) (vs : List Nat) : State :=
  { s with vernierHalts := (vs.filter s.vernierActive).foldl (fun m v => m ||| 2 ^ v) s.vernierHalts }

/-- The record of a command of EYE_CTL (R922). -/
def State.runRecord (s : State) (sub aux : Nat) : State :=
  s.logChange 0x01 0x08 0 false (sub * 2 ^ 24 + s.get EYE_ESEL.ENG) (s.get EYE_VSEL.VRN) aux

/-- HALT and HALT_NOW, kinds 1 and 2 (R900, R908). -/
def State.haltSelected (s : State) (kind : Nat) : State :=
  ((s.requestHalts kind s.selectedEngines).requestVernierHalts s.selectedVerniers).runRecord 0x04 (kind - 1)

/-- RESUME (R903, R909). -/
def State.resumeSelected (s : State) : State :=
  ((s.releaseHalts s.selectedEngines).releaseVerniers s.selectedVerniers).runRecord 0x05 0

/-- STEP of engine e (R904): an idle engine has no microword to execute, and steps into a handler only (log entry 53). -/
def State.stepEngine (s : State) (e : Nat) : State :=
  if s.get (ENG_STAT.STATE e) ≠ 3 then s
  else
    let t := s.releaseHalt e
    let entry := if s.on EYE_CTL.STEPMASK then none else t.eligible e
    if (s.eng e).was = 2 ∧ entry.isNone then s
    else
      let u := t.setEng e { t.eng e with stepping := true }
      match entry with
      | some l => u.beginEntry e l
      | none => u

/-- STEP of some engines. -/
def State.stepEngines (s : State) : List Nat → State
  | [] => s
  | e :: es => (s.stepEngine e).stepEngines es

/-- Vernier v halts, its instruction kept (R908). -/
def State.haltVernier (s : State) (v : Nat) : State :=
  let t := if s.vernierActive v then
      (s.setVernier v { s.vernier v with was := s.get (VRN_STAT.STATE v) }).put (VRN_STAT.STATE v) 3
    else s
  { t with vernierHalts := t.vernierHalts - (t.vernierHalts &&& 2 ^ v) }

/-- STEP of Vernier v: one step (R910). -/
def State.stepVernier (s : State) (v : Nat) : State :=
  if s.get (VRN_STAT.STATE v) = 3 ∧ s.ifcOn ∧ s.pllsRun then ((s.releaseVernier v).vernierStep v).haltVernier v else s

/-- STEP of some Verniers. -/
def State.stepVerniers (s : State) : List Nat → State
  | [] => s
  | v :: vs => (s.stepVernier v).stepVerniers vs

/-- STEP (R904, R910). -/
def State.stepSelected (s : State) : State :=
  ((s.stepEngines s.selectedEngines).stepVerniers s.selectedVerniers).runRecord 0x06 0

/-- A write of v to EYE_CTL by the Eyepiece is refused (R899, 18 R883): STEPMASK and RSTHALT need RUNCTL where they change. -/
def State.eyeCtlRefused (s : State) (o : Origin) (v : Word) : Bool :=
  ((fieldOf v 4 1 != 0 || fieldOf v 8 7 != fieldOf (s.reg EYE_CTL) 8 7) && s.lacks o 0) || (bitAt v 5 && s.lacks o 1) ||
    (fieldOf v 5 1 != 0 && s.logRefuses o)

/-- The rules of a write to EYE_CTL: its commands in the order of their bits. -/
def writeEyeCtl (o : Origin) (v : Word) (s : State) : Effect :=
  if s.eyeCtlRefused o v then .denied s
  else
    let t := s.plainWrite EYE_CTL v
    let t := if bitAt v 1 then t.haltSelected 1 else t
    let t := if bitAt v 2 then t.haltSelected 2 else t
    let t := if bitAt v 3 then t.resumeSelected else t
    .ok (if bitAt v 4 then t.stepSelected else t)

/-- The rules of a write to EYE_FREEZE (R899, R917): each bit needs its right where it changes. The end of the servo's freeze
takes effect at its own edge (02 R89). -/
def writeEyeFreeze (o : Origin) (v : Word) (s : State) : Effect :=
  let servo := bitAt v 0 != s.on EYE_FREEZE.SERVO
  let asst := bitAt v 1 != s.on EYE_FREEZE.ASST
  if (servo && s.lacks o 6) || (asst && s.lacks o 5) then .denied s
  else
    let t := (s.plainWrite EYE_FREEZE v).put AST_STAT.WDFRZ (bit (bitAt v 1))
    .ok (if bitAt v 0 then t.put RGL_STAT.SVCFRZ 1 else t)

/-- The cross-trigger passed on (R914). -/
def State.passCross (s : State) : State :=
  let t := (s.requestHalts 1 (onesBelow 12 (s.get EYE_XTRIG.ENG))).requestVernierHalts (onesBelow 24 s.crossVerniers)
  { t with crossTrigger := false }

/-! ## Engine state while halted (R907) -/

/-- EYE_EIDX names an item that exists. An engine number above 11 names none. -/
def State.itemListed (s : State) : Bool :=
  let i := s.get EYE_EIDX.ITEM
  let l := s.get EYE_EIDX.LVL
  decide (s.get EYE_EIDX.ENG < 12) &&
    (if i ≤ 0x12 then decide (l ≤ 4) else if i = 0x13 then decide (l ≤ 3) else
      i == 0x14 || (decide (0x20 ≤ i) && decide (i ≤ 0x30)))

/-- The item's value. -/
def State.item (s : State) : Word :=
  let e := s.get EYE_EIDX.ENG
  let l := s.get EYE_EIDX.LVL
  let i := s.get EYE_EIDX.ITEM
  if !s.itemListed then 0
  else if i ≤ 0xF then s.gpr e l i
  else match i with
    | 0x10 => (s.bank e l).cc.setWidth 32
    | 0x11 => (s.bank e l).link.setWidth 32
    | 0x12 => (s.bank e l).lcnt.setWidth 32
    | 0x13 => s.reg (ENG_RESUME e l)
    | 0x14 => s.reg (ENG_UPC e)
    | 0x30 => (s.eng e).lres
    | _ => let d := s.lensReg e ((i - 0x20) / 2); d.extractLsb' (32 * (i % 2)) 32

/-- The item written. -/
def State.setItem (s : State) (v : Word) : State :=
  let e := s.get EYE_EIDX.ENG
  let l := s.get EYE_EIDX.LVL
  let i := s.get EYE_EIDX.ITEM
  if i ≤ 0xF then s.setGpr e l i v
  else match i with
    | 0x10 => s.setBank e l { s.bank e l with cc := v.setWidth 10 }
    | 0x11 => s.setBank e l { s.bank e l with link := v.setWidth 13 }
    | 0x12 => s.setBank e l { s.bank e l with lcnt := v.setWidth 16 }
    | 0x13 => s.put (ENG_RESUME.UPC e l) (v.toNat % 0x2000)
    | 0x14 => s.put (ENG_UPC.UPC e) (v.toNat % 0x2000)
    | 0x30 => s.setEng e { s.eng e with lres := v }
    | _ => s.setLensReg e ((i - 0x20) / 2) (putHalf (s.lensReg e ((i - 0x20) / 2)) (i % 2) v)

/-- A read of EYE_EDATA: the response and the word. -/
def State.readEdata (s : State) : Nat × Word :=
  let st := s.get (ENG_STAT.STATE (s.get EYE_EIDX.ENG))
  if s.get EYE_EIDX.ENG < 12 ∧ ¬ (st = 0 ∨ st = 3 ∨ st = 4) then (respDenied, 0) else (respOk, s.item)

/-- The rules of a write to EYE_EDATA. -/
def writeEyeEdata (o : Origin) (v : Word) (s : State) : Effect :=
  let e := s.get EYE_EIDX.ENG
  if s.lacks o 0 || (decide (e < 12) && s.get (ENG_STAT.STATE e) != 3) then .denied s
  else if s.itemListed then .ok (s.setItem v)
  else .kept s

/-! ## The master (R918 to R921) -/

/-- [a, a + n) meets engine e's bulk window. -/
def State.inWindow (s : State) (e a n : Nat) : Bool :=
  decide (a < (s.reg (CAP_XBASE e)).toNat + (s.reg (CAP_XLEN e)).toNat) && decide ((s.reg (CAP_XBASE e)).toNat < a + n)

/-- The life-cycle state lets MEMW write what no ring 2 master may. -/
def State.fieldFree (s : State) (a n : Nat) : Bool :=
  s.develop || (s.get SEC_LCS.STATE == 3 && !(List.range 12).any fun e => s.inWindow e a n)

/-- The table of R918. A read of the secure region needs both MEMR and SECR. -/
def State.masterAllows (s : State) (x : EyeAccess) : Bool :=
  let k := plateOf x.addr
  let may := s.right (if x.write then 3 else 2)
  if x.ext then may && (!x.write || s.fieldFree x.addr (if x.wide then 8 else 4))
  else if plateBytes ≤ x.addr then false
  else if s.fused then (decide (8 ≤ k) && decide (k < 64)) || (decide (64 ≤ k) && may)
  else if s.plateOwner k = 1 ∧ 4 ≤ k then true
  else if k < 4 then
    !x.write && may && s.right 4 && s.on EYE_STAT.SESS && (decide (k < 2) || (k == 3 && s.develop))
  else may && (!x.write || s.develop)

/-- The width in bytes. -/
def eyeWidth (x : EyeAccess) : Nat := if x.wide then 8 else 4

/-- An external access given a tag of the Eyepiece's own (R920). -/
def State.tagAccess (s : State) (x : EyeAccess) : EyeAccess × State :=
  if !x.ext || x.tag.isSome || s.bulkHeld then (x, s)
  else
    match s.freeTag 0xF8 8 with
    | some t =>
      ({ x with tag := some t }, s.putBulk t
        { use := .eyepiece x.write (eyeWidth x), ext := x.addr, discard := false,
          bytes := if x.write then leBytes (eyeWidth x) x.data.toNat else [] })
    | none => (x, s)

/-- An allowed access begins to wait. -/
def State.beginAccess (s : State) (x : EyeAccess) : State :=
  let r := s.tagAccess x
  { r.2 with eyepiece := { r.2.eyepiece with access := r.2.eyepiece.access ++ [r.1] } }

/-- An access ends: through EYE_DR with a response, through EYE_MCTL with flags; a read with its data (R921). -/
def State.endAccess (s : State) (x : EyeAccess) (pbusy error : Bool) (data : DWord) : State :=
  let t := { s with eyepiece := { s.eyepiece with access := s.eyepiece.access.drop 1 } }
  if x.viaDr then
    { t with eyeResp := if error then respError else if pbusy then respRetry else respOk,
             eyeData := if x.write then t.eyeData else data.setWidth 32, eyepiece := { t.eyepiece with drBusy := false } }
  else
    let t := t.put EYE_MCTL.DONE 1
    let t := if error then t.put EYE_MCTL.ERR 1 else if pbusy && !x.write then t.put EYE_MCTL.PBUSY 1 else t
    if x.write then t
    else
      let u := t.setReg EYE_MDATA0 (data.setWidth 32)
      if x.wide then u.setReg EYE_MDATA1 (data.extractLsb' 32 32) else u

/-- An access turned away under R918. -/
def State.denyAccess (s : State) (x : EyeAccess) : State :=
  let t := { s with eyepiece := { s.eyepiece with access := s.eyepiece.access.drop 1 } }
  if x.viaDr then { t with eyeResp := respDenied, eyeData := 0, eyepiece := { t.eyepiece with drBusy := false } }
  else t.put EYE_MCTL.DENY 1

/-- Plates whose stored bytes the manual does not give: the Assistant pair's scratch and working storage and the key schedule (18
R861). -/
def hiddenPlate (a : Nat) : Bool := decide (0x8000 ≤ a) && decide (a < 0x10000) || plateOf a == 2 || plateOf a == 3

/-- A plate access served (R919, R921); `meet` as for a host access (10 R499). The agent code that PLT_ECCADDR gives for the Eyepiece is free (log entry 54). -/
def State.servePlate (s : State) (x : EyeAccess) (meet : Meeting) : State :=
  let n := eyeWidth x
  let pbusy := meet == .later
  let bad := s.eccAt x.addr != 0
  let f := if bad then s.fresh 5 else (0, s)
  if x.write then
    let r := f.2.plateWrite f.1.toNat x.addr (leBytes n x.data.toNat)
    r.2.endAccess x (r.1 && pbusy) (!r.1) 0
  else
    match f.2.plateRead f.1.toNat x.addr n with
    | (none, t) => t.endAccess x false true 0
    | (some bs, t) =>
      if meet != .alone || hiddenPlate x.addr then
        let g := t.fresh 64
        g.2.endAccess x pbusy false (if x.wide then g.1 else (g.1.setWidth 32).setWidth 64)
      else t.endAccess x false false (BitVec.ofNat 64 (ofLeBytes bs))

/-- A plate access finds an idle tick (R919): no locked sequence of the owner is open, and no handover waits (10 R493). -/
def State.masterIdle (s : State) (x : EyeAccess) : Bool :=
  s.fused || !s.plateHeld (plateOf x.addr)

/-- The access that waits longest served: a plate access, or the response to an external one, with `error` and the data of a
read. -/
def State.serveAccess (s : State) (meet : Meeting) (error : Bool) (data : DWord) : State :=
  match s.eyepiece.access with
  | [] => s
  | x :: rest =>
    if x.ext then
      match x.tag with
      | none =>
        let r := s.tagAccess x
        { r.2 with eyepiece := { r.2.eyepiece with access := r.1 :: rest } }
      | some t => ({ s with bulk := tdrop t s.bulk } : State).endAccess x false error
          (if error then 0 else if x.wide then data else (data.setWidth 32).setWidth 64)
    else if !s.masterAllows x then s.denyAccess x
    else if s.masterIdle x then s.servePlate x (if s.fused then meet else .alone)
    else s

/-- The access that EYE_MCTL, EYE_MADDR and EYE_MDATA describe; low address bits below the width are taken as 0. -/
def State.mctlAccess (s : State) : EyeAccess :=
  let wide := s.on EYE_MCTL.W64
  let a := (s.reg EYE_MADDR).toNat
  { viaDr := false, write := s.on EYE_MCTL.WR, ext := s.on EYE_MCTL.EXT, wide, addr := if wide then a / 8 * 8 else a / 4 * 4,
    data := s.reg EYE_MDATA1 ++ s.reg EYE_MDATA0, tag := none }

/-- The rules of a write to EYE_MCTL (R918, R919): CANCEL withdraws the access that waits at the write and has not been issued; GO
is ignored while one waits. -/
def writeEyeMctl (v : Word) (s : State) : Effect :=
  let waits := !s.eyepiece.access.isEmpty
  let t := s.plainWrite EYE_MCTL v
  let t := if bitAt v 1 then
      { t with eyepiece := { t.eyepiece with access := t.eyepiece.access.filter fun x => x.viaDr || x.tag.isSome } }
    else t
  if bitAt v 0 && !waits then
    let u := t.put EYE_MCTL.DONE 0
    .ok (if u.masterAllows u.mctlAccess then u.beginAccess u.mctlAccess else u.put EYE_MCTL.DENY 1)
  else .ok t

/-! ## Sessions (R898) -/

/-- REMAIN as EYE_SESS gives it. -/
def remainField : Option Nat → Nat
  | none => 0xFFFF
  | some n => Nat.min n 0xFFFF

/-- `aon` periods of AON_CLK pass in a session. -/
def State.sessionTime (s : State) (aon : Nat) : State :=
  if !s.on EYE_STAT.SESS then s
  else
    let c := s.eyepiece.aonCount + aon
    let t := ({ s with eyepiece := { s.eyepiece with aonCount := c % 32768 } } : State)
    match s.eyepiece.left with
    | none => t
    | some n =>
      let u := ({ t with eyepiece := { t.eyepiece with left := some (n - c / 32768) } } : State)
      if n ≤ c / 32768 then u.closeSession 1 (originCode .eyepiece)
      else u.put EYE_SESS.REMAIN (remainField (some (n - c / 32768)))

/-! ## The commands -/

/-- DBG_RST_N_ASSERT (R895). -/
def execDbgRstNAssert (s : State) : Host.Outcome State Fault Refusal := .next (if s.dbgOn then s.debugReset else s)

/-- DEBUG_DOMAIN_POWER_OFF (R895, 21 R953). -/
def execDebugDomainPowerOff (s : State) : Host.Outcome State Fault Refusal :=
  .next (if s.dbgOn then { s.debugReset with dbgOn := false } else s)

/-- HALT (R900): a write of EYE_CTL with HALT = 1. -/
def execHalt (o : Origin) (v : Word) (s : State) : Host.Outcome State Fault Refusal :=
  .next (s.writeReg o EYE_CTL (v ||| 2) (writeEyeCtl o (v ||| 2)))

/-- HALT_NOW (R900): a write of EYE_CTL with HALT_NOW = 1. -/
def execHaltNow (o : Origin) (v : Word) (s : State) : Host.Outcome State Fault Refusal :=
  .next (s.writeReg o EYE_CTL (v ||| 4) (writeEyeCtl o (v ||| 4)))

/-- RESUME (R903, R909): a write of EYE_CTL with RESUME = 1. -/
def execResume (o : Origin) (v : Word) (s : State) : Host.Outcome State Fault Refusal :=
  .next (s.writeReg o EYE_CTL (v ||| 8) (writeEyeCtl o (v ||| 8)))

/-- STEP (R904, R910): a write of EYE_CTL with STEP = 1. -/
def execStep (o : Origin) (v : Word) (s : State) : Host.Outcome State Fault Refusal :=
  .next (s.writeReg o EYE_CTL (v ||| 16) (writeEyeCtl o (v ||| 16)))

/-- LIVE (R916): a write of EYE_CTL with LIVE = 1. -/
def execLive (o : Origin) (v : Word) (s : State) : Host.Outcome State Fault Refusal :=
  .next (s.writeReg o EYE_CTL (v ||| 32) (writeEyeCtl o (v ||| 32)))

/-- ENGINE_HALT (R901): a halt request takes effect at a microword boundary or, on an idle engine or a stalled microword, at once. -/
def execEngineHalt (e : Fin 12) (s : State) : Host.Outcome State Fault Refusal :=
  .next (if s.engineClock && !s.engineDown e && s.haltDue e then s.takeHalt e else s)

/-- VERNIER_HALT (R908). -/
def execVernierHalt (v : Fin 24) (s : State) : Host.Outcome State Fault Refusal :=
  .next (if s.ifcOn && s.pllsRun && s.vernierHalts.testBit v then s.haltVernier v else s)

/-- EYE_EDATA_ACCESS (R907): a read, or a write of a word. -/
def execEyeEdataAccess (o : Origin) (w : Option Word) (s : State) : Host.Outcome State Fault Refusal :=
  .next (match w with
    | some v => s.writeReg o EYE_EDATA v (writeEyeEdata o v)
    | none => if s.busError o false EYE_EDATA then s.answer o respError 0
        else if s.dbgOn then s.answer o s.readEdata.1 s.readEdata.2 else s.answer o respOk 0)

/-- EYE_MASTER_GO (R918): a write of EYE_MCTL with GO = 1. -/
def execEyeMasterGo (o : Origin) (v : Word) (s : State) : Host.Outcome State Fault Refusal :=
  .next (s.writeReg o EYE_MCTL (v ||| 1) (writeEyeMctl (v ||| 1)))

/-- EYE_MASTER_CANCEL (R919): a write of EYE_MCTL with CANCEL = 1. -/
def execEyeMasterCancel (o : Origin) (v : Word) (s : State) : Host.Outcome State Fault Refusal :=
  .next (s.writeReg o EYE_MCTL (v ||| 2) (writeEyeMctl (v ||| 2)))

/-- EYE_MASTER_COMPLETE (R919 to R921). -/
def execEyeMasterComplete (meet : Meeting) (error : Bool) (data : DWord) (s : State) : Host.Outcome State Fault Refusal :=
  .next (if s.pllsRun then s.serveAccess meet error data else s)

/-- CROSS_TRIGGER (R914): the tick after the firing. -/
def execCrossTrigger (s : State) : Host.Outcome State Fault Refusal := .next (if s.crossTrigger then s.passCross else s)

/-- EYE_FREEZE_WRITE (R917). -/
def execEyeFreezeWrite (o : Origin) (v : Word) (s : State) : Host.Outcome State Fault Refusal :=
  .next (s.writeReg o EYE_FREEZE v (writeEyeFreeze o v))

/-- SESSION_EXPIRY (R898): `aon` periods of AON_CLK pass, and a session whose time is over closes. -/
def execSessionExpiry (aon : Nat) (s : State) : Host.Outcome State Fault Refusal := .next (s.sessionTime aon)

end Sys2Proof.Machine
end

