-- ==== Sys2Proof/Machine/Assistant.lean ====
section
/-! DEFINITION. The Assistant pair and the Shutter (15 R755 to R784): engine map, failover, cut-over, takeover and isolation; and the
mailbox's registers. The mailbox commands stand in Machine/Mailbox.lean. -/

namespace Sys2Proof.Machine

/-! ## The mailbox's registers (15 R774, R784) -/

/-- The Assistant pair executes: its cores run and are compared, the PLLs run and the cluster is not isolated (15 R773, R783). -/
def State.pairRuns (s : State) : Bool := s.on AST_STAT.LOCKSTEP && s.pllsRun && s.get CLU_STAT.STATE != 7

/-- A write answered RETRY, without effect. -/
def Effect.retry (s : State) : Effect := { state := s, resp := respRetry }

/-- The rules of a write to AST_MBOX_CMD: the command waits for its execution. A master without a ring is not above any. -/
def writeMboxCmd (o : Origin) (v : Word) (s : State) : Effect :=
  if !s.on AST_STAT.LOCKSTEP || s.on AST_MBOX_STAT.BUSY then .retry s
  else .ok { s.put AST_MBOX_STAT.BUSY 1 with
    assistant := { s.assistant with command := some { code := fieldOf v 7 0, origin := o, ring := (s.ringOf o).getD 0 } } }

/-- The rules of a write to AST_MBOX_ARGi. -/
def writeMboxArg (i : Nat) (v : Word) (s : State) : Effect :=
  if s.on AST_MBOX_STAT.BUSY then .retry s else .ok (s.plainWrite (AST_MBOX_ARG i) v)

/-- Argument i of the command in progress. -/
def State.arg (s : State) (i : Nat) : Word := s.reg (AST_MBOX_ARG i)

/-- Results written from argument register i up. -/
def State.putArgs (s : State) (i : Nat) : List Word → State
  | [] => s
  | w :: ws => (s.setReg (AST_MBOX_ARG i) w).putArgs (i + 1) ws

/-- The results of the command in progress are in place (`AST_MBOX_STAT`). -/
def State.mailDone (s : State) (result : Nat) (args : List Word) : State :=
  match s.assistant.command with
  | none => s
  | some c =>
    let t := ({ s.putArgs 0 args with assistant := { s.assistant with command := none } } : State)
    let t := (t.put AST_MBOX_STAT.BUSY 0).put AST_MBOX_STAT.SEQ (t.get AST_MBOX_STAT.SEQ + 1)
    ((t.put AST_MBOX_STAT.ORIGIN (originCode c.origin)).put AST_MBOX_STAT.CODE c.code).put AST_MBOX_STAT.RESULT result

/-! ## Register writes -/

/-- The rules of a write to AST_FPOL: bit 3 reads 1. -/
def writeAstFpol (v : Word) (s : State) : Effect := .ok (s.plainWrite AST_FPOL v)

/-- The rules of a write to SHT_STAT (R779): FAULT clears only once the Shutter has reached service or first light. -/
def writeShtStat (v : Word) (s : State) : Effect :=
  if !bitAt v 31 then .ok s
  else if s.get SHT_STAT.PHASE = 0 ∧ s.inService then .ok ((s.put SHT_STAT.FAULT 0).put CLU_STAT.FAULT 0)
  else .kept s

/-- The rules of a write to word w of the capability slot that CAP_IDX names (09 R478). -/
def writeCapW (e k w : Nat) (v : Word) (s : State) : Effect :=
  let h := (s.eng e).capHold
  if w < 3 then
    let m : BitVec 96 := BitVec.ofNat 96 (0xFFFFFFFF <<< (32 * w))
    .ok (s.setEng e { s.eng e with capHold := (h &&& ~~~ m) ||| (v.setWidth 96 <<< (32 * w)) })
  else .ok (s.commitCap e k ((v &&& 0xFFFF) ++ h))

/-- The rules of a write to CAP_XBASE and CAP_XLEN: bits 5 to 0 ignore writes. -/
def writeCapX (key : Nat) (v : Word) (s : State) : Effect := .ok (s.plainWrite key (v &&& 0xFFFFFFC0))

/-! ## The engine map (R759, R760) -/

/-- The pending bits and held deliveries of engine a pass to b. -/
def State.moveDeliveries (s : State) (a b : Nat) : State :=
  { s with deliveries := s.deliveries.map fun d => if d.eng = a then { d with eng := b } else d }

/-- The bulk unit of engine a writes no further plate byte: the responses to its tags are without effect. -/
def State.stopBulk (s : State) (a : Nat) : State :=
  { s with bulk := s.bulk.map fun p => if p.1 / 16 = a then (p.1, { p.2 with discard := true }) else p }

/-- What a change of some fields of the map, from those of `old`, brings (R760). -/
def State.mapChanged (old s : State) : List Nat → State
  | [] => s
  | e :: es =>
    let t := if old.engMap e = s.engMap e then s
      else (s.moveDeliveries (old.engMap e) (s.engMap e)).stopBulk (old.engMap e)
    State.mapChanged old t es

/-- The rules of a write to AST_ENGMAP0 and AST_ENGMAP1. -/
def writeEngmap (i : Nat) (v : Word) (s : State) : Effect :=
  let t := s.plainWrite (AST_ENGMAP0 + 4 * i) v
  .ok (State.mapChanged s t (List.range 12)).settleAll

/-- ROLE of engine e (R761): 0 stopped, 1 service, 2 spare, 3 failed. -/
def State.role (s : State) (e : Nat) : Nat := fieldOf (s.reg AST_ENGROLE) (2 * e + 1) (2 * e)

/-- The same written. -/
def State.setRole (s : State) (e r : Nat) : State := s.setReg AST_ENGROLE (fieldSet (s.reg AST_ENGROLE) (2 * e + 1) (2 * e) r)

/-- ENG, ROLE, SPEN and SPARE of an ENGINES record (14 R700). -/
def recEng (r : List Word) : Nat := fieldOf (r.getD 0 0) 3 0
def recRole (r : List Word) : Nat := fieldOf (r.getD 0 0) 5 4
def recSpen (r : List Word) : Bool := bitAt (r.getD 0 0) 6
def recSpare (r : List Word) : Nat := fieldOf (r.getD 0 0) 10 7

/-- The spare of engine e (R761). -/
def State.spareOf (s : State) (e : Nat) : Option Nat :=
  match s.chart.engines.find? fun r => recEng r == e && recSpen r with
  | some r => if s.role (recSpare r) = 2 then some (recSpare r) else none
  | none => none

/-- The engines that the steps of flow f name. -/
def State.flowSteps (s : State) (f : Nat) : List Nat :=
  (List.range (fieldOf (s.flowWord f 0) 19 18 + 1)).map fun i => fieldOf (s.flowWord f (8 + i)) 3 0

/-- The flows ACTIVE or WITHDRAWING with a step that acts on engine e. -/
def State.flowsOn (s : State) (e : Nat) : List Nat :=
  s.flowNumbers.filter fun f => s.flowValid f && (s.flowSteps f).any fun x => s.engMap x == e

/-! ## Failover (R762 to R766) -/

/-- A write by the Assistant pair. -/
def State.pairWrite (s : State) (key : Nat) (v : Word) (act : State → Effect) : State := s.writeReg .assistant key v act

/-- A write by the Assistant pair of a register with no rule of its own. -/
def State.pairPut (s : State) (key : Nat) (v : Word) : State := s.pairWrite key v fun t => .ok (t.plainWrite key v)

/-- Step 1: a forced stop. -/
def State.failStop (s : State) (e : Nat) : State :=
  let v := (s.reg (ENG_CTL e) ||| 2) &&& 0xFFFFFFFE
  s.pairWrite (ENG_CTL e) v (writeEngCtl e v)

/-- A stage map with engines a and b exchanged. -/
def swapStages (w : Word) (a b : Nat) : List Nat → Word
  | [] => w
  | g :: gs =>
    let x := fieldOf w (4 * g + 3) (4 * g)
    swapStages (fieldSet w (4 * g + 3) (4 * g) (if x = a then b else if x = b then a else x)) a b gs

/-- The routes of the timers of e copied to those of sp. -/
def State.copyRoutes (s : State) (e sp : Nat) : List Nat → State
  | [] => s
  | n :: ns =>
    let v := s.reg (EVC_ROUTE (144 + 4 * e + n))
    (s.pairWrite (EVC_ROUTE (144 + 4 * sp + n)) v (writeEvcRoute (144 + 4 * sp + n) v)).copyRoutes e sp ns

/-- Step 2. A stage map with sp in place of e is accepted only with e in place of sp (01 R43; log entry 56). -/
def State.failMap (s : State) (e sp : Nat) : State :=
  let i := e / 8
  let m := fieldSet (s.reg (AST_ENGMAP0 + 4 * i)) (4 * (e % 8) + 3) (4 * (e % 8)) sp
  let t := s.pairWrite (AST_ENGMAP0 + 4 * i) m (writeEngmap i m)
  let q := e / 4
  let v := swapStages (t.reg (CLU_QMAP q)) e sp (List.range 4)
  (t.pairWrite (CLU_QMAP q) v (writeCluQmap q v)).copyRoutes e sp (List.range 4)

/-- A capability written through CAP_W0 to CAP_W3 of slot k of engine e. -/
def State.pairCap (s : State) (e k : Nat) (c : CapWord) : State :=
  let w (i : Nat) : Word := c.extractLsb' (32 * i) 32
  let t := ((s.pairWrite (CAP_W e k 0) (w 0) (writeCapW e k 0 (w 0))).pairWrite (CAP_W e k 1) (w 1) (writeCapW e k 1 (w 1))).pairWrite
    (CAP_W e k 2) (w 2) (writeCapW e k 2 (w 2))
  t.pairWrite (CAP_W e k 3) (w 3) (writeCapW e k 3 (w 3))

/-- Capabilities copied from e to sp. -/
def State.copyCaps (s : State) (e sp : Nat) : List Nat → State
  | [] => s
  | k :: ks => (s.pairCap sp k (s.cap e k)).copyCaps e sp ks

/-- Save-area links copied from e to sp. -/
def State.copySals (s : State) (e sp : Nat) : List Nat → State
  | [] => s
  | l :: ls => (s.pairWrite (ENG_SAL sp l) (s.reg (ENG_SAL e l)) (writeEngSal sp l (s.reg (ENG_SAL e l)))).copySals e sp ls

/-- ENG_PRI of engine e as it reads (06 R348): LEVEL and INUSE stand in ENG_STAT, PENDLVL is of the pending vector lines. -/
def State.priWord (s : State) (e : Nat) : Word :=
  let pend := (List.range 4).foldl (fun m l => if s.levelPending e l then m + 2 ^ l else m) 0
  fieldSet (fieldSet (fieldSet (s.reg (ENG_PRI e)) 26 24 (s.level e)) 23 20 pend) 12 8 (s.get (ENG_STAT.BANKS e))

/-- Step 3. -/
def State.failCopy (s : State) (e sp : Nat) : State :=
  let t := s.copyCaps e sp (List.range 17)
  let t := t.pairWrite (CAP_XBASE sp) (t.reg (CAP_XBASE e)) (writeCapX (CAP_XBASE sp) (t.reg (CAP_XBASE e)))
  let t := t.pairWrite (CAP_XLEN sp) (t.reg (CAP_XLEN e)) (writeCapX (CAP_XLEN sp) (t.reg (CAP_XLEN e)))
  let t := t.copySals e sp (List.range 5)
  let pri := fieldSet (t.priWord sp) 3 0 (t.get (ENG_PRI.LVLEN e))
  let t := t.pairWrite (ENG_PRI sp) pri (writeEngPri sp pri)
  let ctl := fieldSet (fieldSet (t.reg (ENG_CTL sp) &&& 0xFFFFFFF7) 2 2 (t.get (ENG_CTL.PRECISE e))) 11 8 (t.get (ENG_CTL.LTRAP e))
  let t := t.pairWrite (ENG_CTL sp) ctl (writeEngCtl sp ctl)
  let t := t.pairPut (ENG_LENS sp) (BitVec.ofNat 32 (256 * t.get (ENG_LENS.LAZY e)))
  let t := t.pairWrite (TMR_WDPER sp) (t.reg (TMR_WDPER e)) (writeTmrWdper sp (t.reg (TMR_WDPER e)))
  let wd := t.reg (TMR_WDCTL e) &&& 7
  t.pairWrite (TMR_WDCTL sp) wd (writeTmrWdctl sp wd)

/-- Step 4 for some timers of e: the timer has stopped before its count is copied. -/
def State.failTimers (s : State) (e sp : Nat) : List Nat → State
  | [] => s
  | n :: ns =>
    let fields := s.reg (TMR_CTL e n) &&& 0x7FF3E
    let off := fields ||| 0x100000
    let t := s.pairWrite (TMR_CTL e n) off (writeTmrCtl e n .assistant off)
    let t := if t.timerRuns e n && !t.timerHigh e n then t.timerStop e n else t
    let t := t.pairWrite (TMR_CTL sp n) fields (writeTmrCtl sp n .assistant fields)
    let t := t.pairWrite (TMR_IO sp n) (t.reg (TMR_IO e n)) (writeTmrIo sp n (t.reg (TMR_IO e n)))
    let t := (t.pairPut (TMR_RELOAD sp n) (t.reg (TMR_RELOAD e n))).pairPut (TMR_CMP sp n) (t.reg (TMR_CMP e n))
    (t.pairWrite (TMR_CNT sp n) (t.reg (TMR_CNT e n)) (writeTmrCnt sp n (t.reg (TMR_CNT e n)))).failTimers e sp ns

/-- Step 5. -/
def State.dropCaps (s : State) (e : Nat) : List Nat → State
  | [] => s
  | k :: ks => (s.pairCap e k 0).dropCaps e ks

/-- A rewind of queue q (R763): the held descriptors are visible again, with the watermark event. A slot held only as that of
the last DEQ (10 R524) is not of them. -/
def State.rewind (s : State) (q : Nat) : State :=
  let x := s.queue q
  let n := if x.held = 1 && s.slotReleased q (x.head + s.ringSlots q - 1) then 0 else x.held
  if n = 0 then s
  else
    let t := s.setQueue q { x with head := (x.head + s.ringSlots q * n - n) % s.ringSlots q, vis := x.vis + n, held := 0 }
    if s.on (QM_QCFG.WEN q) && decide (x.vis < s.get (QM_QWM.WMARK q)) && decide (s.get (QM_QWM.WMARK q) ≤ x.vis + n) then
      t.registerEvent (192 + s.get (QM_QCFG.WLINE q))
    else t

/-- Up to n breach records for flow f placed by the Assistant pair, while its destination queue has room. -/
def State.placeBreaches (s : State) (f fcode : Nat) : Nat → Nat × State
  | 0 => (0, s)
  | n + 1 =>
    match s.placeBreach f 4 fcode with
    | (true, t) =>
      let r := t.placeBreaches f fcode n
      (r.1 + 1, r.2)
    | (false, t) => (0, t)

/-- R764 for flow f of source kind 2: the items dispatched already, but for the pending one. -/
def State.failTombstones (s : State) (f fcode : Nat) : Nat × State :=
  let n := s.flowSrcobj f
  s.placeBreaches f fcode (s.itemsAccepted f - bit (bitAt (s.reg (EVC_PEND (n / 32))) (n % 32)))

/-- Step 6 for some flows, with their rewinds or without, with their breach records or without: how many were placed. -/
def State.failFlows (s : State) (rewinds breaches : Bool) (fcode : Nat) : List Nat → Nat × State
  | [] => (0, s)
  | f :: fs =>
    let a := if s.flowEventSourced f then (if breaches then s.failTombstones f fcode else (0, s))
      else (0, if rewinds then s.rewind (s.get (AST_OT0.INQ f)) else s)
    let b := a.2.failFlows rewinds breaches fcode fs
    (a.1 + b.1, b.2)

/-- Step 7: the spare runs from 0x0300 at P0. -/
def State.failStart (s : State) (sp : Nat) : State :=
  let t := s.pairWrite (ENG_UPC sp) 0x0300 (writeEngUpc sp 0x0300)
  let pri := fieldSet (t.priWord sp) 26 24 0
  let t := t.pairWrite (ENG_PRI sp) pri (writeEngPri sp pri)
  let ctl := (t.reg (ENG_CTL sp) ||| 1) &&& 0xFFFFFFF7
  t.pairWrite (ENG_CTL sp) ctl (writeEngCtl sp ctl)

/-- Steps 1 to 8 from e to sp: the flows moved, the breach records placed, and the state. CLU_STAT.INSVC is computed where it is
read. -/
def State.moveEngine (s : State) (e sp cause : Nat) (breaches : Bool) : Nat × Nat × State :=
  let fs := s.flowsOn e
  let t := ((s.failStop e).failMap e sp).failCopy e sp
  let t := (t.failTimers e sp (List.range 4)).dropCaps e (List.range 16)
  let r := t.failFlows true breaches cause fs
  let u := ((r.2.failStart sp).setRole e 3).setRole sp 1
  (fs.length, r.1, u.logChange (originCode .assistant) 0x0A 0 false e sp cause)

/-- The first steps of a failover from e to sp, whole: `n` of them, 6 at most. The count is that of the breach records placed. -/
def State.moveSteps (s : State) (e sp cause n : Nat) : Nat × State :=
  let t := if 1 ≤ n then s.failStop e else s
  let t := if 2 ≤ n then t.failMap e sp else t
  let t := if 3 ≤ n then t.failCopy e sp else t
  let t := if 4 ≤ n then t.failTimers e sp (List.range 4) else t
  let t := if 5 ≤ n then t.dropCaps e (List.range 16) else t
  if 6 ≤ n then t.failFlows true true cause (s.flowsOn e) else (0, t)

/-- R765 for some engines without a spare, whose flows are `fs`: step 1, and the breach records for items dispatched already (R764). -/
def State.failAlone (s : State) (cause : Nat) (fs : List Nat) : List Nat → Nat × State
  | [] => s.failFlows false true cause fs
  | e :: es => (s.failStop e).failAlone cause fs es

/-- A failover abandoned for a fault of the spare after n steps (R766): R765 applies to e and to sp. -/
def State.abandonMove (s : State) (e sp cause n : Nat) : Nat × State :=
  let fs := s.flowsOn e
  let a := s.moveSteps e sp cause n
  let b := a.2.failAlone cause fs [e, sp]
  (a.1 + b.1, b.2)

/-- Failover of engine e (R762, R765, R766): the spare if there is one, the flows moved, the breach records placed. A fault event of the
spare that the pair has not yet answered came before step 7; how many steps were complete then is free (log entry 63). -/
def State.failOver (s : State) (e cause : Nat) : Option Nat × Nat × Nat × State :=
  match s.spareOf e with
  | some sp =>
    if s.asst.contains (engineFaultLine sp) then
      let n := s.fresh 3
      let r := n.2.abandonMove e sp cause (n.1.toNat % 7)
      (none, 0, r.1, r.2)
    else
      let r := s.moveEngine e sp cause true
      (some sp, r.1, r.2.1, r.2.2)
  | none =>
    let r := s.failAlone cause (s.flowsOn e) [e]
    (none, 0, r.1, r.2)

/-! ## Faults of engines (R756, R757) -/

/-- The violations of engine e in the last 1 ms. -/
def State.violations (s : State) (e : Nat) : List Nat := tget (fun _ => []) s.assistant.violations e

/-- A capability violation of engine e noted. -/
def State.countViolation (s : State) (e : Nat) : State :=
  let l := s.rgl.edge :: (s.violations e).filter fun k => decide (s.rgl.edge < k + edgesPerMs)
  { s with assistant := { s.assistant with violations := tset (fun _ => []) s.assistant.violations e l } }

/-- The Assistant pair acts on a fault of engine e. -/
def State.faultResponse (s : State) (e : Nat) : State :=
  let code := s.get (ENG_FAULT.CODE e)
  let t := if code = 5 then s.countViolation e else s
  let limit := t.get AST_CVLIM.COUNT
  if bitAt (t.reg AST_FPOL) code || (code == 5 && limit != 0 && decide (limit ≤ (t.violations e).length)) then
    (t.failOver e code).2.2.2
  else t

/-! ## Live upgrade (R768 to R770) -/

/-- CUTREQ of engine e. -/
def State.setCutReq (s : State) (e : Nat) (b : Bool) : State := s.setEng e { s.eng e with cutReq := b }

/-- Cut-over of an upgrade. The time that ARG3 gives is not modelled: it is free (log entry 63). -/
def State.cutOver (s : State) (u : Upgrade) : State :=
  let r := s.moveEngine u.eng u.spare 0 false
  let t := (r.2.2.setRole u.eng 2).setCutReq u.eng false
  let f := t.fresh 32
  ({ f.2 with assistant := { f.2.assistant with upgrade := none } } : State).mailDone 0
    [BitVec.ofNat 32 u.spare, BitVec.ofNat 32 r.1, 0, f.1]

/-- The timeout of an upgrade. -/
def State.cutTimeout (s : State) (u : Upgrade) : State :=
  let t := s.setCutReq u.eng false
  ({ t with assistant := { t.assistant with upgrade := none } } : State).mailDone 4 []

/-! ## The Shutter (R773 to R783) -/

/-- A state from which the Shutter takes control (01 R42). -/
def State.shutterStates (s : State) : Bool := s.inService || s.get CLU_STAT.STATE == 4

/-- The Assistant pair has failed: its cores are held in reset and the Shutter has control (R773). -/
def State.pairFails (s : State) (cause : Nat) : State :=
  if s.pairRuns && s.shutterStates then
    ((s.put AST_STAT.LOCKSTEP 0).put AST_STAT.LASTCAUSE cause).put SHT_STAT.CAUSE cause
  else s

/-- The phases Freeze and Safe (R775). -/
def State.shutterFreeze (s : State) : State :=
  let t := ((s.leaveNap.put CLU_STAT.STATE 5).put SHT_STAT.PHASE 2).count SHT_STAT.TAKEOVERS 1
  let t := ({ t with assistant := { t.assistant with takeoverEdge := t.rgl.edge,
                                                     takeovers := (t.rgl.edge :: t.assistant.takeovers).take 3 } } : State)
  (t.stopEngines (List.range 12)).settleAll

/-- The phase Tombstones (R778): it waits while a destination queue has no room. -/
def State.shutterTombstones (s : State) : State :=
  let t := (s.tombstoneAll (s.get SHT_STAT.CAUSE)).2
  if t.allTombstoned then t.put SHT_STAT.PHASE 3 else t

/-- The phase Drain has ended (R775). -/
def State.shutterDrained (s : State) : Bool :=
  s.queued s.portQueues == 0 || decide (s.assistant.takeoverEdge + 5000 * Nat.max 1 (s.get SHT_DRAIN.LIM) ≤ s.rgl.edge)

/-- A third takeover within 10 s of the first of three (R781). -/
def State.shutterHolds (s : State) : Bool :=
  match s.assistant.takeovers with
  | [c, _, a] => decide (c ≤ a + 5000000000)
  | _ => false

/-- The Occultation channels go OFF where the cluster enters loading (13 R667). -/
def State.offChannels (s : State) : List Nat → State
  | [] => s
  | c :: cs => ((s.setChannel c { s.channel c with edges := [], front := none, made := false }).put (OCC_CHSTAT.STATE c) 0).offChannels cs

/-- The phases Report and Restart (R775, R781). The manual gives the record's cause and origin, and no other field (log entry 49). -/
def State.shutterReport (s : State) : State :=
  let f := s.fresh 96
  let t := f.2.logChange (originCode .shutter) 0x0C (s.get SHT_STAT.CAUSE) false (f.1.toNat % 2 ^ 32) (f.1.toNat / 2 ^ 32 % 2 ^ 32)
    (f.1.toNat / 2 ^ 64)
  let t := (((t.put SHT_STAT.FAULT 1).put CLU_STAT.FAULT 1).registerEvent 255).put SHT_STAT.PHASE 5
  if t.shutterHolds then t.put SHT_STAT.HOLD 1
  else ((t.linksLost.put AST_STAT.LOCKSTEP 1).count AST_STAT.RESTARTS 1).enterLoading.offChannels (List.range 3) |>.settleAll

/-- Every timer of the engines stops. -/
def State.stopTimer (s : State) (e n : Nat) : State :=
  let t := s.put (TMR_CTL.EN e n) 0
  if t.timerRuns e n && !t.timerHigh e n then t.timerStop e n else t

/-- Some Verniers stop. -/
def State.stopVerniers (s : State) : List Nat → State
  | [] => s
  | v :: vs => ((s.releaseVernier v).vernierStop v).stopVerniers vs

/-- Isolation (R782). -/
def State.isolate (s : State) : State :=
  let t := (((s.put CLU_STAT.STATE 7).put CLU_STAT.DEAD 1).put SHT_STAT.CAUSE 0x17).put SHT_STAT.PHASE 6
  let t := (t.stopEngines (List.range 12)).stopVerniers (List.range 24)
  (t.eachTimer State.stopTimer (List.range 48)).settleAll

/-! ## The commands -/

/-- ENGMAP_WRITE (R760). -/
def execEngmapWrite (i : Fin 2) (o : Origin) (v : Word) (s : State) : Host.Outcome State Fault Refusal :=
  .next (s.writeReg o (AST_ENGMAP0 + 4 * i) v (writeEngmap i v))

/-- ENGINE_FAULT_RESPONSE (R756, R757): the copy of engine e's fault event has reached the Assistant pair (08 R434). -/
def execEngineFaultResponse (e : Fin 12) (s : State) : Host.Outcome State Fault Refusal :=
  .next (if s.pairRuns && s.asst.contains (engineFaultLine e) then
      ({ s with asst := s.asst.erase (engineFaultLine e) } : State).faultResponse e
    else s)

/-- CUT_OVER (R768): the engine is idle with its global mask set. -/
def execCutOver (s : State) : Host.Outcome State Fault Refusal :=
  .next (match s.assistant.upgrade with
    | some u => if s.pairRuns && s.get (ENG_STAT.STATE u.eng) == 2 && s.on (ENG_PRI.GMASK u.eng) then s.cutOver u else s
    | none => s)

/-- CUT_OVER_TIMEOUT (R769). -/
def execCutOverTimeout (s : State) : Host.Outcome State Fault Refusal :=
  .next (match s.assistant.upgrade with
    | some u => if s.pairRuns && decide (u.edge + 500 * Nat.max 1 (s.get AST_CUTTO.US) ≤ s.rgl.edge) then s.cutTimeout u else s
    | none => s)

/-- LOCKSTEP_MISMATCH (R771, R773). -/
def execLockstepMismatch (s : State) : Host.Outcome State Fault Refusal := .next (s.pairFails 0x0D)

/-- ASSISTANT_WATCHDOG_EXPIRY (R772, R773): 200 µs without a kick, while the watchdog is not held. -/
def execAssistantWatchdogExpiry (s : State) : Host.Outcome State Fault Refusal :=
  .next (if s.on AST_STAT.WDFRZ then s else s.pairFails 0x04)

/-- SHUTTER_TAKEOVER (R775): the phases Freeze, Safe and Tombstones; a later one goes on with the tombstones that found no room. -/
def execShutterTakeover (s : State) : Host.Outcome State Fault Refusal :=
  .next (if s.on AST_STAT.LOCKSTEP || !s.pllsRun then s
    else if s.shutterStates then s.shutterFreeze.shutterTombstones
    else if s.get CLU_STAT.STATE = 5 ∧ s.get SHT_STAT.PHASE = 2 then s.shutterTombstones
    else s)

/-- SHUTTER_DRAIN_END (R775, R781): the end of the phase Drain, Report and Restart. -/
def execShutterDrainEnd (s : State) : Host.Outcome State Fault Refusal :=
  .next (if s.pllsRun && s.get CLU_STAT.STATE == 5 && s.get SHT_STAT.PHASE == 3 && s.shutterDrained then s.shutterReport else s)

/-- SHUTTER_SELF_CHECK_FAILURE (R782): no clock is needed. -/
def execShutterSelfCheckFailure (s : State) : Host.Outcome State Fault Refusal := .next (if s.ifcOn then s.isolate else s)

/-- SHT_STAT_FAULT_CLEAR (R779): a write of SHT_STAT with FAULT = 1. -/
def execShtStatFaultClear (o : Origin) (v : Word) (s : State) : Host.Outcome State Fault Refusal :=
  .next (s.writeReg o SHT_STAT (v ||| 0x80000000) (writeShtStat (v ||| 0x80000000)))

end Sys2Proof.Machine
end

