-- ==== Sys2Proof/Machine/Bus.lean ====
section
/-! DEFINITION. The host window (21 R936 to R941, R955, R956): which register an offset reaches, a write and a read of any register by
its own rules, the host slave port's transactions and the Eyepiece's (19 R890 to R894, R915, R916). -/

namespace Sys2Proof.Machine

/-! ## Offsets -/

/-- An offset lies in a register block of the index (21 R938, R955). -/
def inRegisterBlock (off : Nat) : Bool := decide (off < 0xE000) || (decide (0x10000 ≤ off) && decide (off < 0x40000))

/-- The register behind an index register that an offset of the frame ports reaches. -/
def State.portKey (s : State) (off : Nat) : Nat :=
  let p := (off - 0x9000) / 0x100
  let r := off % 0x100
  if 0x28 ≤ r ∧ r ≤ 0x40 then FPT_FRW0 p (s.get (FPT_FRIDX.RULE p)) + (r - 0x28)
  else if r = 0x64 then FPT_GENT p (s.get (FPT_GIDX.ENTRY p))
  else if 0x6C ≤ r ∧ r ≤ 0x78 then FPT_FTW0 p (s.get (FPT_FTIDX.ENTRY p)) + (r - 0x6C)
  else if r = 0xC4 then FPT_RCVCFG p (s.get (FPT_RCVIDX.STREAM p))
  else if r = 0xD0 then FPT_CNT p (s.get (FPT_CNTIDX.INDEX p))
  else off

/-- The key of the register that an offset reaches (21 R955, R956): the offset itself, or a register behind an index register. -/
def State.keyAt (s : State) (off : Nat) : Nat :=
  if off = 0x2044 then SEC_SLOT (s.get SEC_SLOTIDX.SLOT)
  else if off = 0x310C then ADM_FSTATE (s.get ADM_FIDX.FLOW)
  else if off = 0x3110 then ADM_FBOUND (s.get ADM_FIDX.FLOW)
  else if off = 0x4054 then RGL_PINCAL (s.get RGL_PINCAL_IDX.INDEX)
  else if off = 0x5068 then CDR_EPH_LO (s.get CDR_EPH_IDX.INDEX)
  else if off = 0x506C then CDR_EPH_HI (s.get CDR_EPH_IDX.INDEX)
  else if 0x7064 ≤ off ∧ off ≤ 0x7078 then AST_OT0 (s.get AST_OTIDX.FLOW) + (off - 0x7064)
  else if 0x8014 ≤ off ∧ off ≤ 0x802C then QM_QRING s.queueIndex + (off - 0x8014)
  else if off = 0x8044 then QM_PBASE (s.get QM_PIDX.POOL)
  else if off = 0x8048 then QM_PCFG (s.get QM_PIDX.POOL)
  else if 0x9000 ≤ off ∧ off < 0x9800 then s.portKey off
  else if 0xA800 ≤ off ∧ off < 0xB400 ∧ ¬ (0xB000 ≤ off ∧ off < 0xB100) then 0x1200000 + (off - 0xA800)
  else if 0xBA00 ≤ off ∧ off < 0xBB00 then 0x1200800 + (off - 0xBA00)
  else if 0xC104 ≤ off ∧ off ≤ 0xC10C then CST_CHCFG (s.get CST_CHIDX.CH) + (off - 0xC104)
  else if 0x10000 ≤ off ∧ off < 0x40000 ∧ 0x204 ≤ off % 0x4000 ∧ off % 0x4000 ≤ 0x210 then
    let e := (off - 0x10000) / 0x4000
    CAP_W e (s.get (CAP_IDX.SLOT e)) 0 + (off % 0x4000 - 0x204)
  else off

/-! ## A write of any register by its own rules -/

/-- A register whose access codes are its only rules. -/
def writePlain (key : Nat) (v : Word) (s : State) : Effect := .ok (s.plainWrite key v)

/-- The rules of a write to CHT_SRC: KIND 0b11 leaves the field unchanged. -/
def writeChtSrc (v : Word) (s : State) : Effect := if fieldOf v 1 0 = 3 then .kept s else writePlain CHT_SRC v s

/-- The rules of a write to CAP_IDX: above 16 leaves the register unchanged. -/
def writeCapIdx (e : Nat) (v : Word) (s : State) : Effect := if 16 < fieldOf v 4 0 then .kept s else writePlain (CAP_IDX e) v s

/-- The blocks from 0x0000 to 0x3FFF: identity, clock, security, Logbook, chart. -/
def rulesCluster (key : Nat) (o : Origin) (v : Word) (s : State) : Effect :=
  if key = CLU_CTL then writeCluCtl v s
  else if key = CLU_ATTACH then writeCluAttach v s
  else if CLU_QMAP 0 ≤ key ∧ key ≤ CLU_QMAP 2 then writeCluQmap ((key - CLU_QMAP 0) / 4) v s
  else if key = CLK_OSC_TOL then writeClkOscTol v s
  else if key = CLK_SSC then writeClkSsc v s
  else if key = CLK_PWRCTL then writeClkPwrctl v s
  else if key = SEC_TAMPER_POL then writeTamperPol v s
  else if key = SEC_MESH then writeSecMesh v s
  else if SEC_AUTHQ 0 ≤ key ∧ key ≤ SEC_AUTHQ 7 then writeAuthq ((key - SEC_AUTHQ 0) / 4) o v s
  else if key = LOG_TAIL then writeLogTail v s
  else if key = LOG_SPILLRD then writeLogSpillrd v s
  else if key = CHT_SRC then writeChtSrc v s
  else writePlain key v s

/-- The Regulator's block. -/
def rulesRegulator (key : Nat) (o : Origin) (v : Word) (s : State) : Effect :=
  if key = RGL_QUAL then writeRglQual o v s
  else if key = RGL_SRV_OWN then writeRglSrvOwn v s
  else if key = RGL_SNAP_CMD then writeRglSnap v s
  else if key = RGL_RATE then writeRglRate o v s
  else if key = RGL_STEP then writeRglStep o v s
  else if key = RGL_SLEW ∨ key = RGL_STEP_SEC ∨ key = RGL_STEP_FRAC ∨ key = RGL_UTC then writeRglPlain key o v s
  else if RGL_ALM_CTL 0 ≤ key ∧ key < RGL_ALM_CTL 32 then
    let n := (key - RGL_ALM_CTL 0) / 16
    if key % 16 = 0 then writeAlmCtl n o v s else if key % 4 = 0 then writeAlmTime n key o v s else .ok s
  else writePlain key v s

/-- The Clock Drive's block. -/
def rulesClockDrive (key : Nat) (o : Origin) (v : Word) (s : State) : Effect :=
  if key = CDR_SNAP_CMD then writeCdrSnap v s
  else if CDR_PT_CTL 0 ≤ key ∧ key < CDR_PT_CTL 4 then
    let n := (key - CDR_PT_CTL 0) / 64
    match key % 64 with
    | 0x0 => writePtCtl n v s
    | 0x8 => writePtCfg n v s
    | 0xC => writePtSrc n v s
    | _ => writePlain key v s
  else if CDR_PALM_CTL 0 ≤ key ∧ key < CDR_PALM_CTL 16 then
    let m := (key - CDR_PALM_CTL 0) / 16
    if key % 16 = 0 then writePalmCtl m o v s else if key % 4 = 0 then writePalmValue m key o v s else .ok s
  else writePlain key v s

/-- The event controller's block. -/
def rulesEvent (key : Nat) (o : Origin) (v : Word) (s : State) : Effect :=
  if key = EVC_DOOR then writeEvcDoor v s
  else if EVC_MASK 0 ≤ key ∧ key ≤ EVC_MASK 7 ∧ key % 4 = 0 then writeEvcMask ((key - EVC_MASK 0) / 4) o v s
  else if EVC_PEND 0 ≤ key ∧ key ≤ EVC_PEND 7 ∧ key % 4 = 0 then writeEvcPend ((key - EVC_PEND 0) / 4) o v s
  else if EVC_ROUTE 0 ≤ key ∧ key ≤ EVC_ROUTE 255 ∧ key % 4 = 0 then writeEvcRoute ((key - EVC_ROUTE 0) / 4) v s
  else writePlain key v s

/-- The Assistant pair's block. -/
def rulesAssistant (key : Nat) (o : Origin) (v : Word) (s : State) : Effect :=
  if key = AST_MBOX_CMD then writeMboxCmd o v s
  else if AST_MBOX_ARG 0 ≤ key ∧ key ≤ AST_MBOX_ARG 7 ∧ key % 4 = 0 then writeMboxArg ((key - AST_MBOX_ARG 0) / 4) v s
  else if key = AST_FPOL then writeAstFpol v s
  else if key = AST_ENGMAP0 then writeEngmap 0 v s
  else if key = AST_ENGMAP1 then writeEngmap 1 v s
  else if key = SHT_STAT then writeShtStat v s
  else writePlain key v s

/-- The queue manager's block. -/
def rulesQueue (key : Nat) (o : Origin) (v : Word) (s : State) : Effect :=
  if key = QM_QCMD then writeQmQcmd o v s
  else if PLT_OWN 0 ≤ key ∧ key ≤ PLT_OWN 95 ∧ key % 4 = 0 then writePltOwn ((key - PLT_OWN 0) / 4) o v s
  else writePlain key v s

/-- The frame ports' block. -/
def rulesFramePort (key : Nat) (v : Word) (s : State) : Effect :=
  let p := (key - 0x9000) / 0x100
  if 0x9800 ≤ key then writePlain key v s
  else match key % 0x100 with
    | 0x00 => writeFptCtl p v s
    | 0x0C => writeFptPhy p v s
    | 0x18 => writeFptRed p v s
    | 0x44 => writeFptGctl p v s
    | _ => writePlain key v s

/-- The Verniers' and field pins' block. -/
def rulesVernier (key : Nat) (v : Word) (s : State) : Effect :=
  if key < VRN_CTL 24 then
    let n := (key - VRN_CTL 0) / 64
    match key % 64 with
    | 0x0 => writeVrnCtl n v s
    | 0x8 => writeVrnClk n v s
    | 0xC => writeVrnPins n v s
    | _ => writePlain key v s
  else if key = VRN_GSTART then writeVrnGstart v s
  else if FLD_CFG 0 ≤ key ∧ key ≤ FLD_CFG 47 ∧ key % 4 = 0 then writeFldCfg ((key - FLD_CFG 0) / 4) v s
  else if key = FLD_PPS then writeFldPps v s
  else if key = FLD_PPSOFS then writeFldPpsofs v s
  else writePlain key v s

/-- The Occultation block. -/
def rulesOccultation (key : Nat) (o : Origin) (v : Word) (s : State) : Effect :=
  let c := (key - 0xB000) / 64
  if c < 3 then
    let r := key % 64
    if r = 0 then writeOccChctl c o v s
    else if r = 8 then writeOccChcfg c v s
    else if r = 0xC then writeOccThr c v s
    else if 0x18 ≤ r ∧ r ≤ 0x2C ∧ r % 4 = 0 then writeOccWindow key c o v s
    else writePlain key v s
  else .ok s

/-- The constellation's and the Eyepiece's blocks. -/
def rulesConstEye (key : Nat) (o : Origin) (v : Word) (s : State) : Effect :=
  if key = CST_CFG then writeCstCfg v s
  else if key = CST_CAND then writeCstCand v s
  else if key = CST_SERVO then writeCstServo v s
  else if key = CST_LNKCTL 0 then writeCstLnkctl 0 v s
  else if key = CST_LNKCTL 1 then writeCstLnkctl 1 v s
  else if key = CST_ASYM 0 then writeCstAsym 0 v s
  else if key = CST_ASYM 1 then writeCstAsym 1 v s
  else if key = EYE_CTL then writeEyeCtl o v s
  else if key = EYE_FREEZE then writeEyeFreeze o v s
  else if key = EYE_ESEL ∨ key = EYE_VSEL ∨ key = EYE_XTRIG ∨ key = EYE_BRKEN then writeRunctl key o v s
  else if key = EYE_EDATA then writeEyeEdata o v s
  else if key = EYE_MCTL then writeEyeMctl v s
  else writePlain key v s

/-- The timers and the watchdog of engine e: register r of its block. -/
def rulesTimer (e r key : Nat) (o : Origin) (v : Word) (s : State) : Effect :=
  if r < 0x180 then
    let n := (r - 0x100) / 32
    match r % 32 with
    | 0x00 => writeTmrCtl e n o v s
    | 0x14 => writeTmrCnt e n v s
    | 0x18 => writeTmrIo e n v s
    | _ => writePlain key v s
  else if r = 0x180 then writeTmrWdctl e v s
  else if r = 0x184 then writeTmrWdper e v s
  else if r = 0x188 then .ok (s.watchdogKick e v)
  else writePlain key v s

/-- The engines' blocks. -/
def rulesEngine (key : Nat) (o : Origin) (v : Word) (s : State) : Effect :=
  let e := (key - 0x10000) / 0x4000
  let r := key % 0x4000
  if r = 0x0 then writeEngCtl e v s
  else if r = 0x8 then writeEngUpc e v s
  else if r = 0x20 then writeWcsAddr e o v s
  else if 0x24 ≤ r ∧ r ≤ 0x34 ∧ r % 4 = 0 then writeWcsD e ((r - 0x24) / 4) o v s
  else if r = 0x40 then writeEngPri e v s
  else if 0x70 ≤ r ∧ r ≤ 0x80 ∧ r % 4 = 0 then writeEngSal e ((r - 0x70) / 4) v s
  else if 0x100 ≤ r ∧ r < 0x200 then rulesTimer e r key o v s
  else if r = 0x200 then writeCapIdx e v s
  else if r = 0x230 ∨ r = 0x234 then writeCapX key v s
  else if 0x300 ≤ r ∧ r < 0x380 ∧ r % 4 = 0 then writeDcmp e ((r - 0x300) / 16) (r % 16 / 4) o v s
  else writePlain key v s

/-- Registers behind an index register, and Vernier programs. -/
def rulesBanked (key : Nat) (o : Origin) (v : Word) (s : State) : Effect :=
  let off := key % 0x10000
  match key / 0x10000 with
  | 0x100 => writeRglPincal v s
  | 0x101 => if off % 8 = 0 then writeEphLo v s else writeEphHi (off / 8) o v s
  | 0x102 => writeCapW (off / 0x400) (off % 0x400 / 16) (off % 16 / 4) v s
  | 0x103 => if off % 8 = 0 then writeQmPbase (off / 8) v s else writeQmPcfg (off / 8) v s
  | 0x104 => if off % 32 / 4 < 6 then writeFptFrw (off / 0x2000) (off % 32 / 4) v s else writeFptFrw6 (off / 0x2000) v s
  | 0x106 => writeFptGent (off / 0x400) (off % 0x400 / 4) v s
  | 0x107 => if off % 16 / 4 < 3 then writeFptFtw (off / 0x2000) (off % 16 / 4) v s else writeFptFtw3 (off / 0x2000) v s
  | 0x108 => writeFptRcvcfg (off / 0x100) (off % 0x100 / 4) v s
  | 0x10E => if off % 16 = 4 then writeCstChcfg (off / 16) v s else writePlain key v s
  | 0x120 => writeVrnImem (off / 0x80) (off % 0x80 / 4) o v s
  | 0x110 =>
    match off % 0x40 with
    | 0x14 => writeQmQring (off / 0x40) v s
    | 0x18 => writeQmQcfg (off / 0x40) v s
    | 0x20 => writeQmQspill (off / 0x40) v s
    | 0x24 => writeQmQsplen (off / 0x40) v s
    | 0x2C => writeQmQstat (off / 0x40) o v s
    | _ => writePlain key v s
  | _ => writePlain key v s

/-- The rules of a write to the register at a key; none hold for a key that is no register (00 R8). -/
def registerRules (key : Nat) (o : Origin) (v : Word) (s : State) : Effect :=
  if (regDesc key).isNone then .ok s
  else if key < 0x4000 then rulesCluster key o v s
  else if key < 0x5000 then rulesRegulator key o v s
  else if key < 0x6000 then rulesClockDrive key o v s
  else if key < 0x7000 then rulesEvent key o v s
  else if key < 0x8000 then rulesAssistant key o v s
  else if key < 0x9000 then rulesQueue key o v s
  else if key < 0xA000 then rulesFramePort key v s
  else if key < 0xB000 ∨ (0xB100 ≤ key ∧ key < 0xC000) then rulesVernier key v s
  else if key < 0xB100 then rulesOccultation key o v s
  else if key < 0x10000 then rulesConstEye key o v s
  else if key < 0x1000000 then rulesEngine key o v s
  else rulesBanked key o v s

/-- The ring that a write of v to the register at a key needs. -/
def State.ringNeeded (s : State) (key : Nat) (v : Word) : Nat :=
  if SEC_AUTHQ 0 ≤ key ∧ key ≤ SEC_AUTHQ 7 then s.authqRing v else minRing key

/-- A write by a master to the register at a key (00 R9 to R14). -/
def State.writeKey (s : State) (o : Origin) (key : Nat) (v : Word) : State :=
  s.writeAs o (s.ringNeeded key v) key v (registerRules key o v)

/-- A write by a master at an offset of the host window: ERROR in no block (21 R938), without effect at an offset that is not
assigned (00 R8). -/
def State.writeOffset (s : State) (o : Origin) (off : Nat) (v : Word) : State :=
  if inRegisterBlock off then s.writeKey o (s.keyAt off) v else s.respond o respError

/-! ## What registers read as -/

/-- Bit e set for the engines with a property. -/
def engineMask (p : Nat → Bool) : Nat := (List.range 12).foldl (fun m e => if p e then m + 2 ^ e else m) 0

/-- Engine e runs admitted flows, or first-light microcode (`CLU_STAT.INSVC`). -/
def State.engineServes (s : State) (e : Nat) : Bool :=
  s.on (ENG_CTL.RUN e) && (s.get CLU_STAT.STATE == 2 || !(s.flowsOn e).isEmpty)

/-- ENG_STAT as it reads. -/
def State.engStatWord (s : State) (e : Nat) : Word :=
  let n := (List.range 16).countP fun t => s.tagBusy e t
  fieldSet (fieldSet (s.reg (ENG_STAT e)) 20 16 n) 15 15 (bit (s.eng e).op.isSome)

/-- EYE_STAT as it reads. -/
def State.eyeStatWord (s : State) : Word :=
  let w := fieldSet (s.reg EYE_STAT) 30 30 (bit s.ifcOn)
  let w := fieldSet w 29 29 (bit (s.ifcOn && (List.range 12).any fun e => (s.eng e).stepping))
  let w := fieldSet w 23 12 (engineMask fun e => s.ifcOn && (s.eng e).halt != 0 && s.lockOpen e)
  fieldSet w 11 0 (engineMask fun e => s.ifcOn && s.get (ENG_STAT.STATE e) == 3)

/-- A register behind an index register as it reads: SEAL reads 0 (09 "CAP_W3"), QM_QCNT counts. -/
def State.bankedWord (s : State) (key : Nat) : Word :=
  let off := key % 0x10000
  if key / 0x10000 = 0x102 ∧ off % 16 = 12 then s.reg key &&& 0xFFFF
  else if key / 0x10000 = 0x110 ∧ off % 0x40 = 0x28 then
    BitVec.ofNat 32 (65536 * (s.queue (off / 0x40)).vis + s.queueCount (off / 0x40))
  else if key / 0x10000 = 0x100 then
    if 0x77 ≤ off / 4 then 0 else fieldSet (s.reg key) 20 20 (bit (outputPoint (off / 4)))
  else s.reg key

/-- The word that a register reads as: fields that show other state are computed from it. -/
def State.regValue (s : State) (key : Nat) : Word :=
  if 0x1000000 ≤ key then s.bankedWord key
  else if (regDesc key).isNone then 0
  else if key = CLU_STAT then fieldSet (s.reg key) 27 16 (engineMask s.engineServes)
  else if key = RGL_QUAL then
    fieldSet (s.reg key) 31 16 (if s.get RGL_QUAL.STATE = 4 then Nat.min ((s.rgl.edge - s.rgl.holdEdge) / 500000000) 0xFFFF else 0)
  else if CDR_PT_CTL 0 ≤ key ∧ key < CDR_PT_CTL 4 ∧ key % 64 = 4 then
    let n := (key - CDR_PT_CTL 0) / 64
    fieldSet (s.reg key) 31 16 (if s.get (CDR_PT_STAT.STATE n) = 3
      then Nat.min ((s.rgl.edge - (s.tracker n).holdEdge) / edgesPerMs) 0xFFFF else 0)
  else if key = EVC_IRQSTAT then
    BitVec.ofNat 32 ((List.range 4).foldl (fun m k => if s.irqLevel k then m + 2 ^ k else m) 0)
  else if key = QM_BMSTAT then fieldSet (s.reg key) 31 24 (Nat.min s.bulk.length 255)
  else if key = PLT_MODE then BitVec.ofNat 32 (bit s.fused)
  else if PLT_OWN 0 ≤ key ∧ key ≤ PLT_OWN 95 then fieldSet (s.reg key) 31 16 (s.gen typePlate ((key - PLT_OWN 0) / 4))
  else if 0x9000 ≤ key ∧ key < 0x9800 then
    let p := (key - 0x9000) / 0x100
    if key % 0x100 = 4 then fieldSet (s.reg key) 1 1 (bit (s.bypassed p))
    else if key % 0x100 = 0x44 then fieldSet (s.reg key) 15 8 (s.gateEntry p)
    else s.reg key
  else if key = CST_STAT then
    fieldSet (s.reg key) 9 9 (bit (s.on CST_STAT.SRCV && !s.on CST_STAT.ISSRC && s.get RGL_SRV_OWN.OWNER == 2))
  else if key = EYE_STAT then s.eyeStatWord
  else if 0x10000 ≤ key then
    let e := (key - 0x10000) / 0x4000
    if key % 0x4000 = 4 then s.engStatWord e
    else if key % 0x4000 = 0x10 then s.bulkWord e
    else if key % 0x4000 = 0x40 then s.priWord e
    else s.reg key
  else s.reg key

/-- RC fields cleared by a read (00 R14). -/
def State.clearRead (s : State) (key : Nat) : State :=
  match regDesc key with
  | some d => if d.rc = 0 then s else s.setReg key (s.reg key &&& ~~~ BitVec.ofNat 32 d.rc)
  | none => s

/-- A quiet read of a control store register by the Eyepiece (19 R915): the word of a read of WCS_D0 is held in a register of its
own, and the address does not move. -/
def State.quietWcsD (s : State) (e i : Nat) : Nat × Word × State :=
  if s.wcsBusy e then (respDenied, 0, s)
  else
    let t := if i = 0 then
        { s with eyepiece := { s.eyepiece with wcsRead := s.storeWord e (s.get (WCS_ADDR.ADDR e)) } }
      else s
    (respOk, t.eyepiece.wcsRead.extractLsb' (32 * i) 32, t)

/-- A read of the register at a key, quiet or with its side effects, `captureInTick` when a capture to it occurs in the tick: the
response, the word and the state after it. The Eyepiece's block reads 0 while the debug domain is off (19 R894). -/
def State.readKey (s : State) (quiet captureInTick : Bool) (key : Nat) : Nat × Word × State :=
  let e := (key - 0x10000) / 0x4000
  let r := key % 0x4000
  if s.debugOff key then (respOk, 0, s)
  else if key = EYE_EDATA then (s.readEdata.1, s.readEdata.2, s)
  else if CDR_PT_CTL 0 ≤ key ∧ key < CDR_PT_CTL 4 ∧ key % 64 = 0x24 then
    let n := (key - CDR_PT_CTL 0) / 64
    (respOk, (s.pcapRead n captureInTick).1, if quiet then s else (s.pcapRead n captureInTick).2)
  else if 0x10000 ≤ key ∧ key < 0x1000000 ∧ 0x24 ≤ r ∧ r ≤ 0x34 ∧ r % 4 = 0 then
    if quiet then s.quietWcsD e ((r - 0x24) / 4) else s.readWcsD e ((r - 0x24) / 4)
  else if 0x10000 ≤ key ∧ key < 0x1000000 ∧ 0x100 ≤ r ∧ r < 0x180 ∧ (r % 32 = 0xC ∨ r % 32 = 0x10) then
    let c := s.captureRead e ((r - 0x100) / 32) (r % 32 = 0xC) captureInTick
    (respOk, c.1, if quiet then s else c.2)
  else (respOk, s.regValue key, if quiet then s else s.clearRead key)

/-- A read by a master of the register at a key, with its answer. -/
def State.readBy (s : State) (o : Origin) (quiet captureInTick : Bool) (key : Nat) : State :=
  if s.busError o false (hostOffset key) then s.answer o respError 0
  else
    let r := s.readKey quiet captureInTick key
    r.2.2.answer o r.1 r.2.1

/-! ## The host slave port (21 R936 to R941) -/

/-- The word that the byte enables of a single beat name: the low or the high one of the beat (log entry 64). -/
def wordOffset (off be : Nat) : Option Nat :=
  if be = 0x0F then some (off / 8 * 8) else if be = 0xF0 then some (off / 8 * 8 + 4) else none

/-- The word of a beat at an offset. -/
def beatWord (off : Nat) (data : List DWord) : Word := (data.getD 0 0).extractLsb' (if off % 8 = 4 then 32 else 0) 32

/-- A transaction: at or above 0x40_0000 an access to plates, below it to one register. -/
def State.hostTransaction (s : State) (off : Nat) (write burst : Bool) (be : Nat) (data : List DWord) (meet : Meeting) : State :=
  if 0x400000 ≤ off then s.hostPlate off write burst be data meet
  else
    match wordOffset off be with
    | none => s.hostAnswer respError (if write then [] else List.replicate (if burst then 8 else 2) 0)
    | some a =>
      if burst || !inRegisterBlock a || (write && data.length != 1) then
        s.hostAnswer respError (if write then [] else List.replicate (if burst then 8 else 2) 0)
      else if write then s.writeOffset .host a (beatWord a data)
      else s.readBy .host false (meet != .alone) (s.keyAt a)

/-! ## EYE_DR (19 R890 to R894, R915, R916) -/

/-- The record of a live read (19 R922), placed before the read is served. -/
def State.liveRecord (s : State) (off : Nat) (v : Word) : State :=
  if s.ifcOn then (s.logChange 0x01 0x08 0 false (0x07000000 + off) v.toNat 0).placeAll else s

/-- The live read (19 R916): LIVE clears where it is served, and where strict policy refuses it. `captureInTick` as for a host read (03
R167, 07 R388). -/
def State.liveRead (s : State) (off : Nat) (captureInTick : Bool) : State :=
  let key := s.keyAt off
  if !inRegisterBlock off || s.busError .eyepiece false (hostOffset key) then s.answer .eyepiece respError 0
  else if s.logRefuses .eyepiece then (s.put EYE_CTL.LIVE 0).answer .eyepiece respDenied 0
  else ((s.liveRecord off (s.readKey false captureInTick key).2.1).put EYE_CTL.LIVE 0).readBy .eyepiece false captureInTick key

/-- A read of the Eyepiece below 0x40_0000. -/
def State.eyeRead (s : State) (off : Nat) (captureInTick : Bool) : State :=
  if s.on EYE_CTL.LIVE then s.liveRead off captureInTick
  else if inRegisterBlock off then s.readBy .eyepiece true false (s.keyAt off)
  else s.answer .eyepiece respError 0

/-- An access through EYE_DR at or above 0x40_0000, by the Eyepiece master (19 R892, R918, R919). -/
def State.eyePlate (s : State) (off : Nat) (write : Bool) (data : Word) : State :=
  let x : EyeAccess :=
    { viaDr := true, write, ext := false, wide := false, addr := off - 0x400000, data := data.setWidth 64, tag := none }
  if s.busError .eyepiece write off || decide (0xA00000 ≤ off) then s.answer .eyepiece respError 0
  else if s.masterAllows x then
    let t := s.beginAccess x
    { t with eyepiece := { t.eyepiece with drBusy := true } }
  else s.answer .eyepiece respDenied 0

/-- The debug domain powered (01 R32, 19 R895): the Eyepiece at its reset values. -/
def State.debugPower (s : State) : State := if s.dbgOn then s else { s.debugReset with dbgOn := true }

/-- An Update-DR with the debug domain powered. -/
def State.updateDr (s : State) (op addr : Nat) (data : Word) (captureInTick : Bool) : State :=
  if s.eyepiece.drBusy then s
  else
    let off := addr / 4 * 4
    let t := ({ s with eyepiece := { s.eyepiece with drAddr := addr, drOp := op } } : State)
    if op = 1 then (if off < 0x400000 then t.eyeRead off captureInTick else t.eyePlate off false 0)
    else if op = 2 then (if off < 0x400000 then t.writeOffset .eyepiece off data else t.eyePlate off true data)
    else t

/-! ## The commands -/

/-- WCS_READ (04 R235): a read of WCS_D0 to WCS_D4; the Eyepiece's is quiet (19 R915). -/
def execWcsRead (e : Fin 12) (i : Fin 5) (o : Origin) (s : State) : Host.Outcome State Fault Refusal :=
  .next (s.readBy o (o == .eyepiece) false (WCS_D e i))

/-- CAPTURE_READ (07 R387): a read of TMR_CAPRn or TMR_CAPFn on the host slave port; `captureInTick` when a capture to the register
occurs in the tick. -/
def execCaptureRead (e : Fin 12) (n : Fin 4) (rising captureInTick : Bool) (s : State) : Host.Outcome State Fault Refusal :=
  .next (s.readBy .host false captureInTick (if rising then TMR_CAPR e n else TMR_CAPF e n))

/-- COUNTER_READ_CLEAR (00 R14): a read on the host slave port of a register with an RC field. -/
def execCounterReadClear (off : BitVec 24) (s : State) : Host.Outcome State Fault Refusal :=
  .next (s.readBy .host false false (s.keyAt off.toNat))

/-- CAP_W3_COMMIT (09 R478): a write of CAP_W3 of the slot at the index. -/
def execCapW3Commit (e : Fin 12) (o : Origin) (v : Word) (s : State) : Host.Outcome State Fault Refusal :=
  .next (s.writeKey o (CAP_W e (s.get (CAP_IDX.SLOT e)) 3) v)

/-- REGISTER_WRITE (00 R9): a write by a master at an offset of the host window. -/
def execRegisterWrite (off : BitVec 24) (o : Origin) (v : Word) (s : State) : Host.Outcome State Fault Refusal :=
  .next (s.writeOffset o (off.toNat / 4 * 4) v)

/-- HOST_TRANSACTION (21 R936): `meet` for a plate as in HOST_PLATE_ACCESS; for a capture register it is not `alone` when a capture to
it occurs in the tick. -/
def execHostTransaction (off : BitVec 24) (write burst : Bool) (be : BitVec 8) (data : List DWord) (meet : Meeting) (s : State) :
    Host.Outcome State Fault Refusal :=
  .next (s.hostTransaction off.toNat write burst be.toNat data meet)

/-- EYE_DR_UPDATE (19 R890, 21 R953): `pwr` is DBG_PWR; beside the data, whether a capture
falls in the tick (03 R167). -/
def execEyeDrUpdate (pwr : Bool) (op : BitVec 2) (addr : BitVec 24) (data : Word × Bool) (s : State) : Host.Outcome State Fault Refusal :=
  .next (if pwr then s.debugPower.updateDr op.toNat addr.toNat data.1 data.2 else s)

/-- LIVE_READ (19 R916): a read through EYE_DR with LIVE = 1, and whether a capture falls in its tick (03 R167). -/
def execLiveRead (off : BitVec 24 × Bool) (s : State) : Host.Outcome State Fault Refusal :=
  .next (if s.dbgOn && s.on EYE_CTL.LIVE && !s.eyepiece.drBusy then s.liveRead (off.1.toNat / 4 * 4) off.2 else s)

end Sys2Proof.Machine
end

