-- ==== Sys2Proof/Machine/Verifier.lean ====
section
/-! DEFINITION. The verifier (14 R727 to R734, 16 R814, 18 R873 and R874): the response bound of every flow of a set, by exact integer
arithmetic. Durations are in ticks of 1.25 ns unless a name says otherwise. -/

namespace Sys2Proof.Machine

/-! ## Conversion to ticks (R727) -/

/-- A duration of n ns, rounded up. -/
def nsTicks (n : Nat) : Nat := (4 * n + 4) / 5

/-- A duration of x tenths of ns, rounded up. -/
def tenthTicks (x : Nat) : Nat := (2 * x + 24) / 25

/-- Ticks as ns, rounded up (`ADM_FBOUND`). -/
def ticksNs (t : Nat) : Nat := (5 * t + 3) / 4

/-- A quotient rounded up. -/
def divUp (a b : Nat) : Nat := (a + b - 1) / b

/-! ## PLATFORM and ANNOT records (R696, R708) -/

/-- Field [hi:lo] of word i of the PLATFORM record. -/
def State.platformField (s : State) (i hi lo : Nat) : Nat := fieldOf (s.chart.platform.getD i 0) hi lo

def State.bulkLat (s : State) : Nat := s.platformField 0 31 0
def State.macRx (s : State) : Nat := s.platformField 1 15 0
def State.mtu (s : State) : Nat := s.platformField 1 31 16
def State.hostDuty (s : State) : Nat := s.platformField 2 7 0
def State.spread (s : State) : Nat := s.platformField 2 11 8

/-- Field [hi:lo] of word i of an annotation. -/
def annotField (a : List Word) (i hi lo : Nat) : Nat := fieldOf (a.getD i 0) hi lo

def annotIndex (a : List Word) : Nat := annotField a 0 11 0
def annotEng (a : List Word) : Nat := annotField a 0 15 12
def annotEntry (a : List Word) : Nat := annotField a 0 28 16
def annotC (a : List Word) : Nat := annotField a 1 23 0
def annotNbulk (a : List Word) : Nat := annotField a 1 31 24
def annotDuty (a : List Word) : Nat := annotField a 2 7 0
def annotHold (a : List Word) : Nat := annotField a 2 23 8
def annotCx (a : List Word) : Nat := annotField a 3 23 0

/-- DUTY_e: the largest DUTY among the annotations of engine e. -/
def State.engineDuty (s : State) (e : Nat) : Nat :=
  ((s.chart.annots.filter fun a => annotEng a == e).map annotDuty).foldl Nat.max 0

/-- Bk_e: the largest HOLD among them. -/
def State.engineHold (s : State) (e : Nat) : Nat :=
  ((s.chart.annots.filter fun a => annotEng a == e).map annotHold).foldl Nat.max 0

/-! ## Fields of a flow's record (R709) -/

def State.flowPolice (s : State) (f : Nat) : Bool := bitAt (s.flowWord f 0) 21
def State.flowSurv (s : State) (f : Nat) : Bool := bitAt (s.flowWord f 0) 22
def State.flowDeadline (s : State) (f : Nat) : Nat := (s.flowWord f 3).toNat
def State.flowT (s : State) (f : Nat) : Nat := (s.flowWord f 4).toNat
def State.flowB (s : State) (f : Nat) : Nat := fieldOf (s.flowWord f 5) 15 0
def State.flowLmin (s : State) (f : Nat) : Nat := fieldOf (s.flowWord f 6) 15 0
def State.flowLmax (s : State) (f : Nat) : Nat := fieldOf (s.flowWord f 6) 31 16
def State.flowJin (s : State) (f : Nat) : Nat := (s.flowWord f 7).toNat

/-- The number of steps. -/
def State.flowStepCount (s : State) (f : Nat) : Nat := fieldOf (s.flowWord f 0) 19 18 + 1

def State.stepEng (s : State) (f i : Nat) : Nat := fieldOf (s.flowWord f (8 + i)) 3 0
def State.stepLvl (s : State) (f i : Nat) : Nat := fieldOf (s.flowWord f (8 + i)) 5 4
def State.stepVline (s : State) (f i : Nat) : Nat := fieldOf (s.flowWord f (8 + i)) 11 6
def State.stepAnn (s : State) (f i : Nat) : Nat := fieldOf (s.flowWord f (8 + i)) 23 12

/-- A 24-bit field of a flow table entry; what it holds of a number that does not fit is free (log entry 67). -/
def bucketField (v : Nat) : Nat := if v < 2 ^ 24 then v else (Config.wideBucket v).toNat

/-- RATE and BURST of the acceptance entry (R716). -/
def State.flowRate (s : State) (f : Nat) : Nat := bucketField (divUp (s.flowLmax f * 1000000) (s.flowT f))
def State.flowBurst (s : State) (f : Nat) : Nat :=
  bucketField (s.flowB f * s.flowLmax f + divUp (s.flowLmax f * 1000000) (s.flowT f))

/-- The envelope interval in ticks, less the largest down-spread (R727). -/
def State.flowInterval (s : State) (f : Nat) : Nat := s.flowT f * (400 - s.spread) / 500

/-! ## Arrival envelopes (R728) -/

/-- η of flow f in a window of w ticks, none if it has no bound. -/
def State.eta (s : State) (f w : Nat) : Option Nat :=
  match s.flowSrck f with
  | 0 => if s.flowLmin f = 0 then none
    else some ((s.flowBurst f + s.flowRate f * divUp w 800000) / s.flowLmin f)
  | 1 => some (1 + w / (s.get (OCC_THR.HOLD (s.flowSrcobj f)) * 10))
  | _ => if s.flowInterval f = 0 then none else some (s.flowB f + (w + nsTicks (s.flowJin f)) / s.flowInterval f)

/-- ηx of flow f: the items carried best-effort. -/
def State.etaX (s : State) (f w : Nat) : Nat :=
  if s.flowSrck f = 0 ∧ ¬ s.flowPolice f then 1 + 25 * w / (16 * (s.flowLmin f + 20) * s.bitTenths (s.flowSrcobj f)) else 0

/-! ## Plate service (R728, R729) -/

/-- a_k of a plate. -/
def State.plateDuty (s : State) (k : Nat) : Nat :=
  let c := s.get (PLT_OWN.OWNER k)
  if c = 1 then s.hostDuty else if 0x10 ≤ c ∧ c ≤ 0x1B then s.engineDuty (c - 0x10) else 0

/-- W_k(n), none if it has no bound. -/
def State.waitWords (s : State) (k n : Nat) : Option Nat :=
  let a := s.plateDuty k
  if 64 ≤ a then none else some (n + a * divUp n (64 - a))

/-- The plate of a queue's ring, and of a pool's buffers. -/
def State.ringPlate (s : State) (q : Nat) : Nat := s.get (QM_QRING.BASE q) / 0x10000
def State.poolPlate (s : State) (p : Nat) : Nat := s.get (QM_PBASE.BASE p) / 0x10000

/-- Wring(4) of a queue. -/
def State.ringWait (s : State) (q : Nat) : Option Nat := s.waitWords (s.ringPlate q) 4

/-- Rule r of port p copies into a pool in plate k: an enabled rule, or the rule of a flow. -/
def State.ruleFeeds (s : State) (p k r : Nat) : Bool :=
  decide (2 ≤ s.get (FPT_FRW5.ACT p r)) && s.poolPlate (s.get (FPT_FRW5.POOL p r)) == k &&
    (s.on (FPT_FRW4.EN p r) || !(s.flowsOfRule p r).isEmpty)

/-- ρ_k in units of 1/128000 word per tick. -/
def State.rho (s : State) (k : Nat) : Nat :=
  (((List.range 8).filter fun p => (List.range 256).any (s.ruleFeeds p k)).map fun p => 25000 / s.bitTenths p).foldl (· + ·) 0

/-- R729 for plate k. -/
def State.drains (s : State) (k : Nat) : Bool :=
  decide (s.plateDuty k ≤ 64) && decide (s.rho k ≤ 2000 * (64 - s.plateDuty k))

/-- 1 + ⌈ρ_k·a_k⌉: the words that the last word of an item may wait behind, with itself. -/
def State.copyWords (s : State) (k : Nat) : Nat := 1 + divUp (s.rho k * s.plateDuty k) 128000

/-! ## Terms (R730) -/

/-- A term of the response bound: its code ("Verifier terms"), the engine or port it concerns, its largest and its smallest
value. -/
structure BoundTerm where
  code : Nat
  arg : Option Nat
  most : Nat
  least : Nat
  deriving DecidableEq, Repr

/-- A term that fails: the flow, the code, and the engine or port. -/
structure Failure where
  flow : Nat
  code : Nat
  arg : Option Nat
  deriving DecidableEq, Repr

/-- Who acts for an engine, and which annotation a step of a flow has. -/
structure Plan where
  acts : Nat → Nat
  annot : Nat → Nat → Option (List Word)

/-- The annotation that a step names. -/
def State.stepAnnot (s : State) (f i : Nat) : Option (List Word) :=
  s.chart.annots.find? fun a => annotIndex a == s.stepAnn f i

/-- The cluster as it stands. -/
def State.plan (s : State) : Plan := { acts := s.engMap, annot := s.stepAnnot }

/-- The cluster with the steps of engine e on engine sp (R733). -/
def State.planMoved (s : State) (e sp : Nat) : Plan :=
  { acts := fun x => if s.engMap x = e then sp else s.engMap x, annot := s.stepAnnot }

/-- The same with the annotations of sp for its paths (15 R767). -/
def State.planUpgrade (s : State) (e sp : Nat) : Plan :=
  { acts := fun x => if s.engMap x = e then sp else s.engMap x
    annot := fun f i => (s.stepAnnot f i).bind fun a =>
      if s.engMap (s.stepEng f i) = e then s.chart.annots.find? fun b => annotEng b == sp && annotEntry b == annotEntry a
      else some a }

/-- A term from its largest value, if that has a bound. -/
def boundTerm (f code : Nat) (arg : Option Nat) (most : Option Nat) (least : Nat) : Except Failure BoundTerm :=
  match most with
  | some m => .ok { code, arg, most := m, least }
  | none => .error { flow := f, code, arg }

/-- A sum that has a bound if both parts have. -/
def addBound (a b : Option Nat) : Option Nat :=
  match a, b with
  | some x, some y => some (x + y)
  | _, _ => none

/-- The source term of flow f. Its smallest value has the shortest item, no wait and, for an Occultation channel, the shortest
frame clock period and no delay of computation (log entry 68). -/
def State.sourceTerm (s : State) (f : Nat) : Except Failure BoundTerm :=
  let o := s.flowSrcobj f
  let ring := (s.ringWait (s.flowInq f)).map (2 + ·)
  match s.flowSrck f with
  | 0 =>
    let k := s.poolPlate (s.get (FPT_FRW5.POOL o (s.flowRule f)))
    let line (n : Nat) := nsTicks s.macRx + tenthTicks (8 * n * s.bitTenths o)
    if s.drains k then
      boundTerm f 1 (some o) (addBound ((s.waitWords k (s.copyWords k)).map (line (s.flowLmax f) + ·)) ring)
        (line (s.flowLmin f) + 7)
    else .error { flow := f, code := 2, arg := some o }
  | 1 =>
    let n := if s.on (OCC_CHCFG.SNAP o) then 24 else 19
    let lat := s.get (OCC_ADCLAT.LAT o)
    boundTerm f 1 none (ring.map (divUp (16 * (25 * n + 200) + lat) 20 + ·)) ((200 * n + lat) / 20 + 6)
  | 2 => .ok { code := 1, arg := none, most := 2, least := 2 }
  | _ =>
    let words (n : Nat) := nsTicks (4096 * (divUp n 64 - 1) + 356)
    let k := s.poolPlate (s.get (CST_CHCFG.POOL o))
    boundTerm f 1 none (addBound ((s.waitWords k 8).map (words (s.flowLmax f) + ·)) ring) (words (s.flowLmin f) + 14)

/-- The lines routed to vector line v of engine e. -/
def State.linesTo (s : State) (e v : Nat) : List Nat :=
  (List.range 256).filter fun n => (s.get (EVC_ROUTE.TMASK n)).testBit e && s.get (EVC_ROUTE.VLINE n) == v

/-- D + Ms of step i of flow f (R731). -/
def State.stepFixed (s : State) (p : Plan) (f i : Nat) : Nat :=
  let e := s.stepEng f i
  let d := if s.on (ENG_CTL.PRECISE (s.engMap e)) then 25 else 16
  let m := if (s.linesTo e (s.stepVline f i)).any fun n => s.on (EVC_ROUTE.MOD n) then
      8 * Nat.max 1 (s.get (EVC_ENG.MINT (p.acts e)))
    else 0
  d + m

/-- The term of step i of flow f whose busy period is w. The manual bounds a path from above only: its smallest value is free
(log entry 68). -/
def State.stepTerm (s : State) (p : Plan) (f i w : Nat) : BoundTerm :=
  let most := s.stepFixed p f i + w
  { code := 3, arg := some (s.stepEng f i), most
    least := Nat.min most (Config.leastStep ((p.annot f i).getD [])).toNat }

/-- The queues from the engine of step i to that of the next, whose watermark dispatches it. -/
def State.hopQueues (s : State) (f i : Nat) : List Nat :=
  (List.range 1024).filter fun q =>
    s.get (QM_QCFG.PROD q) == 0x10 + s.stepEng f i && s.get (QM_QCFG.CONS q) == 0x10 + s.stepEng f (i + 1) &&
      s.on (QM_QCFG.WEN q) && (s.linesTo (s.stepEng f (i + 1)) (s.stepVline f (i + 1))).contains (192 + s.get (QM_QCFG.WLINE q))

/-- The binding of the authentication unit between step i and the next (18 R874): its requests come from the engine of step i, and
the watermark of its results dispatches the next step. -/
def State.hopBinding (s : State) (f i : Nat) : Option Nat :=
  (List.range 8).find? fun n =>
    let req := s.get (SEC_AUTHQ.REQQ n)
    let res := s.get (SEC_AUTHQ.RESQ n)
    s.on (SEC_AUTHQ.EN n) && s.get (QM_QCFG.PROD req) == 0x10 + s.stepEng f i &&
      s.get (QM_QCFG.CONS res) == 0x10 + s.stepEng f (i + 1) && s.on (QM_QCFG.WEN res) &&
      (s.linesTo (s.stepEng f (i + 1)) (s.stepVline f (i + 1))).contains (192 + s.get (QM_QCFG.WLINE res))

/-- The engines of step i and the next hold stages of one quad. -/
def State.hopSlot (s : State) (p : Plan) (f i : Nat) : Bool :=
  let a := p.acts (s.stepEng f i)
  let b := p.acts (s.stepEng f (i + 1))
  a / 4 == b / 4 && (s.stageOf (s.engMap (s.stepEng f i))).isSome && (s.stageOf (s.engMap (s.stepEng f (i + 1)))).isSome

/-- S of 18 R873 for n bytes under the key of a binding. -/
def State.authTicks (s : State) (n bytes : Nat) : Nat :=
  if s.get (SEC_SLOT.USAGE (s.get (SEC_AUTHQ.SLOT n))) = 1 then 64 + 128 * (divUp (bytes + 9) 64 + 1) else 64 + 2 * divUp bytes 16

/-- The plate of the buffers of flow f's items at a binding: those of its source's pool, else that of the request ring (log entry
68). -/
def State.authPlate (s : State) (f n : Nat) : Nat :=
  match s.flowSrck f with
  | 0 => s.poolPlate (s.get (FPT_FRW5.POOL (s.flowSrcobj f) (s.flowRule f)))
  | 3 => s.poolPlate (s.get (CST_CHCFG.POOL (s.flowSrcobj f)))
  | _ => s.ringPlate (s.get (SEC_AUTHQ.REQQ n))

/-- The largest of some bounds. -/
def maxBounds : List (Option Nat) → Option Nat
  | [] => some 0
  | a :: r =>
    match a, maxBounds r with
    | some x, some y => some (Nat.max x y)
    | _, _ => none

/-- The term of the hop after step i, whose wait for the authentication unit is w. A hop for which the state shows no path has no
bound (log entry 68). -/
def State.hopTerm (s : State) (p : Plan) (f i w : Nat) : Except Failure BoundTerm :=
  let arg := some (s.stepEng f i)
  match s.hopQueues f i, s.hopBinding f i with
  | [], some n =>
    boundTerm f 4 arg ((addBound (s.ringWait (s.get (SEC_AUTHQ.REQQ n))) (s.ringWait (s.get (SEC_AUTHQ.RESQ n)))).map (4 + w + ·))
      (12 + s.authTicks n (s.flowLmin f) + divUp (s.flowLmin f) 8 + 5)
  | [], none => if s.hopSlot p f i then .ok { code := 4, arg, most := 1, least := 1 } else .error { flow := f, code := 4, arg }
  | q :: qs, _ => boundTerm f 4 arg ((maxBounds ((q :: qs).map s.ringWait)).map (2 + ·)) 6

/-! ## Busy periods (R731, R732, 18 R874) -/

/-- Busy periods found so far, by 4·flow + step, and waits for the authentication unit of the hops after the steps. -/
structure Periods where
  steps : Table Nat
  auths : Table Nat
  deriving DecidableEq, Repr

def Periods.step (x : Periods) (f i : Nat) : Nat := tget (fun _ => 0) x.steps (4 * f + i)
def Periods.auth (x : Periods) (f i : Nat) : Nat := tget (fun _ => 0) x.auths (4 * f + i)

/-- The terms of flow f before step i. -/
def State.termsBefore (s : State) (p : Plan) (x : Periods) (f : Nat) : Nat → Except Failure (List BoundTerm)
  | 0 => (s.sourceTerm f).map fun t => [t]
  | i + 1 =>
    match s.termsBefore p x f i, s.hopTerm p f i (x.auth f i) with
    | .ok ts, .ok h => .ok (ts ++ [s.stepTerm p f i (x.step f i), h])
    | .error e, _ => .error e
    | _, .error e => .error e

/-- The terms of flow f up to its last step. -/
def State.termsOf (s : State) (p : Plan) (x : Periods) (f : Nat) : Except Failure (List BoundTerm) :=
  let i := s.flowStepCount f - 1
  (s.termsBefore p x f i).map fun ts => ts ++ [s.stepTerm p f i (x.step f i)]

/-- The spread of some terms. -/
def spreadOf (ts : List BoundTerm) : Nat := (ts.map fun t => t.most - t.least).foldl (· + ·) 0

/-- J of step i of flow f: the spread of its earlier terms. -/
def State.jitter (s : State) (p : Plan) (x : Periods) (f i : Nat) : Nat :=
  match s.termsBefore p x f i with
  | .ok ts => spreadOf ts
  | .error _ => 0

/-- J of flow f at the hop after step i. -/
def State.hopJitter (s : State) (p : Plan) (x : Periods) (f i : Nat) : Nat :=
  match s.termsBefore p x f i with
  | .ok ts => spreadOf (ts ++ [s.stepTerm p f i (x.step f i)])
  | .error _ => 0

/-- A sum of bounds. -/
def sumBounds (l : List (Option Nat)) : Option Nat := l.foldl addBound (some 0)

/-- The bulk waits of a path in ticks: none with no bound on them. -/
def State.bulkTicks (s : State) (a : List Word) : Option Nat :=
  if annotNbulk a = 0 then some 0 else if s.bulkLat = 0xFFFFFFFF then none else some (annotNbulk a * nsTicks s.bulkLat)

/-- What step i of flow f contributes to a busy period of w. -/
def State.stepLoad (s : State) (p : Plan) (x : Periods) (f i w : Nat) : Option Nat :=
  match p.annot f i with
  | none => none
  | some a =>
    let v := w + s.jitter p x f i
    match s.eta f v, s.bulkTicks a with
    | some n, some b => some (n * (annotC a + b + 7) + s.etaX f v * (annotCx a + 7))
    | _, _ => none

/-- The steps of some flows, each its flow and number. -/
def State.stepsOf (s : State) (fs : List Nat) : List (Nat × Nat) :=
  fs.flatMap fun f => (List.range (s.flowStepCount f)).map fun i => (f, i)

/-- Bk of the engine that acts for e: of every engine whose work it has (log entry 68). -/
def State.holdOf (s : State) (p : Plan) (e : Nat) : Nat :=
  (((List.range 12).filter fun y => p.acts y == p.acts e).map s.engineHold).foldl Nat.max 0

/-- The right side of R731 for level l on engine e. -/
def State.busySum (s : State) (p : Plan) (x : Periods) (fs : List Nat) (e l w : Nat) : Option Nat :=
  sumBounds (some (s.holdOf p e) ::
    ((s.stepsOf fs).filter fun t => p.acts (s.stepEng t.1 t.2) == p.acts e && decide (l ≤ s.stepLvl t.1 t.2)).map fun t =>
      s.stepLoad p x t.1 t.2 w)

/-- The least solution of w = g w from a start, none once it exceeds a limit. -/
def leastSolution (g : Nat → Option Nat) (limit : Nat) : Nat → Nat → Option Nat
  | 0, _ => none
  | n + 1, w =>
    if limit < w then none
    else match g w with
      | none => none
      | some v => if v = w then some w else leastSolution g limit n v

/-- DEADLINE of flow f in ticks. -/
def State.deadlineTicks (s : State) (f : Nat) : Nat := nsTicks (s.flowDeadline f)

/-- w* of step i of flow f (R731, R732). -/
def State.busyPeriod (s : State) (p : Plan) (x : Periods) (fs : List Nat) (f i : Nat) : Except Failure Nat :=
  let e := s.stepEng f i
  match leastSolution (s.busySum p x fs e (s.stepLvl f i)) (s.deadlineTicks f) (s.deadlineTicks f + 2) (s.holdOf p e) with
  | some w => .ok w
  | none => .error { flow := f, code := 3, arg := some e }

/-- What the hop after step i of flow f contributes to the authentication unit's busy period (18 R874). -/
def State.authLoad (s : State) (p : Plan) (x : Periods) (f i w : Nat) : Option Nat :=
  match s.hopQueues f i, s.hopBinding f i with
  | [], some n =>
    match s.eta f (w + s.hopJitter p x f i), s.waitWords (s.authPlate f n) (divUp (s.flowLmax f) 8 + 5) with
    | some c, some k => some (c * (s.authTicks n (s.flowLmax f) + k))
    | _, _ => none
  | _, _ => some 0

/-- The hops of some flows. -/
def State.hopsOf (s : State) (fs : List Nat) : List (Nat × Nat) :=
  fs.flatMap fun f => (List.range (s.flowStepCount f - 1)).map fun i => (f, i)

/-- The hop after step i of flow f goes through a binding. -/
def State.hopsAuth (s : State) (f i : Nat) : Bool := (s.hopQueues f i).isEmpty && (s.hopBinding f i).isSome

/-- wA for the hop after step i of flow f. -/
def State.authPeriod (s : State) (p : Plan) (x : Periods) (fs : List Nat) (f i : Nat) : Except Failure Nat :=
  if s.hopsAuth f i then
    match leastSolution (fun w => sumBounds ((s.hopsOf fs).map fun t => s.authLoad p x t.1 t.2 w)) (s.deadlineTicks f)
      (s.deadlineTicks f + 2) 0 with
    | some w => .ok w
    | none => .error { flow := f, code := 4, arg := some (s.stepEng f i) }
  else .ok 0

/-- Periods of some steps from those of the round before. -/
def collectPeriods (g : Nat → Nat → Except Failure Nat) : List (Nat × Nat) → Except Failure (Table Nat)
  | [] => .ok []
  | (f, i) :: r =>
    match g f i, collectPeriods g r with
    | .error e, _ => .error e
    | _, .error e => .error e
    | .ok w, .ok t => .ok (tset (fun _ => 0) t (4 * f + i) w)

/-- One round: every busy period under the spreads that the last round left. -/
def State.round (s : State) (p : Plan) (fs : List Nat) (x : Periods) : Except Failure Periods :=
  match collectPeriods (s.busyPeriod p x fs) (s.stepsOf fs), collectPeriods (s.authPeriod p x fs) (s.hopsOf fs) with
  | .ok a, .ok b => .ok { steps := a, auths := b }
  | .error e, _ => .error e
  | _, .error e => .error e

/-- Rounds until no busy period changes: the least common solution, for the spreads depend on the busy periods (log entry 68).
Each round but the last raises some period, and each period is at most a deadline. -/
def State.rounds (s : State) (p : Plan) (fs : List Nat) : Nat → Periods → Except Failure Periods
  | 0, x => .ok x
  | n + 1, x =>
    match s.round p fs x with
    | .error e => .error e
    | .ok y => if y = x then .ok x else s.rounds p fs n y

/-- The first term without a bound that does not depend on busy periods, and the first path with bulk waits that have none. -/
def State.staticCheck (s : State) (p : Plan) : List Nat → Except Failure Unit
  | [] => .ok ()
  | f :: fs =>
    match s.termsOf p { steps := [], auths := [] } f with
    | .error e => .error e
    | .ok _ =>
      match (List.range (s.flowStepCount f)).find? fun i => ((p.annot f i).bind s.bulkTicks).isNone with
      | some i => .error { flow := f, code := if (p.annot f i).isNone then 3 else 9, arg := some (s.stepEng f i) }
      | none => s.staticCheck p fs

/-- Every busy period of some flows. -/
def State.periods (s : State) (p : Plan) (fs : List Nat) : Except Failure Periods :=
  match s.staticCheck p fs with
  | .error e => .error e
  | .ok _ => s.rounds p fs (2 ^ 48) { steps := [], auths := [] }

/-! ## Destination terms (R730) -/

/-- The state with the gate list that a port will have in force: the active one, or the pending one while none is. -/
def State.gatesAhead (s : State) (p : Nat) : State :=
  if (s.port p).gates.len = 0 then s.setPort p { s.port p with gates := (s.port p).nextGates } else s

/-- The windows of a class that begin in one cycle, each whole. -/
def State.wholeWindows (s : State) (p c : Nat) : List (Nat × Nat) :=
  let n := (s.port p).gates.cyc
  let wraps := (s.cycleSpans p c).any fun x => x.2 == n
  (s.windows p c).filter fun x => decide (x.1 < n) && !(wraps && x.1 == 0)

/-- The longest interval between the last start that a window allows and the first of the next, in tenths of ns: `first` is the
start of the first window, in the next cycle. -/
def longestGap (occ first : Nat) : List (Nat × Nat) → Nat
  | [] => 0
  | [(_, b)] => 10 * first - (10 * b - occ)
  | (_, b) :: (c, d) :: r => Nat.max (10 * c - (10 * b - occ)) (longestGap occ first ((c, d) :: r))

/-- Gc for frames of n bytes in class c on port p, none if no such frame may ever start. -/
def State.gateTerm (s : State) (p c n : Nat) : Option Nat :=
  let t := s.gatesAhead p
  if !s.on (FPT_GCTL.EN p) then some 0
  else if (t.port p).gates.len = 0 then none
  else if t.alwaysOpen p c then some 0
  else
    let occ := (64 + 8 * n) * s.bitTenths p
    match (t.wholeWindows p c).filter fun w => decide (occ ≤ 10 * (w.2 - w.1)) with
    | [] => none
    | (a, b) :: r => some (tenthTicks (longestGap occ (a + (t.port p).gates.cyc) ((a, b) :: r)))

/-- Switch-core frames of class c may leave port p: the egress path forwards some frame, and the switch core sends frames of that
class, which is fixed outside the cluster (log entry 68). -/
def State.coreFrames (s : State) (p c : Nat) : Bool :=
  Config.switchSends p c &&
    (s.get (FPT_CTL.DEFE p) == 0 || (List.range 256).any fun r =>
      s.on (FPT_FRW4.EN p r) && s.on (FPT_FRW4.DIR p r) && (s.get (FPT_FRW5.ACT p r) == 0 || s.get (FPT_FRW5.ACT p r) == 2))

/-- Classes a and b are open on port p at one time. -/
def State.openTogether (s : State) (p a b : Nat) : Bool :=
  let t := s.gatesAhead p
  !s.on (FPT_GCTL.EN p) || (t.cycleSpans p a).any fun x => (t.cycleSpans p b).any fun y => decide (x.1 < y.2) && decide (y.1 < x.2)

/-- X of R730 for class c on port p. -/
def State.crossTerm (s : State) (p c : Nat) : Nat :=
  if (List.range 8).any fun h => decide (c < h) && s.coreFrames p h && s.openTogether p h c then
    tenthTicks ((s.mtu + 20) * 8 * s.bitTenths p)
  else 0

/-- Flow j is queued on port p in class c or above: its class queue is the port's, or one that the port also emits (11 R609). -/
def State.queuedOn (s : State) (p c j : Nat) : Bool :=
  s.flowDstk j == 1 && decide (c ≤ s.flowDcls j) && (s.leaderSet (s.flowPort j) (s.flowDcls j)).testBit p

/-- Hc in tenths of ns for a bound of r ticks. -/
def State.lineTenths (s : State) (fs : List Nat) (p c r : Nat) : Option Nat :=
  sumBounds ((fs.filter (s.queuedOn p c)).map fun j => (s.eta j r).map fun n => n * ((s.flowLmax j + 20) * 8 * s.bitTenths p))

/-- The parts of the destination term on port p that do not depend on the bound, for flow f in class c. A flow that its class queue
does not take passes the switch core through the injection queue (log entry 68). -/
def State.portBase (s : State) (f p c : Nat) : Except Failure Nat :=
  let own := s.flowPort f
  let core := !s.on (FPT_CLS.EN own c) && s.on (FPT_INJ.EN own)
  let q := if core then s.get (FPT_INJ.QUEUE own) else s.get (FPT_CLS.QUEUE own c)
  let lim := s.get (FPT_SWLIM.LAT p c)
  let last := s.stepEng f (s.flowStepCount f - 1)
  let a := s.engineDuty last
  let words := divUp (s.flowLmax f) 8
  let buf := if 64 ≤ a then none else some (words + a * divUp words (64 - a))
  let fail : Except Failure Nat := .error { flow := f, code := 5, arg := some p }
  if core && lim == 0xFFFFF then .error { flow := f, code := 6, arg := some p }
  else if !core && !s.on (FPT_CLS.EN own c) then fail
  else if s.coreFrames p c && s.openTogether p c c then fail
  else match addBound (s.ringWait q) (addBound (s.gateTerm p c (s.flowLmax f)) buf) with
    | none => fail
    | some n => .ok (2 + n + s.crossTerm p c + tenthTicks ((64 + 8 * s.flowLmax f) * s.bitTenths p) +
        if core then nsTicks lim else 0)

/-- The destination term on port p of a flow whose earlier terms sum to n: the bound and Hc settle together. -/
def State.portTerm (s : State) (fs : List Nat) (f n p : Nat) : Except Failure Nat :=
  let c := s.flowDcls f
  match s.portBase f p c with
  | .error e => .error e
  | .ok b =>
    match leastSolution (fun r => (s.lineTenths fs p c r).map fun h => n + b + tenthTicks h) (s.deadlineTicks f)
      (s.deadlineTicks f + 2) (n + b) with
    | some r => .ok (r - n)
    | none => .error { flow := f, code := 5, arg := some p }

/-- The largest of the terms on some ports, with its port. -/
def largestTerm (g : Nat → Except Failure Nat) : List Nat → Except Failure (Nat × Nat)
  | [] => .ok (0, 0)
  | p :: ps =>
    match g p, largestTerm g ps with
    | .error e, _ => .error e
    | _, .error e => .error e
    | .ok m, .ok (k, q) => .ok (if k ≤ m then (m, p) else (k, q))

/-- The destination term of a flow whose earlier terms sum to n. -/
def State.destTerm (s : State) (fs : List Nat) (f n : Nat) : Except Failure BoundTerm :=
  if s.flowDstk f = 1 then
    match largestTerm (s.portTerm fs f n) ((List.range 8).filter (s.leaderSet (s.flowPort f) (s.flowDcls f)).testBit) with
    | .error e => .error e
    | .ok (m, p) => .ok { code := 5, arg := some p, most := m, least := m }
  else boundTerm f 5 none ((s.ringWait (s.flowDstobj f)).map (2 + ·)) 6

/-! ## Verdicts (R727, R733, R734) -/

/-- What the verifier finds of a flow: its bound, its largest term and its destination term, in ticks. -/
structure Verdict where
  flow : Nat
  bound : Nat
  largest : BoundTerm
  dest : Nat
  deriving DecidableEq, Repr

/-- The largest term of a bound; of equal ones the first. -/
def largestOf (ts : List BoundTerm) : BoundTerm :=
  ts.foldl (fun a b => if a.most < b.most then b else a) { code := 0, arg := none, most := 0, least := 0 }

/-- The bound of flow f. -/
def State.boundOf (s : State) (p : Plan) (x : Periods) (fs : List Nat) (f : Nat) : Except Failure Verdict :=
  match s.termsOf p x f with
  | .error e => .error e
  | .ok ts =>
    let n := (ts.map (·.most)).foldl (· + ·) 0
    match s.destTerm fs f n with
    | .error e => .error e
    | .ok d => .ok { flow := f, bound := n + d.most, largest := largestOf (ts ++ [d]), dest := d.most }

/-- The bounds of some flows, each within its deadline. -/
def State.boundsOf (s : State) (p : Plan) (x : Periods) (fs : List Nat) : List Nat → Except Failure (List Verdict)
  | [] => .ok []
  | f :: r =>
    match s.boundOf p x fs f with
    | .error e => .error e
    | .ok v =>
      if s.deadlineTicks f < v.bound then .error { flow := f, code := v.largest.code, arg := v.largest.arg }
      else (s.boundsOf p x fs r).map (v :: ·)

/-- The bounds of a set of flows under a plan. -/
def State.proves (s : State) (p : Plan) (fs : List Nat) : Except Failure (List Verdict) :=
  match s.periods p fs with
  | .error e => .error e
  | .ok x => s.boundsOf p x fs fs

/-- Flow f has a step on engine e. -/
def State.usesEngine (s : State) (e f : Nat) : Bool := (s.flowSteps f).any fun y => s.engMap y == e

/-- The failover term of flow f for engine e (R733): e's watchdog expires after 200 ticks for each count of its period, which a
watchdog that is off never does. -/
def State.survives (s : State) (p : Plan) (x : Periods) (fs : List Nat) (e f : Nat) : Bool :=
  match s.boundOf p x fs f with
  | .ok v => s.on (TMR_WDCTL.EN e) && decide (200 * s.get (TMR_WDPER.PER e) + 16000 + v.bound ≤ s.deadlineTicks f)
  | .error _ => false

/-- R733 for engine e. -/
def State.spareCheck (s : State) (fs : List Nat) (e : Nat) : Except Failure Unit :=
  let surv := fs.filter fun f => s.flowSurv f && s.usesEngine e f
  let lost (f : Nat) : Except Failure Unit := .error { flow := f, code := 8, arg := some e }
  match s.spareOf e with
  | none => match surv with
    | f :: _ => lost f
    | [] => .ok ()
  | some sp =>
    let p := s.planMoved e sp
    match s.periods p fs with
    | .error x => .error { flow := x.flow, code := 7, arg := some sp }
    | .ok x =>
      match surv.find? fun f => !s.survives p x fs e f with
      | some f => lost f
      | none => .ok ()

/-- R733 for some engines. -/
def State.spareChecks (s : State) (fs : List Nat) : List Nat → Except Failure Unit
  | [] => .ok ()
  | e :: es =>
    match s.spareCheck fs e with
    | .error x => .error x
    | .ok _ => s.spareChecks fs es

/-- The verification of a set of flows. Of several terms that fail, that of the flow that stands first in the set is named (log
entry 68). -/
def State.verify (s : State) (fs : List Nat) : Except Failure (List Verdict) :=
  match s.proves s.plan fs with
  | .error e => .error e
  | .ok vs =>
    match s.spareChecks fs (List.range 12) with
    | .error e => .error e
    | .ok _ => .ok vs

/-- The flows ACTIVE or WITHDRAWING. -/
def State.activeFlows (s : State) : List Nat := s.flowNumbers.filter fun f => s.flowState f == 2 || s.flowState f == 3

/-- The flows of a list admitted one after the other to those admitted already (R734): the admitted ones, and the failures of the
others. -/
def State.admitEach (s : State) (admitted : List Nat) : List Nat → List Nat × List (Nat × Failure)
  | [] => (admitted, [])
  | f :: fs =>
    match s.verify (f :: admitted) with
    | .ok _ => s.admitEach (admitted ++ [f]) fs
    | .error e => ((s.admitEach admitted fs).1, (f, e) :: (s.admitEach admitted fs).2)

/-- UPGRADE's proof (15 R767): every flow with the steps of e on sp. -/
def State.upgradeProven (s : State) (e sp : Nat) : Bool :=
  match s.proves (s.planUpgrade e sp) s.activeFlows with
  | .ok _ => true
  | .error _ => false

/-! ## Verdicts presented (`ADM_FSTATE`, `ADM_FBOUND`, `AST_OT4`) -/

/-- The verdict of a proved flow. -/
def State.putVerdict (s : State) (v : Verdict) : State :=
  let t := ((s.put (ADM_FSTATE.TERM v.flow) v.largest.code).put (ADM_FSTATE.REFUSED v.flow) 0).put (ADM_FSTATE.LASTRES v.flow) 0
  (t.setReg (ADM_FBOUND v.flow) (BitVec.ofNat 32 (Nat.min (ticksNs v.bound) 0xFFFFFFFF))).put (AST_OT4.DBUD v.flow)
    (Nat.min (ticksNs v.dest) 0xFFFFFF)

/-- Verdicts of some flows. -/
def State.putVerdicts (s : State) : List Verdict → State
  | [] => s
  | v :: vs => (s.putVerdict v).putVerdicts vs

/-- The verdict of a refused flow. -/
def State.putRefusal (s : State) (f : Nat) (e : Failure) : State :=
  (((s.put (ADM_FSTATE.TERM f) e.code).put (ADM_FSTATE.REFUSED f) 1).put (ADM_FSTATE.LASTRES f) 0x0A).setReg (ADM_FBOUND f) 0xFFFFFFFF

/-- Verdicts of some refused flows. -/
def State.putRefusals (s : State) : List (Nat × Failure) → State
  | [] => s
  | (f, e) :: r => (s.putRefusal f e).putRefusals r

/-- A verification's duration in µs: free, at most 20 ms (R715). -/
def State.putTime (s : State) : State :=
  let f := s.fresh 32
  f.2.setReg ADM_VTIME (BitVec.ofNat 32 (f.1.toNat % 20001))

end Sys2Proof.Machine
end

