-- ==== Sys2Proof/Machine/Image.lean ====
section
/-! DEFINITION. The chart image (14 R690 to R709): its layout, and the checks that concern the image alone. -/

namespace Sys2Proof.Machine

/-! ## Result codes (R738) -/

def resOk : Nat := 0x00
def resDenied : Nat := 0x01
def resUnknown : Nat := 0x02
def resBadarg : Nat := 0x03
def resState : Nat := 0x04
def resFormat : Nat := 0x05
def resSignature : Nat := 0x06
def resTarget : Nat := 0x07
def resLifecycle : Nat := 0x08
def resConflict : Nat := 0x09
def resUnproven : Nat := 0x0A
def resCapacity : Nat := 0x0B
def resNoflow : Nat := 0x0C
def resSource : Nat := 0x0D
def resSlot : Nat := 0x0E
def resToken : Nat := 0x0F
def resNorec : Nat := 0x10

/-- A failure of a load, an amendment or a check: its result, and the section table index (0xFF for header and trailer) and byte
offset of the record or field that failed; none where the failure lies in no one of them (log entry 66). `refused` is the number of
flows refused, none where an admitted flow is no longer proven. -/
structure LoadError where
  result : Nat
  sect : Option Nat
  offset : Option Nat
  refused : Option Nat := some 0
  deriving DecidableEq, Repr

/-- The fault code that goes with a result (R713). -/
def LoadError.fcode (e : LoadError) : Nat :=
  if e.result = resSignature then 0x0F else if e.result = resConflict then 0x10 else 0

/-- A failure that lies in no one record. -/
def LoadError.global (result : Nat) : LoadError := { result, sect := none, offset := none }

/-- The first failure of a list of checks. -/
def firstError : List (Bool × LoadError) → Except LoadError Unit
  | [] => .ok ()
  | (bad, e) :: r => if bad then .error e else firstError r

/-! ## The image -/

/-- The number in n bytes at an offset, least significant byte first (R690). -/
def imgNum (img : List Byte) (o n : Nat) : Nat := ofLeBytes ((img.drop o).take n)

/-- The word at an offset. -/
def imgWord (img : List Byte) (o : Nat) : Word := BitVec.ofNat 32 (imgNum img o 4)

/-- n words from an offset. -/
def imgWords (img : List Byte) (o n : Nat) : List Word := (List.range n).map fun i => imgWord img (o + 4 * i)

def imgTotlen (img : List Byte) : Nat := imgNum img 8 4
def imgNsect (img : List Byte) : Nat := imgNum img 0xC 2
def imgStrict (img : List Byte) : Bool := bitAt (imgWord img 0xC) 16
def imgAmend (img : List Byte) : Bool := bitAt (imgWord img 0xC) 17
def imgChartid (img : List Byte) : Word := imgWord img 0x10
def imgVersion (img : List Byte) : Word := imgWord img 0x14

/-- A failure in the header or the trailer. -/
def headError (result offset : Nat) : LoadError := { result, sect := some 0xFF, offset := some offset }

/-- Step 2 of R713 (R690, R691). -/
def State.headerChecks (s : State) (img : List Byte) (amend : Bool) : List (Bool × LoadError) :=
  let w (o : Nat) := imgWord img o
  [(decide (img.length < 64) || w 0 != 0x54484349, headError resFormat 0x00),
   (w 4 != 0x00400001, headError resFormat 0x04),
   (imgTotlen img % 8 != 0 || decide (img.length < imgTotlen img + 136), headError resFormat 0x08),
   (imgNsect img == 0 || decide (64 < imgNsect img) || imgAmend img != amend || fieldOf (w 0xC) 31 18 != 0, headError resFormat 0x0C),
   (fieldOf (w 0x1C) 31 18 != 0, headError resFormat 0x1C),
   (((img.drop 0x20).take 0x20).any fun b => b != 0, headError resFormat 0x20),
   (w 0x18 != s.reg CLU_ID, headError resTarget 0x18),
   (decide (s.get CLU_STEP.ROMVER < fieldOf (w 0x1C) 15 0), headError resTarget 0x1C)]

/-- Step 3. -/
def State.lifeCheck (s : State) (img : List Byte) : Bool × LoadError :=
  let w := imgWord img 0x1C
  let lcs := s.get SEC_LCS.STATE
  (!((lcs == 2 && bitAt w 16) || (lcs == 3 && bitAt w 17)), headError resLifecycle 0x1C)

/-- Word i of a hash, in hash byte order (`SEC_KHASHi`, `CHT_HASHi`): its first byte is the hash's most significant. -/
def hashWord (h : BitVec 256) (i : Nat) : Word := BitVec.ofNat 32 (ofLeBytes (((leBytes 32 h.toNat).reverse.drop (4 * i)).take 4))

/-- A hash is the chart-signing key hash. -/
def State.keyHashIs (s : State) (h : BitVec 256) : Bool := (List.range 8).all fun i => s.reg (SEC_KHASH i) == hashWord h i

/-- Step 4 (R694, R695). -/
def State.trailerChecks (s : State) (img : List Byte) : List (Bool × LoadError) :=
  let n := imgTotlen img
  let t := img.drop n
  [(imgWord img (n + 0x80) != 0x4C494154, headError resSignature (n + 0x80)),
   (imgNum img (n + 0x84) 4 != n, headError resSignature (n + 0x84)),
   (!s.keyHashIs (sha256 (t.take 64)), headError resSignature n),
   (!signatureGood (t.take 64) (img.take n) ((t.drop 64).take 64), headError resSignature (n + 0x40))]

/-! ## Sections (R692, R693) -/

/-- A section table entry with its index. -/
structure Section where
  index : Nat
  type : Nat
  flags : Nat
  offset : Nat
  length : Nat
  count : Nat
  deriving DecidableEq, Repr

/-- The section table. -/
def imgSections (img : List Byte) : List Section :=
  (List.range (imgNsect img)).map fun k =>
    let at_ := 0x40 + 16 * k
    { index := k, type := imgNum img at_ 2, flags := imgNum img (at_ + 2) 2, offset := imgNum img (at_ + 4) 4,
      length := imgNum img (at_ + 8) 4, count := imgNum img (at_ + 12) 4 }

/-- Section types. -/
def secPlatform : Nat := 1
def secOwners : Nat := 2
def secEngines : Nat := 3
def secGrants : Nat := 4
def secMicrocode : Nat := 5
def secVernier : Nat := 6
def secRegisters : Nat := 7
def secAnnot : Nat := 8
def secFlows : Nat := 9

/-- The words of a record of a type. -/
def recordWords (type : Nat) : Nat :=
  match type with
  | 1 => 8
  | 2 => 2
  | 3 => 4
  | 4 => 6
  | 7 => 2
  | 8 => 4
  | 9 => 12
  | _ => 0

/-- MICROCODE and VERNIER: a prefix and words. -/
def programSection (type : Nat) : Bool := type == 5 || type == 6

/-- The FLAGS that a type may have. -/
def flagsGood (type flags : Nat) : Bool :=
  match type with
  | 5 => decide (flags < 12)
  | 6 => decide (flags < 24)
  | _ => flags == 0

/-- A failure in a section table entry. -/
def entryError (x : Section) : LoadError := { result := resFormat, sect := some x.index, offset := some (0x40 + 16 * x.index) }

/-- The checks of section x, those before it being `before`. -/
def sectionChecks (img : List Byte) (amend : Bool) (before : List Section) (x : Section) : List (Bool × LoadError) :=
  let laterType := before.any fun y => decide (x.type < y.type)
  let again := before.any fun y => y.type == x.type
  let overlap := before.any fun y => decide (x.offset < y.offset + y.length) && decide (y.offset < x.offset + x.length)
  let bad :=
    x.type == 0 || decide (9 < x.type) || !flagsGood x.type x.flags || x.offset % 8 != 0 ||
      decide (x.offset < 0x40 + 16 * imgNsect img) || decide (imgTotlen img < x.offset + x.length) || laterType ||
      (again && !programSection x.type) || overlap || (!programSection x.type && x.length != 4 * recordWords x.type * x.count) ||
      (x.type == secPlatform && x.count != 1) || (amend && (x.type == secPlatform || x.type == secEngines)) ||
      (x.type == secMicrocode && decide (12 ≤ (before.filter fun y => y.type == 5 && y.flags == x.flags).length)) ||
      (x.type == secVernier && decide (24 ≤ (before.filter fun y => y.type == 6).length))
  [(bad, entryError x)]

/-- The checks of a list of sections. -/
def tableChecks (img : List Byte) (amend : Bool) (before : List Section) : List Section → List (Bool × LoadError)
  | [] => []
  | x :: xs => sectionChecks img amend before x ++ tableChecks img amend (before ++ [x]) xs

/-- A chart has one PLATFORM and one ENGINES section. -/
def missingChecks (img : List Byte) (amend : Bool) : List (Bool × LoadError) :=
  let has (t : Nat) := (imgSections img).any fun x => x.type == t
  [(!amend && !(has secPlatform && has secEngines), LoadError.global resFormat)]

/-! ## Records -/

/-- A record: its section's index, its byte offset and its words. -/
structure ImgRecord where
  sect : Nat
  offset : Nat
  words : List Word
  deriving DecidableEq, Repr

/-- Word i of a record. -/
def ImgRecord.word (r : ImgRecord) (i : Nat) : Word := r.words.getD i 0

/-- A failure in a record. -/
def ImgRecord.error (r : ImgRecord) (result : Nat) : LoadError := { result, sect := some r.sect, offset := some r.offset }

/-- The records of a type, in image order. -/
def imgRecords (img : List Byte) (type : Nat) : List ImgRecord :=
  ((imgSections img).filter fun x => x.type == type).flatMap fun x =>
    (List.range x.count).map fun i =>
      let o := x.offset + 4 * recordWords type * i
      { sect := x.index, offset := o, words := imgWords img o (recordWords type) }

/-- A program section: its engine or Vernier, first address, word count and the offset of its words (R703, R704). -/
structure Program where
  sect : Section
  first : Nat
  count : Nat

/-- The program sections of a type. -/
def imgPrograms (img : List Byte) (type : Nat) : List Program :=
  ((imgSections img).filter fun x => x.type == type).map fun x =>
    let w := imgWord img x.offset
    if type = 5 then { sect := x, first := fieldOf w 12 0, count := fieldOf w 29 16 }
    else { sect := x, first := fieldOf w 4 0, count := fieldOf w 13 8 }

/-- Word i of a MICROCODE section. -/
def Program.storeWord (img : List Byte) (p : Program) (i : Nat) : StoreWord := BitVec.ofNat 160 (imgNum img (p.sect.offset + 8 + 20 * i) 20)

/-- Word i of a VERNIER section. -/
def Program.insn (img : List Byte) (p : Program) (i : Nat) : Word := BitVec.ofNat 32 (imgNum img (p.sect.offset + 8 + 2 * i) 2)

/-- A failure at a byte offset of a program section. -/
def Program.error (p : Program) (at_ : Nat) : LoadError :=
  { result := resFormat, sect := some p.sect.index, offset := some (p.sect.offset + at_) }

/-- The checks of a MICROCODE section (R703), those before it being `before`. -/
def microcodeChecks (img : List Byte) (before : List Program) (p : Program) : List (Bool × LoadError) :=
  let w := imgWord img p.sect.offset
  let overlap := before.any fun q =>
    q.sect.flags == p.sect.flags && decide (p.first < q.first + q.count) && decide (q.first < p.first + p.count)
  [(decide (p.sect.length < 8) || fieldOf w 15 13 != 0 || fieldOf w 31 30 != 0 || imgWord img (p.sect.offset + 4) != 0 ||
      p.sect.length != 8 + 20 * p.count || decide (0x2000 < p.first + p.count) || overlap, p.error 0)] ++
    (List.range p.count).map fun i => (parityFails (p.storeWord img i) != 0, p.error (8 + 20 * i))

/-- The checks of a VERNIER section (R704). -/
def vernierChecks (img : List Byte) (p : Program) : List (Bool × LoadError) :=
  let w := imgWord img p.sect.offset
  [(decide (p.sect.length < 8) || fieldOf w 7 5 != 0 || fieldOf w 31 14 != 0 || imgWord img (p.sect.offset + 4) != 0 ||
      p.sect.length != 8 + (2 * p.count + 7) / 8 * 8 || decide (32 < p.first + p.count), p.error 0)]

/-- The checks of some MICROCODE sections. -/
def microcodesChecks (img : List Byte) (before : List Program) : List Program → List (Bool × LoadError)
  | [] => []
  | p :: ps => microcodeChecks img before p ++ microcodesChecks img (before ++ [p]) ps

/-- An offset that a REGISTERS record may not name (R706). -/
def forbiddenOffset (off : Nat) : Bool :=
  let r := off % 0x4000
  let engine := decide (0x10000 ≤ off) && decide (off < 0x40000)
  decide (off < 0x1000) || off == CLK_PLLSTAT || (decide (0x2000 ≤ off) && decide (off < 0x4000)) ||
    (decide (0x7000 ≤ off) && decide (off < 0x8000)) || (decide (0xD000 ≤ off) && decide (off < 0xE000)) ||
    (decide (0x8400 ≤ off) && decide (off < 0x8580)) ||
    [RGL_SRV_OWN, RGL_SNAP_CMD, RGL_STEP_SEC, RGL_STEP_FRAC, RGL_STEP, 0x4054, CDR_SNAP_CMD, VRN_GSTART].contains off ||
    (engine && ([0x0, 0x8, 0x40].contains r || (decide (0x20 ≤ r) && decide (r < 0x38)) || (decide (0x70 ≤ r) && decide (r < 0x84)) ||
      (decide (0x180 ≤ r) && decide (r < 0x18C)) || (decide (0x200 ≤ r) && decide (r < 0x238)))) ||
    (decide (0xA800 ≤ off) && decide (off < 0xB400) && !(decide (0xB000 ≤ off) && decide (off < 0xB100))) ||
    (decide (0xBA00 ≤ off) && decide (off < 0xBB00)) ||
    (decide (0x9000 ≤ off) && decide (off < 0x9800) && decide (0x68 ≤ off % 0x100) && decide (off % 0x100 < 0x7C)) ||
    decide (0x400000 ≤ off)

/-- A flow record names an object that its source kind does not have. -/
def sourceBad (srck obj : Nat) : Bool :=
  match srck with
  | 0 => decide (8 ≤ obj)
  | 1 => decide (3 ≤ obj)
  | 2 => decide (256 ≤ obj)
  | 3 => decide (64 ≤ obj)
  | _ => true

/-- A record that is malformed (R696 to R709; of the fields for which the manual lists codes, an unlisted code is malformed, log
entry 66). -/
def recordBad (type : Nat) (r : ImgRecord) : Bool :=
  let w0 := r.word 0
  match type with
  | 1 => fieldOf (r.word 2) 31 12 != 0 || (r.words.drop 3).any fun w => w != 0
  | 2 => fieldOf w0 31 24 != 0 || fieldOf w0 7 0 == 0 || decide (0xA < fieldOf w0 7 0)
  | 3 => decide (11 < fieldOf w0 3 0) || fieldOf w0 5 4 == 3 || (bitAt w0 6 && decide (11 < fieldOf w0 10 7))
  | 4 => decide (11 < fieldOf w0 3 0) || decide (16 < fieldOf w0 12 8) || r.word 1 != 0
  | 7 => fieldOf w0 31 24 != 0 || fieldOf w0 1 0 != 0 || forbiddenOffset (fieldOf w0 23 0)
  | 8 => decide (11 < fieldOf w0 15 12)
  | 9 => sourceBad (fieldOf w0 14 12) (fieldOf (r.word 1) 9 0) || decide (2 < fieldOf w0 17 15) ||
      (List.range (fieldOf w0 19 18 + 1)).any fun i => decide (11 < fieldOf (r.word (8 + i)) 3 0)
  | _ => false

/-- The checks of the records of a type. -/
def recordChecks (img : List Byte) (type : Nat) : List (Bool × LoadError) :=
  (imgRecords img type).map fun r => (recordBad type r, r.error resFormat)

/-- Records of which two have the same key. -/
def repeated (key : ImgRecord → Nat) (rs : List ImgRecord) (result : Nat) : List (Bool × LoadError) :=
  rs.mapIdx fun i r => ((rs.take i).any fun q => key q == key r, r.error result)

/-- The image's own part of step 5: the section table and the form of the records. -/
def imageChecks (img : List Byte) (amend : Bool) : Except LoadError Unit :=
  match firstError (tableChecks img amend [] (imgSections img) ++ missingChecks img amend) with
  | .error e => .error e
  | .ok _ =>
    firstError ([1, 2, 3, 4, 7, 8, 9].flatMap (recordChecks img) ++ microcodesChecks img [] (imgPrograms img 5) ++
      (imgPrograms img 6).flatMap (vernierChecks img) ++
      repeated (fun r => fieldOf (r.word 0) 23 0) (imgRecords img secOwners) resConflict ++
      repeated (fun r => fieldOf (r.word 0) 3 0) (imgRecords img secEngines) resConflict ++
      repeated (fun r => fieldOf (r.word 0) 11 0) (imgRecords img secAnnot) resFormat ++
      repeated (fun r => fieldOf (r.word 0) 11 0) (imgRecords img secFlows) resConflict)

/-- Steps 2 to 4 and the image's own part of step 5. -/
def State.checkImage (s : State) (img : List Byte) (amend : Bool) : Except LoadError Unit :=
  match firstError (s.headerChecks img amend ++ [s.lifeCheck img] ++ s.trailerChecks img) with
  | .error e => .error e
  | .ok _ => imageChecks img amend

end Sys2Proof.Machine
end

