-- ==== Sys2Proof/Machine/Loader.lean ====
section
/-! DEFINITION. The chart loader (14 R698 to R718, R725, R726): what an image writes, the structural rules, admission at load,
amendments, first light and the load at each release of cluster reset. A failed check leaves the state before it, so the checks run on
the state that the image would make. -/

namespace Sys2Proof.Machine

/-- A write that takes effect, none where a rule refuses it. -/
def Effect.taken (e : Effect) : Option State := if e.refused || e.resp != respOk then none else some e.state

/-! ## OWNERS (R698, R699) and the capability table (09 R459, R460, R465) -/

/-- The table entry of an object to which the chart gives an owner or not. A load writes GEN 0x0001 or 0x0000. An amendment bumps the
GEN of an object whose owner changes, with its record; an object that no chart has named before takes 0x0001 (log entry 69). -/
def State.ownerEntry (s : State) (amend changed given : Bool) (type obj : Nat) (hostm : Bool) : State :=
  let g := s.gen type obj
  if !amend then s.setEntry type obj (bit given) hostm
  else
    let t := s.setEntry type obj (if g = 0 ∧ given then 1 else g) hostm
    if changed && g != 0 then t.revoke 0x10 type obj 0 else t

/-- Owner codes of a Vernier and of a constellation channel. -/
def engineCode (c : Nat) : Bool := decide (0x10 ≤ c) && decide (c ≤ 0x1B)

/-- Owner codes of a Regulator alarm and a phase alarm. -/
def alarmOwnerCode (c : Nat) : Bool := decide (c ≤ 1) || engineCode c

/-- The owner that a Vernier has, 0 for none (R698). -/
def State.vernierOwner (s : State) (v : Nat) : Nat := tget (fun _ => 0) s.chart.owners v

/-- An OWNERS record written: none where R699 rejects it. -/
def State.applyOwner (s : State) (amend : Bool) (r : ImgRecord) : Option State :=
  let obj := fieldOf (r.word 0) 23 8
  let v := r.word 1
  let c := fieldOf v 4 0
  let hostm := bitAt v 31
  match fieldOf (r.word 0) 7 0 with
  | 1 => if 4 ≤ obj ∧ obj ≤ 95 then
      (writePltOwn obj .loader v s).taken.map fun t => t.ownerEntry amend false (c != 0) typePlate obj hostm
    else none
  | 2 => if obj < 48 then
      (writeFldCfg obj ((s.reg (FLD_CFG obj) &&& ~~~ 0x000E3F07) ||| (v &&& 0x000E3F07)) s).taken.map fun t =>
        t.ownerEntry amend (s.reg (FLD_CFG obj) &&& 0x3F07 != v &&& 0x3F07) (fieldOf v 2 0 != 0) typePin obj hostm
    else none
  | 3 => if obj < 24 ∧ engineCode c then
      some (({ s with chart := { s.chart with owners := tset (fun _ => 0) s.chart.owners obj c } } : State).ownerEntry amend
        (s.vernierOwner obj != c) true typeVernier obj hostm)
    else none
  | 4 => if obj < 1024 then
      (writeQmQcfg obj ((s.reg (QM_QCFG obj) &&& ~~~ 0x1F1F) ||| (v &&& 0x1F1F)) s).taken.map fun t =>
        t.ownerEntry amend (s.reg (QM_QCFG obj) &&& 0x1F1F != v &&& 0x1F1F) (v &&& 0x1F1F != 0) typeQueue obj hostm
    else none
  | 5 => if obj < 32 ∧ alarmOwnerCode c then some (s.put (RGL_ALM_CTL.OWNER obj) c) else none
  | 6 => if obj < 16 ∧ alarmOwnerCode c then some (s.put (CDR_PALM_CTL.OWNER obj) c) else none
  | 7 => if obj < 4 ∧ (c = 0 ∨ engineCode c) then
      some ((s.put (CDR_PT_CTL.OWNER obj) c).ownerEntry amend (s.get (CDR_PT_CTL.OWNER obj) != c) (c != 0) typeTracker obj hostm)
    else none
  | 8 => if obj = 0 then (writeRglSrvOwn v s).taken else none
  | 9 => if obj < 64 ∧ engineCode c then
      some ((s.put (CST_CHCFG.OWNER obj) c).ownerEntry amend (s.get (CST_CHCFG.OWNER obj) != c) true typeChannel obj hostm)
    else none
  | _ => if obj < 64 then some (s.setEntry typeKeySlot obj (s.gen typeKeySlot obj) hostm) else none

/-- Records of a kind applied in order: the first that cannot be gives the failure. -/
def applyRecords (result : Nat) (g : State → ImgRecord → Option State) (s : State) : List ImgRecord → Except LoadError State
  | [] => .ok s
  | r :: rs =>
    match g s r with
    | some t => applyRecords result g t rs
    | none => .error (r.error result)

/-- Entries of some objects of a type with GEN 0x0001. -/
def State.freshEntries (s : State) (type : Nat) : List Nat → State
  | [] => s
  | o :: os => (s.setEntry type o 1 false).freshEntries type os

/-- The capability table at load before the OWNERS records (09 R465): every entry 0 but those of timers, key slots and ports. -/
def State.clearTable (s : State) : State :=
  let t : State := { s with mem := s.mem.filter fun p => decide (p.1 < 0x10000 ∨ 0x16000 ≤ p.1) }.clearEcc 0x10000 0x6000
  ((t.freshEntries typeTimer (List.range 48)).freshEntries typeKeySlot (List.range 64)).freshEntries typePort (List.range 8)

/-! ## ENGINES (R700, R701) -/

def recEngPrecise (r : ImgRecord) : Nat := fieldOf (r.word 0) 11 11
def recEngStaged (r : ImgRecord) : Bool := bitAt (r.word 0) 19
def recEngStage (r : ImgRecord) : Nat := fieldOf (r.word 0) 18 17

/-- An ENGINES record written. -/
def State.applyEngine (s : State) (r : ImgRecord) : State :=
  let w := r.word 0
  let e := fieldOf w 3 0
  let t := (s.setRole e (fieldOf w 5 4)).put (ENG_CTL.PRECISE e) (recEngPrecise r)
  let t := ((t.put (ENG_CTL.LTRAP e) (fieldOf w 23 20)).put (ENG_LENS.LAZY e) (fieldOf w 12 12)).put (ENG_PRI.LVLEN e) (fieldOf w 16 13)
  let t := (t.setReg (CAP_XBASE e) (r.word 2 &&& 0xFFFFFFC0)).setReg (CAP_XLEN e) (r.word 3 &&& 0xFFFFFFC0)
  let t := if recEngStaged r then
      t.setReg (CLU_QMAP (e / 4)) (fieldSet (t.reg (CLU_QMAP (e / 4))) (4 * recEngStage r + 3) (4 * recEngStage r) e)
    else t
  let per := fieldOf (r.word 1) 23 0
  if per = 0 then t
  else
    let u := (writeTmrWdper e (BitVec.ofNat 32 per) t).state
    (writeTmrWdctl e (BitVec.ofNat 32 (1 + 4 * fieldOf (r.word 1) 24 24)) u).state

/-- The ENGINES records written. -/
def State.applyEngines (s : State) : List ImgRecord → State
  | [] => s
  | r :: rs => (s.applyEngine r).applyEngines rs

/-- R28, R700 and R701 for one record among all. -/
def engineBad (rs : List ImgRecord) (r : ImgRecord) : Bool :=
  let e := fieldOf (r.word 0) 3 0
  let sp := fieldOf (r.word 0) 10 7
  let quad := rs.filter fun q => recEngStaged q && fieldOf (q.word 0) 3 0 / 4 == e / 4
  (bitAt (r.word 0) 6 && !(rs.any fun q => fieldOf (q.word 0) 3 0 == sp && fieldOf (q.word 0) 5 4 == 2)) ||
    (recEngStaged r && ((quad.map recEngStage).eraseDups.length != 4 || quad.length != 4)) ||
    (recEngStaged r && bitAt (r.word 0) 6 && sp / 4 != e / 4)

/-! ## GRANTS (R702, 09 R444, R445, R466) -/

/-- The capability of a GRANTS record. -/
def recCap (r : ImgRecord) : CapWord := r.word 5 ++ r.word 4 ++ r.word 3 ++ r.word 2

/-- A capability as it is installed: without LOG-READ (09 R445), at the object's GEN, SEAL 0. -/
def State.issued (s : State) (c : CapWord) : CapWord :=
  mkCap (capType c) (capObj c) (capRights c &&& 0x7FF) (s.gen (capType c) (capObj c)) (capBase c) (capLen c)

/-- The resource map allows the capability to engine e (09 R444, R466). -/
def State.grantAllowed (s : State) (e : Nat) (c : CapWord) : Bool :=
  let o := capObj c
  let has (right : Nat) := capHas c right
  match capType c with
  | 0 => true
  | 1 => decide (o < 96) && s.codeIsEngine (s.plateOwner o) e && decide (0x10000 * o ≤ capBase c) &&
      decide (capBase c + capLen c ≤ 0x10000 * (o + 1))
  | 2 => decide (o < 1024) && (!has rightEnq || s.codeIsEngine (s.get (QM_QCFG.PROD o)) e) &&
      (!has rightDeq || s.codeIsEngine (s.get (QM_QCFG.CONS o)) e)
  | 3 => decide (o < 48) && (!has rightPinDrive || (s.get (FLD_CFG.FUNC o) == 1 && s.engMap (s.get (FLD_CFG.OWNER o)) == e))
  | 5 => decide (o < 24) && s.codeIsEngine (s.vernierOwner o) e
  | 7 => decide (o < 4096) && (s.flowSteps o).any fun y => s.flowWord o 3 != 0 && s.engMap y == e
  | 9 => decide (o < 4) && (!has rightWrite || s.codeIsEngine (s.get (CDR_PT_CTL.OWNER o)) e)
  | t => (capEntryAt t o).isSome

/-- The exclusive rights of a type (09 R466). -/
def exclusiveRights (type : Nat) : Nat :=
  rightEnq + rightDeq + rightPinDrive + (if type = typeTracker ∨ type = typeVernier ∨ type = typeFlow then rightWrite else 0)

/-- Capabilities of two engines give one object's exclusive right to both. -/
def capsClash (c d : CapWord) : Bool :=
  capType c != 0 && capType c == capType d && capObj c == capObj d && (capRights c &&& capRights d &&& exclusiveRights (capType c)) != 0

/-- The capabilities of an engine: those of its registers, and those whose commit waits for its next boundary (09 R478). -/
def State.heldCaps (s : State) (e : Nat) : List CapWord := (List.range 16).map (s.cap e) ++ (s.eng e).capWrites.map (·.2)

/-- A capability of another engine than e, not one of an older generation, clashes with c (09 R466). -/
def State.grantClashes (s : State) (e : Nat) (c : CapWord) : Bool :=
  (List.range 12).any fun y => y != e && (s.heldCaps y).any fun d => capGen d == s.gen (capType d) (capObj d) && capsClash c d

/-- A GRANTS record written: none where R466 rejects it. In an amendment a running engine takes it at its next boundary. -/
def State.applyGrant (s : State) (r : ImgRecord) : Option State :=
  let e := fieldOf (r.word 0) 3 0
  let c := s.issued (recCap r)
  if s.grantAllowed e (recCap r) && !s.grantClashes e c then some (s.commitCap e (fieldOf (r.word 0) 12 8) c) else none

/-! ## MICROCODE and VERNIER (R703, R704) -/

/-- The words of a MICROCODE section from number i on, `n` left. -/
def State.storeProgram (s : State) (img : List Byte) (p : Program) (i : Nat) : Nat → State
  | 0 => s
  | n + 1 => (s.loadStoreWord p.sect.flags (p.first + i) (p.storeWord img i)).storeProgram img p (i + 1) n

/-- The same of a VERNIER section. -/
def State.storeInsns (s : State) (img : List Byte) (p : Program) (i : Nat) : Nat → State
  | 0 => s
  | n + 1 => (s.setReg (VRN_IMEM p.sect.flags (p.first + i)) (p.insn img i)).storeInsns img p (i + 1) n

/-- Every MICROCODE and VERNIER section written. -/
def State.applyPrograms (s : State) (img : List Byte) : State :=
  let t := (imgPrograms img 5).foldl (fun t p => t.storeProgram img p 0 p.count) s
  (imgPrograms img 6).foldl (fun t p => t.storeInsns img p 0 p.count) t

/-! ## REGISTERS (R705 to R707, R697) -/

/-- A register that a load after Dormant does not rewrite (08 R436). -/
def retainedKey (key : Nat) : Bool :=
  (decide (EVC_ROUTE 0 ≤ key) && decide (key ≤ EVC_ROUTE 255)) || (decide (EVC_MASK 0 ≤ key) && decide (key ≤ EVC_PEND 7)) ||
    (decide (EVC_ENG 0 ≤ key) && decide (key ≤ EVC_ENG 11)) || [EVC_IRQEN, EVC_WAKEEN0, EVC_WAKEEN1].contains key

/-- The failure of a REGISTERS record under R707, those before it being `before`. -/
def State.registerBad (s : State) (before : List ImgRecord) (key : Nat) (v : Word) : Option Nat :=
  let old := s.reg key
  if FLD_CFG 0 ≤ key ∧ key ≤ FLD_CFG 47 then (if old &&& 0x000E3F07 = v &&& 0x000E3F07 then none else some resConflict)
  else if key / 0x10000 = 0x110 ∧ key % 0x40 = 0x18 then (if old &&& 0x1F1F = v &&& 0x1F1F then none else some resConflict)
  else if VRN_CTL 0 ≤ key ∧ key < VRN_CTL 24 ∧ key % 64 = 0 then (if bitAt v 2 || bitAt v 3 then some resFormat else none)
  else if CDR_PT_CTL 0 ≤ key ∧ key < CDR_PT_CTL 4 ∧ key % 64 = 0 then
    (if bitAt v 1 && !(before.any fun r => fieldOf (r.word 0) 23 0 == key + 0x18) then some resConflict else none)
  else none

/-- A REGISTERS record written at ring 0 by the register's own rules. A Finder rule that waits applies at once: no frame is being
classified. -/
def State.applyRegister (s : State) (off : Nat) (v : Word) : Option State :=
  let key := s.keyAt off
  let p := (off - 0x9000) / 0x100
  let rule := decide (0x9000 ≤ off) && decide (off < 0x9800) && decide (0x28 ≤ off % 0x100) && decide (off % 0x100 ≤ 0x40)
  let s := if rule then s.applyRule p else s
  (registerRules key .loader v s).taken.map fun t => if rule then t.applyRule p else t

/-- The routes of the chart alone, from the reset values, those of some records written (08 R414, R415). -/
def State.chartRoutes (s : State) (before : List ImgRecord) : State :=
  before.foldl (fun t r => if retainedKey (fieldOf (r.word 0) 23 0) then t.setReg (fieldOf (r.word 0) 23 0) (r.word 1) else t)
    (s.setRegs ((List.range 256).map fun n => (EVC_ROUTE n, 0)))

/-- The REGISTERS records, those before them being `before`. A retained register is not written, but the chart is held to its rules
(08 R414, R415, R436). -/
def State.applyRegisters (s : State) (before : List ImgRecord) : List ImgRecord → Except LoadError State
  | [] => .ok s
  | r :: rs =>
    let off := fieldOf (r.word 0) 23 0
    let key := s.keyAt off
    if s.retained.isSome && retainedKey key then
      if ((s.chartRoutes before).applyRegister off (r.word 1)).isSome then s.applyRegisters (before ++ [r]) rs
      else .error (r.error resConflict)
    else match s.registerBad before key (r.word 1) with
      | some res => .error (r.error res)
      | none =>
        if !inRegisterBlock off then .error (r.error resConflict)
        else match s.applyRegister off (r.word 1) with
          | some t => t.applyRegisters (before ++ [r]) rs
          | none => .error (r.error resConflict)

/-! ## FLOWS (R710, R716, R719, R734) -/

/-- The number of a FLOWS record. -/
def recFlow (r : ImgRecord) : Nat := fieldOf (r.word 0) 11 0

/-- The FLOWS records added, each flow LATENT (R719), with its table entry (09 R465). -/
def State.addFlows (s : State) : List ImgRecord → State
  | [] => s
  | r :: rs =>
    let f := recFlow r
    ((((s.setFlow f { words := r.words, instants := [], inFlight := 0 }).setEntry typeFlow f 1 (bitAt (r.word 0) 23)).setReg
      (ADM_FSTATE f) 1).setReg (ADM_FBOUND f) 0xFFFFFFFF).addFlows rs

/-- Rule r of port p copies under flow f (R710): an ingress rule with action COPY or REDIRECT. -/
def State.ruleCarries (s : State) (p r f : Nat) : Bool :=
  !s.on (FPT_FRW4.DIR p r) && decide (2 ≤ s.get (FPT_FRW5.ACT p r)) && s.on (FPT_FRW5.FLOWEN p r) && s.get (FPT_FRW5.FLOW p r) == f

/-- A match term of rule r lies beyond byte n. -/
def State.termsBeyond (s : State) (p r n : Nat) : Bool :=
  (List.range 4).any fun t => fieldOf (s.ruleTerm p r t) 15 0 != 0 && decide (n < 2 * fieldOf (s.reg (FPT_FRW4 p r)) (7 * t + 6) (7 * t) + 2)

/-- R710 and 15 R747 for flow f. -/
def State.flowBad (s : State) (f : Nat) : Bool :=
  let steps := List.range (s.flowStepCount f)
  let p := s.flowSrcobj f
  let r := s.flowRule f
  let inq := s.flowInq f
  let others := s.flowNumbers.filter fun j => j != f && s.flowSrck j != 2
  (steps.any fun i => !(s.stepAnnot f i).any fun a => annotEng a == s.stepEng f i) ||
    (steps.any fun i => s.role (s.stepEng f i) != 1) ||
    (s.flowSrck f == 0 && (!s.ruleCarries p r f || s.termsBeyond p r (s.flowLmin f))) ||
    s.flowWord f 3 == 0 || s.flowWord f 4 == 0 || s.flowB f == 0 ||
    (s.flowSrck f != 2 && ((others.any fun j => s.flowInq j == inq) || s.on (QM_QSPLEN.LEN inq)))

/-- The ports on which flow f has a ledger entry (R716). -/
def State.ledgerPorts (s : State) (f : Nat) : List Nat :=
  if s.flowDstk f = 1 then (List.range 8).filter (s.leaderSet (s.flowPort f) (s.flowDcls f)).testBit else []

/-- The entries that some flows need on port p. -/
def State.entriesOn (s : State) (fs : List Nat) (p : Nat) : Nat :=
  (fs.filter fun f => s.flowSrck f == 0 && s.flowSrcobj f == p).length + (fs.filter fun f => (s.ledgerPorts f).contains p).length

/-- A free flow table entry of port p. -/
def State.freeEntry (s : State) (p : Nat) : Option Nat := (List.range 512).find? fun k => s.get (FPT_FTW0.ROLE p k) == 0

/-- An entry of flow f created on port p, unless the flow has one there (R716). -/
def State.createEntry (s : State) (p role f : Nat) (w0 w1 w2 w3 : Nat) : Option State :=
  if (s.portEntry p role f).isSome then some s
  else (s.freeEntry p).map fun k => s.writeEntry p k (BitVec.ofNat 32 w0) (BitVec.ofNat 32 w1) (BitVec.ofNat 32 w2) (BitVec.ofNat 32 w3)

/-- The ledger entries of flow f on some ports, SEQ 0. -/
def State.createLedgers (s : State) (f : Nat) : List Nat → Option State
  | [] => some s
  | p :: ps => (s.createEntry p 2 f (f + 0x2000) 0 0 0).bind fun t => t.createLedgers f ps

/-- The entries of R716 for flow f; none where a port has no free entry. -/
def State.createEntries (s : State) (f : Nat) : Option State :=
  (if s.flowSrck f = 0 then
      s.createEntry (s.flowSrcobj f) 1 f (f + 0x1000 + 0x4000 * bit (s.flowPolice f)) 1 (s.flowRate f) (s.flowBurst f)
    else some s).bind fun t => t.createLedgers f (s.ledgerPorts f)

/-- Flow f admitted at load or by an amendment: its entries, its rule enabled, ACTIVE (R716, R719). -/
def State.enterActive (s : State) (f : Nat) : Option State :=
  (s.createEntries f).map fun t =>
    (if t.flowSrck f = 0 then t.put (FPT_FRW4.EN (t.flowSrcobj f) (t.flowRule f)) 1 else t).activateFlow f

/-- Several flows admitted. -/
def State.enterFlows (s : State) : List Nat → Option State
  | [] => some s
  | f :: fs => (s.enterActive f).bind fun t => t.enterFlows fs

/-- The rules of latent flows disabled (R716). -/
def State.disableRules (s : State) : List Nat → State
  | [] => s
  | f :: fs => (if s.flowSrck f = 0 then s.put (FPT_FRW4.EN (s.flowSrcobj f) (s.flowRule f)) 0 else s).disableRules fs

/-- Numbers in ascending order. -/
def sortNats : List Nat → List Nat
  | [] => []
  | n :: ns => let l := sortNats ns; l.filter (· < n) ++ [n] ++ l.filter (fun m => n ≤ m)

/-- What a load or an amendment has made: the state, how many flows it refused, and whether it could write. -/
structure Loaded where
  state : State
  refused : Nat

/-- Step 6 and the FLOWS part of step 7: the records are in the state. -/
def State.admitAll (s : State) (strict : Bool) (rs : List ImgRecord) : Except LoadError Loaded :=
  let base := s.activeFlows
  let wanted := sortNats ((rs.filter fun r => !bitAt (r.word 0) 20).map recFlow)
  let a := s.admitEach base wanted
  let new := a.1.filter fun f => !base.contains f
  let late := (rs.map recFlow).filter fun f => !new.contains f
  let at_ (f : Nat) : LoadError := ((rs.find? fun r => recFlow r == f).map fun r => r.error resUnproven).getD (LoadError.global resUnproven)
  match s.verify base, a.2, strict with
  | .error _, _, _ => .error { LoadError.global resUnproven with refused := none }
  | _, (f, _) :: _, true => .error { at_ f with refused := some a.2.length }
  | _, _, _ =>
    if (List.range 8).any fun p => decide (512 < s.entriesOn a.1 p) then .error (LoadError.global resCapacity)
    else
      let t := s.putRefusals a.2
      let t := match s.verify a.1 with
        | .ok vs => t.putVerdicts vs
        | .error _ => t
      match t.enterFlows new with
      | some u => .ok { state := (u.disableRules late).countFlows.putTime, refused := a.2.length }
      | none => .error (LoadError.global resCapacity)

/-! ## The structural rules of other chapters (R713, step 5) -/

/-- The owner that plate k has once a handover that waits has taken effect. -/
def State.nextOwner (s : State) (k : Nat) : Nat := if s.on (PLT_OWN.PEND k) then (s.handover k).owner else s.plateOwner k

/-- 10 R514 for queue q: the ring's plate belongs to the consumer if it is an engine or the host port, else to the producer. An
amendment's handover counts as taken. -/
def State.ringBad (s : State) (q : Nat) : Bool :=
  let c := s.get (QM_QCFG.CONS q)
  s.on (QM_QRING.RSZ q) && s.nextOwner (s.ringPlate q) != (if c = 1 ∨ engineCode c then c else s.get (QM_QCFG.PROD q))

/-- 16 R809 for channel c. -/
def State.channelBad (s : State) (c : Nat) : Bool :=
  let q := s.get (CST_CHCFG.QUEUE c)
  let prod := s.get (QM_QCFG.PROD q)
  let cons := s.get (QM_QCFG.CONS q)
  let owner := s.get (CST_CHCFG.OWNER c)
  s.on (CST_CHCFG.EN c) && !((prod == 2 && cons == owner || cons == 2 && prod == owner) && engineCode owner)

/-- 11 R571 for rule r of port p: it names a flow that has no record with this port as its source. -/
def State.ruleBad (s : State) (p r : Nat) : Bool :=
  s.on (FPT_FRW4.EN p r) && s.on (FPT_FRW5.FLOWEN p r) && decide (2 ≤ s.get (FPT_FRW5.ACT p r)) && !s.on (FPT_FRW4.DIR p r) &&
    !((s.flowNumbers.contains (s.get (FPT_FRW5.FLOW p r))) && s.flowSrck (s.get (FPT_FRW5.FLOW p r)) == 0 &&
      s.flowSrcobj (s.get (FPT_FRW5.FLOW p r)) == p)

/-- The structural rules hold of the state that an image makes; flow records fail with their own offsets. -/
def State.structureChecks (s : State) (rs : List ImgRecord) : List (Bool × LoadError) :=
  rs.map (fun r => (s.flowBad (recFlow r), r.error resConflict)) ++
    [((s.flowNumbers.any s.flowBad) || (List.range 1024).any s.ringBad || (List.range 64).any s.channelBad ||
      (List.range 8).any (fun p => (List.range 256).any (s.ruleBad p)), LoadError.global resConflict)]

/-! ## A full image -/

/-- EN of every Finder rule cleared. -/
def disableAll (regs : Table Word) : Table Word :=
  tmap resetWord (fun k v => if k / 0x10000 = 0x104 ∧ k % 0x20 = 0x10 then v &&& 0xDFFFFFFF else v) regs

/-- No flow, no flow table entry and no enabled Finder rule: these memories are not reset, and what the chart does not name is not in
service (log entry 65). -/
def State.clearFlows (s : State) : State :=
  let kept := s.regs.filter fun p => !([0x107, 0x10B, 0x10C, 0x10D] : List Nat).contains (p.1 / 0x10000)
  ({ s with regs := disableAll kept, flows := [], buckets := [] } : State).countFlows

/-- The descriptors of a pool's free queue placed, from buffer i up (10 R530): each takes the way of a descriptor taken, into the ring or
into spill (R534), with the watermark event (R533). -/
def State.placeFree (s : State) (p i : Nat) : Nat → State
  | 0 => s
  | n + 1 =>
    let q := s.get (QM_PCFG.FREEQ p)
    let d := mkDesc [BitVec.ofNat 32 (s.get (QM_PBASE.BASE p) + i * s.bufferSize p), BitVec.ofNat 32 (s.bufferSize p % 65536), 0, 0, 0, 0, 0, 0]
    (if s.queueRefuses q then s else (s.joinQueue q d).makeVisible q).placeFree p (i + 1) n

/-- The free queues of some pools filled. -/
def State.placePools (s : State) : List Nat → State
  | [] => s
  | p :: ps => (s.placeFree p 0 (s.get (QM_PCFG.NBUF p))).placePools ps

/-- The words of a type's records. -/
def recordLists (rs : List ImgRecord) : List (List Word) := rs.map (·.words)

/-- Steps 5 to 7 of R713 from the cluster in reset state: what a full image makes of it. -/
def State.applyChart (s : State) (img : List Byte) : Except LoadError Loaded :=
  let engines := imgRecords img secEngines
  let flows := imgRecords img secFlows
  let t : State := { s.clearFlows with chart :=
    { platform := ((imgRecords img secPlatform).headD { sect := 0, offset := 0, words := [] }).words, engines := recordLists engines,
      annots := recordLists (imgRecords img secAnnot), owners := [] } }
  match applyRecords resConflict (fun u r => u.applyOwner false r) t.clearTable (imgRecords img secOwners) with
  | .error e => .error e
  | .ok t =>
    match firstError (engines.map fun r => (engineBad engines r, r.error resConflict)) with
    | .error e => .error e
    | .ok _ =>
      let t := (t.applyEngines engines).addFlows flows
      match applyRecords resConflict State.applyGrant t (imgRecords img secGrants) with
      | .error e => .error e
      | .ok t =>
        match (t.applyPrograms img).applyRegisters [] (imgRecords img secRegisters) with
        | .error e => .error e
        | .ok t =>
          match firstError (t.structureChecks flows) with
          | .error e => .error e
          | .ok _ => (t.admitAll (imgStrict img) flows).map fun l => { l with state := l.state.placePools (List.range 32) }

/-- A full image checked and applied (R713, steps 2 to 7). -/
def State.tryChart (s : State) (img : List Byte) : Except LoadError Loaded :=
  match s.checkImage img false with
  | .error e => .error e
  | .ok _ => s.applyChart img

/-! ## Amendments (R725, R726) -/

/-- The queues that flow f uses. -/
def State.flowQueues (s : State) (f : Nat) : List Nat :=
  (if s.flowSrck f = 2 then [] else [s.flowInq f]) ++ [s.flowDstq f] ++
    (List.range (s.flowStepCount f - 1)).flatMap fun i => s.hopQueues f i

/-- The pool into which the items of flow f are copied. -/
def State.flowPool (s : State) (f : Nat) : Option Nat :=
  match s.flowSrck f with
  | 0 => some (s.get (FPT_FRW5.POOL (s.flowSrcobj f) (s.flowRule f)))
  | 1 => some (s.get (OCC_CHCFG.POOL (s.flowSrcobj f)))
  | 3 => some (s.get (CST_CHCFG.POOL (s.flowSrcobj f)))
  | _ => none

/-- An object of an OWNERS class is used by flow f (log entry 69). -/
def State.flowUses (s : State) (f cls obj : Nat) : Bool :=
  let line := if s.flowSrck f = 2 then some (s.flowSrcobj f) else none
  match cls with
  | 1 => (s.flowQueues f).any (fun q => s.ringPlate q == obj) || (s.flowPool f).any fun p => s.poolPlate p == obj
  | 2 => line == some (32 + obj)
  | 3 => line == some (80 + obj)
  | 4 => (s.flowQueues f).contains obj
  | 5 => line == some (112 + obj)
  | 6 => line == some (108 + obj / 4)
  | 7 => line == some 107
  | 9 => s.flowSrck f == 3 && s.flowSrcobj f == obj || s.flowDstk f == 2 && s.get (CST_CHCFG.QUEUE obj) == s.flowDstobj f
  | _ => false

/-- The owner that an object has, in the code of its OWNERS record. -/
def State.ownerCode (s : State) (cls obj : Nat) : Nat :=
  match cls with
  | 1 => s.plateOwner obj
  | 2 => fieldOf (s.reg (FLD_CFG obj) &&& 0x3F07) 31 0
  | 3 => s.vernierOwner obj
  | 4 => fieldOf (s.reg (QM_QCFG obj) &&& 0x1F1F) 31 0
  | 5 => s.get (RGL_ALM_CTL.OWNER obj)
  | 6 => s.get (CDR_PALM_CTL.OWNER obj)
  | 7 => s.get (CDR_PT_CTL.OWNER obj)
  | 8 => s.get RGL_SRV_OWN.OWNER
  | _ => s.get (CST_CHCFG.OWNER obj)

/-- The owner that a record gives. -/
def recOwnerCode (r : ImgRecord) : Nat :=
  match fieldOf (r.word 0) 7 0 with
  | 2 => fieldOf (r.word 1 &&& 0x3F07) 31 0
  | 4 => fieldOf (r.word 1 &&& 0x1F1F) 31 0
  | _ => fieldOf (r.word 1) 4 0

/-- A record would take an object from an active flow (R726). -/
def State.takesUsed (s : State) (r : ImgRecord) : Bool :=
  let cls := fieldOf (r.word 0) 7 0
  let obj := fieldOf (r.word 0) 23 8
  cls != 0xA && s.ownerCode cls obj != recOwnerCode r && s.activeFlows.any fun f => s.flowUses f cls obj

/-- The checks of an amendment that R725 and R726 add. The manual gives no result for another CHARTID or an old VERSION: it is free,
`other` (log entry 66). -/
def State.amendChecks (s : State) (img : List Byte) (other : Nat) : List (Bool × LoadError) :=
  [(imgChartid img != s.reg CHT_ID, headError other 0x10), (decide ((imgVersion img).toNat ≤ (s.reg CHT_VER).toNat), headError other 0x14)] ++
    (imgPrograms img 5).map (fun p => (s.role p.sect.flags != 2 || !s.stopped p.sect.flags, p.error 0)) ++
    (imgRecords img secFlows).map (fun r => (s.flowNumbers.contains (recFlow r), r.error resConflict)) ++
    (imgRecords img secAnnot).map (fun r => (s.chart.annots.any fun a => annotIndex a == fieldOf (r.word 0) 11 0, r.error resFormat)) ++
    (imgRecords img secOwners).map (fun r => (s.takesUsed r, r.error resConflict))

/-- The chart in force with an amendment's records added and applied (R725). -/
def State.applyAmend (s : State) (img : List Byte) : Except LoadError Loaded :=
  let flows := imgRecords img secFlows
  let t : State := { s with chart := { s.chart with annots := s.chart.annots ++ recordLists (imgRecords img secAnnot) } }
  match applyRecords resConflict (fun u r => u.applyOwner true r) t (imgRecords img secOwners) with
  | .error e => .error e
  | .ok t =>
    match applyRecords resConflict State.applyGrant (t.addFlows flows) (imgRecords img secGrants) with
    | .error e => .error e
    | .ok t =>
      match (t.applyPrograms img).applyRegisters [] (imgRecords img secRegisters) with
      | .error e => .error e
      | .ok t =>
        match firstError (t.structureChecks flows) with
        | .error e => .error e
        | .ok _ => t.admitAll (imgStrict img) flows

/-- An amendment checked and applied. -/
def State.tryAmend (s : State) (img : List Byte) (other : Nat) : Except LoadError Loaded :=
  match s.checkImage img true with
  | .error e => .error e
  | .ok _ =>
    match firstError (s.amendChecks img other) with
    | .error e => .error e
    | .ok _ => s.applyAmend img

/-! ## First light (R717) -/

/-- The offsets at which the ROM's settings may lie, beside those that R717 lists: the Regulator, the event controller, the queues and
pools, and the ports' PTP, injection and class registers. -/
def romOffset (off : Nat) : Bool :=
  !forbiddenOffset off &&
    ((decide (0x4000 ≤ off) && decide (off < 0x4200)) || (decide (0x6000 ≤ off) && decide (off < 0x7000)) ||
      (decide (0x8010 ≤ off) && decide (off < 0x8050)) ||
      (decide (0x9000 ≤ off) && decide (off < 0x9800) && (off % 0x100 == 0x10 || (decide (0x1C ≤ off % 0x100) && decide (off % 0x100 < 0x24)) ||
        (decide (0x80 ≤ off % 0x100) && decide (off % 0x100 < 0xA0)))))

/-- The ROM's settings that the manual does not list, each an offset and a value (log entry 70). -/
def State.romSettings (s : State) : List (Nat × Word) → State
  | [] => s
  | (off, v) :: r => (if romOffset off && !(s.retained.isSome && retainedKey off) then (s.applyRegister off v).getD s else s).romSettings r

/-- Plates from k up, n of them, given to an owner, with their entries. -/
def State.givePlates (s : State) (k c : Nat) : Nat → State
  | 0 => s
  | n + 1 => ((s.put (PLT_OWN.OWNER k) c).setEntry typePlate k 1 false).givePlates (k + 1) c n

/-- The capabilities of an engine that the ROM installs. -/
def State.romCaps (s : State) (e : Nat) : List Nat → State
  | [] => s
  | k :: ks => (s.setCap e k (s.issued (Config.romCap e k))).romCaps e ks

/-- The words of a Finder rule written. -/
def State.putRuleWords (s : State) (p r i : Nat) : List Word → State
  | [] => s
  | w :: ws => (s.setReg (FPT_FRW0 p r + 4 * i) w).putRuleWords p r (i + 1) ws

/-- A rule that forwards frames of Ethertype 0x88F7 with PTPC = 1, of a direction. -/
def ptpRule (egress : Bool) : List Word := [0x88F7FFFF, 0, 0, 0, BitVec.ofNat 32 (6 + 2 ^ 28 * bit egress + 2 ^ 29), 4, 0]

/-- A port in first light: BYP 0, its transparent clock rules and the copies to queue 0. The egress rule and what selects the copied
messages are the ROM's (log entry 70). -/
def State.firstPort (s : State) (p : Nat) : State :=
  let r := 2 + Config.romEgressRule.toNat % 254
  let copy : List Word := [Config.romCopyTerm 0, Config.romCopyTerm 1, Config.romCopyTerm 2, Config.romCopyTerm 3,
    (Config.romCopyTerm 4 &&& 0x0FFFFFFF) ||| 0x20000000, (Config.romCopyTerm 5 &&& 0x003E0004) ||| 2, 0]
  (((s.put (FPT_CTL.BYP p) 0).putRuleWords p 0 0 (ptpRule false)).putRuleWords p 1 0 copy).putRuleWords p r 0 (ptpRule true)

/-- Some ports in first light. -/
def State.firstPorts (s : State) : List Nat → State
  | [] => s
  | p :: ps => (s.firstPort p).firstPorts ps

/-- The resources of first light, as R717 lists them. -/
def State.firstResources (s : State) : State :=
  let t := (((s.givePlates 64 0x10 4).givePlates 68 0x11 2).givePlates 70 0x12 2).givePlates 8 0x01 56
  let t := (t.firstPorts (List.range 8)).put RGL_SRV_OWN.OWNER 0x10
  let t := (((t.setReg (FPT_RED 0) 1).setReg (FPT_RED 1) 0x21).setReg (FPT_RED 2) 2)
  let t := ((t.setReg (FLD_CFG 0) 5).setReg (FLD_CFG 1) 2).setReg FLD_PPS 0x80002710
  let t := (t.setEntry typePin 1 1 false).setEntry typePin 0 1 false
  let t := ((t.put (VRN_CLK.SRC 0) 1).put (RGL_ALM_CTL.OWNER 10) 0x12).put (RGL_ALM_CTL.OWNER 11) 0x12
  let t := ({ t with chart := { platform := [], engines := [], annots := [], owners := [(0, 0x12)] } } : State).setEntry typeVernier 0 1 false
  ((t.setRole 0 1).setRole 1 1).setRole 2 1

/-- RUN written 1 on every engine with ROLE service (R713 step 8, 06 R295). -/
def State.runEngines (s : State) : List Nat → State
  | [] => s
  | e :: es => (if s.role e = 1 then (writeEngCtl e (s.reg (ENG_CTL e) ||| 1) s).state else s).runEngines es

/-- Entry into first light: the ROM's programs and settings, then the listed ones, then RUN on E0 to E2. -/
def State.firstLight (s : State) : State :=
  let t := (s.clearFlows.clearTable).romSettings Config.romSettings
  let t := Config.romMicrocode.foldl (fun u p => u.loadStoreWord (p.1 % 24576 / 8192) (p.1 % 8192) p.2) t
  let t := t.setRegs ((List.range 32).map fun i => (VRN_IMEM 0 i, Config.romVernier i &&& 0xFFFF))
  let t := t.firstResources
  let t := ((t.romCaps 0 (List.range 17)).romCaps 1 (List.range 17)).romCaps 2 (List.range 17)
  let t := (((t.put CLU_STAT.STATE 2).put CLU_STAT.CHART 0).setReg CHT_ID 0).runEngines (List.range 12)
  ({ t with retained := none } : State).serviceStart.settleAll

/-! ## The load (R712 to R715) -/

/-- The region of a load's image: the loader region of fused mode (10 R496). -/
def inLoaderRegion (a n : Nat) : Bool := decide (0x080000 ≤ a) && decide (a + n ≤ 0x400000)

/-- The image of a load and the state after its reading: none where it cannot be read (R712, R713 step 1). -/
def State.loadSource (s : State) (ext : List Byte) (error : Bool) : Option (List Byte) × State :=
  let a := (s.reg CHT_SRCADDR).toNat
  let n := (s.reg CHT_SRCLEN).toNat
  if 0x380000 < n then (none, s)
  else if s.get CHT_SRC.KIND = 2 then
    if error then (none, s) else (some (ext.take n), (s.plateWrite 3 0x080000 (ext.take n)).2)
  else if inLoaderRegion a n then s.plateRead 3 a n
  else (none, s)

/-- The record of a load or amendment (R715); with no image, its VERSION and CHARTID are free. -/
def State.loadRecord (s : State) (img : Option (List Byte)) (result refused fcode : Nat) : State :=
  match img with
  | some b => s.logChange (originCode .loader) 0x03 fcode (result != 0) (imgVersion b).toNat (imgChartid b).toNat
      (result * 2 ^ 24 + refused % 65536)
  | none =>
    let f := s.fresh 64
    f.2.logChange (originCode .loader) 0x03 fcode (result != 0) (f.1.toNat % 2 ^ 32) (f.1.toNat / 2 ^ 32) (result * 2 ^ 24 + refused % 65536)

/-- CHT_STAT and CHT_FAIL after a failed load. -/
def State.putFailure (s : State) (e : LoadError) : State :=
  let f := s.fresh 40
  let t := (f.2.put CHT_STAT.RESULT e.result).put CHT_STAT.SECT (e.sect.getD (f.1.toNat % 256))
  t.setReg CHT_FAIL (BitVec.ofNat 32 (e.offset.getD (f.1.toNat / 256)))

/-- CHT_ID, CHT_VER and CHT_HASH of the chart in force. -/
def State.putChart (s : State) (img : List Byte) : State :=
  let h := sha256 (img.take (imgTotlen img))
  ((s.setReg CHT_ID (imgChartid img)).setReg CHT_VER (imgVersion img)).setRegs ((List.range 8).map fun i => (CHT_HASH i, hashWord h i))

/-- Entry into service (R713, step 8). -/
def State.enterService (s : State) (img : List Byte) (refused : Nat) : State :=
  let t := (s.putChart img).put CHT_STAT.RESULT resOk
  let t := ((t.put CLU_STAT.STATE 3).put CLU_STAT.CHART 1).runEngines (List.range 12)
  (({ t with retained := none } : State).loadRecord (some img) resOk refused 0).serviceStart.settleAll

/-- The flows refused by a failed load or amendment; free where the manual does not say which count (log entry 66). -/
def State.refusedBy (s : State) (e : LoadError) : Nat × State :=
  match e.refused with
  | some n => (n, s)
  | none => ((s.fresh 13).1.toNat, (s.fresh 13).2)

/-- A change refused for a resource conflict registers EV252 (08 R404, 15 fault 0x10). -/
def State.conflictEvent (s : State) (fcode : Nat) : State := if fcode = 0x10 then s.registerEvent 252 else s

/-- A failed load: its record and first light. -/
def State.loadFails (s : State) (img : Option (List Byte)) (e : LoadError) : State :=
  let r := (s.putFailure e).refusedBy e
  ((r.2.loadRecord img e.result r.1 e.fcode).firstLight).conflictEvent e.fcode

/-- A write of step 7 that meets an uncorrectable plate error (R714): RESULT stays over the reset, whose next load ignores CHT_SRC. -/
def State.loadAborts (s : State) (img : List Byte) : State :=
  let t := ((s.loadRecord (some img) resSource 0 0).placeAll.resetWith 2).put CHT_STAT.RESULT resSource
  { t with power := { t.power with ignoreSrc := true } }

/-- The load of an image whose source is named. -/
def State.load (s : State) (ext : List Byte) (srcError writeError : Bool) : State :=
  match s.loadSource ext srcError with
  | (none, t) => t.loadFails none (LoadError.global resSource)
  | (some img, t) =>
    match t.tryChart img with
    | .error e => t.loadFails (some img) e
    | .ok l => if writeError then t.loadAborts img else l.state.enterService img l.refused

/-- The registers that the Shutter's Restart leaves, beside those that a cluster reset leaves (log entry 65). -/
def restartKeeps (key : Nat) : Nat :=
  if key < 0x3100 ∨ (0x4000 ≤ key ∧ key < 0x5000) ∨ (0x7000 ≤ key ∧ key < 0x7050) ∨ (0x7100 ≤ key ∧ key < 0x7200) ∨ key / 0x10000 = 0x100
  then 0xFFFFFFFF else clusterKeeps key

/-- The state from which a load after a takeover proceeds, as at release of cluster reset (15 R775; log entry 65). -/
def State.restartClear (s : State) : State :=
  let t := s.clusterReset
  let t : State := { t with
    regs := keepBits restartKeeps s.regs, rgl := s.rgl, log := s.log, stamps := s.stamps, stampCount := s.stampCount,
    alarms := s.alarms, pps := s.pps, asst := s.asst, channels := s.channels, security := { s.security with bindGen := [], auth := none },
    assistant := { State.reset.assistant with command := s.assistant.command, takeovers := s.assistant.takeovers,
                                              takeoverEdge := s.assistant.takeoverEdge } }
  (t.resetVerniers (List.range 24)).settleAll

/-- The chart source is not to be used (R712, R714). -/
def State.noSource (s : State) : Bool := s.on CLU_CTL.FIRSTLIGHT || s.get CHT_SRC.KIND == 0 || s.power.ignoreSrc

/-- What the loader does in loading. -/
def State.chartLoad (s : State) (ext : List Byte) (srcError writeError : Bool) : State :=
  let t := if s.get SHT_STAT.PHASE = 5 then s.restartClear else s
  let u : State := { t with power := { t.power with ignoreSrc := false } }
  if t.noSource then u.firstLight else u.load ext srcError writeError

/-- CHART_LOAD (R712, R713): in loading. `ext` are the bytes at CHT_SRCADDR in external memory, `srcError` an ERROR response to their
reading, `writeError` an uncorrectable plate error in step 7. -/
def execChartLoad (ext : List Byte) (srcError writeError : Bool) (s : State) : Host.Outcome State Fault Refusal :=
  .next (if s.get CLU_STAT.STATE == 1 && s.pairRuns then s.chartLoad ext srcError writeError else s)

end Sys2Proof.Machine
end

