-- ==== Sys2Proof/Machine/Mailbox.lean ====
section
/-! DEFINITION. The mailbox commands (14 R735 to R738, R721 to R726; 09 R472 to R475; 15 R762 to R767; 18 R857 to R869, R885, R888;
19 R896 to R898). Each row runs the command in progress if it has the row's code. -/

namespace Sys2Proof.Machine

/-! ## The command table (14 R735) -/

/-- The ring that a command requires of a master. -/
def State.mailRing (s : State) (code : Nat) : Nat :=
  let managed (type obj : Nat) : Nat := if s.hostManaged type obj then 2 else 1
  let cap : CapWord := s.arg 4 ++ s.arg 3 ++ s.arg 2 ++ s.arg 1
  match code with
  | 0x20 | 0x21 => managed typeFlow (s.arg 0).toNat
  | 0x31 => managed (capType cap) (capObj cap)
  | 0x32 => managed (fieldOf (s.arg 0) 3 0) (fieldOf (s.arg 0) 19 4)
  | 0x40 | 0x41 | 0x61 => 1
  | 0x50 | 0x51 | 0x52 => managed typeKeySlot (s.arg 0).toNat
  | _ => 2

/-- The commands that the table lists. -/
def mailCodes : List Nat :=
  [0x00, 0x10, 0x11, 0x12, 0x20, 0x21, 0x22, 0x30, 0x31, 0x32, 0x40, 0x41, 0x50, 0x51, 0x52, 0x58, 0x60, 0x61, 0x70, 0x71]

/-- The cluster states in which a command runs. Isolated, the pair executes none (15 R783). -/
def State.mailState (s : State) (code : Nat) : Bool :=
  let st := s.get CLU_STAT.STATE
  match code with
  | 0x00 | 0x60 | 0x61 | 0x71 => st != 7
  | 0x10 | 0x12 | 0x50 | 0x51 | 0x52 | 0x58 | 0x70 => st == 2 || st == 3
  | _ => st == 3

/-- How many of the first argument registers a command takes. -/
def mailArity (code : Nat) : Nat :=
  match code with
  | 0x00 | 0x10 | 0x61 => 0
  | 0x11 | 0x41 | 0x50 | 0x58 => 2
  | 0x12 | 0x51 | 0x70 => 3
  | 0x31 => 5
  | _ => 1

/-- Bytes [a, a + n) lie in plates that the host port owns; while the plates are fused, in its region (10 R489, R496). -/
def State.hostBytes (s : State) (a n : Nat) : Bool :=
  if s.fused then inLoaderRegion a n
  else decide (a + n ≤ plateBytes) && (List.range (plateOf (a + n - 1) + 1)).all fun k => decide (k < plateOf a) || s.plateOwner k == 1

/-- The listed arguments keep to their row. -/
def State.mailArgs (s : State) (code : Nat) : Bool :=
  let a := (s.arg 0).toNat
  let b := (s.arg 1).toNat
  match code with
  | 0x11 => s.hostBytes a b
  | 0x12 => (s.arg 2).toNat ≤ 1 && (bitAt (s.arg 2) 0 || s.hostBytes a b)
  | 0x20 | 0x21 | 0x22 => decide (a < 4096)
  | 0x30 =>
    if bitAt (s.arg 0) 31 then fieldOf (s.arg 0) 30 9 == 0 && decide (fieldOf (s.arg 0) 3 0 < 12) && decide (fieldOf (s.arg 0) 8 4 ≤ 16)
    else decide (a < 2 ^ 20) && (capEntryAt (fieldOf (s.arg 0) 3 0) (fieldOf (s.arg 0) 19 4)).isSome
  | 0x31 => decide (a < 512) && decide (fieldOf (s.arg 0) 3 0 < 12) && decide (fieldOf (s.arg 0) 8 4 < 16)
  | 0x32 => decide (a < 2 ^ 20) && (capEntryAt (fieldOf (s.arg 0) 3 0) (fieldOf (s.arg 0) 19 4)).isSome
  | 0x40 => decide (a < 12)
  | 0x41 => decide (a < 12) && decide (b < 12)
  | 0x50 => decide (a < 64) && keyUsage b
  | 0x51 => decide (a < 64) && keyUsage b && s.hostBytes (s.arg 2).toNat 8
  | 0x52 => decide (a < 64)
  | 0x58 => decide (a < 16) && s.hostBytes b 176
  | 0x60 => s.hostBytes a 160
  | 0x70 => a % 64 == 0 && b % 64 == 0 && decide ((s.arg 2).toNat ≤ 1)
  | _ => true

/-- The arguments not listed are 0. -/
def State.mailZeros (s : State) (code : Nat) : Bool :=
  (List.range 8).all fun i => decide (i < mailArity code) || s.arg i == 0

/-- The commands that change the cluster and make a record of it (14 R737, 18 R879). -/
def mailChanges (code : Nat) : Bool :=
  [0x10, 0x11, 0x20, 0x21, 0x31, 0x32, 0x40, 0x41, 0x50, 0x51, 0x52, 0x58, 0x60, 0x61].contains code

/-- The kind of the record of a command refused for its ring (R472). -/
def mailKind (code : Nat) : Nat :=
  match code / 16 with
  | 2 => 0x04
  | 3 => 0x02
  | 4 => 0x0A
  | 5 => 0x06
  | _ => 0x08

/-- OBJECT, VALUE and AUX of the record of such a refusal, as its kind gives them (18 R879): `any` where the table says nothing of a
command that is not executed (log entry 60). A flow that has no record has any bound. -/
def State.deniedFields (s : State) (code : Nat) (any : Nat × Nat × Nat) : Nat × Nat × Nat :=
  let a := (s.arg 0).toNat
  let cap := s.arg 4 ++ s.arg 3 ++ s.arg 2 ++ s.arg 1
  match code with
  | 0x20 | 0x21 => (a, if a < 4096 then (s.reg (ADM_FBOUND a)).toNat else any.2.1, resDenied + 256 * bit (code == 0x20))
  | 0x31 => (capType cap + 16 * capObj cap + 2 ^ 20 * fieldOf (s.arg 0) 3 0 + 2 ^ 24 * fieldOf (s.arg 0) 8 4 + 2 ^ 29, any.2.1, 1)
  | 0x32 => (a % 2 ^ 20, any.2.1, 0)
  | 0x40 => (a, any.2.1, any.2.2)
  | 0x41 => (a, (s.arg 1).toNat, any.2.2)
  | 0x50 | 0x51 | 0x52 => (a, code, any.2.2)
  | 0x61 => (0x02000000 + any.1 % 2 ^ 24, any.2.1, any.2.2)
  | _ => any

/-- The record of a command refused for its ring, and its result (R472). -/
def State.mailDenied (s : State) (c : MailCommand) : State :=
  let f := s.fresh 96
  let d := f.2.deniedFields c.code (f.1.toNat % 2 ^ 32, f.1.toNat / 2 ^ 32 % 2 ^ 32, f.1.toNat / 2 ^ 64)
  (f.2.logChange (originCode c.origin) (mailKind c.code) 0 true d.1 d.2.1 d.2.2).mailDone resDenied [1]

/-- A result of LCADVANCE or DBGUNLOCK, for the tamper source TOKEN: consecutive TOKEN results are counted. -/
def State.countToken (s : State) (result : Nat) : State :=
  { s with security := { s.security with tokenFails := if result = resToken then s.security.tokenFails + 1 else 0 } }

/-- DBGUNLOCK refused: its record, a new nonce (19 R897, R922). -/
def State.unlockFails (s : State) (c : MailCommand) (result : Nat) : State :=
  (s.logChange (originCode c.origin) 0x08 0 false 0x03000000 result 0).newNonce.countToken result

/-- What a result of the checks below brings besides, for the commands with a token. Under the strict policy there is no record. -/
def State.gateNote (s : State) (c : MailCommand) (result : Nat) : State :=
  match c.code with
  | 0x58 => s.countToken result
  | 0x60 => if result = resDenied then s.newNonce.countToken result else s.unlockFails c result
  | _ => s

/-- A command that the checks refuse. -/
def State.gateDone (s : State) (c : MailCommand) (result : Nat) (args : List Word) : State := (s.gateNote c result).mailDone result args

/-- The checks that every command meets before its own (log entry 61): its ring, the state, its arguments, the strict policy. -/
def State.mailGate (s : State) (c : MailCommand) : Option State :=
  if s.mailRing c.code < c.ring then some (s.mailDenied c)
  else if !s.mailState c.code then some (s.gateDone c resState [])
  else if !s.mailZeros c.code || !s.mailArgs c.code then some (s.gateDone c resBadarg [])
  else if mailChanges c.code && s.logRefuses c.origin then some (s.gateDone c resDenied [2])
  else none

/-- The fields of a blob's first word ("KEYLOAD blob"). -/
def blobForm (b : List Byte) : Nat := ofLeBytes (b.take 1)
def blobSlot (b : List Byte) : Nat := ofLeBytes ((b.drop 1).take 1) % 64
def blobLen (b : List Byte) : Nat := ofLeBytes ((b.drop 2).take 1)

/-- The length of a blob with its head. -/
def blobBytes (b : List Byte) : Nat := 8 + blobLen b + 8 * blobForm b

/-- Bytes that a command reads lie in a plate that admits no new access of the Assistant pair (04 R219, 10 R493): it waits. -/
def State.mailHeld (s : State) (code : Nat) : Bool :=
  let a (i : Nat) : Nat := (s.arg i).toNat
  match code with
  | 0x11 => s.rangeHeld (a 0) (a 1)
  | 0x12 => !bitAt (s.arg 2) 0 && s.rangeHeld (a 0) (a 1)
  | 0x51 => s.rangeHeld (a 2) (blobBytes (s.bytes (a 2) 8))
  | 0x58 => s.rangeHeld (a 1) 176
  | 0x60 => s.rangeHeld (a 0) 160
  | _ => false

/-- The command in progress executed if it has a code (R473): its checks, and then what is its own. -/
def State.mail (s : State) (code : Nat) (run : MailCommand → State → State) : State :=
  match s.assistant.command with
  | some c =>
    if c.code = code ∧ s.pairRuns ∧ s.assistant.upgrade = none then (s.mailGate c).getD (if s.mailHeld code then s else run c s) else s
  | none => s

/-! ## Loads, amendments and checks (14 R725, R736) -/

/-- Flow f stops accepting: one whose source is a Finder rule when the rule's EN has committed, another at once (R723). -/
def State.stopFlow (s : State) (f : Nat) : State :=
  if s.flowSrck f = 0 then (s.setFlow f { s.flow f with asked := 2 }).askRule (s.flowSrcobj f) else s.withdrawFlow f

/-- Several flows stop accepting. -/
def State.stopFlows (s : State) : List Nat → State
  | [] => s
  | f :: fs => (s.stopFlow f).stopFlows fs

/-- LOAD: accepted. -/
def State.loadCommand (s : State) : State :=
  let t := s.mailDone resOk []
  ({ t with assistant := { t.assistant with loadAsked := true } } : State).stopFlows (t.flowNumbers.filter fun f => t.flowState f == 2)

/-- Every accepted item is delivered or tombstoned, and no flow has still to stop accepting (R736). -/
def State.allDrained (s : State) : Bool := s.flowNumbers.all fun f => s.flowDrained f && (s.flow f).asked != 2

/-- The results of a failed AMEND or CHECK; an offset that the failure does not have is free (log entry 66). -/
def State.imageFailed (s : State) (e : LoadError) (refused : Nat) : State :=
  let f := s.fresh 32
  let o : Word := match e.offset with
    | some o => BitVec.ofNat 32 o
    | none => f.1
  (f.2.setReg CHT_FAIL o).mailDone e.result [o, BitVec.ofNat 32 refused]

/-- The results of an AMEND or CHECK whose checks pass: ARG0 has no failure to tell and is free. -/
def State.imagePassed (s : State) (refused : Nat) : State :=
  let f := s.fresh 32
  f.2.mailDone resOk [f.1, BitVec.ofNat 32 refused]

/-- An image read for AMEND or CHECK from plates. -/
def State.mailImage (s : State) : Option (List Byte) × State :=
  if 0x380000 < (s.arg 1).toNat then (none, s) else s.plateRead 4 (s.arg 0).toNat (s.arg 1).toNat

/-- The result for another CHARTID or an old VERSION: free, not OK (log entry 66). -/
def State.otherResult (s : State) : Nat × State := (1 + (s.fresh 4).1.toNat, (s.fresh 4).2)

/-- AMEND failed. -/
def State.amendFailed (s : State) (img : Option (List Byte)) (e : LoadError) : State :=
  let r := s.refusedBy e
  ((r.2.loadRecord img e.result r.1 e.fcode).conflictEvent e.fcode).imageFailed e r.1

/-- AMEND (R725). -/
def State.amendCommand (s : State) : State :=
  match s.mailImage with
  | (none, t) => t.amendFailed none (LoadError.global resSource)
  | (some img, t) =>
    match t.otherResult.2.tryAmend img t.otherResult.1 with
    | .error e => t.otherResult.2.amendFailed (some img) e
    | .ok l =>
      let u := (l.state.setReg CHT_VER (imgVersion img)).put CHT_STAT.AMENDED 1
      (u.loadRecord (some img) resOk l.refused 0).imagePassed l.refused

/-- What a CHECK of an image finds: an amendment is checked against the chart in force, a full image against a cluster in reset. -/
def State.checkOf (s : State) (img : List Byte) (other : Nat) : Except LoadError Loaded :=
  if imgAmend img then s.tryAmend img other else s.clusterReset.enterLoading.tryChart img

/-- CHECK (R735): nothing is applied. -/
def State.checkCommand (s : State) (ext : List Byte) (error : Bool) : State :=
  let read := if !bitAt (s.arg 2) 0 then s.mailImage
    else if error || decide (0x380000 < (s.arg 1).toNat) then (none, s) else (some (ext.take (s.arg 1).toNat), s)
  match read with
  | (none, t) => t.imageFailed (LoadError.global resSource) 0
  | (some img, t) =>
    match t.otherResult.2.checkOf img t.otherResult.1 with
    | .error e => (t.otherResult.2.refusedBy e).2.imageFailed e (t.otherResult.2.refusedBy e).1
    | .ok l => t.otherResult.2.imagePassed l.refused

/-! ## Flows (14 R721 to R724) -/

/-- Word ARG2 of ADMIT: the term, and the engine or port. -/
def termWord (code : Nat) (arg : Option Nat) : Word := BitVec.ofNat 32 (code + 256 * arg.getD 0)

/-- The record of an admission or a withdrawal (18 R879). -/
def State.flowRecord (s : State) (c : MailCommand) (f result : Nat) (admission : Bool) : State :=
  s.logChange (originCode c.origin) 0x04 0 (result != 0) f (s.reg (ADM_FBOUND f)).toNat (result + 256 * bit admission)

/-- The results of ADMIT. -/
def State.admitDone (s : State) (c : MailCommand) (f result : Nat) (term : Word) : State :=
  let t := (s.put (ADM_FSTATE.LASTRES f) result).flowRecord c f result true
  t.mailDone result [t.reg (ADM_FBOUND f), BitVec.ofNat 32 (t.flowDeadline f), term]

/-- Flow f proved: its entries and, at the result, its activation; that of a Finder rule's flow comes with its EN (R721, R722). -/
def State.admitted (s : State) (c : MailCommand) (f : Nat) (vs : List Verdict) : State :=
  let t := s.putVerdicts vs
  let term := ((vs.find? fun v => v.flow == f).map fun v => termWord v.largest.code v.largest.arg).getD 0
  match t.createEntries f with
  | none => s.admitDone c f resCapacity term
  | some u =>
    let w := if u.flowSrck f = 0 then (u.setFlow f { u.flow f with asked := 1 }).askRule (u.flowSrcobj f) else u.activateFlow f
    w.admitDone c f resOk term

/-- ADMIT. -/
def State.admitCommand (s : State) (c : MailCommand) (f : Nat) : State :=
  if s.flowState f = 0 then s.mailDone resNoflow []
  else if s.flowState f ≠ 1 then s.mailDone resState []
  else
    match s.verify (f :: s.activeFlows) with
    | .error e => (s.putRefusal f e).admitDone c f resUnproven (termWord e.code e.arg)
    | .ok vs => s.admitted c f vs

/-- The items of flow f accepted and neither delivered nor tombstoned. -/
def State.openItems (s : State) (f : Nat) : Nat := s.itemsAccepted f + (s.flow f).inFlight

/-- WITHDRAW. -/
def State.withdrawCommand (s : State) (c : MailCommand) (f : Nat) : State :=
  if s.flowState f = 0 then s.mailDone resNoflow []
  else if s.flowState f ≠ 2 then s.mailDone resState []
  else
    let t := (s.stopFlow f).flowRecord c f resOk false
    t.mailDone resOk [BitVec.ofNat 32 (t.openItems f)]

/-- FLOWQUERY. -/
def State.flowQuery (s : State) (f : Nat) : State :=
  if s.flowState f = 0 then s.mailDone resNoflow []
  else s.mailDone resOk [s.reg (ADM_FSTATE f), s.reg (ADM_FBOUND f), BitVec.ofNat 32 (s.flowDeadline f)]

/-! ## Capabilities (09 R474, R475) -/

/-- CAPQUERY. -/
def State.capQuery (s : State) : State :=
  let a := s.arg 0
  if bitAt a 31 then
    let c := s.cap (fieldOf a 3 0) (fieldOf a 8 4)
    s.mailDone resOk ((List.range 4).map fun i => c.extractLsb' (32 * i) 32)
  else
    let g := s.gen (fieldOf a 3 0) (fieldOf a 19 4)
    s.mailDone resOk [BitVec.ofNat 32 (g + 65536 * bit (s.hostManaged (fieldOf a 3 0) (fieldOf a 19 4)))]

/-- The capability that GRANT's arguments spell. -/
def State.argCap (s : State) : CapWord := s.arg 4 ++ s.arg 3 ++ s.arg 2 ++ s.arg 1

/-- GRANT. -/
def State.grantCommand (s : State) (m : MailCommand) : State :=
  let e := fieldOf (s.arg 0) 3 0
  let k := fieldOf (s.arg 0) 8 4
  let c := s.issued s.argCap
  if !s.grantAllowed e s.argCap || s.grantClashes e c then (s.conflictEvent 0x10).mailDone resConflict []
  else
    ((s.commitCap e k c).logChange (originCode m.origin) 0x02 0 false (capType c + 16 * capObj c + 2 ^ 20 * e + 2 ^ 24 * k + 2 ^ 29)
      (capGen c) 1).mailDone resOk []

/-- REVOKE. -/
def State.revokeCommand (s : State) (m : MailCommand) : State :=
  let type := fieldOf (s.arg 0) 3 0
  let obj := fieldOf (s.arg 0) 19 4
  let t := s.revoke (originCode m.origin) type obj 0
  t.mailDone resOk [BitVec.ofNat 32 (t.gen type obj)]

/-! ## Engines (15 R762 to R767) -/

/-- FAILOVER. The manual names no fault as the cause of a commanded one: 0x00; the time of ARG3 is free (log entry 63). One that is
abandoned has the result of one without a spare (R766; log entry 63). -/
def State.failoverCommand (s : State) : State :=
  match s.failOver (s.arg 0).toNat 0 with
  | (none, _, _, t) => t.mailDone resState []
  | (some sp, moved, breaches, t) =>
    (t.fresh 32).2.mailDone resOk [BitVec.ofNat 32 sp, BitVec.ofNat 32 moved, BitVec.ofNat 32 breaches, (t.fresh 32).1]

/-- Engine sp may take over from e (R767). -/
def State.upgradeFits (s : State) (e sp : Nat) : Bool :=
  s.role e == 1 && s.role sp == 2 && s.stopped sp && ((s.stageOf e).isNone || sp / 4 == e / 4)

/-- UPGRADE: the command stays in progress until CUT_OVER or CUT_OVER_TIMEOUT. -/
def State.upgradeCommand (s : State) : State :=
  let e := (s.arg 0).toNat
  let sp := (s.arg 1).toNat
  if !s.upgradeFits e sp then s.mailDone resState []
  else if !s.upgradeProven e sp then s.mailDone resUnproven []
  else
    let t := s.setCutReq e true
    { t with assistant := { t.assistant with upgrade := some { eng := e, spare := sp, edge := t.rgl.edge } } }

/-! ## Keys (18 R856, R866 to R869) -/

/-- The life-cycle state accepts key commands (R856). -/
def State.keysAccepted (s : State) : Bool := s.get SEC_LCS.STATE == 2 || s.get SEC_LCS.STATE == 3

/-- The record of a key command. -/
def State.keyRecord (s : State) (m : MailCommand) (i kcv : Nat) : State :=
  s.logChange (originCode m.origin) 0x06 0 false i m.code kcv

/-- A slot filled by a command, with its record and its key check value. -/
def State.keyFilled (s : State) (m : MailCommand) (i usage : Nat) (key : BitVec 256) : State :=
  let t := s.fillSlot i usage key
  let v := t.get (SEC_SLOT.KCV i)
  (t.keyRecord m i v).mailDone resOk [BitVec.ofNat 32 v]

/-- KEYGEN: the key is the random source's. -/
def State.keyGen (s : State) (m : MailCommand) (i usage : Nat) : State :=
  if !s.keysAccepted then s.mailDone resState []
  else if s.slotFull i then s.mailDone resSlot []
  else (s.fresh 256).2.keyFilled m i usage (s.fresh 256).1

/-- The head of a blob for a key of a usage keeps to its form. -/
def blobGood (b : List Byte) (usage : Nat) : Bool :=
  decide (blobForm b ≤ 1) && ofLeBytes ((b.drop 3).take 5) == 0 && blobLen b == keyBytes usage

/-- The key of a blob whose bytes are `body` (R866, R867), or the result that refuses it. -/
def State.blobKey (s : State) (b body : List Byte) : Except Nat (BitVec 256) :=
  if blobForm b = 0 then .ok (BitVec.ofNat 256 (ofLeBytes body))
  else if !s.slotFull (blobSlot b) || s.get (SEC_SLOT.USAGE (blobSlot b)) != 4 then .error resSlot
  else match unwrapKey (s.keyOf (blobSlot b)) body with
    | some k => .ok (BitVec.ofNat 256 (ofLeBytes k))
    | none => .error resToken

/-- KEYLOAD of a blob whose head has been read. A blob that cannot be read has result SOURCE (log entry 61). -/
def State.keyLoadBlob (s : State) (m : MailCommand) (i usage a : Nat) (b : List Byte) : State :=
  if !blobGood b usage || !s.hostBytes a (blobBytes b) then s.mailDone resBadarg []
  else match s.plateRead 4 (a + 8) (blobBytes b - 8) with
    | (none, t) => t.mailDone resSource []
    | (some body, t) =>
      match t.blobKey b body with
      | .error r => t.mailDone r []
      | .ok k => t.keyFilled m i usage k

/-- KEYLOAD. -/
def State.keyLoad (s : State) (m : MailCommand) (i usage a : Nat) : State :=
  if !s.keysAccepted then s.mailDone resState []
  else if s.slotFull i then s.mailDone resSlot []
  else match s.plateRead 4 a 8 with
    | (none, t) => t.mailDone resSource []
    | (some b, t) => t.keyLoadBlob m i usage a b

/-- KEYERASE: its record gives the key check value that the slot had (log entry 52). -/
def State.keyErase (s : State) (m : MailCommand) (i : Nat) : State :=
  if !s.keysAccepted then s.mailDone resState []
  else ((s.emptySlot i).keyRecord m i (s.get (SEC_SLOT.KCV i))).mailDone resOk []

/-! ## Tokens -/

/-- Word of a token. -/
def tokenWord (b : List Byte) (o : Nat) : Word := imgWord b o

/-- SERIAL of a token at offset 0x08 is the device's. -/
def State.tokenSerial (s : State) (b : List Byte) : Bool := tokenWord b 8 == s.reg SEC_SERIAL0 && tokenWord b 12 == s.reg SEC_SERIAL1

/-- The bytes of a token, zero where an uncorrectable error hides them (10 R505; log entry 61). -/
def State.tokenBytes (s : State) (a n : Nat) : List Byte × State :=
  ((s.plateRead 4 a n).1.getD (List.replicate n 0), (s.plateRead 4 a n).2)

/-- The signature of a token over its first n bytes, the key at k and (r, s) after it. -/
def tokenSigned (b : List Byte) (n k : Nat) : Bool := signatureGood ((b.drop k).take 64) (b.take n) ((b.drop (k + 64)).take 64)

/-! ## The life cycle (18 R857 to R859) -/

/-- The transitions that LCADVANCE makes (R857). -/
def lcTransition (from_ dst : Nat) : Bool := [(1, 2), (2, 3), (2, 4), (3, 4), (0xF, 4)].contains (from_, dst)

/-- The hash of a key is that of the key which a transition from a state names. -/
def State.lcKey (s : State) (from_ : Nat) (h : BitVec 256) : Bool := if from_ = 1 then h == Config.vendorKeyHash else s.keyHashIs h

/-- R858. -/
def State.lcToken (s : State) (from_ dst : Nat) (b : List Byte) : Bool :=
  tokenWord b 0 == 0x4B54434C && fieldOf (tokenWord b 4) 3 0 == from_ && fieldOf (tokenWord b 4) 7 4 == dst && s.tokenSerial b &&
    s.lcKey from_ (sha256 ((b.drop 0x30).take 64)) && tokenSigned b 0x30 0x30

/-- The new state programmed, for BLANK to DEVELOP with the chart-signing key hash (R859). -/
def State.programLcs (s : State) (from_ dst : Nat) (b : List Byte) : State :=
  let t := s.put SEC_LCS.STATE dst
  let t := if from_ = 1 then (t.setRegs ((List.range 8).map fun i => (SEC_KHASH i, tokenWord b (0x10 + 4 * i)))).put SEC_LCS.KHV 1 else t
  { t with security := { t.security with keysLcs := dst } }

/-- R859: the record, the result, and the steps that follow; the session closes with the transition (19 R898). -/
def State.lcAccepted (s : State) (from_ dst : Nat) (b : List Byte) : State :=
  let t := (s.logChange (originCode .lifeCycle) 0x07 0 false (from_ + 16 * dst) 0 0 |>.registerEvent 254).mailDone resOk []
  let t := ((t.emptySlots (List.range 64)).programLcs from_ dst b).closeSession 3 (originCode .lifeCycle)
  t.placeAll.wipe.resetWith 2

/-- LCADVANCE. -/
def State.lcAdvance (s : State) : State :=
  let from_ := s.get SEC_LCS.STATE
  let dst := (s.arg 0).toNat
  if s.on ADM_STAT.ACTIVE || !lcTransition from_ dst then (s.countToken resState).mailDone resState []
  else
    let r := s.tokenBytes (s.arg 1).toNat 176
    if !r.2.lcToken from_ dst r.1 then (r.2.countToken resToken).mailDone resToken []
    else (r.2.countToken resOk).lcAccepted from_ dst r.1

/-! ## Debug sessions (19 R896 to R898) -/

/-- R896's checks of a token. -/
def State.unlockToken (s : State) (b : List Byte) : Bool :=
  tokenWord b 0 == 0x47444245 && fieldOf (tokenWord b 4) 15 7 == 0 && s.tokenSerial b &&
    tokenWord b 0x10 == s.reg EYE_NONCE0 && tokenWord b 0x14 == s.reg EYE_NONCE1 &&
    s.keyHashIs (sha256 ((b.drop 0x20).take 64)) && tokenSigned b 0x20 0x20

/-- A session opens. -/
def State.openSession (s : State) (m : MailCommand) (rights duration : Nat) : State :=
  let left := if duration = 0 then none else some duration
  let t := s.logChange (originCode m.origin) 0x08 0 false (2 ^ 24 + rights) duration (s.reg EYE_NONCE0).toNat
  let t := (t.put EYE_STAT.SESS 1).setReg EYE_SESS (BitVec.ofNat 32 (rights + 65536 * remainField left))
  let t := ({ t with eyepiece := { t.eyepiece with aonCount := 0, left := left } } : State).newNonce
  (t.countToken resOk).mailDone resOk [BitVec.ofNat 32 rights, BitVec.ofNat 32 (remainField left)]

/-- DBGUNLOCK that the gate lets through. -/
def State.dbgUnlock (s : State) (m : MailCommand) : State :=
  if !(s.get SEC_LCS.STATE == 2 || s.get SEC_LCS.STATE == 3) || s.on EYE_STAT.SESS then (s.unlockFails m resState).mailDone resState []
  else
    let r := s.tokenBytes (s.arg 0).toNat 160
    if !r.2.unlockToken r.1 then (r.2.unlockFails m resToken).mailDone resToken []
    else r.2.openSession m (fieldOf (tokenWord r.1 4) 15 0) (tokenWord r.1 0x18).toNat

/-! ## The commands -/

/-- NOP. -/
def execNop (s : State) : Host.Outcome State Fault Refusal := .next (s.mail 0x00 fun _ t => t.mailDone resOk [t.reg CLU_STEP])

/-- LOAD. -/
def execLoad (s : State) : Host.Outcome State Fault Refusal := .next (s.mail 0x10 fun _ t => t.loadCommand)

/-- LOAD_RESET (R736): a LOAD has been accepted and every item is delivered or tombstoned. -/
def execLoadReset (s : State) : Host.Outcome State Fault Refusal :=
  .next (if s.assistant.loadAsked && s.pairRuns && s.allDrained then s.placeAll.resetWith 2 else s)

/-- AMEND: its bumps are of one edge (09 R461). -/
def execAmend (s : State) : Host.Outcome State Fault Refusal := .next (s.inTick false fun u => u.mail 0x11 fun _ t => t.amendCommand)

/-- CHECK: `ext` are the bytes at an external address, `error` an ERROR response to their reading. -/
def execCheck (ext : List Byte) (error : Bool) (s : State) : Host.Outcome State Fault Refusal :=
  .next (s.mail 0x12 fun _ t => t.checkCommand ext error)

/-- ADMIT. -/
def execAdmit (s : State) : Host.Outcome State Fault Refusal := .next (s.mail 0x20 fun c t => t.admitCommand c (t.arg 0).toNat)

/-- WITHDRAW. -/
def execWithdraw (s : State) : Host.Outcome State Fault Refusal := .next (s.mail 0x21 fun c t => t.withdrawCommand c (t.arg 0).toNat)

/-- FLOWQUERY. -/
def execFlowquery (s : State) : Host.Outcome State Fault Refusal := .next (s.mail 0x22 fun _ t => t.flowQuery (t.arg 0).toNat)

/-- CAPQUERY. -/
def execCapquery (s : State) : Host.Outcome State Fault Refusal := .next (s.mail 0x30 fun _ t => t.capQuery)

/-- GRANT. -/
def execGrant (s : State) : Host.Outcome State Fault Refusal := .next (s.mail 0x31 fun c t => t.grantCommand c)

/-- REVOKE: the first command of its tick for the bumps of one edge (09 R461; log entry 82). -/
def execRevoke (s : State) : Host.Outcome State Fault Refusal := .next (s.inTick false fun u => u.mail 0x32 fun c t => t.revokeCommand c)

/-- FAILOVER. -/
def execFailover (s : State) : Host.Outcome State Fault Refusal :=
  .next (s.mail 0x40 fun _ t => t.failoverCommand)

/-- UPGRADE. -/
def execUpgrade (s : State) : Host.Outcome State Fault Refusal := .next (s.mail 0x41 fun _ t => t.upgradeCommand)

/-- KEYGEN. -/
def execKeygen (s : State) : Host.Outcome State Fault Refusal :=
  .next (s.mail 0x50 fun c t => t.keyGen c (t.arg 0).toNat (t.arg 1).toNat)

/-- KEYLOAD. -/
def execKeyload (s : State) : Host.Outcome State Fault Refusal :=
  .next (s.mail 0x51 fun c t => t.keyLoad c (t.arg 0).toNat (t.arg 1).toNat (t.arg 2).toNat)

/-- KEYERASE. -/
def execKeyerase (s : State) : Host.Outcome State Fault Refusal := .next (s.mail 0x52 fun c t => t.keyErase c (t.arg 0).toNat)

/-- LCADVANCE. -/
def execLcadvance (s : State) : Host.Outcome State Fault Refusal := .next (s.mail 0x58 fun _ t => t.lcAdvance)

/-- DBGUNLOCK: each one takes a new nonce, whatever its result (R897). -/
def execDbgunlock (s : State) : Host.Outcome State Fault Refusal := .next (s.mail 0x60 fun c t => t.dbgUnlock c)

/-- DBGLOCK. -/
def execDbglock (s : State) : Host.Outcome State Fault Refusal :=
  .next (s.mail 0x61 fun c t => (t.closeSession 0 (originCode c.origin)).mailDone resOk [])

/-- LOGSPILL. -/
def execLogspill (s : State) : Host.Outcome State Fault Refusal :=
  .next (s.mail 0x70 fun _ t => (t.setSpill (t.arg 0) (t.arg 1) (bitAt (t.arg 2) 0)).mailDone resOk [])

/-- LOGREAD (18 R888). A record that cannot be read has result SOURCE (log entry 61). -/
def execLogread (s : State) : Host.Outcome State Fault Refusal :=
  .next (s.mail 0x71 fun _ t => if !t.hasRecord (t.arg 0) then t.mailDone resNorec []
    else match t.readRecord (t.arg 0) with
    | (some ws, u) => u.mailDone resOk ws
    | (none, u) => u.mailDone resSource [])

/-- UNKNOWN_COMMAND: a code that the table does not list. -/
def execUnknownCommand (s : State) : Host.Outcome State Fault Refusal :=
  .next (match s.assistant.command with
    | some c => if !mailCodes.contains c.code && s.pairRuns then s.mailDone resUnknown [] else s
    | none => s)

end Sys2Proof.Machine
end

