-- ==== Sys2Proof/Machine/Microwords.lean ====
section
/-! DEFINITION. The microword rows: each runs the microword at ENG_UPC when that microword holds the row's operation (log entry
33). What the microword does is Machine/Engine.lean. -/

namespace Sys2Proof.Machine

/-! ## Sequencer (05 R242) -/

/-- JMP (R242): Next address is NEXT. -/
def execJmp (e : Fin 12) (s : State) : Host.Outcome State Fault Refusal :=
  .next (s.microRow e fun w => w.seq == 0x0)

/-- BR (R187): Next address is NEXT merged with condition bits. -/
def execBr (e : Fin 12) (s : State) : Host.Outcome State Fault Refusal :=
  .next (s.microRow e fun w => w.seq == 0x1)

/-- CALL (R182): Jump to NEXT and write the return address to the link register. -/
def execCall (e : Fin 12) (s : State) : Host.Outcome State Fault Refusal :=
  .next (s.microRow e fun w => w.seq == 0x2)

/-- CALL_BR (R242): Multi-way branch that also writes the link register. -/
def execCallBr (e : Fin 12) (s : State) : Host.Outcome State Fault Refusal :=
  .next (s.microRow e fun w => w.seq == 0x3)

/-- RTS (R242): Return to the link register. -/
def execRts (e : Fin 12) (s : State) : Host.Outcome State Fault Refusal :=
  .next (s.microRow e fun w => w.seq == 0x4)

/-- WAIT (R243): Stall until the CSEL0 condition is 1, then go to NEXT. -/
def execWait (e : Fin 12) (s : State) : Host.Outcome State Fault Refusal :=
  .next (s.microRow e fun w => w.seq == 0x5)

/-- WAIT_BR (R244): Stall until any selected condition is 1, then branch. -/
def execWaitBr (e : Fin 12) (s : State) : Host.Outcome State Fault Refusal :=
  .next (s.microRow e fun w => w.seq == 0x6)

/-- LOOP (R245): Test and decrement the loop counter to choose NEXT or NEXT OR 1. -/
def execLoop (e : Fin 12) (s : State) : Host.Outcome State Fault Refusal :=
  .next (s.microRow e fun w => w.seq == 0x7)

/-- JMP_R (R246): Jump to A operand bits [12:0]. -/
def execJmpR (e : Fin 12) (s : State) : Host.Outcome State Fault Refusal :=
  .next (s.microRow e fun w => w.seq == 0x8)

/-- RET_E (R315): Return from an event level, freeing its bank and choosing the next level. -/
def execRetE (e : Fin 12) (s : State) : Host.Outcome State Fault Refusal :=
  .next (s.microRow e fun w => w.seq == 0x9)

/-- RET_X (R317): Return from PF to the interrupted level at LINK. -/
def execRetX (e : Fin 12) (s : State) : Host.Outcome State Fault Refusal :=
  .next (s.microRow e fun w => w.seq == 0xA)

/-! ## Datapath (05 R252) -/

/-- PASSA (R252): ALU passes A. -/
def execPassa (e : Fin 12) (s : State) : Host.Outcome State Fault Refusal :=
  .next (s.microRow e fun w => w.alu == 0x1)

/-- PASSB (R252): ALU passes shifted B. -/
def execPassb (e : Fin 12) (s : State) : Host.Outcome State Fault Refusal :=
  .next (s.microRow e fun w => w.alu == 0x2)

/-- ADD (R252): ALU A + B. -/
def execAdd (e : Fin 12) (s : State) : Host.Outcome State Fault Refusal :=
  .next (s.microRow e fun w => w.alu == 0x3)

/-- ADC (R254): ALU A + B + C. -/
def execAdc (e : Fin 12) (s : State) : Host.Outcome State Fault Refusal :=
  .next (s.microRow e fun w => w.alu == 0x4)

/-- SUB (R252): ALU A − B. -/
def execSub (e : Fin 12) (s : State) : Host.Outcome State Fault Refusal :=
  .next (s.microRow e fun w => w.alu == 0x5)

/-- SBC (R254): ALU A − B − (1 − C). -/
def execSbc (e : Fin 12) (s : State) : Host.Outcome State Fault Refusal :=
  .next (s.microRow e fun w => w.alu == 0x6)

/-- RSB (R252): ALU B − A. -/
def execRsb (e : Fin 12) (s : State) : Host.Outcome State Fault Refusal :=
  .next (s.microRow e fun w => w.alu == 0x7)

/-- AND (R252): ALU A AND B. -/
def execAnd (e : Fin 12) (s : State) : Host.Outcome State Fault Refusal :=
  .next (s.microRow e fun w => w.alu == 0x8)

/-- OR (R252): ALU A OR B. -/
def execOr (e : Fin 12) (s : State) : Host.Outcome State Fault Refusal :=
  .next (s.microRow e fun w => w.alu == 0x9)

/-- XOR (R252): ALU A XOR B. -/
def execXor (e : Fin 12) (s : State) : Host.Outcome State Fault Refusal :=
  .next (s.microRow e fun w => w.alu == 0xA)

/-- ANDN (R252): ALU A AND NOT B. -/
def execAndn (e : Fin 12) (s : State) : Host.Outcome State Fault Refusal :=
  .next (s.microRow e fun w => w.alu == 0xB)

/-- NOT (R252): ALU NOT B. -/
def execNot (e : Fin 12) (s : State) : Host.Outcome State Fault Refusal :=
  .next (s.microRow e fun w => w.alu == 0xC)

/-- NEG (R252): ALU 0 − B. -/
def execNeg (e : Fin 12) (s : State) : Host.Outcome State Fault Refusal :=
  .next (s.microRow e fun w => w.alu == 0xD)

/-- MIN (R252): ALU signed minimum. -/
def execMin (e : Fin 12) (s : State) : Host.Outcome State Fault Refusal :=
  .next (s.microRow e fun w => w.alu == 0xE)

/-- MAX (R252): ALU signed maximum. -/
def execMax (e : Fin 12) (s : State) : Host.Outcome State Fault Refusal :=
  .next (s.microRow e fun w => w.alu == 0xF)

/-- MINU (R252): ALU unsigned minimum. -/
def execMinu (e : Fin 12) (s : State) : Host.Outcome State Fault Refusal :=
  .next (s.microRow e fun w => w.alu == 0x10)

/-- MAXU (R252): ALU unsigned maximum. -/
def execMaxu (e : Fin 12) (s : State) : Host.Outcome State Fault Refusal :=
  .next (s.microRow e fun w => w.alu == 0x11)

/-- CMP (R252): ALU flags of A − B without result. -/
def execCmp (e : Fin 12) (s : State) : Host.Outcome State Fault Refusal :=
  .next (s.microRow e fun w => w.alu == 0x12)

/-- TST (R252): ALU flags of A AND B without result. -/
def execTst (e : Fin 12) (s : State) : Host.Outcome State Fault Refusal :=
  .next (s.microRow e fun w => w.alu == 0x13)

/-- MUL (R252): ALU low 32 bits of A × B. -/
def execMul (e : Fin 12) (s : State) : Host.Outcome State Fault Refusal :=
  .next (s.microRow e fun w => w.alu == 0x14)

/-- MULH (R252): ALU high 32 bits of signed A × B. -/
def execMulh (e : Fin 12) (s : State) : Host.Outcome State Fault Refusal :=
  .next (s.microRow e fun w => w.alu == 0x15)

/-- MULHU (R252): ALU high 32 bits of unsigned A × B. -/
def execMulhu (e : Fin 12) (s : State) : Host.Outcome State Fault Refusal :=
  .next (s.microRow e fun w => w.alu == 0x16)

/-- CLZ (R252): ALU count of leading zeros of B. -/
def execClz (e : Fin 12) (s : State) : Host.Outcome State Fault Refusal :=
  .next (s.microRow e fun w => w.alu == 0x17)

/-- POPC (R252): ALU number of ones in B. -/
def execPopc (e : Fin 12) (s : State) : Host.Outcome State Fault Refusal :=
  .next (s.microRow e fun w => w.alu == 0x18)

/-- BREV (R252): ALU bit reversal of B. -/
def execBrev (e : Fin 12) (s : State) : Host.Outcome State Fault Refusal :=
  .next (s.microRow e fun w => w.alu == 0x19)

/-- SEXT_B (R252): ALU sign-extends B[7:0]. -/
def execSextB (e : Fin 12) (s : State) : Host.Outcome State Fault Refusal :=
  .next (s.microRow e fun w => w.alu == 0x1A)

/-- SEXT_H (R252): ALU sign-extends B[15:0]. -/
def execSextH (e : Fin 12) (s : State) : Host.Outcome State Fault Refusal :=
  .next (s.microRow e fun w => w.alu == 0x1B)

/-- SHL (R253): ALU shifts A left by B[4:0]. -/
def execShl (e : Fin 12) (s : State) : Host.Outcome State Fault Refusal :=
  .next (s.microRow e fun w => w.alu == 0x1C)

/-- SHR (R253): ALU shifts A right logically by B[4:0]. -/
def execShr (e : Fin 12) (s : State) : Host.Outcome State Fault Refusal :=
  .next (s.microRow e fun w => w.alu == 0x1D)

/-- SAR (R253): ALU shifts A right arithmetically by B[4:0]. -/
def execSar (e : Fin 12) (s : State) : Host.Outcome State Fault Refusal :=
  .next (s.microRow e fun w => w.alu == 0x1E)

/-- ROR (R253): ALU rotates A right by B[4:0]. -/
def execRor (e : Fin 12) (s : State) : Host.Outcome State Fault Refusal :=
  .next (s.microRow e fun w => w.alu == 0x1F)

/-- CSUM16 (R252): ALU ones' complement sum of 16-bit halves. -/
def execCsum16 (e : Fin 12) (s : State) : Host.Outcome State Fault Refusal :=
  .next (s.microRow e fun w => w.alu == 0x20)

/-! ## Memory (05 R262) -/

/-- LD_B (R262): Load a plate byte into DST. -/
def execLdB (e : Fin 12) (s : State) : Host.Outcome State Fault Refusal :=
  .next (s.microRow e fun w => w.mem == 0x1)

/-- LD_H (R262): Load a plate halfword into DST. -/
def execLdH (e : Fin 12) (s : State) : Host.Outcome State Fault Refusal :=
  .next (s.microRow e fun w => w.mem == 0x2)

/-- LD_W (R262): Load a plate word into DST. -/
def execLdW (e : Fin 12) (s : State) : Host.Outcome State Fault Refusal :=
  .next (s.microRow e fun w => w.mem == 0x3)

/-- LD_D (R262): Load 64 plate bits into a Lens register. -/
def execLdD (e : Fin 12) (s : State) : Host.Outcome State Fault Refusal :=
  .next (s.microRow e fun w => w.mem == 0x4)

/-- ST_B (R262): Store a byte to the plate. -/
def execStB (e : Fin 12) (s : State) : Host.Outcome State Fault Refusal :=
  .next (s.microRow e fun w => w.mem == 0x5)

/-- ST_H (R262): Store a halfword to the plate. -/
def execStH (e : Fin 12) (s : State) : Host.Outcome State Fault Refusal :=
  .next (s.microRow e fun w => w.mem == 0x6)

/-- ST_W (R262): Store a word to the plate. -/
def execStW (e : Fin 12) (s : State) : Host.Outcome State Fault Refusal :=
  .next (s.microRow e fun w => w.mem == 0x7)

/-- ST_D (R262): Store a Lens register to the plate. -/
def execStD (e : Fin 12) (s : State) : Host.Outcome State Fault Refusal :=
  .next (s.microRow e fun w => w.mem == 0x8)

/-- ADD_A (R204): Atomic add of a plate word returning the old value. -/
def execAddA (e : Fin 12) (s : State) : Host.Outcome State Fault Refusal :=
  .next (s.microRow e fun w => w.mem == 0x9)

/-- SWP_A (R204): Atomic swap of a plate word returning the old value. -/
def execSwpA (e : Fin 12) (s : State) : Host.Outcome State Fault Refusal :=
  .next (s.microRow e fun w => w.mem == 0xA)

/-- CRCBLK (R267): Resumable CRC over a plate byte range. -/
def execCrcblk (e : Fin 12) (s : State) : Host.Outcome State Fault Refusal :=
  .next (s.microRow e fun w => w.mem == 0xB)

/-- MOVBLK (R266): Resumable copy of a plate byte range. -/
def execMovblk (e : Fin 12) (s : State) : Host.Outcome State Fault Refusal :=
  .next (s.microRow e fun w => w.mem == 0xC)

/-- SUMBLK (R268): Resumable ones' complement sum over a plate range. -/
def execSumblk (e : Fin 12) (s : State) : Host.Outcome State Fault Refusal :=
  .next (s.microRow e fun w => w.mem == 0xD)

/-- BRD (R209): Issue a bulk read from external memory into a plate, allocating a tag. -/
def execBrd (e : Fin 12) (s : State) : Host.Outcome State Fault Refusal :=
  .next (s.microRow e fun w => w.mem == 0xE)

/-- BWR (R209): Issue a bulk write from a plate to external memory, allocating a tag. -/
def execBwr (e : Fin 12) (s : State) : Host.Outcome State Fault Refusal :=
  .next (s.microRow e fun w => w.mem == 0xF)

/-- BWAIT (R214): Stall until a named bulk tag completes. -/
def execBwait (e : Fin 12) (s : State) : Host.Outcome State Fault Refusal :=
  .next (s.microRow e fun w => w.mem == 0x10)

/-- BWAIT_ALL (R214): Stall until every bulk tag completes. -/
def execBwaitAll (e : Fin 12) (s : State) : Host.Outcome State Fault Refusal :=
  .next (s.microRow e fun w => w.mem == 0x11)

/-- SAVE_LO (R333): Store or load a level's bank and C8–C15 to or from its save-area record. -/
def execSaveLo (e : Fin 12) (s : State) : Host.Outcome State Fault Refusal :=
  .next (s.microRow e fun w => w.mem == 0x12)

/-- SAVE_HI (R336): Store or load the Lens registers to or from a save-area record. -/
def execSaveHi (e : Fin 12) (s : State) : Host.Outcome State Fault Refusal :=
  .next (s.microRow e fun w => w.mem == 0x13)

/-- CAP_DRV (R451): Derive a narrower capability into a capability register. -/
def execCapDrv (e : Fin 12) (s : State) : Host.Outcome State Fault Refusal :=
  .next (s.microRow e fun w => w.mem == 0x14)

/-- CAP_REV (R460): Revoke an object by bumping its generation. -/
def execCapRev (e : Fin 12 × Bool) (s : State) : Host.Outcome State Fault Refusal :=
  .next (s.inTick e.2 fun t => t.microRow e.1 fun w => w.mem == 0x15)

/-- CAP_CLR (R262): Make a capability register null. -/
def execCapClr (e : Fin 12) (s : State) : Host.Outcome State Fault Refusal :=
  .next (s.microRow e fun w => w.mem == 0x16)

/-- CAP_RD (R448): Read one word of a capability register. -/
def execCapRd (e : Fin 12) (s : State) : Host.Outcome State Fault Refusal :=
  .next (s.microRow e fun w => w.mem == 0x17)

/-! ## Queues and handoff (05 R269) -/

/-- ENQ (R520): Enqueue a descriptor on the capability's queue, or set QFAIL. -/
def execEnq (e : Fin 12) (s : State) : Host.Outcome State Fault Refusal :=
  .next (s.microRow e fun w => w.qop == 0x1)

/-- DEQ (R523): Dequeue the head visible descriptor's slot address. -/
def execDeq (e : Fin 12) (s : State) : Host.Outcome State Fault Refusal :=
  .next (s.microRow e fun w => w.qop == 0x2)

/-- PEEK (R523): Return the head visible descriptor's slot address without removing it. -/
def execPeek (e : Fin 12) (s : State) : Host.Outcome State Fault Refusal :=
  .next (s.microRow e fun w => w.qop == 0x3)

/-- QLEN (R525): Return the queue's COUNT. -/
def execQlen (e : Fin 12) (s : State) : Host.Outcome State Fault Refusal :=
  .next (s.microRow e fun w => w.qop == 0x4)

/-- COMMIT (R749): Commit the flow's next item to its destination queue, or tombstone it if too late. -/
def execCommit (e : Fin 12) (s : State) : Host.Outcome State Fault Refusal :=
  .next (s.microRow e fun w => w.qop == 0x5)

/-- PUT (R20): Put B into the handoff slot to a stage, or set HFAIL if full. -/
def execPut (e : Fin 12 × Bool) (s : State) : Host.Outcome State Fault Refusal :=
  .next (s.inTick e.2 fun t => t.microRow e.1 fun w => codeIn 0x8 0xB w.qop)

/-- TAKE (R21): Take the oldest entry of the handoff slot from a stage, or set HFAIL if empty. -/
def execTake (e : Fin 12 × Bool) (s : State) : Host.Outcome State Fault Refusal :=
  .next (s.inTick e.2 fun t => t.microRow e.1 fun w => codeIn 0xC 0xF w.qop)

/-! ## Time (05 R272) -/

/-- STAMP (R272): Stamp the CCLK edge beginning the microword's last tick. -/
def execStamp (e : Fin 12) (s : State) : Host.Outcome State Fault Refusal :=
  .next (s.microRow e fun w => w.top == 0x1)

/-- STAMP_RX (R272): Return the receive stamp of the last dequeued descriptor. -/
def execStampRx (e : Fin 12) (s : State) : Host.Outcome State Fault Refusal :=
  .next (s.microRow e fun w => w.top == 0x2)

/-- SNAP (R73): Engine snapshot of cluster time and quality into registers. -/
def execSnap (e : Fin 12) (s : State) : Host.Outcome State Fault Refusal :=
  .next (s.microRow e fun w => w.top == 0x3)

/-- ALM_ARM (R100): Arm an owned Regulator alarm with a compare from registers. -/
def execAlmArm (e : Fin 12) (s : State) : Host.Outcome State Fault Refusal :=
  .next (s.microRow e fun w => w.top == 0x4)

/-- ALM_SET (R959): Set an owned alarm's compare value without arming. -/
def execAlmSet (e : Fin 12) (s : State) : Host.Outcome State Fault Refusal :=
  .next (s.microRow e fun w => w.top == 0x5)

/-- ALM_DIS (R961): Disarm an owned alarm, never lost. -/
def execAlmDis (e : Fin 12) (s : State) : Host.Outcome State Fault Refusal :=
  .next (s.microRow e fun w => w.top == 0x6)

/-- ALM_STAT (R272): Read an owned alarm's control and clear selected W1C bits. -/
def execAlmStat (e : Fin 12) (s : State) : Host.Outcome State Fault Refusal :=
  .next (s.microRow e fun w => w.top == 0x7)

/-- PH_ARM (R152): Arm an owned phase alarm at a phase-time target. -/
def execPhArm (e : Fin 12) (s : State) : Host.Outcome State Fault Refusal :=
  .next (s.microRow e fun w => w.top == 0x8)

/-- PH_SET (R272): Set a phase alarm's period. -/
def execPhSet (e : Fin 12) (s : State) : Host.Outcome State Fault Refusal :=
  .next (s.microRow e fun w => w.top == 0x9)

/-- PH_DIS (R272): Disarm a phase alarm. -/
def execPhDis (e : Fin 12) (s : State) : Host.Outcome State Fault Refusal :=
  .next (s.microRow e fun w => w.top == 0xA)

/-- PH_SNAP (R169): Phase snapshot of the capability's tracker into registers. -/
def execPhSnap (e : Fin 12) (s : State) : Host.Outcome State Fault Refusal :=
  .next (s.microRow e fun w => w.top == 0xB)

/-- PH_FEED (R126): Feed one sampled value to the capability's tracker. -/
def execPhFeed (e : Fin 12) (s : State) : Host.Outcome State Fault Refusal :=
  .next (s.microRow e fun w => w.top == 0xC)

/-- EVSRC (R170): Read and clear the permitted bits of CDR_EVSRC. -/
def execEvsrc (e : Fin 12) (s : State) : Host.Outcome State Fault Refusal :=
  .next (s.microRow e fun w => w.top == 0xD)

/-- TMR_RD (R272): Read a timer or watchdog register. -/
def execTmrRd (e : Fin 12) (s : State) : Host.Outcome State Fault Refusal :=
  .next (s.microRow e fun w => w.top == 0xE)

/-- TMR_WR (R272): Write a timer register or kick the watchdog. -/
def execTmrWr (e : Fin 12) (s : State) : Host.Outcome State Fault Refusal :=
  .next (s.microRow e fun w => w.top == 0xF)

/-- TMR_CAP (R379): Software capture of a timer's count into TMR_CNTn. -/
def execTmrCap (e : Fin 12) (s : State) : Host.Outcome State Fault Refusal :=
  .next (s.microRow e fun w => w.top == 0x10)

/-- TMR_PARM (R365): Arm a one-shot phase-mode compare on a timer. -/
def execTmrParm (e : Fin 12) (s : State) : Host.Outcome State Fault Refusal :=
  .next (s.microRow e fun w => w.top == 0x11)

/-- DISC_RATE (R76): Owner engine writes RGL_RATE. -/
def execDiscRate (e : Fin 12) (s : State) : Host.Outcome State Fault Refusal :=
  .next (s.microRow e fun w => w.top == 0x12)

/-- DISC_STEP (R76): Owner engine writes and commits a step. -/
def execDiscStep (e : Fin 12) (s : State) : Host.Outcome State Fault Refusal :=
  .next (s.microRow e fun w => w.top == 0x13)

/-- DISC_QUAL (R957): Owner engine writes RGL_QUAL. -/
def execDiscQual (e : Fin 12) (s : State) : Host.Outcome State Fault Refusal :=
  .next (s.microRow e fun w => w.top == 0x14)

/-! ## Events (05 R274) -/

/-- CLAIM (R421): Claim the event being handled, withdrawing it from other targets, or set EFAIL. -/
def execClaim (e : Fin 12 × Bool) (s : State) : Host.Outcome State Fault Refusal :=
  .next (s.inTick e.2 fun t => t.microRow e.1 fun w => w.evt == 0x1)

/-- EVT_SET (R274): Set the pending state of one of the engine's vector lines. -/
def execEvtSet (e : Fin 12) (s : State) : Host.Outcome State Fault Refusal :=
  .next (s.microRow e fun w => w.evt == 0x2)

/-- EVT_CLR (R274): Clear the pending state of one of the engine's vector lines. -/
def execEvtClr (e : Fin 12) (s : State) : Host.Outcome State Fault Refusal :=
  .next (s.microRow e fun w => w.evt == 0x3)

/-- GMASK_SET (R347): Set the engine's global event mask. -/
def execGmaskSet (e : Fin 12) (s : State) : Host.Outcome State Fault Refusal :=
  .next (s.microRow e fun w => w.evt == 0x4)

/-- GMASK_CLR (R347): Clear the engine's global event mask. -/
def execGmaskClr (e : Fin 12) (s : State) : Host.Outcome State Fault Refusal :=
  .next (s.microRow e fun w => w.evt == 0x5)

/-- PEND_LO (R274): Read pending state of vector lines 0–31. -/
def execPendLo (e : Fin 12) (s : State) : Host.Outcome State Fault Refusal :=
  .next (s.microRow e fun w => w.evt == 0x6)

/-- PEND_HI (R274): Read pending state of vector lines 32–63. -/
def execPendHi (e : Fin 12) (s : State) : Host.Outcome State Fault Refusal :=
  .next (s.microRow e fun w => w.evt == 0x7)

/-! ## Verniers and pins (05 R275) -/

/-- PUSH (R650): Write the Vernier's transmit holding register if empty. -/
def execPush (e : Fin 12) (s : State) : Host.Outcome State Fault Refusal :=
  .next (s.microRow e fun w => w.pin == 0x1)

/-- PULL (R650): Take the Vernier's receive holding register if full. -/
def execPull (e : Fin 12) (s : State) : Host.Outcome State Fault Refusal :=
  .next (s.microRow e fun w => w.pin == 0x2)

/-- VSTAT (R275): Read the Vernier's status word. -/
def execVstat (e : Fin 12) (s : State) : Host.Outcome State Fault Refusal :=
  .next (s.microRow e fun w => w.pin == 0x3)

/-- FLAG_SET (R652): Set Vernier flags. -/
def execFlagSet (e : Fin 12) (s : State) : Host.Outcome State Fault Refusal :=
  .next (s.microRow e fun w => w.pin == 0x4)

/-- FLAG_CLR (R652): Clear Vernier flags. -/
def execFlagClr (e : Fin 12) (s : State) : Host.Outcome State Fault Refusal :=
  .next (s.microRow e fun w => w.pin == 0x5)

/-- START (R637): Engine starts or restarts its Vernier. -/
def execStart (e : Fin 12) (s : State) : Host.Outcome State Fault Refusal :=
  .next (s.microRow e fun w => w.pin == 0x6)

/-- STOP (R639): Engine stops its Vernier. -/
def execStop (e : Fin 12) (s : State) : Host.Outcome State Fault Refusal :=
  .next (s.microRow e fun w => w.pin == 0x7)

/-- PINRD (R275): Read the level at a field pin's ball. -/
def execPinrd (e : Fin 12) (s : State) : Host.Outcome State Fault Refusal :=
  .next (s.microRow e fun w => w.pin == 0x8)

/-- PINWR (R625): Drive an owned general-purpose field pin. -/
def execPinwr (e : Fin 12) (s : State) : Host.Outcome State Fault Refusal :=
  .next (s.microRow e fun w => w.pin == 0x9)

/-! ## Lens (05 R277) -/

/-- QADD (R277): Lens Q31.32 add. -/
def execQadd (e : Fin 12) (s : State) : Host.Outcome State Fault Refusal :=
  .next (s.microRow e fun w => w.lens == 0x1)

/-- QSUB (R277): Lens Q31.32 subtract. -/
def execQsub (e : Fin 12) (s : State) : Host.Outcome State Fault Refusal :=
  .next (s.microRow e fun w => w.lens == 0x2)

/-- QCMP (R255): Lens Q31.32 compare setting condition codes. -/
def execQcmp (e : Fin 12) (s : State) : Host.Outcome State Fault Refusal :=
  .next (s.microRow e fun w => w.lens == 0x3)

/-- QMOV (R277): Lens Q31.32 move. -/
def execQmov (e : Fin 12) (s : State) : Host.Outcome State Fault Refusal :=
  .next (s.microRow e fun w => w.lens == 0x4)

/-- QNEG (R277): Lens Q31.32 negate. -/
def execQneg (e : Fin 12) (s : State) : Host.Outcome State Fault Refusal :=
  .next (s.microRow e fun w => w.lens == 0x5)

/-- QABS (R277): Lens Q31.32 absolute value. -/
def execQabs (e : Fin 12) (s : State) : Host.Outcome State Fault Refusal :=
  .next (s.microRow e fun w => w.lens == 0x6)

/-- LDK (R278): Lens load of a constant. -/
def execLdk (e : Fin 12) (s : State) : Host.Outcome State Fault Refusal :=
  .next (s.microRow e fun w => w.lens == 0x7)

/-- QMUL (R277): Lens Q31.32 multiply. -/
def execQmul (e : Fin 12) (s : State) : Host.Outcome State Fault Refusal :=
  .next (s.microRow e fun w => w.lens == 0x8)

/-- QMAC (R277): Lens Q31.32 multiply-add. -/
def execQmac (e : Fin 12) (s : State) : Host.Outcome State Fault Refusal :=
  .next (s.microRow e fun w => w.lens == 0x9)

/-- QCMAC (R277): Lens complex Q31.32 multiply-add. -/
def execQcmac (e : Fin 12) (s : State) : Host.Outcome State Fault Refusal :=
  .next (s.microRow e fun w => w.lens == 0xA)

/-- F2Q (R277): Lens binary32 to Q31.32 conversion. -/
def execF2q (e : Fin 12) (s : State) : Host.Outcome State Fault Refusal :=
  .next (s.microRow e fun w => w.lens == 0x10)

/-- Q2F (R277): Lens Q31.32 to binary32 conversion. -/
def execQ2f (e : Fin 12) (s : State) : Host.Outcome State Fault Refusal :=
  .next (s.microRow e fun w => w.lens == 0x11)

/-- FADD (R277): Lens binary32 add. -/
def execFadd (e : Fin 12) (s : State) : Host.Outcome State Fault Refusal :=
  .next (s.microRow e fun w => w.lens == 0x14)

/-- FSUB (R277): Lens binary32 subtract. -/
def execFsub (e : Fin 12) (s : State) : Host.Outcome State Fault Refusal :=
  .next (s.microRow e fun w => w.lens == 0x15)

/-- FMUL (R277): Lens binary32 multiply. -/
def execFmul (e : Fin 12) (s : State) : Host.Outcome State Fault Refusal :=
  .next (s.microRow e fun w => w.lens == 0x16)

/-- FMA (R277): Lens binary32 fused multiply-add. -/
def execFma (e : Fin 12) (s : State) : Host.Outcome State Fault Refusal :=
  .next (s.microRow e fun w => w.lens == 0x17)

/-- FDIV (R277): Lens binary32 divide. -/
def execFdiv (e : Fin 12) (s : State) : Host.Outcome State Fault Refusal :=
  .next (s.microRow e fun w => w.lens == 0x18)

/-- FSQRT (R277): Lens binary32 square root. -/
def execFsqrt (e : Fin 12) (s : State) : Host.Outcome State Fault Refusal :=
  .next (s.microRow e fun w => w.lens == 0x19)

/-- CFMA (R277): Lens packed complex binary32 multiply-add. -/
def execCfma (e : Fin 12) (s : State) : Host.Outcome State Fault Refusal :=
  .next (s.microRow e fun w => w.lens == 0x1A)

/-- CROT (R199): Resumable CORDIC rotation. -/
def execCrot (e : Fin 12) (s : State) : Host.Outcome State Fault Refusal :=
  .next (s.microRow e fun w => w.lens == 0x20)

/-- CVEC (R199): Resumable CORDIC vectoring. -/
def execCvec (e : Fin 12) (s : State) : Host.Outcome State Fault Refusal :=
  .next (s.microRow e fun w => w.lens == 0x21)

/-- VDOT_Q (R277): Resumable Q31.32 dot product over plate data. -/
def execVdotQ (e : Fin 12) (s : State) : Host.Outcome State Fault Refusal :=
  .next (s.microRow e fun w => w.lens == 0x28)

/-- VDOT_F (R277): Resumable binary32 dot product over plate data. -/
def execVdotF (e : Fin 12) (s : State) : Host.Outcome State Fault Refusal :=
  .next (s.microRow e fun w => w.lens == 0x29)

/-- VCMAC_F (R277): Resumable packed complex dot product over plate data. -/
def execVcmacF (e : Fin 12) (s : State) : Host.Outcome State Fault Refusal :=
  .next (s.microRow e fun w => w.lens == 0x2A)

end Sys2Proof.Machine
end

