-- ==== Sys2Proof/Machine/Transfers.lean ====
section
/-! DEFINITION. The queue manager's transfers that have waited for a plate (04 R219, 10 R488, R493), and the visibility of
descriptors (10 R521). -/

namespace Sys2Proof.Machine

/-- The plates that a waiting transfer needs are still held. -/
def State.jobHeld (s : State) (j : Waiting) : Bool :=
  match j.job with
  | .copy p r _ _ _ _ _ => s.poolHeld (s.get (FPT_FRW5.POOL p r))
  | .record c _ snap => !snap.isEmpty && s.poolHeld (s.get (OCC_CHCFG.POOL c))
  | .head _ _ f => (s.inboundChannel f).any fun c => s.poolHeld (s.get (CST_CHCFG.POOL c))
  | .data _ f => (s.inboundChannel f).any fun c => s.poolHeld (s.get (CST_CHCFG.POOL c))
  | .enqueue a => s.rangeHeld a 32

/-- A waiting transfer carried out. -/
def State.runJob (s : State) (j : Waiting) : State :=
  match j.job with
  | .copy p r f good stamp flow seq => s.placeCopy j.queue p r f good stamp flow seq
  | .record c d snap => s.placeArrival j.queue c d snap
  | .head x stamp f => match s.inboundChannel f with
    | some c => s.openItem c x stamp f
    | none => s
  | .data x f => match s.inboundChannel f with
    | some c => s.continueItem c x f
    | none => s
  | .enqueue a => s.queueEnqueue j.queue a

/-- The transfers that waited, oldest first: one whose plates are held, or that has an older one of its queue before it, goes on waiting
(log entry 85). -/
def State.runJobs (s : State) (kept : List Waiting) : List Waiting → State
  | [] => { s with jobs := kept }
  | j :: js =>
    if (kept.any fun k => k.queue == j.queue) || s.jobHeld j then s.runJobs (kept ++ [j]) js else (s.runJob j).runJobs kept js

/-- DESCRIPTOR_VISIBLE (R521), after the transfers that can go on. -/
def execDescriptorVisible (q : Fin 1024) (s : State) : Host.Outcome State Fault Refusal :=
  .next ((s.runJobs [] s.jobs).makeVisible q)

end Sys2Proof.Machine
end

