-- ==== Sys2Proof/Machine/Dispatch.lean ====
section
/-! DEFINITION. The dispatch of a command to its meaning, one arm per row of spec/opcode_table.json. -/

namespace Sys2Proof.Machine

def exec (i : Instr) (s : State) : Host.Outcome State Fault Refusal :=
  match i with
  | .aonRstNAssert => Sys2Proof.Machine.execAonRstNAssert s
  | .cluRstNAssert => Sys2Proof.Machine.execCluRstNAssert s
  | .dbgRstNAssert => Sys2Proof.Machine.execDbgRstNAssert s
  | .clurst o v => Sys2Proof.Machine.execClurst o v s
  | .resetReleaseSequence fuses limits aon => Sys2Proof.Machine.execResetReleaseSequence fuses limits aon s
  | .stabilityCheckComplete n lo hi => Sys2Proof.Machine.execStabilityCheckComplete n lo hi s
  | .pllLock => Sys2Proof.Machine.execPllLock s
  | .clockLoss cause aon => Sys2Proof.Machine.execClockLoss cause aon s
  | .linkPllLockLoss => Sys2Proof.Machine.execLinkPllLockLoss s
  | .attachSequence ack => Sys2Proof.Machine.execAttachSequence ack s
  | .detachSequence => Sys2Proof.Machine.execDetachSequence s
  | .detachCommitWindowEnd => Sys2Proof.Machine.execDetachCommitWindowEnd s
  | .detachDrainEnd => Sys2Proof.Machine.execDetachDrainEnd s
  | .pwrAckLoss => Sys2Proof.Machine.execPwrAckLoss s
  | .attachReqFallInDormant => Sys2Proof.Machine.execAttachReqFallInDormant s
  | .napRequest o v => Sys2Proof.Machine.execNapRequest o v s
  | .napEntry => Sys2Proof.Machine.execNapEntry s
  | .napExit w => Sys2Proof.Machine.execNapExit w s
  | .dormant o v => Sys2Proof.Machine.execDormant o v s
  | .dormantWake source aon => Sys2Proof.Machine.execDormantWake source aon s
  | .wake o v => Sys2Proof.Machine.execWake o v s
  | .wakeLatchReplay => Sys2Proof.Machine.execWakeLatchReplay s
  | .clkSscWrite o v => Sys2Proof.Machine.execClkSscWrite o v s
  | .stampPointEdge idx rising b => Sys2Proof.Machine.execStampPointEdge idx rising b s
  | .tempReading valid degc => Sys2Proof.Machine.execTempReading valid degc s
  | .snapshot o v => Sys2Proof.Machine.execSnapshot o v s
  | .rateWrite o v => Sys2Proof.Machine.execRateWrite o v s
  | .stepCommit o v => Sys2Proof.Machine.execStepCommit o v s
  | .slewComplete => Sys2Proof.Machine.execSlewComplete s
  | .qualWrite o v => Sys2Proof.Machine.execQualWrite o v s
  | .holdoverTimeout => Sys2Proof.Machine.execHoldoverTimeout s
  | .srvOwnWrite o v => Sys2Proof.Machine.execSrvOwnWrite o v s
  | .servoFreezeRelease => Sys2Proof.Machine.execServoFreezeRelease s
  | .pincalWrite o v => Sys2Proof.Machine.execPincalWrite o v s
  | .alarmArm n o v => Sys2Proof.Machine.execAlarmArm n o v s
  | .alarmDisarm n o v => Sys2Proof.Machine.execAlarmDisarm n o v s
  | .alarmFire n => Sys2Proof.Machine.execAlarmFire n s
  | .alarmPeriodicFire n => Sys2Proof.Machine.execAlarmPeriodicFire n s
  | .alarmRangeOpen n => Sys2Proof.Machine.execAlarmRangeOpen n s
  | .alarmRangeClose n => Sys2Proof.Machine.execAlarmRangeClose n s
  | .pcapCycRead n captureInTick => Sys2Proof.Machine.execPcapCycRead n captureInTick s
  | .cdrSnapshot o v => Sys2Proof.Machine.execCdrSnapshot o v s
  | .zeroCrossing n rising => Sys2Proof.Machine.execZeroCrossing n rising s
  | .estimateApplication n => Sys2Proof.Machine.execEstimateApplication n s
  | .catchupEnd n => Sys2Proof.Machine.execCatchupEnd n s
  | .trackerSourceLoss n => Sys2Proof.Machine.execTrackerSourceLoss n s
  | .holdoverLimit n => Sys2Proof.Machine.execHoldoverLimit n s
  | .trackerEnable n o v => Sys2Proof.Machine.execTrackerEnable n o v s
  | .trackerDisable n o v => Sys2Proof.Machine.execTrackerDisable n o v s
  | .cycload n o v => Sys2Proof.Machine.execCycload n o v s
  | .phaseAlarmArm m o v => Sys2Proof.Machine.execPhaseAlarmArm m o v s
  | .phaseAlarmDisarm m o v => Sys2Proof.Machine.execPhaseAlarmDisarm m o v s
  | .phaseAlarmFire m => Sys2Proof.Machine.execPhaseAlarmFire m s
  | .phaseAlarmPeriodicFire m => Sys2Proof.Machine.execPhaseAlarmPeriodicFire m s
  | .ephemerisEntryFire m => Sys2Proof.Machine.execEphemerisEntryFire m s
  | .ephemerisEntryWrite o v => Sys2Proof.Machine.execEphemerisEntryWrite o v s
  | .trackerConfigWrite n cfg o v => Sys2Proof.Machine.execTrackerConfigWrite n cfg o v s
  | .eventDispatch e => Sys2Proof.Machine.execEventDispatch e s
  | .exceptionEntry e => Sys2Proof.Machine.execExceptionEntry e s
  | .lensComplete e => Sys2Proof.Machine.execLensComplete e s
  | .bulkComplete tag error data => Sys2Proof.Machine.execBulkComplete tag error data s
  | .resumableElement e => Sys2Proof.Machine.execResumableElement e s
  | .engineRun e o v => Sys2Proof.Machine.execEngineRun e o v s
  | .engineStop e o v => Sys2Proof.Machine.execEngineStop e o v s
  | .engineForceStop e o v => Sys2Proof.Machine.execEngineForceStop e o v s
  | .fclr e o v => Sys2Proof.Machine.execFclr e o v s
  | .deferredHalt e => Sys2Proof.Machine.execDeferredHalt e s
  | .engUpcWrite e o v => Sys2Proof.Machine.execEngUpcWrite e o v s
  | .engPriWrite e o v => Sys2Proof.Machine.execEngPriWrite e o v s
  | .engSalWrite e l o v => Sys2Proof.Machine.execEngSalWrite e l o v s
  | .wcsCommit e o v => Sys2Proof.Machine.execWcsCommit e o v s
  | .wcsRead e idx o => Sys2Proof.Machine.execWcsRead e idx o s
  | .jmp e => Sys2Proof.Machine.execJmp e s
  | .br e => Sys2Proof.Machine.execBr e s
  | .call e => Sys2Proof.Machine.execCall e s
  | .callBr e => Sys2Proof.Machine.execCallBr e s
  | .rts e => Sys2Proof.Machine.execRts e s
  | .wait e => Sys2Proof.Machine.execWait e s
  | .waitBr e => Sys2Proof.Machine.execWaitBr e s
  | .loop e => Sys2Proof.Machine.execLoop e s
  | .jmpR e => Sys2Proof.Machine.execJmpR e s
  | .retE e => Sys2Proof.Machine.execRetE e s
  | .retX e => Sys2Proof.Machine.execRetX e s
  | .passa e => Sys2Proof.Machine.execPassa e s
  | .passb e => Sys2Proof.Machine.execPassb e s
  | .add e => Sys2Proof.Machine.execAdd e s
  | .adc e => Sys2Proof.Machine.execAdc e s
  | .sub e => Sys2Proof.Machine.execSub e s
  | .sbc e => Sys2Proof.Machine.execSbc e s
  | .rsb e => Sys2Proof.Machine.execRsb e s
  | .and e => Sys2Proof.Machine.execAnd e s
  | .or e => Sys2Proof.Machine.execOr e s
  | .xor e => Sys2Proof.Machine.execXor e s
  | .andn e => Sys2Proof.Machine.execAndn e s
  | .not e => Sys2Proof.Machine.execNot e s
  | .neg e => Sys2Proof.Machine.execNeg e s
  | .min e => Sys2Proof.Machine.execMin e s
  | .max e => Sys2Proof.Machine.execMax e s
  | .minu e => Sys2Proof.Machine.execMinu e s
  | .maxu e => Sys2Proof.Machine.execMaxu e s
  | .cmp e => Sys2Proof.Machine.execCmp e s
  | .tst e => Sys2Proof.Machine.execTst e s
  | .mul e => Sys2Proof.Machine.execMul e s
  | .mulh e => Sys2Proof.Machine.execMulh e s
  | .mulhu e => Sys2Proof.Machine.execMulhu e s
  | .clz e => Sys2Proof.Machine.execClz e s
  | .popc e => Sys2Proof.Machine.execPopc e s
  | .brev e => Sys2Proof.Machine.execBrev e s
  | .sextB e => Sys2Proof.Machine.execSextB e s
  | .sextH e => Sys2Proof.Machine.execSextH e s
  | .shl e => Sys2Proof.Machine.execShl e s
  | .shr e => Sys2Proof.Machine.execShr e s
  | .sar e => Sys2Proof.Machine.execSar e s
  | .ror e => Sys2Proof.Machine.execRor e s
  | .csum16 e => Sys2Proof.Machine.execCsum16 e s
  | .ldB e => Sys2Proof.Machine.execLdB e s
  | .ldH e => Sys2Proof.Machine.execLdH e s
  | .ldW e => Sys2Proof.Machine.execLdW e s
  | .ldD e => Sys2Proof.Machine.execLdD e s
  | .stB e => Sys2Proof.Machine.execStB e s
  | .stH e => Sys2Proof.Machine.execStH e s
  | .stW e => Sys2Proof.Machine.execStW e s
  | .stD e => Sys2Proof.Machine.execStD e s
  | .addA e => Sys2Proof.Machine.execAddA e s
  | .swpA e => Sys2Proof.Machine.execSwpA e s
  | .crcblk e => Sys2Proof.Machine.execCrcblk e s
  | .movblk e => Sys2Proof.Machine.execMovblk e s
  | .sumblk e => Sys2Proof.Machine.execSumblk e s
  | .brd e => Sys2Proof.Machine.execBrd e s
  | .bwr e => Sys2Proof.Machine.execBwr e s
  | .bwait e => Sys2Proof.Machine.execBwait e s
  | .bwaitAll e => Sys2Proof.Machine.execBwaitAll e s
  | .saveLo e => Sys2Proof.Machine.execSaveLo e s
  | .saveHi e => Sys2Proof.Machine.execSaveHi e s
  | .capDrv e => Sys2Proof.Machine.execCapDrv e s
  | .capRev e => Sys2Proof.Machine.execCapRev e s
  | .capClr e => Sys2Proof.Machine.execCapClr e s
  | .capRd e => Sys2Proof.Machine.execCapRd e s
  | .enq e => Sys2Proof.Machine.execEnq e s
  | .deq e => Sys2Proof.Machine.execDeq e s
  | .peek e => Sys2Proof.Machine.execPeek e s
  | .qlen e => Sys2Proof.Machine.execQlen e s
  | .commit e => Sys2Proof.Machine.execCommit e s
  | .put e => Sys2Proof.Machine.execPut e s
  | .take e => Sys2Proof.Machine.execTake e s
  | .stamp e => Sys2Proof.Machine.execStamp e s
  | .stampRx e => Sys2Proof.Machine.execStampRx e s
  | .snap e => Sys2Proof.Machine.execSnap e s
  | .almArm e => Sys2Proof.Machine.execAlmArm e s
  | .almSet e => Sys2Proof.Machine.execAlmSet e s
  | .almDis e => Sys2Proof.Machine.execAlmDis e s
  | .almStat e => Sys2Proof.Machine.execAlmStat e s
  | .phArm e => Sys2Proof.Machine.execPhArm e s
  | .phSet e => Sys2Proof.Machine.execPhSet e s
  | .phDis e => Sys2Proof.Machine.execPhDis e s
  | .phSnap e => Sys2Proof.Machine.execPhSnap e s
  | .phFeed e => Sys2Proof.Machine.execPhFeed e s
  | .evsrc e => Sys2Proof.Machine.execEvsrc e s
  | .tmrRd e => Sys2Proof.Machine.execTmrRd e s
  | .tmrWr e => Sys2Proof.Machine.execTmrWr e s
  | .tmrCap e => Sys2Proof.Machine.execTmrCap e s
  | .tmrParm e => Sys2Proof.Machine.execTmrParm e s
  | .discRate e => Sys2Proof.Machine.execDiscRate e s
  | .discStep e => Sys2Proof.Machine.execDiscStep e s
  | .discQual e => Sys2Proof.Machine.execDiscQual e s
  | .claim e => Sys2Proof.Machine.execClaim e s
  | .evtSet e => Sys2Proof.Machine.execEvtSet e s
  | .evtClr e => Sys2Proof.Machine.execEvtClr e s
  | .gmaskSet e => Sys2Proof.Machine.execGmaskSet e s
  | .gmaskClr e => Sys2Proof.Machine.execGmaskClr e s
  | .pendLo e => Sys2Proof.Machine.execPendLo e s
  | .pendHi e => Sys2Proof.Machine.execPendHi e s
  | .push e => Sys2Proof.Machine.execPush e s
  | .pull e => Sys2Proof.Machine.execPull e s
  | .vstat e => Sys2Proof.Machine.execVstat e s
  | .flagSet e => Sys2Proof.Machine.execFlagSet e s
  | .flagClr e => Sys2Proof.Machine.execFlagClr e s
  | .start e => Sys2Proof.Machine.execStart e s
  | .stop e => Sys2Proof.Machine.execStop e s
  | .pinrd e => Sys2Proof.Machine.execPinrd e s
  | .pinwr e => Sys2Proof.Machine.execPinwr e s
  | .qadd e => Sys2Proof.Machine.execQadd e s
  | .qsub e => Sys2Proof.Machine.execQsub e s
  | .qcmp e => Sys2Proof.Machine.execQcmp e s
  | .qmov e => Sys2Proof.Machine.execQmov e s
  | .qneg e => Sys2Proof.Machine.execQneg e s
  | .qabs e => Sys2Proof.Machine.execQabs e s
  | .ldk e => Sys2Proof.Machine.execLdk e s
  | .qmul e => Sys2Proof.Machine.execQmul e s
  | .qmac e => Sys2Proof.Machine.execQmac e s
  | .qcmac e => Sys2Proof.Machine.execQcmac e s
  | .f2q e => Sys2Proof.Machine.execF2q e s
  | .q2f e => Sys2Proof.Machine.execQ2f e s
  | .fadd e => Sys2Proof.Machine.execFadd e s
  | .fsub e => Sys2Proof.Machine.execFsub e s
  | .fmul e => Sys2Proof.Machine.execFmul e s
  | .fma e => Sys2Proof.Machine.execFma e s
  | .fdiv e => Sys2Proof.Machine.execFdiv e s
  | .fsqrt e => Sys2Proof.Machine.execFsqrt e s
  | .cfma e => Sys2Proof.Machine.execCfma e s
  | .crot e => Sys2Proof.Machine.execCrot e s
  | .cvec e => Sys2Proof.Machine.execCvec e s
  | .vdotQ e => Sys2Proof.Machine.execVdotQ e s
  | .vdotF e => Sys2Proof.Machine.execVdotF e s
  | .vcmacF e => Sys2Proof.Machine.execVcmacF e s
  | .timerStart e n => Sys2Proof.Machine.execTimerStart e n s
  | .timerWrap e n => Sys2Proof.Machine.execTimerWrap e n s
  | .timerCompareMatch e n => Sys2Proof.Machine.execTimerCompareMatch e n s
  | .timerStop e n => Sys2Proof.Machine.execTimerStop e n s
  | .phaseModeCompareFire e n => Sys2Proof.Machine.execPhaseModeCompareFire e n s
  | .pdis e n o v => Sys2Proof.Machine.execPdis e n o v s
  | .scap e n o v => Sys2Proof.Machine.execScap e n o v s
  | .edgeCapture e n rising reads => Sys2Proof.Machine.execEdgeCapture e n rising reads s
  | .captureRead e n rising captureInTick => Sys2Proof.Machine.execCaptureRead e n rising captureInTick s
  | .tmrCntWrite e n o v => Sys2Proof.Machine.execTmrCntWrite e n o v s
  | .tmrCtlWrite e n o v => Sys2Proof.Machine.execTmrCtlWrite e n o v s
  | .watchdogKick e o v => Sys2Proof.Machine.execWatchdogKick e o v s
  | .watchdogExpiry e => Sys2Proof.Machine.execWatchdogExpiry e s
  | .eventRegistration n => Sys2Proof.Machine.execEventRegistration n s
  | .fieldPinEdge k level => Sys2Proof.Machine.execFieldPinEdge k level s
  | .lineRetire n => Sys2Proof.Machine.execLineRetire n s
  | .moderationRelease e => Sys2Proof.Machine.execModerationRelease e s
  | .evcDoor o v => Sys2Proof.Machine.execEvcDoor o v s
  | .evcMaskWrite idx o v => Sys2Proof.Machine.execEvcMaskWrite idx o v s
  | .evcPendWrite idx o v => Sys2Proof.Machine.execEvcPendWrite idx o v s
  | .evcRouteWrite n o v => Sys2Proof.Machine.execEvcRouteWrite n o v s
  | .pltOwnWrite k o v => Sys2Proof.Machine.execPltOwnWrite k o v s
  | .handoverTakesEffect k => Sys2Proof.Machine.execHandoverTakesEffect k s
  | .hostPlateAccess off write burst be data meet => Sys2Proof.Machine.execHostPlateAccess off write burst be data meet s
  | .scrubberVisit idle => Sys2Proof.Machine.execScrubberVisit idle s
  | .descriptorVisible q => Sys2Proof.Machine.execDescriptorVisible q s
  | .spillReadback q => Sys2Proof.Machine.execSpillReadback q s
  | .queueResume o v => Sys2Proof.Machine.execQueueResume o v s
  | .qmEnq o v => Sys2Proof.Machine.execQmEnq o v s
  | .qmDeq o v => Sys2Proof.Machine.execQmDeq o v s
  | .qmPeek o v => Sys2Proof.Machine.execQmPeek o v s
  | .qmLen o v => Sys2Proof.Machine.execQmLen o v s
  | .queueConfigWrite r o v => Sys2Proof.Machine.execQueueConfigWrite r o v s
  | .poolConfigWrite cfg o v => Sys2Proof.Machine.execPoolConfigWrite cfg o v s
  | .frameReceived p b frame runtf full late => Sys2Proof.Machine.execFrameReceived p b frame runtf full late s
  | .frameFromSwitchCore p c frame full => Sys2Proof.Machine.execFrameFromSwitchCore p c frame full s
  | .frameEmission p b lead ext underrun => Sys2Proof.Machine.execFrameEmission p b lead ext underrun s
  | .expiryConversion p c l => Sys2Proof.Machine.execExpiryConversion p c l s
  | .injectedFrame p ext => Sys2Proof.Machine.execInjectedFrame p ext s
  | .go p o v => Sys2Proof.Machine.execGo p o v s
  | .gateListChange p => Sys2Proof.Machine.execGateListChange p s
  | .finderRuleCommit p o v => Sys2Proof.Machine.execFinderRuleCommit p o v s
  | .finderRuleApply p => Sys2Proof.Machine.execFinderRuleApply p s
  | .flowTableCommit p o v => Sys2Proof.Machine.execFlowTableCommit p o v s
  | .bucketRefill p => Sys2Proof.Machine.execBucketRefill p s
  | .bypassChange p => Sys2Proof.Machine.execBypassChange p s
  | .macStatisticsCode p code => Sys2Proof.Machine.execMacStatisticsCode p code s
  | .macWakeEdge p => Sys2Proof.Machine.execMacWakeEdge p s
  | .residueIndication p mask => Sys2Proof.Machine.execResidueIndication p mask s
  | .linkDelayCopy p served => Sys2Proof.Machine.execLinkDelayCopy p served s
  | .duplicateEntryExpiry g => Sys2Proof.Machine.execDuplicateEntryExpiry g s
  | .proxyEntryExpiry g => Sys2Proof.Machine.execProxyEntryExpiry g s
  | .recoveryStreamReset p idx => Sys2Proof.Machine.execRecoveryStreamReset p idx s
  | .counterReadClear off => Sys2Proof.Machine.execCounterReadClear off s
  | .fldCfgWrite k o v => Sys2Proof.Machine.execFldCfgWrite k o v s
  | .ppsRising => Sys2Proof.Machine.execPpsRising s
  | .ppsFalling => Sys2Proof.Machine.execPpsFalling s
  | .vrnCtlStart v o w => Sys2Proof.Machine.execVrnCtlStart v o w s
  | .vrnCtlStop v o w => Sys2Proof.Machine.execVrnCtlStop v o w s
  | .groupStart o w => Sys2Proof.Machine.execGroupStart o w s
  | .vrnImemWrite v idx o w => Sys2Proof.Machine.execVrnImemWrite v idx o w s
  | .idle v => Sys2Proof.Machine.execIdle v s
  | .setp v => Sys2Proof.Machine.execSetp v s
  | .sete v => Sys2Proof.Machine.execSete v s
  | .emit v => Sys2Proof.Machine.execEmit v s
  | .gather v => Sys2Proof.Machine.execGather v s
  | .vernierLoad v => Sys2Proof.Machine.execVernierLoad v s
  | .post v => Sys2Proof.Machine.execPost v s
  | .tally v => Sys2Proof.Machine.execTally v s
  | .vernierBr v => Sys2Proof.Machine.execVernierBr v s
  | .vernierWait v => Sys2Proof.Machine.execVernierWait v s
  | .stmp v => Sys2Proof.Machine.execStmp v s
  | .flg v => Sys2Proof.Machine.execFlg v s
  | .rep v => Sys2Proof.Machine.execRep v s
  | .train c o v => Sys2Proof.Machine.execTrain c o v s
  | .trainingComplete c => Sys2Proof.Machine.execTrainingComplete c s
  | .channelLost c => Sys2Proof.Machine.execChannelLost c s
  | .frontTrigger c n words lost => Sys2Proof.Machine.execFrontTrigger c n words lost s
  | .arrivalRecord c snap => Sys2Proof.Machine.execArrivalRecord c snap s
  | .warm c o v => Sys2Proof.Machine.execWarm c o v s
  | .windowClose c => Sys2Proof.Machine.execWindowClose c s
  | .occChcfgWrite c o v => Sys2Proof.Machine.execOccChcfgWrite c o v s
  | .chartLoad ext srcError writeError => Sys2Proof.Machine.execChartLoad ext srcError writeError s
  | .nop => Sys2Proof.Machine.execNop s
  | .load => Sys2Proof.Machine.execLoad s
  | .loadReset => Sys2Proof.Machine.execLoadReset s
  | .amend => Sys2Proof.Machine.execAmend s
  | .check ext error => Sys2Proof.Machine.execCheck ext error s
  | .admitFlow => Sys2Proof.Machine.execAdmit s
  | .withdraw => Sys2Proof.Machine.execWithdraw s
  | .flowWithdrawn f => Sys2Proof.Machine.execFlowWithdrawn f s
  | .flowquery => Sys2Proof.Machine.execFlowquery s
  | .capquery => Sys2Proof.Machine.execCapquery s
  | .grant => Sys2Proof.Machine.execGrant s
  | .revoke => Sys2Proof.Machine.execRevoke s
  | .failover => Sys2Proof.Machine.execFailover s
  | .upgrade => Sys2Proof.Machine.execUpgrade s
  | .cutOver => Sys2Proof.Machine.execCutOver s
  | .cutOverTimeout => Sys2Proof.Machine.execCutOverTimeout s
  | .keygen => Sys2Proof.Machine.execKeygen s
  | .keyload => Sys2Proof.Machine.execKeyload s
  | .keyerase => Sys2Proof.Machine.execKeyerase s
  | .lcadvance => Sys2Proof.Machine.execLcadvance s
  | .dbgunlock => Sys2Proof.Machine.execDbgunlock s
  | .dbglock => Sys2Proof.Machine.execDbglock s
  | .logspill => Sys2Proof.Machine.execLogspill s
  | .logread => Sys2Proof.Machine.execLogread s
  | .unknownCommand => Sys2Proof.Machine.execUnknownCommand s
  | .breachWatchVisit f => Sys2Proof.Machine.execBreachWatchVisit f s
  | .engineFaultResponse e => Sys2Proof.Machine.execEngineFaultResponse e s
  | .engmapWrite idx o v => Sys2Proof.Machine.execEngmapWrite idx o v s
  | .lockstepMismatch => Sys2Proof.Machine.execLockstepMismatch s
  | .assistantWatchdogExpiry => Sys2Proof.Machine.execAssistantWatchdogExpiry s
  | .shutterTakeover => Sys2Proof.Machine.execShutterTakeover s
  | .shutterDrainEnd => Sys2Proof.Machine.execShutterDrainEnd s
  | .shutterSelfCheckFailure => Sys2Proof.Machine.execShutterSelfCheckFailure s
  | .shtStatFaultClear o v => Sys2Proof.Machine.execShtStatFaultClear o v s
  | .linkFrameReceived x b frame => Sys2Proof.Machine.execLinkFrameReceived x b frame s
  | .qhead x b frame => Sys2Proof.Machine.execQhead x b frame s
  | .qdata x b frame => Sys2Proof.Machine.execQdata x b frame s
  | .eventFrame x b frame => Sys2Proof.Machine.execEventFrame x b frame s
  | .controlFrame x b frame => Sys2Proof.Machine.execControlFrame x b frame s
  | .track x b frame => Sys2Proof.Machine.execTrack x b frame s
  | .trackExport => Sys2Proof.Machine.execTrackExport s
  | .linkFrameTimeout x => Sys2Proof.Machine.execLinkFrameTimeout x s
  | .linkUpdate x => Sys2Proof.Machine.execLinkUpdate x s
  | .servoOwnerHandover => Sys2Proof.Machine.execServoOwnerHandover s
  | .presenceTimeout m => Sys2Proof.Machine.execPresenceTimeout m s
  | .leave x o v => Sys2Proof.Machine.execLeave x o v s
  | .outboundItemSend => Sys2Proof.Machine.execOutboundItemSend s
  | .tamperDetection bits => Sys2Proof.Machine.execTamperDetection bits s
  | .tamperPolWrite o v => Sys2Proof.Machine.execTamperPolWrite o v s
  | .authBindingWrite n o v => Sys2Proof.Machine.execAuthBindingWrite n o v s
  | .authRequest n => Sys2Proof.Machine.execAuthRequest n s
  | .authResult => Sys2Proof.Machine.execAuthResult s
  | .logRecordPlace => Sys2Proof.Machine.execLogRecordPlace s
  | .gapRecord => Sys2Proof.Machine.execGapRecord s
  | .logSpillWrite error => Sys2Proof.Machine.execLogSpillWrite error s
  | .logSpillrdWrite o v => Sys2Proof.Machine.execLogSpillrdWrite o v s
  | .logTailWrite o v => Sys2Proof.Machine.execLogTailWrite o v s
  | .eyeDrUpdate pwr op addr data => Sys2Proof.Machine.execEyeDrUpdate pwr op addr data s
  | .halt o v => Sys2Proof.Machine.execHalt o v s
  | .haltNow o v => Sys2Proof.Machine.execHaltNow o v s
  | .resume o v => Sys2Proof.Machine.execResume o v s
  | .step o v => Sys2Proof.Machine.execStep o v s
  | .live o v => Sys2Proof.Machine.execLive o v s
  | .liveRead off => Sys2Proof.Machine.execLiveRead off s
  | .engineHalt e => Sys2Proof.Machine.execEngineHalt e s
  | .vernierHalt v => Sys2Proof.Machine.execVernierHalt v s
  | .eyeEdataAccess o w => Sys2Proof.Machine.execEyeEdataAccess o w s
  | .eyeMasterGo o v => Sys2Proof.Machine.execEyeMasterGo o v s
  | .eyeMasterCancel o v => Sys2Proof.Machine.execEyeMasterCancel o v s
  | .eyeMasterComplete meet error data => Sys2Proof.Machine.execEyeMasterComplete meet error data s
  | .microbreak e => Sys2Proof.Machine.execMicrobreak e s
  | .crossTrigger => Sys2Proof.Machine.execCrossTrigger s
  | .eyeFreezeWrite o v => Sys2Proof.Machine.execEyeFreezeWrite o v s
  | .sessionExpiry aon => Sys2Proof.Machine.execSessionExpiry aon s
  | .capW3Commit e o v => Sys2Proof.Machine.execCapW3Commit e o v s
  | .hostTransaction off write burst be data meet => Sys2Proof.Machine.execHostTransaction off write burst be data meet s
  | .registerWrite off o v => Sys2Proof.Machine.execRegisterWrite off o v s
  | .linkTrainingEntry x => Sys2Proof.Machine.execLinkTrainingEntry x s
  | .framePeriodSlot x b => Sys2Proof.Machine.execFramePeriodSlot x b s
  | .secondCarry => Sys2Proof.Machine.execSecondCarry s
  | .debugDomainPowerOff => Sys2Proof.Machine.execDebugDomainPowerOff s

end Sys2Proof.Machine
end

