-- ==== Sys2Proof/Safety.lean ====
section
/-! DEFINITION. What counts as a safe run, in the terms that the statements use: the invariant of the state, what a command may
touch, and when a microword runs unhindered. -/

namespace Sys2Proof.Machine

/-- A part of the state that a command may leave untouched as a whole. The registers are not one: almost every command writes some. -/
inductive Part where
  /-- the bytes of the plate store -/
  | plates
  /-- its error marks, the scrubber and handovers -/
  | ecc
  /-- the queues, bulk tags and handoff slots -/
  | queues
  /-- cluster time, its stamps, alarms and the 1PPS generator -/
  | time
  /-- event lines, deliveries, claims and what the event controller retains -/
  | events
  /-- the last answers to masters and the records that wait for their place -/
  | answers
  /-- the power and clock sequencers -/
  | power
  /-- flows and buckets -/
  | flows
  /-- the frame ports -/
  | framePorts
  /-- the Verniers -/
  | verniers
  /-- timers and watchdogs -/
  | timers
  /-- trackers and phase targets -/
  | clockDrive
  /-- the engines' general registers and banks -/
  | banks
  /-- the Lens registers -/
  | lens
  /-- the control stores -/
  | store
  /-- what an engine holds beside these -/
  | engines
  /-- keys, sessions and the tamper monitor -/
  | security
  /-- the Occultation channels -/
  | occultation
  /-- the chart in force -/
  | chart
  /-- the Assistant pair -/
  | assistant
  /-- the constellation -/
  | constellation
  /-- the Eyepiece -/
  | eyepiece
  /-- what the commands of the latest tick have done -/
  | tick
  deriving DecidableEq, Repr

/-- Two states agree in a part. -/
def Part.same (s t : State) : Part → Prop
  | .plates => t.mem = s.mem
  | .ecc => t.ecc = s.ecc ∧ t.scrubWord = s.scrubWord ∧ t.handovers = s.handovers
  | .queues => t.queues = s.queues ∧ t.failed = s.failed ∧ t.bulk = s.bulk ∧ t.bulkWaiting = s.bulkWaiting ∧ t.handoff = s.handoff ∧ t.jobs = s.jobs
  | .time => t.rgl = s.rgl ∧ t.stamps = s.stamps ∧ t.stampCount = s.stampCount ∧ t.alarms = s.alarms ∧ t.pps = s.pps
  | .events => t.lines = s.lines ∧ t.deliveries = s.deliveries ∧ t.asst = s.asst ∧ t.claims = s.claims ∧ t.evmask = s.evmask ∧ t.retained = s.retained
  | .answers => t.host = s.host ∧ t.eyeResp = s.eyeResp ∧ t.eyeData = s.eyeData ∧ t.log = s.log
  | .power => t.ifcOn = s.ifcOn ∧ t.dbgOn = s.dbgOn ∧ t.power = s.power
  | .flows => t.flows = s.flows ∧ t.buckets = s.buckets
  | .framePorts => t.ports = s.ports ∧ t.residues = s.residues ∧ t.groups = s.groups ∧ t.streams = s.streams
  | .verniers => t.verniers = s.verniers ∧ t.vernierHalts = s.vernierHalts
  | .timers => t.timers = s.timers ∧ t.watchdogs = s.watchdogs
  | .clockDrive => t.trackers = s.trackers ∧ t.phaseTargets = s.phaseTargets ∧ t.ephHold = s.ephHold
  | .banks => t.gprs = s.gprs ∧ t.banks = s.banks
  | .lens => t.lens = s.lens
  | .store => t.wcs = s.wcs
  | .engines => t.engines = s.engines ∧ t.crossTrigger = s.crossTrigger
  | .security => t.bootKey = s.bootKey ∧ t.security = s.security
  | .occultation => t.channels = s.channels
  | .chart => t.chart = s.chart
  | .assistant => t.assistant = s.assistant
  | .constellation => t.links = s.links ∧ t.constellation = s.constellation
  | .eyepiece => t.eyepiece = s.eyepiece
  | .tick => t.tick = s.tick

end Sys2Proof.Machine

namespace Sys2Proof

open Sys2Proof.Machine (Part)

/-- Every part, for the commands that may reach all of them. -/
def allParts : List Part :=
  [.plates, .ecc, .queues, .time, .events, .answers, .power, .flows, .framePorts, .verniers, .timers, .clockDrive, .banks, .lens, .store, .engines, .security, .occultation, .chart, .assistant, .constellation, .eyepiece, .tick]

/-- The parts that a microword may change. -/
def engineParts : List Part :=
  [.plates, .ecc, .queues, .time, .events, .answers, .flows, .verniers, .timers, .clockDrive, .banks, .lens, .engines, .tick]

/-- The parts that a command may change beside the registers: what each unit of the spec is given to act on, and what an event
registered by it reaches (the event lines, the flow that an event starts). -/
def Instr.touches : Instr → List Part
  | .aonRstNAssert | .detachDrainEnd | .pwrAckLoss | .attachReqFallInDormant | .napRequest _ _ | .napExit _ | .dormant _ _
  | .chartLoad _ _ _ | .amend | .check _ _ | .eyeDrUpdate _ _ _ _ | .capW3Commit _ _ _ | .hostTransaction _ _ _ _ _ _
  | .registerWrite _ _ _ => allParts
  | .cluRstNAssert | .pllLock
    => [.ecc, .queues, .time, .events, .answers, .power, .flows, .framePorts, .verniers, .timers, .clockDrive, .banks, .engines, .security, .occultation, .chart, .assistant, .constellation, .eyepiece, .tick]
  | .dbgRstNAssert => [.queues, .time, .events, .answers, .flows, .verniers, .timers, .engines, .eyepiece]
  | .clurst _ _ | .loadReset | .lcadvance | .tamperDetection _
    => [.plates, .ecc, .queues, .time, .events, .answers, .power, .flows, .framePorts, .verniers, .timers, .clockDrive, .banks, .engines, .security, .occultation, .chart, .assistant, .constellation, .eyepiece, .tick]
  | .resetReleaseSequence _ _ _ => [.time, .events, .answers, .power, .flows, .clockDrive, .security]
  | .stabilityCheckComplete _ _ _ => [.power]
  | .clockLoss _ _ => [.time, .events, .power, .flows, .constellation]
  | .linkPllLockLoss | .linkFrameTimeout _ => [.queues, .events, .answers, .flows, .clockDrive, .constellation]
  | .attachSequence _ => [.events, .power, .flows]
  | .detachSequence | .napEntry => [.power, .timers]
  | .detachCommitWindowEnd => [.plates, .ecc, .queues, .time, .events, .answers, .power, .flows, .timers, .engines]
  | .dormantWake _ _ => [.time, .power]
  | .wake _ _ => [.answers, .power]
  | .wakeLatchReplay | .alarmRangeClose _ | .phaseAlarmFire _ | .eventRegistration _ | .fieldPinEdge _ _
  | .macStatisticsCode _ _ | .macWakeEdge _ | .residueIndication _ _ | .windowClose _ => [.events, .flows]
  | .holdoverLimit _ | .timerWrap _ _ | .timerCompareMatch _ _ | .timerStop _ _ | .phaseModeCompareFire _ _
  | .edgeCapture _ _ _ _ => [.time, .events, .flows, .timers]
  | .clkSscWrite _ _ | .pincalWrite _ _ | .pcapCycRead _ _ | .cdrSnapshot _ _ | .ephemerisEntryWrite _ _
  | .trackerConfigWrite _ _ _ _ | .engUpcWrite _ _ _ | .engPriWrite _ _ _ | .engSalWrite _ _ _ _ | .tmrCntWrite _ _ _ _
  | .vrnImemWrite _ _ _ _ | .occChcfgWrite _ _ _ | .shtStatFaultClear _ _ | .tamperPolWrite _ _ | .gapRecord
  | .logSpillrdWrite _ _ | .logTailWrite _ _ | .eyeFreezeWrite _ _ => [.answers]
  | .snapshot _ _ | .rateWrite _ _ | .qualWrite _ _ | .srvOwnWrite _ _ | .alarmArm _ _ _ | .alarmDisarm _ _ _ => [.time, .answers]
  | .evcRouteWrite _ _ _ | .poolConfigWrite _ _ _ | .evcDoor _ _ | .evcPendWrite _ _ _ | .fldCfgWrite _ _ _
    => [.events, .answers, .flows]
  | .stampPointEdge _ _ _ => [.time, .occultation]
  | .tempReading _ _ | .holdoverTimeout => [.time]
  | .stepCommit _ _ => [.time, .answers, .clockDrive]
  | .slewComplete | .servoFreezeRelease | .secondCarry => [.time, .clockDrive]
  | .alarmFire _ => [.events, .flows, .verniers, .timers]
  | .alarmPeriodicFire _ | .alarmRangeOpen _ => [.time, .events, .flows, .verniers, .timers]
  | .zeroCrossing _ _ | .catchupEnd _ => [.clockDrive]
  | .estimateApplication _ | .trackerSourceLoss _ => [.time, .events, .flows, .timers, .clockDrive]
  | .phaseAlarmPeriodicFire _ => [.events, .flows, .clockDrive]
  | .trackerEnable _ _ _ | .trackerDisable _ _ _ | .cycload _ _ _ => [.time, .events, .answers, .flows, .timers, .clockDrive]
  | .phaseAlarmArm _ _ _ | .phaseAlarmDisarm _ _ _ => [.events, .answers, .flows, .clockDrive]
  | .ephemerisEntryFire _ => [.events, .flows, .verniers, .clockDrive]
  | .eventDispatch _ | .engineRun _ _ _ | .engineStop _ _ _ | .engineForceStop _ _ _ | .fclr _ _ _ | .deferredHalt _
  | .engineHalt _ => [.plates, .ecc, .queues, .time, .events, .answers, .flows, .timers, .engines]
  | .exceptionEntry _
    => [.plates, .ecc, .queues, .time, .events, .answers, .flows, .verniers, .timers, .clockDrive, .banks, .lens, .engines, .tick]
  | .lensComplete _ => [.lens, .engines]
  | .bulkComplete _ _ _ => [.plates, .ecc, .queues, .events, .answers, .flows, .engines]
  | .resumableElement _ | .jmp _ | .br _ | .call _ | .callBr _ | .rts _ | .wait _ | .waitBr _ | .loop _ | .jmpR _ | .retE _
  | .retX _ | .passa _ | .passb _ | .add _ | .adc _ | .sub _ | .sbc _ | .rsb _ | .and _ | .or _ | .xor _ | .andn _ | .not _
  | .neg _ | .min _ | .max _ | .minu _ | .maxu _ | .cmp _ | .tst _ | .mul _ | .mulh _ | .mulhu _ | .clz _ | .popc _ | .brev _
  | .sextB _ | .sextH _ | .shl _ | .shr _ | .sar _ | .ror _ | .csum16 _ | .ldB _ | .ldH _ | .ldW _ | .ldD _ | .stB _ | .stH _
  | .stW _ | .stD _ | .addA _ | .swpA _ | .crcblk _ | .movblk _ | .sumblk _ | .brd _ | .bwr _ | .bwait _ | .bwaitAll _
  | .saveLo _ | .saveHi _ | .capDrv _ | .capRev _ | .capClr _ | .capRd _ | .enq _ | .deq _ | .peek _ | .qlen _ | .commit _
  | .put _ | .take _ | .stamp _ | .stampRx _ | .snap _ | .almArm _ | .almSet _ | .almDis _ | .almStat _ | .phArm _ | .phSet _
  | .phDis _ | .phSnap _ | .phFeed _ | .evsrc _ | .tmrRd _ | .tmrWr _ | .tmrCap _ | .tmrParm _ | .discRate _ | .discStep _
  | .discQual _ | .claim _ | .evtSet _ | .evtClr _ | .gmaskSet _ | .gmaskClr _ | .pendLo _ | .pendHi _ | .push _ | .pull _
  | .vstat _ | .flagSet _ | .flagClr _ | .start _ | .stop _ | .pinrd _ | .pinwr _ | .qadd _ | .qsub _ | .qcmp _ | .qmov _
  | .qneg _ | .qabs _ | .ldk _ | .qmul _ | .qmac _ | .qcmac _ | .f2q _ | .q2f _ | .fadd _ | .fsub _ | .fmul _ | .fma _
  | .fdiv _ | .fsqrt _ | .cfma _ | .crot _ | .cvec _ | .vdotQ _ | .vdotF _ | .vcmacF _ | .microbreak _ => engineParts
  | .wcsCommit _ _ _ => [.answers, .store, .engines]
  | .wcsRead _ _ _ | .captureRead _ _ _ _ | .counterReadClear _ => [.answers, .engines, .eyepiece]
  | .timerStart _ _ | .watchdogExpiry _ => [.timers]
  | .pdis _ _ _ _ | .scap _ _ _ _ | .tmrCtlWrite _ _ _ _ => [.time, .events, .answers, .flows, .timers]
  | .watchdogKick _ _ _ => [.answers, .timers]
  | .lineRetire _ | .moderationRelease _ => [.events]
  | .evcMaskWrite _ _ _ => [.events, .answers]
  | .pltOwnWrite _ _ _ => [.ecc, .queues, .answers]
  | .handoverTakesEffect _ => [.plates, .ecc, .answers, .tick]
  | .hostPlateAccess _ _ _ _ _ _ | .logRecordPlace => [.plates, .ecc, .answers]
  | .scrubberVisit _ => [.ecc, .events, .flows]
  | .descriptorVisible _ => [.plates, .ecc, .queues, .events, .flows, .constellation]
  | .spillReadback _ => [.queues]
  | .queueResume _ _ | .queueConfigWrite _ _ _ => [.queues, .answers]
  | .qmEnq _ _ | .qmDeq _ _ | .qmPeek _ _ | .qmLen _ _ | .engmapWrite _ _ _ => [.queues, .events, .answers, .flows]
  | .frameReceived _ _ _ _ _ _ => [.plates, .ecc, .queues, .time, .events, .flows, .framePorts]
  | .frameFromSwitchCore _ _ _ _ => [.plates, .ecc, .queues, .events, .flows, .framePorts]
  | .frameEmission _ _ _ _ _ => [.queues, .time, .events, .flows, .framePorts]
  | .expiryConversion _ _ _ | .injectedFrame _ _ => [.queues, .events, .flows, .framePorts]
  | .go _ _ _ | .flowTableCommit _ _ _ => [.events, .answers, .flows, .framePorts]
  | .gateListChange _ => [.events, .flows, .framePorts]
  | .finderRuleCommit _ _ _ => [.answers, .framePorts]
  | .finderRuleApply _ | .bucketRefill _ => [.flows, .framePorts]
  | .bypassChange _ | .linkDelayCopy _ _ | .duplicateEntryExpiry _ | .proxyEntryExpiry _ | .recoveryStreamReset _ _ => [.framePorts]
  | .ppsRising | .ppsFalling => [.time, .events, .flows]
  | .vrnCtlStart _ _ _ | .vrnCtlStop _ _ _ | .groupStart _ _ => [.events, .answers, .flows, .verniers]
  | .idle _ | .setp _ | .sete _ | .emit _ | .gather _ | .vernierLoad _ | .post _ | .tally _ | .vernierBr _ | .vernierWait _
  | .stmp _ | .flg _ | .rep _ => [.events, .flows, .verniers]
  | .train _ _ _ | .warm _ _ _ => [.answers, .occultation]
  | .trainingComplete _ | .frontTrigger _ _ _ _ => [.occultation]
  | .channelLost _ => [.events, .flows, .occultation]
  | .arrivalRecord _ _ => [.plates, .ecc, .queues, .events, .flows, .occultation]
  | .nop | .flowquery | .capquery | .keygen | .keyload | .keyerase | .logspill | .logread => [.answers, .security, .assistant]
  | .load | .admitFlow | .withdraw => [.answers, .flows, .framePorts, .security, .assistant]
  | .flowWithdrawn _ | .lockstepMismatch | .assistantWatchdogExpiry | .logSpillWrite _ => []
  | .grant => [.events, .answers, .flows, .engines, .security, .assistant]
  | .upgrade => [.answers, .engines, .security, .assistant]
  | .revoke => [.plates, .ecc, .answers, .security, .assistant, .tick]
  | .failover => [.plates, .ecc, .queues, .time, .events, .answers, .flows, .timers, .engines, .security, .assistant]
  | .cutOver | .engineFaultResponse _ | .shutterTakeover
    => [.plates, .ecc, .queues, .time, .events, .answers, .flows, .timers, .engines, .assistant]
  | .cutOverTimeout => [.engines, .assistant]
  | .dbgunlock => [.answers, .security, .assistant, .eyepiece]
  | .dbglock => [.time, .events, .answers, .flows, .verniers, .timers, .engines, .security, .assistant, .eyepiece]
  | .unknownCommand => [.assistant]
  | .breachWatchVisit _ => [.queues, .flows]
  | .shutterDrainEnd => [.queues, .events, .answers, .flows, .clockDrive, .occultation, .constellation]
  | .shutterSelfCheckFailure => [.plates, .ecc, .queues, .time, .events, .answers, .flows, .verniers, .timers, .engines]
  | .linkFrameReceived _ _ _ | .qhead _ _ _ | .qdata _ _ _ | .eventFrame _ _ _ | .controlFrame _ _ _ | .track _ _ _
    => [.plates, .ecc, .queues, .time, .events, .answers, .flows, .clockDrive, .constellation]
  | .trackExport => [.constellation]
  | .linkUpdate _ => [.time, .events, .answers, .flows, .clockDrive, .constellation]
  | .servoOwnerHandover => [.time, .events, .answers, .flows, .constellation]
  | .presenceTimeout _ | .linkTrainingEntry _ => [.events, .flows, .constellation]
  | .leave _ _ _ => [.queues, .time, .events, .answers, .flows, .clockDrive, .constellation]
  | .outboundItemSend => [.queues, .events, .flows, .constellation]
  | .authBindingWrite _ _ _ => [.events, .answers, .flows, .security]
  | .authRequest _ => [.plates, .ecc, .queues, .events, .flows, .security]
  | .authResult => [.queues, .events, .flows, .security]
  | .halt _ _ | .haltNow _ _ | .resume _ _ | .step _ _ | .live _ _
    => [.time, .events, .answers, .flows, .verniers, .timers, .engines]
  | .liveRead _ => [.plates, .ecc, .answers, .engines, .eyepiece]
  | .vernierHalt _ => [.verniers]
  | .eyeEdataAccess _ _ => [.answers, .banks, .lens, .engines]
  | .eyeMasterGo _ _ | .eyeMasterCancel _ _ => [.queues, .answers, .eyepiece]
  | .eyeMasterComplete _ _ _ => [.plates, .ecc, .queues, .answers, .eyepiece]
  | .crossTrigger => [.verniers, .engines]
  | .sessionExpiry _ => [.time, .events, .answers, .flows, .verniers, .timers, .engines, .eyepiece]
  | .framePeriodSlot _ _ => [.time, .events, .constellation]
  | .debugDomainPowerOff => [.queues, .time, .events, .answers, .power, .flows, .verniers, .timers, .engines, .eyepiece]

end Sys2Proof

namespace Sys2Proof.Machine

/-- The invariant of the state: memory and registers are in their canonical form. -/
structure State.Inv (s : State) : Prop where
  mem : Memory.wf s.mem = true
  regs : TableWf resetWord s.regs

/-- Engine e stands at a microword that begins undisturbed: it runs and nothing is due (04 R173, R223), the stored word has good
parity (04 R226), no locked sequence is open, no capability write waits, and the debugger neither steps, tags nor watches the
engine (19 R904, R911, R913). -/
structure State.Quiet (s : State) (e : Nat) : Prop where
  ready : s.ready e = true
  begins : s.on (ENG_STAT.STALL e) = false
  parity : s.badGroups e = 0
  unlocked : s.lockOpen e = false
  noCaps : (s.eng e).capWrites = []
  noStep : (s.eng e).stepping = false
  noTag : (s.micro e).bkpt = false
  noWatch : ∀ k < 8, s.get (ENG_DCMP_CTL.KIND e k) = 0

/-- The operands of the microword at which engine e stands. -/
def State.here (s : State) (e : Nat) : Args := s.args e (s.micro e) (s.upc e)

/-- The microword at which engine e stands takes effect in this command: it begins undisturbed, no cause of 06 R309 holds, and
it does not stall (04 R179). -/
structure State.Unhindered (s : State) (e : Nat) : Prop extends s.Quiet e where
  noCause : s.firstCause (s.here e) = none
  noStall : s.stalls (s.here e) = false

/-- A microword with no other operation than those of the ALU and SEQ fields. -/
def Micro.datapathOnly (w : Micro) : Bool :=
  w.mem == 0 && w.qop == 0 && w.top == 0 && w.evt == 0 && w.pin == 0 && w.lens == 0 && w.lock == 0

end Sys2Proof.Machine
end

