-- ==== Sys2Proof/Certificates/Slice0/Obligations.lean ====
section
/-! DEFINITION. The statements. -/

namespace Sys2Proof.Machine

/-! ## The vocabulary of the statements about microwords -/

/-- What stands at a destination code of level l of engine e (05 R256). -/
def State.destination (s : State) (e l code : Nat) : Word :=
  if code < 0x10 then s.gpr e l code
  else if lensHalf code then s.lensHalfWord e code
  else match code with
    | 0x11 => (s.bank e l).lcnt.setWidth 32
    | 0x12 => (s.bank e l).link.setWidth 32
    | 0x13 => (s.bank e l).cc.setWidth 32
    | _ => 0

/-- A word as a destination keeps it (05 R256): LCNT keeps 16 bits, LINK 13, CC 10, NONE nothing. -/
def kept (code : Nat) (v : Word) : Word :=
  match code with
  | 0x10 => 0
  | 0x11 => v &&& 0xFFFF
  | 0x12 => v &&& 0x1FFF
  | 0x13 => v &&& 0x3FF
  | _ => v

/-- The sequencer does not write the register that DST names: LINK under CALL and CALL.BR, LCNT under LOOP (05 R242, R245). -/
def Micro.ownDst (w : Micro) : Bool := !(w.dst == 0x12 && (w.seq == 2 || w.seq == 3)) && !(w.dst == 0x11 && w.seq == 7)

/-- The microword returns to another level. -/
def Micro.returns (w : Micro) : Bool := w.seq == 9 || w.seq == 0xA

/-- Condition code k of the level at which engine e runs. -/
def State.code (s : State) (e k : Nat) : Bool := (s.bank e (s.level e)).cc.getLsbD k

/-- What a microword of engine e leaves as it was: every part of the state but the engines' own and those of a list, and every
register but ENG_UPC and ENG_LENS of the engine and those of a list. -/
structure Leaves (e : Nat) (ps : List Part) (ks : List Nat) (s t : State) : Prop where
  parts : ∀ p : Part, p ≠ .banks → p ≠ .lens → p ≠ .engines → p ∉ ps → p.same s t
  regs : ∀ k, k ≠ ENG_UPC e → k ≠ ENG_LENS e → k ∉ ks → t.reg k = s.reg k

/-- Nothing outside the engine changes. -/
abbrev OnlyEngine (e : Nat) (s t : State) : Prop := Leaves e [] [] s t

/-- The registers that report plate errors (10 R504, R505). -/
def eccRegs : List Nat := [PLT_ECCSTAT, PLT_ECCADDR]

/-- What a microword leaves of the engines' registers: all but what its destination code names. -/
structure OnlyDestination (e l code : Nat) (s t : State) : Prop where
  gprs : ∀ e' l' i, l' < 5 → i < 16 → ¬ (e' = e ∧ l' = l ∧ i = code) → t.gpr e' l' i = s.gpr e' l' i
  lens : ∀ e' j, ¬ (e' = e ∧ lensHalf code = true ∧ j % 8 = halfReg code) → t.lensReg e' j = s.lensReg e' j
  half : lensHalf code = true → t.lensHalfWord e (code ^^^ 1) = s.lensHalfWord e (code ^^^ 1)

/-- A row of the table under R252: the command, the code of ALU, and from A, B and C the result, the value that Z and N are of,
and C and V where the row defines them. -/
structure AluRow where
  row : Fin 12 → Instr
  alu : Nat
  value : Word → Word → Bool → Word
  result : Bool
  carry : Word → Word → Bool → Option Bool
  overflow : Word → Word → Bool → Option Bool

/-- A row that defines Z and N only. -/
def AluRow.zn (row : Fin 12 → Instr) (alu : Nat) (value : Word → Word → Word) (result : Bool := true) : AluRow :=
  { row, alu, value := fun a b _ => value a b, result, carry := fun _ _ _ => none, overflow := fun _ _ _ => none }

/-- A row that subtracts: C is 1 for no borrow, V is 1 where the signed difference does not fit. -/
def AluRow.sub (row : Fin 12 → Instr) (alu : Nat) (x y : Word → Word → Word) (borrow : Bool → Nat) (result : Bool := true) : AluRow :=
  { row, alu, result
    value := fun a b c => x a b - y a b - BitVec.ofNat 32 (borrow c)
    carry := fun a b c => some (decide ((y a b).toNat + borrow c ≤ (x a b).toNat))
    overflow := fun a b c => some (decide ((x a b - y a b - BitVec.ofNat 32 (borrow c)).toInt ≠ (x a b).toInt - (y a b).toInt - borrow c)) }

/-- A row that adds: C is the carry out, V is 1 where the signed sum does not fit. -/
def AluRow.add (row : Fin 12 → Instr) (alu : Nat) (carryIn : Bool → Nat) : AluRow :=
  { row, alu, result := true
    value := fun a b c => a + b + BitVec.ofNat 32 (carryIn c)
    carry := fun a b c => some (decide (2 ^ 32 ≤ a.toNat + b.toNat + carryIn c))
    overflow := fun a b c => some (decide ((a + b + BitVec.ofNat 32 (carryIn c)).toInt ≠ a.toInt + b.toInt + carryIn c)) }

/-- A row that shifts: C is the last bit out, and stays for a shift by 0 (R253). -/
def AluRow.shift (row : Fin 12 → Instr) (alu : Nat) (value : Word → Nat → Word) (out : Word → Nat → Bool) : AluRow :=
  { row, alu, result := true
    value := fun a b _ => value a (b.toNat % 32)
    carry := fun a b _ => if b.toNat % 32 = 0 then none else some (out a (b.toNat % 32))
    overflow := fun _ _ _ => none }

/-- The table under R252. -/
def aluRows : List AluRow :=
  [ .zn .passa 0x01 fun a _ => a,
    .zn .passb 0x02 fun _ b => b,
    .add .add 0x03 fun _ => 0,
    .add .adc 0x04 fun c => c.toNat,
    .sub .sub 0x05 (fun a _ => a) (fun _ b => b) fun _ => 0,
    .sub .sbc 0x06 (fun a _ => a) (fun _ b => b) fun c => 1 - c.toNat,
    .sub .rsb 0x07 (fun _ b => b) (fun a _ => a) fun _ => 0,
    .zn .and 0x08 fun a b => a &&& b,
    .zn .or 0x09 fun a b => a ||| b,
    .zn .xor 0x0A fun a b => a ^^^ b,
    .zn .andn 0x0B fun a b => a &&& ~~~b,
    .zn .not 0x0C fun _ b => ~~~b,
    .sub .neg 0x0D (fun _ _ => 0) (fun _ b => b) fun _ => 0,
    .zn .min 0x0E fun a b => if a.toInt ≤ b.toInt then a else b,
    .zn .max 0x0F fun a b => if a.toInt ≤ b.toInt then b else a,
    .zn .minu 0x10 fun a b => if a.toNat ≤ b.toNat then a else b,
    .zn .maxu 0x11 fun a b => if a.toNat ≤ b.toNat then b else a,
    .sub .cmp 0x12 (fun a _ => a) (fun _ b => b) (fun _ => 0) (result := false),
    .zn .tst 0x13 (fun a b => a &&& b) (result := false),
    .zn .mul 0x14 fun a b => (a.setWidth 64 * b.setWidth 64).setWidth 32,
    .zn .mulh 0x15 fun a b => (a.signExtend 64 * b.signExtend 64).extractLsb' 32 32,
    .zn .mulhu 0x16 fun a b => (a.setWidth 64 * b.setWidth 64).extractLsb' 32 32,
    .zn .clz 0x17 fun _ b => if b = 0 then 32 else BitVec.ofNat 32 (31 - Nat.log2 b.toNat),
    .zn .popc 0x18 fun _ b => BitVec.ofNat 32 ((List.range 32).countP fun k => b.getLsbD k),
    .zn .brev 0x19 fun _ b => b.reverse,
    .zn .sextB 0x1A fun _ b => (b.setWidth 8).signExtend 32,
    .zn .sextH 0x1B fun _ b => (b.setWidth 16).signExtend 32,
    .shift .shl 0x1C (fun a n => a <<< n) fun a n => a.getLsbD (32 - n),
    .shift .shr 0x1D (fun a n => a >>> n) fun a n => a.getLsbD (n - 1),
    .shift .sar 0x1E (fun a n => a.sshiftRight n) fun a n => a.getLsbD (n - 1),
    { row := .ror, alu := 0x1F, result := true
      value := fun a b _ => a.rotateRight (b.toNat % 32)
      carry := fun a b _ => some (a.rotateRight (b.toNat % 32)).msb
      overflow := fun _ _ _ => none },
    .zn .csum16 0x20 fun a b =>
      let n := a.toNat % 65536 + b.toNat % 65536
      BitVec.ofNat 32 (if 65536 ≤ n then n - 65535 else n) ]

end Sys2Proof.Machine

open Sys2Proof Sys2Proof.Machine

/-- 05 R252 to R255, R258: every row of the ALU table, in a microword with no other operation, runs, and DST holds the row's result;
Z and N, and under ZNCV C and V where the row defines them, are those of the row, and the other condition codes stay. -/
def Obligations.DatapathResults : Prop :=
  ∀ r ∈ aluRows, ∀ (e : Fin 12) (s : State), s.Unhindered e → (s.micro e).datapathOnly = true → (s.micro e).alu = r.alu →
    (s.micro e).returns = false →
    let w := s.micro e
    let x := s.here e
    let v := r.value x.a x.b (s.code e 2)
    ∃ t, exec (r.row e) s = .next t ∧
      (r.result = true → w.ownDst = true → t.destination e (s.level e) w.dst = kept w.dst v) ∧
      ((w.dst ≠ 0x13 ∨ r.result = false) → w.ccu = 1 ∨ w.ccu = 2 → ∀ k < 10, (t.bank e (s.level e)).cc.getLsbD k =
        if k = 0 then v == 0
        else if k = 1 then v.msb
        else if k = 2 ∧ w.ccu = 2 then (r.carry x.a x.b (s.code e 2)).getD (s.code e 2)
        else if k = 3 ∧ w.ccu = 2 then (r.overflow x.a x.b (s.code e 2)).getD (s.code e 3)
        else s.code e k) ∧
      ((w.dst ≠ 0x13 ∨ r.result = false) → w.ccu = 0 → (t.bank e (s.level e)).cc = (s.bank e (s.level e)).cc)

/-- The frame of the ALU rows: nothing but the destination, the condition codes, the link register and loop counter of the level,
and the engine's own run state changes; a row without a result writes no destination. -/
def Obligations.DatapathFrame : Prop :=
  ∀ r ∈ aluRows, ∀ (e : Fin 12) (s : State), s.Unhindered e → (s.micro e).datapathOnly = true → (s.micro e).alu = r.alu →
    (s.micro e).returns = false →
    ∃ t, exec (r.row e) s = .next t ∧ OnlyEngine e s t ∧ (∀ a, t.byte a = s.byte a) ∧
      OnlyDestination e (s.level e) (if r.result then (s.micro e).dst else 0x10) s t ∧
      (∀ e' l', l' < 5 → ¬ (e' = e.val ∧ l' = s.level e) → t.bank e' l' = s.bank e' l')

namespace Sys2Proof.Machine

/-- A row of the table under R242 that stays at its level: the command, the code of SEQ, the next address, and whether the row
writes the link register or decrements the loop counter. -/
structure SeqRow where
  row : Fin 12 → Instr
  seq : Nat
  next : State → Args → Nat
  links : Bool := false
  counts : Bool := false

/-- NEXT. -/
def SeqRow.plain (_ : State) (x : Args) : Nat := x.w.next

/-- NEXT merged with the condition bits that take part (04 R187), as the microword's next-address logic sees them (R184, 05 R243). -/
def SeqRow.merged (s : State) (x : Args) : Nat := x.w.next ||| x.w.condVector (s.condsFor x.e x.w).1 (s.condsFor x.e x.w).2

/-- The rows of the table under R242, but for the returns. -/
def seqRows : List SeqRow :=
  [ { row := .jmp, seq := 0, next := SeqRow.plain },
    { row := .br, seq := 1, next := SeqRow.merged },
    { row := .call, seq := 2, next := SeqRow.plain, links := true },
    { row := .callBr, seq := 3, next := SeqRow.merged, links := true },
    { row := .rts, seq := 4, next := fun s x => (s.bank x.e x.l).link.toNat },
    { row := .wait, seq := 5, next := SeqRow.plain },
    { row := .waitBr, seq := 6, next := SeqRow.merged },
    { row := .loop, seq := 7, counts := true,
      next := fun s x => if 1 < (s.bank x.e x.l).lcnt.toNat then x.w.next else x.w.next ||| 1 },
    { row := .jmpR, seq := 8, next := fun _ x => x.a.toNat % 8192 } ]

/-- The highest level of engine e, other than l, whose bank is in use (06 R294). -/
def State.highestOther (s : State) (e l : Nat) : Option Nat := [3, 2, 1, 0].find? fun b => b != l && s.bankUsed e b

/-- Where a level resumes after RET.X: the interrupted level at the link register of PF, any other at its resume microaddress
(06 R317). -/
def State.resumesAt (s : State) (e b : Nat) : Nat :=
  if b = s.get (ENG_XCTX.ILVL e) then (s.bank e 4).link.toNat else s.get (ENG_RESUME.UPC e b)

end Sys2Proof.Machine

/-- 05 R242 to R246: every row of the sequencer table but the returns, in a microword with no operation other than the ALU's, runs to
the row's next address; CALL and CALL.BR put the following address into the link register, LOOP decrements the loop counter of the
level down to 0, and no other row changes either. -/
def Obligations.SequencerRows : Prop :=
  ∀ r ∈ seqRows, ∀ (e : Fin 12) (s : State), s.Unhindered e → (s.micro e).datapathOnly = true → (s.micro e).seq = r.seq →
    let x := s.here e
    ∃ t, exec (r.row e) s = .next t ∧ t.upc e = r.next s x ∧ OnlyEngine e s t ∧
      ((s.micro e).dst ≠ 0x12 → (t.bank e x.l).link.toNat = if r.links then (s.upc e + 1) % 8192 else (s.bank e x.l).link.toNat) ∧
      ((s.micro e).dst ≠ 0x11 → (t.bank e x.l).lcnt.toNat = (s.bank e x.l).lcnt.toNat - if r.counts then 1 else 0)

/-- The engine begins an entry at the highest eligible level, and none where no level is eligible (06 R294, R291), unless an asynchronous
cause or a Lens operation of precise mode comes first. -/
def EntersEligible (e : Nat) (t : State) : Prop :=
  t.asyncDue e = false → t.lensGap e = false → (t.eng e).entry = t.eligible e

/-- 06 R294, R315: RET.E frees the bank of its level; a level that is eligible above those in use is entered, else the highest level in use
resumes at its resume microaddress, and with none in use the engine is idle. -/
def Sys2Proof.Machine.ReturnFromEventHold : Prop :=
  ∀ (e : Fin 12) (s : State), s.Unhindered e → (s.micro e).datapathOnly = true → (s.micro e).seq = 9 →
    ∃ t, exec (.retE e) s = .next t ∧
      (∀ b < 5, t.bankUsed e b = (b != s.level e && s.bankUsed e b)) ∧
      (∀ b, s.highestOther e (s.level e) = some b → t.level e = b ∧ t.upc e = s.get (ENG_RESUME.UPC e b)) ∧
      (s.highestOther e (s.level e) = none → t.get (ENG_STAT.STATE e) = 2) ∧ EntersEligible e t

/-- 06 R294, R317: RET.X frees the PF bank; a level that is eligible above those in use is entered, else the highest level in use resumes,
the interrupted level at the address in the link register of PF, and with none in use the engine is idle. -/
def Sys2Proof.Machine.ReturnFromExceptionHold : Prop :=
  ∀ (e : Fin 12) (s : State), s.Unhindered e → (s.micro e).datapathOnly = true → (s.micro e).seq = 0xA → (s.micro e).dst ≠ 0x12 →
    ∃ t, exec (.retX e) s = .next t ∧
      (∀ b < 5, t.bankUsed e b = (b != 4 && s.bankUsed e b)) ∧
      (∀ b, s.highestOther e 4 = some b → t.level e = b ∧ t.upc e = s.resumesAt e b) ∧
      (s.highestOther e 4 = none → t.get (ENG_STAT.STATE e) = 2) ∧ EntersEligible e t

/-- 06 R294, R315, R317: the two returns, RET.E and RET.X, free their bank, and enter a level eligible above those in use, resume the highest
level in use, or leave the engine idle. -/
def Obligations.ReturnRows : Prop := ReturnFromEventHold ∧ ReturnFromExceptionHold

namespace Sys2Proof.Machine

/-- A microword with no other operation than those of the MEM, ALU and SEQ fields, that does not return. -/
def Micro.memoryOnly (w : Micro) : Bool :=
  w.qop == 0 && w.top == 0 && w.evt == 0 && w.pin == 0 && w.lens == 0 && w.lock == 0 && !w.returns

/-- The n bytes from a plate address as a number, least significant first (00 R4). -/
def State.number (s : State) (a : Nat) : Nat → Nat
  | 0 => 0
  | n + 1 => (s.byte a).toNat + 256 * s.number (a + 1) n

/-- The n bytes from address a can be read by engine e: no word of them holds an uncorrectable error (10 R505), and no bulk read
of the engine is filling them (04 R213). -/
structure State.Readable (s : State) (e a n : Nat) : Prop where
  good : s.uncorrectable a n = false
  settled : ∀ i < n, s.underBulkRead e (a + i) = false

/-- What AMODE writes back to the address register (05 R260): A plus the width, or A plus IMM. -/
def Args.written (x : Args) (n : Nat) : Option Word :=
  if x.w.amode = 5 then some (x.a + BitVec.ofNat 32 n) else if x.w.amode = 6 then some (x.a + x.w.imm) else none

/-- A load of the table under R262: the command, the code of MEM and the width. -/
structure LoadRow where
  row : Fin 12 → Instr
  mem : Nat
  width : Nat

/-- The loads into DST. -/
def loadRows : List LoadRow := [⟨.ldB, 1, 1⟩, ⟨.ldH, 2, 2⟩, ⟨.ldW, 3, 4⟩]

/-- A store of the table under R262: the command, the code of MEM, the width and the number stored. -/
structure StoreRow where
  row : Fin 12 → Instr
  mem : Nat
  width : Nat
  value : State → Args → Nat

/-- The stores. -/
def storeRows : List StoreRow :=
  [ ⟨.stB, 5, 1, fun _ x => x.b.toNat⟩, ⟨.stH, 6, 2, fun _ x => x.b.toNat⟩, ⟨.stW, 7, 4, fun _ x => x.b.toNat⟩,
    ⟨.stD, 8, 8, fun s x => (s.lensReg x.e (halfReg x.w.bsrc)).toNat⟩ ]

/-- An atomic operation: the command, the code of MEM, and the new word from the old one and B. -/
structure AtomicRow where
  row : Fin 12 → Instr
  mem : Nat
  new : Word → Word → Word

/-- The atomic operations. -/
def atomicRows : List AtomicRow := [⟨.addA, 9, fun old b => old + b⟩, ⟨.swpA, 10, fun _ b => b⟩]

end Sys2Proof.Machine

/-- 05 R260, R262: LD.B, LD.H and LD.W run and leave in DST the plate number at the address that AMODE forms, zero-extended; POST and
PRE write the address register; no byte of memory changes. -/
def Sys2Proof.Machine.LoadWordsHold : Prop :=
  ∀ r ∈ loadRows, ∀ (e : Fin 12) (s : State), s.Unhindered e → (s.micro e).memoryOnly = true → (s.micro e).mem = r.mem →
    let x := s.here e
    s.Readable e x.addr r.width →
    ∃ t, exec (r.row e) s = .next t ∧ Leaves e [] eccRegs s t ∧ (∀ a, t.byte a = s.byte a) ∧
      ((s.micro e).ownDst = true → t.destination e x.l x.w.dst = kept x.w.dst (BitVec.ofNat 32 (s.number x.addr r.width))) ∧
      (∀ v, x.written r.width = some v → t.gpr e x.l x.w.asrc = v) ∧
      (∀ e' l' i, l' < 5 → i < 16 → ¬ (e' = e.val ∧ l' = x.l ∧ (i = x.w.dst ∨ i = x.w.asrc ∧ x.written r.width ≠ none)) →
        t.gpr e' l' i = s.gpr e' l' i)

/-- 05 R262: LD.D runs and leaves 64 plate bits in the Lens register that DST names, and in no other one; no byte of memory changes. -/
def Sys2Proof.Machine.LoadLensHold : Prop :=
  ∀ (e : Fin 12) (s : State), s.Unhindered e → (s.micro e).memoryOnly = true → (s.micro e).mem = 4 →
    let x := s.here e
    s.Readable e x.addr 8 →
    ∃ t, exec (.ldD e) s = .next t ∧ Leaves e [] eccRegs s t ∧ (∀ a, t.byte a = s.byte a) ∧
      (t.lensReg e (halfReg x.w.dst)).toNat = s.number x.addr 8 ∧
      (∀ e' j, ¬ (e' = e.val ∧ j % 8 = halfReg x.w.dst) → t.lensReg e' j = s.lensReg e' j) ∧
      (∀ v, x.written 8 = some v → t.gpr e x.l x.w.asrc = v)

/-- 05 R260, R262: the loads. -/
def Obligations.LoadRows : Prop := LoadWordsHold ∧ LoadLensHold

/-- A store of n bytes at an address leaves the queues and transfers as they were, but that a bulk write of the engine in flight may yet
take the bytes stored (04 R213). -/
def KeepsTransfers (e a n : Nat) (s t : State) : Prop :=
  t.queues = s.queues ∧ t.handoff = s.handoff ∧ ((∀ i < n, s.underBulkWrite e (a + i) = false) → Part.queues.same s t)

/-- 05 R260, R262: every store runs and writes its width of bytes at the address that AMODE forms, and no other byte of memory. -/
def Obligations.StoreRows : Prop :=
  ∀ r ∈ storeRows, ∀ (e : Fin 12) (s : State), s.Unhindered e → (s.micro e).memoryOnly = true → (s.micro e).mem = r.mem →
    let x := s.here e
    s.Readable e x.addr r.width →
    ∃ t, exec (r.row e) s = .next t ∧ Leaves e [.plates, .ecc, .queues] eccRegs s t ∧ KeepsTransfers e x.addr r.width s t ∧
      t.number x.addr r.width = r.value s x % 256 ^ r.width ∧
      (∀ a, a < x.addr ∨ x.addr + r.width ≤ a → t.byte a = s.byte a) ∧
      (∀ v, x.written r.width = some v → t.gpr e x.l x.w.asrc = v)

/-- 04 R204, 05 R262: ADD.A and SWP.A run, leave the old word in DST, write the new one in its place and no other byte of memory. -/
def Obligations.AtomicRows : Prop :=
  ∀ r ∈ atomicRows, ∀ (e : Fin 12) (s : State), s.Unhindered e → (s.micro e).memoryOnly = true → (s.micro e).mem = r.mem →
    let x := s.here e
    let old : Word := BitVec.ofNat 32 (s.number x.addr 4)
    s.Readable e x.addr 4 →
    ∃ t, exec (r.row e) s = .next t ∧ Leaves e [.plates, .ecc, .queues] eccRegs s t ∧ KeepsTransfers e x.addr 4 s t ∧
      ((s.micro e).ownDst = true → t.destination e x.l x.w.dst = kept x.w.dst old) ∧
      t.number x.addr 4 = (r.new old x.b).toNat ∧
      (∀ a, a < x.addr ∨ x.addr + 4 ≤ a → t.byte a = s.byte a) ∧
      (∀ v, x.written 4 = some v → t.gpr e x.l x.w.asrc = v)

namespace Sys2Proof.Machine

/-- The elements of the block operation at hand that are complete (06 R324). -/
def State.doneHere (s : State) (e : Nat) : Nat := s.progCount e (s.level e) (s.upc e) (s.micro e)

/-- The part of the byte range of a block operation that falls in its k-th plate word (05, Block operations): its first byte and its
length. -/
def blockPart (x : Args) (k : Nat) : Nat × Nat :=
  let a := x.a.toNat
  let lo := if k = 0 then a else 8 * (a / 8 + k)
  let hi := if 8 * (a / 8 + k + 1) ≤ a + x.b.toNat then 8 * (a / 8 + k + 1) else a + x.b.toNat
  (lo, hi - lo)

/-- What the microword at which engine e stood leaves of its progress after element k of n: it stalls with k + 1 elements counted, or
is complete and goes to its next address (06 R325). -/
def Progressed (e : Nat) (s t : State) (k n : Nat) : Prop :=
  if k + 1 < n then t.on (ENG_STAT.STALL e) = true ∧ t.upc e = s.upc e ∧ t.get (ENG_PROG.COUNT e (s.level e)) = (k + 1) % 2 ^ 16 ∧
    t.get (ENG_PROG.UPC e (s.level e)) = s.upc e
  else t.on (ENG_STAT.STALL e) = false ∧ t.upc e = s.nextAddress (s.here e) % 8192 ∧ t.reg (ENG_PROG e (s.level e)) = 0

/-- The running value of an accumulating block operation after some more bytes, the first of which lies off bytes into the range. -/
def accumulated (mem : Nat) (sel : Nat) (old : Word) (off : Nat) (bs : List Byte) : Word :=
  if mem = 0x0B then crcBytes sel old bs else BitVec.ofNat 32 (sumBytes off (old.toNat % 65536) bs)

end Sys2Proof.Machine

/-- 05 R264, R267, R268: CRCBLK and SUMBLK run, work one element of their range into DST, and stall before the next element or are
complete; no byte of memory changes. -/
def Sys2Proof.Machine.AccumulatingBlocksHold : Prop :=
  ∀ r ∈ [(Instr.crcblk, 0x0B), (Instr.sumblk, 0x0D)], ∀ (e : Fin 12) (s : State), s.Unhindered e → (s.micro e).memoryOnly = true →
    (s.micro e).mem = r.2 →
    let x := s.here e
    let k := s.doneHere e
    let p := blockPart x k
    k < x.total → s.Readable e p.1 p.2 →
    ∃ t, exec (r.1 e) s = .next t ∧ Progressed e s t k x.total ∧ (∀ a, t.byte a = s.byte a) ∧
      t.gpr e x.l x.w.dst = accumulated r.2 (x.w.imm.toNat % 4) (s.gpr e x.l x.w.dst) (p.1 - x.a.toNat) (s.bytes p.1 p.2) ∧
      Leaves e [] (eccRegs ++ [ENG_STAT e, ENG_PROG e x.l]) s t

/-- 05 R264 to R266: MOVBLK runs, copies one aligned 64-bit word, and stalls before the next one or is complete; no other byte of
memory changes. -/
def Sys2Proof.Machine.MoveBlockHold : Prop :=
  ∀ (e : Fin 12) (s : State), s.Unhindered e → (s.micro e).memoryOnly = true → (s.micro e).mem = 0x0C →
    let x := s.here e
    let k := s.doneHere e
    let src := x.a.toNat + 8 * k
    let dst := (s.gpr e x.l x.w.dst).toNat + 8 * k
    k < x.total → s.Readable e src 8 → s.Readable e dst 8 →
    ∃ t, exec (.movblk e) s = .next t ∧ Progressed e s t k x.total ∧ t.number dst 8 = s.number src 8 ∧
      (∀ a, a < dst ∨ dst + 8 ≤ a → t.byte a = s.byte a) ∧
      Leaves e [.plates, .ecc, .queues] (eccRegs ++ [ENG_STAT e, ENG_PROG e x.l]) s t ∧ KeepsTransfers e dst 8 s t

/-- 05 R265: a block operation of length 0 is complete at once, without effect. -/
def Sys2Proof.Machine.EmptyBlockHold : Prop :=
  ∀ r ∈ [(Instr.crcblk, 0x0B), (Instr.movblk, 0x0C), (Instr.sumblk, 0x0D)], ∀ (e : Fin 12) (s : State), s.Unhindered e →
    (s.micro e).memoryOnly = true → (s.micro e).mem = r.2 → (s.here e).b = 0 →
    ∃ t, exec (r.1 e) s = .next t ∧ t.upc e = s.nextAddress (s.here e) % 8192 ∧ (∀ a, t.byte a = s.byte a) ∧
      ((s.micro e).alu = 0 → t.gprs = s.gprs) ∧ OnlyEngine e s t

namespace Sys2Proof.Machine

/-- The lowest bulk tag of engine e that is not busy (04 R209). -/
def State.lowestTag (s : State) (e : Nat) : Option Nat := (List.range 16).find? fun t => !s.tagBusy e t

end Sys2Proof.Machine

/-- 04 R208 to R211, 05 R262: BRD and BWR run. With a free tag, DST is the lowest one, BFULL is 0 and the transaction is in flight on it,
a write with its plate bytes; with none, DST is 0xFFFF_FFFF, BFULL is 1 and nothing starts. -/
def Sys2Proof.Machine.BulkIssueHold : Prop :=
  ∀ r ∈ [(Instr.brd, 0x0E), (Instr.bwr, 0x0F)], ∀ (e : Fin 12) (s : State), s.Unhindered e → (s.micro e).memoryOnly = true →
    (s.micro e).mem = r.2 →
    let x := s.here e
    let n := fieldOf x.w.imm 5 0 + 1
    s.uncorrectable x.a.toNat n = false →
    ∃ t, exec (r.1 e) s = .next t ∧ (∀ a, t.byte a = s.byte a) ∧ Leaves e [.queues] eccRegs s t ∧
      (∀ g, s.lowestTag e = some g →
        t.gpr e x.l x.w.dst = BitVec.ofNat 32 g ∧ (t.bank e x.l).cc.getLsbD 9 = false ∧
        tfind t.bulk (16 * e + g) = some
          { use := if r.2 = 0x0E then .engineRead x.a.toNat n else .engineWrite x.a.toNat n, ext := x.b.toNat,
            bytes := if r.2 = 0x0E then [] else s.bytes x.a.toNat n, discard := false } ∧
        (∀ j, j ≠ 16 * e.val + g → tfind t.bulk j = tfind s.bulk j)) ∧
      (s.lowestTag e = none → t.gpr e x.l x.w.dst = 0xFFFFFFFF ∧ (t.bank e x.l).cc.getLsbD 9 = true ∧ t.bulk = s.bulk)

/-- 04 R214, 05 R262: BWAIT with the named tag complete, and BWAIT.ALL with every tag complete, run and go to the next address; they
change nothing else. -/
def Sys2Proof.Machine.BulkWaitsHold : Prop :=
  ∀ (e : Fin 12) (s : State), s.Unhindered e → (s.micro e).memoryOnly = true →
    ((s.micro e).mem = 0x10 → ∃ t, exec (.bwait e) s = .next t ∧ t.upc e = s.nextAddress (s.here e) % 8192 ∧ OnlyEngine e s t) ∧
    ((s.micro e).mem = 0x11 → ∃ t, exec (.bwaitAll e) s = .next t ∧ t.upc e = s.nextAddress (s.here e) % 8192 ∧ OnlyEngine e s t)

/-- 04 R214: a wait for a busy tag stalls: the engine stays at the microword, and nothing but STALL changes. -/
def Sys2Proof.Machine.BulkWaitStallsHold : Prop :=
  ∀ r ∈ [(Instr.bwait, 0x10), (Instr.bwaitAll, 0x11)], ∀ (e : Fin 12) (s : State), s.Quiet e → s.firstCause (s.here e) = none →
    (s.micro e).memoryOnly = true → (s.micro e).mem = r.2 →
    (if r.2 = 0x10 then s.tagBusy e ((s.here e).a.toNat % 16) = true else ∃ g < 16, s.tagBusy e g = true) →
    ∃ t, exec (r.1 e) s = .next t ∧ t.on (ENG_STAT.STALL e) = true ∧ t.upc e = s.upc e ∧ t.gprs = s.gprs ∧ t.banks = s.banks ∧
      (∀ p : Part, p ≠ .engines → p.same s t) ∧ (∀ e', e' ≠ e → t.eng e' = s.eng e') ∧
      (∃ b, t.eng e = { s.eng e with unjudged := b }) ∧ (∀ k, k ≠ ENG_STAT e → t.reg k = s.reg k)

namespace Sys2Proof.Machine

/-- What the commands of a command's tick have done before it, `same` where it falls in the tick of the command before it. -/
def State.tickOf (s : State) (same : Bool) : Tick := if same then s.tick else {}

/-- The registers that hold slot k of engine e's capabilities. -/
def slotRegs (e k : Nat) : List Nat := [CAP_W e k 0, CAP_W e k 1, CAP_W e k 2, CAP_W e k 3]

end Sys2Proof.Machine

/-- 09 R448, R451, 05 R262: CAP.DRV puts into the slot that IMM names a capability for the same object and generation with the rights both
hold, and for a plate range A and B as base and length; CAP.CLR makes its slot null; CAP.RD leaves a word of its capability in DST,
without the seal. No other slot changes. -/
def Sys2Proof.Machine.CapabilityRowsHold : Prop :=
  ∀ (e : Fin 12) (s : State), s.Unhindered e → (s.micro e).memoryOnly = true →
    let x := s.here e
    let k := fieldOf x.w.imm 3 0
    let plate := capType x.c = 1
    ((s.micro e).mem = 0x14 → ∃ t, exec (.capDrv e) s = .next t ∧ Leaves e [] (slotRegs e k) s t ∧
      capType (t.cap e k) = capType x.c ∧ capObj (t.cap e k) = capObj x.c ∧ capGen (t.cap e k) = capGen x.c ∧
      (∀ b < 11, (capRights (t.cap e k)).testBit b = ((capRights x.c).testBit b && (fieldOf x.w.imm 15 4).testBit b)) ∧
      capBase (t.cap e k) = (if plate then x.a.toNat else 0) ∧ capLen (t.cap e k) = (if plate then x.b.toNat else 0)) ∧
    ((s.micro e).mem = 0x16 → ∃ t, exec (.capClr e) s = .next t ∧ Leaves e [] (slotRegs e x.w.capr) s t ∧ t.cap e x.w.capr = 0) ∧
    ((s.micro e).mem = 0x17 → ∃ t, exec (.capRd e) s = .next t ∧ OnlyEngine e s t ∧
      (x.w.ownDst = true → t.destination e x.l x.w.dst = kept x.w.dst (((x.c.setWidth 112).setWidth 128 >>> (32 * (x.a.toNat % 4))).setWidth 32)))

/-- 09 R459 to R461: CAP.REV bumps the generation of the object of its capability, which is then current no more; another bump of the object
at the same edge adds nothing; no byte of memory outside the object's table entry changes. -/
def Sys2Proof.Machine.RevokeRowHold : Prop :=
  ∀ (e : Fin 12) (same : Bool) (s : State), s.Unhindered e → (s.micro e).memoryOnly = true → (s.micro e).mem = 0x15 →
    let x := s.here e
    let type := capType x.c
    let obj := capObj x.c
    (∀ a, capEntryAt type obj = some a → s.uncorrectable a 4 = false) →
    ∃ t, exec (.capRev (e, same)) s = .next t ∧ t.hostManaged type obj = s.hostManaged type obj ∧
      (if (s.tickOf same).bumps.contains (type + 16 * obj) then t.gen type obj = s.gen type obj
        else t.gen type obj = s.gen type obj + 1 ∧ t.capCurrent x.c = false ∧ t.tick.bumps = (type + 16 * obj) :: (s.tickOf same).bumps) ∧
      (∀ a p, capEntryAt type obj = some a → p < a ∨ a + 4 ≤ p → t.byte p = s.byte p) ∧
      Leaves e [.plates, .ecc, .answers, .tick] (eccRegs ++ [LOG_LOST]) s t

/-- 05 R264 to R268: CRCBLK, SUMBLK and MOVBLK run element by element, and at once on an empty range. -/
def Obligations.BlockRows : Prop := AccumulatingBlocksHold ∧ MoveBlockHold ∧ EmptyBlockHold

/-- 04 R208 to R211, R214, 05 R262: the bulk operations. -/
def Obligations.BulkRows : Prop := BulkIssueHold ∧ BulkWaitsHold ∧ BulkWaitStallsHold

/-- 09 R448, R451, R459, R460, 05 R262: the CAP operations. -/
def Obligations.CapabilityOperations : Prop := CapabilityRowsHold ∧ RevokeRowHold

namespace Sys2Proof.Machine

/-- A microword with no other operation than those of the QOP, ALU and SEQ fields, that does not return. -/
def Micro.queueOnly (w : Micro) : Bool :=
  w.mem == 0 && w.top == 0 && w.evt == 0 && w.pin == 0 && w.lens == 0 && w.lock == 0 && !w.returns

/-- A status flag of the level after a microword, where DST does not write the condition codes (05 R249, R257). -/
def Flagged (e : Nat) (s t : State) (k : Nat) (fails : Bool) : Prop :=
  (s.micro e).dst ≠ 0x13 → (t.bank e (s.level e)).cc.getLsbD k = fails

/-- DST holds a word after a microword, where the sequencer does not write the same register. -/
def Delivers (e : Nat) (s t : State) (v : Word) : Prop :=
  (s.micro e).ownDst = true → t.destination e (s.level e) (s.micro e).dst = kept (s.micro e).dst v

/-- The queue takes descriptors: it is neither stopped nor at its capacity, and is no burst pool's free queue (10 R519, R520, R532). -/
structure State.Accepts (s : State) (q : Nat) : Prop where
  runs : s.on (QM_QSTAT.STOP q) = false
  room : s.queueCount q < 2 ^ s.get (QM_QRING.RSZ q) - 1 + s.get (QM_QSPLEN.LEN q) / 32
  noPool : s.poolOfQueue q = none

/-- Item NEXTC of flow f with descriptor d may be committed (15 R749): the flow is valid, its next item accepted and not late, and the
descriptor names flow and item. -/
structure State.MayCommit (s : State) (f : Nat) (d : List Byte) : Prop where
  valid : s.on (AST_OT0.VALID f) = true
  flow : descFlow d = f
  item : s.get (AST_OT0.SRCK f) = 2 ∨ descSeq d = (s.reg (AST_OT2 f)).toNat
  real : descSeq d ≠ 0xFFFFFFFF
  accepted : s.itemsAccepted f ≠ 0
  inTime : s.itemLate f = false

end Sys2Proof.Machine

/-- 10 R517 to R520: ENQ runs. On a queue with room the descriptor at A joins the queue, COUNT rises by one and QFAIL is 0; on a full or
stopped one QFAIL is 1 and no queue changes. -/
def Obligations.EnqueueRow : Prop :=
  ∀ (e : Fin 12) (s : State), s.Unhindered e → (s.micro e).queueOnly = true → (s.micro e).qop = 1 →
    let x := s.here e
    let q := s.capQueue x.c
    s.uncorrectable x.a.toNat 32 = false →
    (s.Accepts q → ∃ t, exec (.enq e) s = .next t ∧ Flagged e s t 4 false ∧ t.queueCount q = s.queueCount q + 1 ∧
      (s.get (QM_QSPLEN.LEN q) = 0 → (t.queue q).copying = (s.queue q).copying ++ [s.bytes x.a.toNat 32]) ∧
      (∀ j, j ≠ q → t.queue j = s.queue j)) ∧
    (s.queueRefuses q = true → ∃ t, exec (.enq e) s = .next t ∧ Flagged e s t 4 true ∧ t.queues = s.queues)

/-- 10 R523, R525: DEQ runs, leaves the plate address of the head visible descriptor's slot in DST and takes the descriptor out of the
queue; PEEK leaves the same address and the queue as it is; with none visible both leave 0 and set QFAIL. QLEN leaves COUNT. -/
def Obligations.DequeueRows : Prop :=
  ∀ (e : Fin 12) (s : State), s.Unhindered e → (s.micro e).queueOnly = true →
    let q := s.capQueue (s.here e).c
    let head := s.get (QM_QRING.BASE q) + 32 * ((s.queue q).head % 2 ^ s.get (QM_QRING.RSZ q))
    ((s.micro e).qop = 2 → (s.queue q).vis ≠ 0 → ∃ t, exec (.deq e) s = .next t ∧ Delivers e s t (BitVec.ofNat 32 head) ∧
      Flagged e s t 4 false ∧ (t.queue q).vis + 1 = (s.queue q).vis ∧ t.queueCount q + 1 = s.queueCount q ∧
      (t.queue q).head = ((s.queue q).head + 1) % 2 ^ s.get (QM_QRING.RSZ q) ∧ (∀ j, j ≠ q → t.queue j = s.queue j)) ∧
    ((s.micro e).qop = 2 → (s.queue q).vis = 0 → ∃ t, exec (.deq e) s = .next t ∧ Delivers e s t 0 ∧ Flagged e s t 4 true ∧ OnlyEngine e s t) ∧
    ((s.micro e).qop = 3 → (s.queue q).vis ≠ 0 → ∃ t, exec (.peek e) s = .next t ∧ Delivers e s t (BitVec.ofNat 32 head) ∧
      Flagged e s t 4 false ∧ OnlyEngine e s t) ∧
    ((s.micro e).qop = 3 → (s.queue q).vis = 0 → ∃ t, exec (.peek e) s = .next t ∧ Delivers e s t 0 ∧ Flagged e s t 4 true ∧ OnlyEngine e s t) ∧
    ((s.micro e).qop = 4 → ∃ t, exec (.qlen e) s = .next t ∧ Delivers e s t (BitVec.ofNat 32 (s.queueCount q)) ∧ OnlyEngine e s t)

/-- 15 R749 to R751: COMMIT runs. Where item NEXTC of the capability's flow may be committed and the destination queue takes it, the item
joins that queue, NEXTC rises by one and QFAIL is 0; where the flow is not valid, QFAIL is 1 and neither changes. -/
def Obligations.CommitRow : Prop :=
  ∀ (e : Fin 12) (s : State), s.Unhindered e → (s.micro e).queueOnly = true → (s.micro e).qop = 5 →
    let x := s.here e
    let f := capObj x.c
    let q := s.get (AST_OT0.DSTQ f)
    s.uncorrectable x.a.toNat 32 = false →
    (s.MayCommit f (s.bytes x.a.toNat 32) → s.Accepts q → ∃ t, exec (.commit e) s = .next t ∧ Flagged e s t 4 false ∧
      t.reg (AST_OT2 f) = s.reg (AST_OT2 f) + 1 ∧ t.queueCount q = s.queueCount q + 1) ∧
    (s.on (AST_OT0.VALID f) = false → ∃ t, exec (.commit e) s = .next t ∧ Flagged e s t 4 true ∧ t.reg (AST_OT2 f) = s.reg (AST_OT2 f) ∧
      t.queues = s.queues)

/-- 01 R20 to R23: PUT by an engine that holds a stage puts B behind the entries of the slot to another stage, and TAKE leaves the oldest
entry of the slot from another stage in DST and takes it out; a slot that was full or empty at the start of the tick sets HFAIL and
stays: a put does not see the takes of its tick, nor a take the puts. -/
def Obligations.HandoffRows : Prop :=
  ∀ (e : Fin 12) (same : Bool) (s : State) (g : Nat), s.Unhindered e → (s.micro e).queueOnly = true → s.stageOf e = some g →
    let x := s.here e
    let q := e.val / 4
    let h := x.w.qop % 4
    let out := s.slot q g h
    let inn := s.slot q h g
    let full := 8 ≤ out.length + inSlot (s.tickOf same).takes q g h
    let empty := inn.length ≤ inSlot (s.tickOf same).puts q h g
    (8 ≤ x.w.qop ∧ x.w.qop ≤ 0xB → ∃ t, exec (.put (e, same)) s = .next t ∧ Leaves e [.queues, .tick] [] s t ∧
      Flagged e s t 5 (decide full) ∧ t.slot q g h = (if full then out else out ++ [x.b])) ∧
    (0xC ≤ x.w.qop ∧ x.w.qop ≤ 0xF → ∃ t, exec (.take (e, same)) s = .next t ∧ Leaves e [.queues, .tick] [] s t ∧
      Flagged e s t 5 (decide empty) ∧ Delivers e s t (if empty then 0 else inn.headD 0) ∧
      t.slot q h g = (if empty then inn else inn.tail))

/-- 06 R330, R333, R336, 09 R455: the stores of SAVE.LO and SAVE.HI run and write the record of the level at its address: registers,
condition codes, link register, loop counter, ENG_PROG and the sealed capabilities, or the Lens registers, Lens status and LRES; HDR
counts the store; no byte outside the record changes. -/
def Sys2Proof.Machine.SaveStoresHold : Prop :=
  ∀ (e : Fin 12) (s : State), s.Unhindered e → (s.micro e).memoryOnly = true → (s.micro e).alu = 0 → (s.micro e).saveLoad = false →
    let x := s.here e
    let l := s.saveLevel e x.w
    let a := s.saveRecord x
    s.Readable e a 512 →
    ((s.micro e).mem = 0x12 → ∃ t, exec (.saveLo e) s = .next t ∧
      (∀ i < 16, t.number (a + 0x10 + 4 * i) 4 = (s.gpr e l i).toNat) ∧ t.number (a + 0x50) 4 = (s.bank e l).cc.toNat ∧
      t.number (a + 0x54) 2 = (s.bank e l).link.toNat ∧ t.number (a + 0x56) 2 = (s.bank e l).lcnt.toNat ∧
      t.number (a + 0x58) 4 = (s.reg (ENG_PROG e l)).toNat ∧
      (∀ i < 8, let c := s.cap e (8 + i)
        if capType c = 0 then t.number (a + 0x60 + 16 * i) 16 = 0
        else t.number (a + 0x60 + 16 * i) 14 = c.toNat % 2 ^ 112 ∧ t.number (a + 0x6E + 16 * i) 2 = s.seal e (8 + i) a c % 65536) ∧
      t.number (a + 4) 1 % 8 = l ∧ t.number (a + 6) 2 = (s.number (a + 6) 2 + 1) % 65536 ∧
      (∀ b, b < a ∨ a + 512 ≤ b → t.byte b = s.byte b)) ∧
    ((s.micro e).mem = 0x13 → s.saveIdle e x.w = false → ∃ t, exec (.saveHi e) s = .next t ∧
      (∀ j < 8, t.number (a + 0x100 + 8 * j) 8 = (s.lensReg e j).toNat) ∧ t.number (a + 0x140) 4 = s.get (ENG_LENS.LSTAT e) ∧
      t.number (a + 0x144) 4 = (s.eng e).lres.toNat ∧ t.number (a + 4) 1 / 16 % 8 = l ∧
      t.number (a + 6) 2 = (s.number (a + 6) 2 + 1) % 65536 ∧ (t.get (ENG_LENS.SAVED e)).testBit l = true ∧
      (s.get (ENG_LENS.OWN e) = l → t.get (ENG_LENS.OWN e) = 7) ∧ (∀ b, b < a ∨ a + 512 ≤ b → t.byte b = s.byte b))

/-- 06 R333, R336: the loads of SAVE.LO and SAVE.HI run and fill the bank of the level and C8 to C15, or the Lens registers, from the
record; no byte of memory changes. -/
def Sys2Proof.Machine.SaveLoadsHold : Prop :=
  ∀ (e : Fin 12) (s : State), s.Unhindered e → (s.micro e).memoryOnly = true → (s.micro e).alu = 0 → (s.micro e).saveLoad = true →
    let x := s.here e
    let l := s.saveLevel e x.w
    let a := s.saveRecord x
    s.Readable e a 512 →
    ((s.micro e).mem = 0x12 → ∃ t, exec (.saveLo e) s = .next t ∧
      (∀ i < 16, (t.gpr e l i).toNat = s.number (a + 0x10 + 4 * i) 4) ∧ (t.bank e l).cc.toNat = s.number (a + 0x50) 4 % 1024 ∧
      (t.bank e l).link.toNat = s.number (a + 0x54) 2 % 8192 ∧ (t.bank e l).lcnt.toNat = s.number (a + 0x56) 2 ∧
      (t.reg (ENG_PROG e l)).toNat = s.number (a + 0x58) 4 ∧
      (∀ i < 8, (t.cap e (8 + i)).toNat =
        if s.number (a + 0x60 + 16 * i) 1 % 16 = 0 then 0 else s.number (a + 0x60 + 16 * i) 14) ∧ (∀ b, t.byte b = s.byte b)) ∧
    ((s.micro e).mem = 0x13 → s.saveOwns e x.w = false → ∃ t, exec (.saveHi e) s = .next t ∧
      (∀ j < 8, (t.lensReg e j).toNat = s.number (a + 0x100 + 8 * j) 8) ∧ t.get (ENG_LENS.LSTAT e) = s.number (a + 0x140) 4 % 16 ∧
      (t.eng e).lres.toNat = s.number (a + 0x144) 4 ∧ (t.get (ENG_LENS.SAVED e)).testBit l = false ∧ t.get (ENG_LENS.OWN e) = l ∧
      (∀ b, t.byte b = s.byte b))

/-- 06 R330, R333, R336: SAVE.LO and SAVE.HI. -/
def Obligations.SaveRows : Prop := SaveStoresHold ∧ SaveLoadsHold

namespace Sys2Proof.Machine

/-- A microword with no other operation than those of the TOP, ALU and SEQ fields, that does not return. -/
def Micro.timeOnly (w : Micro) : Bool :=
  w.mem == 0 && w.qop == 0 && w.evt == 0 && w.pin == 0 && w.lens == 0 && w.lock == 0 && !w.returns

/-- The registers of the level from DST on hold the words of a list after a microword. -/
def DeliversAll (e : Nat) (s t : State) (vs : List Word) : Prop :=
  ∀ i (h : i < vs.length), t.gpr e (s.level e) ((s.micro e).dst + i) = vs[i]

/-- The cluster time that words A, A + 1 and A + 2 of BSRC's group hold (05 R272). -/
def Args.time (x : Args) : Time96 := x.b2 ++ x.b1 ++ x.b0

/-- Alarm n may be armed in a mode with compare value c (02 R103, R105, R108, R109, R118, R960): it is not armed, an odd n takes mode 0 only
and needs the alarm before it in neither periodic nor range mode, and the other modes an even n whose partner holds the period or the close time. -/
def State.AlarmTakes (s : State) (n mode : Nat) (c : Time96) : Prop :=
  s.on (RGL_ALM_CTL.ARM n) = false ∧ time96Ns c ≤ 999999999 ∧
  (n % 2 = 1 → mode = 0 ∧ s.get (RGL_ALM_CTL.MODE (n - 1)) ≠ 1 ∧ s.get (RGL_ALM_CTL.MODE (n - 1)) ≠ 2) ∧
  (mode ≠ 0 → time96Ns (s.alarmCompare (n + 1)) ≤ 999999999) ∧
  (mode = 1 → 65536000 ≤ ofTime96 (s.alarmCompare (n + 1))) ∧ (mode = 2 → ofTime96 c < ofTime96 (s.alarmCompare (n + 1))) ∧ mode ≠ 3

/-- The registers of alarm n. -/
def alarmRegs (n : Nat) : List Nat := [RGL_ALM_CTL n, RGL_ALM_T0 n, RGL_ALM_T1 n, RGL_ALM_T2 n]

/-- The control registers of alarm n and, for an even one, of its partner. -/
def alarmCtls (n : Nat) : List Nat := if n % 2 = 0 then [RGL_ALM_CTL n, RGL_ALM_CTL (n + 1)] else [RGL_ALM_CTL n]

/-- Phase alarm m may be armed at a target in a one-shot or periodic mode (03 R144, R147, R156, R157). -/
def State.PhaseTakes (s : State) (m mode target : Nat) : Prop :=
  let k := s.get (CDR_PALM_CTL.TRK m)
  s.on (CDR_PALM_CTL.ARM m) = false ∧
  (s.get (CDR_PT_STAT.STATE k) = 2 ∨ s.get (CDR_PT_STAT.STATE k) = 3 ∧ s.on (CDR_PT_CFG.LOSSACT k) = false) ∧
  phaseDistance target (s.phase k) ≤ 2 ^ 52 ∧ (mode = 0 ∨ mode = 1 ∧ 0x10000 ≤ s.get (CDR_PALM_PER.PER m))

/-- Engine e may see bit k of CDR_EVSRC (03 R170): the alarm of a PALM bit is its own, and of the tracker of a TRK or CAP bit it holds a
current capability with READ. -/
def State.SeesSource (s : State) (e k : Nat) : Prop :=
  if k < 16 then s.codeIsEngine (s.get (CDR_PALM_CTL.OWNER k)) e = true
  else k < 24 ∧ ∃ i < 16, capType (s.cap e i) = 9 ∧ capObj (s.cap e i) = k % 4 ∧ s.capCurrent (s.cap e i) = true ∧
    (capRights (s.cap e i)).testBit 0 = true

/-- The register that TMR.RD and TMR.WR select by A[6:4] with A[7] = 0 (05 R272). -/
def timerSelect (e n sel : Nat) : Nat :=
  if sel = 0 then TMR_CTL e n else if sel = 1 then TMR_RELOAD e n else if sel = 2 then TMR_CMP e n
  else if sel = 3 then TMR_CAPR e n else TMR_CAPF e n

end Sys2Proof.Machine

/-- 02 R59, R73, 05 R272: STAMP, STAMP.RX and SNAP run, change nothing outside the engine but the report of a corrected plate error, and
leave from DST on the cluster time of an edge of the present TCLK period, the receive stamp of the level's last dequeued descriptor (0
and TFAIL without one), or the cluster time of such an edge with the quality. -/
def Obligations.TimeReads : Prop :=
  ∀ (e : Fin 12) (s : State), s.Unhindered e → (s.micro e).timeOnly = true →
    let words := fun (u : Time96) => [u.extractLsb' 0 32, u.extractLsb' 32 32, u.extractLsb' 64 32]
    let edge := fun (bin : Nat) => words (toTime96 (((s.rgl.time : Int) + bin * s.increment / 32) / 2 ^ 24).toNat)
    ((s.micro e).top = 1 → ∃ t, exec (.stamp e) s = .next t ∧ OnlyEngine e s t ∧ ∃ bin : Nat, bin < 32 ∧ DeliversAll e s t (edge bin)) ∧
    ((s.micro e).top = 2 →
      let a := (s.bank e (s.level e)).rx
      (a ≠ 0 → s.uncorrectable (a + 16) 12 = false) →
      ∃ t, exec (.stampRx e) s = .next t ∧ Leaves e [] eccRegs s t ∧ Flagged e s t 7 (a == 0) ∧
      DeliversAll e s t (if a = 0 then [0, 0, 0] else words (descStamp (s.bytes a 32)))) ∧
    ((s.micro e).top = 3 → ∃ t, exec (.snap e) s = .next t ∧ OnlyEngine e s t ∧ ∃ bin : Nat, bin < 32 ∧
      DeliversAll e s t (edge bin ++ [BitVec.ofNat 32 (s.get RGL_QUAL.STATE + 8 * s.get RGL_STAT.SLEWING)]))

/-- 02 R100, R109, R110, R959 to R961, 05 R272: ALM.ARM arms its alarm with mode and compare value, and disarms the partner of one in periodic or
range mode, or sets WERR and TFAIL on an armed one; ALM.SET writes the compare value unless it is held; ALM.DIS clears ARM and OUT and
no other bit, after a firing due at its edge; ALM.STAT reads the control register and clears FIRED, LATE and WERR as B says. -/
def Obligations.AlarmRows : Prop :=
  ∀ (e : Fin 12) (s : State), s.Unhindered e → (s.micro e).timeOnly = true →
    let x := s.here e
    let n := x.a.toNat % 32
    let mode := x.a.toNat / 32 % 4
    ((s.micro e).top = 4 → s.AlarmTakes n mode x.time → ∃ t, exec (.almArm e) s = .next t ∧ Flagged e s t 7 false ∧
      t.on (RGL_ALM_CTL.ARM n) = true ∧ t.get (RGL_ALM_CTL.MODE n) = mode ∧ t.alarmCompare n = x.time ∧
      (t.alarm n).compare = ofTime96 x.time ∧ (t.alarm n).armTime = s.now ∧ Leaves e [.time] (alarmRegs n ++ alarmCtls n) s t ∧
      (n % 2 = 0 → if mode = 0 then t.reg (RGL_ALM_CTL (n + 1)) = s.reg (RGL_ALM_CTL (n + 1)) else t.on (RGL_ALM_CTL.ARM (n + 1)) = false)) ∧
    ((s.micro e).top = 4 → s.on (RGL_ALM_CTL.ARM n) = true → ∃ t, exec (.almArm e) s = .next t ∧ Flagged e s t 7 true ∧
      t.on (RGL_ALM_CTL.WERR n) = true ∧ t.alarmCompare n = s.alarmCompare n ∧ t.on (RGL_ALM_CTL.ARM n) = true ∧
      t.get (RGL_ALM_CTL.MODE n) = s.get (RGL_ALM_CTL.MODE n) ∧ Leaves e [] [RGL_ALM_CTL n] s t) ∧
    ((s.micro e).top = 5 →
      let held := s.on (RGL_ALM_CTL.ARM n) = true ∨
        n % 2 = 1 ∧ s.on (RGL_ALM_CTL.ARM (n - 1)) = true ∧ s.get (RGL_ALM_CTL.MODE (n - 1)) ≠ 0
      ∃ t, exec (.almSet e) s = .next t ∧ t.on (RGL_ALM_CTL.ARM n) = s.on (RGL_ALM_CTL.ARM n) ∧ Leaves e [] (alarmRegs n) s t ∧
        (¬ held → t.alarmCompare n = x.time ∧ Flagged e s t 7 false) ∧
        (held → t.alarmCompare n = s.alarmCompare n ∧ t.on (RGL_ALM_CTL.WERR n) = true ∧ Flagged e s t 7 true)) ∧
    ((s.micro e).top = 6 → ∃ t, exec (.almDis e) s = .next t ∧ Flagged e s t 7 false ∧ t.on (RGL_ALM_CTL.ARM n) = false ∧
      t.on (RGL_ALM_CTL.OUT n) = false ∧ (s.alarmDue n 0 = true → t.on (RGL_ALM_CTL.FIRED n) = true) ∧
      ((∀ k < 3, s.alarmDue n k = false) → Leaves e [] [RGL_ALM_CTL n] s t ∧
        ∀ b < 32, (t.reg (RGL_ALM_CTL n)).getLsbD b = (b != 0 && b != 6 && (s.reg (RGL_ALM_CTL n)).getLsbD b))) ∧
    ((s.micro e).top = 7 → ∃ t, exec (.almStat e) s = .next t ∧ Delivers e s t (s.reg (RGL_ALM_CTL n)) ∧ Leaves e [] [RGL_ALM_CTL n] s t ∧
      ∀ b < 32, (t.reg (RGL_ALM_CTL n)).getLsbD b = ((s.reg (RGL_ALM_CTL n)).getLsbD b && !(3 ≤ b && b ≤ 5 && x.b.getLsbD b)))

/-- 03 R144, R147, R156, R157, 05 R272: PH.ARM arms its phase alarm at the target, PH.SET writes its period, PH.DIS disarms it. On an armed
alarm PH.ARM and PH.SET set WERR and TFAIL and change nothing else; a target beyond the horizon sets HZNERR as well. -/
def Obligations.PhaseAlarmRows : Prop :=
  ∀ (e : Fin 12) (s : State), s.Unhindered e → (s.micro e).timeOnly = true →
    let x := s.here e
    let m := x.a.toNat % 16
    let mode := x.a.toNat / 16 % 4
    let target := x.b0.toNat * 2 ^ 32 + x.b1.toNat
    ((s.micro e).top = 8 → s.PhaseTakes m mode target → ∃ t, exec (.phArm e) s = .next t ∧ Flagged e s t 7 false ∧
      t.on (CDR_PALM_CTL.ARM m) = true ∧ t.get (CDR_PALM_CTL.MODE m) = mode ∧ t.get (CDR_PALM_CTL.TABLE m) = x.a.toNat / 64 % 8 ∧
      t.reg (CDR_PALM_CYC m) = x.b0 ∧ t.reg (CDR_PALM_FRAC m) = x.b1 ∧ (t.phaseTarget m).target = target ∧
      Leaves e [.clockDrive] [CDR_PALM_CTL m, CDR_PALM_CYC m, CDR_PALM_FRAC m] s t) ∧
    ((s.micro e).top = 8 → s.on (CDR_PALM_CTL.ARM m) = true → ∃ t, exec (.phArm e) s = .next t ∧ Flagged e s t 7 true ∧
      t.on (CDR_PALM_CTL.WERR m) = true ∧ t.on (CDR_PALM_CTL.ARM m) = true ∧ Leaves e [] [CDR_PALM_CTL m] s t) ∧
    ((s.micro e).top = 8 → s.on (CDR_PALM_CTL.ARM m) = false → mode = 0 → (let k := s.get (CDR_PALM_CTL.TRK m);
        s.get (CDR_PT_STAT.STATE k) = 2 ∧ 2 ^ 52 < phaseDistance target (s.phase k)) →
      ∃ t, exec (.phArm e) s = .next t ∧ Flagged e s t 7 true ∧ t.on (CDR_PALM_CTL.WERR m) = true ∧ t.on CDR_STAT.HZNERR = true ∧
        t.on (CDR_PALM_CTL.ARM m) = false) ∧
    ((s.micro e).top = 9 → ∃ t, exec (.phSet e) s = .next t ∧ Flagged e s t 7 (s.on (CDR_PALM_CTL.ARM m)) ∧
      (s.on (CDR_PALM_CTL.ARM m) = false → t.reg (CDR_PALM_PER m) = x.b ∧ Leaves e [] [CDR_PALM_PER m] s t) ∧
      (s.on (CDR_PALM_CTL.ARM m) = true → t.on (CDR_PALM_CTL.WERR m) = true ∧ Leaves e [] [CDR_PALM_CTL m] s t)) ∧
    ((s.micro e).top = 0xA → ∃ t, exec (.phDis e) s = .next t ∧ Flagged e s t 7 false ∧ Leaves e [] [CDR_PALM_CTL m] s t ∧
      ∀ b < 32, (t.reg (CDR_PALM_CTL m)).getLsbD b = (b != 0 && (s.reg (CDR_PALM_CTL m)).getLsbD b))

/-- 03 R126, R168 to R170, 05 R272: PH.SNAP leaves phase, cycle and frequency of the capability's tracker from DST on and latches the time and
all four phases; PH.FEED adds one instant to the tracker's source where the sample is good, and nothing where not; EVSRC reads the
bits of CDR_EVSRC that the engine may see and clears those that B names. -/
def Obligations.PhaseReads : Prop :=
  ∀ (e : Fin 12) (s : State), s.Unhindered e → (s.micro e).timeOnly = true →
    let x := s.here e
    let k := capObj x.c
    ((s.micro e).top = 0xB → ∃ t, exec (.phSnap e) s = .next t ∧
      DeliversAll e s t [BitVec.ofNat 32 (s.phase k), BitVec.ofNat 32 (s.phase k / 2 ^ 32), s.reg (CDR_FREQ k)] ∧
      (∀ n < 4, (t.reg (CDR_CYCLE n)).toNat * 2 ^ 32 + (t.reg (CDR_PHASE n)).toNat = s.phase n % 2 ^ 64) ∧
      t.reg CDR_SNAP_T2 ++ t.reg CDR_SNAP_T1 ++ t.reg CDR_SNAP_T0 = s.now96 ∧
      t.get CDR_SNAP_CMD.SEQ = (s.get CDR_SNAP_CMD.SEQ + 1) % 256 ∧ (∀ p : Part, p ≠ .banks → p ≠ .lens → p ≠ .engines → p.same s t)) ∧
    ((s.micro e).top = 0xC →
      let fs := if s.on (CDR_PT_SRC.RATE k) then 14400 else 4800
      let count := x.b.toNat % 2 ^ 15
      let good := s.get (CDR_PT_SRC.KIND k) = 1 ∧ s.get (CDR_PT_STAT.STATE k) ≠ 0 ∧ count < fs ∧ x.b.getLsbD 15 = true
      ∃ t, exec (.phFeed e) s = .next t ∧ Leaves e [.clockDrive] [] s t ∧ (∀ j, j ≠ k → t.tracker j = s.tracker j) ∧
        (¬ good → t.tracker k = s.tracker k) ∧
        (good → ∃ sec : Int, sec % 65536 = (x.b.toNat / 65536 : Nat) ∧ (sec - (s.now / unitsPerSec : Nat)).natAbs ≤ 32768 ∧
          (t.tracker k).instants = (s.tracker k).instants ++
            [((sec * unitsPerSec + (count * unitsPerSec / fs : Nat) - (s.reg (CDR_PT_DLY k)).toInt * 4096).toNat, x.a.toInt)])) ∧
    ((s.micro e).top = 0xD → ∃ t, exec (.evsrc e) s = .next t ∧ Leaves e [] [CDR_EVSRC] s t ∧ ∃ seen : Word,
      (∀ b < 32, seen.getLsbD b = true ↔ s.SeesSource e b ∧ (s.reg CDR_EVSRC).getLsbD b = true) ∧ Delivers e s t seen ∧
      t.reg CDR_EVSRC = s.reg CDR_EVSRC &&& ~~~(seen &&& x.b))

/-- 05 R272, R962, 07 R365, R379, R381, R386, R387, R395, R402: TMR.RD reads the selected register, TMR.WR writes reload, compare and, on a
stopped timer or pair, count, and kicks the watchdog; the other selects set TFAIL and write nothing. TMR.CAP captures the count, or both
counts of a pair, and TMR.PARM arms a compare or sets TFAIL. -/
def Obligations.TimerRows : Prop :=
  ∀ (e : Fin 12) (s : State), s.Unhindered e → (s.micro e).timeOnly = true →
    let x := s.here e
    let n := x.a.toNat % 4
    let m := if s.timerHigh e n then n - 1 else n
    let sel := x.a.toNat / 16 % 8
    let high := x.a.getLsbD 7
    ((s.micro e).top = 0xE → ∃ t, exec (.tmrRd e) s = .next t ∧ Leaves e [] [TMR_CTL e n] s t ∧
      Flagged e s t 7 (if high then decide (4 ≤ sel) else decide (5 ≤ sel)) ∧
      (high = false → sel < 5 → Delivers e s t (s.reg (timerSelect e n sel)) ∧ ∀ b < 32, (t.reg (TMR_CTL e n)).getLsbD b =
        ((s.reg (TMR_CTL e n)).getLsbD b && !(sel == 3 && b == 25 || sel == 4 && b == 26))) ∧
      (high = true → sel < 4 → OnlyEngine e s t ∧
        Delivers e s t (if sel = 0 then s.reg (TMR_CNT e n) else if sel = 1 then s.reg (TMR_WDCTL e)
          else if sel = 2 then s.reg (TMR_WDPER e) else 0))) ∧
    ((s.micro e).top = 0xF → (high = false → sel ≠ 0 → ∃ t, exec (.tmrWr e) s = .next t ∧ Flagged e s t 7 (decide (3 ≤ sel)) ∧
        (sel < 3 → t.reg (timerSelect e n sel) = x.b ∧ Leaves e [] [timerSelect e n sel] s t) ∧ (3 ≤ sel → OnlyEngine e s t)) ∧
      (high = true → sel = 0 → ∃ t, exec (.tmrWr e) s = .next t ∧ Flagged e s t 7 (s.on (TMR_CTL.EN e m)) ∧
        (s.on (TMR_CTL.EN e m) = false → t.reg (TMR_CNT e n) = x.b ∧ t.on (TMR_CTL.CNTSRC e n) = false ∧
          Leaves e [] [TMR_CNT e n, TMR_CTL e n] s t) ∧ (s.on (TMR_CTL.EN e m) = true → OnlyEngine e s t)) ∧
      (high = true → sel = 3 → ∃ t, exec (.tmrWr e) s = .next t ∧ Leaves e [.timers] [TMR_WDCTL e] s t ∧ Flagged e s t 7 false ∧
        t.watchdogElapsed e = 0 ∧ (x.b = 0xC3A5 → t.reg (TMR_WDCTL e) = s.reg (TMR_WDCTL e)) ∧
        (x.b ≠ 0xC3A5 → t.on (TMR_WDCTL.EXP e) = true ∧ (t.watchdog e).expired = true)) ∧
      (high = true → sel ≠ 0 → sel ≠ 3 → ∃ t, exec (.tmrWr e) s = .next t ∧ Flagged e s t 7 true ∧ OnlyEngine e s t)) ∧
    ((s.micro e).top = 0x10 → (s.timer e m).latched = none → s.timerDue e m < s.nextHappening e m →
      ∃ t, exec (.tmrCap e) s = .next t ∧ t.on (TMR_CTL.CNTSRC e m) = true ∧ Flagged e s t 7 false ∧
        t.reg (TMR_CNT e m) = (if s.on (TMR_CTL.STALE e m) then BitVec.ofNat 32 ((s.timer e m).count - s.timerDue e m) else s.reg (TMR_CNT e m)) ∧
        (if s.timerPaired e m then t.on (TMR_CTL.CNTSRC e (m + 1)) = true ∧ t.reg (TMR_CNT e (m + 1)) =
            (if s.on (TMR_CTL.STALE e m) then BitVec.ofNat 32 (s.timer e (m + 1)).count else s.reg (TMR_CNT e (m + 1))) ∧
          Leaves e [.timers] [TMR_CNT e m, TMR_CTL e m, TMR_CNT e (m + 1), TMR_CTL e (m + 1)] s t
        else Leaves e [.timers] [TMR_CNT e m, TMR_CTL e m] s t)) ∧
    ((s.micro e).top = 0x11 →
      let k := capObj x.c
      let target := x.b0.toNat * 2 ^ 32 + x.b1.toNat
      let state := s.get (CDR_PT_STAT.STATE k)
      let takes := s.on (TMR_CTL.PARMED e n) = false ∧ (state = 2 ∨ state = 3 ∧ s.on (CDR_PT_CFG.LOSSACT k) = false) ∧
        phaseDistance target (s.phase k) ≤ 2 ^ 52
      (takes → ∃ t, exec (.tmrParm e) s = .next t ∧ Flagged e s t 7 false ∧ t.on (TMR_CTL.PARMED e n) = true ∧
        (t.timer e n).target = target ∧ (t.timer e n).tracker = k ∧
        (s.timerDue e m < s.nextHappening e m → Leaves e [.timers] [TMR_CTL e n] s t)) ∧
      (¬ takes → ∃ t, exec (.tmrParm e) s = .next t ∧ Flagged e s t 7 true ∧ Leaves e [] [CDR_STAT] s t))

/-- 02 R76, R78, R79, R81, R83, R957, 05 R272: the servo owner's DISC.RATE writes RGL_RATE within 1000 ppm, unless a write of ring 1 or ring 0 at
the same edge prevails; DISC.STEP adds its offset to the remaining offset, to be slewed, or refuses one out of range; DISC.QUAL takes a
state that R90 allows, and no other. -/
def Obligations.DisciplineRows : Prop :=
  ∀ (e : Fin 12) (s : State), s.Unhindered e → (s.micro e).timeOnly = true → s.on RGL_STAT.SVCFRZ = false →
    let x := s.here e
    ((s.micro e).top = 0x12 → ∃ t, exec (.discRate e) s = .next t ∧
      (if s.outranked (.engine e) RGL_RATE then t.reg RGL_RATE = s.reg RGL_RATE
        else (t.reg RGL_RATE).toInt = max (-0x4189374B) (min 0x4189374B x.b.toInt)) ∧
      (0x4189374B < x.b.toInt.natAbs → t.on RGL_STAT.RCLAMP = true) ∧ t.rgl.discEdge = s.rgl.edge ∧
      Leaves e [.time, .answers] [RGL_RATE, RGL_STAT, LOG_LOST] s t) ∧
    ((s.micro e).top = 0x13 → s.outranked (.engine e) RGL_STEP_SEC = false → s.outranked (.engine e) RGL_STEP_FRAC = false →
      let offset := (x.b0.toInt * 1000000000 + x.b1.toInt) * 65536 + (x.b2.toNat % 65536 : Nat)
      let good := x.b1.toInt.natAbs ≤ 999999999 ∧ (s.rgl.q / 2 ^ 24 + offset).natAbs < 2 ^ 63
      (good → s.on RGL_CTL.MODE = false → s.get RGL_QUAL.STATE ≠ 0 → ∃ t, exec (.discStep e) s = .next t ∧ Flagged e s t 7 false ∧
        t.rgl.q = s.rgl.q + offset * 2 ^ 24 ∧ t.rgl.time = s.rgl.time ∧ (t.on RGL_STAT.SLEWING = true ↔ t.rgl.q ≠ 0)) ∧
      (¬ good → ∃ t, exec (.discStep e) s = .next t ∧ Flagged e s t 7 true ∧ t.rgl.q = s.rgl.q ∧ t.rgl.time = s.rgl.time ∧
        t.on RGL_STAT.STEPERR = true) ∧
      (∃ t, exec (.discStep e) s = .next t ∧ t.reg RGL_STEP_SEC = x.b0 ∧ t.get RGL_STEP_FRAC.FRAC = x.b2.toNat % 65536)) ∧
    ((s.micro e).top = 0x14 → s.outranked (.engine e) RGL_QUAL = false →
      let old := s.get RGL_QUAL.STATE
      let new := x.b.toNat % 8
      let allowed := new = old ∨ new = 2 ∧ old ≤ 4 ∨ new = 3 ∧ (old = 2 ∨ old = 4)
      ∃ t, exec (.discQual e) s = .next t ∧ t.get RGL_QUAL.ACC = x.b.toNat / 256 % 256 ∧
        (allowed → t.get RGL_QUAL.STATE = new ∧ Flagged e s t 7 false) ∧ (¬ allowed → t.get RGL_QUAL.STATE = old ∧ Flagged e s t 7 true))

namespace Sys2Proof.Machine

/-- A microword with no other operation than those of the EVT, ALU and SEQ fields, that does not return. -/
def Micro.eventOnly (w : Micro) : Bool :=
  w.mem == 0 && w.qop == 0 && w.top == 0 && w.pin == 0 && w.lens == 0 && w.lock == 0 && !w.returns

/-- A microword with no other operation than those of the PIN, ALU and SEQ fields, that does not return. -/
def Micro.pinOnly (w : Micro) : Bool :=
  w.mem == 0 && w.qop == 0 && w.top == 0 && w.evt == 0 && w.lens == 0 && w.lock == 0 && !w.returns

/-- Bit k of a pair of pin registers, 32 pins in the first (12 R625). -/
def State.pinBit (s : State) (lo hi k : Nat) : Bool := (s.reg (if k < 32 then lo else hi)).getLsbD (k % 32)

end Sys2Proof.Machine

/-- 08 R421 to R423, R964: CLAIM runs. In a handler entered for a delivery that no CLAIM has won, it wins: EFAIL is 0, the delivery is withdrawn
from every engine with all that holds its vector pending bits, and every other handler entered for it loses; where another has won,
EFAIL is 1; in any other handler EFAIL is 0. A CLAIM that does not contend changes nothing but the engine. Over the CLAIM of a
higher-numbered engine at the same edge it prevails, and that one's EFAIL is 1. -/
def Sys2Proof.Machine.ClaimRowHold : Prop :=
  ∀ (e : Fin 12) (same : Bool) (s : State), s.Unhindered e → (s.micro e).eventOnly = true → (s.micro e).evt = 1 →
    let l := s.level e
    let won := (s.tickOf same).claims.find? fun c => c.others.contains (8 * e.val + l) && decide (e.val < c.eng)
    (∀ c, won = some c → ∃ t, exec (.claim (e, same)) s = .next t ∧ Flagged e s t 8 false ∧
      (t.bank c.eng c.level).cc.getLsbD 8 = true ∧ Leaves e [.tick] [] s t) ∧
    (∀ n serial, won = none → s.claimContext e l = .contends n serial → ∃ t, exec (.claim (e, same)) s = .next t ∧ Flagged e s t 8 false ∧
      (∀ d, d ∈ t.deliveries ↔ d ∈ s.deliveries ∧ ¬ (d.line = some n ∧ d.serial = serial) ∧
        ¬ ∃ x ∈ s.deliveries, x.line = some n ∧ x.serial = serial ∧ x.held = none ∧ d.held = none ∧ d.eng = x.eng ∧ d.vline = x.vline) ∧
      (∀ e' l', e' < 12 → l' < 5 → s.claimContext e' l' = .contends n serial → (e', l') ≠ (e.val, l) → t.claimContext e' l' = .fails) ∧
      ((s.line n).taken = true → (s.line n).serial = serial → t.linePending n = false) ∧
      Leaves e [.events, .tick] [EVC_PEND (n / 32)] s t) ∧
    (won = none → s.claimContext e l = .fails → ∃ t, exec (.claim (e, same)) s = .next t ∧ Flagged e s t 8 true ∧ Leaves e [.tick] [] s t) ∧
    (won = none → s.claimContext e l = .succeeds → ∃ t, exec (.claim (e, same)) s = .next t ∧ Flagged e s t 8 false ∧ Leaves e [.tick] [] s t)

/-- 05 R274, 06 R347: SET and CLR set and clear the pending state of the engine's vector line that A names and of no other; GMASK.SET and
GMASK.CLR write the global mask; PEND.LO and PEND.HI read 32 pending states. -/
def Sys2Proof.Machine.EventRowsHold : Prop :=
  ∀ (e : Fin 12) (s : State), s.Unhindered e → (s.micro e).eventOnly = true →
    let v := (s.here e).a.toNat % 64
    ((s.micro e).evt = 2 → ∃ t, exec (.evtSet e) s = .next t ∧ Leaves e [.events] [] s t ∧
      ∀ e' v', t.vectorPending e' v' = (s.vectorPending e' v' || (e' == e.val && v' == v))) ∧
    ((s.micro e).evt = 3 → ∃ t, exec (.evtClr e) s = .next t ∧
      (∀ e' v', t.vectorPending e' v' = (s.vectorPending e' v' && !(e' == e.val && v' == v))) ∧
      (∀ p : Part, p ≠ .banks → p ≠ .lens → p ≠ .engines → p ≠ .events → p.same s t)) ∧
    ((s.micro e).evt = 4 → ∃ t, exec (.gmaskSet e) s = .next t ∧ t.on (ENG_PRI.GMASK e) = true ∧ Leaves e [] [ENG_PRI e] s t) ∧
    ((s.micro e).evt = 5 → ∃ t, exec (.gmaskClr e) s = .next t ∧ t.on (ENG_PRI.GMASK e) = false ∧ Leaves e [] [ENG_PRI e] s t) ∧
    ((s.micro e).evt = 6 → ∃ t, exec (.pendLo e) s = .next t ∧ OnlyEngine e s t ∧ ∃ w : Word, Delivers e s t w ∧
      ∀ b < 32, w.getLsbD b = s.vectorPending e b) ∧
    ((s.micro e).evt = 7 → ∃ t, exec (.pendHi e) s = .next t ∧ OnlyEngine e s t ∧ ∃ w : Word, Delivers e s t w ∧
      ∀ b < 32, w.getLsbD b = s.vectorPending e (32 + b))

/-- 12 R637, R639, R650, 05 R275: PUSH fills an empty transmit holding register and PULL empties a full receive holding register, or PFAIL; VSTAT
reads the status word; FLAG.SET and FLAG.CLR change the flags; START starts a stopped Vernier at its ENTRY, and STOP stops one that
runs. -/
def Sys2Proof.Machine.VernierAccessRowsHold : Prop :=
  ∀ (e : Fin 12) (s : State), s.Unhindered e → (s.micro e).pinOnly = true →
    let x := s.here e
    let v := capObj x.c
    let state := s.get (VRN_STAT.STATE v)
    ((s.micro e).pin = 1 → ∃ t, exec (.push e) s = .next t ∧ Leaves e [.verniers] [VRN_STAT v] s t ∧ t.on (VRN_STAT.TXF v) = true ∧
      Flagged e s t 6 (s.on (VRN_STAT.TXF v)) ∧ (t.vernier v).txh = (if s.on (VRN_STAT.TXF v) then (s.vernier v).txh else x.b)) ∧
    ((s.micro e).pin = 2 → ∃ t, exec (.pull e) s = .next t ∧ Leaves e [] [VRN_STAT v] s t ∧ t.on (VRN_STAT.RXF v) = false ∧
      Flagged e s t 6 (!s.on (VRN_STAT.RXF v)) ∧ Delivers e s t (if s.on (VRN_STAT.RXF v) then (s.vernier v).rxh else 0)) ∧
    ((s.micro e).pin = 3 → ∃ t, exec (.vstat e) s = .next t ∧ OnlyEngine e s t ∧ Delivers e s t (s.reg (VRN_STAT v))) ∧
    ((s.micro e).pin = 4 → ∃ t, exec (.flagSet e) s = .next t ∧ Leaves e [.verniers] [VRN_STAT v] s t ∧
      ∀ b < 8, (t.get (VRN_STAT.FLAGS v)).testBit b = ((s.get (VRN_STAT.FLAGS v)).testBit b || x.b.getLsbD b)) ∧
    ((s.micro e).pin = 5 → (s.vernier v).flagEdge ≠ s.rgl.edge → ∃ t, exec (.flagClr e) s = .next t ∧
      Leaves e [.verniers] [VRN_STAT v] s t ∧
      ∀ b < 8, (t.get (VRN_STAT.FLAGS v)).testBit b = ((s.get (VRN_STAT.FLAGS v)).testBit b && !x.b.getLsbD b)) ∧
    ((s.micro e).pin = 6 → ∃ t, exec (.start e) s = .next t ∧ (t.vernier v).txh = (s.vernier v).txh ∧
      (state = 0 → t.get (VRN_STAT.STATE v) = 1 ∧ t.get (VRN_STAT.PC v) = s.get (VRN_CTL.ENTRY v) ∧ t.get (VRN_STAT.ELAT v) = 0 ∧
        (t.vernier v).frame = none) ∧
      (state = 1 → t.get (VRN_STAT.STATE v) = 1 ∧ t.get (VRN_STAT.PC v) = s.get (VRN_STAT.PC v)) ∧
      (state = 4 → t.get (VRN_STAT.STATE v) = 4)) ∧
    ((s.micro e).pin = 7 → ∃ t, exec (.stop e) s = .next t ∧ Leaves e [.verniers] [VRN_STAT v] s t ∧
      t.get (VRN_STAT.STATE v) = (if state = 1 ∨ state = 2 then 0 else state) ∧ t.get (VRN_STAT.PC v) = s.get (VRN_STAT.PC v))

/-- 05 R275, 12 R625: PINRD leaves the level at the pin's ball in DST; PINWR drives a general-purpose pin that the engine owns, and changes
nothing on any other. -/
def Sys2Proof.Machine.PinRowsHold : Prop :=
  ∀ (e : Fin 12) (s : State), s.Unhindered e → (s.micro e).pinOnly = true →
    let x := s.here e
    let k := capObj x.c
    ((s.micro e).pin = 8 → ∃ t, exec (.pinrd e) s = .next t ∧ OnlyEngine e s t ∧
      Delivers e s t (if s.pinBit FLD_IN0 FLD_IN1 k then 1 else 0)) ∧
    ((s.micro e).pin = 9 → ∃ t, exec (.pinwr e) s = .next t ∧
      (∀ j < 48, t.pinBit FLD_GPOUT0 FLD_GPOUT1 j =
        if j = k ∧ s.get (FLD_CFG.FUNC k) = 1 ∧ s.engMap (s.get (FLD_CFG.OWNER k)) = e then x.b.getLsbD 0
        else s.pinBit FLD_GPOUT0 FLD_GPOUT1 j) ∧
      (¬ (s.get (FLD_CFG.FUNC k) = 1 ∧ s.engMap (s.get (FLD_CFG.OWNER k)) = e) → OnlyEngine e s t))

/-- 05 R274, 06 R347, 08 R421 to R424, R964: the EVT operations. -/
def Obligations.EventOperations : Prop := ClaimRowHold ∧ EventRowsHold

/-- 05 R275, 12 R625, R637, R639, R650: the PIN operations. -/
def Obligations.PinOperations : Prop := VernierAccessRowsHold ∧ PinRowsHold

namespace Sys2Proof.Machine

/-- A microword with no other operation than those of the LENS and SEQ fields, that does not return. -/
def Micro.lensOnly (w : Micro) : Bool :=
  w.alu == 0 && w.mem == 0 && w.qop == 0 && w.top == 0 && w.evt == 0 && w.pin == 0 && w.lock == 0 && !w.returns

/-- A Q31.32 register holds a number of units of 2^-32, saturated, and the flags say so (04 R196, R200). -/
def Saturated (v : Int) (d : DWord) (flags : Nat) : Prop :=
  d.toInt = max (-2 ^ 63) (min (2 ^ 63 - 1) v) ∧ flags = if v < -2 ^ 63 ∨ 2 ^ 63 ≤ v then 8 else 0

/-- r is a number nearest to p / 2^32. -/
def NearestUnit (p r : Int) : Prop := 2 * (2 ^ 32 * r - p).natAbs ≤ 2 ^ 32

/-- r is the number nearest to p / 2^32, ties away from zero (04 R196). -/
def RoundedUnit (p r : Int) : Prop := NearestUnit p r ∧ (2 * (2 ^ 32 * r - p).natAbs = 2 ^ 32 → p.natAbs ≤ 2 ^ 32 * r.natAbs)

/-- The exponent and fraction fields of a binary32 word. -/
def expField (w : Word) : Nat := w.toNat / 2 ^ 23 % 256
def fracField (w : Word) : Nat := w.toNat % 2 ^ 23

/-- The number that a finite binary32 word stands for; a subnormal is read as zero (04 R195). -/
def value32 (w : Word) : ℚ :=
  if expField w = 0 then 0
  else (if w.msb then -1 else 1) * ((2 ^ 23 + fracField w : Nat) : ℚ) * (2 : ℚ) ^ ((expField w : ℤ) - 150)

/-- A word is a finite number. -/
def Finite32 (w : Word) : Prop := expField w ≠ 255

/-- A word is a NaN, and a signalling one. -/
def isNaN32 (w : Word) : Bool := expField w == 255 && fracField w != 0
def isSignalling (w : Word) : Bool := isNaN32 w && !w.getLsbD 22

/-- A word is an infinity of a sign. -/
def IsInf (neg : Bool) (w : Word) : Prop := w = if neg then 0xFF800000 else 0x7F800000

/-- A word is the number v rounded to nearest, ties to even, with the flags of that (04 R195, R197): an overflow gives an infinity and
sets OF; a v nearer to zero than the least normal number is not stated here but for 0 itself. -/
def Rounded32 (v : ℚ) (w : Word) (flags : Nat) : Prop :=
  (v = 0 → value32 w = 0 ∧ Finite32 w ∧ flags = 0) ∧
  ((2 : ℚ) ^ (-126 : ℤ) ≤ |v| → |v| < (2 ^ 25 - 1) * 2 ^ 103 → flags = 0 ∧ Finite32 w ∧ ∀ u, Finite32 u →
    |v - value32 w| ≤ |v - value32 u| ∧ (|v - value32 w| = |v - value32 u| → value32 u = value32 w ∨ w.getLsbD 0 = false)) ∧
  ((2 ^ 25 - 1) * 2 ^ 103 ≤ |v| → IsInf (decide (v < 0)) w ∧ flags = 4)

/-- A binary32 result: the low half of the register, the high half 0. -/
def Scalar32 (v : ℚ) (d : DWord) (flags : Nat) : Prop := d.extractLsb' 32 32 = 0 ∧ Rounded32 v (d.extractLsb' 0 32) flags

/-- The number in the low half and in the high half of a Lens register. -/
def low32 (d : DWord) : ℚ := value32 (d.extractLsb' 0 32)
def high32 (d : DWord) : ℚ := value32 (d.extractLsb' 32 32)

/-- Both halves of a Lens register are finite numbers. -/
def Halves (d : DWord) : Prop := Finite32 (d.extractLsb' 0 32) ∧ Finite32 (d.extractLsb' 32 32)
def Low (d : DWord) : Prop := Finite32 (d.extractLsb' 0 32)

/-- The Lens registers that a microword names by IMM, before it, and Ld and Ld+1 after it. -/
structure LensView where
  a : DWord
  b : DWord
  c : DWord
  a1 : DWord
  b1 : DWord
  c1 : DWord
  ia : Nat
  d : DWord
  d1 : DWord

/-- A Lens operation of the table under R277 that is not resumable: the command, the code, whether its result waits for its latency
(04 R197), whether it writes a pair, the operands it is stated for, and what the result and the flags are. -/
structure LensRow where
  row : Fin 12 → Instr
  lens : Nat
  late : Bool := true
  pair : Bool := false
  pre : LensView → Prop := fun _ => True
  post : LensView → Nat → Prop

/-- The constants of LDK (05 R278). -/
def ldkConstants : List DWord :=
  [0, 0x100000000, 0xFFFFFFFF00000000, 0x80000000, 0x3F800000, 0x3F000000, 0x40000000, 0x80000000]

/-- The Q31.32 rows. -/
noncomputable def fixedRows : List LensRow :=
  [ { row := .qadd, lens := 1, late := false, post := fun x f => Saturated (x.a.toInt + x.b.toInt) x.d f },
    { row := .qsub, lens := 2, late := false, post := fun x f => Saturated (x.a.toInt - x.b.toInt) x.d f },
    { row := .qmov, lens := 4, late := false, post := fun x f => x.d = x.a ∧ f = 0 },
    { row := .qneg, lens := 5, late := false, post := fun x f => Saturated (-x.a.toInt) x.d f },
    { row := .qabs, lens := 6, late := false, post := fun x f => Saturated |x.a.toInt| x.d f },
    { row := .ldk, lens := 7, late := false, post := fun x f => ldkConstants[x.ia]? = some x.d ∧ f = 0 },
    { row := .qmul, lens := 8, post := fun x f => ∃ r, RoundedUnit (x.a.toInt * x.b.toInt) r ∧ Saturated r x.d f },
    { row := .qmac, lens := 9, post := fun x f => ∃ r, NearestUnit (2 ^ 32 * x.c.toInt + x.a.toInt * x.b.toInt) r ∧ Saturated r x.d f },
    { row := .qcmac, lens := 0xA, pair := true, post := fun x f => ∃ re im f1 f2,
        (2 ^ 32 * (re - x.c.toInt) - (x.a.toInt * x.b.toInt - x.a1.toInt * x.b1.toInt)).natAbs ≤ 2 ^ 32 ∧
        (2 ^ 32 * (im - x.c1.toInt) - (x.a.toInt * x.b1.toInt + x.a1.toInt * x.b.toInt)).natAbs ≤ 2 ^ 32 ∧
        Saturated re x.d f1 ∧ Saturated im x.d1 f2 ∧ f = f1 ||| f2 } ]

/-- The binary32 rows and the conversions, on finite numbers. -/
noncomputable def floatRows : List LensRow :=
  [ { row := .f2q, lens := 0x10, pre := fun x => Low x.a,
      post := fun x f => ∃ r : Int, |2 * ((r : ℚ) - low32 x.a * 2 ^ 32)| ≤ 1 ∧ Saturated r x.d f },
    { row := .q2f, lens := 0x11, post := fun x f => Scalar32 ((x.a.toInt : ℚ) / 2 ^ 32) x.d f },
    { row := .fadd, lens := 0x14, pre := fun x => Low x.a ∧ Low x.b, post := fun x f => Scalar32 (low32 x.a + low32 x.b) x.d f },
    { row := .fsub, lens := 0x15, pre := fun x => Low x.a ∧ Low x.b, post := fun x f => Scalar32 (low32 x.a - low32 x.b) x.d f },
    { row := .fmul, lens := 0x16, pre := fun x => Low x.a ∧ Low x.b, post := fun x f => Scalar32 (low32 x.a * low32 x.b) x.d f },
    { row := .fma, lens := 0x17, pre := fun x => Low x.a ∧ Low x.b ∧ Low x.c,
      post := fun x f => Scalar32 (low32 x.c + low32 x.a * low32 x.b) x.d f },
    { row := .fdiv, lens := 0x18, pre := fun x => Low x.a ∧ Low x.b ∧ low32 x.b ≠ 0,
      post := fun x f => Scalar32 (low32 x.a / low32 x.b) x.d f },
    { row := .fsqrt, lens := 0x19, pre := fun x => Low x.a ∧ 0 < low32 x.a,
      post := fun x f => f = 0 ∧ x.d.extractLsb' 32 32 = 0 ∧ Low x.d ∧ 0 < low32 x.d ∧ ∀ u, Finite32 u → value32 u ≠ low32 x.d →
        let m := (low32 x.d + value32 u) / 2
        if low32 x.d < value32 u then low32 x.a ≤ m * m else 0 ≤ m → m * m ≤ low32 x.a },
    { row := .cfma, lens := 0x1A, pre := fun x => Halves x.a ∧ Halves x.b ∧ Halves x.c,
      post := fun x f => ∃ f1 f2, f = f1 ||| f2 ∧
        Rounded32 (low32 x.c + low32 x.a * low32 x.b - high32 x.a * high32 x.b) (x.d.extractLsb' 0 32) f1 ∧
        Rounded32 (high32 x.c + low32 x.a * high32 x.b + high32 x.a * low32 x.b) (x.d.extractLsb' 32 32) f2 } ]

/-- A NaN result in the low half of a register, quiet (04 R195), with NV or not. -/
def NaNResult (invalid : Bool) (d : DWord) (flags : Nat) : Prop :=
  isNaN32 (d.extractLsb' 0 32) = true ∧ d.getLsbD 22 = true ∧ d.extractLsb' 32 32 = 0 ∧ flags = if invalid then 1 else 0

/-- An infinite result. -/
def InfResult (neg : Bool) (d : DWord) (flags fl : Nat) : Prop :=
  IsInf neg (d.extractLsb' 0 32) ∧ d.extractLsb' 32 32 = 0 ∧ flags = fl

/-- The low half of a register. -/
abbrev LensView.la (x : LensView) : Word := x.a.extractLsb' 0 32
abbrev LensView.lb (x : LensView) : Word := x.b.extractLsb' 0 32

/-- The binary32 rows on operands that are no numbers, infinite, or zero divisors (IEEE 754, which 04 R195 names; log entry 16). -/
noncomputable def specialRows : List LensRow :=
  [ { row := .fadd, lens := 0x14, pre := fun x => isNaN32 x.la || isNaN32 x.lb,
      post := fun x f => NaNResult (isSignalling x.la || isSignalling x.lb) x.d f },
    { row := .fadd, lens := 0x14, pre := fun x => ∃ n, IsInf n x.la ∧ IsInf (!n) x.lb, post := fun x f => NaNResult true x.d f },
    { row := .fsub, lens := 0x15, pre := fun x => ∃ n, IsInf n x.la ∧ IsInf n x.lb, post := fun x f => NaNResult true x.d f },
    { row := .fsub, lens := 0x15, pre := fun x => IsInf true x.la ∧ Finite32 x.lb, post := fun x f => InfResult true x.d f 0 },
    { row := .fmul, lens := 0x16, pre := fun x => (∃ n, IsInf n x.la) ∧ Finite32 x.lb ∧ value32 x.lb = 0,
      post := fun x f => NaNResult true x.d f },
    { row := .fmul, lens := 0x16, pre := fun x => (∃ n, IsInf n x.la) ∧ Finite32 x.lb ∧ value32 x.lb ≠ 0,
      post := fun x f => InfResult (x.la.msb != x.lb.msb) x.d f 0 },
    { row := .fdiv, lens := 0x18, pre := fun x => Finite32 x.la ∧ value32 x.la ≠ 0 ∧ Finite32 x.lb ∧ value32 x.lb = 0,
      post := fun x f => InfResult (x.la.msb != x.lb.msb) x.d f 2 },
    { row := .fdiv, lens := 0x18, pre := fun x => Finite32 x.la ∧ value32 x.la = 0 ∧ Finite32 x.lb ∧ value32 x.lb = 0,
      post := fun x f => NaNResult true x.d f },
    { row := .fsqrt, lens := 0x19, pre := fun x => Finite32 x.la ∧ value32 x.la < 0, post := fun x f => NaNResult true x.d f },
    { row := .fsqrt, lens := 0x19, pre := fun x => Finite32 x.la ∧ value32 x.la = 0, post := fun x f => value32 (x.d.extractLsb' 0 32) = 0 ∧ f = 0 },
    { row := .f2q, lens := 0x10, pre := fun x => isNaN32 x.la, post := fun _ f => f = 1 },
    { row := .f2q, lens := 0x10, pre := fun x => ∃ n, IsInf n x.la,
      post := fun x f => x.d.toInt = (if x.la.msb then -2 ^ 63 else 2 ^ 63 - 1) ∧ f = 8 } ]

/-- What microword w of engine e names of the Lens registers, with Ld and Ld+1 of another state. -/
def State.lensView (s u : State) (e : Nat) (w : Micro) : LensView where
  a := s.lensReg e w.la
  b := s.lensReg e w.lb
  c := s.lensReg e w.lc
  a1 := s.lensReg e (w.la + 1)
  b1 := s.lensReg e (w.lb + 1)
  c1 := s.lensReg e (w.lc + 1)
  ia := w.la
  d := u.lensReg e w.ld
  d1 := u.lensReg e (w.ld + 1)

/-- What a row of Lens operations states of engine e at state s: the microword runs; its result is there at once, or after its latency
by LENS_COMPLETE; Ld (and Ld+1 of a pair), the flags it sets and no other Lens register change. -/
def LensRow.holds (r : LensRow) (e : Fin 12) (s : State) : Prop :=
  let w := s.micro e
  r.pre (s.lensView s e w) → ∃ t u : State, exec (r.row e) s = .next t ∧ t.gprs = s.gprs ∧
    (if r.late then exec (.lensComplete e) t = .next u ∧ t.lens = s.lens else u = t) ∧
    ∃ flags, r.post (s.lensView u e w) flags ∧ u.get (ENG_LENS.LSTAT e) = s.get (ENG_LENS.LSTAT e) ||| flags ∧ OnlyEngine e s u ∧
      ∀ j < 8, j ≠ w.ld → (r.pair = true → j ≠ w.ld + 1) → u.lensReg e j = s.lensReg e j

end Sys2Proof.Machine

/-- 04 R196, R197, R200, 05 R277, R278: the Q31.32 operations deliver their exact result, a product rounded to nearest, saturated with SAT.
(A product of QMUL rounds ties away from zero; for the sums of products only a nearest value is stated.) -/
def Sys2Proof.Machine.LensFixedRowsHold : Prop :=
  ∀ r ∈ fixedRows, ∀ (e : Fin 12) (s : State), s.Unhindered e → (s.micro e).lensOnly = true → (s.micro e).lens = r.lens → r.holds e s

/-- 05 R255, R277: QCMP writes Z and N under LCMP from its comparison, clears C and V, and writes no register. -/
def Sys2Proof.Machine.LensCompareHold : Prop :=
  ∀ (e : Fin 12) (s : State), s.Unhindered e → (s.micro e).lensOnly = true → (s.micro e).lens = 3 → (s.micro e).ccu = 3 →
    let a := (s.lensReg e (s.micro e).la).toInt
    let b := (s.lensReg e (s.micro e).lb).toInt
    ∃ t, exec (.qcmp e) s = .next t ∧ t.lens = s.lens ∧ t.gprs = s.gprs ∧ OnlyEngine e s t ∧ ∀ k < 10,
      (t.bank e (s.level e)).cc.getLsbD k =
        if k = 0 then decide (a = b) else if k = 1 then decide (a < b) else if k < 4 then false else s.code e k

/-- 04 R195, R197, R200, 05 R277: the binary32 operations and conversions on finite numbers deliver the exact result rounded to nearest,
ties to even, with OF at an overflow. (That CFMA rounds each component once is the model's choice, log entry 28.) -/
def Sys2Proof.Machine.LensFiniteHold : Prop :=
  ∀ r ∈ floatRows, ∀ (e : Fin 12) (s : State), s.Unhindered e → (s.micro e).lensOnly = true → (s.micro e).lens = r.lens → r.holds e s

/-- 04 R195, R200: the binary32 operations on NaNs, infinities and zero divisors, with NV and DZ (log entry 16 for the NaN delivered). -/
def Sys2Proof.Machine.LensSpecialHold : Prop :=
  ∀ r ∈ specialRows, ∀ (e : Fin 12) (s : State), s.Unhindered e → (s.micro e).lensOnly = true → (s.micro e).lens = r.lens → r.holds e s

/-- 04 R195, R197, R200, 05 R277: the binary32 operations. -/
def Obligations.LensFloatRows : Prop := LensFiniteHold ∧ LensSpecialHold

namespace Sys2Proof.Machine

/-- The number that element k of a Lens vector operand from address a holds, n bytes wide. -/
def State.element (s : State) (a n k : Nat) : DWord := BitVec.ofNat 64 (s.number (a + n * k) n)

/-- What an element of a vector operation leaves in Ld, from Ld and the elements x and y (05 R277). -/
def vectorPost (lens : Nat) (d x y d' : DWord) (flags : Nat) : Prop :=
  if lens = 0x28 then ∃ r, NearestUnit (2 ^ 32 * d.toInt + x.toInt * y.toInt) r ∧ Saturated r d' flags
  else if lens = 0x29 then Low d → Low x → Low y → Scalar32 (low32 d + low32 x * low32 y) d' flags
  else Halves d → Halves x → Halves y → ∃ f1 f2, flags = f1 ||| f2 ∧
    Rounded32 (low32 d + low32 x * low32 y - high32 x * high32 y) (d'.extractLsb' 0 32) f1 ∧
    Rounded32 (high32 d + low32 x * high32 y + high32 x * low32 y) (d'.extractLsb' 32 32) f2

end Sys2Proof.Machine

/-- 04 R199, 05 R277, 06 R323 to R326: the vector operations run, add the product of one pair of elements to Ld, set its flags, and stall
before the next element or are complete; no byte of memory changes. -/
def Obligations.LensVectorRows : Prop :=
  ∀ r ∈ [(Instr.vdotQ, 0x28, 8), (Instr.vdotF, 0x29, 4), (Instr.vcmacF, 0x2A, 8)], ∀ (e : Fin 12) (s : State),
    s.Unhindered e → (s.micro e).lensOnly = true → (s.micro e).lens = r.2.1 →
    let x := s.here e
    let k := s.doneHere e
    let n := r.2.2
    k < x.total → s.Readable e (x.a.toNat + n * k) n → s.Readable e (x.b.toNat + n * k) n →
    ∃ t flags, exec (r.1 e) s = .next t ∧ Progressed e s t k x.total ∧ (∀ a, t.byte a = s.byte a) ∧ t.gprs = s.gprs ∧
      vectorPost r.2.1 (s.lensReg e x.w.ld) (s.element x.a.toNat n k) (s.element x.b.toNat n k) (t.lensReg e x.w.ld) flags ∧
      t.get (ENG_LENS.LSTAT e) = s.get (ENG_LENS.LSTAT e) ||| flags ∧
      (∀ j < 8, j ≠ x.w.ld → t.lensReg e j = s.lensReg e j)

/-- 04 R196, R197, R199, 06 R326: CROT and CVEC run, one iteration each of 32, and hold their operands in Ld, Ld+1 and LRES; the last leaves in
Ld and Ld+1 the result. For CVEC that is an angle within 4 × 2^-32 turn and, where Q31.32 holds one, a magnitude within a relative
2^-30. For CROT it is the vector (La, La+1) rotated by Lb, each component saturated with SAT; its error bound is the model's choice (log
entry 91). -/
def Obligations.LensCordicRows : Prop :=
  ∀ r ∈ [(Instr.crot, 0x20), (Instr.cvec, 0x21)], ∀ (e : Fin 12) (s : State), s.Unhindered e → (s.micro e).lensOnly = true →
    (s.micro e).lens = r.2 →
    let w := s.micro e
    let k := s.doneHere e
    let v := s.cordicOperands e k w
    let x := v.1.toInt
    let y := v.2.1.toInt
    k < 32 →
    ∃ t, exec (r.1 e) s = .next t ∧ Progressed e s t k 32 ∧ t.gprs = s.gprs ∧ (∀ a, t.byte a = s.byte a) ∧
      (∀ j < 8, j ≠ w.ld → j ≠ w.ld + 1 → t.lensReg e j = s.lensReg e j) ∧
      (k = 0 → v = (s.lensReg e w.la, s.lensReg e (w.la + 1), if r.2 = 0x20 then (s.lensReg e w.lb).setWidth 32 else 0)) ∧
      (k < 31 → t.cordicOperands e (k + 1) w = v) ∧
      (k = 31 → r.2 = 0x20 → ∃ a b f1 f2,
        (a - (rotated x y v.2.2.toNat).1).natAbs ≤ magnitudeOf x y / 2 ^ 27 + 1 ∧
        (b - (rotated x y v.2.2.toNat).2).natAbs ≤ magnitudeOf x y / 2 ^ 27 + 1 ∧
        Saturated a (t.lensReg e w.ld) f1 ∧ Saturated b (t.lensReg e (w.ld + 1)) f2 ∧
        t.get (ENG_LENS.LSTAT e) = s.get (ENG_LENS.LSTAT e) ||| (f1 ||| f2)) ∧
      (k = 31 → r.2 = 0x21 → (x ≠ 0 ∨ y ≠ 0) →
        angleGood ((t.lensReg e (w.ld + 1)).setWidth 32) x y = true ∧ (t.lensReg e (w.ld + 1)).extractLsb' 32 32 = 0 ∧
        (∀ m < 2 ^ 63, magnitudeGood m x y = true → magnitudeGood (t.lensReg e w.ld).toNat x y = true) ∧
        (t.get (ENG_LENS.LSTAT e) ≠ s.get (ENG_LENS.LSTAT e) → 2 ^ 126 ≤ x * x + y * y))

/-- 04 R198, R200: LENS_COMPLETE writes the destination and the sticky flags of the operation in flight, which is then none; with none in
flight it changes nothing. -/
def Sys2Proof.Machine.LensCompletionHold : Prop :=
  ∀ (e : Fin 12) (s : State), s.engineClock = true →
    ((s.eng e).op = none → exec (.lensComplete e) s = .next s) ∧
    (∀ x j v, (s.eng e).op = some x → x.writes = [(j, v)] → j < 8 → ∃ t, exec (.lensComplete e) s = .next t ∧ (t.eng e).op = none ∧
      t.lensReg e j = v ∧ (∀ i < 8, i ≠ j → t.lensReg e i = s.lensReg e i) ∧
      t.get (ENG_LENS.LSTAT e) = s.get (ENG_LENS.LSTAT e) ||| x.flags % 16 ∧
      ((t.eng e).lensFault = none ↔ (s.eng e).lensFault = none ∧ x.flags &&& s.get (ENG_CTL.LTRAP e) = 0))

/-- 05 R264 to R266, 06 R323, R324: RESUMABLE_ELEMENT works the next element of a MOVBLK under way, whose ENG_PROG names the microword. -/
def Sys2Proof.Machine.ResumedElementHold : Prop :=
  ∀ (e : Fin 12) (s : State), s.ready e = true → s.on (ENG_STAT.STALL e) = true → s.lockOpen e = false → (s.eng e).capWrites = [] →
    (s.eng e).stepping = false → (∀ k < 8, s.get (ENG_DCMP_CTL.KIND e k) = 0) →
    (s.micro e).memoryOnly = true → (s.micro e).mem = 0x0C → s.progMatches e (s.level e) (s.upc e) (s.micro e) = true →
    let x := s.here e
    let k := s.doneHere e
    let src := x.a.toNat + 8 * k
    let dst := (s.gpr e x.l x.w.dst).toNat + 8 * k
    s.capViolation x = none → ((s.eng e).unjudged = true → s.firstCause x = none) → s.stalls x = false → k < x.total → s.Readable e src 8 → s.Readable e dst 8 →
    ∃ t, exec (.resumableElement e) s = .next t ∧ Progressed e s t k x.total ∧ t.number dst 8 = s.number src 8 ∧
      (∀ a, a < dst ∨ dst + 8 ≤ a → t.byte a = s.byte a)

/-- 05 R282, 19 R911: a microword tagged BKPT, with microbreaks of its engine enabled, halts the engine before it has any effect. -/
def Sys2Proof.Machine.MicrobreakHaltsHold : Prop :=
  ∀ (e : Fin 12) (s : State), s.ready e = true → s.on (ENG_STAT.STALL e) = false → s.badGroups e = 0 → s.lockOpen e = false →
    (s.eng e).capWrites = [] → (∀ k < 8, s.get (ENG_DCMP_CTL.KIND e k) = 0) → (s.eng e).released = false →
    (s.micro e).bkpt = true → (s.get EYE_BRKEN.ENG).testBit e = true →
    ∃ t, exec (.microbreak e) s = .next t ∧ t.get (ENG_STAT.STATE e) = 3 ∧ t.upc e = s.upc e ∧ t.gprs = s.gprs ∧ t.banks = s.banks ∧
      t.lens = s.lens ∧ (∀ a, t.byte a = s.byte a) ∧ (t.crossTrigger = true ↔ s.crossTrigger = true ∨ s.on EYE_BRKEN.XT = true)

/-- 04 R196, R197, R200, 05 R255, R277, R278: the Q31.32 operations, with the comparison. -/
def Obligations.LensFixed : Prop := LensFixedRowsHold ∧ LensCompareHold

/-- 04 R197 to R200, 06 R323, R324, 05 R282, 19 R911: a Lens operation completes, an operation under way works its next element, a tagged microword halts. -/
def Obligations.EngineElements : Prop := LensCompletionHold ∧ ResumedElementHold ∧ MicrobreakHaltsHold

namespace Sys2Proof.Machine

/-! ## The vocabulary of the statements about register writes -/

/-- A write of master o to the register at a key reaches the register's own rules: no ERROR, no refusal by the strict Logbook policy, a
sufficient ring (00 R9, R10, R12, 01 R31, 18 R883, 19 R894). -/
structure State.Takes (s : State) (o : Origin) (key : Nat) : Prop where
  bus : s.busError o true (hostOffset key) = false
  strict : ¬ ((regDesc key).any (·.logged) = true ∧ s.logRefuses o = true)
  ring : ∀ r, s.ringOf o = some r → r ≤ minRing key
  debug : s.debugOff key = false

/-- The response that master o has: 0 OK, 1 RETRY, 2 DENIED, 3 ERROR (21 R934). -/
def Answered (o : Origin) (t : State) (resp : Nat) : Prop := (o = .host → t.host.resp = resp) ∧ (o = .eyepiece → t.eyeResp = resp)

/-- Nothing but the answers to masters and the Logbook's waiting records changes, and no register but those of a list. -/
structure OnlyRegs (ks : List Nat) (s t : State) : Prop where
  parts : ∀ p : Part, p ≠ .answers → p.same s t
  regs : ∀ k, k ∉ LOG_LOST :: ks → t.reg k = s.reg k

/-- A write refused with DENIED: nothing changes but the answer and the Logbook. -/
abbrev Refused (o : Origin) (s t : State) : Prop := OnlyRegs [] s t ∧ Answered o t 2

/-- A write to register k refused for a resource conflict (08 R404): DENIED, the register as it was, and EV252 registered. -/
def Conflict (o : Origin) (k : Nat) (s t : State) : Prop := Answered o t 2 ∧ t.reg k = s.reg k ∧ t.linePending 252 = true

end Sys2Proof.Machine

/-- 01 R33, R34, R41, 17 R846, 19 R895: AON reset clears the plates and powers the IFC domain off; cluster reset by its pin or by CLU_CTL leaves
the cluster in reset with its cause, the engines stopped, and the plates, control stores and general registers as they were; the
release sequence enters loading and loads cluster time; debug reset ends the session and leaves the IFC domain's plates. -/
def Obligations.ResetRows : Prop :=
  ∀ s : State,
    (∃ t, exec .aonRstNAssert s = .next t ∧ t.ifcOn = false ∧ (∀ a, t.byte a = 0) ∧ t.queues = [] ∧ t.deliveries = [] ∧
      t.get SEC_LCS.STATE = s.get SEC_LCS.STATE ∧ t.on EYE_STAT.SESS = false ∧ ∀ e < 12, t.get (ENG_STAT.STATE e) = 0) ∧
    (∃ t, exec .cluRstNAssert s = .next t ∧ (s.ifcOn = false → t = s) ∧
      (s.ifcOn = true → t.get CLU_STAT.RSTCAUSE = 1 ∧ t.get CLU_STAT.STATE = 0 ∧ (∀ a, t.byte a = s.byte a) ∧ t.wcs = s.wcs ∧ t.gprs = s.gprs ∧
        t.on EYE_STAT.SESS = s.on EYE_STAT.SESS ∧ ∀ e < 12, t.get (ENG_STAT.STATE e) = 0)) ∧
    (∀ (o : Origin) (v : Word), s.Takes o CLU_CTL → ∃ t, exec (.clurst o v) s = .next t ∧ Answered o t 0 ∧ t.get CLU_STAT.RSTCAUSE = 2 ∧
      t.get CLU_STAT.STATE = 0 ∧ t.wcs = s.wcs ∧ t.gprs = s.gprs ∧ ∀ e < 12, t.get (ENG_STAT.STATE e) = 0) ∧
    (∀ fuses limits aon, s.ifcOn = true → s.get CLU_STAT.STATE = 0 → s.on CLK_PLLSTAT.TCLKLK = true → s.on CLK_PLLSTAT.CCLKLK = true →
      s.power.powerUp = false → s.retained = none →
      ∃ t, exec (.resetReleaseSequence fuses limits aon) s = .next t ∧ t.get CLU_STAT.STATE = 1 ∧ t.rgl.q = 0 ∧
        t.get RGL_QUAL.STATE = s.get RGL_STAT.AONV ∧ (s.on RGL_STAT.AONV = false → t.rgl.time = 0) ∧
        (s.on RGL_STAT.AONV = true → t.rgl.time / 2 ^ 24 / unitsPerSec = (s.rgl.aonTime + aon) / 32768) ∧
        (∀ (i : Nat) (x : BitVec 21), fuses[i]? = some x → i < 119 → t.get (RGL_PINCAL.DLY i) = if fuseGood x then x.toNat % 4096 else 0)) ∧
    (s.dbgOn = true → ∃ t, exec .dbgRstNAssert s = .next t ∧ t.on EYE_STAT.SESS = false ∧ t.reg EYE_FREEZE = 0 ∧ t.reg EYE_BRKEN = 0 ∧
      t.mem = s.mem ∧ t.gprs = s.gprs ∧ t.banks = s.banks ∧ t.get CLU_STAT.STATE = s.get CLU_STAT.STATE)

/-- 17 R849 to R855: a rise of ATTACH_REQ starts the attach sequence of a detached cluster, and PWR_ACK powers the domain; its fall starts
the detach; the commit window's end stops every engine; the drain's end and a loss of PWR_ACK leave the cluster detached with the
domain off, as does a fall in Dormant. -/
def Obligations.AttachRows : Prop :=
  ∀ s : State,
    (∀ ack, ∃ t, exec (.attachSequence ack) s = .next t ∧ t.on CLU_ATTACH.ATTREQ = true ∧
      (s.get CLU_ATTACH.PSTATE = 0 → t.get CLU_ATTACH.PSTATE = 1 ∧ t.power.req = true) ∧
      (s.get CLU_ATTACH.PSTATE = 0 → s.ifcOn = false → t.ifcOn = ack ∧
        (ack = true → t.on CLU_ATTACH.PWRACK = true ∧ t.get CLU_STAT.RSTCAUSE = 3)) ∧
      (1 < s.get CLU_ATTACH.PSTATE → t.get CLU_ATTACH.PSTATE = s.get CLU_ATTACH.PSTATE)) ∧
    (∃ t, exec .detachSequence s = .next t ∧ t.on CLU_ATTACH.ATTREQ = false ∧
      (s.get CLU_ATTACH.PSTATE = 2 ∨ s.get CLU_ATTACH.PSTATE = 3 → t.get CLU_ATTACH.PSTATE = 5 ∧
        t.get CLU_STAT.STATE = (if s.get CLU_STAT.STATE = 2 ∨ s.get CLU_STAT.STATE = 3 then 4 else s.get CLU_STAT.STATE))) ∧
    (s.get CLU_ATTACH.PSTATE = 5 → s.on CLK_PLLSTAT.TCLKLK = true → s.on CLK_PLLSTAT.CCLKLK = true →
      s.power.detachEdge + 500 * s.get CLK_QUIES.CMT ≤ s.rgl.edge → ∃ t, exec .detachCommitWindowEnd s = .next t ∧ t.power.stopped = true ∧
        (s.power.stopped = false → s.flows = [] → ∀ e < 12, t.on (ENG_CTL.RUN e) = false)) ∧
    (s.get CLU_ATTACH.PSTATE = 5 → s.on CLK_PLLSTAT.TCLKLK = true → s.on CLK_PLLSTAT.CCLKLK = true → s.drainEnded = true →
      s.on CLU_ATTACH.ATTREQ = false → ∃ t, exec .detachDrainEnd s = .next t ∧ t.get CLU_ATTACH.PSTATE = 0 ∧ t.ifcOn = false ∧
        t.power.req = false ∧ t.on CLU_ATTACH.ISO = true ∧ t.on CLU_ATTACH.ATTACK = false ∧ t.retained = none) ∧
    (s.power.req = true → s.on CLU_ATTACH.PWRACK = true → s.on CLU_ATTACH.ATTREQ = false → ∃ t, exec .pwrAckLoss s = .next t ∧
      t.get CLU_ATTACH.PSTATE = 0 ∧ t.ifcOn = false ∧ t.power.req = false ∧ t.on CLU_ATTACH.ISO = true) ∧
    (s.get CLU_ATTACH.PSTATE = 4 → ∃ t, exec .attachReqFallInDormant s = .next t ∧ t.get CLU_ATTACH.PSTATE = 0 ∧ t.ifcOn = false ∧
      t.on CLU_ATTACH.ATTREQ = false ∧ t.retained = none)

namespace Sys2Proof.Machine

/-- Nap and Dormant may be asked for (17 R828, R831): service or first light, and no active flow. -/
def State.MaySleep (s : State) : Prop :=
  s.on ADM_STAT.ACTIVE = false ∧ (s.get CLU_STAT.STATE = 2 ∨ s.get CLU_STAT.STATE = 3)

/-- The wake source that DORMANT_WAKE names holds (17 R832). -/
def State.WakeDue (s : State) (source aon : Nat) : Prop :=
  if source = 0 then s.reg EVC_WAKELAT0 ≠ 0 ∨ s.on EVC_WAKELAT1.PIN = true
  else if source = 1 then s.on EVC_WAKELAT1.MAC = true
  else if source = 2 then s.on CLK_PWRCTL.ALMEN = true ∧ s.on RGL_STAT.AONV = true ∧ (s.rgl.aonTime + aon) / 32768 % 2 ^ 32 = (s.reg CLK_AONALM).toNat
  else s.security.tamper ≠ []

end Sys2Proof.Machine

/-- 17 R828 to R832, R853, 08 R438: NAP and DORMANT are refused outside service or with an active flow; Nap is entered when no engine runs and
left by a write or an event; Dormant powers the domain off with its routing kept; each wake source starts the attach sequence; at the
first tick of service the latched wake sources register their events. -/
def Obligations.SleepRows : Prop :=
  ∀ (o : Origin) (v : Word) (s : State),
    (s.Takes o CLK_PWRCTL → s.MaySleep → v.getLsbD 1 = false → ∃ t, exec (.napRequest o v) s = .next t ∧ Answered o t 0 ∧
      (t.power.napAsked = true ↔ s.get CLU_ATTACH.PSTATE = 2) ∧ t.get CLU_ATTACH.PSTATE = s.get CLU_ATTACH.PSTATE) ∧
    (s.Takes o CLK_PWRCTL → ¬ s.MaySleep → ∃ t, exec (.napRequest o v) s = .next t ∧ Refused o s t) ∧
    (s.power.napAsked = true → s.get CLU_ATTACH.PSTATE = 2 → s.on CLK_PLLSTAT.TCLKLK = true → s.on CLK_PLLSTAT.CCLKLK = true →
      (∀ e < 12, s.get (ENG_STAT.STATE e) ≠ 1) → ∃ t, exec .napEntry s = .next t ∧ t.get CLU_ATTACH.PSTATE = 3 ∧ t.power.napAsked = false ∧
        ∀ p : Part, p ≠ .power → p ≠ .timers → p.same s t) ∧
    (s.get CLU_ATTACH.PSTATE = 3 → s.on CLK_PWRCTL.NAPEV = true → (∃ d ∈ s.deliveries, d.held = none) →
      ∃ t, exec (.napExit none) s = .next t ∧ t.get CLU_ATTACH.PSTATE = 2) ∧
    (s.get CLU_ATTACH.PSTATE = 3 → s.Takes o CLK_PWRCTL → v.getLsbD 1 = false → ∃ t, exec (.napExit (some (o, v))) s = .next t ∧
      Answered o t 0 ∧ t.get CLU_ATTACH.PSTATE = 2) ∧
    (s.Takes o CLK_PWRCTL → ¬ s.MaySleep → ∃ t, exec (.dormant o v) s = .next t ∧ Refused o s t) ∧
    (s.Takes o CLK_PWRCTL → s.MaySleep → s.on CLU_ATTACH.ATTREQ = true → ∃ t, exec (.dormant o v) s = .next t ∧
      t.get CLU_ATTACH.PSTATE = 4 ∧ t.ifcOn = false ∧ t.power.req = false ∧
      ∃ r, t.retained = some r ∧ r.routes = (List.range 256).map (fun n => (EVC_ROUTE n, s.reg (EVC_ROUTE n)))) ∧
    (∀ source aon, s.get CLU_ATTACH.PSTATE = 4 → s.WakeDue source.val aon → ∃ t, exec (.dormantWake source aon) s = .next t ∧
      t.get CLU_ATTACH.PSTATE = 1 ∧ t.power.req = true ∧ (t.reg CLU_ATTACH).getLsbD (19 + source) = true ∧
      t.rgl.aonTime = s.rgl.aonTime + aon) ∧
    (s.Takes o CLU_ATTACH → s.get CLU_ATTACH.PSTATE = 4 → ∃ t, exec (.wake o v) s = .next t ∧ Answered o t 0 ∧ t.get CLU_ATTACH.PSTATE = 1 ∧
      t.power.req = true) ∧
    (s.ifcOn = true → (s.get CLU_STAT.STATE = 2 ∨ s.get CLU_STAT.STATE = 3) → ∃ t, exec .wakeLatchReplay s = .next t ∧
      t.reg EVC_WAKELAT0 = 0 ∧ t.reg EVC_WAKELAT1 = 0 ∧
      ∀ k < 32, (s.reg EVC_WAKELAT0).getLsbD k = true → t.linePending (32 + k) = true)

/-- 17 R835, R837 to R844: a stability check that exactly one candidate frequency passes starts the PLLs, and any other counts a failure; the
lock releases the domain or, after a clock loss, resets it; a loss of TCLK, CCLK or the oscillator enters waiting for clock; a loss of
the link PLL ends both links, and its lock returns by itself; CLK_SSC takes a rate within 30 to 120 kHz and a depth within the
platform's, keeps its depth for one above 8, and refuses one above the platform's. -/
def Obligations.ClockRows : Prop :=
  ∀ s : State,
    (∀ n lo hi, s.ifcOn = true → s.power.pllsStarted = false → s.on CLK_PLLSTAT.TCLKLK = false → s.on CLK_OSC_TOL.HOSTKHZ = true →
      let h := s.get CLK_OSC_TOL.HOSTKHZ
      let ppm := if s.get CLK_OSC_TOL.PPM = 0 then 1 else s.get CLK_OSC_TOL.PPM
      let passes := fun f : Nat => ((n * f : Nat) - (4096 * h : Nat) : Int).natAbs * 1000000 ≤ 4096 * h * ppm + f * 1000000 ∧
        h / f ≤ lo + 1 ∧ hi ≤ (h + f - 1) / f + 1
      (∀ c : Nat, c < 3 → passes ([10000, 20000, 25000].getD c 0) → (∀ d < 3, d ≠ c → ¬ passes ([10000, 20000, 25000].getD d 0)) →
        ∃ t, exec (.stabilityCheckComplete n lo hi) s = .next t ∧ t.power.pllsStarted = true ∧ t.get CLK_PLLSTAT.XFREQ = c + 1 ∧
          t.on CLK_PLLSTAT.CHECKOK = true ∧ t.get CLK_STAT.OSCFAIL = 0) ∧
      ((∀ c < 3, passes ([10000, 20000, 25000].getD c 0) → ∃ d < 3, d ≠ c ∧ passes ([10000, 20000, 25000].getD d 0)) →
        ∃ t, exec (.stabilityCheckComplete n lo hi) s = .next t ∧ t.power.pllsStarted = false ∧ t.on CLK_PLLSTAT.CHECKOK = false ∧
          t.get CLK_STAT.OSCFAIL = min 0xFFFF (s.get CLK_STAT.OSCFAIL + 1))) ∧
    (s.ifcOn = true → s.on CLK_PLLSTAT.TCLKLK = true → s.on CLK_PLLSTAT.CCLKLK = true → ∃ t, exec .pllLock s = .next t ∧
      t.on CLK_PLLSTAT.LINKLK = true ∧ (∀ p : Part, p.same s t) ∧ ∀ k, k ≠ CLK_PLLSTAT → t.reg k = s.reg k) ∧
    (s.ifcOn = true → s.on CLK_PLLSTAT.TCLKLK = false → s.power.pllsStarted = true → ∃ t, exec .pllLock s = .next t ∧
      t.on CLK_PLLSTAT.TCLKLK = true ∧ t.on CLK_PLLSTAT.CCLKLK = true ∧ t.on CLK_PLLSTAT.LINKLK = true ∧
      (s.get CLU_STAT.STATE = 6 → t.get CLU_STAT.STATE = 0 ∧ t.on CLK_STAT.CLKRST = true ∧ t.wcs = s.wcs) ∧
      (s.get CLU_STAT.STATE ≠ 6 → s.get CLU_ATTACH.PSTATE = 1 → t.on CLU_ATTACH.ISO = false)) ∧
    (∀ cause aon, s.ifcOn = true → s.on CLK_PLLSTAT.TCLKLK = true → s.on CLK_PLLSTAT.CCLKLK = true →
      ∃ t, exec (.clockLoss cause aon) s = .next t ∧ t.on CLK_PLLSTAT.TCLKLK = false ∧ t.on CLK_PLLSTAT.CCLKLK = false ∧
        t.on CLK_STAT.LOSS = true ∧ t.get CLK_STAT.CAUSE = cause.val + 1 ∧ t.power.pllsStarted = false ∧
        (s.get CLU_STAT.STATE ≠ 7 → t.get CLU_STAT.STATE = 6 ∧ t.get RGL_QUAL.STATE = 1) ∧ (∀ a, t.byte a = s.byte a)) ∧
    (s.on CLK_PLLSTAT.LINKLK = true → ∃ t, exec .linkPllLockLoss s = .next t ∧ t.on CLK_PLLSTAT.LINKLK = false ∧
      t.on CLK_PLLSTAT.TCLKLK = s.on CLK_PLLSTAT.TCLKLK ∧ ∀ x < 2, t.get (CST_LNKSTAT.STATE x) = 0 ∧ (s.get (CST_LNKSTAT.STATE x) ≠ 0 → t.on (CST_LNKSTAT.LOSS x) = true)) ∧
    (∀ (o : Origin) (v : Word), s.Takes o CLK_SSC → v.toNat % 16 ≤ s.spreadLimit → v.toNat % 16 ≤ 8 →
      ∃ t, exec (.clkSscWrite o v) s = .next t ∧ Answered o t 0 ∧ t.get CLK_SSC.DEPTH = v.toNat % 16 ∧
        t.get CLK_SSC.RATE = max 30 (min 120 (v.toNat / 256 % 256)) ∧ OnlyRegs [CLK_SSC] s t) ∧
    (∀ (o : Origin) (v : Word), s.Takes o CLK_SSC → v.toNat % 16 ≤ s.spreadLimit → 8 < v.toNat % 16 →
      ∃ t, exec (.clkSscWrite o v) s = .next t ∧ Answered o t 0 ∧ t.get CLK_SSC.DEPTH = s.get CLK_SSC.DEPTH ∧ OnlyRegs [CLK_SSC] s t) ∧
    (∀ (o : Origin) (v : Word), s.Takes o CLK_SSC → s.spreadLimit < v.toNat % 16 → ∃ t, exec (.clkSscWrite o v) s = .next t ∧ Refused o s t)

namespace Sys2Proof.Machine

/-- A master whose discipline writes the Regulator accepts (02 R75, R77): from ring 2 only while the host port is the owner. -/
def State.MayDiscipline (s : State) (o : Origin) : Prop := s.ringOf o = some 2 → s.get RGL_SRV_OWN.OWNER = 1

/-- A discipline register as a commit of master o reads it: the word it wrote last, if the servo freeze holds it (02 R89). -/
def State.discWord (s : State) (o : Origin) (key : Nat) : Word :=
  if s.servoHolds o then (tfind s.rgl.held key).getD (s.reg key) else s.reg key

/-- The offset of a step commit with nanoseconds v, in units of 2^-16 ns (02 R80, R81). -/
def State.stepOffset (s : State) (o : Origin) (v : Word) : Int :=
  ((s.discWord o RGL_STEP_SEC).toInt * 1000000000 + v.toInt) * 65536 + ((s.discWord o RGL_STEP_FRAC).toNat % 65536 : Nat)

/-- The remaining offset after that commit, in the units of Q (02 R81): a commit that the servo freeze holds is judged with those held
before it (log entry 74). -/
def State.stepSum (s : State) (o : Origin) (v : Word) : Int :=
  s.rgl.q + (if s.servoHolds o then s.rgl.heldStep else 0) + s.stepOffset o v * 2 ^ 24

/-- A code of an owner of discipline: none, the host port, the constellation link, an engine. -/
def servoCode (c : Nat) : Prop := c ≤ 2 ∨ 0x10 ≤ c ∧ c ≤ 0x1B

end Sys2Proof.Machine

/-- 02 R75, R77 to R79, R81 to R85, R89, R90, R957: RATE_WRITE stores its value clamped to 1000 ppm, unless a write of a higher master at the
same edge prevails, and holds it under the servo freeze; STEP_COMMIT adds its offset to Q, which step mode and FREE add to cluster time
when it is positive, and is refused where it does not fit; QUAL_WRITE takes ACC and the transitions of STATE, or is held by the freeze; a
change of owner ends LOCKED; another owner's writes are DENIED; the end of the freeze applies what it held, a sum of steps that does not
fit apart (log entry 74). -/
def Obligations.DisciplineWrites : Prop :=
  ∀ (o : Origin) (v : Word) (s : State),
    (s.Takes o RGL_RATE → s.MayDiscipline o → ∃ t, exec (.rateWrite o v) s = .next t ∧ Answered o t 0 ∧
      (s.servoHolds o = false → t.rgl.heldRate = s.rgl.heldRate ∧ t.reg RGL_RATE =
        if s.outranked o RGL_RATE then s.reg RGL_RATE else BitVec.ofInt 32 (max (-0x4189374B) (min 0x4189374B v.toInt))) ∧
      (s.servoHolds o = true → t.reg RGL_RATE = s.reg RGL_RATE ∧
        t.rgl.heldRate = some (BitVec.ofInt 32 (max (-0x4189374B) (min 0x4189374B v.toInt)))) ∧
      t.on RGL_STAT.RCLAMP = (s.on RGL_STAT.RCLAMP || decide (0x4189374B < v.toInt.natAbs)) ∧ t.rgl.q = s.rgl.q ∧ t.now = s.now) ∧
    (s.Takes o RGL_RATE → ¬ s.MayDiscipline o → ∃ t, exec (.rateWrite o v) s = .next t ∧ Answered o t 2 ∧ t.on RGL_STAT.OWNDENY = true ∧
      OnlyRegs [RGL_STAT] s t) ∧
    (s.Takes o RGL_STEP → ¬ s.MayDiscipline o → ∃ t, exec (.stepCommit o v) s = .next t ∧ Answered o t 2 ∧ t.on RGL_STAT.OWNDENY = true ∧
      OnlyRegs [RGL_STAT] s t) ∧
    (s.Takes o RGL_QUAL → ¬ s.MayDiscipline o → ∃ t, exec (.qualWrite o v) s = .next t ∧ Answered o t 2 ∧ t.on RGL_STAT.OWNDENY = true ∧
      OnlyRegs [RGL_STAT] s t) ∧
    (s.Takes o RGL_STEP → s.MayDiscipline o → 999999999 < v.toInt.natAbs ∨ 2 ^ 63 ≤ (s.stepSum o v / 2 ^ 24).natAbs →
      ∃ t, exec (.stepCommit o v) s = .next t ∧ t.on RGL_STAT.STEPERR = true ∧ OnlyRegs [RGL_STAT] s t) ∧
    (s.Takes o RGL_STEP → s.MayDiscipline o → v.toInt.natAbs ≤ 999999999 → (s.stepSum o v / 2 ^ 24).natAbs < 2 ^ 63 →
      ∃ t, exec (.stepCommit o v) s = .next t ∧ Answered o t 0 ∧ t.reg RGL_STEP_SEC = s.reg RGL_STEP_SEC ∧
        t.reg RGL_STEP_FRAC = s.reg RGL_STEP_FRAC ∧
        (s.servoHolds o = true → t.rgl.q = s.rgl.q ∧ t.now = s.now ∧ t.rgl.heldStep = s.rgl.heldStep + s.stepOffset o v * 2 ^ 24) ∧
        (s.servoHolds o = false → s.on RGL_CTL.MODE = false → s.get RGL_QUAL.STATE ≠ 0 →
          t.rgl.q = s.rgl.q + s.stepOffset o v * 2 ^ 24 ∧ t.now = s.now) ∧
        (s.servoHolds o = false → (s.on RGL_CTL.MODE = true ∨ s.get RGL_QUAL.STATE = 0) →
          (0 < s.rgl.q + s.stepOffset o v * 2 ^ 24 → t.rgl.q = 0 ∧ (t.rgl.time : Int) = s.rgl.time + (s.rgl.q + s.stepOffset o v * 2 ^ 24)) ∧
          (s.rgl.q + s.stepOffset o v * 2 ^ 24 ≤ 0 → t.rgl.q = s.rgl.q + s.stepOffset o v * 2 ^ 24 ∧ t.now = s.now)) ∧
        t.on RGL_STAT.SLEWING = (if s.servoHolds o then s.on RGL_STAT.SLEWING else t.rgl.q != 0)) ∧
    (s.Takes o RGL_QUAL → s.MayDiscipline o → s.servoHolds o = true → ∃ t, exec (.qualWrite o v) s = .next t ∧ Answered o t 0 ∧
      t.reg RGL_QUAL = s.reg RGL_QUAL ∧ tfind t.rgl.held RGL_QUAL = some v) ∧
    (s.Takes o RGL_QUAL → s.MayDiscipline o → s.servoHolds o = false → s.outranked o RGL_QUAL = false →
      ∃ t, exec (.qualWrite o v) s = .next t ∧ Answered o t 0 ∧
      t.get RGL_QUAL.ACC = v.toNat / 256 % 256 ∧
      t.get RGL_QUAL.STATE = (if v.toNat % 8 = 2 ∧ s.get RGL_QUAL.STATE ≤ 4 ∨ v.toNat % 8 = 3 ∧ (s.get RGL_QUAL.STATE = 2 ∨ s.get RGL_QUAL.STATE = 4)
        then v.toNat % 8 else s.get RGL_QUAL.STATE) ∧ ∀ p : Part, p ≠ .answers → p ≠ .time → p.same s t) ∧
    (s.Takes o RGL_SRV_OWN → servoCode (v.toNat % 32) → ∃ t, exec (.srvOwnWrite o v) s = .next t ∧ Answered o t 0 ∧
      t.get RGL_SRV_OWN.OWNER = v.toNat % 32 ∧
      t.get RGL_QUAL.STATE = (if s.get RGL_QUAL.STATE = 3 ∧ v.toNat % 32 ≠ s.get RGL_SRV_OWN.OWNER then 4 else s.get RGL_QUAL.STATE)) ∧
    (s.Takes o RGL_SRV_OWN → ¬ servoCode (v.toNat % 32) → ∃ t, exec (.srvOwnWrite o v) s = .next t ∧ Answered o t 0 ∧ OnlyRegs [] s t) ∧
    (s.on RGL_STAT.SVCFRZ = true → s.on EYE_FREEZE.SERVO = false → ∃ t, exec .servoFreezeRelease s = .next t ∧
      t.on RGL_STAT.SVCFRZ = false ∧ t.rgl.heldRate = none ∧ t.rgl.heldStep = 0 ∧ t.rgl.held = [] ∧
      ((∀ p ∈ s.rgl.held, p.1 ≠ RGL_RATE) → t.reg RGL_RATE = s.rgl.heldRate.getD (s.reg RGL_RATE)) ∧
      (∀ w, s.rgl.held = [(RGL_STEP_SEC, w)] → t.reg RGL_STEP_SEC = w) ∧
      (s.on RGL_CTL.MODE = false → s.get RGL_QUAL.STATE ≠ 0 → ((s.rgl.q + s.rgl.heldStep) / 2 ^ 24).natAbs < 2 ^ 63 →
        t.rgl.q = s.rgl.q + s.rgl.heldStep ∧ t.now = s.now) ∧
      (s.rgl.heldStep ≠ 0 → 2 ^ 63 ≤ ((s.rgl.q + s.rgl.heldStep) / 2 ^ 24).natAbs →
        t.rgl.q = s.rgl.q ∧ t.now = s.now ∧ t.on RGL_STAT.STEPERR = true))

/-- 02 R49 to R51, R62, R63, R69, R71, R72, R86, R87, R90, R91, R116, R117: a valid temperature reading is taken and an invalid one sets TEMPERR;
a snapshot latches cluster time (in waiting for clock the AON time) with the remaining offset, the quality and a new SEQ, and requests
at one edge share one; the edge
that ends a slew adds what remains of Q; the edge of a new second carries into SEC and, in LOCKED or HOLDOVER, into the AON counter;
LOCKED ends after HOLDTO without a discipline write; a pin calibration entry is written in DEVELOP only. -/
def Obligations.RegulatorEdges : Prop :=
  ∀ (o : Origin) (v : Word) (degc : BitVec 9) (s : State),
    (∃ t, exec (.tempReading true degc) s = .next t ∧ t.get RGL_TEMP.DEGC = degc.toNat ∧ t.on RGL_TEMP.VALID = true ∧ t.rgl.theta = degc.toInt ∧
      ∀ p : Part, p ≠ .time → p.same s t) ∧
    (∃ t, exec (.tempReading false degc) s = .next t ∧ t.on RGL_TEMP.VALID = false ∧ t.on RGL_STAT.TEMPERR = true ∧ t.rgl.theta = s.rgl.theta ∧
      t.get RGL_TEMP.DEGC = s.get RGL_TEMP.DEGC ∧ ∀ p : Part, p.same s t) ∧
    (s.Takes o RGL_SNAP_CMD → s.get CLU_STAT.STATE ≠ 6 → s.rgl.snapEdge = some s.rgl.edge →
      ∃ t, exec (.snapshot o v) s = .next t ∧ Answered o t 0 ∧ OnlyRegs [] s t) ∧
    (s.Takes o RGL_SNAP_CMD → s.get CLU_STAT.STATE = 6 ∨ s.rgl.snapEdge ≠ some s.rgl.edge →
      ∃ t, exec (.snapshot o v) s = .next t ∧ Answered o t 0 ∧
      t.reg RGL_SNAP2 ++ t.reg RGL_SNAP1 ++ t.reg RGL_SNAP0 = toTime96 (if s.get CLU_STAT.STATE = 6 then
        s.rgl.aonTime / 32768 * unitsPerSec + s.rgl.aonTime % 32768 * 1000000000 / 32768 * 65536 else s.now) ∧
      (t.reg RGL_SNAP_REM1 ++ t.reg RGL_SNAP_REM0).toInt = (BitVec.ofInt 64 (s.rgl.q / 2 ^ 24)).toInt ∧
      t.on RGL_SNAP_CMD.CLKW = decide (s.get CLU_STAT.STATE = 6) ∧ t.get RGL_SNAP_CMD.SLEW = s.get RGL_STAT.SLEWING ∧
      t.get RGL_SNAP_CMD.QUAL = (if s.get CLU_STAT.STATE = 6 then 1 else s.get RGL_QUAL.STATE) ∧
      t.get RGL_SNAP_CMD.SEQ = (s.get RGL_SNAP_CMD.SEQ + 1) % 256 ∧
      t.now = s.now ∧ t.rgl.q = s.rgl.q ∧ t.rgl.edge = s.rgl.edge ∧ (∀ p : Part, p ≠ .answers → p ≠ .time → p.same s t) ∧
      ∀ k, k ∉ [LOG_LOST, RGL_SNAP_CMD, RGL_SNAP0, RGL_SNAP1, RGL_SNAP2, RGL_SNAP_REM0, RGL_SNAP_REM1] → t.reg k = s.reg k) ∧
    (s.on CLK_PLLSTAT.TCLKLK = true → s.on CLK_PLLSTAT.CCLKLK = true → s.rgl.q ≠ 0 → s.rgl.q.natAbs < s.slewStep →
      ∃ t, exec .slewComplete s = .next t ∧ t.rgl.q = 0 ∧ t.on RGL_STAT.SLEWING = false ∧ t.rgl.edge = s.rgl.edge + 1 ∧
        t.rgl.time = ((s.rgl.time : Int) + s.rateStep + s.rgl.q).toNat) ∧
    (s.on CLK_PLLSTAT.TCLKLK = true → s.on CLK_PLLSTAT.CCLKLK = true → s.rgl.q = 0 →
      s.now / unitsPerSec < ((s.rgl.time : Int) + s.rateStep).toNat / 2 ^ 24 / unitsPerSec →
      ∃ t, exec .secondCarry s = .next t ∧ t.rgl.time = ((s.rgl.time : Int) + s.rateStep).toNat ∧ t.rgl.edge = s.rgl.edge + 1 ∧
        (s.get RGL_QUAL.STATE = 3 ∨ s.get RGL_QUAL.STATE = 4 → t.rgl.aonTime = t.now / unitsPerSec % 2 ^ 48 * 32768 ∧ t.on RGL_STAT.AONV = true) ∧
        (s.get RGL_QUAL.STATE < 3 → t.rgl.aonTime = s.rgl.aonTime)) ∧
    (s.get RGL_QUAL.STATE = 3 → s.get RGL_CTL.HOLDTO ≠ 0 → s.rgl.discEdge + s.get RGL_CTL.HOLDTO * 62500000 ≤ s.rgl.edge →
      ∃ t, exec .holdoverTimeout s = .next t ∧ t.get RGL_QUAL.STATE = 4 ∧ t.get RGL_QUAL.ACC = s.get RGL_QUAL.ACC ∧ t.now = s.now ∧ t.rgl.q = s.rgl.q) ∧
    (s.Takes o (RGL_PINCAL (s.get RGL_PINCAL_IDX.INDEX)) → s.get SEC_LCS.STATE = 2 → s.get RGL_PINCAL_IDX.INDEX < 0x77 →
      ∃ t, exec (.pincalWrite o v) s = .next t ∧ Answered o t 0 ∧ t.get (RGL_PINCAL.DLY (s.get RGL_PINCAL_IDX.INDEX)) = v.toNat % 4096 ∧
        OnlyRegs [RGL_PINCAL (s.get RGL_PINCAL_IDX.INDEX)] s t) ∧
    (s.Takes o (RGL_PINCAL 0) → s.get SEC_LCS.STATE = 2 → 0x77 ≤ s.get RGL_PINCAL_IDX.INDEX →
      ∃ t, exec (.pincalWrite o v) s = .next t ∧ Answered o t 0 ∧ OnlyRegs [] s t) ∧
    (s.Takes o (RGL_PINCAL 0) → s.get SEC_LCS.STATE ≠ 2 → ∃ t, exec (.pincalWrite o v) s = .next t ∧ Refused o s t)

namespace Sys2Proof.Machine

/-- A master may write the registers of Regulator alarm n (02 R97). -/
def State.MayAlarm (s : State) (o : Origin) (n : Nat) : Prop := s.ringOf o = some 2 → s.get (RGL_ALM_CTL.OWNER n) = 1

/-- Regulator alarm n fires late at an opening (02 R102, R111): its compare value had passed when it was armed, or a step passed over it. -/
def State.LateAlarm (s : State) (n : Nat) : Prop := (s.alarm n).compare ≤ (s.alarm n).armTime ∨ (s.alarm n).lateOpen = true

/-- Regulator alarm n is armed in a mode and cluster time has reached its compare value after the arming edge (02 R101). -/
def State.AlarmDue (s : State) (n mode : Nat) : Prop :=
  s.on (RGL_ALM_CTL.ARM n) = true ∧ s.get (RGL_ALM_CTL.MODE n) = mode ∧ (s.alarm n).armTime < s.now ∧ (s.alarm n).compare ≤ s.now

/-- Regulator alarm n, armed, fires at the present edge, so that the alarm's own write of ARM prevails over a write of 0 (00 R14, 02 R111): it
is due, has fired periodically, or closes its range. -/
def State.AlarmFires (s : State) (n : Nat) : Prop :=
  s.AlarmDue n 0 ∨ s.AlarmDue n 1 ∨ s.get (RGL_ALM_CTL.MODE n) = 1 ∧ (s.alarm n).firedEdge = some s.rgl.edge ∨
  s.AlarmDue n 2 ∧ ofTime96 (s.alarmCompare (n + 1)) ≤ s.now

end Sys2Proof.Machine

/-- 02 R97, R100 to R111, R959, R960: ALARM_ARM arms its alarm with the MODE written and the compare value held, sets WERR where the arming is
refused, and leaves an armed alarm armed; ALARM_DISARM clears ARM and OUT, but is lost at an edge at which the alarm fires; an even alarm in
periodic or range mode disarms its partner; a one-shot firing sets FIRED, clears ARM and registers
EV(112 + n); a periodic firing goes on to the first later multiple; a range alarm opens with OUT and closes with EV(113 + n). -/
def Obligations.AlarmCommands : Prop :=
  ∀ (o : Origin) (n : Fin 32) (v : Word) (s : State),
    (s.Takes o (RGL_ALM_CTL n) → ¬ s.MayAlarm o n → ∃ t, exec (.alarmArm n o v) s = .next t ∧ Refused o s t) ∧
    (s.Takes o (RGL_ALM_CTL n) → ¬ s.MayAlarm o n → ∃ t, exec (.alarmDisarm n o v) s = .next t ∧ Refused o s t) ∧
    (s.Takes o (RGL_ALM_CTL n) → s.MayAlarm o n → s.AlarmTakes n (v.toNat / 2 % 4) (s.alarmCompare n) →
      ∃ t, exec (.alarmArm n o v) s = .next t ∧ Answered o t 0 ∧ t.on (RGL_ALM_CTL.ARM n) = true ∧
        t.get (RGL_ALM_CTL.MODE n) = v.toNat / 2 % 4 ∧ (t.alarm n).compare = ofTime96 (s.alarmCompare n) ∧ (t.alarm n).armTime = s.now ∧
        t.get (RGL_ALM_CTL.OWNER n) = s.get (RGL_ALM_CTL.OWNER n) ∧
        (n.val % 2 = 0 → v.toNat / 2 % 4 ≠ 0 → t.on (RGL_ALM_CTL.ARM (n + 1)) = false)) ∧
    (s.Takes o (RGL_ALM_CTL n) → s.MayAlarm o n → s.on (RGL_ALM_CTL.ARM n) = false → ¬ s.AlarmTakes n (v.toNat / 2 % 4) (s.alarmCompare n) →
      ∃ t, exec (.alarmArm n o v) s = .next t ∧ Answered o t 0 ∧ t.on (RGL_ALM_CTL.ARM n) = false ∧ t.on (RGL_ALM_CTL.WERR n) = true ∧
        t.get (RGL_ALM_CTL.MODE n) = v.toNat / 2 % 4 ∧ OnlyRegs (alarmCtls n) s t) ∧
    (s.Takes o (RGL_ALM_CTL n) → s.MayAlarm o n → s.on (RGL_ALM_CTL.ARM n) = true →
      ∃ t, exec (.alarmArm n o v) s = .next t ∧ Answered o t 0 ∧ t.on (RGL_ALM_CTL.ARM n) = true ∧
        t.get (RGL_ALM_CTL.MODE n) = s.get (RGL_ALM_CTL.MODE n) ∧ OnlyRegs [RGL_ALM_CTL n] s t ∧
        (v.toNat / 2 % 4 ≠ s.get (RGL_ALM_CTL.MODE n) → t.on (RGL_ALM_CTL.WERR n) = true)) ∧
    (s.Takes o (RGL_ALM_CTL n) → s.MayAlarm o n → ¬ (s.on (RGL_ALM_CTL.ARM n) = true ∧ s.AlarmFires n) →
      ∃ t, exec (.alarmDisarm n o v) s = .next t ∧ Answered o t 0 ∧
      t.on (RGL_ALM_CTL.ARM n) = false ∧ t.get (RGL_ALM_CTL.MODE n) = v.toNat / 2 % 4 ∧ OnlyRegs (alarmCtls n) s t ∧
      (s.on (RGL_ALM_CTL.ARM n) = true → t.on (RGL_ALM_CTL.OUT n) = false)) ∧
    (s.Takes o (RGL_ALM_CTL n) → s.MayAlarm o n → s.on (RGL_ALM_CTL.ARM n) = true → s.AlarmFires n →
      ∃ t, exec (.alarmDisarm n o v) s = .next t ∧ Answered o t 0 ∧
      t.on (RGL_ALM_CTL.ARM n) = true ∧ t.get (RGL_ALM_CTL.MODE n) = s.get (RGL_ALM_CTL.MODE n) ∧ OnlyRegs [RGL_ALM_CTL n] s t) ∧
    (s.AlarmDue n 0 → ∃ t, exec (.alarmFire n) s = .next t ∧ t.on (RGL_ALM_CTL.ARM n) = false ∧ t.on (RGL_ALM_CTL.FIRED n) = true ∧
      t.linePending (112 + n) = true ∧ (t.on (RGL_ALM_CTL.LATE n) = true ↔ s.on (RGL_ALM_CTL.LATE n) = true ∨ s.LateAlarm n)) ∧
    (s.AlarmDue n 1 → 65536000 ≤ ofTime96 (s.alarmCompare (n + 1)) → ∃ t, exec (.alarmPeriodicFire n) s = .next t ∧ t.on (RGL_ALM_CTL.ARM n) = true ∧
      t.on (RGL_ALM_CTL.FIRED n) = true ∧ t.linePending (112 + n) = true ∧ s.now < (t.alarm n).compare ∧
      (t.alarm n).compare ≤ s.now + ofTime96 (s.alarmCompare (n + 1)) ∧
      (t.alarm n).compare % ofTime96 (s.alarmCompare (n + 1)) = (s.alarm n).compare % ofTime96 (s.alarmCompare (n + 1)) ∧
      (t.on (RGL_ALM_CTL.LATE n) = true ↔ s.on (RGL_ALM_CTL.LATE n) = true ∨ s.LateAlarm n ∨
        (s.alarm n).compare + ofTime96 (s.alarmCompare (n + 1)) ≤ s.now)) ∧
    (s.AlarmDue n 2 → (s.alarm n).opened = false → ∃ t, exec (.alarmRangeOpen n) s = .next t ∧ t.on (RGL_ALM_CTL.OUT n) = true ∧
      t.on (RGL_ALM_CTL.ARM n) = true ∧ t.on (RGL_ALM_CTL.FIRED n) = true ∧ t.linePending (112 + n) = true ∧
      (t.on (RGL_ALM_CTL.LATE n) = true ↔ s.on (RGL_ALM_CTL.LATE n) = true ∨ s.LateAlarm n)) ∧
    (s.AlarmDue n 2 → (s.alarm n).opened = true → ofTime96 (s.alarmCompare (n + 1)) ≤ s.now → ∃ t, exec (.alarmRangeClose n) s = .next t ∧
      t.on (RGL_ALM_CTL.OUT n) = false ∧ t.on (RGL_ALM_CTL.ARM n) = false ∧ t.on (RGL_ALM_CTL.FIRED n) = true ∧ t.linePending (113 + n) = true)

namespace Sys2Proof.Machine

/-- Every armed phase alarm of tracker n ends with ABORT (03 R142). -/
def TargetsAborted (n : Nat) (s t : State) : Prop :=
  ∀ m < 16, s.on (CDR_PALM_CTL.ARM m) = true → s.get (CDR_PALM_CTL.TRK m) = n →
    t.on (CDR_PALM_CTL.ARM m) = false ∧ t.on (CDR_PALM_CTL.ABORT m) = true

/-- The source of tracker n is lost (03 R124). -/
def State.SourceGone (s : State) (n : Nat) : Prop :=
  s.get (CDR_PT_SRC.KIND n) = 0 ∨
  s.get (CDR_PT_SRC.KIND n) = 1 ∧ max 1 (s.get (CDR_PT_SRC.GAP n)) * 250000 * 65536 < s.now - (s.tracker n).lastValid ∨
  s.get (CDR_PT_SRC.KIND n) = 2 ∧ (if s.get (CDR_PT_STAT.STATE n) = 1 then 100000000 * 65536 < s.now - (s.tracker n).lastValid
    else 3 * (unitsPerSec * 2 ^ 24) < 2 * (s.now - (s.tracker n).lastValid) * s.get (CDR_FREQ.FREQ n)) ∨
  s.get (CDR_PT_SRC.KIND n) = 3 ∧ 2 ≤ (s.tracker n).missed

/-- An edge of tracker n's source pin is accepted (03 R128, R129): a rising one, or with BOTH a falling one, stamped since the enable and not
taken before, that does not come less than half a period after the last accepted one of its polarity, at the frequency estimate or,
in ACQUIRE, at 75 Hz. -/
def State.TakesCrossing (s : State) (n : Nat) (rising : Bool) (u : Nat) : Prop :=
  s.get (CDR_PT_SRC.KIND n) = 2 ∧ s.get (CDR_PT_STAT.STATE n) ≠ 0 ∧ (rising = false → s.on (CDR_PT_SRC.BOTH n) = true) ∧
  s.trackerHasPin n (s.get (CDR_PT_SRC.PIN n)) = true ∧
  (if rising then (s.tracker n).seenRise else (s.tracker n).seenFall) < s.stampNo (pinInput (s.get (CDR_PT_SRC.PIN n))) rising ∧
  ∀ last, (if rising then (s.tracker n).lastRise else (s.tracker n).lastFall) = some last →
    (unitsPerSec * 2 ^ 24 : Int) ≤ ((u : Int) - last) * (if s.get (CDR_PT_STAT.STATE n) = 1 then 75 * 2 ^ 24 else s.get (CDR_FREQ.FREQ n) : Nat) * 2

/-- The update instant that the present edge applies (03 R131, R132): the first multiple of 250 µs not applied yet, at least 20 µs ago. -/
def State.UpdateDue (s : State) (n k : Nat) : Prop :=
  s.on CLK_PLLSTAT.TCLKLK = true ∧ s.on CLK_PLLSTAT.CCLKLK = true ∧ s.get (CDR_PT_STAT.STATE n) ≠ 0 ∧
  k = (s.tracker n).applied ∧ k * (250000 * 65536) + 20000 * 65536 ≤ s.now

end Sys2Proof.Machine

/-- 03 R123, R124, R128 to R135, R138 to R142, R167, R168: enabling leads from OFF to ACQUIRE, disabling to OFF with the phase frozen and every
target aborted, CYCLOAD loads CYC in OFF only; configuration is refused outside OFF; an accepted crossing adds an instant; an
estimate is applied at its instant by the size of its correction, and out of range ends LOCKED; source loss and the holdover limit
change the state; a capture read and a snapshot return what they latch. -/
def Obligations.TrackerCommands : Prop :=
  ∀ (o : Origin) (n : Fin 4) (v : Word) (k : Nat) (s : State),
    (s.Takes o (CDR_PT_CTL n) → ∃ t, exec (.trackerEnable n o v) s = .next t ∧ Answered o t 0 ∧ t.on (CDR_PT_CTL.EN n) = true ∧
      t.get (CDR_PT_STAT.STATE n) = max 1 (s.get (CDR_PT_STAT.STATE n))) ∧
    (s.Takes o (CDR_PT_CTL n) → ∃ t, exec (.trackerDisable n o v) s = .next t ∧ Answered o t 0 ∧ t.on (CDR_PT_CTL.EN n) = false ∧
      t.get (CDR_PT_STAT.STATE n) = 0 ∧ (s.get (CDR_PT_STAT.STATE n) ≠ 0 → t.phase n = s.phase n ∧ t.reg (CDR_FREQ n) = 0 ∧ t.reg (CDR_ROCOF n) = 0 ∧
        TargetsAborted n s t)) ∧
    (s.Takes o (CDR_PT_CTL n) → ∃ t, exec (.cycload n o v) s = .next t ∧ Answered o t 0 ∧
      (s.get (CDR_PT_STAT.STATE n) = 0 → t.phase n = s.get (CDR_PT_CYCINIT.CYC n) * 2 ^ 32 + s.phase n % 2 ^ 32) ∧
      (s.get (CDR_PT_STAT.STATE n) ≠ 0 → t.phase n = s.phase n)) ∧
    (s.Takes o (CDR_PT_CFG n) → s.get (CDR_PT_STAT.STATE n) ≠ 0 → ∃ t, exec (.trackerConfigWrite n true o v) s = .next t ∧ Refused o s t) ∧
    (s.Takes o (CDR_PT_SRC n) → s.get (CDR_PT_STAT.STATE n) ≠ 0 → ∃ t, exec (.trackerConfigWrite n false o v) s = .next t ∧ Refused o s t) ∧
    (s.Takes o (CDR_PT_CFG n) → s.get (CDR_PT_STAT.STATE n) = 0 → ∃ t, exec (.trackerConfigWrite n true o v) s = .next t ∧ Answered o t 0 ∧
      t.get (CDR_PT_CFG.HOLDLIM n) = v.toNat / 2 ^ 24 ∧ t.get (CDR_PT_CFG.LOSSACT n) = v.toNat / 2 ^ 16 % 2 ∧
      t.get (CDR_PT_CFG.JUMPK n) = max 9 (v.toNat / 2 ^ 12 % 16) ∧ t.get (CDR_PT_CFG.WIN n) = v.toNat / 2 ^ 8 % 4 ∧ OnlyRegs [CDR_PT_CFG n] s t) ∧
    (s.Takes o (CDR_PT_SRC n) → s.get (CDR_PT_STAT.STATE n) = 0 → v.toNat / 2 ^ 24 % 64 ≤ 47 →
      ∃ t, exec (.trackerConfigWrite n false o v) s = .next t ∧ Answered o t 0 ∧ t.get (CDR_PT_SRC.KIND n) = v.toNat / 2 ^ 30 ∧
        t.get (CDR_PT_SRC.PIN n) = v.toNat / 2 ^ 24 % 64 ∧ t.get (CDR_PT_SRC.GAP n) = v.toNat / 2 ^ 12 % 16 ∧ OnlyRegs [CDR_PT_SRC n] s t) ∧
    (∀ rising, s.TakesCrossing n rising (s.lessDelay n (ofTime96 (s.stampValue (pinInput (s.get (CDR_PT_SRC.PIN n))) rising))) →
      ∃ t, exec (.zeroCrossing n rising) s = .next t ∧ (t.tracker n).instants = (s.tracker n).instants ++
        [(s.lessDelay n (ofTime96 (s.stampValue (pinInput (s.get (CDR_PT_SRC.PIN n))) rising)), if rising then 0 else 2 ^ 31)] ∧
        ∀ p : Part, p ≠ .clockDrive → p.same s t) ∧
    (s.UpdateDue n k → ∃ t, exec (.estimateApplication n) s = .next t ∧ (t.tracker n).applied = k + 1 ∧
      (s.estimateFor n k = none → t.get (CDR_PT_STAT.STATE n) = s.get (CDR_PT_STAT.STATE n) ∧ t.phase n = s.phase n) ∧
      ∀ x, s.estimateFor n k = some x →
        (s.get (CDR_PT_STAT.STATE n) = 4 → t.get (CDR_PT_STAT.STATE n) = 1) ∧
        (x.inRange = false → t.on (CDR_PT_STAT.RANGE n) = true) ∧
        (s.get (CDR_PT_STAT.STATE n) = 2 → x.inRange = false → t.get (CDR_PT_STAT.STATE n) = if s.get (CDR_PT_CFG.HOLDLIM n) = 0 then 4 else 3) ∧
        (s.get (CDR_PT_STAT.STATE n) = 2 → x.inRange = true → t.get (CDR_PT_STAT.STATE n) = 2 ∧ (t.reg (CDR_FREQ n)).toNat = x.freq % 2 ^ 32 ∧
          ((s.correctionOf n x).natAbs ≤ s.jumpLimit n → t.finePhase n = s.finePhase n ∧ (t.tracker n).path.correction = s.correctionOf n x ∧
            (t.tracker n).path.half = false ∧ t.on (CDR_PT_STAT.CATCHUP n) = false) ∧
          (s.jumpLimit n < s.correctionOf n x → t.on (CDR_PT_STAT.PHJUMP n) = true ∧
            (t.finePhase n : Int) = (s.finePhase n + s.correctionOf n x) % 2 ^ 96) ∧
          (s.correctionOf n x < -(s.jumpLimit n : Int) → t.on (CDR_PT_STAT.PHJUMP n) = true ∧ t.on (CDR_PT_STAT.CATCHUP n) = true ∧
            t.finePhase n = s.finePhase n ∧ (t.tracker n).path.half = true))) ∧
    (s.on (CDR_PT_STAT.CATCHUP n) = true → ∀ x, (s.tracker n).estimate = some x → (s.correctionOf n x).natAbs ≤ s.jumpLimit n →
      ∃ t, exec (.catchupEnd n) s = .next t ∧ t.on (CDR_PT_STAT.CATCHUP n) = false ∧ t.finePhase n = s.finePhase n ∧
        (t.tracker n).path.half = false ∧ (t.tracker n).path.correction = s.correctionOf n x) ∧
    (s.SourceGone n → s.get (CDR_PT_STAT.STATE n) = 2 → ∃ t, exec (.trackerSourceLoss n) s = .next t ∧ t.on (CDR_PT_STAT.SRCLOSS n) = true ∧
      t.get (CDR_PT_STAT.STATE n) = (if s.get (CDR_PT_CFG.HOLDLIM n) = 0 then 4 else 3) ∧ t.finePhase n = s.finePhase n ∧
      t.reg (CDR_ROCOF n) = 0 ∧ t.reg (CDR_FREQ n) = s.reg (CDR_FREQ n) ∧ (s.on (CDR_PT_CFG.LOSSACT n) = true → TargetsAborted n s t)) ∧
    (s.SourceGone n → s.get (CDR_PT_STAT.STATE n) = 1 → ∃ t, exec (.trackerSourceLoss n) s = .next t ∧ t.on (CDR_PT_STAT.SRCLOSS n) = true ∧
      t.get (CDR_PT_STAT.STATE n) = 1 ∧ (t.tracker n).good = 0) ∧
    (s.SourceGone n → s.get (CDR_PT_STAT.STATE n) = 3 → (s.tracker n).lost = false → ∃ t, exec (.trackerSourceLoss n) s = .next t ∧
      t.on (CDR_PT_STAT.SRCLOSS n) = true ∧ t.get (CDR_PT_STAT.STATE n) = 3 ∧ t.finePhase n = s.finePhase n) ∧
    (s.get (CDR_PT_STAT.STATE n) = 3 → (s.tracker n).holdEdge + s.get (CDR_PT_CFG.HOLDLIM n) * 5000000 ≤ s.rgl.edge →
      ∃ t, exec (.holdoverLimit n) s = .next t ∧ t.get (CDR_PT_STAT.STATE n) = 4 ∧ t.finePhase n = s.finePhase n ∧
        (s.on (CDR_PT_CFG.LOSSACT n) = false → TargetsAborted n s t)) ∧
    (∀ same, s.hostError false (CDR_PCAP_CYC n) = false → ∃ t, exec (.pcapCycRead n same) s = .next t ∧ Answered .host t 0 ∧
      t.host.data = [s.reg (CDR_PCAP_CYC n)] ∧ t.on (CDR_PCAP_STAT.CAPTURED n) = (same && s.on (CDR_PCAP_STAT.CAPTURED n)) ∧
      OnlyRegs [CDR_PCAP_STAT n] s t) ∧
    (s.Takes o CDR_SNAP_CMD → ∃ t, exec (.cdrSnapshot o v) s = .next t ∧ Answered o t 0 ∧
      (∀ j < 4, (t.reg (CDR_CYCLE j)).toNat * 2 ^ 32 + (t.reg (CDR_PHASE j)).toNat = s.phase j % 2 ^ 64) ∧
      t.reg CDR_SNAP_T2 ++ t.reg CDR_SNAP_T1 ++ t.reg CDR_SNAP_T0 = s.now96 ∧
      t.get CDR_SNAP_CMD.SEQ = (s.get CDR_SNAP_CMD.SEQ + 1) % 256 ∧ ∀ p : Part, p ≠ .answers → p.same s t)

namespace Sys2Proof.Machine

/-- A master may write the registers of phase alarm m (03 R151). -/
def State.MayPhase (s : State) (o : Origin) (m : Nat) : Prop := s.ringOf o = some 2 → s.get (CDR_PALM_CTL.OWNER m) = 1

/-- An alarm in table mode that is armed uses table i (03 R163). -/
def State.UsesTable (s : State) (i : Nat) : Prop :=
  ∃ m, m < 16 ∧ s.on (CDR_PALM_CTL.ARM m) = true ∧ s.get (CDR_PALM_CTL.MODE m) = 2 ∧ s.get (CDR_PALM_CTL.TABLE m) = i

/-- Phase alarm m is armed in a mode, before the present edge, and its target has passed (03 R122, R145, R146). -/
def State.PhaseDue (s : State) (m mode : Nat) : Prop :=
  s.on (CDR_PALM_CTL.ARM m) = true ∧ s.get (CDR_PALM_CTL.MODE m) = mode ∧ (s.phaseTarget m).armEdge ≠ some s.rgl.edge ∧
  phaseDistance (s.phaseTarget m).target (s.phase (s.get (CDR_PALM_CTL.TRK m))) ≤ 0

/-- Phase alarm m, armed, fires at the present edge or has fired there, so that its own write of ARM prevails over a write of 0 (00 R14). -/
def State.PhaseFires (s : State) (m : Nat) : Prop :=
  s.on (CDR_PALM_CTL.ARM m) = true ∧
  (s.PhaseDue m 0 ∨ s.PhaseDue m 1 ∨ s.PhaseDue m 2 ∨ (s.phaseTarget m).firedEdge = some s.rgl.edge)

/-- The target that an arming of phase alarm m takes under a control word (03 R145, R159): CYC and FRAC, or in table mode the first entry of the
table, whole cycles after CYC. -/
def State.armTarget (s : State) (m : Nat) (v : Word) : Nat :=
  let i := 32 * (v.toNat / 2 ^ 13 % 8)
  if v.toNat / 2 % 4 = 2 then ((s.reg (CDR_PALM_CYC m)).toNat + s.get (CDR_EPH_HI.DCYC i)) % 2 ^ 32 * 2 ^ 32 + s.get (CDR_EPH_LO.FRAC i)
  else (s.reg (CDR_PALM_CYC m)).toNat * 2 ^ 32 + (s.reg (CDR_PALM_FRAC m)).toNat

/-- An arming of phase alarm m under a control word is accepted (03 R144, R147, R155): the tracker is locked, or in holdover with LOSSACT = 0,
the target lies within the horizon, the mode is not the reserved one and a period is long enough. -/
def State.ArmTakes (s : State) (m : Nat) (v : Word) : Prop :=
  let k := v.toNat / 2 ^ 11 % 4
  (s.get (CDR_PT_STAT.STATE k) = 2 ∨ s.get (CDR_PT_STAT.STATE k) = 3 ∧ s.on (CDR_PT_CFG.LOSSACT k) = false) ∧
  phaseDistance (s.armTarget m v) (s.phase k) ≤ 2 ^ 52 ∧ v.toNat / 2 % 4 ≠ 3 ∧ (v.toNat / 2 % 4 = 1 → 0x10000 ≤ s.get (CDR_PALM_PER.PER m))

/-- The first entry of the table that a control word names ends it (03 R162). -/
def State.ArmsBad (s : State) (v : Word) : Prop :=
  let i := 32 * (v.toNat / 2 ^ 13 % 8)
  v.toNat / 2 % 4 = 2 ∧ s.on (CDR_EPH_HI.VSTART i) = true ∧ s.get (CDR_EPH_HI.VGRP i) = 3

/-- The bit of CDR_EVSRC of phase alarm m is set and its event line is pending (03 R153, R170). -/
def PhaseEvent (m : Nat) (t : State) : Prop := (t.reg CDR_EVSRC).getLsbD m = true ∧ t.linePending (108 + m / 4) = true

end Sys2Proof.Machine

/-- 03 R144 to R147, R151, R154 to R163: PHASE_ALARM_ARM arms at the target that the registers give on the tracker and in the mode it writes, or
sets WERR, or TERR for a table that its first entry ends, and leaves an armed alarm armed; PHASE_ALARM_DISARM clears ARM, but is lost at an edge
at which the alarm fires, and leaves the tracker, table and mode of an armed alarm; a firing sets FIRED and the event source; a periodic alarm goes on to a later target; a table alarm reports its entry and goes on to the next; an entry of a table in
use is not written. -/
def Obligations.PhaseAlarmCommands : Prop :=
  ∀ (o : Origin) (m : Fin 16) (v : Word) (s : State),
    (s.Takes o (CDR_PALM_CTL m) → ¬ s.MayPhase o m → ∃ t, exec (.phaseAlarmArm m o v) s = .next t ∧ Refused o s t) ∧
    (s.Takes o (CDR_PALM_CTL m) → ¬ s.MayPhase o m → ∃ t, exec (.phaseAlarmDisarm m o v) s = .next t ∧ Refused o s t) ∧
    (s.Takes o (CDR_PALM_CTL m) → s.MayPhase o m → s.on (CDR_PALM_CTL.ARM m) = false → s.ArmTakes m v → ¬ s.ArmsBad v →
      ∃ t, exec (.phaseAlarmArm m o v) s = .next t ∧ Answered o t 0 ∧ t.on (CDR_PALM_CTL.ARM m) = true ∧
        t.get (CDR_PALM_CTL.TRK m) = v.toNat / 2 ^ 11 % 4 ∧ t.get (CDR_PALM_CTL.TABLE m) = v.toNat / 2 ^ 13 % 8 ∧
        t.get (CDR_PALM_CTL.MODE m) = v.toNat / 2 % 4 ∧ (t.phaseTarget m).target = s.armTarget m v ∧ (t.phaseTarget m).entry = 0 ∧
        ((t.phaseTarget m).late = true ↔ phaseDistance (s.armTarget m v) (s.phase (v.toNat / 2 ^ 11 % 4)) ≤ 0)) ∧
    (s.Takes o (CDR_PALM_CTL m) → s.MayPhase o m → s.on (CDR_PALM_CTL.ARM m) = false → s.ArmTakes m v → s.ArmsBad v →
      ∃ t, exec (.phaseAlarmArm m o v) s = .next t ∧ Answered o t 0 ∧ t.on (CDR_PALM_CTL.ARM m) = false ∧ t.on (CDR_PALM_CTL.TERR m) = true ∧
        PhaseEvent m t) ∧
    (s.Takes o (CDR_PALM_CTL m) → s.MayPhase o m → s.on (CDR_PALM_CTL.ARM m) = false → ¬ s.ArmTakes m v →
      ∃ t, exec (.phaseAlarmArm m o v) s = .next t ∧ Answered o t 0 ∧ t.on (CDR_PALM_CTL.ARM m) = false ∧
        t.on (CDR_PALM_CTL.WERR m) = true ∧ OnlyRegs [CDR_PALM_CTL m, CDR_STAT] s t) ∧
    (s.Takes o (CDR_PALM_CTL m) → s.MayPhase o m → s.on (CDR_PALM_CTL.ARM m) = true →
      ∃ t, exec (.phaseAlarmArm m o v) s = .next t ∧ Answered o t 0 ∧ t.on (CDR_PALM_CTL.ARM m) = true ∧ OnlyRegs [CDR_PALM_CTL m] s t ∧
        t.get (CDR_PALM_CTL.TRK m) = s.get (CDR_PALM_CTL.TRK m) ∧ t.get (CDR_PALM_CTL.TABLE m) = s.get (CDR_PALM_CTL.TABLE m) ∧
        t.get (CDR_PALM_CTL.MODE m) = s.get (CDR_PALM_CTL.MODE m) ∧
        (v.toNat / 2 ^ 11 % 32 ≠ s.get (CDR_PALM_CTL.TABLE m) * 4 + s.get (CDR_PALM_CTL.TRK m) ∨ v.toNat / 2 % 4 ≠ s.get (CDR_PALM_CTL.MODE m) →
          t.on (CDR_PALM_CTL.WERR m) = true)) ∧
    (s.Takes o (CDR_PALM_CTL m) → s.MayPhase o m → ∃ t, exec (.phaseAlarmDisarm m o v) s = .next t ∧ Answered o t 0 ∧
      (t.on (CDR_PALM_CTL.ARM m) = true ↔ s.PhaseFires m) ∧ OnlyRegs [CDR_PALM_CTL m] s t ∧ (s.on (CDR_PALM_CTL.ARM m) = true →
        t.get (CDR_PALM_CTL.TRK m) = s.get (CDR_PALM_CTL.TRK m) ∧ t.get (CDR_PALM_CTL.TABLE m) = s.get (CDR_PALM_CTL.TABLE m) ∧
        t.get (CDR_PALM_CTL.MODE m) = s.get (CDR_PALM_CTL.MODE m))) ∧
    (s.PhaseDue m 0 → ∃ t, exec (.phaseAlarmFire m) s = .next t ∧ t.on (CDR_PALM_CTL.FIRED m) = true ∧ t.on (CDR_PALM_CTL.ARM m) = false ∧
      PhaseEvent m t ∧ t.on (CDR_PALM_CTL.LATE m) = (s.on (CDR_PALM_CTL.LATE m) || (s.phaseTarget m).late)) ∧
    (s.PhaseDue m 1 → 0x10000 ≤ s.get (CDR_PALM_PER.PER m) → ∃ t, exec (.phaseAlarmPeriodicFire m) s = .next t ∧ t.on (CDR_PALM_CTL.FIRED m) = true ∧
      t.on (CDR_PALM_CTL.ARM m) = true ∧ PhaseEvent m t ∧
      0 < phaseDistance (t.phaseTarget m).target (s.phase (s.get (CDR_PALM_CTL.TRK m))) ∧
      phaseDistance (t.phaseTarget m).target (s.phase (s.get (CDR_PALM_CTL.TRK m))) ≤ s.get (CDR_PALM_PER.PER m) * 256 ∧
      (phaseDistance (s.phaseTarget m).target (s.phase (s.get (CDR_PALM_CTL.TRK m))) ≤ -(s.get (CDR_PALM_PER.PER m) * 256 : Nat) →
        t.on (CDR_PALM_CTL.LATE m) = true)) ∧
    (s.PhaseDue m 2 →
      let e := (s.phaseTarget m).entry
      let i := 32 * s.get (CDR_PALM_CTL.TABLE m) + e
      let last := s.on (CDR_EPH_HI.LAST i) = true ∧ s.on (CDR_EPH_HI.LOOP i) = false ∨ s.on (CDR_EPH_HI.LAST i) = false ∧ e = 31
      let next := if s.on (CDR_EPH_HI.LAST i) then i - e else i + 1
      let target := ((s.phaseTarget m).target / 2 ^ 32 + s.get (CDR_EPH_HI.DCYC next)) % 2 ^ 32 * 2 ^ 32 + s.get (CDR_EPH_LO.FRAC next)
      let bad := phaseDistance target (s.phaseTarget m).target ≤ 0 ∨ s.on (CDR_EPH_HI.VSTART next) = true ∧ s.get (CDR_EPH_HI.VGRP next) = 3
      ∃ t, exec (.ephemerisEntryFire m) s = .next t ∧ t.on (CDR_PALM_CTL.FIRED m) = true ∧ t.get (CDR_PALM_CTL.ENTRY m) = e % 32 ∧
        (s.on (CDR_EPH_HI.EVENT i) = true → PhaseEvent m t) ∧
        (last → t.on (CDR_PALM_CTL.ARM m) = false ∧ t.on (CDR_PALM_CTL.TERR m) = s.on (CDR_PALM_CTL.TERR m)) ∧
        (¬ last → bad → t.on (CDR_PALM_CTL.ARM m) = false ∧ t.on (CDR_PALM_CTL.TERR m) = true) ∧
        (¬ last → ¬ bad → t.on (CDR_PALM_CTL.ARM m) = true ∧ (t.phaseTarget m).target = target ∧ (t.phaseTarget m).entry = next % 32)) ∧
    (s.Takes o (CDR_EPH_HI (s.get CDR_EPH_IDX.INDEX)) →
      let i := s.get CDR_EPH_IDX.INDEX
      let held := s.UsesTable (i / 32) ∨ s.ringOf o = some 2 ∧ (s.reg CDR_EPH_OWN).getLsbD (i / 32) = false
      (held → ∃ t, exec (.ephemerisEntryWrite o v) s = .next t ∧ Answered o t 2 ∧ t.on CDR_STAT.EPHBUSY = true ∧ OnlyRegs [CDR_STAT] s t) ∧
      (¬ held → ∃ t, exec (.ephemerisEntryWrite o v) s = .next t ∧ Answered o t 0 ∧ t.reg (CDR_EPH_HI i) &&& 0x030FFFFF = v &&& 0x030FFFFF ∧
        t.reg (CDR_EPH_LO i) = s.ephHold ∧ OnlyRegs [CDR_EPH_HI i, CDR_EPH_LO i] s t))

namespace Sys2Proof.Machine

/-- Timer n of engine e counts on its own: it is neither half of a pair (07 R374). -/
def State.SingleTimer (s : State) (e n : Nat) : Prop := s.timerPaired e n = false ∧ s.timerHigh e n = false

/-- The count of a running timer after the count boundaries that have come, none of which wraps or matches (07 R355, R356); TMR_CNT of a
timer that does not run. -/
def State.countNow (s : State) (e n : Nat) : Word :=
  if s.on (TMR_CTL.STALE e n) then BitVec.ofNat 32 ((s.timer e n).count - s.timerDue e n) else s.reg (TMR_CNT e n)

/-- The captured edge of a timer's pin is a stamped one, not captured before, that its CEDGE selects (07 R382). -/
def State.Captures (s : State) (e n : Nat) (rising : Bool) : Prop :=
  s.SingleTimer e n ∧ s.on (TMR_IO.IEN e n) = true ∧ (s.reg (TMR_CTL e n)).getLsbD (if rising then 10 else 11) = true ∧ s.freshEdge e n rising = true

/-- The count boundaries that came before the present edge, which is no count boundary of a timer that stops there (07 R359). -/
def State.dueBefore (s : State) (e n : Nat) : Nat := s.timerDueAt e n (s.timerBefore e n)

/-- The ball stamp that timer n of engine e captures. -/
def State.ballStamp (s : State) (e n : Nat) (rising : Bool) : Nat := ofTime96 (s.stampValue (pinInput (s.get (TMR_IO.IPIN e n))) rising)

/-- Timer n of engine e has not yet registered an event for the TCLK edge of its next match or wrap (07 R361). -/
def State.NewEvent (s : State) (e n : Nat) : Prop := (s.timer e n).eventEdge ≠ some (s.boundaryEdge e n (s.nextHappening e n))

/-- Of the parts of the state only the answers and the timers, and of the timers only which edges timer n of engine e has seen, change, and no
register but those of a list. -/
structure OnlyTimer (e n : Nat) (ks : List Nat) (s t : State) : Prop where
  parts : ∀ p : Part, p ≠ .answers → p ≠ .timers → p.same s t
  regs : ∀ k, k ∉ LOG_LOST :: ks → t.reg k = s.reg k
  own : t.timer e n = { s.timer e n with seenRise := (t.timer e n).seenRise, seenFall := (t.timer e n).seenFall }
  others : ∀ e' n', n' < 4 → (e', n') ≠ (e, n) → t.timer e' n' = s.timer e' n'
  watchdogs : t.watchdogs = s.watchdogs

/-- Bit b of TMR_CTLn after a write of v without SCAP and PDIS (07 R360, R403): the W1C flags clear; from ring 2 nothing else changes; EVSEL,
CEDGE, FRZ and EN are written, and while EN is 0 the other fields too, but for a reserved START and the LINK of an odd timer. -/
def timerCtlBit (n b : Nat) (full en old : Bool) (v : Word) : Bool :=
  if b = 23 ∨ b = 24 ∨ b = 27 ∨ b = 28 ∨ b = 29 ∨ b = 30 then old && !v.getLsbD b
  else if full ∧ (b = 0 ∨ b = 8 ∨ b = 10 ∨ b = 11 ∨ b = 16 ∨ b = 17 ∨ b = 18) then v.getLsbD b
  else if full ∧ en = false ∧ (b = 1 ∨ b = 2 ∨ b = 3 ∧ n % 2 = 0 ∨ (b = 4 ∨ b = 5) ∧ v.toNat / 16 % 4 < 2 ∨ b = 9 ∨ 12 ≤ b ∧ b ≤ 15)
    then v.getLsbD b
  else old

/-- The capture register of a polarity, its CAPTURED flag and its overrun flag. -/
def capReg (e n : Nat) (rising : Bool) : Nat := if rising then TMR_CAPR e n else TMR_CAPF e n
def capFlag (e n : Nat) (rising : Bool) : BitRange := if rising then TMR_CTL.CAPTR e n else TMR_CTL.CAPTF e n
def capOver (e n : Nat) (rising : Bool) : BitRange := if rising then TMR_CTL.OVRR e n else TMR_CTL.OVRF e n

end Sys2Proof.Machine

/-- 07 R353 to R360, R365 to R369, R379 to R388, R394 to R396, R399, R403: a timer starts from TMR_CNT and TMR_CMP, wraps to its reload value
or stops with ONE, matches its compare, and stops with its count in TMR_CNT; a phase-mode compare fires once and PDIS disarms it;
captures and their reads handle CAPTURED and overrun; writes keep what R360, R381 and R403 keep; a kick restarts the watchdog and a
wrong one, or the end of the period, is an expiry. -/
def Obligations.TimerCommands : Prop :=
  ∀ (o : Origin) (e : Fin 12) (n : Fin 4) (v : Word) (s : State),
    (s.SingleTimer e n → s.on CLK_PLLSTAT.TCLKLK = true → s.on CLK_PLLSTAT.CCLKLK = true → s.on (TMR_CTL.EN e n) = true →
      s.on (TMR_CTL.STALE e n) = false → s.get (TMR_CTL.START e n) = 0 → ∃ t, exec (.timerStart e n) s = .next t ∧
        t.on (TMR_CTL.STALE e n) = true ∧ (t.timer e n).count = s.get (TMR_CNT.CNT e n) ∧ (t.timer e n).compare = s.get (TMR_CMP.CMP e n) ∧
        t.timerDue e n = 0 ∧ (∀ p : Part, p ≠ .timers → p.same s t) ∧ ∀ k, k ∉ [TMR_CTL e n] → t.reg k = s.reg k) ∧
    (s.SingleTimer e n → s.on (TMR_CTL.EN e n) = true → s.on (TMR_CTL.STALE e n) = true → (s.timer e n).count < s.timerDue e n →
      (s.timer e n).count ≤ (s.timer e n).compare ∨ s.on (TMR_CTL.PARMED e n) = true → ∃ t, exec (.timerWrap e n) s = .next t ∧
        t.on (TMR_CTL.WRAPF e n) = true ∧ (t.timer e n).done = (s.timer e n).done + (s.timer e n).count + 1 ∧
        (s.on (TMR_CTL.ONE e n) = true → t.on (TMR_CTL.EN e n) = false ∧ t.on (TMR_CTL.STALE e n) = false ∧ t.reg (TMR_CNT e n) = 0 ∧
          (t.timer e n).count = 0) ∧
        (s.on (TMR_CTL.ONE e n) = false → t.on (TMR_CTL.EN e n) = true ∧ (t.timer e n).count = s.get (TMR_RELOAD.RELOAD e n) ∧
          (t.timer e n).compare = s.get (TMR_CMP.CMP e n)) ∧
        (s.NewEvent e n → (s.reg (TMR_CTL e n)).getLsbD 17 = true → t.linePending (144 + 4 * e + n) = true)) ∧
    (s.SingleTimer e n → s.on (TMR_CTL.EN e n) = true → s.on (TMR_CTL.STALE e n) = true → (s.timer e n).compare < (s.timer e n).count →
      (s.timer e n).count - (s.timer e n).compare ≤ s.timerDue e n → s.on (TMR_CTL.PARMED e n) = false →
      ∃ t, exec (.timerCompareMatch e n) s = .next t ∧ t.on (TMR_CTL.CMPF e n) = true ∧ t.on (TMR_CTL.WRAPF e n) = s.on (TMR_CTL.WRAPF e n) ∧
        (t.timer e n).count = (s.timer e n).compare ∧ (t.timer e n).compare = (s.timer e n).compare ∧
        (s.NewEvent e n → (s.reg (TMR_CTL e n)).getLsbD 16 = true → t.linePending (144 + 4 * e + n) = true)) ∧
    (s.SingleTimer e n → s.on (TMR_CTL.EN e n) = false → s.on (TMR_CTL.STALE e n) = true → s.dueBefore e n < s.nextHappening e n →
      ∃ t, exec (.timerStop e n) s = .next t ∧ t.reg (TMR_CNT e n) = BitVec.ofNat 32 ((s.timer e n).count - s.dueBefore e n) ∧ t.on (TMR_CTL.CNTSRC e n) = false ∧
        t.on (TMR_CTL.STALE e n) = false ∧ t.on (TMR_CTL.WRAPF e n) = s.on (TMR_CTL.WRAPF e n) ∧ t.on (TMR_CTL.CMPF e n) = s.on (TMR_CTL.CMPF e n) ∧
        ∀ p : Part, p ≠ .timers → p.same s t) ∧
    (s.on (TMR_CTL.PARMED e n) = true → s.timerFrozen e n = false → phaseDistance (s.timer e n).target (s.phase (s.timer e n).tracker) ≤ 0 →
      ∃ t, exec (.phaseModeCompareFire e n) s = .next t ∧ t.on (TMR_CTL.PARMED e n) = false ∧ t.on (TMR_CTL.CMPF e n) = true ∧
        t.on (TMR_CTL.LATE e n) = (s.on (TMR_CTL.LATE e n) || (s.timer e n).late) ∧
        ((s.timer e n).eventEdge ≠ some s.rgl.edge → s.timerDue e (s.timerLead e n) < s.nextHappening e (s.timerLead e n) →
          (s.reg (TMR_CTL e n)).getLsbD 16 = true → t.linePending (144 + 4 * e + n) = true)) ∧
    (s.Takes o (TMR_CTL e n) → ∃ t, exec (.pdis e n o v) s = .next t ∧ Answered o t 0 ∧
      t.on (TMR_CTL.PARMED e n) = (s.on (TMR_CTL.PARMED e n) && (decide (s.ringOf o = some 2) || s.timerParmDue e n))) ∧
    (s.Takes o (TMR_CTL e n) → s.SingleTimer e n → s.on (TMR_CTL.EN e n) = true ∨ s.ringOf o = some 2 → s.get (ENG_STAT.STATE e) ≠ 3 →
      s.timerDue e n < s.nextHappening e n → ∃ t, exec (.scap e n o v) s = .next t ∧ Answered o t 0 ∧ t.on (TMR_CTL.CNTSRC e n) = true ∧
        t.reg (TMR_CNT e n) = s.countNow e n ∧ t.timerCount e n = s.timerCount e n) ∧
    (s.Takes o (TMR_CTL e n) → s.SingleTimer e n → s.on (TMR_CTL.STALE e n) = false → ∃ t, exec (.scap e n o v) s = .next t ∧ Answered o t 0 ∧
      t.on (TMR_CTL.CNTSRC e n) = true ∧ t.reg (TMR_CNT e n) = s.reg (TMR_CNT e n)) ∧
    (∀ rising, ∀ read, s.Captures e n rising → (s.on (TMR_CTL.CFMT e n) = false → s.timerDue e n < s.nextHappening e n ∧
        s.timerDueAt e n (s.stampIndex e n (s.ballStamp e n rising)) < s.nextHappening e n) →
      ∃ t, exec (.edgeCapture e n rising read) s = .next t ∧ t.on (capFlag e n rising) = true ∧
        t.on (capOver e n rising) = (s.on (capOver e n rising) || (s.on (capFlag e n rising) && !read.1)) ∧
        t.reg (capReg e n rising) = (if s.on (TMR_CTL.CFMT e n)
          then BitVec.ofNat 32 (s.ballStamp e n rising / 4096) else BitVec.ofNat 32 (s.countAt e n (s.ballStamp e n rising))) ∧
        (s.timerDue e n < s.nextHappening e n → (s.timer e n).eventEdge ≠ some s.rgl.edge → (s.reg (TMR_CTL e n)).getLsbD 18 = true → t.linePending (144 + 4 * e + n) = true)) ∧
    (∀ rising, ∀ same, s.hostError false (capReg e n rising) = false → ∃ t, exec (.captureRead e n rising same) s = .next t ∧ Answered .host t 0 ∧
      t.host.data = [s.reg (capReg e n rising)] ∧ t.on (capFlag e n rising) = (same && s.on (capFlag e n rising)) ∧ OnlyRegs [TMR_CTL e n] s t) ∧
    (s.Takes o (TMR_CNT e n) → s.on (TMR_CTL.EN e (s.timerLead e n)) = true → ∃ t, exec (.tmrCntWrite e n o v) s = .next t ∧ Refused o s t) ∧
    (s.Takes o (TMR_CNT e n) → s.on (TMR_CTL.EN e (s.timerLead e n)) = false → ∃ t, exec (.tmrCntWrite e n o v) s = .next t ∧ Answered o t 0 ∧
      t.reg (TMR_CNT e n) = v ∧ t.on (TMR_CTL.CNTSRC e n) = false ∧ OnlyRegs [TMR_CNT e n, TMR_CTL e n] s t) ∧
    (s.Takes o (TMR_CTL e n) → s.get (ENG_STAT.STATE e) ≠ 3 ∨ s.ringOf o = some 2 ∨ v.getLsbD 8 = s.on (TMR_CTL.FRZ e n) →
      v.getLsbD 19 = false → v.getLsbD 20 = false →
      ∃ t, exec (.tmrCtlWrite e n o v) s = .next t ∧ Answered o t 0 ∧ OnlyTimer e n [TMR_CTL e n] s t ∧
        ∀ b < 32, (t.reg (TMR_CTL e n)).getLsbD b =
          timerCtlBit n b (decide (s.ringOf o ≠ some 2)) (s.on (TMR_CTL.EN e n)) ((s.reg (TMR_CTL e n)).getLsbD b) v) ∧
    (s.Takes o (TMR_WDKICK e) → ∃ t, exec (.watchdogKick e o v) s = .next t ∧ Answered o t 0 ∧ t.watchdogElapsed e = 0 ∧
      (v = 0xC3A5 → t.reg (TMR_WDCTL e) = s.reg (TMR_WDCTL e)) ∧
      (v ≠ 0xC3A5 → t.on (TMR_WDCTL.EXP e) = true ∧ (t.watchdog e).expired = true)) ∧
    (s.watchdogCounts e = true → 125 * (s.watchdog e).period ≤ s.watchdogElapsed e + 100 → ∃ t, exec (.watchdogExpiry e) s = .next t ∧
      t.on (TMR_WDCTL.EXP e) = true ∧ (t.watchdog e).expired = true ∧ t.watchdogElapsed e = 0 ∧ t.get (TMR_WDCTL.ECNT e) = min 255 (s.get (TMR_WDCTL.ECNT e) + 1) ∧
      ∀ p : Part, p ≠ .timers → p.same s t)

namespace Sys2Proof.Machine

/-- Vernier v begins instruction w at its next step edge (12 R642): it runs, its clock runs, no halt waits for the edge, no steps of an
earlier instruction are left, and w stands at its next address. -/
def State.Begins (s : State) (v op : Nat) (w : BitVec 16) : Prop :=
  s.ifcOn = true ∧ s.on CLK_PLLSTAT.TCLKLK = true ∧ s.on CLK_PLLSTAT.CCLKLK = true ∧ s.vernierHalts.testBit v = false ∧
  s.get (VRN_STAT.STATE v) = 1 ∧ (s.vernier v).left = 0 ∧ w = (s.reg (VRN_IMEM v (s.vernier v).next)).setWidth 16 ∧ w.toNat / 4096 = op

/-- Vernier v runs on after the instruction at its old next address: the instruction occupies n steps, and without a repeat frame the next
one is at the next address modulo 32 (12 R642). -/
def RunsOn (v n : Nat) (s t : State) : Prop :=
  t.get (VRN_STAT.STATE v) = 1 ∧ t.get (VRN_STAT.PC v) = (s.vernier v).next % 32 ∧ (t.vernier v).left = n - 1 ∧
  ((s.vernier v).frame = none → (t.vernier v).next = ((s.vernier v).next + 1) % 32)

/-- Slot i of Vernier v is enabled and has its pin (12 R632, R659). -/
def State.slotDrives (s : State) (v i : Nat) : Bool :=
  (s.reg (VRN_PINS v)).getLsbD (7 * i + 6) && s.get (FLD_CFG.FUNC (s.slotPin v i)) == 2 && s.get (FLD_CFG.OWNER (s.slotPin v i)) == v

/-- The fields of an instruction word. -/
def insnBits (w : BitVec 16) (hi lo : Nat) : Nat := w.toNat / 2 ^ lo % 2 ^ (hi + 1 - lo)

end Sys2Proof.Machine

/-- 12 R637 to R641, R655 to R657: START starts a stopped Vernier at its ENTRY and makes a running one take its new clock; STOP stops it; a group
start reaches exactly the joined Verniers of the groups named; an instruction word is written whatever the Vernier does, from ring 1
only in DEVELOP. -/
def Sys2Proof.Machine.VernierWritesHold : Prop :=
  ∀ (o : Origin) (v : Fin 24) (i : Fin 32) (w : Word) (s : State),
    (s.Takes o (VRN_CTL v) → w.getLsbD 2 = false → ∃ t, exec (.vrnCtlStart v o w) s = .next t ∧ Answered o t 0 ∧
      (s.get (VRN_STAT.STATE v) = 0 ∨ s.get (VRN_STAT.STATE v) = 4 → t.get (VRN_STAT.STATE v) = 1 ∧
        t.get (VRN_STAT.PC v) = t.get (VRN_CTL.ENTRY v) ∧ (t.vernier v).next = t.get (VRN_CTL.ENTRY v) ∧ t.get (VRN_STAT.ELAT v) = 0 ∧
        (t.vernier v).left = 0 ∧ (t.vernier v).frame = none ∧ (t.vernier v).clock = s.reg (VRN_CLK v)) ∧
      (s.get (VRN_STAT.STATE v) = 1 → t.get (VRN_STAT.STATE v) = 1 ∧ (t.vernier v).next = (s.vernier v).next ∧
        (t.vernier v).clock = s.reg (VRN_CLK v)) ∧
      (s.get (VRN_STAT.STATE v) = 3 → t.get (VRN_STAT.STATE v) = 3 ∧ t.vernier v = s.vernier v)) ∧
    (s.Takes o (VRN_CTL v) → w.getLsbD 3 = false → ∃ t, exec (.vrnCtlStop v o w) s = .next t ∧ Answered o t 0 ∧
      t.get (VRN_STAT.STATE v) = (if s.get (VRN_STAT.STATE v) = 1 ∨ s.get (VRN_STAT.STATE v) = 2 then 0 else s.get (VRN_STAT.STATE v)) ∧
      (t.vernier v).drive = (s.vernier v).drive ∧ (t.vernier v).enable = (s.vernier v).enable) ∧
    (s.Takes o VRN_GSTART → ∃ t, exec (.groupStart o w) s = .next t ∧ Answered o t 0 ∧ ∀ u < 24,
      let joins := w.getLsbD (u / 8) && s.on (VRN_CTL.GJOIN u)
      (joins = false → t.reg (VRN_STAT u) = s.reg (VRN_STAT u) ∧ t.vernier u = s.vernier u) ∧
      (joins = true → s.get (VRN_STAT.STATE u) = 0 → t.get (VRN_STAT.STATE u) = 1 ∧ t.get (VRN_STAT.PC u) = s.get (VRN_CTL.ENTRY u)) ∧
      (joins = true → s.get (VRN_STAT.STATE u) = 4 → t.get (VRN_STAT.STATE u) = 4)) ∧
    (s.Takes o (VRN_IMEM v i) → s.ringOf o = some 1 → s.get SEC_LCS.STATE ≠ 2 → ∃ t, exec (.vrnImemWrite v i o w) s = .next t ∧ Refused o s t) ∧
    (s.Takes o (VRN_IMEM v i) → s.ringOf o ≠ some 1 ∨ s.get SEC_LCS.STATE = 2 → ∃ t, exec (.vrnImemWrite v i o w) s = .next t ∧ Answered o t 0 ∧
      (t.reg (VRN_IMEM v i)).setWidth 16 = w.setWidth 16 ∧ OnlyRegs [VRN_IMEM v i] s t)

/-- 12 R642 to R648, R650, R652, R658, R659: each instruction that a running Vernier begins occupies its steps and has its effect on the
shift registers, tallies, holding registers, slots, flags and repeat frame; a wait whose condition fails stalls; a reserved word
stops the Vernier with ILL. -/
def Sys2Proof.Machine.VernierRowsHold : Prop :=
  ∀ (v : Fin 24) (w : BitVec 16) (s : State),
    let x := s.vernier v
    let esr := s.reg (VRN_OSR v)
    let gsr := s.reg (VRN_ISR v)
    let tally := fun u : Nat => if u = 0 then s.get (VRN_CNT.TA v) else s.get (VRN_CNT.TB v)
    (s.Begins v 0 w → ∃ t, exec (.idle v) s = .next t ∧ (∀ k, k ∉ [VRN_STAT v] → t.reg k = s.reg k) ∧
      RunsOn v ((if insnBits w 11 11 = 0 then insnBits w 9 0 else tally (insnBits w 10 10)) + 1) s t) ∧
    (s.Begins v 1 w → ∃ t, exec (.setp v) s = .next t ∧ RunsOn v (insnBits w 3 0 + 1) s t ∧ ∀ i < 4,
      (t.vernier v).drive.testBit i = (if w.getLsbD (8 + i) && s.slotDrives v i then w.getLsbD (4 + i) else x.drive.testBit i)) ∧
    (s.Begins v 2 w → ∃ t, exec (.sete v) s = .next t ∧ RunsOn v (insnBits w 3 0 + 1) s t ∧ ∀ i < 4,
      (t.vernier v).enable.testBit i = (if w.getLsbD (8 + i) && s.slotDrives v i then w.getLsbD (4 + i) else x.enable.testBit i)) ∧
    (s.Begins v 3 w → ∃ t, exec (.emit v) s = .next t ∧ RunsOn v ((insnBits w 9 5 + 1) * (insnBits w 4 0 + 1)) s t ∧ t.reg (VRN_OSR v) = esr >>> 1 ∧
      (s.slotDrives v (insnBits w 11 10) = true → (t.vernier v).drive.testBit (insnBits w 11 10) = esr.getLsbD 0)) ∧
    (s.Begins v 4 w → ∃ t, exec (.gather v) s = .next t ∧ RunsOn v ((insnBits w 9 5 + 1) * (insnBits w 4 0 + 1)) s t ∧
      t.reg (VRN_ISR v) = (gsr >>> 1) ||| (if (s.reg (VRN_PINS v)).getLsbD (7 * insnBits w 11 10 + 6) && s.pinLevel (s.slotPin v (insnBits w 11 10))
        then 0x80000000 else 0)) ∧
    (s.Begins v 5 w → insnBits w 10 0 = 0 → ∃ t, exec (.vernierLoad v) s = .next t ∧
      (s.on (VRN_STAT.TXF v) = true → RunsOn v 1 s t ∧ t.reg (VRN_OSR v) = x.txh ∧ t.on (VRN_STAT.TXF v) = false) ∧
      (s.on (VRN_STAT.TXF v) = false → t.reg (VRN_OSR v) = esr ∧ (insnBits w 11 11 = 1 → t.get (VRN_STAT.STATE v) = 2) ∧
        (insnBits w 11 11 = 0 → RunsOn v 1 s t))) ∧
    (s.Begins v 6 w → insnBits w 10 0 = 0 → ∃ t, exec (.post v) s = .next t ∧ t.on (VRN_STAT.RXF v) = true ∧
      (s.on (VRN_STAT.RXF v) = false → RunsOn v 1 s t ∧ (t.vernier v).rxh = gsr ∧ t.reg (VRN_ISR v) = 0) ∧
      (s.on (VRN_STAT.RXF v) = true → (t.vernier v).rxh = x.rxh ∧
        (insnBits w 11 11 = 1 → t.get (VRN_STAT.STATE v) = 2 ∧ t.reg (VRN_ISR v) = gsr) ∧
        (insnBits w 11 11 = 0 → RunsOn v 1 s t ∧ t.reg (VRN_ISR v) = 0 ∧ t.on (VRN_STAT.RXOVR v) = true))) ∧
    (s.Begins v 7 w → insnBits w 11 10 < 2 ∨ insnBits w 11 10 = 2 ∧ insnBits w 9 0 = 0 ∨ insnBits w 11 10 = 3 ∧ insnBits w 8 0 = 0 →
      ∃ t, exec (.tally v) s = .next t ∧ RunsOn v 1 s t ∧
        t.get (VRN_CNT.TA v) = (if insnBits w 11 10 = 0 then insnBits w 9 0 else if insnBits w 11 10 = 2 then esr.toNat % 2 ^ 16
          else if insnBits w 11 10 = 3 ∧ insnBits w 9 9 = 0 then tally 0 - 1 else tally 0) ∧
        t.get (VRN_CNT.TB v) = (if insnBits w 11 10 = 1 then insnBits w 9 0 else if insnBits w 11 10 = 2 then esr.toNat / 2 ^ 16
          else if insnBits w 11 10 = 3 ∧ insnBits w 9 9 = 1 then tally 1 - 1 else tally 1)) ∧
    (s.Begins v 8 w → insnBits w 7 5 = 0 → ∃ t, exec (.vernierBr v) s = .next t ∧ t.get (VRN_STAT.STATE v) = 1 ∧
      t.get (VRN_STAT.PC v) = x.next % 32 ∧ t.reg (VRN_CNT v) = s.reg (VRN_CNT v) ∧
      (s.branchHolds v (insnBits w 11 8) = true → (t.vernier v).next = insnBits w 4 0) ∧
      (s.branchHolds v (insnBits w 11 8) = false → RunsOn v 1 s t)) ∧
    (s.Begins v 9 w → insnBits w 5 0 = 0 → insnBits w 11 10 = 0 → insnBits w 8 6 ≤ 3 → ∃ t, exec (.vernierWait v) s = .next t ∧
      let held := ((s.reg (VRN_PINS v)).getLsbD (7 * insnBits w 8 6 + 6) && s.pinLevel (s.slotPin v (insnBits w 8 6))) == w.getLsbD 9
      (held = true → RunsOn v 1 s t) ∧ (held = false → t.get (VRN_STAT.STATE v) = 2)) ∧
    (s.Begins v 0xA w → insnBits w 8 0 = 0 → ∃ t, exec (.stmp v) s = .next t ∧ RunsOn v 1 s t ∧ t.reg (VRN_ISR v) = s.stmpValue v w) ∧
    (s.Begins v 0xB w → insnBits w 10 9 = 0 → x.flagEdge ≠ s.rgl.edge → ∃ t, exec (.flg v) s = .next t ∧ RunsOn v 1 s t ∧
      (∀ b < 8, (t.get (VRN_STAT.FLAGS v)).testBit b = (if w.getLsbD b then w.getLsbD 11 else (s.get (VRN_STAT.FLAGS v)).testBit b)) ∧
      (w.getLsbD 8 = true → t.linePending (80 + v) = true)) ∧
    (s.Begins v 0xC w → x.next < insnBits w 11 7 → ∃ t, exec (.rep v) s = .next t ∧ t.get (VRN_STAT.STATE v) = 1 ∧
      (t.vernier v).next = x.next + 1 ∧
      (t.vernier v).frame = some { start := x.next + 1, last := insnBits w 11 7, count := if insnBits w 6 6 = 1 then tally 0 else insnBits w 5 0 }) ∧
    (∀ op < 16, 0xD ≤ op → s.Begins v op w → ∃ t, exec (.idle v) s = .next t ∧ t.get (VRN_STAT.STATE v) = 4 ∧ t.on (VRN_STAT.ILL v) = true ∧
      t.linePending 252 = true)

/-- The Verniers' commands: writes and group starts, and the instructions. -/
def Obligations.VernierCommands : Prop :=
  Sys2Proof.Machine.VernierWritesHold ∧ Sys2Proof.Machine.VernierRowsHold

namespace Sys2Proof.Machine

/-- The bin of an edge that comes 4 ns or more after the last edge of its polarity that was stamped at its point (02 R56). -/
def State.StampsAt (s : State) (i b : Nat) (rising : Bool) : Prop :=
  ∀ last, (if rising then (s.stampPoint i).riseAt else (s.stampPoint i).fallAt) = some last → last + 64 ≤ 32 * s.rgl.edge + b

/-- The pad delay of a stamp point (02 R60, R61), none with PCBYP. -/
def State.pointDelay (s : State) (i : Nat) : Int :=
  if s.on RGL_CTL.PCBYP then 0
  else (s.get (RGL_PINCAL.DLY i) * 1024 : Nat) + (if s.on RGL_CTL.TCOMP then signed 8 (s.get (RGL_PINCAL.TC i)) * (s.rgl.theta - 25) else 0)

/-- The point stamps edges that leave the cluster (02 R58). -/
def leaving (i : Nat) : Bool := decide (0x08 ≤ i ∧ i < 0x10 ∨ 0x40 ≤ i ∧ i < 0x70 ∨ i = 0x74 ∨ i = 0x76)

end Sys2Proof.Machine

/-- 02 R54 to R61, R66, 08 R406, R437, 12 R621, R626, R629, R660, R661, R966: an edge at a stamp point takes the stamp of its bin corrected by the
pad delay; a level at an undriven field pin is taken and registers its event, and while the domain is off sets its wake latch; FLD_CFG
keeps its function and safe state on reserved codes; a 1PPS instant is emitted or, without quality, counted, and its pulse ends. -/
def Obligations.PinCommands : Prop :=
  ∀ (o : Origin) (i : Fin 119) (b : Fin 32) (k : Fin 48) (rising : Bool) (v : Word) (s : State),
    (s.on CLK_PLLSTAT.TCLKLK = true → s.on CLK_PLLSTAT.CCLKLK = true → s.StampsAt i b rising →
      ∃ t, exec (.stampPointEdge i rising b) s = .next t ∧ t.stampCount = s.stampCount + 1 ∧
        t.stampValue i rising = toTime96 (((s.rgl.time : Int) + b * s.increment / 32) / 2 ^ 24 +
          (if leaving i then s.pointDelay i else -s.pointDelay i)).toNat ∧ t.stampValue i (!rising) = s.stampValue i (!rising) ∧
        ∀ j, j < 119 → j ≠ i → t.stampPoint j = s.stampPoint j) ∧
    (s.on CLK_PLLSTAT.TCLKLK = true → s.on CLK_PLLSTAT.CCLKLK = true → ¬ s.StampsAt i b rising →
      ∃ t, exec (.stampPointEdge i rising b) s = .next t ∧ t = s) ∧
    (s.ifcOn = true → s.pinDrive k = none → s.pinLevel k ≠ rising → ∃ t, exec (.fieldPinEdge k rising) s = .next t ∧ t.pinLevel k = rising ∧
      (s.on (if rising then FLD_CFG.EVR k else FLD_CFG.EVF k) = true → (s.line (32 + k)).caught ≠ some s.rgl.edge → t.linePending (32 + k) = true) ∧
      (s.on (if rising then FLD_CFG.EVR k else FLD_CFG.EVF k) = false ∨ (s.line (32 + k)).caught = some s.rgl.edge →
        t.linePending (32 + k) = s.linePending (32 + k))) ∧
    (s.ifcOn = false → s.pinLevel k ≠ rising → ∃ t, exec (.fieldPinEdge k rising) s = .next t ∧ t.pinLevel k = rising ∧
      ∀ j < 48, t.pinBit EVC_WAKELAT0 EVC_WAKELAT1 j = (s.pinBit EVC_WAKELAT0 EVC_WAKELAT1 j || (j == k.val && s.pinBit EVC_WAKEEN0 EVC_WAKEEN1 j))) ∧
    (s.Takes o (FLD_CFG k) → ∃ t, exec (.fldCfgWrite k o v) s = .next t ∧ Answered o t 0 ∧
      t.get (FLD_CFG.FUNC k) = (if v.toNat % 8 < 6 then v.toNat % 8 else s.get (FLD_CFG.FUNC k)) ∧
      t.get (FLD_CFG.SAFE k) = (if v.toNat / 2 ^ 18 % 4 ≠ 3 then v.toNat / 2 ^ 18 % 4 else s.get (FLD_CFG.SAFE k)) ∧
      t.get (FLD_CFG.OWNER k) = v.toNat / 2 ^ 8 % 64 ∧ t.get (FLD_CFG.OD k) = v.toNat / 2 ^ 17 % 2 ∧ t.get (FLD_CFG.FORCE k) = v.toNat / 2 ^ 16 % 2 ∧
      t.get (FLD_CFG.EVR k) = v.toNat / 2 ^ 22 % 2 ∧ t.get (FLD_CFG.EVF k) = v.toNat / 2 ^ 23 % 2 ∧
      ∀ level, t.pinDrive k = some level → t.pinLevel k = level) ∧
    (s.on CLK_PLLSTAT.TCLKLK = true → s.on CLK_PLLSTAT.CCLKLK = true →
      s.get FLD_PPSOFS.OFS * 65536 + s.pps.handled * unitsPerSec ≤ s.now →
      let good := s.get RGL_QUAL.STATE = 3 ∨ s.get RGL_QUAL.STATE = 4 ∨ s.on FLD_PPS.QGATE = false
      ∃ t, exec .ppsRising s = .next t ∧ t.pps.handled = s.pps.handled + 1 ∧
        (good → t.pps.fallAt = some (s.pps.handled * unitsPerSec + s.get FLD_PPSOFS.OFS * 65536 + s.get FLD_PPS.WIDTH * 65536000) ∧
          t.get FLD_PPSCNT.SUPP = s.get FLD_PPSCNT.SUPP) ∧
        (¬ good → t.pps.fallAt = s.pps.fallAt ∧ t.get FLD_PPSCNT.SUPP = min 65535 (s.get FLD_PPSCNT.SUPP + 1))) ∧
    (s.on CLK_PLLSTAT.TCLKLK = true → s.on CLK_PLLSTAT.CCLKLK = true → ∀ f, s.pps.fallAt = some f → f ≤ s.now →
      ∃ t, exec .ppsFalling s = .next t ∧ t.pps.fallAt = none ∧ t.pps.handled = s.pps.handled)

namespace Sys2Proof.Machine

/-- Engine e is clocked, runs or is idle, and no halt, stop, step, asynchronous cause or open locked sequence stands before it. -/
def State.Open (s : State) (e : Nat) : Prop :=
  s.on CLK_PLLSTAT.TCLKLK = true ∧ s.on CLK_PLLSTAT.CCLKLK = true ∧ s.get CLU_ATTACH.PSTATE ≠ 3 ∧
  (s.get (ENG_STAT.STATE e) = 1 ∨ s.get (ENG_STAT.STATE e) = 2) ∧ (s.eng e).halt = 0 ∧ (s.eng e).stop = false ∧ (s.eng e).stepping = false ∧
  s.on (ENG_STAT.LOCK e) = false ∧ (s.on (ENG_CTL.PRECISE e) = false ∨ (s.eng e).op = none)

/-- Nothing asynchronous waits for engine e: no expired watchdog, bulk port error or Lens fault (06 R308, R309). -/
def State.NoAsync (s : State) (e : Nat) : Prop :=
  (s.watchdog e).expired = false ∧ (s.eng e).bulkError = false ∧ (s.eng e).lensFault = none

/-- A vector line of level l is pending in engine e (08 R414, 06 R291). -/
def State.PendingLevel (s : State) (e l : Nat) : Prop := ∃ v, v < 64 ∧ s.vectorPending e v = true ∧ s.vectorLevel e v = some l

/-- The conditions of R291 for a dispatch to level l, beside the pending line. -/
def State.Admits (s : State) (e l : Nat) : Prop :=
  l < 4 ∧ (s.reg (ENG_PRI e)).getLsbD l = true ∧ (s.get (ENG_STAT.BANKS e) = 0 ∨ s.get (ENG_STAT.STATE e) = 2 ∨ s.level e < l) ∧
  s.bankUsed e l = false ∧ s.bankUsed e 4 = false ∧ s.on (ENG_PRI.GMASK e) = false

/-- No level above l is both admitted and pending. -/
def State.Highest (s : State) (e l : Nat) : Prop := ∀ h < 4, l < h → s.Admits e h → ¬ s.PendingLevel e h

end Sys2Proof.Machine

/-- 06 R291, R296 to R307: a dispatch request begins a bank switch to the highest admitted level, saving the microaddress; the entry commits
at the lowest pending vector line of its level, or at the spurious vector, with the bank in use and the line's pending bit clear. -/
def Sys2Proof.Machine.DispatchHold : Prop :=
  ∀ (e : Fin 12) (l v : Nat) (s : State), s.Open e → s.NoAsync e → s.Admits e l → s.Highest e l →
    ((s.eng e).entry = none → s.PendingLevel e l → ∃ t, exec (.eventDispatch e) s = .next t ∧ (t.eng e).entry = some l ∧
      t.on (ENG_STAT.STALL e) = false ∧ t.get (ENG_STAT.BANKS e) = s.get (ENG_STAT.BANKS e) ∧
      (s.get (ENG_STAT.STATE e) = 1 → s.get (ENG_STAT.BANKS e) ≠ 0 → t.get (ENG_RESUME.UPC e (s.level e)) = s.upc e)) ∧
    ((s.eng e).entry = some l → v < 64 → s.vectorPending e v = true → s.vectorLevel e v = some l →
      (∀ w < v, ¬ (s.vectorPending e w = true ∧ s.vectorLevel e w = some l)) → ∃ t, exec (.eventDispatch e) s = .next t ∧
        (t.eng e).entry = none ∧ t.upc e = 0x100 + 8 * v ∧ t.get (ENG_STAT.LEVEL e) = l ∧ t.bankUsed e l = true ∧ t.get (ENG_STAT.STATE e) = 1 ∧
        ∀ e' < 12, ∀ w < 64, t.vectorPending e' w = (s.vectorPending e' w && !(e' == e.val && w == v))) ∧
    ((s.eng e).entry = some l → ¬ s.PendingLevel e l → ∃ t, exec (.eventDispatch e) s = .next t ∧ (t.eng e).entry = none ∧ t.upc e = 0x0F8 ∧
      t.get (ENG_STAT.LEVEL e) = l ∧ t.bankUsed e l = true ∧ t.get (ENG_STAT.STATE e) = 1 ∧ t.claimContext e l = .fails)

/-- 06 R308 to R311, R314, R320, R321, 04 R232: an expired watchdog enters PF at its vector with the fault registers, the interrupted level and
the resume microaddress written, an event entry under way abandoned; in PF it is a double fault, which freezes the engine and clears RUN. -/
def Sys2Proof.Machine.EntryHold : Prop :=
  ∀ (e : Fin 12) (s : State), s.Open e → (s.watchdog e).expired = true →
    let i := if s.get (ENG_STAT.BANKS e) = 0 then 7 else s.level e
    (s.bankUsed e 4 = false → ∃ t, exec (.exceptionEntry e) s = .next t ∧ t.upc e = 8 * 0x04 ∧ t.get (ENG_FAULT.CODE e) = 0x04 ∧
      t.get (ENG_FAULT.LEVEL e) = s.level e ∧ t.get (ENG_FAULT.GROUP e) = 0 ∧ t.get (ENG_XCTX.ILVL e) = i ∧ t.on (ENG_XCTX.LHT e) = false ∧
      t.get (ENG_STAT.LEVEL e) = 4 ∧ t.bankUsed e 4 = true ∧ t.get (ENG_STAT.STATE e) = 1 ∧ (t.bank e 4).link.toNat = s.upc e ∧
      (i < 4 → t.get (ENG_RESUME.UPC e i) = s.upc e) ∧ (t.watchdog e).expired = false ∧ t.linePending (240 + e) = true ∧ (t.eng e).entry = none) ∧
    (s.bankUsed e 4 = true → ∃ t, exec (.exceptionEntry e) s = .next t ∧ t.get (ENG_STAT.STATE e) = 4 ∧ t.on (ENG_CTL.RUN e) = false ∧
      t.get (ENG_FAULT.CODE e) = 0x03 ∧ t.get (ENG_XCTX.FIRST e) = s.get (ENG_FAULT.CODE e) ∧ t.get (ENG_XCTX.CAUSE e) = 0x04 ∧
      t.linePending (240 + e) = true ∧ t.upc e = s.upc e)

/-- 04 R223, R224, R231, R233 to R238, 06 R348, R349, 19 R901, R905: RUN resumes a stopped engine at its microaddress and level, restarts the
watchdog's period and is ignored by a frozen engine, a stop waits for an
open locked sequence and a forced one breaks it, FCLR clears the fault and unfreezes; microaddress, save area and level are written
while the engine is stopped only; the control store is written while it is stopped, halted or frozen, with good parity. -/
def Sys2Proof.Machine.RunHold : Prop :=
  ∀ (o : Origin) (e : Fin 12) (l : Fin 5) (v : Word) (s : State),
    let state := s.get (ENG_STAT.STATE e)
    let busy := state = 1 ∨ state = 2
    let wcsOpen := ¬ busy ∧ (s.ringOf o = some 1 → s.get SEC_LCS.STATE = 2)
    let w := v ++ (s.eng e).wcsHold
    (s.Takes o (ENG_CTL e) → state = 4 → ∃ t, exec (.engineRun e o v) s = .next t ∧ Answered o t 0 ∧ OnlyRegs [] s t) ∧
    (s.Takes o (ENG_CTL e) → state ≠ 4 → ∃ t, exec (.engineRun e o v) s = .next t ∧ Answered o t 0 ∧ t.upc e = s.upc e ∧
      t.get (ENG_STAT.LEVEL e) = s.get (ENG_STAT.LEVEL e) ∧ t.on (ENG_CTL.RUN e) = true ∧ t.reg (ENG_FAULT e) = s.reg (ENG_FAULT e) ∧
      t.watchdogElapsed e = 0 ∧
      (state = 0 → t.get (ENG_STAT.BANKS e) = (if s.get (ENG_STAT.BANKS e) = 0 then 2 ^ s.level e else s.get (ENG_STAT.BANKS e)) ∧
        t.get (ENG_STAT.STATE e) = if s.get (ENG_STAT.BANKS e) = 0 ∧ s.on EYE_CTL.RSTHALT = true ∧ (s.reg EYE_ESEL).getLsbD e = true then 3 else 1) ∧
      (state ≠ 0 → t.get (ENG_STAT.STATE e) = state ∧ (t.eng e).stop = false)) ∧
    (s.Takes o (ENG_CTL e) → ∃ t, exec (.engineStop e o v) s = .next t ∧ Answered o t 0 ∧ t.on (ENG_CTL.RUN e) = false ∧ t.upc e = s.upc e ∧
      (v.getLsbD 3 = false → state = 4 → t.get (ENG_STAT.STATE e) = 4) ∧
      (state ≠ 4 → s.on (ENG_STAT.LOCK e) = false → t.get (ENG_STAT.STATE e) = 0) ∧
      (state ≠ 0 → state ≠ 4 → s.on (ENG_STAT.LOCK e) = true → t.get (ENG_STAT.STATE e) = state ∧ (t.eng e).stop = true ∧
        t.on (ENG_STAT.LOCK e) = true)) ∧
    (s.Takes o (ENG_CTL e) → state ≠ 0 → state ≠ 4 → ∃ t, exec (.engineForceStop e o v) s = .next t ∧ Answered o t 0 ∧
      t.on (ENG_CTL.RUN e) = false ∧ t.get (ENG_STAT.STATE e) = 0 ∧ t.upc e = s.upc e ∧ t.on (ENG_STAT.LOCK e) = false ∧
      (s.on (ENG_STAT.LOCK e) = true → (t.eng e).broken.testBit (s.level e) = true)) ∧
    (s.Takes o (ENG_CTL e) → ∃ t, exec (.fclr e o v) s = .next t ∧ Answered o t 0 ∧ t.reg (ENG_FAULT e) = 0 ∧
      (state = 4 → t.get (ENG_STAT.STATE e) = 0 ∧ t.on (ENG_CTL.RUN e) = false)) ∧
    (s.on CLK_PLLSTAT.TCLKLK = true → s.on CLK_PLLSTAT.CCLKLK = true → s.get CLU_ATTACH.PSTATE ≠ 3 → busy →
      (s.on (ENG_STAT.LOCK e) = false ∨ (s.eng e).halt = 2) → (s.eng e).halt ≠ 0 → (s.eng e).halt ≤ 2 → (s.eng e).stop = false →
      ∃ t, exec (.deferredHalt e) s = .next t ∧ t.get (ENG_STAT.STATE e) = 3 ∧ (t.eng e).was = state ∧ t.upc e = s.upc e ∧
        t.on (ENG_STAT.LOCK e) = false ∧ (t.eng e).halt = 0) ∧
    (s.on CLK_PLLSTAT.TCLKLK = true → s.on CLK_PLLSTAT.CCLKLK = true → s.get CLU_ATTACH.PSTATE ≠ 3 → busy →
      s.on (ENG_STAT.LOCK e) = false → (s.eng e).halt = 0 → (s.eng e).stop = true →
      ∃ t, exec (.deferredHalt e) s = .next t ∧ t.get (ENG_STAT.STATE e) = 0 ∧ t.upc e = s.upc e ∧ (t.eng e).stop = false) ∧
    (s.Takes o (ENG_UPC e) → state = 0 → ∃ t, exec (.engUpcWrite e o v) s = .next t ∧ Answered o t 0 ∧ t.upc e = v.toNat % 2 ^ 13 ∧ OnlyRegs [ENG_UPC e] s t) ∧
    (s.Takes o (ENG_UPC e) → state ≠ 0 → ∃ t, exec (.engUpcWrite e o v) s = .next t ∧ Refused o s t) ∧
    (s.Takes o (ENG_SAL e l) → state = 0 → ∃ t, exec (.engSalWrite e l o v) s = .next t ∧ Answered o t 0 ∧
      t.get (ENG_SAL.ADDR e l) = v.toNat % 2 ^ 23 ∧ OnlyRegs [ENG_SAL e l] s t) ∧
    (s.Takes o (ENG_SAL e l) → state ≠ 0 → ∃ t, exec (.engSalWrite e l o v) s = .next t ∧ Refused o s t) ∧
    (s.Takes o (ENG_PRI e) → v.toNat / 2 ^ 24 % 8 ≤ 4 → state = 0 → ∃ t, exec (.engPriWrite e o v) s = .next t ∧ Answered o t 0 ∧
      t.get (ENG_STAT.LEVEL e) = v.toNat / 2 ^ 24 % 8 ∧ t.get (ENG_STAT.BANKS e) = v.toNat / 2 ^ 8 % 32 ∧
      t.get (ENG_PRI.GMASK e) = v.toNat / 2 ^ 16 % 2 ∧ t.get (ENG_PRI.LVLEN e) = v.toNat % 16 ∧ OnlyRegs [ENG_PRI e, ENG_STAT e] s t) ∧
    (s.Takes o (ENG_PRI e) → state ≠ 0 → v.toNat / 2 ^ 24 % 8 = s.level e → v.toNat / 2 ^ 8 % 32 = s.get (ENG_STAT.BANKS e) →
      ∃ t, exec (.engPriWrite e o v) s = .next t ∧ Answered o t 0 ∧ t.get (ENG_PRI.GMASK e) = v.toNat / 2 ^ 16 % 2 ∧
        t.get (ENG_PRI.LVLEN e) = v.toNat % 16 ∧ OnlyRegs [ENG_PRI e] s t) ∧
    (s.Takes o (ENG_PRI e) → state ≠ 0 → v.toNat / 2 ^ 24 % 8 ≤ 4 → (v.toNat / 2 ^ 24 % 8 ≠ s.level e ∨ v.toNat / 2 ^ 8 % 32 ≠ s.get (ENG_STAT.BANKS e)) →
      ∃ t, exec (.engPriWrite e o v) s = .next t ∧ Refused o s t) ∧
    (s.Takes o (WCS_D e 4) → ¬ wcsOpen → ∃ t, exec (.wcsCommit e o v) s = .next t ∧ Refused o s t) ∧
    (s.Takes o (WCS_D e 4) → wcsOpen → parityFails w = 0 ∨ s.on (WCS_ADDR.PINJ e) = true ∧ s.get SEC_LCS.STATE = 2 →
      ∃ t, exec (.wcsCommit e o v) s = .next t ∧ Answered o t 0 ∧ t.storeWord e (s.get (WCS_ADDR.ADDR e)) = w ∧
        (∀ a < 8192, a ≠ s.get (WCS_ADDR.ADDR e) → t.storeWord e a = s.storeWord e a) ∧
        t.get (WCS_ADDR.ADDR e) = (s.get (WCS_ADDR.ADDR e) + s.get (WCS_ADDR.AINC e)) % 8192) ∧
    (s.Takes o (WCS_D e 4) → wcsOpen → parityFails w ≠ 0 → s.on (WCS_ADDR.PINJ e) = false →
      ∃ t, exec (.wcsCommit e o v) s = .next t ∧ Answered o t 0 ∧ t.on (WCS_ADDR.PERR e) = true ∧ OnlyRegs [WCS_ADDR e] s t ∧
        t.storeWord e (s.get (WCS_ADDR.ADDR e)) = s.storeWord e (s.get (WCS_ADDR.ADDR e))) ∧
    (s.busError .host false (WCS_D e l) = false → busy → ∃ t, exec (.wcsRead e l .host) s = .next t ∧ Answered .host t 2 ∧ t.host.data = [0] ∧
      OnlyRegs [] s t) ∧
    (s.busError .host false (WCS_D e l) = false → ¬ busy → ∃ t, exec (.wcsRead e l .host) s = .next t ∧ Answered .host t 0 ∧
      t.host.data = [(if l.val = 0 then s.storeWord e (s.get (WCS_ADDR.ADDR e)) else (s.eng e).wcsRead).extractLsb' (32 * l) 32] ∧
      (l.val = 0 → (t.eng e).wcsRead = s.storeWord e (s.get (WCS_ADDR.ADDR e))) ∧
      t.get (WCS_ADDR.ADDR e) = (if l.val = 4 then (s.get (WCS_ADDR.ADDR e) + s.get (WCS_ADDR.AINC e)) % 8192 else s.get (WCS_ADDR.ADDR e)))

/-- 04 R213 to R215, R219, 10 R506: the response to an engine's bulk read of whole words writes the plate range and frees its tag; with an error the
tag ends with TAGERR (a read holds a response's bytes only while a locked sequence is open); a bulk write's response frees its tag. -/
def Sys2Proof.Machine.BulkDoneHold : Prop :=
  ∀ (tag : Fin 256) (data : List Byte) (b : BulkTag) (a n : Nat) (s : State),
    tag.val < 0xC0 → s.on CLK_PLLSTAT.TCLKLK = true → s.on CLK_PLLSTAT.CCLKLK = true → tfind s.bulk tag = some b → b.discard = false →
    s.on (ENG_STAT.LOCK (tag / 16)) = false → (∀ k < 8, s.get (ENG_DCMP_CTL.KIND (tag / 16) k) = 0) →
    (b.use = .engineRead a n → b.bytes = [] → b.keep = 0 → a % 8 = 0 → n % 8 = 0 → data.length = n → ∃ t, exec (.bulkComplete tag false data) s = .next t ∧
      t.bytes a n = data ∧ (∀ x, x < a ∨ a + n ≤ x → t.byte x = s.byte x) ∧ tfind t.bulk tag = none ∧ t.reg (ENG_BULK (tag / 16)) = s.reg (ENG_BULK (tag / 16)) ∧
      ∀ k : Nat, k ≠ tag → tfind t.bulk k = tfind s.bulk k) ∧
    (b.use = .engineRead a n → b.bytes = [] → ∃ t, exec (.bulkComplete tag true data) s = .next t ∧ tfind t.bulk tag = none ∧
      (t.reg (ENG_BULK (tag / 16))).getLsbD (16 + tag % 16) = true ∧ (t.eng (tag / 16)).bulkError = true ∧
      ∀ x, x < a ∨ a + n ≤ x → t.byte x = s.byte x) ∧
    (b.use = .engineWrite a n → b.bytes ≠ [] → ∃ t, exec (.bulkComplete tag false data) s = .next t ∧ tfind t.bulk tag = none ∧
      (∀ x, t.byte x = s.byte x) ∧ t.reg (ENG_BULK (tag / 16)) = s.reg (ENG_BULK (tag / 16)))

/-- The engines' control: dispatch, exception entry, run control, the control store and the completion of bulk transactions. -/
def Obligations.EngineCommands : Prop :=
  Sys2Proof.Machine.DispatchHold ∧ Sys2Proof.Machine.EntryHold ∧ Sys2Proof.Machine.RunHold ∧ Sys2Proof.Machine.BulkDoneHold

/-- 08 R404, R405, R407 to R412, R414 to R418, R420, R425, R430, R431, R434: a registration, while the domain is on, sets a clear line's pending bit, delivers an unmasked one
to every engine of its TMASK and copies it to the Assistant pair, and on a pending line only sets COAL; a carried line that was delivered
retires once no engine holds its delivery; a release turns an engine's held deliveries into pending ones; doorbell, mask, pending and route writes change the
bits that they may change. -/
def Obligations.EventCommands : Prop :=
  ∀ (o : Origin) (n : Fin 256) (i : Fin 8) (e : Fin 12) (v : Word) (s : State),
    (s.ifcOn = false → exec (.eventRegistration n) s = .next s) ∧
    (s.ifcOn = true → s.linePending n = true → ∃ t, exec (.eventRegistration n) s = .next t ∧ t.linePending n = true ∧
      (t.reg (EVC_COAL (n / 32))).getLsbD (n % 32) = true ∧ (∀ p : Part, p.same s t) ∧ ∀ k, k ≠ EVC_COAL (n / 32) → t.reg k = s.reg k) ∧
    (s.ifcOn = true → s.linePending n = false → ∃ t, exec (.eventRegistration n) s = .next t ∧ t.linePending n = true ∧
      (∀ j < 256, j ≠ n → t.linePending j = s.linePending j) ∧ t.reg (EVC_COAL (n / 32)) = s.reg (EVC_COAL (n / 32)) ∧
      (s.on (EVC_ROUTE.ASST n) = true ∨ 240 ≤ n.val → t.asst.contains n.val = true) ∧
      (s.lineMasked n = true → t.deliveries = s.deliveries) ∧
      (s.lineMasked n = false → (s.line n).taken = false → s.on (EVC_ROUTE.CLAIMM n) = false → s.on (EVC_ROUTE.MOD n) = false →
        (∀ d ∈ s.deliveries, d ∈ t.deliveries) ∧ ∀ j < 12, (s.get (EVC_ROUTE.TMASK n)).testBit j = true →
          t.vectorPending (s.engMap j) (s.get (EVC_ROUTE.VLINE n)) = true)) ∧
    ((s.line n).taken = true → (s.line n).delivered = false → exec (.lineRetire n) s = .next s) ∧
    ((s.line n).taken = true → (s.line n).delivered = true → (∀ d ∈ s.deliveries, d.line ≠ some n.val) → ∃ t, exec (.lineRetire n) s = .next t ∧
      t.linePending n = false ∧ (t.line n).taken = false ∧ t.deliveries = s.deliveries ∧ ∀ j < 256, j ≠ n → t.linePending j = s.linePending j) ∧
    (s.releaseDue e = true → ∃ t, exec (.moderationRelease e) s = .next t ∧
      t.deliveries = s.deliveries.map (fun d => if d.eng = e.val then { d with held := none } else d) ∧ ∀ p : Part, p ≠ .events → p.same s t) ∧
    (s.Takes o EVC_DOOR → ∃ t, exec (.evcDoor o v) s = .next t ∧ Answered o t 0 ∧
      ∀ j < 256, t.linePending j = (s.linePending j || (decide (j < 16) && v.getLsbD j))) ∧
    (s.Takes o (EVC_MASK i) → ∃ t, exec (.evcMaskWrite i o v) s = .next t ∧ Answered o t 0 ∧
      (∀ j < 256, t.lineMasked j = if j / 32 = i.val ∧ (s.ringOf o ≠ some 2 ∨ s.on (EVC_ROUTE.HOSTM j) = true) then v.getLsbD (j % 32) else s.lineMasked j) ∧
      (∀ j < 256, t.linePending j = s.linePending j) ∧ ∀ d ∈ s.deliveries, d.held = none → d ∈ t.deliveries) ∧
    (s.Takes o (EVC_PEND i) → ∃ t, exec (.evcPendWrite i o v) s = .next t ∧ Answered o t 0 ∧
      ∀ j < 256, t.linePending j = if j / 32 = i.val ∧ (s.ringOf o ≠ some 2 ∨ s.on (EVC_ROUTE.HOSTM j) = true) ∧
        (s.lineMasked j = true ∨ s.get (EVC_ROUTE.TMASK j) = 0) then v.getLsbD (j % 32) else s.linePending j) ∧
    (s.Takes o (EVC_ROUTE n) →
      let agrees := (List.range 256).all fun m => ((s.plainWrite (EVC_ROUTE n) v).put (EVC_ROUTE.ASST n) (if 240 ≤ n.val then 1 else 0)).routesAgree n m
      (agrees = false → ∃ t, exec (.evcRouteWrite n o v) s = .next t ∧ Conflict o (EVC_ROUTE n) s t) ∧
      (agrees = true → ∃ t, exec (.evcRouteWrite n o v) s = .next t ∧ Answered o t 0 ∧ t.get (EVC_ROUTE.TMASK n) = fieldOf v (EVC_ROUTE.TMASK n).hi (EVC_ROUTE.TMASK n).lo ∧
        t.get (EVC_ROUTE.LVL n) = fieldOf v (EVC_ROUTE.LVL n).hi (EVC_ROUTE.LVL n).lo ∧ t.get (EVC_ROUTE.VLINE n) = fieldOf v (EVC_ROUTE.VLINE n).hi (EVC_ROUTE.VLINE n).lo ∧
        (240 ≤ n.val → t.on (EVC_ROUTE.ASST n) = true) ∧ OnlyRegs [EVC_ROUTE n] s t))

/-- 10 R483, R489, R491, R492, R494, R495, R504 to R506, R508, R509: a plate's ownership is written at once in fused mode, and by a handover with a
new generation in normal service; a host access reaches only the plates that name the host, in beats of eight bytes; the scrubber
takes the next word, corrects a single-bit error and reports an uncorrectable one. -/
def Obligations.PlateCommands : Prop :=
  ∀ (o : Origin) (k : Fin 96) (off : BitVec 24) (d : DWord) (v : Word) (s : State),
    let c := v.toNat % 32
    let known := c = 0 ∨ c = 1 ∨ c = 4 ∨ 0x10 ≤ c ∧ c ≤ 0x1B
    let fused := s.get CLU_STAT.STATE ≤ 1
    let a := off.toNat - 0x400000
    (s.Takes o (PLT_OWN k) → k.val < 4 ∨ s.on (PLT_OWN.PEND k) = true → ∃ t, exec (.pltOwnWrite k o v) s = .next t ∧ Refused o s t) ∧
    (s.Takes o (PLT_OWN k) → 4 ≤ k.val → s.on (PLT_OWN.PEND k) = false →
      (¬ known → ∃ t, exec (.pltOwnWrite k o v) s = .next t ∧ Answered o t 0 ∧ OnlyRegs [] s t) ∧
      (known → fused → ∃ t, exec (.pltOwnWrite k o v) s = .next t ∧ Answered o t 0 ∧ t.get (PLT_OWN.OWNER k) = c ∧
        t.on (PLT_OWN.PEND k) = false ∧ t.gen 1 k = s.gen 1 k) ∧
      (known → ¬ fused → c ≠ s.get (PLT_OWN.OWNER k) → ∃ t, exec (.pltOwnWrite k o v) s = .next t ∧ Answered o t 0 ∧
        t.get (PLT_OWN.OWNER k) = s.get (PLT_OWN.OWNER k) ∧ t.on (PLT_OWN.PEND k) = true ∧ (t.handover k).owner = c)) ∧
    (∀ same, s.on (PLT_OWN.PEND k) = true → s.handoverBlocked k = false → k.val ≠ 1 → (s.handover k).owner < 32 →
      (∀ p, capEntryAt 1 k = some p → s.uncorrectable p 4 = false) →
      ∃ t, exec (.handoverTakesEffect (k, same)) s = .next t ∧ t.get (PLT_OWN.OWNER k) = (s.handover k).owner ∧ t.on (PLT_OWN.PEND k) = false ∧
        t.gen 1 k = (if s.gen 1 k = 0 ∨ s.gen 1 k = 0xFFFF ∨ (s.tickOf same).bumps.contains (1 + 16 * k.val) = true then s.gen 1 k else s.gen 1 k + 1) ∧
        ∀ j < 96, j ≠ k → t.gen 1 j = s.gen 1 j ∧ t.reg (PLT_OWN j) = s.reg (PLT_OWN j)) ∧
    (∀ meet, s.hostError true off.toNat = false → 0x400000 ≤ off.toNat → off.toNat < 0xA00000 → a % 8 = 0 → ¬ fused → s.get (PLT_OWN.OWNER (a / 65536)) = 1 →
      ∃ t, exec (.hostPlateAccess off true false 0xFF [d] meet) s = .next t ∧ Answered .host t 0 ∧ t.bytes a 8 = leBytes 8 d.toNat ∧
        (∀ x, x < a ∨ a + 8 ≤ x → t.byte x = s.byte x) ∧ t.eccAt a = 0) ∧
    (∀ meet, s.hostError false off.toNat = false → 0x400000 ≤ off.toNat → off.toNat < 0xA00000 → a % 8 = 0 → ¬ fused → s.get (PLT_OWN.OWNER (a / 65536)) = 1 →
      s.eccAt a ≠ 2 → ∃ t, exec (.hostPlateAccess off false false 0xFF [] meet) s = .next t ∧ Answered .host t 0 ∧
        t.host.data = [BitVec.ofNat 32 (ofLeBytes (s.bytes a 4)), BitVec.ofNat 32 (ofLeBytes (s.bytes (a + 4) 4))] ∧ t.mem = s.mem ∧
        t.get PLT_ECCSTAT.CECNT = (if s.eccAt a = 1 then min 65535 (s.get PLT_ECCSTAT.CECNT + 1) else s.get PLT_ECCSTAT.CECNT)) ∧
    (∀ write meet, s.hostError write off.toNat = false → 0x400000 ≤ off.toNat → off.toNat < 0xA00000 → ¬ fused → s.get (PLT_OWN.OWNER (a / 65536)) ≠ 1 →
      ∃ t, exec (.hostPlateAccess off write false 0xFF (if write then [d] else []) meet) s = .next t ∧ Answered .host t 2 ∧ t.mem = s.mem ∧
        t.host.data = (if write then [] else [0, 0]) ∧ OnlyRegs [] s t) ∧
    (∀ idle, s.get PLT_SCRUB.INTV ≠ 0 → ¬ fused → s.on (PLT_OWN.PEND (8 * s.scrubWord / 65536)) = false → s.plateLocked (8 * s.scrubWord / 65536) = false →
      ∃ t, exec (.scrubberVisit idle) s = .next t ∧ t.scrubWord = (s.scrubWord + 1) % 0xC0000 ∧ t.mem = s.mem ∧
        (s.eccAt (8 * s.scrubWord) = 2 → t.eccAt (8 * s.scrubWord) = 2 ∧ t.on PLT_ECCSTAT.UEV = true ∧ t.linePending 253 = true) ∧
        (s.eccAt (8 * s.scrubWord) = 1 → t.eccAt (8 * s.scrubWord) = (if idle then 0 else 1) ∧ t.on PLT_ECCSTAT.CEV = true ∧
          t.get PLT_ECCSTAT.CECNT = min 65535 (s.get PLT_ECCSTAT.CECNT + 1)))

namespace Sys2Proof.Machine

/-- QM_QRES after an operation of QM_QCMD (10 R538). -/
def QueueResult (s t : State) (fail : Bool) (value : Nat) : Prop :=
  t.on QM_QRES.FAIL = fail ∧ t.get QM_QRES.VALUE = value % 2 ^ 23 ∧ t.get QM_QRES.SEQ = (s.get QM_QRES.SEQ + 1) % 128

/-- A master may operate on a queue's side (10 R539): from ring 2 only where the host port is its producer, or its consumer. -/
def State.MayProduce (s : State) (o : Origin) (q : Nat) : Prop := s.ringOf o = some 2 → s.get (QM_QCFG.PROD q) = 1
def State.MayConsume (s : State) (o : Origin) (q : Nat) : Prop := s.ringOf o = some 2 → s.get (QM_QCFG.CONS q) = 1

/-- The address of an ENQ through QM_QCMD that a master may name (10 R540). -/
def State.MayName (s : State) (o : Origin) (a : Nat) : Prop :=
  a % 32 = 0 ∧ a < 0x600000 ∧ (s.ringOf o = some 2 → s.get (PLT_OWN.OWNER (a / 65536)) = 1) ∧ (s.ringOf o = some 1 → 4 ≤ a / 65536)

/-- The next ring slot of a queue, one descriptor there seen as free (10 R521, R524). -/
def State.NextSlot (s : State) (q a : Nat) : Prop :=
  (s.queue q).vis + max (s.queue q).held 1 + 1 ≤ 2 ^ s.get (QM_QRING.RSZ q) ∧
  a = s.get (QM_QRING.BASE q) + 32 * (((s.queue q).head + (s.queue q).vis) % 2 ^ s.get (QM_QRING.RSZ q))

/-- How many spilled descriptors a read-back of queue q takes (10 R535): two where two are there and written, lie in one 64-byte block and
find room, else one. -/
def State.readBackSize (s : State) (q : Nat) : Nat :=
  if 2 ≤ (s.queue q).spilled ∧ s.spillPending q ((s.queue q).spillHead + 1) = false ∧
    (s.queue q).spillHead % (s.get (QM_QSPLEN.LEN q) / 32) % 2 = 0 ∧
    (s.queue q).vis + max (s.queue q).held 1 + (s.queue q).copying.length + 2 ≤ 2 ^ s.get (QM_QRING.RSZ q) then 2 else 1

/-- The plate of address a lets queue q's descriptor in copy be written (04 R219, 10 R493): the cluster is not in normal service, or the plate is
not locked, and a handover that waits found the copy in progress. -/
def State.MayCopy (s : State) (q a : Nat) : Prop :=
  s.get CLU_STAT.STATE ≤ 1 ∨
  s.plateLocked (a / 65536) = false ∧ (s.on (PLT_OWN.PEND (a / 65536)) = false ∨ 0 < (s.queue q).started)

/-- A pool of n buffers of size 2^(6 + bsz) at a base lies inside one plate, aligned to its buffers (10 R529, R549). -/
def PoolLies (base n bsz : Nat) : Prop :=
  base % 2 ^ (6 + bsz) = 0 ∧ base + n * 2 ^ (6 + bsz) ≤ 0x600000 ∧ (n = 0 ∨ base / 65536 = (base + n * 2 ^ (6 + bsz) - 1) / 65536)

end Sys2Proof.Machine

/-- 10 R519 to R525, R533 to R540, R547 to R549: a copied descriptor becomes visible in its slot and may meet the watermark; spilled ones are read
back on a tag; ring 0 resumes a stopped queue and retries its transfer; the operations of QM_QCMD leave their result in QM_QRES, or are
refused, and an ENQ from a held plate waits; a queue's or pool's configuration is written only while it is empty, or full of its buffers. -/
def Obligations.QueueCommands : Prop :=
  ∀ (o : Origin) (q : Fin 1024) (d : List Byte) (rest : List (List Byte)) (a tg : Nat) (b : BulkTag) (v : Word) (s : State),
    let qi := s.get QM_QIDX.QUEUE
    let pi := s.get QM_PIDX.POOL
    let qc := v.toNat % 1024
    let arg := s.get QM_QARG.ADDR
    let head := s.get (QM_QRING.BASE qc) + 32 * ((s.queue qc).head % 2 ^ s.get (QM_QRING.RSZ qc))
    let short := s.queueCount (s.get (QM_PCFG.FREEQ pi)) < s.get (QM_PCFG.NBUF pi)
    ((s.queue q).copying = d :: rest → d.length = 32 → s.NextSlot q a → a % 32 = 0 → s.MayCopy q a → (∀ j ∈ s.jobs, s.jobHeld j = true) →
      ∃ t, exec (.descriptorVisible q) s = .next t ∧ (t.queue q).vis = (s.queue q).vis + 1 ∧ (t.queue q).copying = rest ∧ t.bytes a 32 = d ∧
        t.queueCount q = s.queueCount q ∧ (∀ x, x < a ∨ a + 32 ≤ x → t.byte x = s.byte x) ∧ (∀ j < 1024, j ≠ q → t.queue j = s.queue j) ∧
        (s.on (QM_QCFG.WEN q) = true → (s.queue q).vis + 1 = s.get (QM_QWM.WMARK q) → t.linePending (192 + s.get (QM_QCFG.WLINE q)) = true)) ∧
    (s.on (QM_QSTAT.STOP q) = false → (s.queue q).spilled ≠ 0 → s.spillPending q (s.queue q).spillHead = false → s.readBackBusy q = false →
      (s.queue q).vis + max (s.queue q).held 1 + (s.queue q).copying.length + 1 ≤ 2 ^ s.get (QM_QRING.RSZ q) → s.managerTag = some tg →
      ∃ t, exec (.spillReadback q) s = .next t ∧ (tfind t.bulk tg).map (fun g => (g.use, g.ext)) =
        some (.spillRead q (s.readBackSize q), (s.reg (QM_QSPILL q)).toNat + 32 * ((s.queue q).spillHead % (s.get (QM_QSPLEN.LEN q) / 32))) ∧ t.queueCount q = s.queueCount q) ∧
    (s.Takes o (QM_QSTAT qi) → s.ringOf o = some 0 → ∃ t, exec (.queueResume o v) s = .next t ∧ Answered o t 0 ∧ t.on (QM_QSTAT.STOP qi) = false ∧
      (s.on (QM_QSTAT.STOP qi) = true → s.failures qi = [b] → s.managerTag = some tg → t.failures qi = [] ∧ tfind t.bulk tg = some b)) ∧
    (s.Takes o (QM_QSTAT qi) → s.ringOf o ≠ some 0 → ∃ t, exec (.queueResume o v) s = .next t ∧ Answered o t 0 ∧
      t.on (QM_QSTAT.STOP qi) = s.on (QM_QSTAT.STOP qi) ∧ t.queues = s.queues) ∧
    (s.Takes o QM_QCMD → ¬ (s.MayProduce o qc ∧ s.MayName o arg) → ∃ t, exec (.qmEnq o v) s = .next t ∧ Refused o s t) ∧
    (s.Takes o QM_QCMD → s.MayProduce o qc → s.MayName o arg → s.rangeHeld arg 32 = false → s.queueWaits qc = false → s.uncorrectable arg 32 = false → s.Accepts qc →
      ∃ t, exec (.qmEnq o v) s = .next t ∧ Answered o t 0 ∧ QueueResult s t false 0 ∧ t.queueCount qc = s.queueCount qc + 1 ∧
        (s.get (QM_QSPLEN.LEN qc) = 0 → (t.queue qc).copying = (s.queue qc).copying ++ [s.bytes arg 32])) ∧
    (s.Takes o QM_QCMD → s.MayProduce o qc → s.MayName o arg → s.rangeHeld arg 32 = false → s.queueWaits qc = false → s.uncorrectable arg 32 = false → s.queueRefuses qc = true →
      ∃ t, exec (.qmEnq o v) s = .next t ∧ Answered o t 0 ∧ QueueResult s t true 0 ∧ t.queues = s.queues) ∧
    (s.Takes o QM_QCMD → s.MayProduce o qc → s.MayName o arg → s.rangeHeld arg 32 = false → s.queueWaits qc = false → s.uncorrectable arg 32 = true →
      ∃ t, exec (.qmEnq o v) s = .next t ∧ Answered o t 0 ∧ QueueResult s t true 0 ∧ t.queues = s.queues ∧ t.on (QM_QSTAT.STOP qc) = true ∧
        t.on (QM_QSTAT.ECCERR qc) = true ∧ t.linePending 253 = true) ∧
    (s.Takes o QM_QCMD → s.MayProduce o qc → s.MayName o arg → s.rangeHeld arg 32 = true ∨ s.queueWaits qc = true →
      ∃ t, exec (.qmEnq o v) s = .next t ∧ Answered o t 0 ∧ t.queues = s.queues ∧ t.reg QM_QRES = s.reg QM_QRES ∧
        t.jobs = s.jobs ++ [{ queue := qc, job := .enqueue arg }]) ∧
    (s.Takes o QM_QCMD → ¬ s.MayConsume o qc → ∃ t, exec (.qmDeq o v) s = .next t ∧ Refused o s t) ∧
    (s.Takes o QM_QCMD → ¬ s.MayConsume o qc → ∃ t, exec (.qmPeek o v) s = .next t ∧ Refused o s t) ∧
    (s.Takes o QM_QCMD → s.MayConsume o qc → ∃ t, exec (.qmDeq o v) s = .next t ∧ Answered o t 0 ∧
      ((s.queue qc).vis = 0 → QueueResult s t true 0 ∧ t.queues = s.queues) ∧
      ((s.queue qc).vis ≠ 0 → QueueResult s t false head ∧ (t.queue qc).vis + 1 = (s.queue qc).vis ∧ t.queueCount qc + 1 = s.queueCount qc)) ∧
    (s.Takes o QM_QCMD → s.MayConsume o qc → ∃ t, exec (.qmPeek o v) s = .next t ∧ Answered o t 0 ∧ t.queues = s.queues ∧
      QueueResult s t (decide ((s.queue qc).vis = 0)) (if (s.queue qc).vis = 0 then 0 else head)) ∧
    (s.Takes o QM_QCMD → s.MayConsume o qc ∨ s.MayProduce o qc → ∃ t, exec (.qmLen o v) s = .next t ∧ Answered o t 0 ∧ t.queues = s.queues ∧
      QueueResult s t false (s.queueCount qc)) ∧
    (∀ r : Fin 4, s.Takes o (if r = 0 then QM_QRING qi else if r = 1 then QM_QCFG qi else if r = 2 then QM_QSPILL qi else QM_QSPLEN qi) →
      s.queueCount qi ≠ 0 → ∃ t, exec (.queueConfigWrite r o v) s = .next t ∧ Refused o s t) ∧
    (s.Takes o (QM_QRING qi) → s.queueCount qi = 0 → v.toNat / 2 ^ 28 ≠ 1 → v.toNat / 2 ^ 28 ≤ 11 → v.toNat % 2 ^ 23 < 0x600000 →
      v.toNat % 2 ^ 23 % (32 * 2 ^ (v.toNat / 2 ^ 28)) = 0 → ∃ t, exec (.queueConfigWrite 0 o v) s = .next t ∧ Answered o t 0 ∧
        t.get (QM_QRING.RSZ qi) = v.toNat / 2 ^ 28 ∧ t.get (QM_QRING.BASE qi) = v.toNat % 2 ^ 23) ∧
    (s.Takes o (QM_QCFG qi) → s.queueCount qi = 0 → producerCode (v.toNat % 32) = true → consumerCode (v.toNat / 256 % 32) = true →
      ∃ t, exec (.queueConfigWrite 1 o v) s = .next t ∧ Answered o t 0 ∧ t.get (QM_QCFG.PROD qi) = v.toNat % 32 ∧
        t.get (QM_QCFG.CONS qi) = v.toNat / 256 % 32 ∧ OnlyRegs [QM_QCFG qi] s t) ∧
    (s.Takes o (QM_QSPILL qi) → s.queueCount qi = 0 → ∃ t, exec (.queueConfigWrite 2 o v) s = .next t ∧ Answered o t 0 ∧
      t.reg (QM_QSPILL qi) &&& 0xFFFFFFC0 = v &&& 0xFFFFFFC0 ∧ OnlyRegs [QM_QSPILL qi] s t) ∧
    (s.Takes o (QM_QSPLEN qi) → s.queueCount qi = 0 → v.toNat % 2 ^ 21 ≤ 0x1E0000 → v.toNat % 2 ^ 21 % 64 = 0 →
      ∃ t, exec (.queueConfigWrite 3 o v) s = .next t ∧ Answered o t 0 ∧ t.get (QM_QSPLEN.LEN qi) = v.toNat % 2 ^ 21) ∧
    (∀ cfg, s.Takes o (if cfg then QM_PCFG pi else QM_PBASE pi) → short → ∃ t, exec (.poolConfigWrite cfg o v) s = .next t ∧ Refused o s t) ∧
    (s.Takes o (QM_PBASE pi) → ¬ short → PoolLies (v.toNat % 2 ^ 23) (s.get (QM_PCFG.NBUF pi)) (s.get (QM_PCFG.BSZ pi)) →
      ∃ t, exec (.poolConfigWrite false o v) s = .next t ∧ Answered o t 0 ∧ t.get (QM_PBASE.BASE pi) = v.toNat % 2 ^ 23 ∧ OnlyRegs [QM_PBASE pi] s t) ∧
    (s.Takes o (QM_PBASE pi) → ¬ short → ¬ PoolLies (v.toNat % 2 ^ 23) (s.get (QM_PCFG.NBUF pi)) (s.get (QM_PCFG.BSZ pi)) →
      ∃ t, exec (.poolConfigWrite false o v) s = .next t ∧ Conflict o (QM_PBASE pi) s t) ∧
    (s.Takes o (QM_PCFG pi) → ¬ short → v.toNat % 16 ≤ 8 → PoolLies (s.get (QM_PBASE.BASE pi)) (v.toNat / 16 % 2 ^ 11) (v.toNat % 16) →
      ∃ t, exec (.poolConfigWrite true o v) s = .next t ∧ Answered o t 0 ∧ t.get (QM_PCFG.BSZ pi) = v.toNat % 16 ∧
        t.get (QM_PCFG.NBUF pi) = v.toNat / 16 % 2 ^ 11 ∧ OnlyRegs [QM_PCFG pi] s t) ∧
    (s.Takes o (QM_PCFG pi) → ¬ short → v.toNat % 16 ≤ 8 → ¬ PoolLies (s.get (QM_PBASE.BASE pi)) (v.toNat / 16 % 2 ^ 11) (v.toNat % 16) →
      ∃ t, exec (.poolConfigWrite true o v) s = .next t ∧ Conflict o (QM_PCFG pi) s t)

namespace Sys2Proof.Machine

/-- Port p passes frames: it is not bypassed and the clocks run (11 R553, 17 R843). -/
def State.PortOpen (s : State) (p : Nat) : Prop :=
  s.bypassed p = false ∧ s.on CLK_PLLSTAT.TCLKLK = true ∧ s.on CLK_PLLSTAT.CCLKLK = true

/-- Bit b of FPT_EVSRC of port p is set and its line is pending (11 R619). -/
def PortEvent (p b : Nat) (t : State) : Prop :=
  (t.reg (FPT_EVSRC p)).getLsbD b = true ∧ t.linePending (if b < 16 then 16 + 2 * p else 17 + 2 * p) = true

/-- Counter i of port p has counted one more (11 R620). -/
def PortCounted (p i : Nat) (s t : State) : Prop :=
  t.get (FPT_CNT.COUNT p i) = min (2 ^ 32 - 1) (s.get (FPT_CNT.COUNT p i) + 1)

/-- The Finder of port p takes action a on a frame of a direction, without the PTP correction (11 R563 to R566). -/
def State.Acts (s : State) (p : Nat) (egress : Bool) (f : List Byte) (a : Nat) : Prop :=
  s.finderAct p egress (s.finderRule p egress f) = a ∧ s.finderPtp p (s.finderRule p egress f) = false

/-- Port p has no redundancy role, and the Finder's decision names no recovery stream (11 R586, R590). -/
def State.PlainPath (s : State) (p : Nat) (r : Option Nat) : Prop :=
  s.get (FPT_RED.MODE p) = 0 ∧ ∀ k, r = some k → s.on (FPT_FRW6.RCVEN p k) = false

/-- Class c is the highest class of port p with a frame, of leader l's queue: frame i of its residue, with descriptor d; no gate
control holds it (11 R600, R610). -/
structure State.Serves (s : State) (p c lead l i : Nat) (d : List Byte) : Prop where
  open_ : s.PortOpen p
  top : ∀ c' < 8, c < c' → s.classLeader p c' lead = none ∧ ∀ x, (s.port p).core = some x → x.cls ≠ c'
  leader : s.classLeader p c lead = some l
  head : s.portHead l c p = some (i, d)
  clean : (s.readPortHead l c i).1 = true
  gates : s.on (FPT_GCTL.EN p) = false

end Sys2Proof.Machine

/-- 11 R552, R557, R563, R569, R571, R574, R576, R577, R600, R604 to R607, R616, 15 R754: a frame from the MAC that the Finder forwards goes unchanged to
the switch core, one that it drops does not, a copy without room is counted, a copy outside its contract is policed, and a short
frame ends spoilt; a forwarded frame of the switch core waits for its transmission and is then presented to the MAC; the head of a
class queue is presented with its SEQ taken by the ledger, and a tombstone, an old SEQ or an expired item is consumed; an injected
frame goes to the switch core. -/
def Sys2Proof.Machine.FramePassageHold : Prop :=
  ∀ (p c l lead : Fin 8) (b : Fin 32) (f ext d : List Byte) (i k : Nat) (x : CoreFrame) (s : State),
    (s.PortOpen p → 64 ≤ f.length → fcsGood f = true → s.Acts p false f 0 → s.PlainPath p none → ∀ runtf full late,
      ∃ t, exec (.frameReceived p b f runtf full late) s = .next t ∧ (t.port p).toCore = f ∧ PortCounted p 0 s t ∧ (∀ a, t.byte a = s.byte a)) ∧
    (s.PortOpen p → 64 ≤ f.length → fcsGood f = true → s.Acts p false f 1 → ∀ runtf full,
      ∃ t, exec (.frameReceived p b f runtf full false) s = .next t ∧ (t.port p).toCore = (s.port p).toCore ∧ PortCounted p 0 s t) ∧
    (s.PortOpen p → 64 ≤ f.length → fcsGood f = true → s.Acts p false f 2 → s.PlainPath p none → s.finderRule p false f ≠ none → ∀ runtf late,
      ∃ t, exec (.frameReceived p b f runtf true late) s = .next t ∧ (t.port p).toCore = f ∧ PortCounted p 2 s t ∧ PortEvent p 10 t ∧
        (∀ a, t.byte a = s.byte a)) ∧
    (s.PortOpen p → 64 ≤ f.length → fcsGood f = true → s.Acts p false f 2 → ∀ r, s.finderRule p false f = some r →
      s.on (FPT_FRW5.FLOWEN p r) = true → s.portEntry p 1 (s.get (FPT_FRW5.FLOW p r)) = some k → s.on (FPT_FTW0.POLICE p k) = true →
      s.bucket p k < f.length → ∀ runtf,
      ∃ t, exec (.frameReceived p b f runtf false false) s = .next t ∧ (t.port p).toCore = (s.port p).toCore ∧ PortCounted p 3 s t ∧
        PortEvent p 0 t ∧ t.reg (FPT_FTW1 p k) = s.reg (FPT_FTW1 p k) ∧ t.queues = s.queues) ∧
    (s.PortOpen p → f.length < 64 → ∀ full late, ∃ t, exec (.frameReceived p b f false full late) s = .next t ∧
      (t.port p).toCore = spoilFcs f ∧ PortCounted p 0 s t ∧ PortCounted p 16 s t) ∧
    (s.PortOpen p → (s.port p).core = none → s.Acts p true f 0 → s.PlainPath p (s.finderRule p true f) → ∀ full,
      ∃ t, exec (.frameFromSwitchCore p c f full) s = .next t ∧
        (t.port p).core = some { cls := c, bytes := f, rule := s.finderRule p true f } ∧ ∀ q : Part, q ≠ .framePorts → q.same s t) ∧
    (s.PortOpen p → (s.port p).core = none → s.Acts p true f 1 → ∀ full, exec (.frameFromSwitchCore p c f full) s = .next s) ∧
    (s.PortOpen p → (s.port p).core = some x → (∀ c' < 8, s.classLeader p c' lead = none) → x.cls < 8 → s.on (FPT_GCTL.EN p) = false →
      s.finderPtp p x.rule = false → (∀ r, x.rule = some r → s.on (FPT_FRW5.TSR p r) = false) →
      ∃ t, exec (.frameEmission p b lead ext false) s = .next t ∧ (t.port p).toMac = x.bytes ∧ (t.port p).core = none ∧ PortCounted p 5 s t) ∧
    (s.Serves p c lead l i d → descTomb d = false → s.ledgerOld p d = false → s.on (FPT_STAT.LINK p) = true → s.expired p d = false →
      descExt d = false → s.uncorrectable (descAddr d) (descLen d) = false → s.bufferHeld d = false → s.on (FPT_PTP.OSYNC p) = false → s.get (FPT_RED.MODE p) = 0 →
      (s.get (FPT_TSQ.CLSMASK p)).testBit c = false → ∃ t, exec (.frameEmission p b lead ext false) s = .next t ∧
        (t.port p).toMac = s.bytes (descAddr d) (descLen d) ∧ PortCounted p 5 s t ∧
        (∀ j, s.ledgerFor p d = some j → t.reg (FPT_FTW1 p j) = BitVec.ofNat 32 (descSeq d))) ∧
    (s.Serves p c lead l i d → descTomb d = true → ∃ t, exec (.frameEmission p b lead ext false) s = .next t ∧
      (t.port p).toMac = (s.port p).toMac ∧ PortCounted p 7 s t ∧ PortEvent p 4 t) ∧
    (s.Serves p c lead l i d → descTomb d = false → s.ledgerOld p d = true → ∃ t, exec (.frameEmission p b lead ext false) s = .next t ∧
      (t.port p).toMac = (s.port p).toMac ∧ PortCounted p 6 s t ∧ PortEvent p 3 t) ∧
    (s.PortOpen p → s.portHead l c p = some (i, d) → (s.readPortHead l c i).1 = true → descTomb d = false → s.ledgerOld p d = false → s.expired p d = true →
      ∃ t, exec (.expiryConversion p c l) s = .next t ∧ (t.port p).toMac = (s.port p).toMac ∧ PortCounted p 7 s t ∧ PortEvent p 4 t ∧
        (∀ j, s.ledgerFor p d = some j → t.reg (FPT_FTW1 p j) = BitVec.ofNat 32 (descSeq d))) ∧
    (s.PortOpen p → s.on (FPT_INJ.EN p) = true → s.headSlot (s.get (FPT_INJ.QUEUE p)) = some i → d = s.bytes i 32 → s.headHeld (s.get (FPT_INJ.QUEUE p)) = false →
      s.uncorrectable i 32 = false → descTomb d = false → descExt d = false → s.uncorrectable (descAddr d) (descLen d) = false → s.bufferHeld d = false → ∃ t, exec (.injectedFrame p ext) s = .next t ∧
        (t.port p).toCore = s.bytes (descAddr d) (descLen d))

/-- 11 R554, R565, R570, R583, R588, R592, R594, R595, R603, R613, R617, R618, 08 R437: GO takes the gate list that the registers give with its change time, or
sets GERR; at its change time the list becomes active; a Finder rule is committed, waits and applies; a flow table entry is written
unless its flow has the role already; buckets refill; a change of BYP takes effect; MAC codes and edges, the residue and the link
delay reach their registers; old entries of the redundancy tables go, and a silent recovery stream takes any number. -/
def Sys2Proof.Machine.FrameControlHold : Prop :=
  ∀ (p : Fin 8) (g : Fin 4) (o : Origin) (v : Word) (s : State),
    (s.Takes o (FPT_GCTL p) → s.goRefused p = true → ∃ t, exec (.go p o v) s = .next t ∧ Answered o t 0 ∧ t.on (FPT_GCTL.GERR p) = true ∧
      t.on (FPT_GCTL.PENDING p) = s.on (FPT_GCTL.PENDING p) ∧ PortEvent p 7 t ∧ t.ports = s.ports) ∧
    (s.Takes o (FPT_GCTL p) → s.goRefused p = false →
      let base := ofTime96 (s.reg (FPT_GBASE2 p) ++ s.reg (FPT_GBASE1 p) ++ s.reg (FPT_GBASE0 p))
      let cyc := s.get (FPT_GCYC.CYC p) * 65536
      ∃ t, exec (.go p o v) s = .next t ∧ Answered o t 0 ∧ t.on (FPT_GCTL.PENDING p) = true ∧ (t.port p).gates = (s.port p).gates ∧
        (t.port p).nextGates.start = s.get (FPT_GLIST.START p) ∧ (t.port p).nextGates.len = s.get (FPT_GLIST.LEN p) ∧
        (t.port p).nextGates.cyc = s.get (FPT_GCYC.CYC p) ∧ (t.port p).nextGates.x % cyc = base % cyc ∧
        base ≤ (t.port p).nextGates.x ∧ s.now + 65536000 ≤ (t.port p).nextGates.x ∧
        ((t.port p).nextGates.x = base ∨ (t.port p).nextGates.x < s.now + 65536000 + cyc)) ∧
    (s.on (FPT_GCTL.PENDING p) = true → s.on CLK_PLLSTAT.TCLKLK = true → s.on CLK_PLLSTAT.CCLKLK = true → (s.port p).nextGates.x ≤ s.now →
      ∃ t, exec (.gateListChange p) s = .next t ∧ (t.port p).gates = (s.port p).nextGates ∧ t.on (FPT_GCTL.PENDING p) = false ∧
        t.reg (FPT_GACT p) = BitVec.ofNat 32 (256 * (s.port p).nextGates.len + (s.port p).nextGates.start) ∧ PortEvent p 6 t) ∧
    (let r := s.get (FPT_FRIDX.RULE p)
     s.Takes o (FPT_FRW6 p r) →
      ((s.port p).ruleWait ≠ none → ∃ t, exec (.finderRuleCommit p o v) s = .next t ∧ Refused o s t) ∧
      ((s.port p).ruleWait = none → ∃ t, exec (.finderRuleCommit p o v) s = .next t ∧ Answered o t 0 ∧ t.on (FPT_STAT.FRPEND p) = true ∧
        (∃ ws, (t.port p).ruleWait = some (r, ws) ∧ ws.length = 7 ∧ ws[6]? = some v) ∧ OnlyRegs [FPT_STAT p] { s with ports := t.ports } t)) ∧
    (∀ r ws, (s.port p).ruleWait = some (r, ws) → r < 256 → ws.length = 7 → s.flows = [] → ∃ t, exec (.finderRuleApply p) s = .next t ∧
      t.on (FPT_STAT.FRPEND p) = false ∧ (t.port p).ruleWait = none ∧ (∀ w (h : w < ws.length), w < 4 → t.reg (FPT_FRW0 p r + 4 * w) = ws[w]) ∧
      (∀ h : 5 < ws.length, t.reg (FPT_FRW5 p r) = ws[5]) ∧ (∀ q k, q < 8 → k < 256 → ¬ (q = p.val ∧ k = r) → t.reg (FPT_FRW0 q k) = s.reg (FPT_FRW0 q k))) ∧
    (let k := s.get (FPT_FTIDX.ENTRY p)
     let w0 := s.entryWord p k 0
     s.Takes o (FPT_FTW3 p k) →
      (s.entryClashes p k w0 = true → ∃ t, exec (.flowTableCommit p o v) s = .next t ∧ Conflict o (FPT_FTW3 p k) s t ∧ t.buckets = s.buckets ∧
        ∀ j < 512, t.reg (FPT_FTW0 p j) = s.reg (FPT_FTW0 p j) ∧ t.reg (FPT_FTW3 p j) = s.reg (FPT_FTW3 p j)) ∧
      (s.entryClashes p k w0 = false → ∃ t, exec (.flowTableCommit p o v) s = .next t ∧ Answered o t 0 ∧ t.reg (FPT_FTW0 p k) = w0 &&& 0x7FFF ∧
        t.reg (FPT_FTW1 p k) = s.entryWord p k 1 ∧ t.reg (FPT_FTW2 p k) = s.entryWord p k 2 &&& 0xFFFFFF ∧ t.reg (FPT_FTW3 p k) = v &&& 0xFFFFFF ∧
        t.bucket p k ≤ v.toNat % 2 ^ 24 ∧ ∀ j < 512, j ≠ k → t.reg (FPT_FTW0 p j) = s.reg (FPT_FTW0 p j) ∧ t.bucket p j = s.bucket p j)) ∧
    (s.on CLK_PLLSTAT.TCLKLK = true → s.on CLK_PLLSTAT.CCLKLK = true → (s.port p).refillEdge + 500000 ≤ s.rgl.edge →
      ∃ t, exec (.bucketRefill p) s = .next t ∧ t.regs = s.regs ∧ ∀ q < 8, ∀ k < 512, t.bucket q k =
        if q = p.val ∧ s.get (FPT_FTW0.ROLE p k) = 1 then min (s.get (FPT_FTW3.BURST p k)) (s.bucket p k + s.get (FPT_FTW2.RATE p k)) else s.bucket q k) ∧
    (∃ t, exec (.bypassChange p) s = .next t ∧ t.regs = s.regs ∧ (s.ifcOn = true → s.get CLU_STAT.STATE = 2 → t.bypassed p = s.on (FPT_CTL.BYP p)) ∧
      ∀ q : Part, q ≠ .framePorts → q.same s t) ∧
    (s.ifcOn = true → s.get CLU_STAT.STATE ≠ 0 → s.on CLK_PLLSTAT.TCLKLK = true → s.on CLK_PLLSTAT.CCLKLK = true → ∀ code : Fin 16,
      ∃ t, exec (.macStatisticsCode p code) s = .next t ∧
        (1 ≤ code.val → code.val ≤ 9 → PortCounted p (16 + code) s t ∧ OnlyRegs [FPT_CNT p (16 + code)] s t) ∧
        (code.val = 0xE → t.on (FPT_STAT.LINK p) = true ∧ PortEvent p 16 t) ∧ (code.val = 0xF → t.on (FPT_STAT.LINK p) = false ∧ PortEvent p 17 t) ∧
        (code.val = 0 ∨ 0xA ≤ code.val ∧ code.val ≤ 0xD → t = s)) ∧
    (s.ifcOn = true → s.get CLU_STAT.STATE ≠ 0 → ∃ t, exec (.macWakeEdge p) s = .next t ∧ (t.reg (FPT_EVSRC p)).getLsbD 18 = true ∧
      ((s.line (17 + 2 * p)).caught ≠ some s.rgl.edge → PortEvent p 18 t)) ∧
    (s.ifcOn = false → ∃ t, exec (.macWakeEdge p) s = .next t ∧
      (t.reg EVC_WAKELAT1).getLsbD (24 + p) = ((s.reg EVC_WAKELAT1).getLsbD (24 + p) || (s.reg EVC_WAKEEN1).getLsbD (24 + p)) ∧
      OnlyRegs [EVC_WAKELAT1] s t) ∧
    (s.PortOpen p → ∀ mask, ∃ t, exec (.residueIndication p mask) s = .next t ∧ t.get (FPT_MCRES.PORTS p) = s.get (FPT_MCRES.PORTS p) ||| mask.toNat ∧
      PortEvent p 5 t) ∧
    (let a := s.get (FPT_PTP.LDADDR p) / 4 * 4
     s.on (FPT_PTP.LDSRC p) = true → s.on CLK_PLLSTAT.TCLKLK = true → s.on CLK_PLLSTAT.CCLKLK = true →
      (s.port p).delayEdge + 500000 ≤ s.rgl.edge → s.rangeHeld a 4 = false → ∃ t u, exec (.linkDelayCopy p true) s = .next t ∧ exec (.linkDelayCopy p false) s = .next u ∧
        u.regs = s.regs ∧ t.mem = s.mem ∧ (s.uncorrectable a 4 = false → (t.reg (FPT_LINKDLY p)).toNat = s.number a 4) ∧
        (s.uncorrectable a 4 = true → t.reg (FPT_LINKDLY p) = s.reg (FPT_LINKDLY p) ∧ t.on PLT_ECCSTAT.UEV = true)) ∧
    (∃ t, exec (.duplicateEntryExpiry g) s = .next t ∧ t.regs = s.regs ∧ (t.group g).proxies = (s.group g).proxies ∧
      (∀ d, d ∈ (t.group g).duplicates ↔ d ∈ (s.group g).duplicates ∧ s.rgl.edge < d.edge + max 1 (s.get (FPT_RGRP.FORGET g)) * 500000) ∧
      ∀ j, j ≠ g.val → t.group j = s.group j) ∧
    (∃ t, exec (.proxyEntryExpiry g) s = .next t ∧ t.regs = s.regs ∧ (t.group g).duplicates = (s.group g).duplicates ∧
      (∀ x, x ∈ (t.group g).proxies ↔ x ∈ (s.group g).proxies ∧ s.rgl.edge < x.2 + 30000000000) ∧ ∀ j, j ≠ g.val → t.group j = s.group j) ∧
    (∀ i : Fin 32, ∃ t, exec (.recoveryStreamReset p i) s = .next t ∧ t.regs = s.regs ∧
      (t.stream p i).takeAny = ((s.stream p i).takeAny ||
        decide ((s.stream p i).edge + max 1 (s.get (FPT_RCVCFG.RESET p i)) * 500000 ≤ s.rgl.edge)) ∧
      (t.stream p i).seq = (s.stream p i).seq ∧ (t.stream p i).history = (s.stream p i).history)

/-- The frame ports: the passage of frames, and what governs it. -/
def Obligations.FrameCommands : Prop := FramePassageHold ∧ FrameControlHold

namespace Sys2Proof.Machine

/-- Channel c runs and may take a trigger at sample n with samples n − 19 to n + 7, of the polarity that POL enables (13 R671, R675). -/
structure State.Triggers (s : State) (c n : Nat) (xs : List Int) : Prop where
  run : s.get (OCC_CHSTAT.STATE c) = 2
  tclk : s.on CLK_PLLSTAT.TCLKLK = true
  cclk : s.on CLK_PLLSTAT.CCLKLK = true
  count : xs.length = 27
  enabled : s.get (OCC_CHCTL.POL c) ≠ 0
  next : (s.channel c).next ≤ n
  held : s.samplesIn c n = true
  free : (s.channel c).front = none
  rises : (s.get (OCC_THR.THR c) : Int) ≤ polarity (s.get (OCC_CHCTL.POL c)) xs * (xs.getD 19 0 - xs.getD 15 0)

/-- m* − n of a front (13 R672): the lowest steepest point of n to n + 7. -/
def Steepest (xs : List Int) (sigma : Int) (m : Nat) : Prop :=
  m < 8 ∧ (∀ j < 8, sigma * (xs.getD (19 + j) 0 - xs.getD (15 + j) 0) ≤ sigma * (xs.getD (19 + m) 0 - xs.getD (15 + m) 0)) ∧
    ∀ j < m, sigma * (xs.getD (19 + j) 0 - xs.getD (15 + j) 0) < sigma * (xs.getD (19 + m) 0 - xs.getD (15 + m) 0)

/-- B, S and D of a front whose steepest point is n + m (13 R672). -/
def frontB (xs : List Int) : ℚ := ((xs.take 16).sum : ℚ) / 16
def frontS (xs : List Int) (m : Nat) : ℚ :=
  ((-2 * xs.getD (15 + m) 0 - xs.getD (16 + m) 0 + xs.getD (18 + m) 0 + 2 * xs.getD (19 + m) 0 : Int) : ℚ) / 10
def frontD (xs : List Int) (m : Nat) : ℚ :=
  ((xs.getD (15 + m) 0 + xs.getD (16 + m) 0 + xs.getD (17 + m) 0 + xs.getD (18 + m) 0 + xs.getD (19 + m) 0 : Int) : ℚ) / 5 - frontB xs

/-- The front is accepted (13 R673). -/
def Accepted (xs : List Int) (sigma : Int) (m : Nat) : Prop :=
  0 < sigma * frontD xs m ∧ 0 < sigma * frontS xs m ∧ frontD xs m / frontS xs m ≤ 10

end Sys2Proof.Machine

/-- 13 R665, R671 to R674: at a trigger a front outside the acceptance region is counted as rejected, and any other waits for its record
with its steepest point, its rise and an arrival instant that is a multiple of 62.5 ps, nearest to the point where the fitted line
meets the baseline. -/
def Sys2Proof.Machine.FrontHold : Prop :=
  ∀ (c : Fin 3) (n m : Nat) (words : List (BitVec 16)) (s : State),
    let xs := words.map fun w => (if s.on (OCC_CHCFG.FMT c) then w ^^^ 0x8000 else w).toInt
    let sigma := polarity (s.get (OCC_CHCTL.POL c)) xs
    s.Triggers c n xs → Steepest xs sigma m →
    (¬ Accepted xs sigma m → ∃ t, exec (.frontTrigger c n words false) s = .next t ∧ (t.channel c).front = none ∧
      t.get (OCC_CNT.REJ c) = min 255 (s.get (OCC_CNT.REJ c) + 1) ∧ (t.channel c).next = n + 8) ∧
    (Accepted xs sigma m → ∃ t f, exec (.frontTrigger c n words false) s = .next t ∧ (t.channel c).front = some f ∧ t.regs = s.regs ∧
      (t.channel c).next = n + 8 ∧ f.n = n ∧ f.steepest = n + m ∧
      (f.rise : Int) = sigma * (xs.getD (19 + m) 0 - xs.getD (15 + m) 0) ∧ (f.neg = true ↔ sigma = -1) ∧ f.at_ % 4096 = 0 ∧
      ∀ k a : ℚ, a = n + m - 2 - frontD xs m / frontS xs m → k = ⌊a⌋ →
        let t0 := s.sampleTime c ⌊a⌋.toNat
        let t1 := s.sampleTime c (⌊a⌋.toNat + 1)
        0 ≤ t0 → t0 ≤ t1 → |(f.at_ : ℚ) - (t0 + (a - k) * (t1 - t0))| ≤ 2048)

/-- 13 R667, R668, R675, R678 to R683, R686 to R689: TRAIN leads from any state to TRAINING and its end to RUN; a lost frame clock ends in LOST with
LANEERR; the mode and the armed window decide which front makes a record, which joins its queue, waits for it or is dropped; WARM arms a good
window and leaves an armed one; the window closes 1 µs after CLOSE; the configuration is written in OFF only. -/
def Sys2Proof.Machine.ChannelHold : Prop :=
  ∀ (c : Fin 3) (o : Origin) (v : Word) (snap : List (BitVec 16)) (f : Front) (s : State),
    let opens := ofTime96 (s.reg (OCC_WOPEN c 2) ++ s.reg (OCC_WOPEN c 1) ++ s.reg (OCC_WOPEN c 0))
    let shuts := ofTime96 (s.reg (OCC_WCLOSE c 2) ++ s.reg (OCC_WCLOSE c 1) ++ s.reg (OCC_WCLOSE c 0))
    let denied := s.ringOf o = some 2 ∧ s.on (OCC_CHCFG.HOSTW c) = false
    let mode := s.get (OCC_CHCTL.MODE c)
    let wanted := mode = 1 ∨ mode = 2 ∧ s.on (OCC_CHCTL.WARM c) = true ∧ opens ≤ f.at_ ∧ f.at_ < shuts
    (s.Takes o (OCC_CHCTL c) → denied → ∃ t, exec (.train c o v) s = .next t ∧ Refused o s t) ∧
    (s.Takes o (OCC_CHCTL c) → denied → ∃ t, exec (.warm c o v) s = .next t ∧ Refused o s t) ∧
    (s.Takes o (OCC_CHCTL c) → ¬ denied → ∃ t, exec (.train c o v) s = .next t ∧ Answered o t 0 ∧ t.get (OCC_CHSTAT.STATE c) = 1) ∧
    (s.get (OCC_CHSTAT.STATE c) = 1 → s.on CLK_PLLSTAT.TCLKLK = true → s.on CLK_PLLSTAT.CCLKLK = true →
      ∃ t, exec (.trainingComplete c) s = .next t ∧ t.get (OCC_CHSTAT.STATE c) = 2 ∧ ∀ k, k ≠ OCC_CHSTAT c → t.reg k = s.reg k) ∧
    (s.get (OCC_CHSTAT.STATE c) = 2 → s.on CLK_PLLSTAT.TCLKLK = true → s.on CLK_PLLSTAT.CCLKLK = true →
      ((s.stampPoint (112 + c)).riseAt.getD 0 + 1600 ≤ 32 * s.rgl.edge ∧ 32 * (s.channel c).runEdge + 1600 ≤ 32 * s.rgl.edge ∨
        (s.channel c).edges ≠ [] ∧ (s.get (OCC_CHSTAT.FCPER c) < 192 ∨ 409 < s.get (OCC_CHSTAT.FCPER c))) →
      ∃ t, exec (.channelLost c) s = .next t ∧ t.get (OCC_CHSTAT.STATE c) = 3 ∧ t.on (OCC_CHSTAT.LANEERR c) = true ∧
        t.linePending (104 + c) = true) ∧
    ((s.channel c).front = some f → s.on CLK_PLLSTAT.TCLKLK = true → s.on CLK_PLLSTAT.CCLKLK = true → ¬ wanted →
      ∃ t, exec (.arrivalRecord c snap) s = .next t ∧ (t.channel c).front = none ∧ (t.channel c).next = (s.channel c).next ∧
        t.get (OCC_CNT.OUTW c) = (if mode = 2 then min 255 (s.get (OCC_CNT.OUTW c) + 1) else s.get (OCC_CNT.OUTW c)) ∧ t.queues = s.queues) ∧
    (let q := s.get (OCC_CHCFG.QUEUE c)
     (s.channel c).front = some f → s.on CLK_PLLSTAT.TCLKLK = true → s.on CLK_PLLSTAT.CCLKLK = true → wanted →
      ∃ t, exec (.arrivalRecord c snap) s = .next t ∧ (t.channel c).front = none ∧
        (t.channel c).next = f.steepest + s.get (OCC_THR.HOLD c) ∧ (t.channel c).seq = ((s.channel c).seq + 1) % 2 ^ 32 ∧
        t.on (OCC_CHSTAT.ARR c) = true ∧ t.linePending (104 + c) = true ∧
        (s.queueWaits q = true ∨ s.on (OCC_CHCFG.SNAP c) = true ∧ s.poolHeld (s.get (OCC_CHCFG.POOL c)) = true →
          t.queues = s.queues ∧ ∃ job, t.jobs = s.jobs ++ [{ queue := q, job }]) ∧
        (s.on (OCC_CHCFG.SNAP c) = false → s.queueWaits q = false → s.Accepts q → t.queueCount q = s.queueCount q + 1 ∧ t.on (OCC_CHSTAT.DROP c) = s.on (OCC_CHSTAT.DROP c)) ∧
        (s.on (OCC_CHCFG.SNAP c) = false → s.queueWaits q = false → s.queueRefuses q = true → t.queueCount q = s.queueCount q ∧ t.on (OCC_CHSTAT.DROP c) = true)) ∧
    (s.Takes o (OCC_CHCTL c) → ¬ denied → v.getLsbD 0 = false → ∃ t, exec (.warm c o v) s = .next t ∧ Answered o t 0 ∧
      (s.on (OCC_CHCTL.WARM c) = true → t.on (OCC_CHCTL.WARM c) = true ∧ t.channels = s.channels) ∧
      (s.on (OCC_CHCTL.WARM c) = false →
        let good := opens < shuts ∧ (s.reg (OCC_WOPEN c 1) ++ s.reg (OCC_WOPEN c 0)).toNat / 65536 % 2 ^ 32 ≤ 999999999 ∧
          (s.reg (OCC_WCLOSE c 1) ++ s.reg (OCC_WCLOSE c 0)).toNat / 65536 % 2 ^ 32 ≤ 999999999
        (good → t.on (OCC_CHCTL.WARM c) = true ∧ (t.channel c).made = false) ∧
        (¬ good → t.on (OCC_CHCTL.WARM c) = false ∧ t.on (OCC_CHSTAT.WERR c) = true))) ∧
    (s.on (OCC_CHCTL.WARM c) = true → s.on CLK_PLLSTAT.TCLKLK = true → s.on CLK_PLLSTAT.CCLKLK = true → shuts + 65536000 ≤ s.now →
      ∃ t, exec (.windowClose c) s = .next t ∧ t.on (OCC_CHCTL.WARM c) = false ∧
        ((s.channel c).made = true → t.reg (OCC_CHSTAT c) = s.reg (OCC_CHSTAT c) ∧ ∀ p : Part, p.same s t) ∧
        ((s.channel c).made = false → t.on (OCC_CHSTAT.WEMPTY c) = true ∧ t.linePending (104 + c) = true)) ∧
    (s.Takes o (OCC_CHCFG c) → s.get (OCC_CHSTAT.STATE c) ≠ 0 → ∃ t, exec (.occChcfgWrite c o v) s = .next t ∧ Refused o s t) ∧
    (s.Takes o (OCC_CHCFG c) → s.get (OCC_CHSTAT.STATE c) = 0 → ∃ t, exec (.occChcfgWrite c o v) s = .next t ∧ Answered o t 0 ∧
      t.get (OCC_CHCFG.QUEUE c) = v.toNat % 1024 ∧ t.get (OCC_CHCFG.POOL c) = v.toNat / 2 ^ 12 % 32 ∧
      t.get (OCC_CHCFG.FLOW c) = v.toNat / 2 ^ 17 % 4096 ∧ (t.reg (OCC_CHCFG c)).toNat / 2 ^ 29 = v.toNat / 2 ^ 29 ∧ OnlyRegs [OCC_CHCFG c] s t)

/-- The Occultation channels: fronts, records, windows and channel states. -/
def Obligations.OccultationCommands : Prop := FrontHold ∧ ChannelHold

namespace Sys2Proof.Machine

/-! ## The vocabulary of the statements about the mailbox -/

/-- Command c with a code is in progress, and the Assistant pair executes it (09 R473, 15 R773, R783). -/
structure State.Executes (s : State) (c : MailCommand) (code : Nat) : Prop where
  command : s.assistant.command = some c
  codeIs : c.code = code
  lockstep : s.on AST_STAT.LOCKSTEP = true
  tclk : s.on CLK_PLLSTAT.TCLKLK = true
  cclk : s.on CLK_PLLSTAT.CCLKLK = true
  connected : s.get CLU_STAT.STATE ≠ 7
  free : s.assistant.upgrade = none

/-- A row of the table under R735: the command, its code, the ring that it requires, whether it runs in first light and in every state,
how many arguments it takes, and whether it is a logged change (R737). `row` takes the bytes in external memory and an ERROR response. -/
structure MailRow where
  row : List Byte → Bool → Instr
  code : Nat
  ring : State → Nat := fun _ => 2
  firstLight : Bool := false
  always : Bool := false
  arity : Nat
  changes : Bool := true

/-- The ring of a command on an object: 2 if its HOSTM is 1, else 1. -/
def hostRing (type : Nat) (obj : State → Nat) (s : State) : Nat := if s.hostManaged type (obj s) then 2 else 1

/-- The table under R735. -/
def mailRows : List MailRow :=
  [ { row := fun _ _ => .nop, code := 0x00, always := true, arity := 0, changes := false },
    { row := fun _ _ => .load, code := 0x10, firstLight := true, arity := 0 },
    { row := fun _ _ => .amend, code := 0x11, arity := 2 },
    { row := fun x e => .check x e, code := 0x12, firstLight := true, arity := 3, changes := false },
    { row := fun _ _ => .admitFlow, code := 0x20, ring := hostRing 7 fun s => (s.arg 0).toNat, arity := 1 },
    { row := fun _ _ => .withdraw, code := 0x21, ring := hostRing 7 fun s => (s.arg 0).toNat, arity := 1 },
    { row := fun _ _ => .flowquery, code := 0x22, arity := 1, changes := false },
    { row := fun _ _ => .capquery, code := 0x30, arity := 1, changes := false },
    { row := fun _ _ => .grant, code := 0x31, arity := 5,
      ring := fun s => hostRing ((s.arg 1).toNat % 16) (fun s => (s.arg 1).toNat / 16 % 65536) s },
    { row := fun _ _ => .revoke, code := 0x32, arity := 1,
      ring := fun s => hostRing ((s.arg 0).toNat % 16) (fun s => (s.arg 0).toNat / 16 % 65536) s },
    { row := fun _ _ => .failover, code := 0x40, ring := fun _ => 1, arity := 1 },
    { row := fun _ _ => .upgrade, code := 0x41, ring := fun _ => 1, arity := 2 },
    { row := fun _ _ => .keygen, code := 0x50, ring := hostRing 8 fun s => (s.arg 0).toNat, firstLight := true, arity := 2 },
    { row := fun _ _ => .keyload, code := 0x51, ring := hostRing 8 fun s => (s.arg 0).toNat, firstLight := true, arity := 3 },
    { row := fun _ _ => .keyerase, code := 0x52, ring := hostRing 8 fun s => (s.arg 0).toNat, firstLight := true, arity := 1 },
    { row := fun _ _ => .lcadvance, code := 0x58, firstLight := true, arity := 2 },
    { row := fun _ _ => .dbgunlock, code := 0x60, always := true, arity := 1 },
    { row := fun _ _ => .dbglock, code := 0x61, ring := fun _ => 1, always := true, arity := 0 },
    { row := fun _ _ => .logspill, code := 0x70, firstLight := true, arity := 3, changes := false },
    { row := fun _ _ => .logread, code := 0x71, always := true, arity := 1, changes := false } ]

/-- The row runs in the present cluster state: 2 first light, 3 service. -/
abbrev MailRow.runs (r : MailRow) (s : State) : Prop :=
  r.always = true ∨ s.get CLU_STAT.STATE = 3 ∨ r.firstLight = true ∧ s.get CLU_STAT.STATE = 2

/-- The arguments that the row does not list are 0. -/
abbrev MailRow.zeros (r : MailRow) (s : State) : Prop := ∀ i < 8, r.arity ≤ i → s.reg (AST_MBOX_ARG i) = 0

/-- From s to t the command in progress, c, has completed with a result (15 `AST_MBOX_STAT`). -/
structure Returned (c : MailCommand) (result : Nat) (s t : State) : Prop where
  done : t.assistant.command = none
  busy : t.on AST_MBOX_STAT.BUSY = false
  seq : t.get AST_MBOX_STAT.SEQ = (s.get AST_MBOX_STAT.SEQ + 1) % 128
  origin : t.get AST_MBOX_STAT.ORIGIN = originCode c.origin
  code : t.get AST_MBOX_STAT.CODE = c.code % 256
  result : t.get AST_MBOX_STAT.RESULT = result

/-- ARG0 and on hold some words. -/
def Returns (t : State) (ws : List Word) : Prop := ∀ i (h : i < ws.length), t.reg (AST_MBOX_ARG i) = ws[i]

/-- A command that its checks let through (14 R735, R737, 09 R472), and that no held plate keeps waiting (04 R219, 10 R493). -/
structure State.Passes (s : State) (c : MailCommand) (code : Nat) : Prop extends s.Executes c code where
  rows : ∀ r ∈ mailRows, r.code = code → c.ring ≤ r.ring s ∧ r.runs s ∧ r.zeros s ∧ (r.changes = true → s.logRefuses c.origin = false)
  args : s.mailArgs code = true
  open_ : s.mailHeld code = false

/-- The pair's own parts: nothing else changes but what the tick has done. -/
def OnlyMail (s t : State) : Prop := ∀ p : Part, p ≠ .answers → p ≠ .security → p ≠ .assistant → p ≠ .tick → p.same s t

/-- The state in which the commands of a tick begin: none before it has bumped a generation, filled or emptied a slot or claimed a line. -/
def State.tickBegins (s : State) : State := { s with tick := { active := true } }

/-- Every register but those of the mailbox is as it was. -/
def MailRegs (s t : State) : Prop := ∀ k, k ≠ AST_MBOX_STAT → (∀ i < 8, k ≠ AST_MBOX_ARG i) → t.reg k = s.reg k

end Sys2Proof.Machine

/-- 14 R735, R737, 09 R472: of every mailbox command, a ring above the one it requires returns DENIED with ARG0 = 1, a cluster state in
which it does not run returns STATE, an argument that its row does not list returns BADARG unless it is 0, and the strict Logbook
policy on a full ring returns DENIED with ARG0 = 2 (the order in which these are found is the model's choice, log entry 61); a
code that the table does not list returns UNKNOWN. A command that reads bytes of a plate that admits no new access waits. -/
def Obligations.MailboxChecks : Prop :=
  (∀ r ∈ mailRows, ∀ ext err c s, s.Executes c r.code →
    (r.ring s < c.ring → ∃ t, exec (r.row ext err) s = .next t ∧ Returned c 1 s t ∧ Returns t [1] ∧ OnlyMail s t) ∧
    (c.ring ≤ r.ring s → ¬ r.runs s → ∃ t, exec (r.row ext err) s = .next t ∧ Returned c 4 s t ∧ OnlyMail s t) ∧
    (c.ring ≤ r.ring s → r.runs s → ¬ r.zeros s → ∃ t, exec (r.row ext err) s = .next t ∧ Returned c 3 s t ∧ OnlyMail s t) ∧
    (c.ring ≤ r.ring s → r.runs s → s.mailArgs r.code = false → ∃ t, exec (r.row ext err) s = .next t ∧ Returned c 3 s t ∧ OnlyMail s t) ∧
    (c.ring ≤ r.ring s → r.runs s → r.zeros s → s.mailArgs r.code = true → r.changes = true → s.logRefuses c.origin = true →
      ∃ t, exec (r.row ext err) s = .next t ∧ Returned c 1 s t ∧ Returns t [2] ∧ OnlyMail s t) ∧
    (c.ring ≤ r.ring s → r.runs s → r.zeros s → s.mailArgs r.code = true → (r.changes = true → s.logRefuses c.origin = false) →
      s.mailHeld r.code = true → ∃ t, exec (r.row ext err) s = .next t ∧ t.assistant = s.assistant ∧ t.regs = s.regs ∧ OnlyMail s t)) ∧
  (∀ c s, s.Executes c c.code → (∀ r ∈ mailRows, r.code ≠ c.code) →
    ∃ t, exec .unknownCommand s = .next t ∧ Returned c 2 s t ∧ MailRegs s t ∧ ∀ p : Part, p ≠ .assistant → p.same s t)

/-- 14 R721 to R724, 09 R473 to R475, R459, 18 R888: NOP, the flow commands, the capability commands and LOGREAD return what their rows give:
NOP CLU_STEP; ADMIT proves a latent flow and makes it active, or asks for its rule; WITHDRAW stops an active flow; FLOWQUERY and
CAPQUERY read; GRANT installs a capability at the object's GEN or returns CONFLICT and registers EV252; REVOKE bumps the GEN; LOGREAD reads a record. -/
def Sys2Proof.Machine.MailFlowsHold : Prop :=
  ∀ (c : MailCommand) (s : State),
    let a := (s.reg (AST_MBOX_ARG 0)).toNat
    (s.Passes c 0x00 → ∃ t, exec .nop s = .next t ∧ Returned c 0 s t ∧ Returns t [s.reg CLU_STEP] ∧ MailRegs s t) ∧
    (s.Passes c 0x20 → (∀ g ∈ s.flowNumbers, g < 4096) →
      (s.flowState a = 0 → ∃ t, exec .admitFlow s = .next t ∧ Returned c 0x0C s t ∧ MailRegs s t) ∧
      (s.flowState a ≠ 0 → s.flowState a ≠ 1 → ∃ t, exec .admitFlow s = .next t ∧ Returned c 4 s t ∧ MailRegs s t) ∧
      (s.flowState a = 1 → ∀ e, s.verify (a :: s.activeFlows) = .error e → ∃ t, exec .admitFlow s = .next t ∧ Returned c 0x0A s t ∧
        t.flowState a = 1 ∧ t.on (ADM_FSTATE.REFUSED a) = true ∧ t.get (ADM_FSTATE.LASTRES a) = 0x0A ∧
        Returns t [0xFFFFFFFF, s.flowWord a 3, BitVec.ofNat 32 (e.code + 256 * e.arg.getD 0)]) ∧
      (s.flowState a = 1 → ∀ vs, s.verify (a :: s.activeFlows) = .ok vs → (s.putVerdicts vs).createEntries a = none →
        ∃ t, exec .admitFlow s = .next t ∧ Returned c 0x0B s t ∧ t.flowState a = 1 ∧ t.get (ADM_FSTATE.LASTRES a) = 0x0B) ∧
      (s.flowState a = 1 → ∀ vs, s.verify (a :: s.activeFlows) = .ok vs → (s.putVerdicts vs).createEntries a ≠ none →
        ∃ t, exec .admitFlow s = .next t ∧ Returned c 0 s t ∧ Returns t [t.reg (ADM_FBOUND a), s.flowWord a 3] ∧
          (s.flowSrck a ≠ 0 → t.flowState a = 2) ∧ (s.flowSrck a = 0 → (t.flow a).asked = 1))) ∧
    (s.Passes c 0x21 → (∀ g ∈ s.flowNumbers, g < 4096) →
      (s.flowState a = 0 → ∃ t, exec .withdraw s = .next t ∧ Returned c 0x0C s t ∧ MailRegs s t) ∧
      (s.flowState a ≠ 0 → s.flowState a ≠ 2 → ∃ t, exec .withdraw s = .next t ∧ Returned c 4 s t ∧ MailRegs s t) ∧
      (s.flowState a = 2 → ∃ t, exec .withdraw s = .next t ∧ Returned c 0 s t ∧
        Returns t [BitVec.ofNat 32 (s.itemsAccepted a + (s.flow a).inFlight)] ∧
        (s.flowSrck a ≠ 0 → t.flowState a = 3) ∧ (s.flowSrck a = 0 → (t.flow a).asked = 2))) ∧
    (s.Passes c 0x22 → ∃ t, exec .flowquery s = .next t ∧ MailRegs s t ∧ (s.flowState a = 0 → Returned c 0x0C s t) ∧
      (s.flowState a ≠ 0 → Returned c 0 s t ∧ Returns t [s.reg (ADM_FSTATE a), s.reg (ADM_FBOUND a), s.flowWord a 3])) ∧
    (s.Passes c 0x30 → ∃ t, exec .capquery s = .next t ∧ Returned c 0 s t ∧ MailRegs s t ∧
      (a < 2 ^ 31 → Returns t [BitVec.ofNat 32 (s.gen (a % 16) (a / 16 % 65536) + 65536 * bit (s.hostManaged (a % 16) (a / 16 % 65536)))]) ∧
      (2 ^ 31 ≤ a → Returns t ((List.range 4).map fun i => s.reg (CAP_W (a % 16) (a / 16 % 32) i)))) ∧
    (let e := a % 16
     let k := a / 16 % 32
     let cap := s.issued s.argCap
     s.Passes c 0x31 →
      ((s.grantAllowed e s.argCap = false ∨ s.grantClashes e cap = true) → ∃ t, exec .grant s = .next t ∧ Returned c 9 s t ∧ t.linePending 252 = true ∧
        t.engines = s.engines ∧ ∀ y < 12, ∀ j < 17, t.cap y j = s.cap y j) ∧
      (s.grantAllowed e s.argCap = true → s.grantClashes e cap = false → ∃ t, exec .grant s = .next t ∧ Returned c 0 s t ∧
        (s.get (ENG_STAT.STATE e) ≠ 1 → t.cap e k = cap ∧ ∀ y < 12, ∀ j < 17, ¬ (y = e ∧ j = k) → t.cap y j = s.cap y j) ∧
        (s.get (ENG_STAT.STATE e) = 1 → (t.eng e).capWrites = (s.eng e).capWrites ++ [(k, cap)] ∧ ∀ y < 12, ∀ j < 17, t.cap y j = s.cap y j))) ∧
    (let g := s.gen (a % 16) (a / 16)
     s.Passes c 0x32 → (∀ p, capEntryAt (a % 16) (a / 16) = some p → s.uncorrectable p 4 = false) → ∃ t, exec .revoke s = .next t ∧ Returned c 0 s t ∧ Returns t [BitVec.ofNat 32 (t.gen (a % 16) (a / 16))] ∧
      t.gen (a % 16) (a / 16) = if g = 0 ∨ g = 0xFFFF then g else g + 1) ∧
    (let back := (s.reg LOG_HEAD - s.reg (AST_MBOX_ARG 0)).toNat
     let at_ := 32 * (a % 1024)
     let kept := 1 ≤ back ∧ back ≤ 1024 ∧ back ≤ (s.reg LOG_HEAD - s.reg LOG_BASE).toNat
     s.Passes c 0x71 →
      (¬ kept → ∃ t, exec .logread s = .next t ∧ Returned c 0x10 s t ∧ MailRegs s t) ∧
      (kept → s.uncorrectable at_ 32 = false → ∃ t, exec .logread s = .next t ∧ Returned c 0 s t ∧ t.mem = s.mem ∧
        Returns t ((List.range 8).map fun i => BitVec.ofNat 32 (s.number (at_ + 4 * i) 4))) ∧
      (kept → s.uncorrectable at_ 32 = true → ∃ t, exec .logread s = .next t ∧ Returned c 0x0D s t ∧ t.on PLT_ECCSTAT.UEV = true))

/-- 14 R725, R735, R736: LOAD stops every active flow and, once every item is out, resets the cluster with cause 2; AMEND applies its image if
every check passes and else returns the failing result; CHECK applies nothing. -/
def Sys2Proof.Machine.MailImagesHold : Prop :=
  ∀ (c : MailCommand) (ext : List Byte) (s : State),
    let n := (s.reg (AST_MBOX_ARG 1)).toNat
    (s.Passes c 0x10 → (∀ g ∈ s.flowNumbers, g < 4096) → ∃ t, exec .load s = .next t ∧ Returned c 0 s t ∧ t.assistant.loadAsked = true ∧
      ∀ f ∈ s.flowNumbers, s.flowState f = 2 → (s.flowSrck f ≠ 0 → t.flowState f = 3) ∧ (s.flowSrck f = 0 → (t.flow f).asked = 2)) ∧
    (s.assistant.loadAsked = true → s.pairRuns = true → (∀ f ∈ s.flowNumbers, s.flowDrained f = true ∧ (s.flow f).asked ≠ 2) →
      ∃ t, exec .loadReset s = .next t ∧ t.get CLU_STAT.RSTCAUSE = 2 ∧ t.get CLU_STAT.STATE = 0 ∧ t.wcs = s.wcs ∧ t.gprs = s.gprs ∧
        ∀ e < 12, t.get (ENG_STAT.STATE e) = 0) ∧
    (s.Passes c 0x11 → 0x380000 < n → ∃ t, exec .amend s = .next t ∧ Returned c 0x0D s t ∧ t.chart = s.chart ∧ t.flows = s.flows ∧ t.mem = s.mem) ∧
    (s.Passes c 0x11 → ∀ img u, s.tickBegins.mailImage = (some img, u) → let w := u.otherResult.2
      (∀ e, w.tryAmend img u.otherResult.1 = .error e → e.result < 256 → ∃ t, exec .amend s = .next t ∧ Returned c e.result s t ∧
        t.chart = u.chart ∧ t.mem = u.mem ∧ t.wcs = u.wcs ∧ (e.result ≠ 9 → t.flows = u.flows) ∧ (e.result = 9 → t.linePending 252 = true)) ∧
      (∀ l, w.tryAmend img u.otherResult.1 = .ok l → l.state.assistant = s.assistant → l.state.reg AST_MBOX_STAT = s.reg AST_MBOX_STAT →
        ∃ t, exec .amend s = .next t ∧ Returned c 0 s t ∧ t.reg (AST_MBOX_ARG 1) = BitVec.ofNat 32 l.refused ∧
          t.reg CHT_VER = imgVersion img ∧ t.on CHT_STAT.AMENDED = true ∧ t.chart = l.state.chart ∧ t.flows = l.state.flows ∧
          t.mem = l.state.mem ∧ t.wcs = l.state.wcs)) ∧
    (s.Passes c 0x12 → (s.reg (AST_MBOX_ARG 2)).toNat = 1 →
      (∃ t, exec (.check ext true) s = .next t ∧ Returned c 0x0D s t ∧ ∀ p : Part, p ≠ .assistant → p.same s t) ∧
      (n ≤ 0x380000 → ∃ t, exec (.check ext false) s = .next t ∧ (∀ p : Part, p ≠ .assistant → p.same s t) ∧
        (∀ e, s.otherResult.2.checkOf (ext.take n) s.otherResult.1 = .error e → e.result < 256 → Returned c e.result s t) ∧
        (∀ l, s.otherResult.2.checkOf (ext.take n) s.otherResult.1 = .ok l → Returned c 0 s t ∧
          t.reg (AST_MBOX_ARG 1) = BitVec.ofNat 32 l.refused)))

/-- 15 R762, R767, 18 R856 to R859, R866 to R869, R885, 19 R896 to R898: FAILOVER moves an engine to its spare, or stops both where the spare has a fault and returns STATE; UPGRADE of a proven
pair asks the engine to cut over; KEYGEN and KEYLOAD fill an empty slot and KEYERASE empties one; LCADVANCE with a good token takes
the transition, empties the vault, wipes the secure region and resets; DBGUNLOCK opens a session and DBGLOCK closes it; LOGSPILL sets
the spill ring. -/
def Sys2Proof.Machine.MailDevicesHold : Prop :=
  ∀ (c : MailCommand) (s : State),
    let a := (s.reg (AST_MBOX_ARG 0)).toNat
    let b := (s.reg (AST_MBOX_ARG 1)).toNat
    let keys := s.get SEC_LCS.STATE = 2 ∨ s.get SEC_LCS.STATE = 3
    (s.Passes c 0x40 →
      (s.spareOf a = none → ∃ t, exec .failover s = .next t ∧ Returned c 4 s t) ∧
      (∀ sp, s.spareOf a = some sp → sp ≠ a → s.asst.contains (240 + sp) = false → ∃ t, exec .failover s = .next t ∧ Returned c 0 s t ∧ t.role a = 3 ∧ t.role sp = 1 ∧
        t.reg (AST_MBOX_ARG 0) = BitVec.ofNat 32 sp ∧ t.reg (AST_MBOX_ARG 1) = BitVec.ofNat 32 (s.flowsOn a).length) ∧
      (∀ sp, s.spareOf a = some sp → sp ≠ a → s.asst.contains (240 + sp) = true → ∃ t, exec .failover s = .next t ∧ Returned c 4 s t ∧
        t.reg AST_ENGROLE = s.reg AST_ENGROLE ∧ t.on (ENG_CTL.RUN a) = false ∧ t.on (ENG_CTL.RUN sp) = false)) ∧
    (s.Passes c 0x41 →
      (s.upgradeFits a b = false → ∃ t, exec .upgrade s = .next t ∧ Returned c 4 s t ∧ MailRegs s t) ∧
      (s.upgradeFits a b = true → s.upgradeProven a b = false → ∃ t, exec .upgrade s = .next t ∧ Returned c 0x0A s t ∧ MailRegs s t) ∧
      (s.upgradeFits a b = true → s.upgradeProven a b = true → ∃ t, exec .upgrade s = .next t ∧ t.regs = s.regs ∧
        t.assistant.command = some c ∧ (t.eng a).cutReq = true ∧
        t.assistant.upgrade = some { eng := a, spare := b, edge := s.rgl.edge })) ∧
    (s.Passes c 0x50 →
      (¬ keys → ∃ t, exec .keygen s = .next t ∧ Returned c 4 s t ∧ MailRegs s t) ∧
      (keys → s.slotFull a = true → ∃ t, exec .keygen s = .next t ∧ Returned c 0x0E s t ∧ MailRegs s t) ∧
      (keys → s.slotFull a = false → ∃ t, exec .keygen s = .next t ∧ Returned c 0 s t ∧ t.slotFull a = true ∧ t.get (SEC_SLOT.USAGE a) = b ∧
        t.reg (AST_MBOX_ARG 0) = BitVec.ofNat 32 (t.get (SEC_SLOT.KCV a)) ∧
        ∀ i < 64, i ≠ a → t.reg (SEC_SLOT i) = s.reg (SEC_SLOT i) ∧ t.slotKey i = s.slotKey i)) ∧
    (let at_ := (s.reg (AST_MBOX_ARG 2)).toNat
     let head := s.bytes at_ 8
     s.Passes c 0x51 →
      (¬ keys → ∃ t, exec .keyload s = .next t ∧ Returned c 4 s t ∧ MailRegs s t) ∧
      (keys → s.slotFull a = true → ∃ t, exec .keyload s = .next t ∧ Returned c 0x0E s t ∧ MailRegs s t) ∧
      (keys → s.slotFull a = false → s.uncorrectable at_ 8 = false → (blobGood head b = false ∨ s.hostBytes at_ (blobBytes head) = false) →
        ∃ t, exec .keyload s = .next t ∧ Returned c 3 s t ∧ t.slotFull a = false) ∧
      (keys → s.slotFull a = false → s.uncorrectable at_ 8 = false →
        s.uncorrectable (at_ + 8) (blobBytes head - 8) = false → blobGood head b = true → s.hostBytes at_ (blobBytes head) = true →
        (∀ r, s.blobKey head (s.bytes (at_ + 8) (blobBytes head - 8)) = .error r → r < 256 →
          ∃ t, exec .keyload s = .next t ∧ Returned c r s t ∧ t.slotFull a = false) ∧
        (∀ k, s.blobKey head (s.bytes (at_ + 8) (blobBytes head - 8)) = .ok k →
          ∃ t, exec .keyload s = .next t ∧ Returned c 0 s t ∧ t.slotFull a = true ∧ t.get (SEC_SLOT.USAGE a) = b ∧
            t.slotKey a = BitVec.ofNat 256 (k.toNat % 2 ^ (8 * keyBytes b)) ∧
            t.reg (AST_MBOX_ARG 0) = BitVec.ofNat 32 (t.get (SEC_SLOT.KCV a)) ∧
            ∀ i < 64, i ≠ a → t.reg (SEC_SLOT i) = s.reg (SEC_SLOT i) ∧ t.slotKey i = s.slotKey i))) ∧
    (s.Passes c 0x52 →
      (¬ keys → ∃ t, exec .keyerase s = .next t ∧ Returned c 4 s t ∧ MailRegs s t) ∧
      (keys → ∃ t, exec .keyerase s = .next t ∧ Returned c 0 s t ∧ t.reg (SEC_SLOT a) = 0 ∧ t.slotKey a = 0 ∧
        ∀ i < 64, i ≠ a → t.reg (SEC_SLOT i) = s.reg (SEC_SLOT i) ∧ t.slotKey i = s.slotKey i)) ∧
    (s.Passes c 0x58 →
      ((s.on ADM_STAT.ACTIVE = true ∨ (s.get SEC_LCS.STATE, a) ∉ [(1, 2), (2, 3), (2, 4), (3, 4), (15, 4)]) →
        ∃ t, exec .lcadvance s = .next t ∧ Returned c 4 s t ∧ MailRegs s t) ∧
      (s.on ADM_STAT.ACTIVE = false → (s.get SEC_LCS.STATE, a) ∈ [(1, 2), (2, 3), (2, 4), (3, 4), (15, 4)] → s.uncorrectable b 176 = false →
        (s.lcToken (s.get SEC_LCS.STATE) a (s.bytes b 176) = false → ∃ t, exec .lcadvance s = .next t ∧ Returned c 0x0F s t ∧
          t.reg SEC_LCS = s.reg SEC_LCS ∧ t.security.tokenFails = s.security.tokenFails + 1) ∧
        (s.lcToken (s.get SEC_LCS.STATE) a (s.bytes b 176) = true → ∃ t, exec .lcadvance s = .next t ∧ t.get SEC_LCS.STATE = a ∧
          (∀ i < 64, t.slotFull i = false) ∧ (∀ x < 0x40000, t.byte x = 0) ∧ t.on EYE_STAT.SESS = false ∧
          t.get CLU_STAT.RSTCAUSE = 2 ∧ t.get CLU_STAT.STATE = 0))) ∧
    (s.Passes c 0x60 →
      ((¬ keys ∨ s.on EYE_STAT.SESS = true) → ∃ t, exec .dbgunlock s = .next t ∧ Returned c 4 s t ∧ t.reg EYE_STAT = s.reg EYE_STAT) ∧
      (keys → s.on EYE_STAT.SESS = false → s.uncorrectable a 160 = false → s.unlockToken (s.bytes a 160) = false →
        ∃ t, exec .dbgunlock s = .next t ∧ Returned c 0x0F s t ∧ t.reg EYE_STAT = s.reg EYE_STAT ∧
          t.security.tokenFails = s.security.tokenFails + 1) ∧
      (keys → s.on EYE_STAT.SESS = false → s.uncorrectable a 160 = false → s.unlockToken (s.bytes a 160) = true →
        let rights := s.number (a + 4) 2
        let duration := s.number (a + 0x18) 4
        ∃ t, exec .dbgunlock s = .next t ∧ Returned c 0 s t ∧ t.on EYE_STAT.SESS = true ∧
          t.eyepiece.left = (if duration = 0 then none else some duration) ∧
          Returns t [BitVec.ofNat 32 rights, BitVec.ofNat 32 (if duration = 0 then 0xFFFF else min duration 0xFFFF)])) ∧
    (s.Passes c 0x61 → ∃ t, exec .dbglock s = .next t ∧ Returned c 0 s t ∧ t.on EYE_STAT.SESS = false ∧
      (s.on EYE_STAT.SESS = true → t.reg EYE_SESS = 0 ∧ t.reg EYE_FREEZE = 0 ∧ t.reg EYE_BRKEN = 0 ∧ t.eyepiece.left = none)) ∧
    (s.Passes c 0x70 → ∃ t, exec .logspill s = .next t ∧ Returned c 0 s t ∧ t.on LOG_CTL.SPILLERR = false ∧
      t.on LOG_CTL.STRICT = (s.reg (AST_MBOX_ARG 2)).getLsbD 0 ∧ t.reg LOG_SPILLLEN = s.reg (AST_MBOX_ARG 1) ∧
      (b = 0 → t.on LOG_CTL.SPILLEN = false) ∧ (b ≠ 0 → t.on LOG_CTL.SPILLEN = true ∧ t.reg LOG_SPILLBASE = s.reg (AST_MBOX_ARG 0)))

/-- The mailbox commands that their checks let through. -/
def Obligations.MailboxCommands : Prop := MailFlowsHold ∧ MailImagesHold ∧ MailDevicesHold

namespace Sys2Proof.Machine

/-- Engine e has spare sp (15 R761, R762). -/
structure State.HasSpare (s : State) (e sp : Nat) : Prop where
  spare : s.spareOf e = some sp
  other : sp ≠ e

/-- A state in which the cluster runs: 2 first light, 3 service, 4 quiescing (01 R42). -/
abbrev State.shutterMayTake (s : State) : Prop :=
  s.get CLU_STAT.STATE = 2 ∨ s.get CLU_STAT.STATE = 3 ∨ s.get CLU_STAT.STATE = 4

end Sys2Proof.Machine

/-- 14 R719, R723, 15 R752, R756, R757, R760, R768, R769: a withdrawing flow whose items are out becomes latent and loses its flow table
entries; the breach watch places a record for an item that is missing or late; an engine's fault fails it over as AST_FPOL and
AST_CVLIM say, or stops it and its spare where the spare has a fault too; a change of the engine map moves deliveries and stops bulk tags; an upgrade cuts over or times out. -/
def Sys2Proof.Machine.AssistantHold : Prop :=
  ∀ (f : Fin 4096) (e : Fin 12) (i : Fin 2) (o : Origin) (v : Word) (c : MailCommand) (u : Upgrade) (s : State),
    let q := s.get (AST_OT0.DSTQ f)
    let missing := s.get (AST_OT0.SRCK f) ≠ 2 ∧ s.inqItem f = none
    let due := s.on (AST_OT0.VALID f) = true ∧ s.itemsAccepted f ≠ 0 ∧ (missing ∨ s.itemLate f = true)
    let code := s.get (ENG_FAULT.CODE e)
    let recent := 1 + ((s.violations e).filter fun k => decide (s.rgl.edge < k + 500000)).length
    let limit := s.get AST_CVLIM.COUNT
    let fails := (s.reg AST_FPOL).getLsbD code = true ∨ code = 5 ∧ limit ≠ 0 ∧ limit ≤ recent
    (s.flowState f = 3 → s.flowDrained f = true → ∃ t, exec (.flowWithdrawn f) s = .next t ∧ t.flowState f = 1 ∧
      t.on (AST_OT0.VALID f) = false ∧ t.flows = s.flows ∧ ∀ p < 8, ∀ k,
        s.portEntry p 1 f = some k ∨ s.portEntry p 2 f = some k → t.get (FPT_FTW0.ROLE p k) = 0) ∧
    (¬ (s.flowState f = 3 ∧ s.flowDrained f = true) → exec (.flowWithdrawn f) s = .next s) ∧
    (due → s.Accepts q → ∃ t, exec (.breachWatchVisit f) s = .next t ∧ t.reg (AST_OT2 f) = s.reg (AST_OT2 f) + 1 ∧
      t.get (AST_OT5.BREACH f) = min 65535 (s.get (AST_OT5.BREACH f) + 1) ∧ t.queueCount q = s.queueCount q + 1 ∧
      (s.get (QM_QSPLEN.LEN q) = 0 → ∃ d, (t.queue q).copying = (s.queue q).copying ++ [d] ∧ descTomb d = true ∧ descFlow d = f ∧
        descSeq d = (s.reg (AST_OT2 f)).toNat ∧ descWord d 7 = if missing then 0x0A else 0x08)) ∧
    ((¬ due ∨ s.queueRefuses q = true) → exec (.breachWatchVisit f) s = .next s) ∧
    (s.pairRuns = true → s.asst.contains (240 + e) = true → fails → ∀ sp, s.HasSpare e sp → s.asst.contains (240 + sp) = false →
      ∃ t, exec (.engineFaultResponse e) s = .next t ∧ t.role e = 3 ∧ t.role sp = 1) ∧
    (s.pairRuns = true → s.asst.contains (240 + e) = true → fails → ∀ sp, s.HasSpare e sp → s.asst.contains (240 + sp) = true →
      ∃ t, exec (.engineFaultResponse e) s = .next t ∧ t.reg AST_ENGROLE = s.reg AST_ENGROLE ∧ t.on (ENG_CTL.RUN e) = false ∧
        t.on (ENG_CTL.RUN sp) = false) ∧
    (s.pairRuns = true → s.asst.contains (240 + e) = true → fails → s.spareOf e = none → ∃ t, exec (.engineFaultResponse e) s = .next t ∧
      t.reg AST_ENGROLE = s.reg AST_ENGROLE ∧ t.on (ENG_CTL.RUN e) = false) ∧
    (s.pairRuns = true → s.asst.contains (240 + e) = true → ¬ fails → ∃ t, exec (.engineFaultResponse e) s = .next t ∧ t.regs = s.regs ∧
      t.asst = s.asst.erase (240 + e.val) ∧ (code = 5 → (t.violations e).length = recent) ∧ (code ≠ 5 → t.assistant = s.assistant) ∧
      ∀ p : Part, p ≠ .events → p ≠ .assistant → p.same s t) ∧
    (s.Takes o (AST_ENGMAP0 + 4 * i) → ∃ t, exec (.engmapWrite i o v) s = .next t ∧ Answered o t 0 ∧
      (∀ j < 8, 8 * i.val + j < 12 → t.engMap (8 * i + j) = v.toNat / 2 ^ (4 * j) % 16) ∧
      (∀ j < 8, 8 * i.val + j = e.val → t.engMap e ≠ s.engMap e → (∀ k < 12, k ≠ e.val → t.engMap k = s.engMap k) →
        t.deliveries = s.deliveries.map (fun d => if d.eng = s.engMap e then { d with eng := t.engMap e } else d) ∧
        ∀ k b, tfind t.bulk k = some b → k / 16 = s.engMap e → b.discard = true)) ∧
    (s.assistant.upgrade = some u → s.assistant.command = some c → s.pairRuns = true → u.eng < 12 → u.spare < 12 → u.eng ≠ u.spare →
      s.get (ENG_STAT.STATE u.eng) = 2 → s.on (ENG_PRI.GMASK u.eng) = true → ∃ t, exec .cutOver s = .next t ∧ Returned c 0 s t ∧
        t.assistant.upgrade = none ∧ t.role u.eng = 2 ∧ t.role u.spare = 1 ∧ (t.eng u.eng).cutReq = false ∧
        t.reg (AST_MBOX_ARG 0) = BitVec.ofNat 32 u.spare ∧ t.reg (AST_MBOX_ARG 1) = BitVec.ofNat 32 (s.flowsOn u.eng).length ∧
        t.reg (AST_MBOX_ARG 2) = 0) ∧
    (s.assistant.upgrade = some u → s.assistant.command = some c → s.pairRuns = true → u.edge + 500 * max 1 (s.get AST_CUTTO.US) ≤ s.rgl.edge →
      ∃ t, exec .cutOverTimeout s = .next t ∧ Returned c 4 s t ∧ t.assistant.upgrade = none ∧ (t.eng u.eng).cutReq = false ∧ MailRegs s t)

/-- 15 R771 to R775, R779, R781, R782, 11 R553: a lockstep mismatch or an expired watchdog hands control to the Shutter with its cause; the
takeover stops every engine and tombstones; at the drain's end IFC_FAULT is 1 and the pair restarts in loading, or is held at a
third takeover within 10 s; a failed self-check isolates the cluster without a record; FAULT clears in service and first light only. -/
def Sys2Proof.Machine.ShutterHold : Prop :=
  ∀ (o : Origin) (v : Word) (s : State),
    let held := match s.assistant.takeovers with
      | [x, _, a] => x ≤ a + 5000000000
      | _ => False
    (s.pairRuns = true → s.shutterMayTake → ∃ t, exec .lockstepMismatch s = .next t ∧ t.on AST_STAT.LOCKSTEP = false ∧
      t.get AST_STAT.LASTCAUSE = 0x0D ∧ t.get SHT_STAT.CAUSE = 0x0D ∧ (∀ p : Part, p.same s t) ∧
      ∀ k, k ≠ AST_STAT → k ≠ SHT_STAT → t.reg k = s.reg k) ∧
    (s.on AST_STAT.WDFRZ = false → s.pairRuns = true → s.shutterMayTake → ∃ t, exec .assistantWatchdogExpiry s = .next t ∧
      t.on AST_STAT.LOCKSTEP = false ∧ t.get AST_STAT.LASTCAUSE = 0x04 ∧ t.get SHT_STAT.CAUSE = 0x04 ∧ (∀ p : Part, p.same s t) ∧
      ∀ k, k ≠ AST_STAT → k ≠ SHT_STAT → t.reg k = s.reg k) ∧
    (s.on AST_STAT.WDFRZ = true → exec .assistantWatchdogExpiry s = .next s) ∧
    (s.on AST_STAT.LOCKSTEP = false → s.on CLK_PLLSTAT.TCLKLK = true → s.on CLK_PLLSTAT.CCLKLK = true → s.shutterMayTake →
      ∃ t, exec .shutterTakeover s = .next t ∧ t.get CLU_STAT.STATE = 5 ∧ t.get SHT_STAT.TAKEOVERS = min 255 (s.get SHT_STAT.TAKEOVERS + 1) ∧
        t.assistant.takeoverEdge = s.rgl.edge ∧ (t.get SHT_STAT.PHASE = 3 ↔ t.allTombstoned = true) ∧
        ∀ e < 12, t.on (ENG_CTL.RUN e) = false) ∧
    (s.on CLK_PLLSTAT.TCLKLK = true → s.on CLK_PLLSTAT.CCLKLK = true → s.get CLU_STAT.STATE = 5 → s.get SHT_STAT.PHASE = 3 →
      s.shutterDrained = true → ∃ t, exec .shutterDrainEnd s = .next t ∧ t.on SHT_STAT.FAULT = true ∧ t.on CLU_STAT.FAULT = true ∧
        t.linePending 255 = true ∧ t.get SHT_STAT.PHASE = 5 ∧
        (held → t.on SHT_STAT.HOLD = true ∧ t.get CLU_STAT.STATE = 5 ∧ t.on AST_STAT.LOCKSTEP = s.on AST_STAT.LOCKSTEP) ∧
        (¬ held → t.on SHT_STAT.HOLD = s.on SHT_STAT.HOLD ∧ t.get CLU_STAT.STATE = 1 ∧ t.on AST_STAT.LOCKSTEP = true ∧
          t.get AST_STAT.RESTARTS = min 255 (s.get AST_STAT.RESTARTS + 1))) ∧
    (s.ifcOn = true → ∃ t, exec .shutterSelfCheckFailure s = .next t ∧ t.get CLU_STAT.STATE = 7 ∧ t.on CLU_STAT.DEAD = true ∧
      t.get SHT_STAT.CAUSE = 0x17 ∧ t.get SHT_STAT.PHASE = 6 ∧ t.log = s.log ∧ (∀ p < 8, t.bypassed p = true) ∧
      (∀ e < 12, t.on (ENG_CTL.RUN e) = false) ∧ (∀ w < 24, t.get (VRN_STAT.STATE w) ≠ 1 ∧ t.get (VRN_STAT.STATE w) ≠ 2) ∧
      ∀ e < 12, ∀ n < 4, t.on (TMR_CTL.EN e n) = false) ∧
    (s.Takes o SHT_STAT → s.get SHT_STAT.PHASE = 0 → (s.get CLU_STAT.STATE = 2 ∨ s.get CLU_STAT.STATE = 3) →
      ∃ t, exec (.shtStatFaultClear o v) s = .next t ∧ Answered o t 0 ∧ t.on SHT_STAT.FAULT = false ∧ t.on CLU_STAT.FAULT = false ∧
        OnlyRegs [SHT_STAT, CLU_STAT] s t) ∧
    (s.Takes o SHT_STAT → ¬ (s.get SHT_STAT.PHASE = 0 ∧ (s.get CLU_STAT.STATE = 2 ∨ s.get CLU_STAT.STATE = 3)) →
      ∃ t, exec (.shtStatFaultClear o v) s = .next t ∧ Answered o t 0 ∧ OnlyRegs [] s t)

/-- 14 R712 to R714, R717: in loading, without a chart source the loader enters first light; an image that cannot be read or fails a check
leaves its result in CHT_STAT and first light; one whose checks pass enters service as the chart in force; a write that meets an
uncorrectable error resets the cluster, and the next load ignores the source. -/
def Sys2Proof.Machine.LoaderHold : Prop :=
  ∀ (ext : List Byte) (img : List Byte) (u : State) (s : State),
    s.get CLU_STAT.STATE = 1 → s.pairRuns = true → s.get SHT_STAT.PHASE ≠ 5 → s.get CLU_ATTACH.PSTATE ≠ 1 →
    let src := fun bad => { s with power := { s.power with ignoreSrc := false } }.loadSource ext bad
    (s.noSource = true → ∀ bad err, ∃ t, exec (.chartLoad ext bad err) s = .next t ∧ t.get CLU_STAT.STATE = 2 ∧ t.get CLU_STAT.CHART = 0 ∧
      t.reg CHT_ID = 0 ∧ t.power.ignoreSrc = false) ∧
    (s.noSource = false → ∀ bad err, (src bad).1 = none → ∃ t, exec (.chartLoad ext bad err) s = .next t ∧ t.get CLU_STAT.STATE = 2 ∧
      t.get CHT_STAT.RESULT = 0x0D ∧ t.reg CHT_ID = 0) ∧
    (s.noSource = false → ∀ bad err, src bad = (some img, u) → ∀ x, u.tryChart img = .error x → x.result < 256 →
      ∃ t, exec (.chartLoad ext bad err) s = .next t ∧ t.get CLU_STAT.STATE = 2 ∧ t.get CHT_STAT.RESULT = x.result ∧ t.reg CHT_ID = 0) ∧
    (s.noSource = false → ∀ bad, src bad = (some img, u) → ∀ l, u.tryChart img = .ok l → l.state.get CLU_ATTACH.PSTATE ≠ 1 →
      ∃ t, exec (.chartLoad ext bad false) s = .next t ∧ t.get CLU_STAT.STATE = 3 ∧ t.get CLU_STAT.CHART = 1 ∧ t.get CHT_STAT.RESULT = 0 ∧
        t.reg CHT_ID = imgChartid img ∧ t.reg CHT_VER = imgVersion img ∧ t.retained = none) ∧
    (s.noSource = false → ∀ bad, src bad = (some img, u) → ∀ l, u.tryChart img = .ok l →
      ∃ t, exec (.chartLoad ext bad true) s = .next t ∧ t.get CLU_STAT.RSTCAUSE = 2 ∧ t.get CLU_STAT.STATE = 0 ∧
        t.get CHT_STAT.RESULT = 0x0D ∧ t.power.ignoreSrc = true)

/-- The flows' withdrawal, the breach watch, the Assistant pair, the Shutter and the loader. -/
def Obligations.AssistantCommands : Prop := AssistantHold ∧ ShutterHold ∧ LoaderHold

namespace Sys2Proof.Machine

/-! ## The vocabulary of the statements about the constellation -/

/-- Frame f comes to port x with a good CRC, and no update is due before it (16 R792, R796, R800). -/
structure State.Hears (s : State) (x : Nat) (f : List Byte) : Prop where
  allowed : s.linksAllowed = true
  up : s.linkState x ≠ 0
  crc : linkCrcGood f = true
  noUpdate : (s.link x).peerCount < 4096

/-- This member consumes frame f: another member sent it, to this one or to all (16 R795). -/
def State.Consumes (s : State) (f : List Byte) : Prop := linkSrc f ≠ s.member ∧ (linkBcast f = true ∨ linkDst f = s.member)

/-- Frame f is one of inbound channel c, whose queue is q (16 R809, R811). -/
structure State.Inbound (s : State) (c q : Nat) (f : List Byte) : Prop where
  channel : linkChannel f = c
  enabled : s.on (CST_CHCFG.EN c) = true
  peer : s.get (CST_CHCFG.PEER c) = linkSrc f
  queue : s.get (CST_CHCFG.QUEUE c) = q
  producer : s.get (QM_QCFG.PROD q) = 2

/-- The CSEQ of frame f is above the last placed on channel c (16 R812). -/
def State.Above (s : State) (c : Nat) (f : List Byte) : Prop :=
  1 ≤ (BitVec.ofNat 16 (linkCseq f) - BitVec.ofNat 16 (s.get (CST_CHSTAT.CSEQ c))).toNat ∧
    (BitVec.ofNat 16 (linkCseq f) - BitVec.ofNat 16 (s.get (CST_CHSTAT.CSEQ c))).toNat < 2 ^ 15

/-- The item of frame f with descriptor d is placed on queue q by channel c from a buffer at a, with the stamp of its QHEAD (16 R811 to
R813). -/
structure Placed (s t : State) (c q a stamp : Nat) (f d : List Byte) : Prop where
  count : t.queueCount q = s.queueCount q + 1
  cseq : t.get (CST_CHSTAT.CSEQ c) = linkCseq f
  desc : s.get (QM_QSPLEN.LEN q) = 0 → ∃ d', (t.queue q).copying = (s.queue q).copying ++ [d'] ∧ descAddr d' = a ∧ descLen d' = descLen d ∧
    fieldOf (descWord d' 1) 20 16 = 2 ∧ descStamp d' = toTime96 stamp ∧ (s.channelFlow c = none → descFlow d' = 0 ∧ descSeq d' = 0xFFFFFFFF) ∧
    ∀ g, s.channelFlow c = some g → g < 4096 → descFlow d' = g ∧ descSeq d' = (s.reg (CST_CHSEQ c)).toNat
  seq : ∀ g, s.channelFlow c = some g → t.reg (CST_CHSEQ c) = s.reg (CST_CHSEQ c) + 1

/-- Record r of a TRACK frame is one that tracker n follows (16 R808). -/
def State.Follows (s : State) (f : List Byte) (r n : Nat) : Prop :=
  let i := 28 + 24 * r
  s.get (CDR_PT_SRC.KIND n) = 3 ∧ s.get (CDR_PT_SRC.PEER n) = (linkSrc f + 8 - s.member) % 8 ∧ s.get (CDR_PT_SRC.PTRK n) = linkNum f i 1 ∧
    (linkNum f (i + 1) 1 = 2 ∨ linkNum f (i + 1) 1 = 3) ∧ linkNum f (i + 20) 4 = s.rgl.time / updateSpan * 250000 % 1000000000

/-- The frame last sent on port x is g with the sender's own TXSTAMP and CRC (16 R791, R794). -/
structure Sent (s t : State) (x : Nat) (g : List Byte) : Prop where
  head : (t.link x).lastSent.take 4 = g.take 4
  body : ((t.link x).lastSent.drop 24).take 100 = (g.drop 24).take 100
  stamp : linkNum (t.link x).lastSent 4 8 = (s.link x).txStamp % 2 ^ 64
  crc : linkCrcGood (t.link x).lastSent = true

/-- The frame last sent on port x is an own frame of a type. -/
def SentOwn (s t : State) (x ftype : Nat) : Prop :=
  linkType (t.link x).lastSent = ftype ∧ linkSrc (t.link x).lastSent = s.member ∧ linkCrcGood (t.link x).lastSent = true

/-- Counter f of port x has counted one more, saturating (16 `CST_LNKCNTx`). -/
def LinkCounted (f : BitRange) (top : Nat) (s t : State) : Prop := t.get f = min top (s.get f + 1)

/-- (Ms − Mp + ASYM) / 2 and Ms + Mp of port x's update period (16 R800). -/
def State.meanOffset (s : State) (x : Nat) : ℚ :=
  let l := s.link x
  ((l.sumOwn : ℚ) / max 1 l.count - (l.sumPeer : ℚ) / l.peerCount + (s.reg (CST_ASYM x)).toInt) / 2
def State.meanTrip (s : State) (x : Nat) : ℚ :=
  let l := s.link x
  (l.sumOwn : ℚ) / max 1 l.count + (l.sumPeer : ℚ) / l.peerCount

/-- The link disciplines cluster time through port x (16 R801). -/
def State.Upstream (s : State) (x : Nat) : Prop :=
  s.get RGL_SRV_OWN.OWNER = 2 ∧ s.on CST_STAT.SRCV = true ∧ s.on CST_STAT.ISSRC = false ∧ s.get CST_STAT.UPX = x

end Sys2Proof.Machine

/-- 16 R792, R794 to R796, R799, R817, R818: LINK_FRAME_RECEIVED counts a frame with a bad CRC and, at the sixteenth in a row, takes the port
down as lost; of a good frame it measures M, notes the origin's presence, trains the port at the 64th in a row, and forwards what is
for others with the hop's steps added; a reserved type goes no further. -/
def Sys2Proof.Machine.LinkReceptionHold : Prop :=
  ∀ (x : Fin 2) (b : Fin 32) (f : List Byte) (s : State),
    let y := 1 - x.val
    let l := s.link x
    (s.linksAllowed = true → s.linkState x ≠ 0 → linkCrcGood f = false → l.peerCount < 4096 →
      ∃ t, exec (.linkFrameReceived x b f) s = .next t ∧ LinkCounted (CST_LNKCNT.CRCERR x) 65535 s t ∧ t.get CST_STAT.PRES = s.get CST_STAT.PRES ∧
        (l.bad < 15 → t.linkState x = s.linkState x ∧ (t.link x).good = 0 ∧ (t.link x).bad = l.bad + 1 ∧ t.queues = s.queues) ∧
        (15 ≤ l.bad → t.linkState x = 0 ∧ t.on (CST_LNKSTAT.LOSS x) = true)) ∧
    (s.Hears x f → ∃ t, exec (.linkFrameReceived x b f) s = .next t ∧
      (linkSrc f ≠ s.member → linkType f ≤ 5 → (t.get CST_STAT.PRES).testBit (linkSrc f) = true) ∧
      (linkType f = 0 ∨ 6 ≤ linkType f → t.queues = s.queues ∧ (t.link y).forward = (s.link y).forward ∧
        (t.link x).good = l.good + 1 ∧ (t.link x).bad = 0 ∧ (t.link x).lastGood = s.rgl.edge ∧
        (t.link x).rxStamp = some (s.stampOf (0x73 + 2 * x) b % 65536 +
          65536 * (s.stampOf (0x73 + 2 * x) b / 65536 % 10 ^ 9 + s.stampOf (0x73 + 2 * x) b / 65536 / 10 ^ 9 % 65536 * 2 ^ 32)) ∧
        (s.linkState x = 1 → t.linkState x = if 63 ≤ l.good then 2 else 1)) ∧
      (linkType f = 0 → (t.link x).peerCount = l.peerCount + 1 ∧ (t.link x).adv = some (BitVec.ofNat 32 (linkNum f 12 4)) ∧
        ∀ r, l.rxStamp = some r → (t.link x).meas = (BitVec.ofNat 64 r - BitVec.ofNat 64 (linkNum f 4 8)).toInt) ∧
      (6 ≤ linkType f → (t.link x).peerCount = l.peerCount ∧ (t.link x).adv = l.adv ∧ (t.link x).meas = l.meas ∧
        (¬ (s.linkState x = 1 ∧ 63 ≤ l.good) → t.regs = s.regs)) ∧
      (linkType f = 4 ∨ linkSrc f = s.member → (t.link y).forward = (s.link y).forward) ∧
      (1 ≤ linkType f → linkType f ≤ 5 → linkType f ≠ 4 → linkSrc f ≠ s.member → linkBcast f = true ∨ linkDst f ≠ s.member → s.linkState y = 3 →
        t.linkState x = 3 → (t.link y).forward = (s.link y).forward ++ [(linkSrc f, s.now / 2 ^ 24,
          f.set 2 (BitVec.ofNat 8 (linkType f + 16 * ((linkNum f 2 1 / 16 + s.hopSteps x) % 8))))]) ∧
      (linkBcast f = false → linkDst f = s.member → (t.link y).forward = (s.link y).forward)) ∧
    (linkType f ≠ 1 → exec (.qhead x b f) s = .next s) ∧ (linkType f ≠ 2 → exec (.qdata x b f) s = .next s) ∧
    (linkType f ≠ 3 → exec (.eventFrame x b f) s = .next s) ∧ (linkType f ≠ 4 → exec (.controlFrame x b f) s = .next s) ∧
    (linkType f ≠ 5 → exec (.track x b f) s = .next s)

/-- 16 R808, R811 to R813, R816, R818: QHEAD opens an item in a buffer of the channel's pool, QDATA adds its next chunk; after LAST the item is
placed if its CSEQ is above the last, else counted in DUP; a chunk out of order abandons it; EVENT_FRAME registers the lines that
listen; an item's frame that finds its pool's plates held, or other transfers waiting for its queue, waits behind them; CONTROL_FRAME gives the neighbour's number and ASYM, and with LEAVE takes the port down; TRACK gives a tracker its record. -/
def Sys2Proof.Machine.LinkTrafficHold : Prop :=
  ∀ (x : Fin 2) (b : Fin 32) (f : List Byte) (c q h : Nat) (s : State), s.Hears x f →
    let pool := s.get (CST_CHCFG.POOL c)
    let free := s.get (QM_PCFG.FREEQ pool)
    let d := (f.drop 28).take 32
    let at_ := descAddr (s.bytes h 32)
    let stamp := s.stampOf (0x73 + 2 * x) b
    let open_ := s.queueWaits q = false ∧ s.poolHeld pool = false
    (linkType f = 1 → s.Consumes f → s.Inbound c q f → open_ → s.assembly c x = none → descLen d ≤ 2 ^ (6 + s.get (QM_PCFG.BSZ pool)) →
      s.headSlot free = some h → s.uncorrectable h 32 = false → at_ % 8 = 0 → free ≠ q → ∃ t, exec (.qhead x b f) s = .next t ∧ t.bytes at_ 64 = (f.drop 60).take 64 ∧
        (t.queue free).vis + 1 = (s.queue free).vis ∧
        (linkLast f = false → t.assembly c x = some { cseq := linkCseq f, desc := d, addr := at_, chunk := 1, stamp } ∧
          t.queueCount q = s.queueCount q) ∧
        (linkLast f = true → descLen d ≤ 64 → s.Above c f → s.Accepts q → Placed s t c q at_ stamp f d ∧ t.assembly c x = none)) ∧
    (linkType f = 1 → s.Consumes f → s.Inbound c q f → open_ → s.assembly c x = none → descLen d ≤ 64 → linkLast f = true → s.headSlot free = some h →
      s.uncorrectable h 32 = false → at_ % 8 = 0 → free ≠ q → s.poolOfQueue q = none → ¬ s.Above c f → ∃ t, exec (.qhead x b f) s = .next t ∧ LinkCounted (CST_LNKCNT.DUP x) 255 s t ∧
        t.queueCount q = s.queueCount q ∧ t.get (CST_CHSTAT.CSEQ c) = s.get (CST_CHSTAT.CSEQ c) ∧ t.assembly c x = none) ∧
    (linkType f = 1 → s.Consumes f → s.on (CST_CHCFG.EN (linkChannel f)) = false → ∃ t, exec (.qhead x b f) s = .next t ∧ t.queues = s.queues) ∧
    (linkType f = 1 → s.Consumes f → s.Inbound c q f → ¬ open_ → ∃ t, exec (.qhead x b f) s = .next t ∧
      t.jobs = s.jobs ++ [{ queue := q, job := .head x.val stamp f }] ∧ t.queues = s.queues ∧ t.mem = s.mem) ∧
    (linkType f = 2 → s.Consumes f → s.Inbound c q f → ¬ open_ → ∃ t, exec (.qdata x b f) s = .next t ∧
      t.jobs = s.jobs ++ [{ queue := q, job := .data x.val f }] ∧ t.queues = s.queues ∧ t.mem = s.mem) ∧
    (linkType f = 2 → s.Consumes f → s.Inbound c q f → open_ → ∀ i, s.assembly c x = some i →
      let whole := descLen i.desc ≤ 64 * (i.chunk + 1)
      (linkCseq f = i.cseq → linkChunk f = i.chunk → i.addr % 8 = 0 → 64 * (i.chunk + 1) ≤ 2 ^ (6 + s.get (QM_PCFG.BSZ pool)) →
        ∃ t, exec (.qdata x b f) s = .next t ∧ t.bytes (i.addr + 64 * i.chunk) 64 = (f.drop 60).take 64 ∧
          (linkLast f = false → t.assembly c x = some { i with chunk := i.chunk + 1 } ∧ t.queues = s.queues) ∧
          (linkLast f = true → ¬ whole → t.assembly c x = none ∧ LinkCounted (CST_LNKCNT.ABANDON x) 255 s t) ∧
          (linkLast f = true → whole → s.Above c f → s.Accepts q → i.desc.length = 32 → i.addr < 2 ^ 32 →
            Placed s t c q i.addr i.stamp f i.desc ∧ t.assembly c x = none)) ∧
      (linkCseq f ≠ i.cseq ∨ linkChunk f ≠ i.chunk → ∃ t, exec (.qdata x b f) s = .next t ∧ t.assembly c x = none ∧
        LinkCounted (CST_LNKCNT.ABANDON x) 255 s t ∧ t.mem = s.mem)) ∧
    (linkType f = 3 → s.Consumes f → ∃ t, exec (.eventFrame x b f) s = .next t ∧ ∀ j < 8, t.linePending (224 + j) = (s.linePending (224 + j) ||
      (s.on (CST_EVIN.EN j) && decide (s.get (CST_EVIN.MEMBER j) = linkSrc f) && (linkNum f 28 2).testBit (s.get (CST_EVIN.INDEX j))))) ∧
    (linkType f = 4 → ∃ t, exec (.controlFrame x b f) s = .next t ∧ t.get (CST_LNKSTAT.PEERM x) = linkNum f 32 1 % 8 ∧
      t.on (CST_LNKSTAT.PEERV x) = true ∧ t.on (CST_LNKSTAT.LOSS x) = s.on (CST_LNKSTAT.LOSS x) ∧
      ((linkNum f 33 1).testBit 2 = false → (t.link x).peerAsym = some (BitVec.ofNat 32 (linkNum f 28 4)) ∧ t.linkState x ≠ 0) ∧
      ((linkNum f 33 1).testBit 2 = true → t.linkState x = 0 ∧ t.on (CST_LNKSTAT.PLEAVE x) = true)) ∧
    (linkType f = 5 → s.Consumes f → ∃ t, exec (.track x b f) s = .next t ∧
      (∀ n < 4, ∀ r < 4, s.Follows f r n → (∀ r' < 4, r' ≠ r → linkNum f (28 + 24 * r') 1 ≠ linkNum f (28 + 24 * r) 1) →
        (t.tracker n).peer = some {
          phase := linkNum f (36 + 24 * r) 4 * 2 ^ 32
          freq := linkNum f (40 + 24 * r) 4
          rho := (BitVec.ofNat 32 (linkNum f (44 + 24 * r) 4)).toInt
          tu := s.rgl.time / updateSpan * updateSpan }) ∧
      ∀ n < 4, (∀ r < 4, ¬ s.Follows f r n) → t.tracker n = s.tracker n)

/-- 16 R796, R800 to R802, R805 to R808, R817 to R819: training begins, a silent port goes down as lost, an update forms OFS and RTT, moves
the port between CAL and SYNC and, upstream, writes rate and quality, where no write of the same edge prevails over them (02 R78); the servo's owner follows ISSRC; a silent member is no longer
present; LEAVE sends CONTROL and goes down; TRACK_EXPORT sends the records of exported trackers. -/
def Sys2Proof.Machine.LinkStatesHold : Prop :=
  ∀ (x : Fin 2) (m : Fin 8) (o : Origin) (v : Word) (k : Nat) (s : State),
    let l := s.link x
    let trackers := (List.range 4).filter fun n => (s.get CST_CFG.PTEXP).testBit n &&
      (s.get (CDR_PT_STAT.STATE n) == 2 || s.get (CDR_PT_STAT.STATE n) == 3)
    (s.linksAllowed = true → s.linkState x = 0 → s.on (CST_LNKCTL.EN x) = true → ∃ t, exec (.linkTrainingEntry x) s = .next t ∧
      t.linkState x = 1 ∧ (t.link x).good = 0 ∧ (t.link x).lastGood = s.rgl.edge ∧ t.linePending (232 + x) = true) ∧
    (s.linkState x ≠ 0 ∨ s.on (CST_LNKCTL.EN x) = false → exec (.linkTrainingEntry x) s = .next s) ∧
    (s.linkState x ≠ 0 → l.lastGood + 500 ≤ s.rgl.edge → ∃ t, exec (.linkFrameTimeout x) s = .next t ∧ t.linkState x = 0 ∧
      t.on (CST_LNKSTAT.LOSS x) = true ∧ t.linePending (232 + x) = true) ∧
    (s.rgl.edge < l.lastGood + 500 → exec (.linkFrameTimeout x) s = .next s) ∧
    (l.peerCount < 4096 → exec (.linkUpdate x) s = .next s) ∧
    (s.linkState x ≠ 0 → 4096 ≤ l.peerCount → ∃ t, exec (.linkUpdate x) s = .next t ∧ (t.link x).peerCount = 0 ∧ (t.link x).count = 0 ∧
      (|s.meanOffset x| ≤ 2 ^ 31 - 2 → |((t.reg (CST_OFS x)).toInt : ℚ) - s.meanOffset x| < 1) ∧
      (2 ^ 31 ≤ s.meanOffset x → (t.reg (CST_OFS x)).toInt = 2 ^ 31 - 1) ∧ (s.meanOffset x ≤ -2 ^ 31 → (t.reg (CST_OFS x)).toInt = -(2 ^ 31 - 1)) ∧
      (0 ≤ s.meanTrip x → s.meanTrip x ≤ 2 ^ 32 - 2 → |((t.reg (CST_RTT x)).toNat : ℚ) - s.meanTrip x| < 1) ∧
      (128 * 65536 < (t.reg (CST_RTT x)).toNat → t.on (CST_LNKSTAT.RTTERR x) = true) ∧
      (l.peerAsym.isSome = true → s.asymGood x = false → t.on (CST_LNKSTAT.ASYMERR x) = true) ∧
      (s.linkState x = 2 → (t.linkState x = 3 ↔ s.asymGood x = true ∧ (t.reg (CST_RTT x)).toNat ≤ 128 * 65536 ∧ 4 ≤ l.periods + 1 ∧
        s.sameSource x = true ∧ (t.reg (CST_OFS x)).toInt.natAbs ≤ 50 * 65536)) ∧
      (s.linkState x = 3 → 100 * 65536 < (t.reg (CST_OFS x)).toInt.natAbs → t.linkState x = 2) ∧
      (s.linkState x = 3 → (t.reg (CST_OFS x)).toInt.natAbs ≤ 100 * 65536 → s.sameSource x = true → t.linkState x = 3) ∧
      (¬ s.Upstream x → t.reg RGL_RATE = s.reg RGL_RATE ∧ t.get RGL_QUAL.STATE = s.get RGL_QUAL.STATE ∧ t.rgl = s.rgl) ∧
      (s.Upstream x → s.on RGL_STAT.SVCFRZ = false → s.outranked .cstLink RGL_RATE = false → s.outranked .cstLink RGL_QUAL = false →
        let theta := (t.reg (CST_OFS x)).toInt + s.rgl.q / 2 ^ 24
        let rate : ℚ := (s.reg RGL_RATE).toInt - 16 * (theta - l.theta.getD theta : Int) - (theta : ℚ) / 2 ^ (max 4 (s.get CST_SERVO.TAU) - 4)
        theta.natAbs ≤ max 1 (s.get CST_SERVO.STEPNS) * 65536 →
          (|rate| ≤ 0x4189374A → |((t.reg RGL_RATE).toInt : ℚ) - rate| ≤ 1 / 2) ∧
          (s.get RGL_QUAL.STATE = 0 ∨ s.get RGL_QUAL.STATE = 1 ∨ s.get RGL_QUAL.STATE = 4 → t.get RGL_QUAL.STATE = 2) ∧
          (∀ a, l.adv = some a → t.get RGL_QUAL.ACC = min 0xFF (a.toNat / 2 ^ 21 % 256 + 1)))) ∧
    (s.constellation.servoDue = true → s.pllsRun = true → ∃ t, exec .servoOwnerHandover s = .next t ∧
      (t.constellation.servoDue = true ↔ t.get CST_STAT.ISSRC ≠ s.get CST_STAT.ISSRC) ∧
      (s.on CST_CFG.EN = false → OnlyRegs [] { s with constellation := t.constellation } t) ∧
      (s.on CST_CFG.EN = true → s.on CST_STAT.ISSRC = false → t.get RGL_SRV_OWN.OWNER = 2) ∧
      (s.on CST_CFG.EN = true → s.on CST_STAT.ISSRC = true → servoCode (s.get CST_CFG.SERVO) → t.get RGL_SRV_OWN.OWNER = s.get CST_CFG.SERVO)) ∧
    (s.constellation.servoDue = false → exec .servoOwnerHandover s = .next s) ∧
    (tget (fun _ => none) s.constellation.seen m.val = some k → k + 500000 ≤ s.rgl.edge → m.val ≠ s.member →
      ∃ t, exec (.presenceTimeout m) s = .next t ∧ ∀ j < 8, (t.get CST_STAT.PRES).testBit j = (decide (j ≠ m.val) && (s.get CST_STAT.PRES).testBit j)) ∧
    ((m.val = s.member ∨ ∀ k, tget (fun _ => none) s.constellation.seen m.val = some k → s.rgl.edge < k + 500000) →
      exec (.presenceTimeout m) s = .next s) ∧
    (s.Takes o (CST_LNKCTL x) → ∃ t, exec (.leave x o v) s = .next t ∧ Answered o t 0 ∧ t.linkState x = 0 ∧
      t.on (CST_LNKSTAT.LOSS x) = s.on (CST_LNKSTAT.LOSS x) ∧ t.on (CST_LNKSTAT.PLEAVE x) = s.on (CST_LNKSTAT.PLEAVE x) ∧
      t.on (CST_LNKCTL.EN x) = v.getLsbD 0 ∧ (s.linkState x ≠ 0 → SentOwn s t x 4 ∧ (linkNum (t.link x).lastSent 33 1).testBit 2 = true)) ∧
    (s.linksAllowed = true → s.constellation.exported ≤ s.rgl.time / updateSpan → ∃ t, exec .trackExport s = .next t ∧
      t.constellation.exported = s.rgl.time / updateSpan + 1 ∧ t.regs = s.regs ∧
      (trackers = [] ∨ s.linkState x ≠ 3 → (t.link x).tracks = (s.link x).tracks) ∧
      (trackers ≠ [] → s.linkState x = 3 → ∃ f, (t.link x).tracks = (s.link x).tracks ++ [f] ∧ f.length = 128 ∧ linkType f = 5 ∧ linkBcast f = true ∧
        linkSrc f = s.member ∧ ∀ j (h : j < trackers.length), linkNum f (28 + 24 * j) 1 = trackers[j] ∧
          linkNum f (29 + 24 * j) 1 = s.get (CDR_PT_STAT.STATE trackers[j]) ∧ linkNum f (40 + 24 * j) 4 = (s.reg (CDR_FREQ trackers[j])).toNat ∧
          linkNum f (44 + 24 * j) 4 = (s.reg (CDR_ROCOF trackers[j])).toNat ∧
          linkNum f (48 + 24 * j) 4 = s.rgl.time / updateSpan * 250000 % 1000000000)) ∧
    (s.rgl.time / updateSpan < s.constellation.exported → exec .trackExport s = .next s)

/-- 16 R793, R796 to R799, R810, R815: an outbound channel's head item goes into frames with CHUNK ascending, LAST on the last and the channel's
CSEQ; one with EXT or above 16 384 bytes is returned unsent, one on a held plate waits; a frame period in SYNC carries the first available own frame in its
slot's order, or the frame to forward of the period's origin; a period with nothing carries IDLE; CAL carries CONTROL and IDLE, TRAIN IDLE. -/
def Sys2Proof.Machine.LinkSendingHold : Prop :=
  ∀ (x : Fin 2) (b : Fin 32) (c a : Nat) (g : List Byte) (rest : List (List Byte)) (s : State), s.linksAllowed = true →
    let q := s.get (CST_CHCFG.QUEUE c)
    let d := s.bytes a 32
    let n := max 1 ((descLen d + 63) / 64)
    let k := s.now / 2 ^ 24
    let origin := if x.val = 0 then (2 * s.member + 8 - k % 8) % 8 else (2 * s.member + k) % 8
    let l := s.link x
    let turn := s.linkState x = 3 ∧ l.period ≤ k
    let own := turn ∧ origin = s.member
    (s.outboundChannel = none ∨ l.items ≠ [] → exec .outboundItemSend s = .next s) ∧
    ((s.link 0).items = [] → (s.link 1).items = [] → s.outboundChannel = some c → s.headSlot q = some a → s.uncorrectable a 32 = false →
      (descExt d = true ∨ 16384 < descLen d → ∃ t, exec .outboundItemSend s = .next t ∧ (t.link x).items = [] ∧
        (t.queue q).vis + 1 = (s.queue q).vis ∧ ((s.channelPorts c).contains x.val = true → LinkCounted (CST_LNKCNT.ABANDON x) 255 s t)) ∧
      (descExt d = false → descLen d ≤ 16384 → s.rangeHeld (descAddr d) (descLen d) = true → exec .outboundItemSend s = .next s) ∧
      (descExt d = false → descLen d ≤ 16384 → s.rangeHeld (descAddr d) (descLen d) = false → s.uncorrectable (descAddr d) ((descLen d + 63) / 64 * 64) = false →
        ∃ t, exec .outboundItemSend s = .next t ∧ (t.queue q).vis + 1 = (s.queue q).vis ∧
          t.get (CST_CHSTAT.CSEQ c) = (s.get (CST_CHSTAT.CSEQ c) + 1) % 65536 ∧
          ((s.channelPorts c).contains x.val = false → (t.link x).items = []) ∧
          ((s.channelPorts c).contains x.val = true → (t.link x).items.length = n ∧ ∀ i f, (t.link x).items[i]? = some f → f.length = 128 ∧
            linkType f = (if i = 0 then 1 else 2) ∧ linkSrc f = s.member ∧ linkDst f = s.get (CST_CHCFG.PEER c) ∧ linkBcast f = false ∧
            linkChannel f = s.get (CST_CHCFG.RCH c) ∧ linkChunk f = i % 256 ∧ linkLast f = decide (i + 1 = n) ∧ linkCseq f = s.get (CST_CHSTAT.CSEQ c) ∧
            (i = 0 → (f.drop 28).take 32 = d) ∧ (descLen d ≠ 0 → (f.drop 60).take 64 = s.bytes (descAddr d + 64 * i) 64)))) ∧
    (own → k / 8 % 2 = 1 → l.items = g :: rest → g.length = 128 → ∃ t, exec (.framePeriodSlot x b) s = .next t ∧ Sent s t x g ∧
      (t.link x).items = rest ∧ (t.link x).period = k + 1) ∧
    (own → k / 8 % 2 = 0 → l.tracks = g :: rest → g.length = 128 → ∃ t, exec (.framePeriodSlot x b) s = .next t ∧ Sent s t x g ∧
      (t.link x).tracks = rest ∧ (t.link x).items = l.items ∧ (t.link x).period = k + 1) ∧
    (own → k / 8 % 2 = 0 → l.tracks = [] → l.events = g :: rest → g.length = 128 → s.evmask = 0 → ∃ t, exec (.framePeriodSlot x b) s = .next t ∧
      Sent s t x g ∧ (t.link x).events = rest ∧ (t.link x).items = l.items) ∧
    (own → k / 8 % 2 = 0 → l.tracks = [] → l.events = [] → s.evmask ≠ 0 → ∃ t, exec (.framePeriodSlot x b) s = .next t ∧ SentOwn s t x 3 ∧
      linkBcast (t.link x).lastSent = true ∧ linkNum (t.link x).lastSent 28 2 = s.evmask % 65536 ∧ t.evmask = 0) ∧
    (own → l.tracks = [] → l.events = [] → l.items = [] → s.evmask = 0 → ∃ t, exec (.framePeriodSlot x b) s = .next t ∧
      (s.controlReady x = true → SentOwn s t x 4 ∧ (t.link x).sinceControl = 0 ∧ linkNum (t.link x).lastSent 28 4 = (s.reg (CST_ASYM x)).toNat) ∧
      (s.controlReady x = false → SentOwn s t x 0)) ∧
    (turn → origin ≠ s.member → ∃ t, exec (.framePeriodSlot x b) s = .next t ∧ (t.link x).period = k + 1 ∧
      (∀ p, l.forward.find? (fun p => p.1 == origin && decide (p.2.1 < k)) = some p → p.2.2.length = 128 →
        Sent s t x p.2.2 ∧ (t.link x).forward = l.forward.erase p) ∧
      (l.forward.find? (fun p => p.1 == origin && decide (p.2.1 < k)) = none → SentOwn s t x 0 ∧ (t.link x).forward = l.forward)) ∧
    (s.linkState x = 3 → k < l.period → exec (.framePeriodSlot x b) s = .next s) ∧
    (s.linkState x = 2 → ∃ t, exec (.framePeriodSlot x b) s = .next t ∧ SentOwn s t x (if s.controlReady x then 4 else 0)) ∧
    (s.linkState x = 1 → ∃ t, exec (.framePeriodSlot x b) s = .next t ∧ SentOwn s t x 0)

/-- The constellation link: what it receives, its states, and what it sends. -/
def Obligations.ConstellationCommands : Prop := LinkReceptionHold ∧ LinkTrafficHold ∧ LinkStatesHold ∧ LinkSendingHold

namespace Sys2Proof.Machine

/-! ## The vocabulary of the statements about the Eyepiece and the host window -/

/-- A write of w to EYE_CTL by master o performs its commands: the Eyepiece has the right for each (19 R899), and the strict policy lets
them through (18 R883). -/
structure State.MayDebug (s : State) (o : Origin) (w : Word) : Prop extends s.Takes o EYE_CTL where
  runctl : o = .eyepiece → (s.get EYE_SESS.RIGHTS).testBit 0 = true
  live : w.getLsbD 5 = true → o = .eyepiece → (s.get EYE_SESS.RIGHTS).testBit 1 = true
  policy : s.logRefuses o = false

/-- Engine e takes halt requests: it is not stopped, halted or frozen (19 R900). -/
def State.Haltable (s : State) (e : Nat) : Prop :=
  s.get (ENG_STAT.STATE e) ≠ 0 ∧ s.get (ENG_STAT.STATE e) ≠ 3 ∧ s.get (ENG_STAT.STATE e) ≠ 4

/-- Vernier v runs or is stalled. -/
def State.VernierGoes (s : State) (v : Nat) : Prop := s.get (VRN_STAT.STATE v) = 1 ∨ s.get (VRN_STAT.STATE v) = 2

/-- Halt requests of a kind, 1 HALT and 2 HALT_NOW, to engines and Verniers of some sets (19 R900, R908, R914). -/
def HaltsRequested (kind : Nat) (engines verniers : Nat → Prop) (s t : State) : Prop :=
  (∀ e < 12, engines e → s.Haltable e → (t.eng e).halt = max (s.eng e).halt kind) ∧
  (∀ e < 12, ¬ (engines e ∧ s.Haltable e) → t.eng e = s.eng e) ∧
  ∀ v < 24, t.vernierHalts.testBit v = true ↔ s.vernierHalts.testBit v = true ∨ verniers v ∧ s.VernierGoes v

/-- What master o reads: a response and a word. -/
def ReadAs (o : Origin) (t : State) (resp : Nat) (w : Word) : Prop :=
  (o = .host → t.host.resp = resp ∧ t.host.data = [w]) ∧ (o = .eyepiece → t.eyeResp = resp ∧ t.eyeData = w)

/-- The access that a write of v to EYE_MCTL starts (19 R918, R920, `EYE_MCTL`). -/
def State.started (s : State) (v : Word) : EyeAccess :=
  { viaDr := false, write := v.getLsbD 2, ext := v.getLsbD 3, wide := v.getLsbD 4
    addr := (s.reg EYE_MADDR).toNat / (if v.getLsbD 4 then 8 else 4) * (if v.getLsbD 4 then 8 else 4)
    data := s.reg EYE_MDATA1 ++ s.reg EYE_MDATA0, tag := none }

/-- The access that waits longest is to plates, allowed, and finds its idle tick with no marked word (19 R918, R919). -/
structure State.MasterServes (s : State) (x : EyeAccess) (n : Nat) : Prop where
  plates : x.ext = false
  width : n = if x.wide then 8 else 4
  allowed : s.masterAllows x = true
  idle : s.masterIdle x = true
  clean : ∀ a ∈ wordsIn x.addr n, s.eccAt a = 0

/-- An offset of the host window inside a register block at which no register is assigned (21 R955, R956). -/
def State.Unassigned (s : State) (off : Nat) : Prop :=
  inRegisterBlock off = true ∧ s.keyAt off < 0x1000000 ∧ regDesc (s.keyAt off) = none

/-- Registers whose access codes are their only rules: CLK_QUIES, SEC_SLOTIDX, RGL_PINCAL_IDX, EVC_ENG, QM_QIDX, CST_CHIDX, EYE_EIDX and
EYE_MADDR. -/
def plainKeys : List Nat := [CLK_QUIES, SEC_SLOTIDX, RGL_PINCAL_IDX, EVC_ENG 0, EVC_ENG 11, QM_QIDX, CST_CHIDX, EYE_EIDX, EYE_MADDR]

end Sys2Proof.Machine

/-- 19 R899 to R905, R908, R914, R916: HALT and HALT_NOW register requests to the selected units that can halt, RESUME lets the halted ones
go on, STEP makes a halted engine execute one microword, LIVE arms one live read; the Eyepiece without the right is DENIED; a due
request halts an engine, which keeps RUN, or a Vernier; the cross-trigger requests halts of its set. -/
def Sys2Proof.Machine.RunControlHold : Prop :=
  ∀ (o : Origin) (v : Word) (e : Fin 12) (n : Fin 24) (s : State),
    let chosen := fun e => (s.reg EYE_ESEL).getLsbD e = true
    let chosenV := fun v => (s.reg EYE_VSEL).getLsbD v = true
    let quiet := v.getLsbD 1 = false ∧ v.getLsbD 2 = false ∧ v.getLsbD 3 = false ∧ v.getLsbD 4 = false
    (quiet → s.MayDebug o (v ||| 2) → ∃ t, exec (.halt o v) s = .next t ∧ Answered o t 0 ∧ HaltsRequested 1 chosen chosenV s t ∧
      t.mem = s.mem ∧ t.banks = s.banks) ∧
    (quiet → s.MayDebug o (v ||| 4) → ∃ t, exec (.haltNow o v) s = .next t ∧ Answered o t 0 ∧ HaltsRequested 2 chosen chosenV s t ∧
      t.mem = s.mem ∧ t.banks = s.banks) ∧
    (quiet → s.MayDebug o (v ||| 8) → ∃ t, exec (.resume o v) s = .next t ∧ Answered o t 0 ∧
      (chosen e → s.get (ENG_STAT.STATE e) = 3 → (s.eng e).was = 1 ∨ (s.eng e).was = 2 → t.get (ENG_STAT.STATE e) = (s.eng e).was) ∧
      (¬ chosen e → t.get (ENG_STAT.STATE e) = s.get (ENG_STAT.STATE e) ∧ t.eng e = s.eng e) ∧
      (chosenV n → s.get (VRN_STAT.STATE n) = 3 → (s.vernier n).was = 1 ∨ (s.vernier n).was = 2 → t.get (VRN_STAT.STATE n) = (s.vernier n).was) ∧
      (¬ chosenV n → t.get (VRN_STAT.STATE n) = s.get (VRN_STAT.STATE n)) ∧ t.gprs = s.gprs ∧ t.banks = s.banks ∧ t.mem = s.mem) ∧
    (quiet → v.getLsbD 7 = true → s.MayDebug o (v ||| 16) → s.reg EYE_VSEL = 0 → ∃ t, exec (.step o v) s = .next t ∧ Answered o t 0 ∧
      (chosen e → s.get (ENG_STAT.STATE e) = 3 → (s.eng e).was = 1 → t.get (ENG_STAT.STATE e) = 1 ∧ (t.eng e).stepping = true) ∧
      (chosen e → s.get (ENG_STAT.STATE e) = 3 → (s.eng e).was = 2 → t.get (ENG_STAT.STATE e) = 3) ∧
      (s.get (ENG_STAT.STATE e) ≠ 3 ∨ ¬ chosen e → t.get (ENG_STAT.STATE e) = s.get (ENG_STAT.STATE e)) ∧ t.gprs = s.gprs ∧ t.banks = s.banks) ∧
    (quiet → s.MayDebug o (v ||| 32) → ∃ t, exec (.live o v) s = .next t ∧ Answered o t 0 ∧ t.on EYE_CTL.LIVE = true ∧ OnlyRegs [EYE_CTL] s t) ∧
    (s.Takes .eyepiece EYE_CTL → (s.get EYE_SESS.RIGHTS).testBit 0 = false →
      (∃ t, exec (.halt .eyepiece v) s = .next t ∧ Refused .eyepiece s t) ∧ (∃ t, exec (.haltNow .eyepiece v) s = .next t ∧ Refused .eyepiece s t) ∧
      (∃ t, exec (.resume .eyepiece v) s = .next t ∧ Refused .eyepiece s t) ∧ ∃ t, exec (.step .eyepiece v) s = .next t ∧ Refused .eyepiece s t) ∧
    (s.Takes .eyepiece EYE_CTL → (s.get EYE_SESS.RIGHTS).testBit 1 = false → ∃ t, exec (.live .eyepiece v) s = .next t ∧ Refused .eyepiece s t) ∧
    (s.engineClock = true → s.Haltable e → s.haltDue e = true → ∃ t, exec (.engineHalt e) s = .next t ∧ t.get (ENG_STAT.STATE e) = 3 ∧
      (t.eng e).was = s.get (ENG_STAT.STATE e) ∧ (t.eng e).halt = 0 ∧ t.on (ENG_CTL.RUN e) = s.on (ENG_CTL.RUN e) ∧ t.banks = s.banks ∧
      t.gprs = s.gprs ∧ t.mem = s.mem) ∧
    (¬ (s.Haltable e ∧ s.haltDue e = true) → exec (.engineHalt e) s = .next s) ∧
    (s.ifcOn = true → s.pllsRun = true → s.vernierHalts.testBit n = true → ∃ t, exec (.vernierHalt n) s = .next t ∧
      t.vernierHalts.testBit n = false ∧ (∀ m < 24, m ≠ n.val → t.vernierHalts.testBit m = s.vernierHalts.testBit m) ∧
      (s.VernierGoes n → t.get (VRN_STAT.STATE n) = 3 ∧ (t.vernier n).was = s.get (VRN_STAT.STATE n) ∧ (t.vernier n).left = (s.vernier n).left) ∧
      (¬ s.VernierGoes n → t.regs = s.regs ∧ t.verniers = s.verniers)) ∧
    (s.vernierHalts.testBit n = false → exec (.vernierHalt n) s = .next s) ∧
    (s.crossTrigger = true → ∃ t, exec .crossTrigger s = .next t ∧ t.crossTrigger = false ∧ t.regs = s.regs ∧
      HaltsRequested 1 (fun e => (s.get EYE_XTRIG.ENG).testBit e = true) (fun v => (s.get EYE_XTRIG.VGRP).testBit (v / 8) = true) s t) ∧
    (s.crossTrigger = false → exec .crossTrigger s = .next s)

/-- 19 R895, R898, R907, R917 to R921: EYE_EDATA reads and writes a halted engine's items and is DENIED otherwise; a freeze bit needs its right;
a session whose time is over closes; a power-off is a debug reset; the master starts what its table allows, withdraws, and serves
an access with its data, an error or a denial. -/
def Sys2Proof.Machine.EyepieceHold : Prop :=
  ∀ (o : Origin) (v : Word) (x : EyeAccess) (rest : List EyeAccess) (n : Nat) (data : DWord) (s : State),
    let e := s.get EYE_EIDX.ENG
    let l := s.get EYE_EIDX.LVL
    let i := s.get EYE_EIDX.ITEM
    let st := s.get (ENG_STAT.STATE e)
    let may := o = .eyepiece → (s.get EYE_SESS.RIGHTS).testBit 0 = true
    (s.busError o false EYE_EDATA = false → s.dbgOn = true → ∃ t, exec (.eyeEdataAccess o none) s = .next t ∧ OnlyRegs [] s t ∧
      (e < 12 → st = 1 ∨ st = 2 → ReadAs o t 2 0) ∧
      (e < 12 → st = 0 ∨ st = 3 ∨ st = 4 → (i < 16 → l ≤ 4 → ReadAs o t 0 (s.gpr e l i)) ∧ (i < 16 → 5 ≤ l → ReadAs o t 0 0) ∧
        (i = 0x10 → l ≤ 4 → ReadAs o t 0 ((s.bank e l).cc.setWidth 32)) ∧ (i = 0x11 → l ≤ 4 → ReadAs o t 0 ((s.bank e l).link.setWidth 32)) ∧
        (i = 0x12 → l ≤ 4 → ReadAs o t 0 ((s.bank e l).lcnt.setWidth 32)) ∧ (i = 0x14 → ReadAs o t 0 (s.reg (ENG_UPC e))) ∧
        (0x20 ≤ i → i < 0x30 → ReadAs o t 0 ((s.lensReg e ((i - 0x20) / 2)).extractLsb' (32 * (i % 2)) 32)) ∧
        (i = 0x30 → ReadAs o t 0 (s.eng e).lres) ∧ (0x15 ≤ i → i < 0x20 ∨ 0x30 < i → ReadAs o t 0 0))) ∧
    (s.Takes o EYE_EDATA → e < 12 → st ≠ 3 → ∃ t, exec (.eyeEdataAccess o (some v)) s = .next t ∧ Refused o s t) ∧
    (s.Takes o EYE_EDATA → e < 12 → st = 3 → may → ∃ t, exec (.eyeEdataAccess o (some v)) s = .next t ∧ Answered o t 0 ∧
      (i < 16 → l ≤ 4 → t.gpr e l i = v ∧ ∀ e' l' i', l' < 5 → i' < 16 → ¬ (e' = e ∧ l' = l ∧ i' = i) → t.gpr e' l' i' = s.gpr e' l' i') ∧
      (i = 0x10 → l ≤ 4 → (t.bank e l).cc = v.setWidth 10) ∧ (i = 0x11 → l ≤ 4 → (t.bank e l).link = v.setWidth 13) ∧
      (i = 0x12 → l ≤ 4 → (t.bank e l).lcnt = v.setWidth 16) ∧ (i = 0x14 → t.get (ENG_UPC.UPC e) = v.toNat % 0x2000) ∧
      (0x20 ≤ i → i < 0x30 → (t.lensReg e ((i - 0x20) / 2)).extractLsb' (32 * (i % 2)) 32 = v) ∧ (i = 0x30 → (t.eng e).lres = v) ∧
      (5 ≤ l ∧ i < 16 ∨ 0x15 ≤ i ∧ i < 0x20 ∨ 0x30 < i → OnlyRegs [] s t)) ∧
    (s.Takes o EYE_FREEZE → o ≠ .eyepiece ∨ (s.get EYE_SESS.RIGHTS).testBit 5 = true ∧ (s.get EYE_SESS.RIGHTS).testBit 6 = true →
      ∃ t, exec (.eyeFreezeWrite o v) s = .next t ∧ Answered o t 0 ∧ t.on EYE_FREEZE.SERVO = v.getLsbD 0 ∧ t.on EYE_FREEZE.ASST = v.getLsbD 1 ∧
        t.on AST_STAT.WDFRZ = v.getLsbD 1 ∧ t.on RGL_STAT.SVCFRZ = (s.on RGL_STAT.SVCFRZ || v.getLsbD 0) ∧
        OnlyRegs [EYE_FREEZE, AST_STAT, RGL_STAT] s t) ∧
    (s.Takes .eyepiece EYE_FREEZE → v.getLsbD 1 ≠ s.on EYE_FREEZE.ASST → (s.get EYE_SESS.RIGHTS).testBit 5 = false →
      ∃ t, exec (.eyeFreezeWrite .eyepiece v) s = .next t ∧ Refused .eyepiece s t) ∧
    (∀ aon, (s.on EYE_STAT.SESS = false → exec (.sessionExpiry aon) s = .next s) ∧
      (s.on EYE_STAT.SESS = true → s.eyepiece.left = none → ∃ t, exec (.sessionExpiry aon) s = .next t ∧ t.regs = s.regs ∧ t.eyepiece.left = none) ∧
      (∀ k, s.on EYE_STAT.SESS = true → s.eyepiece.left = some k → ∃ t, exec (.sessionExpiry aon) s = .next t ∧
        (let p := (s.eyepiece.aonCount + aon) / 32768
         (p < k → t.on EYE_STAT.SESS = true ∧ t.eyepiece.left = some (k - p) ∧ t.get EYE_SESS.REMAIN = min (k - p) 0xFFFF) ∧
         (k ≤ p → t.on EYE_STAT.SESS = false ∧ t.reg EYE_SESS = 0 ∧ t.reg EYE_FREEZE = 0 ∧ t.reg EYE_BRKEN = 0 ∧ t.eyepiece.left = none ∧
           t.on EYE_CTL.LIVE = false ∧ ∀ e < 12, (t.eng e).halt = 0)))) ∧
    (s.dbgOn = true → ∃ t, exec .debugDomainPowerOff s = .next t ∧ t.dbgOn = false ∧ t.on EYE_STAT.SESS = false ∧ t.reg EYE_ESEL = 0 ∧
      t.eyepiece.access = [] ∧ t.mem = s.mem ∧ t.gprs = s.gprs ∧
      ∀ e < 12, s.get (ENG_STAT.STATE e) = 3 → (s.eng e).was = 1 ∨ (s.eng e).was = 2 → t.get (ENG_STAT.STATE e) = (s.eng e).was) ∧
    (s.dbgOn = false → exec .debugDomainPowerOff s = .next s) ∧
    (s.Takes o EYE_MCTL → v.getLsbD 1 = false → s.eyepiece.access = [] → ∃ t, exec (.eyeMasterGo o v) s = .next t ∧ Answered o t 0 ∧
      t.on EYE_MCTL.DONE = false ∧
      (s.masterAllows (s.started v) = false → t.on EYE_MCTL.DENY = true ∧ t.eyepiece.access = [] ∧ t.bulk = s.bulk) ∧
      (s.masterAllows (s.started v) = true → v.getLsbD 3 = false → t.eyepiece.access = [s.started v] ∧ t.bulk = s.bulk) ∧
      (s.masterAllows (s.started v) = true → v.getLsbD 3 = true → ∃ g, t.eyepiece.access = [{ s.started v with tag := g }] ∧
        ∀ k, g = some k → 0xF8 ≤ k ∧ k < 0x100)) ∧
    (s.Takes o EYE_MCTL → v.getLsbD 1 = false → s.eyepiece.access ≠ [] → ∃ t, exec (.eyeMasterGo o v) s = .next t ∧ Answered o t 0 ∧
      t.eyepiece = s.eyepiece) ∧
    (s.Takes o EYE_MCTL → v.getLsbD 0 = false → ∃ t, exec (.eyeMasterCancel o v) s = .next t ∧ Answered o t 0 ∧
      t.eyepiece.access = s.eyepiece.access.filter (fun x => x.viaDr || x.tag.isSome) ∧ t.on EYE_MCTL.DONE = s.on EYE_MCTL.DONE ∧ t.mem = s.mem) ∧
    (s.pllsRun = true → s.eyepiece.access = [] → ∀ meet error, exec (.eyeMasterComplete meet error data) s = .next s) ∧
    (s.pllsRun = true → s.eyepiece.access = x :: rest → s.MasterServes x n → x.viaDr = false →
      (x.write = false → hiddenPlate x.addr = false → ∃ t, exec (.eyeMasterComplete .alone false data) s = .next t ∧ t.eyepiece.access = rest ∧
        t.on EYE_MCTL.DONE = true ∧ t.mem = s.mem ∧ (t.reg EYE_MDATA0).toNat = s.number x.addr 4 ∧
        (n = 8 → (t.reg EYE_MDATA1).toNat = s.number (x.addr + 4) 4)) ∧
      (x.write = true → ∃ t, exec (.eyeMasterComplete .alone false data) s = .next t ∧ t.eyepiece.access = rest ∧ t.on EYE_MCTL.DONE = true ∧
        t.bytes x.addr n = leBytes n x.data.toNat ∧ ∀ a, a < x.addr ∨ x.addr + n ≤ a → t.byte a = s.byte a)) ∧
    (s.pllsRun = true → s.eyepiece.access = x :: rest → x.ext = false → s.masterAllows x = false → ∀ meet error,
      ∃ t, exec (.eyeMasterComplete meet error data) s = .next t ∧ t.eyepiece.access = rest ∧ t.mem = s.mem ∧
        (x.viaDr = false → t.on EYE_MCTL.DENY = true) ∧ (x.viaDr = true → t.eyeResp = 2 ∧ t.eyeData = 0 ∧ t.eyepiece.drBusy = false)) ∧
    (∀ k, s.pllsRun = true → s.eyepiece.access = x :: rest → x.ext = true → x.tag = some k → x.viaDr = false →
      ∃ t u, exec (.eyeMasterComplete .alone false data) s = .next t ∧ exec (.eyeMasterComplete .alone true data) s = .next u ∧
        t.on EYE_MCTL.DONE = true ∧ u.on EYE_MCTL.DONE = true ∧ u.on EYE_MCTL.ERR = true ∧ t.eyepiece.access = rest ∧ tfind t.bulk k = none ∧
        t.mem = s.mem ∧ (x.write = false → t.reg EYE_MDATA0 = data.setWidth 32 ∧ u.reg EYE_MDATA0 = 0))

/-- 00 R8 to R10, R14, 09 R478, 19 R890 to R893, R915, R916, 21 R936 to R940: a write reaches the bits that may be written, and clears W1C bits; a
read on the host slave port clears RC fields; a transaction against R938 is answered ERROR; CAP_W3 commits the held words; a
transaction through EYE_DR reads quietly, writes, or waits for the master; a live read clears LIVE and acts as a host read. -/
def Sys2Proof.Machine.HostWindowHold : Prop :=
  ∀ (off : BitVec 24) (o : Origin) (v : Word) (e : Fin 12) (be : BitVec 8) (data : List DWord) (meets : Bool) (s : State),
    let a := off.toNat / 4 * 4
    let key := s.keyAt a
    let k := s.get (CAP_IDX.SLOT e)
    (inRegisterBlock a = false → ∃ t, exec (.registerWrite off o v) s = .next t ∧ Answered o t 3 ∧ OnlyRegs [] s t) ∧
    (inRegisterBlock a = true → s.busError o true (hostOffset key) = true → ∃ t, exec (.registerWrite off o v) s = .next t ∧ Answered o t 3 ∧
      OnlyRegs [] s t) ∧
    (inRegisterBlock a = true → key ∈ plainKeys → s.Takes o key → ∃ t d, exec (.registerWrite off o v) s = .next t ∧ Answered o t 0 ∧
      OnlyRegs [key] s t ∧ regDesc key = some d ∧ ∀ i < 32, (t.reg key).getLsbD i =
        if d.w1c.testBit i && v.getLsbD i then false else if d.rw.testBit i then v.getLsbD i else (s.reg key).getLsbD i) ∧
    (∀ d, s.hostError false (hostOffset (s.keyAt off.toNat)) = false → s.debugOff (s.keyAt off.toNat) = false → regDesc (s.keyAt off.toNat) = some d →
      d.rc ≠ 0 → ∃ t, exec (.counterReadClear off) s = .next t ∧ t.host.resp = 0 ∧ t.host.data = [s.regValue (s.keyAt off.toNat)] ∧
        OnlyRegs [s.keyAt off.toNat] s t ∧
        ∀ i < 32, (t.reg (s.keyAt off.toNat)).getLsbD i = (!d.rc.testBit i && (s.reg (s.keyAt off.toNat)).getLsbD i)) ∧
    (off.toNat < 0x400000 → (be ≠ 0x0F ∧ be ≠ 0xF0) → ∀ write burst meet, ∃ t, exec (.hostTransaction off write burst be data meet) s = .next t ∧
      t.host.resp = 3 ∧ OnlyRegs [] s t) ∧
    (off.toNat < 0x400000 → ∀ write meet, ∃ t, exec (.hostTransaction off write true be data meet) s = .next t ∧ t.host.resp = 3 ∧
      OnlyRegs [] s t) ∧
    (off.toNat < 0x400000 → off.toNat % 8 = 0 → ∀ (d : DWord) (meet : Meeting),
      exec (.hostTransaction off true false 0x0F [d] meet) s = exec (.registerWrite off .host (d.setWidth 32)) s) ∧
    (0x400000 ≤ off.toNat → ∀ write burst meet, exec (.hostTransaction off write burst be data meet) s =
      exec (.hostPlateAccess off write burst be data meet) s) ∧
    (k ≤ 16 → s.Takes o (CAP_W e k 3) →
      let cap : BitVec 128 := (v &&& 0xFFFF) ++ (s.eng e).capHold
      ∃ t, exec (.capW3Commit e o v) s = .next t ∧ Answered o t 0 ∧
        (s.get (ENG_STAT.STATE e) ≠ 1 → t.cap e k = cap ∧ ∀ y < 12, ∀ j < 17, ¬ (y = e ∧ j = k) → t.cap y j = s.cap y j) ∧
        (s.get (ENG_STAT.STATE e) = 1 → (t.eng e).capWrites = (s.eng e).capWrites ++ [(k, cap)] ∧ ∀ y < 12, ∀ j < 17, t.cap y j = s.cap y j)) ∧
    (∀ op d, exec (.eyeDrUpdate false op off d) s = .next s) ∧
    (∀ op d, s.dbgOn = true → s.eyepiece.drBusy = true → exec (.eyeDrUpdate true op off d) s = .next s) ∧
    (s.dbgOn = true → s.eyepiece.drBusy = false →
      (∀ op : BitVec 2, op = 0 ∨ op = 3 → ∃ t, exec (.eyeDrUpdate true op off (v, meets)) s = .next t ∧ t.eyepiece.drAddr = off.toNat ∧
        t.eyepiece.drOp = op.toNat ∧ t.regs = s.regs ∧ ∀ p : Part, p ≠ .eyepiece → p.same s t) ∧
      (s.on EYE_CTL.LIVE = false → off.toNat < 0x400000 → inRegisterBlock a = true → s.busError .eyepiece false (hostOffset key) = false →
        ∃ t, exec (.eyeDrUpdate true 1 off (v, meets)) s = .next t ∧ t.regs = s.regs ∧ (∀ p : Part, p ≠ .eyepiece → p ≠ .answers → p.same s t) ∧
          (key ∈ plainKeys → t.eyeResp = 0 ∧ t.eyeData = s.reg key)) ∧
      (off.toNat < 0x400000 → inRegisterBlock a = true → key ∈ plainKeys → s.Takes .eyepiece key →
        ∃ t d, exec (.eyeDrUpdate true 2 off (v, meets)) s = .next t ∧ t.eyeResp = 0 ∧ regDesc key = some d ∧
          ∀ i < 32, d.rw.testBit i = true → (t.reg key).getLsbD i = v.getLsbD i) ∧
      (0x400000 ≤ off.toNat → off.toNat < 0xA00000 → ∀ w, s.busError .eyepiece w a = false →
        let x : EyeAccess := { viaDr := true, write := w, ext := false, wide := false, addr := a - 0x400000, data := if w then v.setWidth 64 else 0, tag := none }
        ∃ t, exec (.eyeDrUpdate true (if w then 2 else 1) off (v, meets)) s = .next t ∧
          (s.masterAllows x = true → t.eyepiece.drBusy = true ∧ t.eyepiece.access = s.eyepiece.access ++ [x]) ∧
          (s.masterAllows x = false → t.eyeResp = 2 ∧ t.eyeData = 0 ∧ t.eyepiece.drBusy = false ∧ t.eyepiece.access = s.eyepiece.access))) ∧
    (s.on EYE_CTL.LIVE = false → exec (.liveRead (off, meets)) s = .next s) ∧
    (s.dbgOn = true → s.on EYE_CTL.LIVE = true → s.eyepiece.drBusy = false → inRegisterBlock a = true → s.busError .eyepiece false (hostOffset key) = false →
      (s.logRefuses .eyepiece = true → ∃ t, exec (.liveRead (off, meets)) s = .next t ∧ t.eyeResp = 2 ∧ t.eyeData = 0 ∧ t.on EYE_CTL.LIVE = false ∧
        OnlyRegs [EYE_CTL] s t) ∧
      (s.logRefuses .eyepiece = false → ∀ x : Fin 2, key = CST_LNKCNT x → ∃ t, exec (.liveRead (off, meets)) s = .next t ∧ t.eyeResp = 0 ∧
        t.eyeData = s.reg key ∧ t.on EYE_CTL.LIVE = false ∧ t.reg key = 0))

/-- The Eyepiece and the host window. -/
def Obligations.EyepieceCommands : Prop := RunControlHold ∧ EyepieceHold

/-- Register accesses by the host slave port, the Eyepiece and other masters. -/
def Obligations.HostWindow : Prop := HostWindowHold

/-- 00 R8: a read from an unassigned offset inside a register block returns 0 with response OK, and a write to such an offset is ignored
and returns response OK, on the host slave port and through EYE_DR, where no ERROR applies to the transaction (21 R940) and the
debug domain is on for an offset in its block (19 R894). -/
def Obligations.UnassignedOffsets : Prop :=
  ∀ (off : BitVec 24) (o : Origin) (v : Word) (meet : Meeting) (meets : Bool) (s : State), off.toNat < 0x400000 →
    let a := off.toNat / 4 * 4
    s.Unassigned a →
    (s.busError o true a = false → s.debugOff a = false → ∃ t, exec (.registerWrite off o v) s = .next t ∧ Answered o t 0 ∧ OnlyRegs [] s t) ∧
    (s.hostError false a = false → ∃ t, exec (.hostTransaction off false false (if off.toNat / 4 % 2 = 0 then 0x0F else 0xF0) [] meet) s = .next t ∧
      t.host.resp = 0 ∧ t.host.data = [0] ∧ OnlyRegs [] s t) ∧
    (s.dbgOn = true → s.eyepiece.drBusy = false → s.on EYE_CTL.LIVE = false → s.busError .eyepiece false a = false →
      ∃ t, exec (.eyeDrUpdate true 1 off (v, meets)) s = .next t ∧ t.eyeResp = 0 ∧ t.eyeData = 0 ∧ t.regs = s.regs)

/-- 00 R9, R10: a write to a register from a master whose ring number is higher than the register's minimum is refused with response
DENIED, and the register is unchanged, as is everything but the Logbook; one from a master whose ring number is that or lower is
not refused for its ring (ERROR comes first, 21 R940). -/
def Obligations.RingRule : Prop :=
  ∀ (off : BitVec 24) (o : Origin) (v : Word) (d : RegDesc) (r : Nat) (s : State),
    let a := off.toNat / 4 * 4
    let key := s.keyAt a
    inRegisterBlock a = true → regDesc key = some d → s.ringOf o = some r → s.busError o true (hostOffset key) = false →
    (d.ring < r → ∃ t, exec (.registerWrite off o v) s = .next t ∧ Refused o s t) ∧
    (r ≤ d.ring → key ∈ plainKeys → s.debugOff key = false → (d.logged = true → s.logRefuses o = false) →
      ∃ t, exec (.registerWrite off o v) s = .next t ∧ Answered o t 0)

namespace Sys2Proof.Machine

/-- Source b is detected anew by a detection of some sources (18 R876). -/
def State.NewTamper (s : State) (bits : BitVec 8) (b : Nat) : Prop :=
  b < 8 ∧ bits.getLsbD b = true ∧ s.tamperSource b = true ∧ (s.get SEC_ALARM.SRC).testBit b = false

/-- The highest action of the sources detected anew (18 R877). -/
structure State.TamperTakes (s : State) (bits : BitVec 8) (act : Nat) : Prop where
  reached : ∃ b, s.NewTamper bits b ∧ (s.reg SEC_TAMPER_POL).toNat / 2 ^ (3 * b) % 8 = act
  highest : ∀ b, s.NewTamper bits b → (s.reg SEC_TAMPER_POL).toNat / 2 ^ (3 * b) % 8 ≤ act

/-- A write of v to SEC_AUTHQn by master o reaches its own rules; its ring is that of the slot that v names (18 `SEC_AUTHQn`). -/
structure State.TakesBinding (s : State) (o : Origin) (n : Nat) (v : Word) : Prop where
  bus : s.busError o true (SEC_AUTHQ n) = false
  strict : s.logRefuses o = false
  ring : ∀ r, s.ringOf o = some r → r ≤ if s.hostManaged 8 (v.toNat % 64) then 2 else 1

/-- A binding is acceptable (18 R870): the authentication unit consumes REQQ and produces RESQ, and one engine, which produces REQQ and
consumes RESQ, holds a current capability for the slot with READ. -/
def State.Binds (s : State) (req res slot : Nat) : Prop :=
  s.get (QM_QCFG.CONS req) = 4 ∧ s.get (QM_QCFG.PROD res) = 4 ∧ s.get (QM_QCFG.PROD req) = s.get (QM_QCFG.CONS res) ∧
    0x10 ≤ s.get (QM_QCFG.PROD req) ∧ s.get (QM_QCFG.PROD req) ≤ 0x1B ∧ ∃ k < 16,
      let c := s.cap (s.engMap (s.get (QM_QCFG.PROD req) - 0x10)) k
      capType c = 8 ∧ capObj c = slot ∧ s.capCurrent c = true ∧ capHas c rightRead = true

/-- The head request of binding n is d, and the unit may take it (18 R871). -/
structure State.Requests (s : State) (n : Nat) (d : List Byte) (a : Nat) : Prop where
  runs : s.pllsRun = true
  idle : s.security.auth = none
  enabled : s.on (SEC_AUTHQ.EN n) = true
  head : s.headSlot (s.get (SEC_AUTHQ.REQQ n)) = some a
  desc : d = s.bytes a 32
  clean : s.uncorrectable a 32 = false
  headOpen : s.headHeld (s.get (SEC_AUTHQ.REQQ n)) = false
  bufferOpen : s.authBad n d = true ∨ s.rangeHeld (descAddr d) (descLen d) = false

/-- The request's slot is full, of the usage of its OP, and has the GEN that the binding recorded; the request itself is good (18 R872). -/
structure State.Authentic (s : State) (n : Nat) (d : List Byte) : Prop where
  full : s.on (SEC_SLOT.FULL (s.get (SEC_AUTHQ.SLOT n))) = true
  usage : usageFits (s.get (SEC_SLOT.USAGE (s.get (SEC_AUTHQ.SLOT n)))) d = true
  gen : s.gen 8 (s.get (SEC_AUTHQ.SLOT n)) = tget (fun _ => 0) s.security.bindGen n
  good : s.authBad n d = false
  clean : s.uncorrectable (authRange d).1 (authRange d).2 = false
  tagClean : s.uncorrectable (descAddr d + descLen d - authTagBytes d) (authTagBytes d) = false

end Sys2Proof.Machine

/-- 18 R863, R868, R870 to R872, R876 to R878: a detection sets the source's alarm bit and takes the highest action, once: a record, a record
with EV254, with every slot emptied and plate 2 wiped, or the kill of keys, life cycle, region and cluster; a lowered or reserved
policy is refused from FIELD on; a binding is accepted on its conditions, else EV252 says so; the authentication unit takes a request, carries it out
and places its result. -/
def Sys2Proof.Machine.SecurityHold : Prop :=
  ∀ (bits : BitVec 8) (n : Fin 8) (o : Origin) (v : Word) (d : List Byte) (a : Nat) (r : AuthRequest) (s : State),
    let code := fun b => v.toNat / 2 ^ (3 * b) % 8
    let old := fun b => (s.reg SEC_TAMPER_POL).toNat / 2 ^ (3 * b) % 8
    let closed := s.get SEC_LCS.STATE ≠ 1 ∧ s.get SEC_LCS.STATE ≠ 2
    let bad := ∃ b < 8, 4 < code b
    let lower := ∃ b < 8, code b < old b
    let changed := v.toNat / 2 ^ 10 % 2 ^ 20 ≠ (s.reg (SEC_AUTHQ n)).toNat / 2 ^ 10 % 2 ^ 20 ∨ v.toNat % 64 ≠ s.get (SEC_AUTHQ.SLOT n)
    let slot := s.get (SEC_AUTHQ.SLOT n)
    let tagAt := descAddr d + descLen d - authTagBytes d
    (∃ t, exec (.tamperDetection bits) s = .next t ∧ ∀ b < 8, (t.get SEC_ALARM.SRC).testBit b = true ↔
      (s.get SEC_ALARM.SRC).testBit b = true ∨ s.NewTamper bits b) ∧
    ((∀ b, ¬ s.NewTamper bits b) ∨ s.TamperTakes bits 0 → ∃ t, exec (.tamperDetection bits) s = .next t ∧ t.mem = s.mem ∧ t.log = s.log ∧
      t.security.keys = s.security.keys ∧ ∀ k, k ≠ SEC_ALARM → t.reg k = s.reg k) ∧
    (∀ act, act = 1 ∨ act = 2 → s.TamperTakes bits act → s.ifcOn = true → ∃ t, exec (.tamperDetection bits) s = .next t ∧ t.mem = s.mem ∧
      t.security.keys = s.security.keys ∧ (act = 2 → t.linePending 254 = true) ∧ (act = 1 → t.deliveries = s.deliveries) ∧
      (s.logBlocked = false → ∃ x, t.log.reserved = s.log.reserved ++ [x] ∧ x.origin = 0x18 ∧ x.kind = 0x0B ∧ x.fcode = 0x0E)) ∧
    (s.TamperTakes bits 3 → ∃ t, exec (.tamperDetection bits) s = .next t ∧ (∀ i < 64, t.on (SEC_SLOT.FULL i) = false ∧ t.slotKey i = 0) ∧
      t.on EYE_STAT.SESS = false ∧ t.get SEC_LCS.STATE = s.get SEC_LCS.STATE ∧ (s.ifcOn = false → t.mem = s.mem) ∧
      (s.ifcOn = true → t.linePending 254 = true ∧ ∀ x, t.byte x = if 0x20000 ≤ x ∧ x < 0x30000 then 0 else s.byte x)) ∧
    (s.TamperTakes bits 4 → ∃ t, exec (.tamperDetection bits) s = .next t ∧ (∀ i < 64, t.on (SEC_SLOT.FULL i) = false ∧ t.slotKey i = 0) ∧
      t.get SEC_LCS.STATE = (if s.get SEC_LCS.STATE = 4 then 4 else 0xF) ∧ t.on EYE_STAT.SESS = false ∧
      (s.ifcOn = true → t.get CLU_STAT.STATE = 0 ∧ (∀ x < 0x40000, t.byte x = 0) ∧ ∀ x, 0x40000 ≤ x → t.byte x = s.byte x)) ∧
    (s.Takes o SEC_TAMPER_POL →
      (closed → bad ∨ lower → ∃ t, exec (.tamperPolWrite o v) s = .next t ∧ Refused o s t) ∧
      (¬ (closed ∧ (bad ∨ lower)) → ∃ t, exec (.tamperPolWrite o v) s = .next t ∧ Answered o t 0 ∧ OnlyRegs [SEC_TAMPER_POL] s t ∧
        ∀ b < 8, (t.reg SEC_TAMPER_POL).toNat / 2 ^ (3 * b) % 8 = if code b ≤ 4 then code b else old b)) ∧
    (s.TakesBinding o n v →
      (s.on (SEC_AUTHQ.EN n) = true → changed → ∃ t, exec (.authBindingWrite n o v) s = .next t ∧ Refused o s t) ∧
      (¬ (s.on (SEC_AUTHQ.EN n) = true ∧ changed) → v.getLsbD 31 = false → ∃ t, exec (.authBindingWrite n o v) s = .next t ∧ Answered o t 0 ∧
        t.on (SEC_AUTHQ.EN n) = false ∧ OnlyRegs [SEC_AUTHQ n] s t) ∧
      (¬ (s.on (SEC_AUTHQ.EN n) = true ∧ changed) → v.getLsbD 31 = true → ¬ s.Binds (v.toNat / 2 ^ 10 % 1024) (v.toNat / 2 ^ 20 % 1024) (v.toNat % 64) →
        ∃ t, exec (.authBindingWrite n o v) s = .next t ∧ Answered o t 0 ∧ t.reg (SEC_AUTHQ n) = s.reg (SEC_AUTHQ n) ∧ t.security = s.security ∧
          t.linePending 252 = true) ∧
      (¬ (s.on (SEC_AUTHQ.EN n) = true ∧ changed) → v.getLsbD 31 = true → s.Binds (v.toNat / 2 ^ 10 % 1024) (v.toNat / 2 ^ 20 % 1024) (v.toNat % 64) →
        ∃ t, exec (.authBindingWrite n o v) s = .next t ∧ Answered o t 0 ∧ t.on (SEC_AUTHQ.EN n) = true ∧
          t.get (SEC_AUTHQ.REQQ n) = v.toNat / 2 ^ 10 % 1024 ∧ t.get (SEC_AUTHQ.RESQ n) = v.toNat / 2 ^ 20 % 1024 ∧
          t.get (SEC_AUTHQ.SLOT n) = v.toNat % 64 ∧ tget (fun _ => 0) t.security.bindGen n = s.gen 8 (v.toNat % 64))) ∧
    (s.Requests n d a → ∃ t x, exec (.authRequest n) s = .next t ∧ t.security.auth = some x ∧ x.binding = n.val ∧ x.desc = d ∧
      (t.queue (s.get (SEC_AUTHQ.REQQ n))).vis + 1 = (s.queue (s.get (SEC_AUTHQ.REQQ n))).vis ∧
      (s.on (SEC_SLOT.FULL slot) = false → x.result = 2 ∧ t.mem = s.mem) ∧
      (s.on (SEC_SLOT.FULL slot) = true → usageFits (s.get (SEC_SLOT.USAGE slot)) d = true →
        s.gen 8 slot ≠ tget (fun _ => 0) s.security.bindGen n → x.result = 3 ∧ t.on (SEC_AUTHQ.REVOKED n) = true ∧ t.mem = s.mem) ∧
      (s.on (SEC_SLOT.FULL slot) = true → s.gen 8 slot = tget (fun _ => 0) s.security.bindGen n → authOp d = 0 ∨ 5 ≤ authOp d → x.result = 4 ∧ t.mem = s.mem) ∧
      (s.Authentic n d →
        let tag := (authTag (authGmac d) (s.keyOf slot) (s.bytes (authRange d).1 (authRange d).2)).take (authTagBytes d)
        (authOp d = 1 ∨ authOp d = 3 → x.result = 0 ∧ t.bytes tagAt tag.length = tag ∧ ∀ y, y < tagAt ∨ tagAt + tag.length ≤ y → t.byte y = s.byte y) ∧
        (authOp d = 2 ∨ authOp d = 4 → x.result = (if s.bytes tagAt (authTagBytes d) = tag then 0 else 1) ∧ t.mem = s.mem))) ∧
    (s.security.auth ≠ none ∨ s.on (SEC_AUTHQ.EN n) = false → exec (.authRequest n) s = .next s) ∧
    (s.security.auth = none → exec .authResult s = .next s) ∧
    (let q := s.get (SEC_AUTHQ.RESQ r.binding)
     s.security.auth = some r → s.pllsRun = true → r.desc.length = 32 → s.Accepts q →
      ¬ (s.on (QM_QWM.RETEN (s.get (SEC_AUTHQ.REQQ r.binding))) = true ∧ s.get (QM_QWM.RETQ (s.get (SEC_AUTHQ.REQQ r.binding))) = q) → ∃ t, exec .authResult s = .next t ∧ t.security.auth = none ∧
      t.queueCount q = s.queueCount q + 1 ∧ t.get SEC_AUTHSTAT.REQS = min 65535 (s.get SEC_AUTHSTAT.REQS + 1) ∧
      t.get SEC_AUTHSTAT.FAILS = (if r.result = 0 then s.get SEC_AUTHSTAT.FAILS else min 65535 (s.get SEC_AUTHSTAT.FAILS + 1)) ∧
      (s.get (QM_QSPLEN.LEN q) = 0 → ∃ d', (t.queue q).copying = (s.queue q).copying ++ [d'] ∧ (descWord d' 7).toNat / 2 ^ 16 = r.result % 65536 ∧
        d'.take 30 = r.desc.take 30))

/-- 18 R880, R882, R884, R886, R887: the oldest reserved record is placed at LOG_HEAD with the STAMP that keeps the order; the gap record
reserves its place once the ring has one and LOG_LOST clears; a spill write advances SPILLWR and TAIL, or stops the spill; LOG_SPILLRD and
LOG_TAIL move forward only, up to their limits. -/
def Sys2Proof.Machine.LogbookHold : Prop :=
  ∀ (o : Origin) (v : Word) (r : LogRecord) (rest : List LogRecord) (s : State),
    let at_ := 32 * ((s.reg LOG_HEAD).toNat % 1024)
    (s.ifcOn = true → s.pllsRun = true → s.log.reserved = r :: rest → ∃ t, exec .logRecordPlace s = .next t ∧ t.reg LOG_HEAD = s.reg LOG_HEAD + 1 ∧
      t.log.reserved = rest ∧ t.number at_ 12 = max s.log.lastStamp.toNat r.stamp.toNat ∧
      t.log.lastStamp.toNat = max s.log.lastStamp.toNat r.stamp.toNat ∧ t.number (at_ + 12) 1 = r.origin % 256 ∧ t.number (at_ + 13) 1 = r.kind % 256 ∧
      t.number (at_ + 14) 1 = r.fcode % 256 ∧ t.number (at_ + 15) 1 = r.qual % 8 + (if r.refused then 8 else 0) ∧
      t.number (at_ + 16) 4 = (s.reg LOG_HEAD).toNat ∧ t.number (at_ + 20) 4 = r.object.toNat ∧ t.number (at_ + 24) 4 = r.value.toNat ∧
      t.number (at_ + 28) 4 = r.aux.toNat ∧ (∀ x, x < at_ ∨ at_ + 32 ≤ x → t.byte x = s.byte x) ∧ ∀ k, k ≠ LOG_HEAD → t.reg k = s.reg k) ∧
    (s.log.reserved = [] → exec .logRecordPlace s = .next s) ∧
    (s.ifcOn = true → s.pllsRun = true → s.reg LOG_LOST ≠ 0 → s.logFull = false → ∃ t x, exec .gapRecord s = .next t ∧
      t.log.reserved = s.log.reserved ++ [x] ∧ x.kind = 0x0D ∧ x.origin = s.log.lostOrigin ∧ x.value = s.reg LOG_LOST ∧ x.stamp = s.now96 ∧
      x.aux = BitVec.ofNat 32 s.log.lostSec ∧ t.reg LOG_LOST = 0 ∧ t.mem = s.mem ∧ ∀ k, k ≠ LOG_LOST → t.reg k = s.reg k) ∧
    (s.reg LOG_LOST = 0 ∨ s.logFull = true → exec .gapRecord s = .next s) ∧
    (s.spillDue = true → ∃ t u, exec (.logSpillWrite false) s = .next t ∧ exec (.logSpillWrite true) s = .next u ∧
      t.reg LOG_SPILLWR = s.spillNext + 1 ∧ t.reg LOG_TAIL = s.spillNext + 1 ∧ (∀ k, k ≠ LOG_SPILLWR → k ≠ LOG_TAIL → t.reg k = s.reg k) ∧
      u.on LOG_CTL.SPILLERR = true ∧ u.on LOG_CTL.SPILLEN = false ∧ ∀ k, k ≠ LOG_CTL → u.reg k = s.reg k) ∧
    (s.spillDue = false → ∀ err, exec (.logSpillWrite err) s = .next s) ∧
    (s.Takes o LOG_SPILLRD →
      let inside := (v - s.reg LOG_SPILLRD).toNat ≤ (s.reg LOG_SPILLWR - s.reg LOG_SPILLRD).toNat
      ∃ t, exec (.logSpillrdWrite o v) s = .next t ∧ Answered o t 0 ∧ OnlyRegs [LOG_SPILLRD] s t ∧
        t.reg LOG_SPILLRD = if inside then v else s.reg LOG_SPILLRD) ∧
    (s.Takes o LOG_TAIL →
      let inside := s.on LOG_CTL.SPILLEN = false ∧ (v - s.reg LOG_TAIL).toNat ≤ (s.reg LOG_HEAD - s.reg LOG_TAIL).toNat
      ∃ t, exec (.logTailWrite o v) s = .next t ∧ Answered o t 0 ∧ OnlyRegs [LOG_TAIL] s t ∧ t.reg LOG_TAIL = if inside then v else s.reg LOG_TAIL)

/-- The tamper monitor, the authentication unit and the Logbook. -/
def Obligations.SecurityCommands : Prop := SecurityHold ∧ LogbookHold

/-- A step runs the command at the front of the queue on the state with the rest of the queue, a command put at the front runs
next, and with an empty queue one TCLK edge passes, or one period of AON_CLK while TCLK
stands (the model's choice, log entry 5). -/
def Obligations.StepRunsFront : Prop :=
  (∀ (c : Instr) (rest : List Instr) (s : State), s.pending = c :: rest → step s = exec c { s with pending := rest }) ∧
  (∀ (c : Instr) (s : State), step (s.withCommand c) = exec c s) ∧
  (∀ s : State, s.pending = [] → step s = .next s.idle)

/-- Every command answers a next state in every state: a turned away access is a response on its port, a fault of an engine is state
(the model's choice, log entry 18). -/
def Obligations.EveryCommandAnswers : Prop := ∀ (c : Instr) (s : State), ∃ t, exec c s = .next t

/-- After reset the plate store and the registers are in canonical form, no command waits, every register holds its reset value (the
values of log entry 2 where the spec gives none), and every byte of the plate store reads 0 (log entry 3). -/
def Obligations.InvAtReset : Prop :=
  State.reset.Inv ∧ State.reset.pending = [] ∧ (∀ k, State.reset.reg k = resetWord k) ∧ ∀ a, State.reset.byte a = 0

/-- Every step from a state whose plate store and registers are in canonical form ends in such a state: addresses strictly rise, and
no entry is listed that an unlisted one reads as. -/
def Obligations.InvKept : Prop := ∀ s t : State, s.Inv → step s = .next t → t.Inv

/-- Every command leaves every part of the state that it is not given to act on as it was, the queue of commands among them, and
takes up free values in order. -/
def Obligations.CommandFrames : Prop :=
  ∀ (c : Instr) (s t : State), exec c s = .next t →
    (∀ p : Part, p ∉ c.touches → p.same s t) ∧ t.pending = s.pending ∧ s.freeUsed ≤ t.freeUsed
end

