-- ==== Sys2Proof/Laws/Table.lean ====
section
/-! SUPPORT. Tables: a read after a write, and the canonical form. -/

namespace Sys2Proof.Machine

variable {α : Type}

theorem tdrop_cons (k : Nat) (p : Nat × α) (t : Table α) : tdrop k (p :: t) = if p.1 = k then tdrop k t else p :: tdrop k t := by
  by_cases h : p.1 = k <;> simp [tdrop, h]

theorem tget_tdrop_same (d : Nat → α) (t : Table α) (k : Nat) : tget d (tdrop k t) k = d k := by
  induction t with
  | nil => rfl
  | cons p t ih => grind [tdrop_cons, tget]

theorem tget_tdrop_other (d : Nat → α) (t : Table α) (k j : Nat) (hj : j ≠ k) : tget d (tdrop k t) j = tget d t j := by
  induction t with
  | nil => rfl
  | cons p t ih => grind [tdrop_cons, tget]

theorem tget_tinsert_same (d : Nat → α) (t : Table α) (k : Nat) (v : α) (h : ∀ p ∈ t, p.1 ≠ k) : tget d (tinsert k v t) k = v := by
  induction t with
  | nil => simp [tinsert, tget]
  | cons p t ih =>
    unfold tinsert
    split
    · simp [tget]
    · simp [tget, h p (by simp), ih fun q hq => h q (by simp [hq])]

theorem tget_tinsert_other (d : Nat → α) (t : Table α) (k j : Nat) (v : α) (hj : j ≠ k) : tget d (tinsert k v t) j = tget d t j := by
  have hk : ¬ k = j := fun e => hj e.symm
  induction t with
  | nil => simp [tinsert, tget, hk]
  | cons p t ih =>
    unfold tinsert
    split <;> simp [tget, hk, ih]

theorem tdrop_keys (k : Nat) (t : Table α) : ∀ p ∈ tdrop k t, p.1 ≠ k := by
  intro p hp
  simpa using (List.mem_filter.mp hp).2

/-- A table reads what was written, and elsewhere what it read before. -/
theorem tget_tset [DecidableEq α] (d : Nat → α) (t : Table α) (k j : Nat) (v : α) :
    tget d (tset d t k v) j = if j = k then v else tget d t j := by
  unfold tset
  by_cases hj : j = k
  · subst hj
    split
    · simp_all [tget_tdrop_same]
    · simp [tget_tinsert_same d _ j v (tdrop_keys j t)]
  · split <;> simp [hj, tget_tdrop_other, tget_tinsert_other]

theorem tdrop_wf (d : Nat → α) (t : Table α) (k : Nat) (h : TableWf d t) : TableWf d (tdrop k t) :=
  ⟨h.1.filter _, fun p hp => h.2 p (List.mem_filter.mp hp).1⟩

/-- Any part of a canonical table is canonical. -/
theorem filter_wf (d : Nat → α) (t : Table α) (f : Nat × α → Bool) (h : TableWf d t) : TableWf d (t.filter f) :=
  ⟨h.1.filter _, fun p hp => h.2 p (List.mem_filter.mp hp).1⟩

theorem tinsert_mem (k : Nat) (v : α) (t : Table α) (p : Nat × α) (hp : p ∈ tinsert k v t) : p = (k, v) ∨ p ∈ t := by
  induction t with
  | nil => simpa [tinsert] using hp
  | cons q t ih =>
    unfold tinsert at hp
    split at hp
    · simpa using hp
    · rcases List.mem_cons.mp hp with h | h
      · simp [h]
      · rcases ih h with h | h <;> simp [h]

theorem tinsert_sorted (k : Nat) (v : α) (t : Table α) (h : t.Pairwise fun p q => p.1 < q.1) (hk : ∀ p ∈ t, p.1 ≠ k) :
    (tinsert k v t).Pairwise fun p q => p.1 < q.1 := by
  induction t with
  | nil => simp [tinsert]
  | cons q t ih =>
    have hq := List.pairwise_cons.mp h
    unfold tinsert
    split
    · rename_i hlt
      refine List.pairwise_cons.mpr ⟨fun p hp => ?_, h⟩
      rcases List.mem_cons.mp hp with e | e
      · subst e; exact hlt
      · exact Nat.lt_trans hlt (hq.1 p e)
    · rename_i hge
      refine List.pairwise_cons.mpr ⟨fun p hp => ?_, ih hq.2 fun p hp => hk p (by simp [hp])⟩
      rcases tinsert_mem k v t p hp with e | e
      · subst e
        have := hk q (by simp)
        simp only
        omega
      · exact hq.1 p e

/-- A write keeps the canonical form. -/
theorem tset_wf [DecidableEq α] (d : Nat → α) (t : Table α) (k : Nat) (v : α) (h : TableWf d t) : TableWf d (tset d t k v) := by
  unfold tset
  split
  · exact tdrop_wf d t k h
  · rename_i hv
    refine ⟨tinsert_sorted k v _ (tdrop_wf d t k h).1 (tdrop_keys k t), fun p hp => ?_⟩
    rcases tinsert_mem k v _ p hp with e | e
    · subst e; exact hv
    · exact (tdrop_wf d t k h).2 p e

/-- The memory's canonical form is that of a table of bytes whose default is 0. -/
theorem memory_wf_iff (m : Memory) : Memory.wf m = true ↔ TableWf (fun _ => (0 : Byte)) m := by
  simp [Memory.wf, TableWf, List.all_eq_true]

end Sys2Proof.Machine
end

