-- ==== Sys2Proof/Laws/State.lean ====
section
/-! SUPPORT. The small lemmas of State: what each updater leaves as it was, and what is read after a write. Each `_fields` lemma has
one conjunct for every other field of State. -/

namespace Sys2Proof.Machine

set_option Elab.async false

/-! ## Fields of a register word -/

theorem fieldMask_bit (hi lo k : Nat) : (fieldMask hi lo).getLsbD k = (decide (k < 32) && (decide (lo ≤ k) && decide (k ≤ hi))) := by
  simp only [fieldMask, BitVec.getLsbD_ofNat, Nat.testBit_shiftLeft, Nat.testBit_two_pow_sub_one]
  by_cases h : k < 32 <;> by_cases h1 : lo ≤ k <;> by_cases h2 : k ≤ hi <;> simp [h, h1, h2] <;> omega

theorem fieldSet_bit (w : Word) (hi lo v k : Nat) : (fieldSet w hi lo v).getLsbD k =
    (decide (k < 32) && if lo ≤ k ∧ k ≤ hi then v.testBit (k - lo) else w.getLsbD k) := by
  simp only [fieldSet, BitVec.getLsbD_or, BitVec.getLsbD_and, BitVec.getLsbD_not, fieldMask_bit, BitVec.getLsbD_ofNat, Nat.testBit_shiftLeft]
  by_cases h : k < 32 <;> by_cases h1 : lo ≤ k <;> by_cases h2 : k ≤ hi <;> simp [h, h1, h2]

theorem fieldOf_bit (w : Word) (hi lo k : Nat) : (fieldOf w hi lo).testBit k = (decide (k < hi + 1 - lo) && w.getLsbD (lo + k)) := by
  simp only [fieldOf]
  rw [← BitVec.getLsbD, BitVec.getLsbD_extractLsb']

/-- A field reads what was written to it, within its width. -/
theorem fieldOf_fieldSet (w : Word) (hi lo v : Nat) (h : hi < 32) : fieldOf (fieldSet w hi lo v) hi lo = v % 2 ^ (hi + 1 - lo) := by
  apply Nat.eq_of_testBit_eq
  intro k
  rw [fieldOf_bit, fieldSet_bit, Nat.testBit_mod_two_pow]
  by_cases hk : k < hi + 1 - lo
  · have h1 : lo + k < 32 := by omega
    have h2 : lo + k ≤ hi := by omega
    simp [hk, h1, h2]
  · simp [hk]

/-- A field does not change with the write of another one. -/
theorem fieldOf_fieldSet_other (w : Word) (hi lo v hi' lo' : Nat) (h : hi < lo' ∨ hi' < lo) : fieldOf (fieldSet w hi' lo' v) hi lo = fieldOf w hi lo := by
  apply Nat.eq_of_testBit_eq
  intro k
  rw [fieldOf_bit, fieldOf_bit, fieldSet_bit]
  by_cases hk : k < hi + 1 - lo
  · have h1 : ¬ (lo' ≤ lo + k ∧ lo + k ≤ hi') := by omega
    by_cases h3 : lo + k < 32
    · simp [hk, h1, h3]
    · have : w.getLsbD (lo + k) = false := BitVec.getLsbD_of_ge _ _ (by omega)
      simp [hk, h1, h3, this]
  · simp [hk]

theorem fieldOf_lt (w : Word) (hi lo : Nat) : fieldOf w hi lo < 2 ^ (hi + 1 - lo) := (w.extractLsb' lo (hi + 1 - lo)).isLt

/-! ## What an updater leaves as it was -/

@[simp] theorem State.setReg_fields (s : State) (k) (v) :
    (s.setReg k v).pending = s.pending ∧ (s.setReg k v).freeUsed = s.freeUsed ∧ (s.setReg k v).mem = s.mem ∧ (s.setReg k v).ecc = s.ecc ∧ (s.setReg k v).host = s.host ∧ (s.setReg k v).handoff = s.handoff ∧ (s.setReg k v).rgl = s.rgl ∧ (s.setReg k v).stamps = s.stamps ∧ (s.setReg k v).alarms = s.alarms ∧ (s.setReg k v).lines = s.lines ∧ (s.setReg k v).deliveries = s.deliveries ∧ (s.setReg k v).asst = s.asst ∧ (s.setReg k v).retained = s.retained ∧ (s.setReg k v).log = s.log ∧ (s.setReg k v).queues = s.queues ∧ (s.setReg k v).bulk = s.bulk ∧ (s.setReg k v).handovers = s.handovers ∧ (s.setReg k v).ifcOn = s.ifcOn ∧ (s.setReg k v).dbgOn = s.dbgOn ∧ (s.setReg k v).eyeResp = s.eyeResp ∧ (s.setReg k v).claims = s.claims ∧ (s.setReg k v).evmask = s.evmask ∧ (s.setReg k v).bulkWaiting = s.bulkWaiting ∧ (s.setReg k v).scrubWord = s.scrubWord ∧ (s.setReg k v).flows = s.flows ∧ (s.setReg k v).stampCount = s.stampCount ∧ (s.setReg k v).verniers = s.verniers ∧ (s.setReg k v).pps = s.pps ∧ (s.setReg k v).timers = s.timers ∧ (s.setReg k v).watchdogs = s.watchdogs ∧ (s.setReg k v).trackers = s.trackers ∧ (s.setReg k v).phaseTargets = s.phaseTargets ∧ (s.setReg k v).ephHold = s.ephHold ∧ (s.setReg k v).eyeData = s.eyeData ∧ (s.setReg k v).failed = s.failed ∧ (s.setReg k v).gprs = s.gprs ∧ (s.setReg k v).banks = s.banks ∧ (s.setReg k v).lens = s.lens ∧ (s.setReg k v).wcs = s.wcs ∧ (s.setReg k v).engines = s.engines ∧ (s.setReg k v).bootKey = s.bootKey ∧ (s.setReg k v).crossTrigger = s.crossTrigger ∧ (s.setReg k v).vernierHalts = s.vernierHalts ∧ (s.setReg k v).ports = s.ports ∧ (s.setReg k v).residues = s.residues ∧ (s.setReg k v).buckets = s.buckets ∧ (s.setReg k v).groups = s.groups ∧ (s.setReg k v).streams = s.streams ∧ (s.setReg k v).channels = s.channels ∧ (s.setReg k v).power = s.power ∧ (s.setReg k v).security = s.security ∧ (s.setReg k v).chart = s.chart ∧ (s.setReg k v).assistant = s.assistant ∧ (s.setReg k v).links = s.links ∧ (s.setReg k v).constellation = s.constellation ∧ (s.setReg k v).eyepiece = s.eyepiece ∧ (s.setReg k v).jobs = s.jobs ∧ (s.setReg k v).tick = s.tick := by
  refine ⟨rfl, rfl, rfl, rfl, rfl, rfl, rfl, rfl, rfl, rfl, rfl, rfl, rfl, rfl, rfl, rfl, rfl, rfl, rfl, rfl, rfl, rfl, rfl, rfl, rfl, rfl, rfl, rfl, rfl, rfl, rfl, rfl, rfl, rfl, rfl, rfl, rfl, rfl, rfl, rfl, rfl, rfl, rfl, rfl, rfl, rfl, rfl, rfl, rfl, rfl, rfl, rfl, rfl, rfl, rfl, rfl, rfl, rfl⟩

@[simp] theorem State.put_fields (s : State) (f) (v) :
    (s.put f v).pending = s.pending ∧ (s.put f v).freeUsed = s.freeUsed ∧ (s.put f v).mem = s.mem ∧ (s.put f v).ecc = s.ecc ∧ (s.put f v).host = s.host ∧ (s.put f v).handoff = s.handoff ∧ (s.put f v).rgl = s.rgl ∧ (s.put f v).stamps = s.stamps ∧ (s.put f v).alarms = s.alarms ∧ (s.put f v).lines = s.lines ∧ (s.put f v).deliveries = s.deliveries ∧ (s.put f v).asst = s.asst ∧ (s.put f v).retained = s.retained ∧ (s.put f v).log = s.log ∧ (s.put f v).queues = s.queues ∧ (s.put f v).bulk = s.bulk ∧ (s.put f v).handovers = s.handovers ∧ (s.put f v).ifcOn = s.ifcOn ∧ (s.put f v).dbgOn = s.dbgOn ∧ (s.put f v).eyeResp = s.eyeResp ∧ (s.put f v).claims = s.claims ∧ (s.put f v).evmask = s.evmask ∧ (s.put f v).bulkWaiting = s.bulkWaiting ∧ (s.put f v).scrubWord = s.scrubWord ∧ (s.put f v).flows = s.flows ∧ (s.put f v).stampCount = s.stampCount ∧ (s.put f v).verniers = s.verniers ∧ (s.put f v).pps = s.pps ∧ (s.put f v).timers = s.timers ∧ (s.put f v).watchdogs = s.watchdogs ∧ (s.put f v).trackers = s.trackers ∧ (s.put f v).phaseTargets = s.phaseTargets ∧ (s.put f v).ephHold = s.ephHold ∧ (s.put f v).eyeData = s.eyeData ∧ (s.put f v).failed = s.failed ∧ (s.put f v).gprs = s.gprs ∧ (s.put f v).banks = s.banks ∧ (s.put f v).lens = s.lens ∧ (s.put f v).wcs = s.wcs ∧ (s.put f v).engines = s.engines ∧ (s.put f v).bootKey = s.bootKey ∧ (s.put f v).crossTrigger = s.crossTrigger ∧ (s.put f v).vernierHalts = s.vernierHalts ∧ (s.put f v).ports = s.ports ∧ (s.put f v).residues = s.residues ∧ (s.put f v).buckets = s.buckets ∧ (s.put f v).groups = s.groups ∧ (s.put f v).streams = s.streams ∧ (s.put f v).channels = s.channels ∧ (s.put f v).power = s.power ∧ (s.put f v).security = s.security ∧ (s.put f v).chart = s.chart ∧ (s.put f v).assistant = s.assistant ∧ (s.put f v).links = s.links ∧ (s.put f v).constellation = s.constellation ∧ (s.put f v).eyepiece = s.eyepiece ∧ (s.put f v).jobs = s.jobs ∧ (s.put f v).tick = s.tick := by
  refine ⟨rfl, rfl, rfl, rfl, rfl, rfl, rfl, rfl, rfl, rfl, rfl, rfl, rfl, rfl, rfl, rfl, rfl, rfl, rfl, rfl, rfl, rfl, rfl, rfl, rfl, rfl, rfl, rfl, rfl, rfl, rfl, rfl, rfl, rfl, rfl, rfl, rfl, rfl, rfl, rfl, rfl, rfl, rfl, rfl, rfl, rfl, rfl, rfl, rfl, rfl, rfl, rfl, rfl, rfl, rfl, rfl, rfl, rfl⟩

@[simp] theorem State.count_fields (s : State) (f) (n) :
    (s.count f n).pending = s.pending ∧ (s.count f n).freeUsed = s.freeUsed ∧ (s.count f n).mem = s.mem ∧ (s.count f n).ecc = s.ecc ∧ (s.count f n).host = s.host ∧ (s.count f n).handoff = s.handoff ∧ (s.count f n).rgl = s.rgl ∧ (s.count f n).stamps = s.stamps ∧ (s.count f n).alarms = s.alarms ∧ (s.count f n).lines = s.lines ∧ (s.count f n).deliveries = s.deliveries ∧ (s.count f n).asst = s.asst ∧ (s.count f n).retained = s.retained ∧ (s.count f n).log = s.log ∧ (s.count f n).queues = s.queues ∧ (s.count f n).bulk = s.bulk ∧ (s.count f n).handovers = s.handovers ∧ (s.count f n).ifcOn = s.ifcOn ∧ (s.count f n).dbgOn = s.dbgOn ∧ (s.count f n).eyeResp = s.eyeResp ∧ (s.count f n).claims = s.claims ∧ (s.count f n).evmask = s.evmask ∧ (s.count f n).bulkWaiting = s.bulkWaiting ∧ (s.count f n).scrubWord = s.scrubWord ∧ (s.count f n).flows = s.flows ∧ (s.count f n).stampCount = s.stampCount ∧ (s.count f n).verniers = s.verniers ∧ (s.count f n).pps = s.pps ∧ (s.count f n).timers = s.timers ∧ (s.count f n).watchdogs = s.watchdogs ∧ (s.count f n).trackers = s.trackers ∧ (s.count f n).phaseTargets = s.phaseTargets ∧ (s.count f n).ephHold = s.ephHold ∧ (s.count f n).eyeData = s.eyeData ∧ (s.count f n).failed = s.failed ∧ (s.count f n).gprs = s.gprs ∧ (s.count f n).banks = s.banks ∧ (s.count f n).lens = s.lens ∧ (s.count f n).wcs = s.wcs ∧ (s.count f n).engines = s.engines ∧ (s.count f n).bootKey = s.bootKey ∧ (s.count f n).crossTrigger = s.crossTrigger ∧ (s.count f n).vernierHalts = s.vernierHalts ∧ (s.count f n).ports = s.ports ∧ (s.count f n).residues = s.residues ∧ (s.count f n).buckets = s.buckets ∧ (s.count f n).groups = s.groups ∧ (s.count f n).streams = s.streams ∧ (s.count f n).channels = s.channels ∧ (s.count f n).power = s.power ∧ (s.count f n).security = s.security ∧ (s.count f n).chart = s.chart ∧ (s.count f n).assistant = s.assistant ∧ (s.count f n).links = s.links ∧ (s.count f n).constellation = s.constellation ∧ (s.count f n).eyepiece = s.eyepiece ∧ (s.count f n).jobs = s.jobs ∧ (s.count f n).tick = s.tick := by
  refine ⟨rfl, rfl, rfl, rfl, rfl, rfl, rfl, rfl, rfl, rfl, rfl, rfl, rfl, rfl, rfl, rfl, rfl, rfl, rfl, rfl, rfl, rfl, rfl, rfl, rfl, rfl, rfl, rfl, rfl, rfl, rfl, rfl, rfl, rfl, rfl, rfl, rfl, rfl, rfl, rfl, rfl, rfl, rfl, rfl, rfl, rfl, rfl, rfl, rfl, rfl, rfl, rfl, rfl, rfl, rfl, rfl, rfl, rfl⟩

@[simp] theorem State.orBits_fields (s : State) (f) (v) :
    (s.orBits f v).pending = s.pending ∧ (s.orBits f v).freeUsed = s.freeUsed ∧ (s.orBits f v).mem = s.mem ∧ (s.orBits f v).ecc = s.ecc ∧ (s.orBits f v).host = s.host ∧ (s.orBits f v).handoff = s.handoff ∧ (s.orBits f v).rgl = s.rgl ∧ (s.orBits f v).stamps = s.stamps ∧ (s.orBits f v).alarms = s.alarms ∧ (s.orBits f v).lines = s.lines ∧ (s.orBits f v).deliveries = s.deliveries ∧ (s.orBits f v).asst = s.asst ∧ (s.orBits f v).retained = s.retained ∧ (s.orBits f v).log = s.log ∧ (s.orBits f v).queues = s.queues ∧ (s.orBits f v).bulk = s.bulk ∧ (s.orBits f v).handovers = s.handovers ∧ (s.orBits f v).ifcOn = s.ifcOn ∧ (s.orBits f v).dbgOn = s.dbgOn ∧ (s.orBits f v).eyeResp = s.eyeResp ∧ (s.orBits f v).claims = s.claims ∧ (s.orBits f v).evmask = s.evmask ∧ (s.orBits f v).bulkWaiting = s.bulkWaiting ∧ (s.orBits f v).scrubWord = s.scrubWord ∧ (s.orBits f v).flows = s.flows ∧ (s.orBits f v).stampCount = s.stampCount ∧ (s.orBits f v).verniers = s.verniers ∧ (s.orBits f v).pps = s.pps ∧ (s.orBits f v).timers = s.timers ∧ (s.orBits f v).watchdogs = s.watchdogs ∧ (s.orBits f v).trackers = s.trackers ∧ (s.orBits f v).phaseTargets = s.phaseTargets ∧ (s.orBits f v).ephHold = s.ephHold ∧ (s.orBits f v).eyeData = s.eyeData ∧ (s.orBits f v).failed = s.failed ∧ (s.orBits f v).gprs = s.gprs ∧ (s.orBits f v).banks = s.banks ∧ (s.orBits f v).lens = s.lens ∧ (s.orBits f v).wcs = s.wcs ∧ (s.orBits f v).engines = s.engines ∧ (s.orBits f v).bootKey = s.bootKey ∧ (s.orBits f v).crossTrigger = s.crossTrigger ∧ (s.orBits f v).vernierHalts = s.vernierHalts ∧ (s.orBits f v).ports = s.ports ∧ (s.orBits f v).residues = s.residues ∧ (s.orBits f v).buckets = s.buckets ∧ (s.orBits f v).groups = s.groups ∧ (s.orBits f v).streams = s.streams ∧ (s.orBits f v).channels = s.channels ∧ (s.orBits f v).power = s.power ∧ (s.orBits f v).security = s.security ∧ (s.orBits f v).chart = s.chart ∧ (s.orBits f v).assistant = s.assistant ∧ (s.orBits f v).links = s.links ∧ (s.orBits f v).constellation = s.constellation ∧ (s.orBits f v).eyepiece = s.eyepiece ∧ (s.orBits f v).jobs = s.jobs ∧ (s.orBits f v).tick = s.tick := by
  refine ⟨rfl, rfl, rfl, rfl, rfl, rfl, rfl, rfl, rfl, rfl, rfl, rfl, rfl, rfl, rfl, rfl, rfl, rfl, rfl, rfl, rfl, rfl, rfl, rfl, rfl, rfl, rfl, rfl, rfl, rfl, rfl, rfl, rfl, rfl, rfl, rfl, rfl, rfl, rfl, rfl, rfl, rfl, rfl, rfl, rfl, rfl, rfl, rfl, rfl, rfl, rfl, rfl, rfl, rfl, rfl, rfl, rfl, rfl⟩

@[simp] theorem State.clearBits_fields (s : State) (f) (v) :
    (s.clearBits f v).pending = s.pending ∧ (s.clearBits f v).freeUsed = s.freeUsed ∧ (s.clearBits f v).mem = s.mem ∧ (s.clearBits f v).ecc = s.ecc ∧ (s.clearBits f v).host = s.host ∧ (s.clearBits f v).handoff = s.handoff ∧ (s.clearBits f v).rgl = s.rgl ∧ (s.clearBits f v).stamps = s.stamps ∧ (s.clearBits f v).alarms = s.alarms ∧ (s.clearBits f v).lines = s.lines ∧ (s.clearBits f v).deliveries = s.deliveries ∧ (s.clearBits f v).asst = s.asst ∧ (s.clearBits f v).retained = s.retained ∧ (s.clearBits f v).log = s.log ∧ (s.clearBits f v).queues = s.queues ∧ (s.clearBits f v).bulk = s.bulk ∧ (s.clearBits f v).handovers = s.handovers ∧ (s.clearBits f v).ifcOn = s.ifcOn ∧ (s.clearBits f v).dbgOn = s.dbgOn ∧ (s.clearBits f v).eyeResp = s.eyeResp ∧ (s.clearBits f v).claims = s.claims ∧ (s.clearBits f v).evmask = s.evmask ∧ (s.clearBits f v).bulkWaiting = s.bulkWaiting ∧ (s.clearBits f v).scrubWord = s.scrubWord ∧ (s.clearBits f v).flows = s.flows ∧ (s.clearBits f v).stampCount = s.stampCount ∧ (s.clearBits f v).verniers = s.verniers ∧ (s.clearBits f v).pps = s.pps ∧ (s.clearBits f v).timers = s.timers ∧ (s.clearBits f v).watchdogs = s.watchdogs ∧ (s.clearBits f v).trackers = s.trackers ∧ (s.clearBits f v).phaseTargets = s.phaseTargets ∧ (s.clearBits f v).ephHold = s.ephHold ∧ (s.clearBits f v).eyeData = s.eyeData ∧ (s.clearBits f v).failed = s.failed ∧ (s.clearBits f v).gprs = s.gprs ∧ (s.clearBits f v).banks = s.banks ∧ (s.clearBits f v).lens = s.lens ∧ (s.clearBits f v).wcs = s.wcs ∧ (s.clearBits f v).engines = s.engines ∧ (s.clearBits f v).bootKey = s.bootKey ∧ (s.clearBits f v).crossTrigger = s.crossTrigger ∧ (s.clearBits f v).vernierHalts = s.vernierHalts ∧ (s.clearBits f v).ports = s.ports ∧ (s.clearBits f v).residues = s.residues ∧ (s.clearBits f v).buckets = s.buckets ∧ (s.clearBits f v).groups = s.groups ∧ (s.clearBits f v).streams = s.streams ∧ (s.clearBits f v).channels = s.channels ∧ (s.clearBits f v).power = s.power ∧ (s.clearBits f v).security = s.security ∧ (s.clearBits f v).chart = s.chart ∧ (s.clearBits f v).assistant = s.assistant ∧ (s.clearBits f v).links = s.links ∧ (s.clearBits f v).constellation = s.constellation ∧ (s.clearBits f v).eyepiece = s.eyepiece ∧ (s.clearBits f v).jobs = s.jobs ∧ (s.clearBits f v).tick = s.tick := by
  refine ⟨rfl, rfl, rfl, rfl, rfl, rfl, rfl, rfl, rfl, rfl, rfl, rfl, rfl, rfl, rfl, rfl, rfl, rfl, rfl, rfl, rfl, rfl, rfl, rfl, rfl, rfl, rfl, rfl, rfl, rfl, rfl, rfl, rfl, rfl, rfl, rfl, rfl, rfl, rfl, rfl, rfl, rfl, rfl, rfl, rfl, rfl, rfl, rfl, rfl, rfl, rfl, rfl, rfl, rfl, rfl, rfl, rfl, rfl⟩

@[simp] theorem State.setBit_fields (s : State) (k) (n) (b) :
    (s.setBit k n b).pending = s.pending ∧ (s.setBit k n b).freeUsed = s.freeUsed ∧ (s.setBit k n b).mem = s.mem ∧ (s.setBit k n b).ecc = s.ecc ∧ (s.setBit k n b).host = s.host ∧ (s.setBit k n b).handoff = s.handoff ∧ (s.setBit k n b).rgl = s.rgl ∧ (s.setBit k n b).stamps = s.stamps ∧ (s.setBit k n b).alarms = s.alarms ∧ (s.setBit k n b).lines = s.lines ∧ (s.setBit k n b).deliveries = s.deliveries ∧ (s.setBit k n b).asst = s.asst ∧ (s.setBit k n b).retained = s.retained ∧ (s.setBit k n b).log = s.log ∧ (s.setBit k n b).queues = s.queues ∧ (s.setBit k n b).bulk = s.bulk ∧ (s.setBit k n b).handovers = s.handovers ∧ (s.setBit k n b).ifcOn = s.ifcOn ∧ (s.setBit k n b).dbgOn = s.dbgOn ∧ (s.setBit k n b).eyeResp = s.eyeResp ∧ (s.setBit k n b).claims = s.claims ∧ (s.setBit k n b).evmask = s.evmask ∧ (s.setBit k n b).bulkWaiting = s.bulkWaiting ∧ (s.setBit k n b).scrubWord = s.scrubWord ∧ (s.setBit k n b).flows = s.flows ∧ (s.setBit k n b).stampCount = s.stampCount ∧ (s.setBit k n b).verniers = s.verniers ∧ (s.setBit k n b).pps = s.pps ∧ (s.setBit k n b).timers = s.timers ∧ (s.setBit k n b).watchdogs = s.watchdogs ∧ (s.setBit k n b).trackers = s.trackers ∧ (s.setBit k n b).phaseTargets = s.phaseTargets ∧ (s.setBit k n b).ephHold = s.ephHold ∧ (s.setBit k n b).eyeData = s.eyeData ∧ (s.setBit k n b).failed = s.failed ∧ (s.setBit k n b).gprs = s.gprs ∧ (s.setBit k n b).banks = s.banks ∧ (s.setBit k n b).lens = s.lens ∧ (s.setBit k n b).wcs = s.wcs ∧ (s.setBit k n b).engines = s.engines ∧ (s.setBit k n b).bootKey = s.bootKey ∧ (s.setBit k n b).crossTrigger = s.crossTrigger ∧ (s.setBit k n b).vernierHalts = s.vernierHalts ∧ (s.setBit k n b).ports = s.ports ∧ (s.setBit k n b).residues = s.residues ∧ (s.setBit k n b).buckets = s.buckets ∧ (s.setBit k n b).groups = s.groups ∧ (s.setBit k n b).streams = s.streams ∧ (s.setBit k n b).channels = s.channels ∧ (s.setBit k n b).power = s.power ∧ (s.setBit k n b).security = s.security ∧ (s.setBit k n b).chart = s.chart ∧ (s.setBit k n b).assistant = s.assistant ∧ (s.setBit k n b).links = s.links ∧ (s.setBit k n b).constellation = s.constellation ∧ (s.setBit k n b).eyepiece = s.eyepiece ∧ (s.setBit k n b).jobs = s.jobs ∧ (s.setBit k n b).tick = s.tick := by
  refine ⟨rfl, rfl, rfl, rfl, rfl, rfl, rfl, rfl, rfl, rfl, rfl, rfl, rfl, rfl, rfl, rfl, rfl, rfl, rfl, rfl, rfl, rfl, rfl, rfl, rfl, rfl, rfl, rfl, rfl, rfl, rfl, rfl, rfl, rfl, rfl, rfl, rfl, rfl, rfl, rfl, rfl, rfl, rfl, rfl, rfl, rfl, rfl, rfl, rfl, rfl, rfl, rfl, rfl, rfl, rfl, rfl, rfl, rfl⟩

@[simp] theorem State.setByte_fields (s : State) (a) (b) :
    (s.setByte a b).pending = s.pending ∧ (s.setByte a b).freeUsed = s.freeUsed ∧ (s.setByte a b).regs = s.regs ∧ (s.setByte a b).ecc = s.ecc ∧ (s.setByte a b).host = s.host ∧ (s.setByte a b).handoff = s.handoff ∧ (s.setByte a b).rgl = s.rgl ∧ (s.setByte a b).stamps = s.stamps ∧ (s.setByte a b).alarms = s.alarms ∧ (s.setByte a b).lines = s.lines ∧ (s.setByte a b).deliveries = s.deliveries ∧ (s.setByte a b).asst = s.asst ∧ (s.setByte a b).retained = s.retained ∧ (s.setByte a b).log = s.log ∧ (s.setByte a b).queues = s.queues ∧ (s.setByte a b).bulk = s.bulk ∧ (s.setByte a b).handovers = s.handovers ∧ (s.setByte a b).ifcOn = s.ifcOn ∧ (s.setByte a b).dbgOn = s.dbgOn ∧ (s.setByte a b).eyeResp = s.eyeResp ∧ (s.setByte a b).claims = s.claims ∧ (s.setByte a b).evmask = s.evmask ∧ (s.setByte a b).bulkWaiting = s.bulkWaiting ∧ (s.setByte a b).scrubWord = s.scrubWord ∧ (s.setByte a b).flows = s.flows ∧ (s.setByte a b).stampCount = s.stampCount ∧ (s.setByte a b).verniers = s.verniers ∧ (s.setByte a b).pps = s.pps ∧ (s.setByte a b).timers = s.timers ∧ (s.setByte a b).watchdogs = s.watchdogs ∧ (s.setByte a b).trackers = s.trackers ∧ (s.setByte a b).phaseTargets = s.phaseTargets ∧ (s.setByte a b).ephHold = s.ephHold ∧ (s.setByte a b).eyeData = s.eyeData ∧ (s.setByte a b).failed = s.failed ∧ (s.setByte a b).gprs = s.gprs ∧ (s.setByte a b).banks = s.banks ∧ (s.setByte a b).lens = s.lens ∧ (s.setByte a b).wcs = s.wcs ∧ (s.setByte a b).engines = s.engines ∧ (s.setByte a b).bootKey = s.bootKey ∧ (s.setByte a b).crossTrigger = s.crossTrigger ∧ (s.setByte a b).vernierHalts = s.vernierHalts ∧ (s.setByte a b).ports = s.ports ∧ (s.setByte a b).residues = s.residues ∧ (s.setByte a b).buckets = s.buckets ∧ (s.setByte a b).groups = s.groups ∧ (s.setByte a b).streams = s.streams ∧ (s.setByte a b).channels = s.channels ∧ (s.setByte a b).power = s.power ∧ (s.setByte a b).security = s.security ∧ (s.setByte a b).chart = s.chart ∧ (s.setByte a b).assistant = s.assistant ∧ (s.setByte a b).links = s.links ∧ (s.setByte a b).constellation = s.constellation ∧ (s.setByte a b).eyepiece = s.eyepiece ∧ (s.setByte a b).jobs = s.jobs ∧ (s.setByte a b).tick = s.tick := by
  refine ⟨rfl, rfl, rfl, rfl, rfl, rfl, rfl, rfl, rfl, rfl, rfl, rfl, rfl, rfl, rfl, rfl, rfl, rfl, rfl, rfl, rfl, rfl, rfl, rfl, rfl, rfl, rfl, rfl, rfl, rfl, rfl, rfl, rfl, rfl, rfl, rfl, rfl, rfl, rfl, rfl, rfl, rfl, rfl, rfl, rfl, rfl, rfl, rfl, rfl, rfl, rfl, rfl, rfl, rfl, rfl, rfl, rfl, rfl⟩

@[simp] theorem State.clearEcc_fields (s : State) (a) (n) :
    (s.clearEcc a n).pending = s.pending ∧ (s.clearEcc a n).freeUsed = s.freeUsed ∧ (s.clearEcc a n).regs = s.regs ∧ (s.clearEcc a n).mem = s.mem ∧ (s.clearEcc a n).host = s.host ∧ (s.clearEcc a n).handoff = s.handoff ∧ (s.clearEcc a n).rgl = s.rgl ∧ (s.clearEcc a n).stamps = s.stamps ∧ (s.clearEcc a n).alarms = s.alarms ∧ (s.clearEcc a n).lines = s.lines ∧ (s.clearEcc a n).deliveries = s.deliveries ∧ (s.clearEcc a n).asst = s.asst ∧ (s.clearEcc a n).retained = s.retained ∧ (s.clearEcc a n).log = s.log ∧ (s.clearEcc a n).queues = s.queues ∧ (s.clearEcc a n).bulk = s.bulk ∧ (s.clearEcc a n).handovers = s.handovers ∧ (s.clearEcc a n).ifcOn = s.ifcOn ∧ (s.clearEcc a n).dbgOn = s.dbgOn ∧ (s.clearEcc a n).eyeResp = s.eyeResp ∧ (s.clearEcc a n).claims = s.claims ∧ (s.clearEcc a n).evmask = s.evmask ∧ (s.clearEcc a n).bulkWaiting = s.bulkWaiting ∧ (s.clearEcc a n).scrubWord = s.scrubWord ∧ (s.clearEcc a n).flows = s.flows ∧ (s.clearEcc a n).stampCount = s.stampCount ∧ (s.clearEcc a n).verniers = s.verniers ∧ (s.clearEcc a n).pps = s.pps ∧ (s.clearEcc a n).timers = s.timers ∧ (s.clearEcc a n).watchdogs = s.watchdogs ∧ (s.clearEcc a n).trackers = s.trackers ∧ (s.clearEcc a n).phaseTargets = s.phaseTargets ∧ (s.clearEcc a n).ephHold = s.ephHold ∧ (s.clearEcc a n).eyeData = s.eyeData ∧ (s.clearEcc a n).failed = s.failed ∧ (s.clearEcc a n).gprs = s.gprs ∧ (s.clearEcc a n).banks = s.banks ∧ (s.clearEcc a n).lens = s.lens ∧ (s.clearEcc a n).wcs = s.wcs ∧ (s.clearEcc a n).engines = s.engines ∧ (s.clearEcc a n).bootKey = s.bootKey ∧ (s.clearEcc a n).crossTrigger = s.crossTrigger ∧ (s.clearEcc a n).vernierHalts = s.vernierHalts ∧ (s.clearEcc a n).ports = s.ports ∧ (s.clearEcc a n).residues = s.residues ∧ (s.clearEcc a n).buckets = s.buckets ∧ (s.clearEcc a n).groups = s.groups ∧ (s.clearEcc a n).streams = s.streams ∧ (s.clearEcc a n).channels = s.channels ∧ (s.clearEcc a n).power = s.power ∧ (s.clearEcc a n).security = s.security ∧ (s.clearEcc a n).chart = s.chart ∧ (s.clearEcc a n).assistant = s.assistant ∧ (s.clearEcc a n).links = s.links ∧ (s.clearEcc a n).constellation = s.constellation ∧ (s.clearEcc a n).eyepiece = s.eyepiece ∧ (s.clearEcc a n).jobs = s.jobs ∧ (s.clearEcc a n).tick = s.tick := by
  refine ⟨rfl, rfl, rfl, rfl, rfl, rfl, rfl, rfl, rfl, rfl, rfl, rfl, rfl, rfl, rfl, rfl, rfl, rfl, rfl, rfl, rfl, rfl, rfl, rfl, rfl, rfl, rfl, rfl, rfl, rfl, rfl, rfl, rfl, rfl, rfl, rfl, rfl, rfl, rfl, rfl, rfl, rfl, rfl, rfl, rfl, rfl, rfl, rfl, rfl, rfl, rfl, rfl, rfl, rfl, rfl, rfl, rfl, rfl⟩

@[simp] theorem State.setEng_fields (s : State) (e) (x) :
    (s.setEng e x).pending = s.pending ∧ (s.setEng e x).freeUsed = s.freeUsed ∧ (s.setEng e x).regs = s.regs ∧ (s.setEng e x).mem = s.mem ∧ (s.setEng e x).ecc = s.ecc ∧ (s.setEng e x).host = s.host ∧ (s.setEng e x).handoff = s.handoff ∧ (s.setEng e x).rgl = s.rgl ∧ (s.setEng e x).stamps = s.stamps ∧ (s.setEng e x).alarms = s.alarms ∧ (s.setEng e x).lines = s.lines ∧ (s.setEng e x).deliveries = s.deliveries ∧ (s.setEng e x).asst = s.asst ∧ (s.setEng e x).retained = s.retained ∧ (s.setEng e x).log = s.log ∧ (s.setEng e x).queues = s.queues ∧ (s.setEng e x).bulk = s.bulk ∧ (s.setEng e x).handovers = s.handovers ∧ (s.setEng e x).ifcOn = s.ifcOn ∧ (s.setEng e x).dbgOn = s.dbgOn ∧ (s.setEng e x).eyeResp = s.eyeResp ∧ (s.setEng e x).claims = s.claims ∧ (s.setEng e x).evmask = s.evmask ∧ (s.setEng e x).bulkWaiting = s.bulkWaiting ∧ (s.setEng e x).scrubWord = s.scrubWord ∧ (s.setEng e x).flows = s.flows ∧ (s.setEng e x).stampCount = s.stampCount ∧ (s.setEng e x).verniers = s.verniers ∧ (s.setEng e x).pps = s.pps ∧ (s.setEng e x).timers = s.timers ∧ (s.setEng e x).watchdogs = s.watchdogs ∧ (s.setEng e x).trackers = s.trackers ∧ (s.setEng e x).phaseTargets = s.phaseTargets ∧ (s.setEng e x).ephHold = s.ephHold ∧ (s.setEng e x).eyeData = s.eyeData ∧ (s.setEng e x).failed = s.failed ∧ (s.setEng e x).gprs = s.gprs ∧ (s.setEng e x).banks = s.banks ∧ (s.setEng e x).lens = s.lens ∧ (s.setEng e x).wcs = s.wcs ∧ (s.setEng e x).bootKey = s.bootKey ∧ (s.setEng e x).crossTrigger = s.crossTrigger ∧ (s.setEng e x).vernierHalts = s.vernierHalts ∧ (s.setEng e x).ports = s.ports ∧ (s.setEng e x).residues = s.residues ∧ (s.setEng e x).buckets = s.buckets ∧ (s.setEng e x).groups = s.groups ∧ (s.setEng e x).streams = s.streams ∧ (s.setEng e x).channels = s.channels ∧ (s.setEng e x).power = s.power ∧ (s.setEng e x).security = s.security ∧ (s.setEng e x).chart = s.chart ∧ (s.setEng e x).assistant = s.assistant ∧ (s.setEng e x).links = s.links ∧ (s.setEng e x).constellation = s.constellation ∧ (s.setEng e x).eyepiece = s.eyepiece ∧ (s.setEng e x).jobs = s.jobs ∧ (s.setEng e x).tick = s.tick := by
  refine ⟨rfl, rfl, rfl, rfl, rfl, rfl, rfl, rfl, rfl, rfl, rfl, rfl, rfl, rfl, rfl, rfl, rfl, rfl, rfl, rfl, rfl, rfl, rfl, rfl, rfl, rfl, rfl, rfl, rfl, rfl, rfl, rfl, rfl, rfl, rfl, rfl, rfl, rfl, rfl, rfl, rfl, rfl, rfl, rfl, rfl, rfl, rfl, rfl, rfl, rfl, rfl, rfl, rfl, rfl, rfl, rfl, rfl, rfl⟩

@[simp] theorem State.setBank_fields (s : State) (e) (l) (x) :
    (s.setBank e l x).pending = s.pending ∧ (s.setBank e l x).freeUsed = s.freeUsed ∧ (s.setBank e l x).regs = s.regs ∧ (s.setBank e l x).mem = s.mem ∧ (s.setBank e l x).ecc = s.ecc ∧ (s.setBank e l x).host = s.host ∧ (s.setBank e l x).handoff = s.handoff ∧ (s.setBank e l x).rgl = s.rgl ∧ (s.setBank e l x).stamps = s.stamps ∧ (s.setBank e l x).alarms = s.alarms ∧ (s.setBank e l x).lines = s.lines ∧ (s.setBank e l x).deliveries = s.deliveries ∧ (s.setBank e l x).asst = s.asst ∧ (s.setBank e l x).retained = s.retained ∧ (s.setBank e l x).log = s.log ∧ (s.setBank e l x).queues = s.queues ∧ (s.setBank e l x).bulk = s.bulk ∧ (s.setBank e l x).handovers = s.handovers ∧ (s.setBank e l x).ifcOn = s.ifcOn ∧ (s.setBank e l x).dbgOn = s.dbgOn ∧ (s.setBank e l x).eyeResp = s.eyeResp ∧ (s.setBank e l x).claims = s.claims ∧ (s.setBank e l x).evmask = s.evmask ∧ (s.setBank e l x).bulkWaiting = s.bulkWaiting ∧ (s.setBank e l x).scrubWord = s.scrubWord ∧ (s.setBank e l x).flows = s.flows ∧ (s.setBank e l x).stampCount = s.stampCount ∧ (s.setBank e l x).verniers = s.verniers ∧ (s.setBank e l x).pps = s.pps ∧ (s.setBank e l x).timers = s.timers ∧ (s.setBank e l x).watchdogs = s.watchdogs ∧ (s.setBank e l x).trackers = s.trackers ∧ (s.setBank e l x).phaseTargets = s.phaseTargets ∧ (s.setBank e l x).ephHold = s.ephHold ∧ (s.setBank e l x).eyeData = s.eyeData ∧ (s.setBank e l x).failed = s.failed ∧ (s.setBank e l x).gprs = s.gprs ∧ (s.setBank e l x).lens = s.lens ∧ (s.setBank e l x).wcs = s.wcs ∧ (s.setBank e l x).engines = s.engines ∧ (s.setBank e l x).bootKey = s.bootKey ∧ (s.setBank e l x).crossTrigger = s.crossTrigger ∧ (s.setBank e l x).vernierHalts = s.vernierHalts ∧ (s.setBank e l x).ports = s.ports ∧ (s.setBank e l x).residues = s.residues ∧ (s.setBank e l x).buckets = s.buckets ∧ (s.setBank e l x).groups = s.groups ∧ (s.setBank e l x).streams = s.streams ∧ (s.setBank e l x).channels = s.channels ∧ (s.setBank e l x).power = s.power ∧ (s.setBank e l x).security = s.security ∧ (s.setBank e l x).chart = s.chart ∧ (s.setBank e l x).assistant = s.assistant ∧ (s.setBank e l x).links = s.links ∧ (s.setBank e l x).constellation = s.constellation ∧ (s.setBank e l x).eyepiece = s.eyepiece ∧ (s.setBank e l x).jobs = s.jobs ∧ (s.setBank e l x).tick = s.tick := by
  refine ⟨rfl, rfl, rfl, rfl, rfl, rfl, rfl, rfl, rfl, rfl, rfl, rfl, rfl, rfl, rfl, rfl, rfl, rfl, rfl, rfl, rfl, rfl, rfl, rfl, rfl, rfl, rfl, rfl, rfl, rfl, rfl, rfl, rfl, rfl, rfl, rfl, rfl, rfl, rfl, rfl, rfl, rfl, rfl, rfl, rfl, rfl, rfl, rfl, rfl, rfl, rfl, rfl, rfl, rfl, rfl, rfl, rfl, rfl⟩

@[simp] theorem State.setGpr_fields (s : State) (e) (l) (i) (v) :
    (s.setGpr e l i v).pending = s.pending ∧ (s.setGpr e l i v).freeUsed = s.freeUsed ∧ (s.setGpr e l i v).regs = s.regs ∧ (s.setGpr e l i v).mem = s.mem ∧ (s.setGpr e l i v).ecc = s.ecc ∧ (s.setGpr e l i v).host = s.host ∧ (s.setGpr e l i v).handoff = s.handoff ∧ (s.setGpr e l i v).rgl = s.rgl ∧ (s.setGpr e l i v).stamps = s.stamps ∧ (s.setGpr e l i v).alarms = s.alarms ∧ (s.setGpr e l i v).lines = s.lines ∧ (s.setGpr e l i v).deliveries = s.deliveries ∧ (s.setGpr e l i v).asst = s.asst ∧ (s.setGpr e l i v).retained = s.retained ∧ (s.setGpr e l i v).log = s.log ∧ (s.setGpr e l i v).queues = s.queues ∧ (s.setGpr e l i v).bulk = s.bulk ∧ (s.setGpr e l i v).handovers = s.handovers ∧ (s.setGpr e l i v).ifcOn = s.ifcOn ∧ (s.setGpr e l i v).dbgOn = s.dbgOn ∧ (s.setGpr e l i v).eyeResp = s.eyeResp ∧ (s.setGpr e l i v).claims = s.claims ∧ (s.setGpr e l i v).evmask = s.evmask ∧ (s.setGpr e l i v).bulkWaiting = s.bulkWaiting ∧ (s.setGpr e l i v).scrubWord = s.scrubWord ∧ (s.setGpr e l i v).flows = s.flows ∧ (s.setGpr e l i v).stampCount = s.stampCount ∧ (s.setGpr e l i v).verniers = s.verniers ∧ (s.setGpr e l i v).pps = s.pps ∧ (s.setGpr e l i v).timers = s.timers ∧ (s.setGpr e l i v).watchdogs = s.watchdogs ∧ (s.setGpr e l i v).trackers = s.trackers ∧ (s.setGpr e l i v).phaseTargets = s.phaseTargets ∧ (s.setGpr e l i v).ephHold = s.ephHold ∧ (s.setGpr e l i v).eyeData = s.eyeData ∧ (s.setGpr e l i v).failed = s.failed ∧ (s.setGpr e l i v).banks = s.banks ∧ (s.setGpr e l i v).lens = s.lens ∧ (s.setGpr e l i v).wcs = s.wcs ∧ (s.setGpr e l i v).engines = s.engines ∧ (s.setGpr e l i v).bootKey = s.bootKey ∧ (s.setGpr e l i v).crossTrigger = s.crossTrigger ∧ (s.setGpr e l i v).vernierHalts = s.vernierHalts ∧ (s.setGpr e l i v).ports = s.ports ∧ (s.setGpr e l i v).residues = s.residues ∧ (s.setGpr e l i v).buckets = s.buckets ∧ (s.setGpr e l i v).groups = s.groups ∧ (s.setGpr e l i v).streams = s.streams ∧ (s.setGpr e l i v).channels = s.channels ∧ (s.setGpr e l i v).power = s.power ∧ (s.setGpr e l i v).security = s.security ∧ (s.setGpr e l i v).chart = s.chart ∧ (s.setGpr e l i v).assistant = s.assistant ∧ (s.setGpr e l i v).links = s.links ∧ (s.setGpr e l i v).constellation = s.constellation ∧ (s.setGpr e l i v).eyepiece = s.eyepiece ∧ (s.setGpr e l i v).jobs = s.jobs ∧ (s.setGpr e l i v).tick = s.tick := by
  refine ⟨rfl, rfl, rfl, rfl, rfl, rfl, rfl, rfl, rfl, rfl, rfl, rfl, rfl, rfl, rfl, rfl, rfl, rfl, rfl, rfl, rfl, rfl, rfl, rfl, rfl, rfl, rfl, rfl, rfl, rfl, rfl, rfl, rfl, rfl, rfl, rfl, rfl, rfl, rfl, rfl, rfl, rfl, rfl, rfl, rfl, rfl, rfl, rfl, rfl, rfl, rfl, rfl, rfl, rfl, rfl, rfl, rfl, rfl⟩

@[simp] theorem State.setLensReg_fields (s : State) (e) (j) (v) :
    (s.setLensReg e j v).pending = s.pending ∧ (s.setLensReg e j v).freeUsed = s.freeUsed ∧ (s.setLensReg e j v).regs = s.regs ∧ (s.setLensReg e j v).mem = s.mem ∧ (s.setLensReg e j v).ecc = s.ecc ∧ (s.setLensReg e j v).host = s.host ∧ (s.setLensReg e j v).handoff = s.handoff ∧ (s.setLensReg e j v).rgl = s.rgl ∧ (s.setLensReg e j v).stamps = s.stamps ∧ (s.setLensReg e j v).alarms = s.alarms ∧ (s.setLensReg e j v).lines = s.lines ∧ (s.setLensReg e j v).deliveries = s.deliveries ∧ (s.setLensReg e j v).asst = s.asst ∧ (s.setLensReg e j v).retained = s.retained ∧ (s.setLensReg e j v).log = s.log ∧ (s.setLensReg e j v).queues = s.queues ∧ (s.setLensReg e j v).bulk = s.bulk ∧ (s.setLensReg e j v).handovers = s.handovers ∧ (s.setLensReg e j v).ifcOn = s.ifcOn ∧ (s.setLensReg e j v).dbgOn = s.dbgOn ∧ (s.setLensReg e j v).eyeResp = s.eyeResp ∧ (s.setLensReg e j v).claims = s.claims ∧ (s.setLensReg e j v).evmask = s.evmask ∧ (s.setLensReg e j v).bulkWaiting = s.bulkWaiting ∧ (s.setLensReg e j v).scrubWord = s.scrubWord ∧ (s.setLensReg e j v).flows = s.flows ∧ (s.setLensReg e j v).stampCount = s.stampCount ∧ (s.setLensReg e j v).verniers = s.verniers ∧ (s.setLensReg e j v).pps = s.pps ∧ (s.setLensReg e j v).timers = s.timers ∧ (s.setLensReg e j v).watchdogs = s.watchdogs ∧ (s.setLensReg e j v).trackers = s.trackers ∧ (s.setLensReg e j v).phaseTargets = s.phaseTargets ∧ (s.setLensReg e j v).ephHold = s.ephHold ∧ (s.setLensReg e j v).eyeData = s.eyeData ∧ (s.setLensReg e j v).failed = s.failed ∧ (s.setLensReg e j v).gprs = s.gprs ∧ (s.setLensReg e j v).banks = s.banks ∧ (s.setLensReg e j v).wcs = s.wcs ∧ (s.setLensReg e j v).engines = s.engines ∧ (s.setLensReg e j v).bootKey = s.bootKey ∧ (s.setLensReg e j v).crossTrigger = s.crossTrigger ∧ (s.setLensReg e j v).vernierHalts = s.vernierHalts ∧ (s.setLensReg e j v).ports = s.ports ∧ (s.setLensReg e j v).residues = s.residues ∧ (s.setLensReg e j v).buckets = s.buckets ∧ (s.setLensReg e j v).groups = s.groups ∧ (s.setLensReg e j v).streams = s.streams ∧ (s.setLensReg e j v).channels = s.channels ∧ (s.setLensReg e j v).power = s.power ∧ (s.setLensReg e j v).security = s.security ∧ (s.setLensReg e j v).chart = s.chart ∧ (s.setLensReg e j v).assistant = s.assistant ∧ (s.setLensReg e j v).links = s.links ∧ (s.setLensReg e j v).constellation = s.constellation ∧ (s.setLensReg e j v).eyepiece = s.eyepiece ∧ (s.setLensReg e j v).jobs = s.jobs ∧ (s.setLensReg e j v).tick = s.tick := by
  refine ⟨rfl, rfl, rfl, rfl, rfl, rfl, rfl, rfl, rfl, rfl, rfl, rfl, rfl, rfl, rfl, rfl, rfl, rfl, rfl, rfl, rfl, rfl, rfl, rfl, rfl, rfl, rfl, rfl, rfl, rfl, rfl, rfl, rfl, rfl, rfl, rfl, rfl, rfl, rfl, rfl, rfl, rfl, rfl, rfl, rfl, rfl, rfl, rfl, rfl, rfl, rfl, rfl, rfl, rfl, rfl, rfl, rfl, rfl⟩

@[simp] theorem State.setStoreWord_fields (s : State) (e) (a) (v) :
    (s.setStoreWord e a v).pending = s.pending ∧ (s.setStoreWord e a v).freeUsed = s.freeUsed ∧ (s.setStoreWord e a v).regs = s.regs ∧ (s.setStoreWord e a v).mem = s.mem ∧ (s.setStoreWord e a v).ecc = s.ecc ∧ (s.setStoreWord e a v).host = s.host ∧ (s.setStoreWord e a v).handoff = s.handoff ∧ (s.setStoreWord e a v).rgl = s.rgl ∧ (s.setStoreWord e a v).stamps = s.stamps ∧ (s.setStoreWord e a v).alarms = s.alarms ∧ (s.setStoreWord e a v).lines = s.lines ∧ (s.setStoreWord e a v).deliveries = s.deliveries ∧ (s.setStoreWord e a v).asst = s.asst ∧ (s.setStoreWord e a v).retained = s.retained ∧ (s.setStoreWord e a v).log = s.log ∧ (s.setStoreWord e a v).queues = s.queues ∧ (s.setStoreWord e a v).bulk = s.bulk ∧ (s.setStoreWord e a v).handovers = s.handovers ∧ (s.setStoreWord e a v).ifcOn = s.ifcOn ∧ (s.setStoreWord e a v).dbgOn = s.dbgOn ∧ (s.setStoreWord e a v).eyeResp = s.eyeResp ∧ (s.setStoreWord e a v).claims = s.claims ∧ (s.setStoreWord e a v).evmask = s.evmask ∧ (s.setStoreWord e a v).bulkWaiting = s.bulkWaiting ∧ (s.setStoreWord e a v).scrubWord = s.scrubWord ∧ (s.setStoreWord e a v).flows = s.flows ∧ (s.setStoreWord e a v).stampCount = s.stampCount ∧ (s.setStoreWord e a v).verniers = s.verniers ∧ (s.setStoreWord e a v).pps = s.pps ∧ (s.setStoreWord e a v).timers = s.timers ∧ (s.setStoreWord e a v).watchdogs = s.watchdogs ∧ (s.setStoreWord e a v).trackers = s.trackers ∧ (s.setStoreWord e a v).phaseTargets = s.phaseTargets ∧ (s.setStoreWord e a v).ephHold = s.ephHold ∧ (s.setStoreWord e a v).eyeData = s.eyeData ∧ (s.setStoreWord e a v).failed = s.failed ∧ (s.setStoreWord e a v).gprs = s.gprs ∧ (s.setStoreWord e a v).banks = s.banks ∧ (s.setStoreWord e a v).lens = s.lens ∧ (s.setStoreWord e a v).engines = s.engines ∧ (s.setStoreWord e a v).bootKey = s.bootKey ∧ (s.setStoreWord e a v).crossTrigger = s.crossTrigger ∧ (s.setStoreWord e a v).vernierHalts = s.vernierHalts ∧ (s.setStoreWord e a v).ports = s.ports ∧ (s.setStoreWord e a v).residues = s.residues ∧ (s.setStoreWord e a v).buckets = s.buckets ∧ (s.setStoreWord e a v).groups = s.groups ∧ (s.setStoreWord e a v).streams = s.streams ∧ (s.setStoreWord e a v).channels = s.channels ∧ (s.setStoreWord e a v).power = s.power ∧ (s.setStoreWord e a v).security = s.security ∧ (s.setStoreWord e a v).chart = s.chart ∧ (s.setStoreWord e a v).assistant = s.assistant ∧ (s.setStoreWord e a v).links = s.links ∧ (s.setStoreWord e a v).constellation = s.constellation ∧ (s.setStoreWord e a v).eyepiece = s.eyepiece ∧ (s.setStoreWord e a v).jobs = s.jobs ∧ (s.setStoreWord e a v).tick = s.tick := by
  refine ⟨rfl, rfl, rfl, rfl, rfl, rfl, rfl, rfl, rfl, rfl, rfl, rfl, rfl, rfl, rfl, rfl, rfl, rfl, rfl, rfl, rfl, rfl, rfl, rfl, rfl, rfl, rfl, rfl, rfl, rfl, rfl, rfl, rfl, rfl, rfl, rfl, rfl, rfl, rfl, rfl, rfl, rfl, rfl, rfl, rfl, rfl, rfl, rfl, rfl, rfl, rfl, rfl, rfl, rfl, rfl, rfl, rfl, rfl⟩

@[simp] theorem State.setTimer_fields (s : State) (e) (n) (x) :
    (s.setTimer e n x).pending = s.pending ∧ (s.setTimer e n x).freeUsed = s.freeUsed ∧ (s.setTimer e n x).regs = s.regs ∧ (s.setTimer e n x).mem = s.mem ∧ (s.setTimer e n x).ecc = s.ecc ∧ (s.setTimer e n x).host = s.host ∧ (s.setTimer e n x).handoff = s.handoff ∧ (s.setTimer e n x).rgl = s.rgl ∧ (s.setTimer e n x).stamps = s.stamps ∧ (s.setTimer e n x).alarms = s.alarms ∧ (s.setTimer e n x).lines = s.lines ∧ (s.setTimer e n x).deliveries = s.deliveries ∧ (s.setTimer e n x).asst = s.asst ∧ (s.setTimer e n x).retained = s.retained ∧ (s.setTimer e n x).log = s.log ∧ (s.setTimer e n x).queues = s.queues ∧ (s.setTimer e n x).bulk = s.bulk ∧ (s.setTimer e n x).handovers = s.handovers ∧ (s.setTimer e n x).ifcOn = s.ifcOn ∧ (s.setTimer e n x).dbgOn = s.dbgOn ∧ (s.setTimer e n x).eyeResp = s.eyeResp ∧ (s.setTimer e n x).claims = s.claims ∧ (s.setTimer e n x).evmask = s.evmask ∧ (s.setTimer e n x).bulkWaiting = s.bulkWaiting ∧ (s.setTimer e n x).scrubWord = s.scrubWord ∧ (s.setTimer e n x).flows = s.flows ∧ (s.setTimer e n x).stampCount = s.stampCount ∧ (s.setTimer e n x).verniers = s.verniers ∧ (s.setTimer e n x).pps = s.pps ∧ (s.setTimer e n x).watchdogs = s.watchdogs ∧ (s.setTimer e n x).trackers = s.trackers ∧ (s.setTimer e n x).phaseTargets = s.phaseTargets ∧ (s.setTimer e n x).ephHold = s.ephHold ∧ (s.setTimer e n x).eyeData = s.eyeData ∧ (s.setTimer e n x).failed = s.failed ∧ (s.setTimer e n x).gprs = s.gprs ∧ (s.setTimer e n x).banks = s.banks ∧ (s.setTimer e n x).lens = s.lens ∧ (s.setTimer e n x).wcs = s.wcs ∧ (s.setTimer e n x).engines = s.engines ∧ (s.setTimer e n x).bootKey = s.bootKey ∧ (s.setTimer e n x).crossTrigger = s.crossTrigger ∧ (s.setTimer e n x).vernierHalts = s.vernierHalts ∧ (s.setTimer e n x).ports = s.ports ∧ (s.setTimer e n x).residues = s.residues ∧ (s.setTimer e n x).buckets = s.buckets ∧ (s.setTimer e n x).groups = s.groups ∧ (s.setTimer e n x).streams = s.streams ∧ (s.setTimer e n x).channels = s.channels ∧ (s.setTimer e n x).power = s.power ∧ (s.setTimer e n x).security = s.security ∧ (s.setTimer e n x).chart = s.chart ∧ (s.setTimer e n x).assistant = s.assistant ∧ (s.setTimer e n x).links = s.links ∧ (s.setTimer e n x).constellation = s.constellation ∧ (s.setTimer e n x).eyepiece = s.eyepiece ∧ (s.setTimer e n x).jobs = s.jobs ∧ (s.setTimer e n x).tick = s.tick := by
  refine ⟨rfl, rfl, rfl, rfl, rfl, rfl, rfl, rfl, rfl, rfl, rfl, rfl, rfl, rfl, rfl, rfl, rfl, rfl, rfl, rfl, rfl, rfl, rfl, rfl, rfl, rfl, rfl, rfl, rfl, rfl, rfl, rfl, rfl, rfl, rfl, rfl, rfl, rfl, rfl, rfl, rfl, rfl, rfl, rfl, rfl, rfl, rfl, rfl, rfl, rfl, rfl, rfl, rfl, rfl, rfl, rfl, rfl, rfl⟩

@[simp] theorem State.setWatchdog_fields (s : State) (e) (x) :
    (s.setWatchdog e x).pending = s.pending ∧ (s.setWatchdog e x).freeUsed = s.freeUsed ∧ (s.setWatchdog e x).regs = s.regs ∧ (s.setWatchdog e x).mem = s.mem ∧ (s.setWatchdog e x).ecc = s.ecc ∧ (s.setWatchdog e x).host = s.host ∧ (s.setWatchdog e x).handoff = s.handoff ∧ (s.setWatchdog e x).rgl = s.rgl ∧ (s.setWatchdog e x).stamps = s.stamps ∧ (s.setWatchdog e x).alarms = s.alarms ∧ (s.setWatchdog e x).lines = s.lines ∧ (s.setWatchdog e x).deliveries = s.deliveries ∧ (s.setWatchdog e x).asst = s.asst ∧ (s.setWatchdog e x).retained = s.retained ∧ (s.setWatchdog e x).log = s.log ∧ (s.setWatchdog e x).queues = s.queues ∧ (s.setWatchdog e x).bulk = s.bulk ∧ (s.setWatchdog e x).handovers = s.handovers ∧ (s.setWatchdog e x).ifcOn = s.ifcOn ∧ (s.setWatchdog e x).dbgOn = s.dbgOn ∧ (s.setWatchdog e x).eyeResp = s.eyeResp ∧ (s.setWatchdog e x).claims = s.claims ∧ (s.setWatchdog e x).evmask = s.evmask ∧ (s.setWatchdog e x).bulkWaiting = s.bulkWaiting ∧ (s.setWatchdog e x).scrubWord = s.scrubWord ∧ (s.setWatchdog e x).flows = s.flows ∧ (s.setWatchdog e x).stampCount = s.stampCount ∧ (s.setWatchdog e x).verniers = s.verniers ∧ (s.setWatchdog e x).pps = s.pps ∧ (s.setWatchdog e x).timers = s.timers ∧ (s.setWatchdog e x).trackers = s.trackers ∧ (s.setWatchdog e x).phaseTargets = s.phaseTargets ∧ (s.setWatchdog e x).ephHold = s.ephHold ∧ (s.setWatchdog e x).eyeData = s.eyeData ∧ (s.setWatchdog e x).failed = s.failed ∧ (s.setWatchdog e x).gprs = s.gprs ∧ (s.setWatchdog e x).banks = s.banks ∧ (s.setWatchdog e x).lens = s.lens ∧ (s.setWatchdog e x).wcs = s.wcs ∧ (s.setWatchdog e x).engines = s.engines ∧ (s.setWatchdog e x).bootKey = s.bootKey ∧ (s.setWatchdog e x).crossTrigger = s.crossTrigger ∧ (s.setWatchdog e x).vernierHalts = s.vernierHalts ∧ (s.setWatchdog e x).ports = s.ports ∧ (s.setWatchdog e x).residues = s.residues ∧ (s.setWatchdog e x).buckets = s.buckets ∧ (s.setWatchdog e x).groups = s.groups ∧ (s.setWatchdog e x).streams = s.streams ∧ (s.setWatchdog e x).channels = s.channels ∧ (s.setWatchdog e x).power = s.power ∧ (s.setWatchdog e x).security = s.security ∧ (s.setWatchdog e x).chart = s.chart ∧ (s.setWatchdog e x).assistant = s.assistant ∧ (s.setWatchdog e x).links = s.links ∧ (s.setWatchdog e x).constellation = s.constellation ∧ (s.setWatchdog e x).eyepiece = s.eyepiece ∧ (s.setWatchdog e x).jobs = s.jobs ∧ (s.setWatchdog e x).tick = s.tick := by
  refine ⟨rfl, rfl, rfl, rfl, rfl, rfl, rfl, rfl, rfl, rfl, rfl, rfl, rfl, rfl, rfl, rfl, rfl, rfl, rfl, rfl, rfl, rfl, rfl, rfl, rfl, rfl, rfl, rfl, rfl, rfl, rfl, rfl, rfl, rfl, rfl, rfl, rfl, rfl, rfl, rfl, rfl, rfl, rfl, rfl, rfl, rfl, rfl, rfl, rfl, rfl, rfl, rfl, rfl, rfl, rfl, rfl, rfl, rfl⟩

@[simp] theorem State.setVernier_fields (s : State) (v) (x) :
    (s.setVernier v x).pending = s.pending ∧ (s.setVernier v x).freeUsed = s.freeUsed ∧ (s.setVernier v x).regs = s.regs ∧ (s.setVernier v x).mem = s.mem ∧ (s.setVernier v x).ecc = s.ecc ∧ (s.setVernier v x).host = s.host ∧ (s.setVernier v x).handoff = s.handoff ∧ (s.setVernier v x).rgl = s.rgl ∧ (s.setVernier v x).stamps = s.stamps ∧ (s.setVernier v x).alarms = s.alarms ∧ (s.setVernier v x).lines = s.lines ∧ (s.setVernier v x).deliveries = s.deliveries ∧ (s.setVernier v x).asst = s.asst ∧ (s.setVernier v x).retained = s.retained ∧ (s.setVernier v x).log = s.log ∧ (s.setVernier v x).queues = s.queues ∧ (s.setVernier v x).bulk = s.bulk ∧ (s.setVernier v x).handovers = s.handovers ∧ (s.setVernier v x).ifcOn = s.ifcOn ∧ (s.setVernier v x).dbgOn = s.dbgOn ∧ (s.setVernier v x).eyeResp = s.eyeResp ∧ (s.setVernier v x).claims = s.claims ∧ (s.setVernier v x).evmask = s.evmask ∧ (s.setVernier v x).bulkWaiting = s.bulkWaiting ∧ (s.setVernier v x).scrubWord = s.scrubWord ∧ (s.setVernier v x).flows = s.flows ∧ (s.setVernier v x).stampCount = s.stampCount ∧ (s.setVernier v x).pps = s.pps ∧ (s.setVernier v x).timers = s.timers ∧ (s.setVernier v x).watchdogs = s.watchdogs ∧ (s.setVernier v x).trackers = s.trackers ∧ (s.setVernier v x).phaseTargets = s.phaseTargets ∧ (s.setVernier v x).ephHold = s.ephHold ∧ (s.setVernier v x).eyeData = s.eyeData ∧ (s.setVernier v x).failed = s.failed ∧ (s.setVernier v x).gprs = s.gprs ∧ (s.setVernier v x).banks = s.banks ∧ (s.setVernier v x).lens = s.lens ∧ (s.setVernier v x).wcs = s.wcs ∧ (s.setVernier v x).engines = s.engines ∧ (s.setVernier v x).bootKey = s.bootKey ∧ (s.setVernier v x).crossTrigger = s.crossTrigger ∧ (s.setVernier v x).vernierHalts = s.vernierHalts ∧ (s.setVernier v x).ports = s.ports ∧ (s.setVernier v x).residues = s.residues ∧ (s.setVernier v x).buckets = s.buckets ∧ (s.setVernier v x).groups = s.groups ∧ (s.setVernier v x).streams = s.streams ∧ (s.setVernier v x).channels = s.channels ∧ (s.setVernier v x).power = s.power ∧ (s.setVernier v x).security = s.security ∧ (s.setVernier v x).chart = s.chart ∧ (s.setVernier v x).assistant = s.assistant ∧ (s.setVernier v x).links = s.links ∧ (s.setVernier v x).constellation = s.constellation ∧ (s.setVernier v x).eyepiece = s.eyepiece ∧ (s.setVernier v x).jobs = s.jobs ∧ (s.setVernier v x).tick = s.tick := by
  refine ⟨rfl, rfl, rfl, rfl, rfl, rfl, rfl, rfl, rfl, rfl, rfl, rfl, rfl, rfl, rfl, rfl, rfl, rfl, rfl, rfl, rfl, rfl, rfl, rfl, rfl, rfl, rfl, rfl, rfl, rfl, rfl, rfl, rfl, rfl, rfl, rfl, rfl, rfl, rfl, rfl, rfl, rfl, rfl, rfl, rfl, rfl, rfl, rfl, rfl, rfl, rfl, rfl, rfl, rfl, rfl, rfl, rfl, rfl⟩

@[simp] theorem State.setQueue_fields (s : State) (q) (x) :
    (s.setQueue q x).pending = s.pending ∧ (s.setQueue q x).freeUsed = s.freeUsed ∧ (s.setQueue q x).regs = s.regs ∧ (s.setQueue q x).mem = s.mem ∧ (s.setQueue q x).ecc = s.ecc ∧ (s.setQueue q x).host = s.host ∧ (s.setQueue q x).handoff = s.handoff ∧ (s.setQueue q x).rgl = s.rgl ∧ (s.setQueue q x).stamps = s.stamps ∧ (s.setQueue q x).alarms = s.alarms ∧ (s.setQueue q x).lines = s.lines ∧ (s.setQueue q x).deliveries = s.deliveries ∧ (s.setQueue q x).asst = s.asst ∧ (s.setQueue q x).retained = s.retained ∧ (s.setQueue q x).log = s.log ∧ (s.setQueue q x).bulk = s.bulk ∧ (s.setQueue q x).handovers = s.handovers ∧ (s.setQueue q x).ifcOn = s.ifcOn ∧ (s.setQueue q x).dbgOn = s.dbgOn ∧ (s.setQueue q x).eyeResp = s.eyeResp ∧ (s.setQueue q x).claims = s.claims ∧ (s.setQueue q x).evmask = s.evmask ∧ (s.setQueue q x).bulkWaiting = s.bulkWaiting ∧ (s.setQueue q x).scrubWord = s.scrubWord ∧ (s.setQueue q x).flows = s.flows ∧ (s.setQueue q x).stampCount = s.stampCount ∧ (s.setQueue q x).verniers = s.verniers ∧ (s.setQueue q x).pps = s.pps ∧ (s.setQueue q x).timers = s.timers ∧ (s.setQueue q x).watchdogs = s.watchdogs ∧ (s.setQueue q x).trackers = s.trackers ∧ (s.setQueue q x).phaseTargets = s.phaseTargets ∧ (s.setQueue q x).ephHold = s.ephHold ∧ (s.setQueue q x).eyeData = s.eyeData ∧ (s.setQueue q x).failed = s.failed ∧ (s.setQueue q x).gprs = s.gprs ∧ (s.setQueue q x).banks = s.banks ∧ (s.setQueue q x).lens = s.lens ∧ (s.setQueue q x).wcs = s.wcs ∧ (s.setQueue q x).engines = s.engines ∧ (s.setQueue q x).bootKey = s.bootKey ∧ (s.setQueue q x).crossTrigger = s.crossTrigger ∧ (s.setQueue q x).vernierHalts = s.vernierHalts ∧ (s.setQueue q x).ports = s.ports ∧ (s.setQueue q x).residues = s.residues ∧ (s.setQueue q x).buckets = s.buckets ∧ (s.setQueue q x).groups = s.groups ∧ (s.setQueue q x).streams = s.streams ∧ (s.setQueue q x).channels = s.channels ∧ (s.setQueue q x).power = s.power ∧ (s.setQueue q x).security = s.security ∧ (s.setQueue q x).chart = s.chart ∧ (s.setQueue q x).assistant = s.assistant ∧ (s.setQueue q x).links = s.links ∧ (s.setQueue q x).constellation = s.constellation ∧ (s.setQueue q x).eyepiece = s.eyepiece ∧ (s.setQueue q x).jobs = s.jobs ∧ (s.setQueue q x).tick = s.tick := by
  refine ⟨rfl, rfl, rfl, rfl, rfl, rfl, rfl, rfl, rfl, rfl, rfl, rfl, rfl, rfl, rfl, rfl, rfl, rfl, rfl, rfl, rfl, rfl, rfl, rfl, rfl, rfl, rfl, rfl, rfl, rfl, rfl, rfl, rfl, rfl, rfl, rfl, rfl, rfl, rfl, rfl, rfl, rfl, rfl, rfl, rfl, rfl, rfl, rfl, rfl, rfl, rfl, rfl, rfl, rfl, rfl, rfl, rfl, rfl⟩

@[simp] theorem State.setFlow_fields (s : State) (f) (x) :
    (s.setFlow f x).pending = s.pending ∧ (s.setFlow f x).freeUsed = s.freeUsed ∧ (s.setFlow f x).regs = s.regs ∧ (s.setFlow f x).mem = s.mem ∧ (s.setFlow f x).ecc = s.ecc ∧ (s.setFlow f x).host = s.host ∧ (s.setFlow f x).handoff = s.handoff ∧ (s.setFlow f x).rgl = s.rgl ∧ (s.setFlow f x).stamps = s.stamps ∧ (s.setFlow f x).alarms = s.alarms ∧ (s.setFlow f x).lines = s.lines ∧ (s.setFlow f x).deliveries = s.deliveries ∧ (s.setFlow f x).asst = s.asst ∧ (s.setFlow f x).retained = s.retained ∧ (s.setFlow f x).log = s.log ∧ (s.setFlow f x).queues = s.queues ∧ (s.setFlow f x).bulk = s.bulk ∧ (s.setFlow f x).handovers = s.handovers ∧ (s.setFlow f x).ifcOn = s.ifcOn ∧ (s.setFlow f x).dbgOn = s.dbgOn ∧ (s.setFlow f x).eyeResp = s.eyeResp ∧ (s.setFlow f x).claims = s.claims ∧ (s.setFlow f x).evmask = s.evmask ∧ (s.setFlow f x).bulkWaiting = s.bulkWaiting ∧ (s.setFlow f x).scrubWord = s.scrubWord ∧ (s.setFlow f x).stampCount = s.stampCount ∧ (s.setFlow f x).verniers = s.verniers ∧ (s.setFlow f x).pps = s.pps ∧ (s.setFlow f x).timers = s.timers ∧ (s.setFlow f x).watchdogs = s.watchdogs ∧ (s.setFlow f x).trackers = s.trackers ∧ (s.setFlow f x).phaseTargets = s.phaseTargets ∧ (s.setFlow f x).ephHold = s.ephHold ∧ (s.setFlow f x).eyeData = s.eyeData ∧ (s.setFlow f x).failed = s.failed ∧ (s.setFlow f x).gprs = s.gprs ∧ (s.setFlow f x).banks = s.banks ∧ (s.setFlow f x).lens = s.lens ∧ (s.setFlow f x).wcs = s.wcs ∧ (s.setFlow f x).engines = s.engines ∧ (s.setFlow f x).bootKey = s.bootKey ∧ (s.setFlow f x).crossTrigger = s.crossTrigger ∧ (s.setFlow f x).vernierHalts = s.vernierHalts ∧ (s.setFlow f x).ports = s.ports ∧ (s.setFlow f x).residues = s.residues ∧ (s.setFlow f x).buckets = s.buckets ∧ (s.setFlow f x).groups = s.groups ∧ (s.setFlow f x).streams = s.streams ∧ (s.setFlow f x).channels = s.channels ∧ (s.setFlow f x).power = s.power ∧ (s.setFlow f x).security = s.security ∧ (s.setFlow f x).chart = s.chart ∧ (s.setFlow f x).assistant = s.assistant ∧ (s.setFlow f x).links = s.links ∧ (s.setFlow f x).constellation = s.constellation ∧ (s.setFlow f x).eyepiece = s.eyepiece ∧ (s.setFlow f x).jobs = s.jobs ∧ (s.setFlow f x).tick = s.tick := by
  refine ⟨rfl, rfl, rfl, rfl, rfl, rfl, rfl, rfl, rfl, rfl, rfl, rfl, rfl, rfl, rfl, rfl, rfl, rfl, rfl, rfl, rfl, rfl, rfl, rfl, rfl, rfl, rfl, rfl, rfl, rfl, rfl, rfl, rfl, rfl, rfl, rfl, rfl, rfl, rfl, rfl, rfl, rfl, rfl, rfl, rfl, rfl, rfl, rfl, rfl, rfl, rfl, rfl, rfl, rfl, rfl, rfl, rfl, rfl⟩

@[simp] theorem State.setChannel_fields (s : State) (c) (x) :
    (s.setChannel c x).pending = s.pending ∧ (s.setChannel c x).freeUsed = s.freeUsed ∧ (s.setChannel c x).regs = s.regs ∧ (s.setChannel c x).mem = s.mem ∧ (s.setChannel c x).ecc = s.ecc ∧ (s.setChannel c x).host = s.host ∧ (s.setChannel c x).handoff = s.handoff ∧ (s.setChannel c x).rgl = s.rgl ∧ (s.setChannel c x).stamps = s.stamps ∧ (s.setChannel c x).alarms = s.alarms ∧ (s.setChannel c x).lines = s.lines ∧ (s.setChannel c x).deliveries = s.deliveries ∧ (s.setChannel c x).asst = s.asst ∧ (s.setChannel c x).retained = s.retained ∧ (s.setChannel c x).log = s.log ∧ (s.setChannel c x).queues = s.queues ∧ (s.setChannel c x).bulk = s.bulk ∧ (s.setChannel c x).handovers = s.handovers ∧ (s.setChannel c x).ifcOn = s.ifcOn ∧ (s.setChannel c x).dbgOn = s.dbgOn ∧ (s.setChannel c x).eyeResp = s.eyeResp ∧ (s.setChannel c x).claims = s.claims ∧ (s.setChannel c x).evmask = s.evmask ∧ (s.setChannel c x).bulkWaiting = s.bulkWaiting ∧ (s.setChannel c x).scrubWord = s.scrubWord ∧ (s.setChannel c x).flows = s.flows ∧ (s.setChannel c x).stampCount = s.stampCount ∧ (s.setChannel c x).verniers = s.verniers ∧ (s.setChannel c x).pps = s.pps ∧ (s.setChannel c x).timers = s.timers ∧ (s.setChannel c x).watchdogs = s.watchdogs ∧ (s.setChannel c x).trackers = s.trackers ∧ (s.setChannel c x).phaseTargets = s.phaseTargets ∧ (s.setChannel c x).ephHold = s.ephHold ∧ (s.setChannel c x).eyeData = s.eyeData ∧ (s.setChannel c x).failed = s.failed ∧ (s.setChannel c x).gprs = s.gprs ∧ (s.setChannel c x).banks = s.banks ∧ (s.setChannel c x).lens = s.lens ∧ (s.setChannel c x).wcs = s.wcs ∧ (s.setChannel c x).engines = s.engines ∧ (s.setChannel c x).bootKey = s.bootKey ∧ (s.setChannel c x).crossTrigger = s.crossTrigger ∧ (s.setChannel c x).vernierHalts = s.vernierHalts ∧ (s.setChannel c x).ports = s.ports ∧ (s.setChannel c x).residues = s.residues ∧ (s.setChannel c x).buckets = s.buckets ∧ (s.setChannel c x).groups = s.groups ∧ (s.setChannel c x).streams = s.streams ∧ (s.setChannel c x).power = s.power ∧ (s.setChannel c x).security = s.security ∧ (s.setChannel c x).chart = s.chart ∧ (s.setChannel c x).assistant = s.assistant ∧ (s.setChannel c x).links = s.links ∧ (s.setChannel c x).constellation = s.constellation ∧ (s.setChannel c x).eyepiece = s.eyepiece ∧ (s.setChannel c x).jobs = s.jobs ∧ (s.setChannel c x).tick = s.tick := by
  refine ⟨rfl, rfl, rfl, rfl, rfl, rfl, rfl, rfl, rfl, rfl, rfl, rfl, rfl, rfl, rfl, rfl, rfl, rfl, rfl, rfl, rfl, rfl, rfl, rfl, rfl, rfl, rfl, rfl, rfl, rfl, rfl, rfl, rfl, rfl, rfl, rfl, rfl, rfl, rfl, rfl, rfl, rfl, rfl, rfl, rfl, rfl, rfl, rfl, rfl, rfl, rfl, rfl, rfl, rfl, rfl, rfl, rfl, rfl⟩

@[simp] theorem State.setStampPoint_fields (s : State) (i) (p) :
    (s.setStampPoint i p).pending = s.pending ∧ (s.setStampPoint i p).freeUsed = s.freeUsed ∧ (s.setStampPoint i p).regs = s.regs ∧ (s.setStampPoint i p).mem = s.mem ∧ (s.setStampPoint i p).ecc = s.ecc ∧ (s.setStampPoint i p).host = s.host ∧ (s.setStampPoint i p).handoff = s.handoff ∧ (s.setStampPoint i p).rgl = s.rgl ∧ (s.setStampPoint i p).alarms = s.alarms ∧ (s.setStampPoint i p).lines = s.lines ∧ (s.setStampPoint i p).deliveries = s.deliveries ∧ (s.setStampPoint i p).asst = s.asst ∧ (s.setStampPoint i p).retained = s.retained ∧ (s.setStampPoint i p).log = s.log ∧ (s.setStampPoint i p).queues = s.queues ∧ (s.setStampPoint i p).bulk = s.bulk ∧ (s.setStampPoint i p).handovers = s.handovers ∧ (s.setStampPoint i p).ifcOn = s.ifcOn ∧ (s.setStampPoint i p).dbgOn = s.dbgOn ∧ (s.setStampPoint i p).eyeResp = s.eyeResp ∧ (s.setStampPoint i p).claims = s.claims ∧ (s.setStampPoint i p).evmask = s.evmask ∧ (s.setStampPoint i p).bulkWaiting = s.bulkWaiting ∧ (s.setStampPoint i p).scrubWord = s.scrubWord ∧ (s.setStampPoint i p).flows = s.flows ∧ (s.setStampPoint i p).stampCount = s.stampCount ∧ (s.setStampPoint i p).verniers = s.verniers ∧ (s.setStampPoint i p).pps = s.pps ∧ (s.setStampPoint i p).timers = s.timers ∧ (s.setStampPoint i p).watchdogs = s.watchdogs ∧ (s.setStampPoint i p).trackers = s.trackers ∧ (s.setStampPoint i p).phaseTargets = s.phaseTargets ∧ (s.setStampPoint i p).ephHold = s.ephHold ∧ (s.setStampPoint i p).eyeData = s.eyeData ∧ (s.setStampPoint i p).failed = s.failed ∧ (s.setStampPoint i p).gprs = s.gprs ∧ (s.setStampPoint i p).banks = s.banks ∧ (s.setStampPoint i p).lens = s.lens ∧ (s.setStampPoint i p).wcs = s.wcs ∧ (s.setStampPoint i p).engines = s.engines ∧ (s.setStampPoint i p).bootKey = s.bootKey ∧ (s.setStampPoint i p).crossTrigger = s.crossTrigger ∧ (s.setStampPoint i p).vernierHalts = s.vernierHalts ∧ (s.setStampPoint i p).ports = s.ports ∧ (s.setStampPoint i p).residues = s.residues ∧ (s.setStampPoint i p).buckets = s.buckets ∧ (s.setStampPoint i p).groups = s.groups ∧ (s.setStampPoint i p).streams = s.streams ∧ (s.setStampPoint i p).channels = s.channels ∧ (s.setStampPoint i p).power = s.power ∧ (s.setStampPoint i p).security = s.security ∧ (s.setStampPoint i p).chart = s.chart ∧ (s.setStampPoint i p).assistant = s.assistant ∧ (s.setStampPoint i p).links = s.links ∧ (s.setStampPoint i p).constellation = s.constellation ∧ (s.setStampPoint i p).eyepiece = s.eyepiece ∧ (s.setStampPoint i p).jobs = s.jobs ∧ (s.setStampPoint i p).tick = s.tick := by
  refine ⟨rfl, rfl, rfl, rfl, rfl, rfl, rfl, rfl, rfl, rfl, rfl, rfl, rfl, rfl, rfl, rfl, rfl, rfl, rfl, rfl, rfl, rfl, rfl, rfl, rfl, rfl, rfl, rfl, rfl, rfl, rfl, rfl, rfl, rfl, rfl, rfl, rfl, rfl, rfl, rfl, rfl, rfl, rfl, rfl, rfl, rfl, rfl, rfl, rfl, rfl, rfl, rfl, rfl, rfl, rfl, rfl, rfl, rfl⟩

@[simp] theorem State.setLine_fields (s : State) (n) (l) :
    (s.setLine n l).pending = s.pending ∧ (s.setLine n l).freeUsed = s.freeUsed ∧ (s.setLine n l).regs = s.regs ∧ (s.setLine n l).mem = s.mem ∧ (s.setLine n l).ecc = s.ecc ∧ (s.setLine n l).host = s.host ∧ (s.setLine n l).handoff = s.handoff ∧ (s.setLine n l).rgl = s.rgl ∧ (s.setLine n l).stamps = s.stamps ∧ (s.setLine n l).alarms = s.alarms ∧ (s.setLine n l).deliveries = s.deliveries ∧ (s.setLine n l).asst = s.asst ∧ (s.setLine n l).retained = s.retained ∧ (s.setLine n l).log = s.log ∧ (s.setLine n l).queues = s.queues ∧ (s.setLine n l).bulk = s.bulk ∧ (s.setLine n l).handovers = s.handovers ∧ (s.setLine n l).ifcOn = s.ifcOn ∧ (s.setLine n l).dbgOn = s.dbgOn ∧ (s.setLine n l).eyeResp = s.eyeResp ∧ (s.setLine n l).claims = s.claims ∧ (s.setLine n l).evmask = s.evmask ∧ (s.setLine n l).bulkWaiting = s.bulkWaiting ∧ (s.setLine n l).scrubWord = s.scrubWord ∧ (s.setLine n l).flows = s.flows ∧ (s.setLine n l).stampCount = s.stampCount ∧ (s.setLine n l).verniers = s.verniers ∧ (s.setLine n l).pps = s.pps ∧ (s.setLine n l).timers = s.timers ∧ (s.setLine n l).watchdogs = s.watchdogs ∧ (s.setLine n l).trackers = s.trackers ∧ (s.setLine n l).phaseTargets = s.phaseTargets ∧ (s.setLine n l).ephHold = s.ephHold ∧ (s.setLine n l).eyeData = s.eyeData ∧ (s.setLine n l).failed = s.failed ∧ (s.setLine n l).gprs = s.gprs ∧ (s.setLine n l).banks = s.banks ∧ (s.setLine n l).lens = s.lens ∧ (s.setLine n l).wcs = s.wcs ∧ (s.setLine n l).engines = s.engines ∧ (s.setLine n l).bootKey = s.bootKey ∧ (s.setLine n l).crossTrigger = s.crossTrigger ∧ (s.setLine n l).vernierHalts = s.vernierHalts ∧ (s.setLine n l).ports = s.ports ∧ (s.setLine n l).residues = s.residues ∧ (s.setLine n l).buckets = s.buckets ∧ (s.setLine n l).groups = s.groups ∧ (s.setLine n l).streams = s.streams ∧ (s.setLine n l).channels = s.channels ∧ (s.setLine n l).power = s.power ∧ (s.setLine n l).security = s.security ∧ (s.setLine n l).chart = s.chart ∧ (s.setLine n l).assistant = s.assistant ∧ (s.setLine n l).links = s.links ∧ (s.setLine n l).constellation = s.constellation ∧ (s.setLine n l).eyepiece = s.eyepiece ∧ (s.setLine n l).jobs = s.jobs ∧ (s.setLine n l).tick = s.tick := by
  refine ⟨rfl, rfl, rfl, rfl, rfl, rfl, rfl, rfl, rfl, rfl, rfl, rfl, rfl, rfl, rfl, rfl, rfl, rfl, rfl, rfl, rfl, rfl, rfl, rfl, rfl, rfl, rfl, rfl, rfl, rfl, rfl, rfl, rfl, rfl, rfl, rfl, rfl, rfl, rfl, rfl, rfl, rfl, rfl, rfl, rfl, rfl, rfl, rfl, rfl, rfl, rfl, rfl, rfl, rfl, rfl, rfl, rfl, rfl⟩

@[simp] theorem State.setHandover_fields (s : State) (k) (h) :
    (s.setHandover k h).pending = s.pending ∧ (s.setHandover k h).freeUsed = s.freeUsed ∧ (s.setHandover k h).regs = s.regs ∧ (s.setHandover k h).mem = s.mem ∧ (s.setHandover k h).ecc = s.ecc ∧ (s.setHandover k h).host = s.host ∧ (s.setHandover k h).handoff = s.handoff ∧ (s.setHandover k h).rgl = s.rgl ∧ (s.setHandover k h).stamps = s.stamps ∧ (s.setHandover k h).alarms = s.alarms ∧ (s.setHandover k h).lines = s.lines ∧ (s.setHandover k h).deliveries = s.deliveries ∧ (s.setHandover k h).asst = s.asst ∧ (s.setHandover k h).retained = s.retained ∧ (s.setHandover k h).log = s.log ∧ (s.setHandover k h).queues = s.queues ∧ (s.setHandover k h).bulk = s.bulk ∧ (s.setHandover k h).ifcOn = s.ifcOn ∧ (s.setHandover k h).dbgOn = s.dbgOn ∧ (s.setHandover k h).eyeResp = s.eyeResp ∧ (s.setHandover k h).claims = s.claims ∧ (s.setHandover k h).evmask = s.evmask ∧ (s.setHandover k h).bulkWaiting = s.bulkWaiting ∧ (s.setHandover k h).scrubWord = s.scrubWord ∧ (s.setHandover k h).flows = s.flows ∧ (s.setHandover k h).stampCount = s.stampCount ∧ (s.setHandover k h).verniers = s.verniers ∧ (s.setHandover k h).pps = s.pps ∧ (s.setHandover k h).timers = s.timers ∧ (s.setHandover k h).watchdogs = s.watchdogs ∧ (s.setHandover k h).trackers = s.trackers ∧ (s.setHandover k h).phaseTargets = s.phaseTargets ∧ (s.setHandover k h).ephHold = s.ephHold ∧ (s.setHandover k h).eyeData = s.eyeData ∧ (s.setHandover k h).failed = s.failed ∧ (s.setHandover k h).gprs = s.gprs ∧ (s.setHandover k h).banks = s.banks ∧ (s.setHandover k h).lens = s.lens ∧ (s.setHandover k h).wcs = s.wcs ∧ (s.setHandover k h).engines = s.engines ∧ (s.setHandover k h).bootKey = s.bootKey ∧ (s.setHandover k h).crossTrigger = s.crossTrigger ∧ (s.setHandover k h).vernierHalts = s.vernierHalts ∧ (s.setHandover k h).ports = s.ports ∧ (s.setHandover k h).residues = s.residues ∧ (s.setHandover k h).buckets = s.buckets ∧ (s.setHandover k h).groups = s.groups ∧ (s.setHandover k h).streams = s.streams ∧ (s.setHandover k h).channels = s.channels ∧ (s.setHandover k h).power = s.power ∧ (s.setHandover k h).security = s.security ∧ (s.setHandover k h).chart = s.chart ∧ (s.setHandover k h).assistant = s.assistant ∧ (s.setHandover k h).links = s.links ∧ (s.setHandover k h).constellation = s.constellation ∧ (s.setHandover k h).eyepiece = s.eyepiece ∧ (s.setHandover k h).jobs = s.jobs ∧ (s.setHandover k h).tick = s.tick := by
  refine ⟨rfl, rfl, rfl, rfl, rfl, rfl, rfl, rfl, rfl, rfl, rfl, rfl, rfl, rfl, rfl, rfl, rfl, rfl, rfl, rfl, rfl, rfl, rfl, rfl, rfl, rfl, rfl, rfl, rfl, rfl, rfl, rfl, rfl, rfl, rfl, rfl, rfl, rfl, rfl, rfl, rfl, rfl, rfl, rfl, rfl, rfl, rfl, rfl, rfl, rfl, rfl, rfl, rfl, rfl, rfl, rfl, rfl, rfl⟩

@[simp] theorem State.setLink_fields (s : State) (x) (l) :
    (s.setLink x l).pending = s.pending ∧ (s.setLink x l).freeUsed = s.freeUsed ∧ (s.setLink x l).regs = s.regs ∧ (s.setLink x l).mem = s.mem ∧ (s.setLink x l).ecc = s.ecc ∧ (s.setLink x l).host = s.host ∧ (s.setLink x l).handoff = s.handoff ∧ (s.setLink x l).rgl = s.rgl ∧ (s.setLink x l).stamps = s.stamps ∧ (s.setLink x l).alarms = s.alarms ∧ (s.setLink x l).lines = s.lines ∧ (s.setLink x l).deliveries = s.deliveries ∧ (s.setLink x l).asst = s.asst ∧ (s.setLink x l).retained = s.retained ∧ (s.setLink x l).log = s.log ∧ (s.setLink x l).queues = s.queues ∧ (s.setLink x l).bulk = s.bulk ∧ (s.setLink x l).handovers = s.handovers ∧ (s.setLink x l).ifcOn = s.ifcOn ∧ (s.setLink x l).dbgOn = s.dbgOn ∧ (s.setLink x l).eyeResp = s.eyeResp ∧ (s.setLink x l).claims = s.claims ∧ (s.setLink x l).evmask = s.evmask ∧ (s.setLink x l).bulkWaiting = s.bulkWaiting ∧ (s.setLink x l).scrubWord = s.scrubWord ∧ (s.setLink x l).flows = s.flows ∧ (s.setLink x l).stampCount = s.stampCount ∧ (s.setLink x l).verniers = s.verniers ∧ (s.setLink x l).pps = s.pps ∧ (s.setLink x l).timers = s.timers ∧ (s.setLink x l).watchdogs = s.watchdogs ∧ (s.setLink x l).trackers = s.trackers ∧ (s.setLink x l).phaseTargets = s.phaseTargets ∧ (s.setLink x l).ephHold = s.ephHold ∧ (s.setLink x l).eyeData = s.eyeData ∧ (s.setLink x l).failed = s.failed ∧ (s.setLink x l).gprs = s.gprs ∧ (s.setLink x l).banks = s.banks ∧ (s.setLink x l).lens = s.lens ∧ (s.setLink x l).wcs = s.wcs ∧ (s.setLink x l).engines = s.engines ∧ (s.setLink x l).bootKey = s.bootKey ∧ (s.setLink x l).crossTrigger = s.crossTrigger ∧ (s.setLink x l).vernierHalts = s.vernierHalts ∧ (s.setLink x l).ports = s.ports ∧ (s.setLink x l).residues = s.residues ∧ (s.setLink x l).buckets = s.buckets ∧ (s.setLink x l).groups = s.groups ∧ (s.setLink x l).streams = s.streams ∧ (s.setLink x l).channels = s.channels ∧ (s.setLink x l).power = s.power ∧ (s.setLink x l).security = s.security ∧ (s.setLink x l).chart = s.chart ∧ (s.setLink x l).assistant = s.assistant ∧ (s.setLink x l).constellation = s.constellation ∧ (s.setLink x l).eyepiece = s.eyepiece ∧ (s.setLink x l).jobs = s.jobs ∧ (s.setLink x l).tick = s.tick := by
  refine ⟨rfl, rfl, rfl, rfl, rfl, rfl, rfl, rfl, rfl, rfl, rfl, rfl, rfl, rfl, rfl, rfl, rfl, rfl, rfl, rfl, rfl, rfl, rfl, rfl, rfl, rfl, rfl, rfl, rfl, rfl, rfl, rfl, rfl, rfl, rfl, rfl, rfl, rfl, rfl, rfl, rfl, rfl, rfl, rfl, rfl, rfl, rfl, rfl, rfl, rfl, rfl, rfl, rfl, rfl, rfl, rfl, rfl, rfl⟩

@[simp] theorem State.setPort_fields (s : State) (p) (x) :
    (s.setPort p x).pending = s.pending ∧ (s.setPort p x).freeUsed = s.freeUsed ∧ (s.setPort p x).regs = s.regs ∧ (s.setPort p x).mem = s.mem ∧ (s.setPort p x).ecc = s.ecc ∧ (s.setPort p x).host = s.host ∧ (s.setPort p x).handoff = s.handoff ∧ (s.setPort p x).rgl = s.rgl ∧ (s.setPort p x).stamps = s.stamps ∧ (s.setPort p x).alarms = s.alarms ∧ (s.setPort p x).lines = s.lines ∧ (s.setPort p x).deliveries = s.deliveries ∧ (s.setPort p x).asst = s.asst ∧ (s.setPort p x).retained = s.retained ∧ (s.setPort p x).log = s.log ∧ (s.setPort p x).queues = s.queues ∧ (s.setPort p x).bulk = s.bulk ∧ (s.setPort p x).handovers = s.handovers ∧ (s.setPort p x).ifcOn = s.ifcOn ∧ (s.setPort p x).dbgOn = s.dbgOn ∧ (s.setPort p x).eyeResp = s.eyeResp ∧ (s.setPort p x).claims = s.claims ∧ (s.setPort p x).evmask = s.evmask ∧ (s.setPort p x).bulkWaiting = s.bulkWaiting ∧ (s.setPort p x).scrubWord = s.scrubWord ∧ (s.setPort p x).flows = s.flows ∧ (s.setPort p x).stampCount = s.stampCount ∧ (s.setPort p x).verniers = s.verniers ∧ (s.setPort p x).pps = s.pps ∧ (s.setPort p x).timers = s.timers ∧ (s.setPort p x).watchdogs = s.watchdogs ∧ (s.setPort p x).trackers = s.trackers ∧ (s.setPort p x).phaseTargets = s.phaseTargets ∧ (s.setPort p x).ephHold = s.ephHold ∧ (s.setPort p x).eyeData = s.eyeData ∧ (s.setPort p x).failed = s.failed ∧ (s.setPort p x).gprs = s.gprs ∧ (s.setPort p x).banks = s.banks ∧ (s.setPort p x).lens = s.lens ∧ (s.setPort p x).wcs = s.wcs ∧ (s.setPort p x).engines = s.engines ∧ (s.setPort p x).bootKey = s.bootKey ∧ (s.setPort p x).crossTrigger = s.crossTrigger ∧ (s.setPort p x).vernierHalts = s.vernierHalts ∧ (s.setPort p x).residues = s.residues ∧ (s.setPort p x).buckets = s.buckets ∧ (s.setPort p x).groups = s.groups ∧ (s.setPort p x).streams = s.streams ∧ (s.setPort p x).channels = s.channels ∧ (s.setPort p x).power = s.power ∧ (s.setPort p x).security = s.security ∧ (s.setPort p x).chart = s.chart ∧ (s.setPort p x).assistant = s.assistant ∧ (s.setPort p x).links = s.links ∧ (s.setPort p x).constellation = s.constellation ∧ (s.setPort p x).eyepiece = s.eyepiece ∧ (s.setPort p x).jobs = s.jobs ∧ (s.setPort p x).tick = s.tick := by
  refine ⟨rfl, rfl, rfl, rfl, rfl, rfl, rfl, rfl, rfl, rfl, rfl, rfl, rfl, rfl, rfl, rfl, rfl, rfl, rfl, rfl, rfl, rfl, rfl, rfl, rfl, rfl, rfl, rfl, rfl, rfl, rfl, rfl, rfl, rfl, rfl, rfl, rfl, rfl, rfl, rfl, rfl, rfl, rfl, rfl, rfl, rfl, rfl, rfl, rfl, rfl, rfl, rfl, rfl, rfl, rfl, rfl, rfl, rfl⟩

@[simp] theorem State.setGroup_fields (s : State) (g) (x) :
    (s.setGroup g x).pending = s.pending ∧ (s.setGroup g x).freeUsed = s.freeUsed ∧ (s.setGroup g x).regs = s.regs ∧ (s.setGroup g x).mem = s.mem ∧ (s.setGroup g x).ecc = s.ecc ∧ (s.setGroup g x).host = s.host ∧ (s.setGroup g x).handoff = s.handoff ∧ (s.setGroup g x).rgl = s.rgl ∧ (s.setGroup g x).stamps = s.stamps ∧ (s.setGroup g x).alarms = s.alarms ∧ (s.setGroup g x).lines = s.lines ∧ (s.setGroup g x).deliveries = s.deliveries ∧ (s.setGroup g x).asst = s.asst ∧ (s.setGroup g x).retained = s.retained ∧ (s.setGroup g x).log = s.log ∧ (s.setGroup g x).queues = s.queues ∧ (s.setGroup g x).bulk = s.bulk ∧ (s.setGroup g x).handovers = s.handovers ∧ (s.setGroup g x).ifcOn = s.ifcOn ∧ (s.setGroup g x).dbgOn = s.dbgOn ∧ (s.setGroup g x).eyeResp = s.eyeResp ∧ (s.setGroup g x).claims = s.claims ∧ (s.setGroup g x).evmask = s.evmask ∧ (s.setGroup g x).bulkWaiting = s.bulkWaiting ∧ (s.setGroup g x).scrubWord = s.scrubWord ∧ (s.setGroup g x).flows = s.flows ∧ (s.setGroup g x).stampCount = s.stampCount ∧ (s.setGroup g x).verniers = s.verniers ∧ (s.setGroup g x).pps = s.pps ∧ (s.setGroup g x).timers = s.timers ∧ (s.setGroup g x).watchdogs = s.watchdogs ∧ (s.setGroup g x).trackers = s.trackers ∧ (s.setGroup g x).phaseTargets = s.phaseTargets ∧ (s.setGroup g x).ephHold = s.ephHold ∧ (s.setGroup g x).eyeData = s.eyeData ∧ (s.setGroup g x).failed = s.failed ∧ (s.setGroup g x).gprs = s.gprs ∧ (s.setGroup g x).banks = s.banks ∧ (s.setGroup g x).lens = s.lens ∧ (s.setGroup g x).wcs = s.wcs ∧ (s.setGroup g x).engines = s.engines ∧ (s.setGroup g x).bootKey = s.bootKey ∧ (s.setGroup g x).crossTrigger = s.crossTrigger ∧ (s.setGroup g x).vernierHalts = s.vernierHalts ∧ (s.setGroup g x).ports = s.ports ∧ (s.setGroup g x).residues = s.residues ∧ (s.setGroup g x).buckets = s.buckets ∧ (s.setGroup g x).streams = s.streams ∧ (s.setGroup g x).channels = s.channels ∧ (s.setGroup g x).power = s.power ∧ (s.setGroup g x).security = s.security ∧ (s.setGroup g x).chart = s.chart ∧ (s.setGroup g x).assistant = s.assistant ∧ (s.setGroup g x).links = s.links ∧ (s.setGroup g x).constellation = s.constellation ∧ (s.setGroup g x).eyepiece = s.eyepiece ∧ (s.setGroup g x).jobs = s.jobs ∧ (s.setGroup g x).tick = s.tick := by
  refine ⟨rfl, rfl, rfl, rfl, rfl, rfl, rfl, rfl, rfl, rfl, rfl, rfl, rfl, rfl, rfl, rfl, rfl, rfl, rfl, rfl, rfl, rfl, rfl, rfl, rfl, rfl, rfl, rfl, rfl, rfl, rfl, rfl, rfl, rfl, rfl, rfl, rfl, rfl, rfl, rfl, rfl, rfl, rfl, rfl, rfl, rfl, rfl, rfl, rfl, rfl, rfl, rfl, rfl, rfl, rfl, rfl, rfl, rfl⟩

@[simp] theorem State.setStream_fields (s : State) (p) (i) (x) :
    (s.setStream p i x).pending = s.pending ∧ (s.setStream p i x).freeUsed = s.freeUsed ∧ (s.setStream p i x).regs = s.regs ∧ (s.setStream p i x).mem = s.mem ∧ (s.setStream p i x).ecc = s.ecc ∧ (s.setStream p i x).host = s.host ∧ (s.setStream p i x).handoff = s.handoff ∧ (s.setStream p i x).rgl = s.rgl ∧ (s.setStream p i x).stamps = s.stamps ∧ (s.setStream p i x).alarms = s.alarms ∧ (s.setStream p i x).lines = s.lines ∧ (s.setStream p i x).deliveries = s.deliveries ∧ (s.setStream p i x).asst = s.asst ∧ (s.setStream p i x).retained = s.retained ∧ (s.setStream p i x).log = s.log ∧ (s.setStream p i x).queues = s.queues ∧ (s.setStream p i x).bulk = s.bulk ∧ (s.setStream p i x).handovers = s.handovers ∧ (s.setStream p i x).ifcOn = s.ifcOn ∧ (s.setStream p i x).dbgOn = s.dbgOn ∧ (s.setStream p i x).eyeResp = s.eyeResp ∧ (s.setStream p i x).claims = s.claims ∧ (s.setStream p i x).evmask = s.evmask ∧ (s.setStream p i x).bulkWaiting = s.bulkWaiting ∧ (s.setStream p i x).scrubWord = s.scrubWord ∧ (s.setStream p i x).flows = s.flows ∧ (s.setStream p i x).stampCount = s.stampCount ∧ (s.setStream p i x).verniers = s.verniers ∧ (s.setStream p i x).pps = s.pps ∧ (s.setStream p i x).timers = s.timers ∧ (s.setStream p i x).watchdogs = s.watchdogs ∧ (s.setStream p i x).trackers = s.trackers ∧ (s.setStream p i x).phaseTargets = s.phaseTargets ∧ (s.setStream p i x).ephHold = s.ephHold ∧ (s.setStream p i x).eyeData = s.eyeData ∧ (s.setStream p i x).failed = s.failed ∧ (s.setStream p i x).gprs = s.gprs ∧ (s.setStream p i x).banks = s.banks ∧ (s.setStream p i x).lens = s.lens ∧ (s.setStream p i x).wcs = s.wcs ∧ (s.setStream p i x).engines = s.engines ∧ (s.setStream p i x).bootKey = s.bootKey ∧ (s.setStream p i x).crossTrigger = s.crossTrigger ∧ (s.setStream p i x).vernierHalts = s.vernierHalts ∧ (s.setStream p i x).ports = s.ports ∧ (s.setStream p i x).residues = s.residues ∧ (s.setStream p i x).buckets = s.buckets ∧ (s.setStream p i x).groups = s.groups ∧ (s.setStream p i x).channels = s.channels ∧ (s.setStream p i x).power = s.power ∧ (s.setStream p i x).security = s.security ∧ (s.setStream p i x).chart = s.chart ∧ (s.setStream p i x).assistant = s.assistant ∧ (s.setStream p i x).links = s.links ∧ (s.setStream p i x).constellation = s.constellation ∧ (s.setStream p i x).eyepiece = s.eyepiece ∧ (s.setStream p i x).jobs = s.jobs ∧ (s.setStream p i x).tick = s.tick := by
  refine ⟨rfl, rfl, rfl, rfl, rfl, rfl, rfl, rfl, rfl, rfl, rfl, rfl, rfl, rfl, rfl, rfl, rfl, rfl, rfl, rfl, rfl, rfl, rfl, rfl, rfl, rfl, rfl, rfl, rfl, rfl, rfl, rfl, rfl, rfl, rfl, rfl, rfl, rfl, rfl, rfl, rfl, rfl, rfl, rfl, rfl, rfl, rfl, rfl, rfl, rfl, rfl, rfl, rfl, rfl, rfl, rfl, rfl, rfl⟩

@[simp] theorem State.setBucket_fields (s : State) (p) (k) (v) :
    (s.setBucket p k v).pending = s.pending ∧ (s.setBucket p k v).freeUsed = s.freeUsed ∧ (s.setBucket p k v).regs = s.regs ∧ (s.setBucket p k v).mem = s.mem ∧ (s.setBucket p k v).ecc = s.ecc ∧ (s.setBucket p k v).host = s.host ∧ (s.setBucket p k v).handoff = s.handoff ∧ (s.setBucket p k v).rgl = s.rgl ∧ (s.setBucket p k v).stamps = s.stamps ∧ (s.setBucket p k v).alarms = s.alarms ∧ (s.setBucket p k v).lines = s.lines ∧ (s.setBucket p k v).deliveries = s.deliveries ∧ (s.setBucket p k v).asst = s.asst ∧ (s.setBucket p k v).retained = s.retained ∧ (s.setBucket p k v).log = s.log ∧ (s.setBucket p k v).queues = s.queues ∧ (s.setBucket p k v).bulk = s.bulk ∧ (s.setBucket p k v).handovers = s.handovers ∧ (s.setBucket p k v).ifcOn = s.ifcOn ∧ (s.setBucket p k v).dbgOn = s.dbgOn ∧ (s.setBucket p k v).eyeResp = s.eyeResp ∧ (s.setBucket p k v).claims = s.claims ∧ (s.setBucket p k v).evmask = s.evmask ∧ (s.setBucket p k v).bulkWaiting = s.bulkWaiting ∧ (s.setBucket p k v).scrubWord = s.scrubWord ∧ (s.setBucket p k v).flows = s.flows ∧ (s.setBucket p k v).stampCount = s.stampCount ∧ (s.setBucket p k v).verniers = s.verniers ∧ (s.setBucket p k v).pps = s.pps ∧ (s.setBucket p k v).timers = s.timers ∧ (s.setBucket p k v).watchdogs = s.watchdogs ∧ (s.setBucket p k v).trackers = s.trackers ∧ (s.setBucket p k v).phaseTargets = s.phaseTargets ∧ (s.setBucket p k v).ephHold = s.ephHold ∧ (s.setBucket p k v).eyeData = s.eyeData ∧ (s.setBucket p k v).failed = s.failed ∧ (s.setBucket p k v).gprs = s.gprs ∧ (s.setBucket p k v).banks = s.banks ∧ (s.setBucket p k v).lens = s.lens ∧ (s.setBucket p k v).wcs = s.wcs ∧ (s.setBucket p k v).engines = s.engines ∧ (s.setBucket p k v).bootKey = s.bootKey ∧ (s.setBucket p k v).crossTrigger = s.crossTrigger ∧ (s.setBucket p k v).vernierHalts = s.vernierHalts ∧ (s.setBucket p k v).ports = s.ports ∧ (s.setBucket p k v).residues = s.residues ∧ (s.setBucket p k v).groups = s.groups ∧ (s.setBucket p k v).streams = s.streams ∧ (s.setBucket p k v).channels = s.channels ∧ (s.setBucket p k v).power = s.power ∧ (s.setBucket p k v).security = s.security ∧ (s.setBucket p k v).chart = s.chart ∧ (s.setBucket p k v).assistant = s.assistant ∧ (s.setBucket p k v).links = s.links ∧ (s.setBucket p k v).constellation = s.constellation ∧ (s.setBucket p k v).eyepiece = s.eyepiece ∧ (s.setBucket p k v).jobs = s.jobs ∧ (s.setBucket p k v).tick = s.tick := by
  refine ⟨rfl, rfl, rfl, rfl, rfl, rfl, rfl, rfl, rfl, rfl, rfl, rfl, rfl, rfl, rfl, rfl, rfl, rfl, rfl, rfl, rfl, rfl, rfl, rfl, rfl, rfl, rfl, rfl, rfl, rfl, rfl, rfl, rfl, rfl, rfl, rfl, rfl, rfl, rfl, rfl, rfl, rfl, rfl, rfl, rfl, rfl, rfl, rfl, rfl, rfl, rfl, rfl, rfl, rfl, rfl, rfl, rfl, rfl⟩

@[simp] theorem State.setResidue_fields (s : State) (l) (c) (x) :
    (s.setResidue l c x).pending = s.pending ∧ (s.setResidue l c x).freeUsed = s.freeUsed ∧ (s.setResidue l c x).regs = s.regs ∧ (s.setResidue l c x).mem = s.mem ∧ (s.setResidue l c x).ecc = s.ecc ∧ (s.setResidue l c x).host = s.host ∧ (s.setResidue l c x).handoff = s.handoff ∧ (s.setResidue l c x).rgl = s.rgl ∧ (s.setResidue l c x).stamps = s.stamps ∧ (s.setResidue l c x).alarms = s.alarms ∧ (s.setResidue l c x).lines = s.lines ∧ (s.setResidue l c x).deliveries = s.deliveries ∧ (s.setResidue l c x).asst = s.asst ∧ (s.setResidue l c x).retained = s.retained ∧ (s.setResidue l c x).log = s.log ∧ (s.setResidue l c x).queues = s.queues ∧ (s.setResidue l c x).bulk = s.bulk ∧ (s.setResidue l c x).handovers = s.handovers ∧ (s.setResidue l c x).ifcOn = s.ifcOn ∧ (s.setResidue l c x).dbgOn = s.dbgOn ∧ (s.setResidue l c x).eyeResp = s.eyeResp ∧ (s.setResidue l c x).claims = s.claims ∧ (s.setResidue l c x).evmask = s.evmask ∧ (s.setResidue l c x).bulkWaiting = s.bulkWaiting ∧ (s.setResidue l c x).scrubWord = s.scrubWord ∧ (s.setResidue l c x).flows = s.flows ∧ (s.setResidue l c x).stampCount = s.stampCount ∧ (s.setResidue l c x).verniers = s.verniers ∧ (s.setResidue l c x).pps = s.pps ∧ (s.setResidue l c x).timers = s.timers ∧ (s.setResidue l c x).watchdogs = s.watchdogs ∧ (s.setResidue l c x).trackers = s.trackers ∧ (s.setResidue l c x).phaseTargets = s.phaseTargets ∧ (s.setResidue l c x).ephHold = s.ephHold ∧ (s.setResidue l c x).eyeData = s.eyeData ∧ (s.setResidue l c x).failed = s.failed ∧ (s.setResidue l c x).gprs = s.gprs ∧ (s.setResidue l c x).banks = s.banks ∧ (s.setResidue l c x).lens = s.lens ∧ (s.setResidue l c x).wcs = s.wcs ∧ (s.setResidue l c x).engines = s.engines ∧ (s.setResidue l c x).bootKey = s.bootKey ∧ (s.setResidue l c x).crossTrigger = s.crossTrigger ∧ (s.setResidue l c x).vernierHalts = s.vernierHalts ∧ (s.setResidue l c x).ports = s.ports ∧ (s.setResidue l c x).buckets = s.buckets ∧ (s.setResidue l c x).groups = s.groups ∧ (s.setResidue l c x).streams = s.streams ∧ (s.setResidue l c x).channels = s.channels ∧ (s.setResidue l c x).power = s.power ∧ (s.setResidue l c x).security = s.security ∧ (s.setResidue l c x).chart = s.chart ∧ (s.setResidue l c x).assistant = s.assistant ∧ (s.setResidue l c x).links = s.links ∧ (s.setResidue l c x).constellation = s.constellation ∧ (s.setResidue l c x).eyepiece = s.eyepiece ∧ (s.setResidue l c x).jobs = s.jobs ∧ (s.setResidue l c x).tick = s.tick := by
  refine ⟨rfl, rfl, rfl, rfl, rfl, rfl, rfl, rfl, rfl, rfl, rfl, rfl, rfl, rfl, rfl, rfl, rfl, rfl, rfl, rfl, rfl, rfl, rfl, rfl, rfl, rfl, rfl, rfl, rfl, rfl, rfl, rfl, rfl, rfl, rfl, rfl, rfl, rfl, rfl, rfl, rfl, rfl, rfl, rfl, rfl, rfl, rfl, rfl, rfl, rfl, rfl, rfl, rfl, rfl, rfl, rfl, rfl, rfl⟩

@[simp] theorem State.setAlarm_fields (s : State) (n) (x) :
    (s.setAlarm n x).pending = s.pending ∧ (s.setAlarm n x).freeUsed = s.freeUsed ∧ (s.setAlarm n x).regs = s.regs ∧ (s.setAlarm n x).mem = s.mem ∧ (s.setAlarm n x).ecc = s.ecc ∧ (s.setAlarm n x).host = s.host ∧ (s.setAlarm n x).handoff = s.handoff ∧ (s.setAlarm n x).rgl = s.rgl ∧ (s.setAlarm n x).stamps = s.stamps ∧ (s.setAlarm n x).lines = s.lines ∧ (s.setAlarm n x).deliveries = s.deliveries ∧ (s.setAlarm n x).asst = s.asst ∧ (s.setAlarm n x).retained = s.retained ∧ (s.setAlarm n x).log = s.log ∧ (s.setAlarm n x).queues = s.queues ∧ (s.setAlarm n x).bulk = s.bulk ∧ (s.setAlarm n x).handovers = s.handovers ∧ (s.setAlarm n x).ifcOn = s.ifcOn ∧ (s.setAlarm n x).dbgOn = s.dbgOn ∧ (s.setAlarm n x).eyeResp = s.eyeResp ∧ (s.setAlarm n x).claims = s.claims ∧ (s.setAlarm n x).evmask = s.evmask ∧ (s.setAlarm n x).bulkWaiting = s.bulkWaiting ∧ (s.setAlarm n x).scrubWord = s.scrubWord ∧ (s.setAlarm n x).flows = s.flows ∧ (s.setAlarm n x).stampCount = s.stampCount ∧ (s.setAlarm n x).verniers = s.verniers ∧ (s.setAlarm n x).pps = s.pps ∧ (s.setAlarm n x).timers = s.timers ∧ (s.setAlarm n x).watchdogs = s.watchdogs ∧ (s.setAlarm n x).trackers = s.trackers ∧ (s.setAlarm n x).phaseTargets = s.phaseTargets ∧ (s.setAlarm n x).ephHold = s.ephHold ∧ (s.setAlarm n x).eyeData = s.eyeData ∧ (s.setAlarm n x).failed = s.failed ∧ (s.setAlarm n x).gprs = s.gprs ∧ (s.setAlarm n x).banks = s.banks ∧ (s.setAlarm n x).lens = s.lens ∧ (s.setAlarm n x).wcs = s.wcs ∧ (s.setAlarm n x).engines = s.engines ∧ (s.setAlarm n x).bootKey = s.bootKey ∧ (s.setAlarm n x).crossTrigger = s.crossTrigger ∧ (s.setAlarm n x).vernierHalts = s.vernierHalts ∧ (s.setAlarm n x).ports = s.ports ∧ (s.setAlarm n x).residues = s.residues ∧ (s.setAlarm n x).buckets = s.buckets ∧ (s.setAlarm n x).groups = s.groups ∧ (s.setAlarm n x).streams = s.streams ∧ (s.setAlarm n x).channels = s.channels ∧ (s.setAlarm n x).power = s.power ∧ (s.setAlarm n x).security = s.security ∧ (s.setAlarm n x).chart = s.chart ∧ (s.setAlarm n x).assistant = s.assistant ∧ (s.setAlarm n x).links = s.links ∧ (s.setAlarm n x).constellation = s.constellation ∧ (s.setAlarm n x).eyepiece = s.eyepiece ∧ (s.setAlarm n x).jobs = s.jobs ∧ (s.setAlarm n x).tick = s.tick := by
  refine ⟨rfl, rfl, rfl, rfl, rfl, rfl, rfl, rfl, rfl, rfl, rfl, rfl, rfl, rfl, rfl, rfl, rfl, rfl, rfl, rfl, rfl, rfl, rfl, rfl, rfl, rfl, rfl, rfl, rfl, rfl, rfl, rfl, rfl, rfl, rfl, rfl, rfl, rfl, rfl, rfl, rfl, rfl, rfl, rfl, rfl, rfl, rfl, rfl, rfl, rfl, rfl, rfl, rfl, rfl, rfl, rfl, rfl, rfl⟩

@[simp] theorem State.setTracker_fields (s : State) (n) (x) :
    (s.setTracker n x).pending = s.pending ∧ (s.setTracker n x).freeUsed = s.freeUsed ∧ (s.setTracker n x).regs = s.regs ∧ (s.setTracker n x).mem = s.mem ∧ (s.setTracker n x).ecc = s.ecc ∧ (s.setTracker n x).host = s.host ∧ (s.setTracker n x).handoff = s.handoff ∧ (s.setTracker n x).rgl = s.rgl ∧ (s.setTracker n x).stamps = s.stamps ∧ (s.setTracker n x).alarms = s.alarms ∧ (s.setTracker n x).lines = s.lines ∧ (s.setTracker n x).deliveries = s.deliveries ∧ (s.setTracker n x).asst = s.asst ∧ (s.setTracker n x).retained = s.retained ∧ (s.setTracker n x).log = s.log ∧ (s.setTracker n x).queues = s.queues ∧ (s.setTracker n x).bulk = s.bulk ∧ (s.setTracker n x).handovers = s.handovers ∧ (s.setTracker n x).ifcOn = s.ifcOn ∧ (s.setTracker n x).dbgOn = s.dbgOn ∧ (s.setTracker n x).eyeResp = s.eyeResp ∧ (s.setTracker n x).claims = s.claims ∧ (s.setTracker n x).evmask = s.evmask ∧ (s.setTracker n x).bulkWaiting = s.bulkWaiting ∧ (s.setTracker n x).scrubWord = s.scrubWord ∧ (s.setTracker n x).flows = s.flows ∧ (s.setTracker n x).stampCount = s.stampCount ∧ (s.setTracker n x).verniers = s.verniers ∧ (s.setTracker n x).pps = s.pps ∧ (s.setTracker n x).timers = s.timers ∧ (s.setTracker n x).watchdogs = s.watchdogs ∧ (s.setTracker n x).phaseTargets = s.phaseTargets ∧ (s.setTracker n x).ephHold = s.ephHold ∧ (s.setTracker n x).eyeData = s.eyeData ∧ (s.setTracker n x).failed = s.failed ∧ (s.setTracker n x).gprs = s.gprs ∧ (s.setTracker n x).banks = s.banks ∧ (s.setTracker n x).lens = s.lens ∧ (s.setTracker n x).wcs = s.wcs ∧ (s.setTracker n x).engines = s.engines ∧ (s.setTracker n x).bootKey = s.bootKey ∧ (s.setTracker n x).crossTrigger = s.crossTrigger ∧ (s.setTracker n x).vernierHalts = s.vernierHalts ∧ (s.setTracker n x).ports = s.ports ∧ (s.setTracker n x).residues = s.residues ∧ (s.setTracker n x).buckets = s.buckets ∧ (s.setTracker n x).groups = s.groups ∧ (s.setTracker n x).streams = s.streams ∧ (s.setTracker n x).channels = s.channels ∧ (s.setTracker n x).power = s.power ∧ (s.setTracker n x).security = s.security ∧ (s.setTracker n x).chart = s.chart ∧ (s.setTracker n x).assistant = s.assistant ∧ (s.setTracker n x).links = s.links ∧ (s.setTracker n x).constellation = s.constellation ∧ (s.setTracker n x).eyepiece = s.eyepiece ∧ (s.setTracker n x).jobs = s.jobs ∧ (s.setTracker n x).tick = s.tick := by
  refine ⟨rfl, rfl, rfl, rfl, rfl, rfl, rfl, rfl, rfl, rfl, rfl, rfl, rfl, rfl, rfl, rfl, rfl, rfl, rfl, rfl, rfl, rfl, rfl, rfl, rfl, rfl, rfl, rfl, rfl, rfl, rfl, rfl, rfl, rfl, rfl, rfl, rfl, rfl, rfl, rfl, rfl, rfl, rfl, rfl, rfl, rfl, rfl, rfl, rfl, rfl, rfl, rfl, rfl, rfl, rfl, rfl, rfl, rfl⟩

@[simp] theorem State.setPhaseTarget_fields (s : State) (m) (x) :
    (s.setPhaseTarget m x).pending = s.pending ∧ (s.setPhaseTarget m x).freeUsed = s.freeUsed ∧ (s.setPhaseTarget m x).regs = s.regs ∧ (s.setPhaseTarget m x).mem = s.mem ∧ (s.setPhaseTarget m x).ecc = s.ecc ∧ (s.setPhaseTarget m x).host = s.host ∧ (s.setPhaseTarget m x).handoff = s.handoff ∧ (s.setPhaseTarget m x).rgl = s.rgl ∧ (s.setPhaseTarget m x).stamps = s.stamps ∧ (s.setPhaseTarget m x).alarms = s.alarms ∧ (s.setPhaseTarget m x).lines = s.lines ∧ (s.setPhaseTarget m x).deliveries = s.deliveries ∧ (s.setPhaseTarget m x).asst = s.asst ∧ (s.setPhaseTarget m x).retained = s.retained ∧ (s.setPhaseTarget m x).log = s.log ∧ (s.setPhaseTarget m x).queues = s.queues ∧ (s.setPhaseTarget m x).bulk = s.bulk ∧ (s.setPhaseTarget m x).handovers = s.handovers ∧ (s.setPhaseTarget m x).ifcOn = s.ifcOn ∧ (s.setPhaseTarget m x).dbgOn = s.dbgOn ∧ (s.setPhaseTarget m x).eyeResp = s.eyeResp ∧ (s.setPhaseTarget m x).claims = s.claims ∧ (s.setPhaseTarget m x).evmask = s.evmask ∧ (s.setPhaseTarget m x).bulkWaiting = s.bulkWaiting ∧ (s.setPhaseTarget m x).scrubWord = s.scrubWord ∧ (s.setPhaseTarget m x).flows = s.flows ∧ (s.setPhaseTarget m x).stampCount = s.stampCount ∧ (s.setPhaseTarget m x).verniers = s.verniers ∧ (s.setPhaseTarget m x).pps = s.pps ∧ (s.setPhaseTarget m x).timers = s.timers ∧ (s.setPhaseTarget m x).watchdogs = s.watchdogs ∧ (s.setPhaseTarget m x).trackers = s.trackers ∧ (s.setPhaseTarget m x).ephHold = s.ephHold ∧ (s.setPhaseTarget m x).eyeData = s.eyeData ∧ (s.setPhaseTarget m x).failed = s.failed ∧ (s.setPhaseTarget m x).gprs = s.gprs ∧ (s.setPhaseTarget m x).banks = s.banks ∧ (s.setPhaseTarget m x).lens = s.lens ∧ (s.setPhaseTarget m x).wcs = s.wcs ∧ (s.setPhaseTarget m x).engines = s.engines ∧ (s.setPhaseTarget m x).bootKey = s.bootKey ∧ (s.setPhaseTarget m x).crossTrigger = s.crossTrigger ∧ (s.setPhaseTarget m x).vernierHalts = s.vernierHalts ∧ (s.setPhaseTarget m x).ports = s.ports ∧ (s.setPhaseTarget m x).residues = s.residues ∧ (s.setPhaseTarget m x).buckets = s.buckets ∧ (s.setPhaseTarget m x).groups = s.groups ∧ (s.setPhaseTarget m x).streams = s.streams ∧ (s.setPhaseTarget m x).channels = s.channels ∧ (s.setPhaseTarget m x).power = s.power ∧ (s.setPhaseTarget m x).security = s.security ∧ (s.setPhaseTarget m x).chart = s.chart ∧ (s.setPhaseTarget m x).assistant = s.assistant ∧ (s.setPhaseTarget m x).links = s.links ∧ (s.setPhaseTarget m x).constellation = s.constellation ∧ (s.setPhaseTarget m x).eyepiece = s.eyepiece ∧ (s.setPhaseTarget m x).jobs = s.jobs ∧ (s.setPhaseTarget m x).tick = s.tick := by
  refine ⟨rfl, rfl, rfl, rfl, rfl, rfl, rfl, rfl, rfl, rfl, rfl, rfl, rfl, rfl, rfl, rfl, rfl, rfl, rfl, rfl, rfl, rfl, rfl, rfl, rfl, rfl, rfl, rfl, rfl, rfl, rfl, rfl, rfl, rfl, rfl, rfl, rfl, rfl, rfl, rfl, rfl, rfl, rfl, rfl, rfl, rfl, rfl, rfl, rfl, rfl, rfl, rfl, rfl, rfl, rfl, rfl, rfl, rfl⟩

@[simp] theorem State.setClaimContext_fields (s : State) (e) (l) (c) :
    (s.setClaimContext e l c).pending = s.pending ∧ (s.setClaimContext e l c).freeUsed = s.freeUsed ∧ (s.setClaimContext e l c).regs = s.regs ∧ (s.setClaimContext e l c).mem = s.mem ∧ (s.setClaimContext e l c).ecc = s.ecc ∧ (s.setClaimContext e l c).host = s.host ∧ (s.setClaimContext e l c).handoff = s.handoff ∧ (s.setClaimContext e l c).rgl = s.rgl ∧ (s.setClaimContext e l c).stamps = s.stamps ∧ (s.setClaimContext e l c).alarms = s.alarms ∧ (s.setClaimContext e l c).lines = s.lines ∧ (s.setClaimContext e l c).deliveries = s.deliveries ∧ (s.setClaimContext e l c).asst = s.asst ∧ (s.setClaimContext e l c).retained = s.retained ∧ (s.setClaimContext e l c).log = s.log ∧ (s.setClaimContext e l c).queues = s.queues ∧ (s.setClaimContext e l c).bulk = s.bulk ∧ (s.setClaimContext e l c).handovers = s.handovers ∧ (s.setClaimContext e l c).ifcOn = s.ifcOn ∧ (s.setClaimContext e l c).dbgOn = s.dbgOn ∧ (s.setClaimContext e l c).eyeResp = s.eyeResp ∧ (s.setClaimContext e l c).evmask = s.evmask ∧ (s.setClaimContext e l c).bulkWaiting = s.bulkWaiting ∧ (s.setClaimContext e l c).scrubWord = s.scrubWord ∧ (s.setClaimContext e l c).flows = s.flows ∧ (s.setClaimContext e l c).stampCount = s.stampCount ∧ (s.setClaimContext e l c).verniers = s.verniers ∧ (s.setClaimContext e l c).pps = s.pps ∧ (s.setClaimContext e l c).timers = s.timers ∧ (s.setClaimContext e l c).watchdogs = s.watchdogs ∧ (s.setClaimContext e l c).trackers = s.trackers ∧ (s.setClaimContext e l c).phaseTargets = s.phaseTargets ∧ (s.setClaimContext e l c).ephHold = s.ephHold ∧ (s.setClaimContext e l c).eyeData = s.eyeData ∧ (s.setClaimContext e l c).failed = s.failed ∧ (s.setClaimContext e l c).gprs = s.gprs ∧ (s.setClaimContext e l c).banks = s.banks ∧ (s.setClaimContext e l c).lens = s.lens ∧ (s.setClaimContext e l c).wcs = s.wcs ∧ (s.setClaimContext e l c).engines = s.engines ∧ (s.setClaimContext e l c).bootKey = s.bootKey ∧ (s.setClaimContext e l c).crossTrigger = s.crossTrigger ∧ (s.setClaimContext e l c).vernierHalts = s.vernierHalts ∧ (s.setClaimContext e l c).ports = s.ports ∧ (s.setClaimContext e l c).residues = s.residues ∧ (s.setClaimContext e l c).buckets = s.buckets ∧ (s.setClaimContext e l c).groups = s.groups ∧ (s.setClaimContext e l c).streams = s.streams ∧ (s.setClaimContext e l c).channels = s.channels ∧ (s.setClaimContext e l c).power = s.power ∧ (s.setClaimContext e l c).security = s.security ∧ (s.setClaimContext e l c).chart = s.chart ∧ (s.setClaimContext e l c).assistant = s.assistant ∧ (s.setClaimContext e l c).links = s.links ∧ (s.setClaimContext e l c).constellation = s.constellation ∧ (s.setClaimContext e l c).eyepiece = s.eyepiece ∧ (s.setClaimContext e l c).jobs = s.jobs ∧ (s.setClaimContext e l c).tick = s.tick := by
  refine ⟨rfl, rfl, rfl, rfl, rfl, rfl, rfl, rfl, rfl, rfl, rfl, rfl, rfl, rfl, rfl, rfl, rfl, rfl, rfl, rfl, rfl, rfl, rfl, rfl, rfl, rfl, rfl, rfl, rfl, rfl, rfl, rfl, rfl, rfl, rfl, rfl, rfl, rfl, rfl, rfl, rfl, rfl, rfl, rfl, rfl, rfl, rfl, rfl, rfl, rfl, rfl, rfl, rfl, rfl, rfl, rfl, rfl, rfl⟩

@[simp] theorem State.setSlot_fields (s : State) (q) (a) (b) (l) :
    (s.setSlot q a b l).pending = s.pending ∧ (s.setSlot q a b l).freeUsed = s.freeUsed ∧ (s.setSlot q a b l).regs = s.regs ∧ (s.setSlot q a b l).mem = s.mem ∧ (s.setSlot q a b l).ecc = s.ecc ∧ (s.setSlot q a b l).host = s.host ∧ (s.setSlot q a b l).rgl = s.rgl ∧ (s.setSlot q a b l).stamps = s.stamps ∧ (s.setSlot q a b l).alarms = s.alarms ∧ (s.setSlot q a b l).lines = s.lines ∧ (s.setSlot q a b l).deliveries = s.deliveries ∧ (s.setSlot q a b l).asst = s.asst ∧ (s.setSlot q a b l).retained = s.retained ∧ (s.setSlot q a b l).log = s.log ∧ (s.setSlot q a b l).queues = s.queues ∧ (s.setSlot q a b l).bulk = s.bulk ∧ (s.setSlot q a b l).handovers = s.handovers ∧ (s.setSlot q a b l).ifcOn = s.ifcOn ∧ (s.setSlot q a b l).dbgOn = s.dbgOn ∧ (s.setSlot q a b l).eyeResp = s.eyeResp ∧ (s.setSlot q a b l).claims = s.claims ∧ (s.setSlot q a b l).evmask = s.evmask ∧ (s.setSlot q a b l).bulkWaiting = s.bulkWaiting ∧ (s.setSlot q a b l).scrubWord = s.scrubWord ∧ (s.setSlot q a b l).flows = s.flows ∧ (s.setSlot q a b l).stampCount = s.stampCount ∧ (s.setSlot q a b l).verniers = s.verniers ∧ (s.setSlot q a b l).pps = s.pps ∧ (s.setSlot q a b l).timers = s.timers ∧ (s.setSlot q a b l).watchdogs = s.watchdogs ∧ (s.setSlot q a b l).trackers = s.trackers ∧ (s.setSlot q a b l).phaseTargets = s.phaseTargets ∧ (s.setSlot q a b l).ephHold = s.ephHold ∧ (s.setSlot q a b l).eyeData = s.eyeData ∧ (s.setSlot q a b l).failed = s.failed ∧ (s.setSlot q a b l).gprs = s.gprs ∧ (s.setSlot q a b l).banks = s.banks ∧ (s.setSlot q a b l).lens = s.lens ∧ (s.setSlot q a b l).wcs = s.wcs ∧ (s.setSlot q a b l).engines = s.engines ∧ (s.setSlot q a b l).bootKey = s.bootKey ∧ (s.setSlot q a b l).crossTrigger = s.crossTrigger ∧ (s.setSlot q a b l).vernierHalts = s.vernierHalts ∧ (s.setSlot q a b l).ports = s.ports ∧ (s.setSlot q a b l).residues = s.residues ∧ (s.setSlot q a b l).buckets = s.buckets ∧ (s.setSlot q a b l).groups = s.groups ∧ (s.setSlot q a b l).streams = s.streams ∧ (s.setSlot q a b l).channels = s.channels ∧ (s.setSlot q a b l).power = s.power ∧ (s.setSlot q a b l).security = s.security ∧ (s.setSlot q a b l).chart = s.chart ∧ (s.setSlot q a b l).assistant = s.assistant ∧ (s.setSlot q a b l).links = s.links ∧ (s.setSlot q a b l).constellation = s.constellation ∧ (s.setSlot q a b l).eyepiece = s.eyepiece ∧ (s.setSlot q a b l).jobs = s.jobs ∧ (s.setSlot q a b l).tick = s.tick := by
  refine ⟨rfl, rfl, rfl, rfl, rfl, rfl, rfl, rfl, rfl, rfl, rfl, rfl, rfl, rfl, rfl, rfl, rfl, rfl, rfl, rfl, rfl, rfl, rfl, rfl, rfl, rfl, rfl, rfl, rfl, rfl, rfl, rfl, rfl, rfl, rfl, rfl, rfl, rfl, rfl, rfl, rfl, rfl, rfl, rfl, rfl, rfl, rfl, rfl, rfl, rfl, rfl, rfl, rfl, rfl, rfl, rfl, rfl, rfl⟩

@[simp] theorem State.putBulk_fields (s : State) (t) (b) :
    (s.putBulk t b).pending = s.pending ∧ (s.putBulk t b).freeUsed = s.freeUsed ∧ (s.putBulk t b).regs = s.regs ∧ (s.putBulk t b).mem = s.mem ∧ (s.putBulk t b).ecc = s.ecc ∧ (s.putBulk t b).host = s.host ∧ (s.putBulk t b).handoff = s.handoff ∧ (s.putBulk t b).rgl = s.rgl ∧ (s.putBulk t b).stamps = s.stamps ∧ (s.putBulk t b).alarms = s.alarms ∧ (s.putBulk t b).lines = s.lines ∧ (s.putBulk t b).deliveries = s.deliveries ∧ (s.putBulk t b).asst = s.asst ∧ (s.putBulk t b).retained = s.retained ∧ (s.putBulk t b).log = s.log ∧ (s.putBulk t b).queues = s.queues ∧ (s.putBulk t b).handovers = s.handovers ∧ (s.putBulk t b).ifcOn = s.ifcOn ∧ (s.putBulk t b).dbgOn = s.dbgOn ∧ (s.putBulk t b).eyeResp = s.eyeResp ∧ (s.putBulk t b).claims = s.claims ∧ (s.putBulk t b).evmask = s.evmask ∧ (s.putBulk t b).bulkWaiting = s.bulkWaiting ∧ (s.putBulk t b).scrubWord = s.scrubWord ∧ (s.putBulk t b).flows = s.flows ∧ (s.putBulk t b).stampCount = s.stampCount ∧ (s.putBulk t b).verniers = s.verniers ∧ (s.putBulk t b).pps = s.pps ∧ (s.putBulk t b).timers = s.timers ∧ (s.putBulk t b).watchdogs = s.watchdogs ∧ (s.putBulk t b).trackers = s.trackers ∧ (s.putBulk t b).phaseTargets = s.phaseTargets ∧ (s.putBulk t b).ephHold = s.ephHold ∧ (s.putBulk t b).eyeData = s.eyeData ∧ (s.putBulk t b).failed = s.failed ∧ (s.putBulk t b).gprs = s.gprs ∧ (s.putBulk t b).banks = s.banks ∧ (s.putBulk t b).lens = s.lens ∧ (s.putBulk t b).wcs = s.wcs ∧ (s.putBulk t b).engines = s.engines ∧ (s.putBulk t b).bootKey = s.bootKey ∧ (s.putBulk t b).crossTrigger = s.crossTrigger ∧ (s.putBulk t b).vernierHalts = s.vernierHalts ∧ (s.putBulk t b).ports = s.ports ∧ (s.putBulk t b).residues = s.residues ∧ (s.putBulk t b).buckets = s.buckets ∧ (s.putBulk t b).groups = s.groups ∧ (s.putBulk t b).streams = s.streams ∧ (s.putBulk t b).channels = s.channels ∧ (s.putBulk t b).power = s.power ∧ (s.putBulk t b).security = s.security ∧ (s.putBulk t b).chart = s.chart ∧ (s.putBulk t b).assistant = s.assistant ∧ (s.putBulk t b).links = s.links ∧ (s.putBulk t b).constellation = s.constellation ∧ (s.putBulk t b).eyepiece = s.eyepiece ∧ (s.putBulk t b).jobs = s.jobs ∧ (s.putBulk t b).tick = s.tick := by
  refine ⟨rfl, rfl, rfl, rfl, rfl, rfl, rfl, rfl, rfl, rfl, rfl, rfl, rfl, rfl, rfl, rfl, rfl, rfl, rfl, rfl, rfl, rfl, rfl, rfl, rfl, rfl, rfl, rfl, rfl, rfl, rfl, rfl, rfl, rfl, rfl, rfl, rfl, rfl, rfl, rfl, rfl, rfl, rfl, rfl, rfl, rfl, rfl, rfl, rfl, rfl, rfl, rfl, rfl, rfl, rfl, rfl, rfl, rfl⟩

@[simp] theorem State.fresh_fields (s : State) (n) :
    (s.fresh n).2.pending = s.pending ∧ (s.fresh n).2.regs = s.regs ∧ (s.fresh n).2.mem = s.mem ∧ (s.fresh n).2.ecc = s.ecc ∧ (s.fresh n).2.host = s.host ∧ (s.fresh n).2.handoff = s.handoff ∧ (s.fresh n).2.rgl = s.rgl ∧ (s.fresh n).2.stamps = s.stamps ∧ (s.fresh n).2.alarms = s.alarms ∧ (s.fresh n).2.lines = s.lines ∧ (s.fresh n).2.deliveries = s.deliveries ∧ (s.fresh n).2.asst = s.asst ∧ (s.fresh n).2.retained = s.retained ∧ (s.fresh n).2.log = s.log ∧ (s.fresh n).2.queues = s.queues ∧ (s.fresh n).2.bulk = s.bulk ∧ (s.fresh n).2.handovers = s.handovers ∧ (s.fresh n).2.ifcOn = s.ifcOn ∧ (s.fresh n).2.dbgOn = s.dbgOn ∧ (s.fresh n).2.eyeResp = s.eyeResp ∧ (s.fresh n).2.claims = s.claims ∧ (s.fresh n).2.evmask = s.evmask ∧ (s.fresh n).2.bulkWaiting = s.bulkWaiting ∧ (s.fresh n).2.scrubWord = s.scrubWord ∧ (s.fresh n).2.flows = s.flows ∧ (s.fresh n).2.stampCount = s.stampCount ∧ (s.fresh n).2.verniers = s.verniers ∧ (s.fresh n).2.pps = s.pps ∧ (s.fresh n).2.timers = s.timers ∧ (s.fresh n).2.watchdogs = s.watchdogs ∧ (s.fresh n).2.trackers = s.trackers ∧ (s.fresh n).2.phaseTargets = s.phaseTargets ∧ (s.fresh n).2.ephHold = s.ephHold ∧ (s.fresh n).2.eyeData = s.eyeData ∧ (s.fresh n).2.failed = s.failed ∧ (s.fresh n).2.gprs = s.gprs ∧ (s.fresh n).2.banks = s.banks ∧ (s.fresh n).2.lens = s.lens ∧ (s.fresh n).2.wcs = s.wcs ∧ (s.fresh n).2.engines = s.engines ∧ (s.fresh n).2.bootKey = s.bootKey ∧ (s.fresh n).2.crossTrigger = s.crossTrigger ∧ (s.fresh n).2.vernierHalts = s.vernierHalts ∧ (s.fresh n).2.ports = s.ports ∧ (s.fresh n).2.residues = s.residues ∧ (s.fresh n).2.buckets = s.buckets ∧ (s.fresh n).2.groups = s.groups ∧ (s.fresh n).2.streams = s.streams ∧ (s.fresh n).2.channels = s.channels ∧ (s.fresh n).2.power = s.power ∧ (s.fresh n).2.security = s.security ∧ (s.fresh n).2.chart = s.chart ∧ (s.fresh n).2.assistant = s.assistant ∧ (s.fresh n).2.links = s.links ∧ (s.fresh n).2.constellation = s.constellation ∧ (s.fresh n).2.eyepiece = s.eyepiece ∧ (s.fresh n).2.jobs = s.jobs ∧ (s.fresh n).2.tick = s.tick := by
  refine ⟨rfl, rfl, rfl, rfl, rfl, rfl, rfl, rfl, rfl, rfl, rfl, rfl, rfl, rfl, rfl, rfl, rfl, rfl, rfl, rfl, rfl, rfl, rfl, rfl, rfl, rfl, rfl, rfl, rfl, rfl, rfl, rfl, rfl, rfl, rfl, rfl, rfl, rfl, rfl, rfl, rfl, rfl, rfl, rfl, rfl, rfl, rfl, rfl, rfl, rfl, rfl, rfl, rfl, rfl, rfl, rfl, rfl, rfl⟩

@[simp] theorem State.respond_fields (s : State) (o) (r) :
    (s.respond o r).pending = s.pending ∧ (s.respond o r).freeUsed = s.freeUsed ∧ (s.respond o r).regs = s.regs ∧ (s.respond o r).mem = s.mem ∧ (s.respond o r).ecc = s.ecc ∧ (s.respond o r).handoff = s.handoff ∧ (s.respond o r).rgl = s.rgl ∧ (s.respond o r).stamps = s.stamps ∧ (s.respond o r).alarms = s.alarms ∧ (s.respond o r).lines = s.lines ∧ (s.respond o r).deliveries = s.deliveries ∧ (s.respond o r).asst = s.asst ∧ (s.respond o r).retained = s.retained ∧ (s.respond o r).log = s.log ∧ (s.respond o r).queues = s.queues ∧ (s.respond o r).bulk = s.bulk ∧ (s.respond o r).handovers = s.handovers ∧ (s.respond o r).ifcOn = s.ifcOn ∧ (s.respond o r).dbgOn = s.dbgOn ∧ (s.respond o r).claims = s.claims ∧ (s.respond o r).evmask = s.evmask ∧ (s.respond o r).bulkWaiting = s.bulkWaiting ∧ (s.respond o r).scrubWord = s.scrubWord ∧ (s.respond o r).flows = s.flows ∧ (s.respond o r).stampCount = s.stampCount ∧ (s.respond o r).verniers = s.verniers ∧ (s.respond o r).pps = s.pps ∧ (s.respond o r).timers = s.timers ∧ (s.respond o r).watchdogs = s.watchdogs ∧ (s.respond o r).trackers = s.trackers ∧ (s.respond o r).phaseTargets = s.phaseTargets ∧ (s.respond o r).ephHold = s.ephHold ∧ (s.respond o r).eyeData = s.eyeData ∧ (s.respond o r).failed = s.failed ∧ (s.respond o r).gprs = s.gprs ∧ (s.respond o r).banks = s.banks ∧ (s.respond o r).lens = s.lens ∧ (s.respond o r).wcs = s.wcs ∧ (s.respond o r).engines = s.engines ∧ (s.respond o r).bootKey = s.bootKey ∧ (s.respond o r).crossTrigger = s.crossTrigger ∧ (s.respond o r).vernierHalts = s.vernierHalts ∧ (s.respond o r).ports = s.ports ∧ (s.respond o r).residues = s.residues ∧ (s.respond o r).buckets = s.buckets ∧ (s.respond o r).groups = s.groups ∧ (s.respond o r).streams = s.streams ∧ (s.respond o r).channels = s.channels ∧ (s.respond o r).power = s.power ∧ (s.respond o r).security = s.security ∧ (s.respond o r).chart = s.chart ∧ (s.respond o r).assistant = s.assistant ∧ (s.respond o r).links = s.links ∧ (s.respond o r).constellation = s.constellation ∧ (s.respond o r).eyepiece = s.eyepiece ∧ (s.respond o r).jobs = s.jobs ∧ (s.respond o r).tick = s.tick := by
  cases o <;> exact ⟨rfl, rfl, rfl, rfl, rfl, rfl, rfl, rfl, rfl, rfl, rfl, rfl, rfl, rfl, rfl, rfl, rfl, rfl, rfl, rfl, rfl, rfl, rfl, rfl, rfl, rfl, rfl, rfl, rfl, rfl, rfl, rfl, rfl, rfl, rfl, rfl, rfl, rfl, rfl, rfl, rfl, rfl, rfl, rfl, rfl, rfl, rfl, rfl, rfl, rfl, rfl, rfl, rfl, rfl, rfl, rfl, rfl⟩

@[simp] theorem State.answer_fields (s : State) (o) (r) (v) :
    (s.answer o r v).pending = s.pending ∧ (s.answer o r v).freeUsed = s.freeUsed ∧ (s.answer o r v).regs = s.regs ∧ (s.answer o r v).mem = s.mem ∧ (s.answer o r v).ecc = s.ecc ∧ (s.answer o r v).handoff = s.handoff ∧ (s.answer o r v).rgl = s.rgl ∧ (s.answer o r v).stamps = s.stamps ∧ (s.answer o r v).alarms = s.alarms ∧ (s.answer o r v).lines = s.lines ∧ (s.answer o r v).deliveries = s.deliveries ∧ (s.answer o r v).asst = s.asst ∧ (s.answer o r v).retained = s.retained ∧ (s.answer o r v).log = s.log ∧ (s.answer o r v).queues = s.queues ∧ (s.answer o r v).bulk = s.bulk ∧ (s.answer o r v).handovers = s.handovers ∧ (s.answer o r v).ifcOn = s.ifcOn ∧ (s.answer o r v).dbgOn = s.dbgOn ∧ (s.answer o r v).claims = s.claims ∧ (s.answer o r v).evmask = s.evmask ∧ (s.answer o r v).bulkWaiting = s.bulkWaiting ∧ (s.answer o r v).scrubWord = s.scrubWord ∧ (s.answer o r v).flows = s.flows ∧ (s.answer o r v).stampCount = s.stampCount ∧ (s.answer o r v).verniers = s.verniers ∧ (s.answer o r v).pps = s.pps ∧ (s.answer o r v).timers = s.timers ∧ (s.answer o r v).watchdogs = s.watchdogs ∧ (s.answer o r v).trackers = s.trackers ∧ (s.answer o r v).phaseTargets = s.phaseTargets ∧ (s.answer o r v).ephHold = s.ephHold ∧ (s.answer o r v).failed = s.failed ∧ (s.answer o r v).gprs = s.gprs ∧ (s.answer o r v).banks = s.banks ∧ (s.answer o r v).lens = s.lens ∧ (s.answer o r v).wcs = s.wcs ∧ (s.answer o r v).engines = s.engines ∧ (s.answer o r v).bootKey = s.bootKey ∧ (s.answer o r v).crossTrigger = s.crossTrigger ∧ (s.answer o r v).vernierHalts = s.vernierHalts ∧ (s.answer o r v).ports = s.ports ∧ (s.answer o r v).residues = s.residues ∧ (s.answer o r v).buckets = s.buckets ∧ (s.answer o r v).groups = s.groups ∧ (s.answer o r v).streams = s.streams ∧ (s.answer o r v).channels = s.channels ∧ (s.answer o r v).power = s.power ∧ (s.answer o r v).security = s.security ∧ (s.answer o r v).chart = s.chart ∧ (s.answer o r v).assistant = s.assistant ∧ (s.answer o r v).links = s.links ∧ (s.answer o r v).constellation = s.constellation ∧ (s.answer o r v).eyepiece = s.eyepiece ∧ (s.answer o r v).jobs = s.jobs ∧ (s.answer o r v).tick = s.tick := by
  cases o <;> exact ⟨rfl, rfl, rfl, rfl, rfl, rfl, rfl, rfl, rfl, rfl, rfl, rfl, rfl, rfl, rfl, rfl, rfl, rfl, rfl, rfl, rfl, rfl, rfl, rfl, rfl, rfl, rfl, rfl, rfl, rfl, rfl, rfl, rfl, rfl, rfl, rfl, rfl, rfl, rfl, rfl, rfl, rfl, rfl, rfl, rfl, rfl, rfl, rfl, rfl, rfl, rfl, rfl, rfl, rfl, rfl, rfl⟩

/-! ## Reads after writes -/

/-- A register reads what was written to it, and any other register what it read before. -/
theorem State.reg_setReg (s : State) (k j : Nat) (v : Word) : (s.setReg k v).reg j = if j = k then v else s.reg j :=
  tget_tset _ _ _ _ _

@[simp] theorem State.reg_setReg_same (s : State) (k : Nat) (v : Word) : (s.setReg k v).reg k = v := by simp [State.reg_setReg]

theorem State.reg_setReg_other (s : State) (k j : Nat) (v : Word) (h : j ≠ k) : (s.setReg k v).reg j = s.reg j := by
  simp [State.reg_setReg, h]

theorem State.reg_put (s : State) (f : BitRange) (v j : Nat) :
    (s.put f v).reg j = if j = f.key then fieldSet (s.reg f.key) f.hi f.lo v else s.reg j := State.reg_setReg _ _ _ _

theorem State.reg_put_other (s : State) (f : BitRange) (v j : Nat) (h : j ≠ f.key) : (s.put f v).reg j = s.reg j := by
  simp [State.reg_put, h]

/-- A field reads what was written to it, within its width. -/
theorem State.get_put_same (s : State) (f : BitRange) (v : Nat) (h : f.hi < 32) : (s.put f v).get f = v % 2 ^ (f.hi + 1 - f.lo) := by
  simp [State.get, State.put, fieldOf_fieldSet _ _ _ _ h]

/-- A field of another register, or other bits of the same one, do not change with a write. -/
theorem State.get_put_other (s : State) (f g : BitRange) (v : Nat) (h : g.key ≠ f.key ∨ g.hi < f.lo ∨ f.hi < g.lo) :
    (s.put f v).get g = s.get g := by
  by_cases hk : g.key = f.key
  · rcases h with h | h
    · exact absurd hk h
    · simp [State.get, State.reg_put, hk, fieldOf_fieldSet_other _ _ _ _ _ _ h]
  · simp [State.get, State.reg_put, hk]

theorem State.get_setReg_other (s : State) (k : Nat) (v : Word) (g : BitRange) (h : g.key ≠ k) : (s.setReg k v).get g = s.get g := by
  simp [State.get, State.reg_setReg, h]

theorem State.reg_of_regs {s t : State} (h : t.regs = s.regs) (k : Nat) : t.reg k = s.reg k := by unfold State.reg; rw [h]

theorem State.get_of_regs {s t : State} (h : t.regs = s.regs) (f : BitRange) : t.get f = s.get f := by unfold State.get State.reg; rw [h]

/-- A byte reads what was written to it, and any other byte what it read before. -/
theorem State.byte_setByte (s : State) (a c : Nat) (b : Byte) : (s.setByte a b).byte c = if c = a then b else s.byte c :=
  tget_tset _ _ _ _ _

/-- A byte outside a range that was written reads what it read before. -/
theorem State.byte_setBytes_other (s : State) (a c : Nat) (bs : List Byte) (h : c < a ∨ a + bs.length ≤ c) :
    (s.setBytes a bs).byte c = s.byte c := by
  induction bs generalizing s a with
  | nil => rfl
  | cons b bs ih =>
    simp only [List.length_cons] at h
    rw [State.setBytes, ih _ _ (by omega), State.byte_setByte, if_neg (by omega)]

/-- A range reads the bytes that were written to it. -/
theorem State.bytes_setBytes (s : State) (a : Nat) (bs : List Byte) : (s.setBytes a bs).bytes a bs.length = bs := by
  induction bs generalizing s a with
  | nil => rfl
  | cons b bs ih =>
    simp only [State.setBytes, List.length_cons, State.bytes]
    rw [State.byte_setBytes_other _ _ _ _ (Or.inl (Nat.lt_succ_self a)), State.byte_setByte, if_pos rfl, ih]

@[simp] theorem State.eng_setEng_same (s : State) (k : Nat) (x) : (s.setEng k x).eng k = x := by
  unfold State.eng State.setEng; rw [tget_tset]; simp

theorem State.eng_setEng_other (s : State) (k j : Nat) (x) (h : j ≠ k) : (s.setEng k x).eng j = s.eng j := by
  unfold State.eng State.setEng; rw [tget_tset]; simp [h]

@[simp] theorem State.vernier_setVernier_same (s : State) (k : Nat) (x) : (s.setVernier k x).vernier k = x := by
  unfold State.vernier State.setVernier; rw [tget_tset]; simp

theorem State.vernier_setVernier_other (s : State) (k j : Nat) (x) (h : j ≠ k) : (s.setVernier k x).vernier j = s.vernier j := by
  unfold State.vernier State.setVernier; rw [tget_tset]; simp [h]

@[simp] theorem State.queue_setQueue_same (s : State) (k : Nat) (x) : (s.setQueue k x).queue k = x := by
  unfold State.queue State.setQueue; rw [tget_tset]; simp

theorem State.queue_setQueue_other (s : State) (k j : Nat) (x) (h : j ≠ k) : (s.setQueue k x).queue j = s.queue j := by
  unfold State.queue State.setQueue; rw [tget_tset]; simp [h]

end Sys2Proof.Machine
end

