-- ==== Sys2Proof/Laws/Engine.lean ====
section
/-! SUPPORT. What an unhindered microword does, said once: reads after writes of an engine's tables, an engine that no comparator
watches, the end of a microword, and the words it writes. -/

namespace Sys2Proof.Machine

set_option Elab.async false

/-! ## Reads after writes of an engine's tables -/

theorem State.eng_setEng (s : State) (e j : Nat) (x : Engine) : (s.setEng e x).eng j = if j = e then x else s.eng j := tget_tset _ _ _ _ _

/-- A bank reads what was written to it; the five banks of the engines are apart. -/
theorem State.bank_setBank (s : State) (e l e' l' : Nat) (x : Bank) (h : l < 5) (h' : l' < 5) :
    (s.setBank e l x).bank e' l' = if e' = e ∧ l' = l then x else s.bank e' l' := by
  unfold State.bank State.setBank
  rw [tget_tset]
  by_cases c : e' = e ∧ l' = l
  · simp [c]
  · rw [if_neg c, if_neg (by omega)]

@[simp] theorem State.bank_setBank_same (s : State) (e l : Nat) (x : Bank) : (s.setBank e l x).bank e l = x := by
  unfold State.bank State.setBank; rw [tget_tset]; simp

theorem State.gpr_setGpr (s : State) (e l i e' l' i' : Nat) (v : Word) (h : l < 5) (h' : l' < 5) (hi : i < 16) (hi' : i' < 16) :
    (s.setGpr e l i v).gpr e' l' i' = if e' = e ∧ l' = l ∧ i' = i then v else s.gpr e' l' i' := by
  unfold State.gpr State.setGpr
  rw [tget_tset]
  by_cases c : e' = e ∧ l' = l ∧ i' = i
  · simp [c]
  · rw [if_neg c, if_neg (by omega)]

@[simp] theorem State.gpr_setGpr_same (s : State) (e l i : Nat) (v : Word) : (s.setGpr e l i v).gpr e l i = v := by
  unfold State.gpr State.setGpr; rw [tget_tset]; simp

theorem State.lensReg_setLensReg (s : State) (e j e' j' : Nat) (v : DWord) :
    (s.setLensReg e j v).lensReg e' j' = if e' = e ∧ j' % 8 = j % 8 then v else s.lensReg e' j' := by
  unfold State.lensReg State.setLensReg
  rw [tget_tset]
  by_cases c : e' = e ∧ j' % 8 = j % 8
  · simp [c]
  · rw [if_neg c, if_neg (by omega)]

/-! ## An engine that nobody watches -/

/-- No debug comparator of engine e is set to a kind of happening (19 R911). -/
def State.unwatched (s : State) (e : Nat) : Prop := ∀ k < 8, s.get (ENG_DCMP_CTL.KIND e k) = 0

theorem State.happening_unwatched (s : State) (e : Nat) (kinds : List Nat) (hit : Word → Word → Bool) (h : s.unwatched e)
    (hk : 0 ∉ kinds) : s.happening e kinds hit = s := by
  have : (List.range 8).filter (fun k => s.dcmpFires e k kinds hit) = [] := by
    rw [List.filter_eq_nil_iff]
    intro k hk'
    have := h k (List.mem_range.mp hk')
    simp [State.dcmpFires, this, hk]
  simp [State.happening, this, State.fireEach]

theorem State.sawRead_unwatched (s : State) (e a n : Nat) (h : s.unwatched e) : s.sawRead e a n = s :=
  s.happening_unwatched e _ _ h (by decide)

theorem State.sawWrite_unwatched (s : State) (e a n : Nat) (h : s.unwatched e) : s.sawWrite e a n = s :=
  s.happening_unwatched e _ _ h (by decide)

theorem State.sawDsts_unwatched (s : State) (e c : Nat) (vs : List Word) (h : s.unwatched e) : s.sawDsts e c vs = s := by
  induction vs generalizing c with
  | nil => rfl
  | cons v vs ih => simp [State.sawDsts, State.sawDst, s.happening_unwatched e _ _ h, ih]

theorem State.unwatched_of_regs {s t : State} (e : Nat) (h : t.regs = s.regs) (u : s.unwatched e) : t.unwatched e :=
  fun k hk => (State.get_of_regs h _).trans (u k hk)

/-! ## The microword begins -/

theorem State.Quiet.noHalt {s : State} {e : Nat} (h : s.Quiet e) : s.haltDue e = false := by
  have := h.ready; simp [State.ready] at this; simp [this]

theorem State.Quiet.microBegins {s : State} {e : Nat} (h : s.Quiet e) : s.microBegins e (s.upc e) (s.micro e) = s := by
  unfold State.microBegins
  split
  · rfl
  · rw [s.happening_unwatched e _ _ h.noWatch (by simp)]; simp [h.noTag]

/-- An unhindered microword takes effect, or works its first element. -/
theorem State.Unhindered.runWord {s : State} {e : Nat} (h : s.Unhindered e) :
    s.runWord e = if (s.micro e).resumable then s.runElement (s.here e) else s.complete s (s.here e) := by
  have judged : s.judge (s.here e) = s.advance (s.here e) := by unfold State.judge; rw [h.noCause]
  have goes : s.advance (s.here e) = if (s.here e).w.resumable then s.runElement (s.here e) else s.complete s (s.here e) := by
    unfold State.advance; rw [if_neg (by rw [h.noStall]; exact Bool.false_ne_true)]
  unfold State.runWord
  rw [if_neg (by rw [h.begins]; exact Bool.false_ne_true), if_neg (not_not_intro h.parity)]
  simp only [h.microBegins, h.noHalt, Bool.false_eq_true, if_false]
  exact judged.trans goes

/-- A microword row runs the microword that holds its operation. -/
theorem State.microRow_run {s : State} {e : Nat} (h : s.Quiet e) (p : Micro → Bool) (hp : p (s.micro e) = true) :
    s.microRow e p = s.runWord e := by simp [State.microRow, h.ready, hp]

theorem State.level_lt (s : State) (e : Nat) : s.level e < 5 := Nat.lt_succ_of_le (Nat.min_le_left _ _)


/-! ## The end of a microword -/

theorem State.put_upc (s : State) (e n : Nat) : (s.put (ENG_UPC.UPC e) n).upc e = n % 8192 := s.get_put_same (ENG_UPC.UPC e) n (by simp [ENG_UPC.UPC])

theorem State.eng_of_engines {s t : State} (h : t.engines = s.engines) (e : Nat) : t.eng e = s.eng e := by unfold State.eng; rw [h]

theorem State.goOn_eq (t pre : State) (x : Args) (next : Nat) (h4 : x.w.seq ≠ 9) (h5 : x.w.seq ≠ 0xA) :
    ∃ z, t.goOn pre x next = (t.setEng x.e z).put (ENG_UPC.UPC x.e) next ∧ z.stepping = (t.eng x.e).stepping := by
  refine ⟨{ t.eng x.e with conds := (pre.lastInputs x.e x.l).1, condR15 := (pre.lastInputs x.e x.l).2, released := false }, ?_, rfl⟩
  simp [State.goOn, h4, h5]

theorem State.boundary_eq (t : State) (e : Nat) (h2 : (t.eng e).capWrites = []) :
    ∃ y, t.boundary e = t.setEng e y ∧ y.stepping = (t.eng e).stepping :=
  ⟨{ t.eng e with capWrites := [] }, by simp [State.boundary, h2, State.putCaps], rfl⟩

/-- The end of a microword that is no return, of an engine that does not step: the engine's own record changes, and ENG_UPC takes
the next address. -/
theorem State.finishMicro_quiet (t pre : State) (x : Args) (next : Nat) (h1 : t.on (ENG_STAT.STALL x.e) = false)
    (h2 : (t.eng x.e).capWrites = []) (h3 : (t.eng x.e).stepping = false) (h4 : x.w.seq ≠ 9) (h5 : x.w.seq ≠ 0xA) :
    ∃ y z, t.finishMicro pre x next = ((t.setEng x.e y).setEng x.e z).put (ENG_UPC.UPC x.e) next := by
  obtain ⟨y, hy, ey⟩ := t.boundary_eq x.e h2
  obtain ⟨z, hz, ez⟩ := (t.setEng x.e y).goOn_eq pre x next h4 h5
  refine ⟨y, z, ?_⟩
  have e1 : (((t.setEng x.e y).setEng x.e z).put (ENG_UPC.UPC x.e) next).eng x.e = z := State.eng_setEng_same _ _ _
  have e2 : z.stepping = false := by rw [ez, State.eng_setEng_same, ey, h3]
  have hu : t.unstall x.e = t := by simp [State.unstall, h1]
  unfold State.finishMicro
  rw [hu, hy, hz]
  exact if_neg (by rw [e1, e2]; simp)

/-- What stays through the end of a microword. -/
theorem State.finishMicro_fields (t pre : State) (x : Args) (next : Nat) (h1 : t.on (ENG_STAT.STALL x.e) = false)
    (h2 : (t.eng x.e).capWrites = []) (h3 : (t.eng x.e).stepping = false) (h4 : x.w.seq ≠ 9) (h5 : x.w.seq ≠ 0xA) :
    let u := t.finishMicro pre x next
    u.upc x.e = next % 8192 ∧ u.gprs = t.gprs ∧ u.banks = t.banks ∧ u.lens = t.lens ∧ u.mem = t.mem ∧
      (∀ k, k ≠ ENG_UPC x.e → u.reg k = t.reg k) := by
  obtain ⟨y, z, h⟩ := t.finishMicro_quiet pre x next h1 h2 h3 h4 h5
  simp only [h]
  refine ⟨State.put_upc _ _ _, rfl, rfl, rfl, rfl, fun k hk => ?_⟩
  rw [State.reg_put_other _ _ _ _ (by simpa [ENG_UPC.UPC] using hk)]
  rfl

/-! ## What a microword writes beside its field operations -/

/-- Only the engines' registers differ. -/
def State.engineOnly (s t : State) : Prop := ∃ g b n, t = { s with gprs := g, banks := b, lens := n }

theorem State.engineOnly_refl (s : State) : s.engineOnly s := ⟨_, _, _, rfl⟩

theorem State.engineOnly_trans {s t u : State} (h : s.engineOnly t) (k : t.engineOnly u) : s.engineOnly u := by
  obtain ⟨_, _, _, rfl⟩ := h
  obtain ⟨_, _, _, rfl⟩ := k
  exact ⟨_, _, _, rfl⟩

theorem State.putDst_only (s : State) (e l code : Nat) (v : Word) : s.engineOnly (s.putDst e l code v) := by
  unfold State.putDst
  split
  · exact ⟨_, _, _, rfl⟩
  · split
    · exact ⟨_, _, _, rfl⟩
    · split <;> exact ⟨_, _, _, rfl⟩

theorem State.putDsts_only (s : State) (e l code : Nat) (vs : List Word) : s.engineOnly (s.putDsts e l code vs) := by
  induction vs generalizing s code with
  | nil => exact s.engineOnly_refl
  | cons v vs ih => exact State.engineOnly_trans (s.putDst_only e l code v) (ih _ _)

theorem State.engineOnly_regs {s t : State} (h : s.engineOnly t) : t.regs = s.regs := by obtain ⟨_, _, _, rfl⟩ := h; rfl
theorem State.engineOnly_engines {s t : State} (h : s.engineOnly t) : t.engines = s.engines := by obtain ⟨_, _, _, rfl⟩ := h; rfl

/-- The state of an engine's run control and debugger after the field operations of a microword is what it was. -/
structure State.Calm (s t : State) (e : Nat) : Prop where
  stat : t.reg (ENG_STAT e) = s.reg (ENG_STAT e)
  eng : t.eng e = s.eng e
  watch : t.unwatched e

theorem State.Calm.of {s t : State} {e : Nat} (h : s.unwatched e) (h1 : t.regs = s.regs) (h2 : t.engines = s.engines) : s.Calm t e :=
  ⟨State.reg_of_regs h1 _, State.eng_of_engines h2 _, State.unwatched_of_regs e h1 h⟩

/-- The condition codes of the level after the microword's field operations (05 R249, R255). -/
def State.newCc (pre : State) (x : Args) (o : OpOut) : BitVec 10 :=
  x.w.ccUpdate (aluOut x.w.alu x.a x.b ((pre.bank x.e x.l).cc.getLsbD ccC)) (pre.lensCompare x.e x.w) o.mask o.flags (pre.bank x.e x.l).cc

/-- The words for DST (05 R258). -/
def State.newWords (pre : State) (x : Args) (o : OpOut) : List Word :=
  x.w.dstWords (aluOut x.w.alu x.a x.b ((pre.bank x.e x.l).cc.getLsbD ccC)) o.dst

/-- A Lens register that a load delivers. -/
def State.withLens (s : State) (x : Args) (o : OpOut) : State :=
  match o.lens with
  | some p => s.setLensReg x.e p.1 p.2
  | none => s

/-- The address register written back (05 R260). -/
def State.withAddress (s : State) (x : Args) : State :=
  match writeBack x.w x.a with
  | some v => if plateOp x.w.mem then s.setGpr x.e x.l x.w.asrc v else s
  | none => s

/-- The same registers all together. -/
def State.withResults (s pre : State) (x : Args) (o : OpOut) : State :=
  (((s.setBank x.e x.l { s.bank x.e x.l with cc := pre.newCc x o }).putDsts x.e x.l x.w.dst (pre.newWords x o)).withLens x o).withAddress x

/-- DST, the address register and the condition codes after a microword without a Lens operation; beside them only ENG_LENS.OWN
is written. -/
theorem State.writeResults_eq (s pre : State) (x : Args) (o : OpOut) (hw : s.unwatched x.e) (hl : x.w.lens = 0) :
    s.writeResults pre x o =
      if x.w.touches && x.l != 4 then (s.withResults pre x o).put (ENG_LENS.OWN x.e) x.l else s.withResults pre x o := by
  unfold State.writeResults State.withResults State.withAddress State.withLens State.newCc State.newWords
  simp only [hl, true_or, if_true]
  generalize ht : State.putDsts _ x.e x.l x.w.dst _ = t1
  have h1 : t1.unwatched x.e := by
    subst ht
    exact State.unwatched_of_regs x.e (State.engineOnly_regs (State.putDsts_only _ x.e x.l x.w.dst _)) hw
  simp only [State.sawDsts_unwatched _ _ _ _ h1]
  cases o.lens with
  | none => rfl
  | some p =>
    have := State.happening_unwatched (t1.setLensReg x.e p.1 p.2) x.e [5]
      (fun a b => (loWord p.2 ^^^ a) &&& b == 0 || (hiWord p.2 ^^^ a) &&& b == 0) (State.unwatched_of_regs x.e (by rfl) h1) (by decide)
    simp only [this] <;> rfl

theorem State.withLens_only (s : State) (x : Args) (o : OpOut) : s.engineOnly (s.withLens x o) := by
  unfold State.withLens
  split
  · exact ⟨_, _, _, rfl⟩
  · exact s.engineOnly_refl

theorem State.withAddress_only (s : State) (x : Args) : s.engineOnly (s.withAddress x) := by
  unfold State.withAddress
  split
  · split
    · exact ⟨_, _, _, rfl⟩
    · exact s.engineOnly_refl
  · exact s.engineOnly_refl

theorem State.withResults_only (s pre : State) (x : Args) (o : OpOut) : s.engineOnly (s.withResults pre x o) :=
  State.engineOnly_trans (State.engineOnly_trans (State.engineOnly_trans ⟨_, _, _, rfl⟩ (State.putDsts_only _ _ _ _ _))
    (State.withLens_only _ x o)) (State.withAddress_only _ x)

/-- Only the banks and the counter of free values differ. -/
def State.bankOnly (s t : State) : Prop := ∃ b n, t = { s with banks := b, freeUsed := n }

theorem State.bankOnly_trans {s t u : State} (h : s.bankOnly t) (k : t.bankOnly u) : s.bankOnly u := by
  obtain ⟨_, _, rfl⟩ := h
  obtain ⟨_, _, rfl⟩ := k
  exact ⟨_, _, rfl⟩

theorem State.pick_only (s : State) (m : Bool) (a b : Nat) : s.bankOnly (s.pick m a b).2 := by
  unfold State.pick; split <;> exact ⟨_, _, rfl⟩

theorem State.seqRegs_only (s pre : State) (x : Args) : s.bankOnly (s.seqRegs pre x) := by
  have h1 : s.bankOnly (if x.w.seq = 2 ∨ x.w.seq = 3 then
      let r := s.pick (x.w.dst == 0x12 && x.w.writesDst) ((x.upc + 1) % 8192) (s.bank x.e x.l).link.toNat
      r.2.setBank x.e x.l { r.2.bank x.e x.l with link := BitVec.ofNat 13 r.1 }
    else s) := by
    split
    · exact State.bankOnly_trans (s.pick_only _ _ _) ⟨_, _, rfl⟩
    · exact ⟨_, _, rfl⟩
  unfold State.seqRegs
  dsimp only at h1 ⊢
  split
  · exact State.bankOnly_trans h1 (State.bankOnly_trans (State.pick_only _ _ _ _) ⟨_, _, rfl⟩)
  · exact h1

theorem State.writeResults_only (s pre : State) (x : Args) (o : OpOut) (hw : s.unwatched x.e) (hl : x.w.lens = 0) :
    ∃ r, s.writeResults pre x o = { s.withResults pre x o with regs := r } ∧
      ∀ k, k ≠ ENG_LENS x.e → (s.writeResults pre x o).reg k = s.reg k := by
  have h0 : (s.withResults pre x o).regs = s.regs := State.engineOnly_regs (s.withResults_only pre x o)
  rw [State.writeResults_eq s pre x o hw hl]
  by_cases c : (x.w.touches && x.l != 4) = true
  · rw [if_pos c]
    refine ⟨_, rfl, fun k hk => ?_⟩
    rw [State.reg_put_other _ _ _ _ (by simpa [ENG_LENS.OWN] using hk)]
    exact State.reg_of_regs h0 k
  · rw [if_neg c]
    exact ⟨_, rfl, fun k _ => State.reg_of_regs h0 k⟩

theorem State.pick_regs (s : State) (r : Table Word) (m : Bool) (a b : Nat) :
    State.pick { s with regs := r } m a b = ((s.pick m a b).1, { (s.pick m a b).2 with regs := r }) := by
  unfold State.pick; split <;> rfl

theorem State.seqRegs_regs (s pre : State) (r : Table Word) (x : Args) :
    State.seqRegs { s with regs := r } pre x = { s.seqRegs pre x with regs := r } := by
  unfold State.seqRegs
  by_cases c : x.w.seq = 2 ∨ x.w.seq = 3 <;> by_cases d : x.w.seq = 7
  · omega
  · simp only [if_pos c, if_neg d]
    rw [show (State.bank { s with regs := r } x.e x.l) = s.bank x.e x.l from rfl, State.pick_regs]
    rfl
  · simp only [if_neg c, if_pos d]
    rw [show (State.bank { s with regs := r } x.e x.l) = s.bank x.e x.l from rfl, State.pick_regs]
    rfl
  · simp only [if_neg c, if_neg d]

/-- What an unhindered microword without a Lens, SAVE or lock operation leaves, when its field operations keep the engine calm: ENG_UPC
is the next address; DST, the condition codes, the link register and the loop counter are as `writeResults` and `seqRegs` say; all
else is as the field operations left it. -/
theorem State.complete_calm (s : State) (e : Nat) (h : s.Quiet e) (hl : (s.micro e).lens = 0) (hk : (s.micro e).lock = 0)
    (hv : (s.micro e).saves = false) (hseq : (s.micro e).seq ≠ 9 ∧ (s.micro e).seq ≠ 0xA) (hecc : (s.fieldOps (s.here e)).ecc = false)
    (hc : s.Calm (s.fieldOps (s.here e)).state e) :
    let x := s.here e
    let o := s.fieldOps x
    let w := o.state.withResults s x o
    let t := s.complete s x
    t.upc e = s.nextAddress x % 8192 ∧ t.gprs = w.gprs ∧ t.banks = (w.seqRegs s x).banks ∧ t.lens = w.lens ∧
      (∀ k, k ≠ ENG_UPC e → k ≠ ENG_LENS e → t.reg k = o.state.reg k) ∧
      ∃ g b n r en f, t = { o.state with gprs := g, banks := b, lens := n, regs := r, engines := en, freeUsed := f } := by
  intro x o w t
  have hx : x.e = e := rfl
  have hxw : x.w = s.micro e := rfl
  obtain ⟨r, hw, hr⟩ := State.writeResults_only o.state s x o hc.watch hl
  obtain ⟨g, b, n, hres⟩ := o.state.withResults_only s x o
  obtain ⟨b', f, hq⟩ := State.seqRegs_only (o.state.writeResults s x o) s x
  have hstat : ((o.state.writeResults s x o).seqRegs s x).reg (ENG_STAT e) = s.reg (ENG_STAT e) := by
    rw [hq]
    show (o.state.writeResults s x o).reg (ENG_STAT e) = _
    rw [hr (ENG_STAT e) (by simp [hx, ENG_STAT, ENG_LENS])]
    exact hc.stat
  have hget (fld : BitRange) (hf : fld.key = ENG_STAT e) : ((o.state.writeResults s x o).seqRegs s x).get fld = s.get fld := by
    simp only [State.get, hf, hstat]
  have heng : ((o.state.writeResults s x o).seqRegs s x).eng e = s.eng e := by
    rw [hq]; show (o.state.writeResults s x o).eng e = _; rw [hw, hres]; exact hc.eng
  have ht : t = ((o.state.writeResults s x o).seqRegs s x).finishMicro s x (s.nextAddress x) := by
    show s.complete s x = _
    unfold State.complete
    have e1 : ((o.state.writeResults s x o).seqRegs s x).saveOut s x = { state := (o.state.writeResults s x o).seqRegs s x } := by
      unfold State.saveOut; simp [hxw, hv]
    have e2 : ((o.state.writeResults s x o).seqRegs s x).lockStep x.e x.l x.w = (false, (o.state.writeResults s x o).seqRegs s x) := by
      have : ((o.state.writeResults s x o).seqRegs s x).lockOpen e = false := by
        unfold State.lockOpen State.on; rw [hget _ rfl]; exact h.unlocked
      unfold State.lockStep; simp [hx, hxw, hk, this]
    simp only [show s.fieldOps x = o from rfl, e1, e2, show o.ecc = false from hecc]
    rfl
  have hfin := State.finishMicro_fields ((o.state.writeResults s x o).seqRegs s x) s x (s.nextAddress x)
    (by unfold State.on; rw [hx, hget _ rfl]; exact h.begins) (by rw [hx, heng]; exact h.noCaps) (by rw [hx, heng]; exact h.noStep) hseq.1 hseq.2
  obtain ⟨y, z, hyz⟩ := State.finishMicro_quiet ((o.state.writeResults s x o).seqRegs s x) s x (s.nextAddress x)
    (by unfold State.on; rw [hx, hget _ rfl]; exact h.begins) (by rw [hx, heng]; exact h.noCaps) (by rw [hx, heng]; exact h.noStep) hseq.1 hseq.2
  rw [← ht] at hfin hyz
  obtain ⟨f1, f2, f3, f4, f5, f6⟩ := hfin
  refine ⟨f1, ?_, ?_, ?_, fun k k1 k2 => ?_, ?_⟩
  · rw [f2, hq, hw]
  · rw [f3, hw, State.seqRegs_regs]
  · rw [f4, hq, hw]
  · rw [f6 k (by rwa [hx]), hq]
    exact hr k (by rwa [hx])
  · rw [hyz, hq, hw, hres]
    exact ⟨_, _, _, _, _, _, rfl⟩

/-! ## Microwords with no other operation than the ALU's and the sequencer's -/

theorem State.fieldOps_datapath (s : State) (x : Args) (h : x.w.datapathOnly = true) : s.fieldOps x = { state := s } := by
  simp only [Micro.datapathOnly, Bool.and_eq_true, beq_iff_eq] at h
  obtain ⟨⟨⟨⟨⟨⟨h1, h2⟩, h3⟩, h4⟩, h5⟩, -⟩, -⟩ := h
  simp [State.fieldOps, State.memOut, State.qopOut, State.timeOut, State.evtOut, State.pinOut5, h1, h2, h3, h4, h5, codeIn]

theorem Micro.resumable_datapath {w : Micro} (h : w.datapathOnly = true) : w.resumable = false := by
  simp only [Micro.datapathOnly, Bool.and_eq_true, beq_iff_eq] at h
  simp [Micro.resumable, blockOp, cordicOp, vectorOp, codeIn, h.1]

theorem Micro.saves_datapath {w : Micro} (h : w.datapathOnly = true) : w.saves = false := by
  simp only [Micro.datapathOnly, Bool.and_eq_true, beq_iff_eq] at h
  simp [Micro.saves, codeIn, h.1]

theorem Micro.dstWords_datapath {w : Micro} (h : w.datapathOnly = true) (alu : AluOut) (r : List Word) : w.dstWords alu r = alu.result.toList := by
  simp only [Micro.datapathOnly, Bool.and_eq_true, beq_iff_eq] at h
  obtain ⟨⟨⟨⟨⟨⟨h1, h2⟩, h3⟩, h4⟩, h5⟩, -⟩, -⟩ := h
  simp [Micro.dstWords, Micro.dstWrites, memDst, qopDst, topDst, evtDst, pinDst, h1, h2, h3, h4, h5, codeIn, bit]

/-- A microword with no other operation than the ALU's and the sequencer's, unhindered: the next state, with DST and the condition
codes written from the ALU, and the link register and the loop counter by the sequencer. -/
theorem State.runWord_datapath (s : State) (e : Nat) (h : s.Unhindered e) (hd : (s.micro e).datapathOnly = true)
    (hseq : (s.micro e).seq ≠ 9 ∧ (s.micro e).seq ≠ 0xA) :
    let x := s.here e
    let alu := aluOut x.w.alu x.a x.b ((s.bank e x.l).cc.getLsbD ccC)
    let u := (s.setBank e x.l { s.bank e x.l with cc := x.w.ccUpdate alu (s.lensCompare e x.w) 0 0 (s.bank e x.l).cc }).putDsts e x.l
      x.w.dst alu.result.toList
    let t := s.runWord e
    t.upc e = s.nextAddress x % 8192 ∧ t.gprs = u.gprs ∧ t.banks = (u.seqRegs s x).banks ∧ t.lens = u.lens ∧
      (∀ k, k ≠ ENG_UPC e → k ≠ ENG_LENS e → t.reg k = s.reg k) ∧
      ∃ g b n r en f, t = { s with gprs := g, banks := b, lens := n, regs := r, engines := en, freeUsed := f } := by
  have hf := s.fieldOps_datapath (s.here e) hd
  have hk := hd
  simp only [Micro.datapathOnly, Bool.and_eq_true, beq_iff_eq] at hk
  have hm : (s.here e).w.mem = 0 := hk.1.1.1.1.1.1
  have hc := s.complete_calm e h.toQuiet hk.1.2 hk.2 (Micro.saves_datapath hd) hseq (by rw [hf]) (by rw [hf]; exact State.Calm.of h.noWatch rfl rfl)
  have hr : s.runWord e = s.complete s (s.here e) := by rw [h.runWord, Micro.resumable_datapath hd]; rfl
  rw [hr]
  dsimp only at hc
  rw [hf] at hc
  have hu : s.withResults s (s.here e) { state := s } = (s.setBank e (s.here e).l { s.bank e (s.here e).l with
      cc := (s.here e).w.ccUpdate (aluOut (s.here e).w.alu (s.here e).a (s.here e).b ((s.bank e (s.here e).l).cc.getLsbD ccC))
        (s.lensCompare e (s.here e).w) 0 0 (s.bank e (s.here e).l).cc }).putDsts e (s.here e).l
      (s.here e).w.dst (aluOut (s.here e).w.alu (s.here e).a (s.here e).b ((s.bank e (s.here e).l).cc.getLsbD ccC)).result.toList := by
    unfold State.withResults State.withAddress State.withLens State.newCc State.newWords
    rw [Micro.dstWords_datapath (w := (s.here e).w) hd]
    simp only [hm]
    simp only [plateOp, codeIn]
    cases writeBack (s.here e).w (s.here e).a <;> rfl
  dsimp only at hc ⊢
  rw [hu] at hc
  exact hc

end Sys2Proof.Machine
end

