-- ==== Sys2Proof/Laws/Keeps.lean ====
section
/-! SUPPORT. What every command keeps: the queue, the free values already taken, the canonical form of memory and registers, and the
parts that it does not touch. One lemma for each function of the model that answers a state; the lemmas stand in the files
Keeps*.lean. -/

namespace Sys2Proof.Machine

set_option Elab.async false

/-- Every part. -/
abbrev AllParts : Part → Prop := fun _ => True

/-- What a command that may change the parts m keeps: from s to t the queue is the same, free values are only used up, memory and
registers stay in their canonical form, and every other part is as it was. -/
structure Keeps (m : Part → Prop) (s t : State) : Prop where
  pending : t.pending = s.pending
  used : s.freeUsed ≤ t.freeUsed
  mem : Memory.wf s.mem = true → Memory.wf t.mem = true
  regs : TableWf resetWord s.regs → TableWf resetWord t.regs
  parts : ∀ p, ¬ m p → p.same s t

/-- The same of what a register's rules make of a write. -/
structure EKeeps (m : Part → Prop) (s : State) (e : Effect) : Prop where
  state : Keeps m s e.state
  after : ∀ u, Keeps m s u → Keeps m s (e.after u)

theorem Part.same_refl (s : State) (p : Part) : p.same s s := by cases p <;> simp only [Part.same, and_self]

theorem Part.same_trans (s t u : State) (p : Part) (h : p.same s t) (k : p.same t u) : p.same s u := by
  cases p <;> simp only [Part.same] at * <;> simp only [k, h, and_self]

theorem Keeps.refl {m : Part → Prop} (s : State) : Keeps m s s := ⟨rfl, Nat.le_refl _, id, id, fun p _ => p.same_refl s⟩

theorem Keeps.mk' {m : Part → Prop} (s0 s t : State) (h : Keeps m s0 s) (h1 : t.pending = s.pending) (h2 : s.freeUsed ≤ t.freeUsed)
    (h3 : Memory.wf s.mem = true → Memory.wf t.mem = true) (h4 : TableWf resetWord s.regs → TableWf resetWord t.regs)
    (h5 : ∀ p, ¬ m p → p.same s t := by
      intro p hp; cases p <;> first | exact absurd (by first | assumption | exact True.intro) hp | (simp only [Part.same, and_self]; done) | (simp only [Part.same]; exact rfl) | exact ⟨rfl, rfl⟩ | exact ⟨rfl, rfl, rfl⟩ | exact ⟨rfl, rfl, rfl, rfl⟩ | exact ⟨rfl, rfl, rfl, rfl, rfl⟩ | exact ⟨rfl, rfl, rfl, rfl, rfl, rfl⟩) :
    Keeps m s0 t :=
  ⟨h1.trans h.pending, Nat.le_trans h.used h2, fun w => h3 (h.mem w), fun w => h4 (h.regs w),
    fun p hp => p.same_trans _ _ _ (h.parts p hp) (h5 p hp)⟩

theorem Keeps.of {m : Part → Prop} (s0 s t : State) (h : Keeps m s0 s) (h1 : t.pending = s.pending) (h2 : t.freeUsed = s.freeUsed)
    (h3 : t.mem = s.mem) (h4 : t.regs = s.regs)
    (h5 : ∀ p, ¬ m p → p.same s t := by
      intro p hp; cases p <;> first | exact absurd (by first | assumption | exact True.intro) hp | (simp only [Part.same, and_self]; done) | (simp only [Part.same]; exact rfl) | exact ⟨rfl, rfl⟩ | exact ⟨rfl, rfl, rfl⟩ | exact ⟨rfl, rfl, rfl, rfl⟩ | exact ⟨rfl, rfl, rfl, rfl, rfl⟩ | exact ⟨rfl, rfl, rfl, rfl, rfl, rfl⟩) :
    Keeps m s0 t :=
  Keeps.mk' s0 s t h h1 (h2 ▸ Nat.le_refl _) (fun w => h3 ▸ w) (fun w => h4 ▸ w) h5

theorem Keeps.ofRegs {m : Part → Prop} (s0 s t : State) (h : Keeps m s0 s) (h1 : t.pending = s.pending) (h2 : t.freeUsed = s.freeUsed)
    (h3 : t.mem = s.mem) (h4 : TableWf resetWord s.regs → TableWf resetWord t.regs)
    (h5 : ∀ p, ¬ m p → p.same s t := by
      intro p hp; cases p <;> first | exact absurd (by first | assumption | exact True.intro) hp | (simp only [Part.same, and_self]; done) | (simp only [Part.same]; exact rfl) | exact ⟨rfl, rfl⟩ | exact ⟨rfl, rfl, rfl⟩ | exact ⟨rfl, rfl, rfl, rfl⟩ | exact ⟨rfl, rfl, rfl, rfl, rfl⟩ | exact ⟨rfl, rfl, rfl, rfl, rfl, rfl⟩) :
    Keeps m s0 t :=
  Keeps.mk' s0 s t h h1 (h2 ▸ Nat.le_refl _) (fun w => h3 ▸ w) h4 h5

theorem Keeps.mono {m k : Part → Prop} {s t : State} (h : Keeps m s t) (hm : ∀ p, m p → k p) : Keeps k s t :=
  ⟨h.pending, h.used, h.mem, h.regs, fun p hp => h.parts p fun hq => hp (hm p hq)⟩

variable {m : Part → Prop}

theorem State.setReg_keeps {s0 : State} (x0 : State) (x1) (x2) (h : Keeps m s0 x0) : Keeps m s0 (x0.setReg x1 x2) :=
  Keeps.ofRegs _ _ _ h rfl rfl rfl fun w => tset_wf _ _ _ _ w

theorem State.fresh_keeps {s0 : State} (x0 : State) (x1) (h : Keeps m s0 x0) : Keeps m s0 (x0.fresh x1).2 :=
  Keeps.mk' _ _ _ h rfl (Nat.le_succ _) id id

theorem State.setByte_keeps {s0 : State} (x0 : State) (x1) (x2) (h : Keeps m s0 x0) (_ : m .plates := by first | assumption | exact True.intro) :
    Keeps m s0 (x0.setByte x1 x2) :=
  Keeps.mk' _ _ _ h rfl (Nat.le_refl _) (fun w => (memory_wf_iff _).mpr (tset_wf _ _ _ _ ((memory_wf_iff _).mp w))) id

theorem State.wipePlates_keeps {s0 : State} (x0 : State) (x1) (x2) (h : Keeps m s0 x0) (_ : m .plates := by first | assumption | exact True.intro)
    (_ : m .ecc := by first | assumption | exact True.intro) : Keeps m s0 (x0.wipePlates x1 x2) :=
  Keeps.mk' _ _ _ h rfl (Nat.le_refl _) (fun w => (memory_wf_iff _).mpr (filter_wf _ _ _ ((memory_wf_iff _).mp w))) id

theorem tmap_wf {α : Type} [DecidableEq α] (d : Nat → α) (f : Nat → α → α) (t : Table α) (h : TableWf d t) : TableWf d (tmap d f t) := by
  refine ⟨List.Pairwise.filter _ (List.pairwise_map.mpr h.1), fun p hp => ?_⟩
  simpa using (List.mem_filter.mp hp).2

theorem Keeps.upd (s0 t : State) (ecc : Table Nat) (host : HostPort) (handoff : Table (List Word)) (rgl : Regulator) (stamps : Table StampPoint) (alarms : Table Alarm) (lines : Table LineState) (deliveries : List Delivery) (asst : List Nat) (retained : Option Retained) (log : Logbook) (queues : Table QueueState) (bulk : Table BulkTag) (handovers : Table Handover) (ifcOn : Bool) (dbgOn : Bool) (eyeResp : Nat) (claims : Table ClaimContext) (evmask : Nat) (bulkWaiting : List BulkTag) (scrubWord : Nat) (flows : Table Flow) (stampCount : Nat) (verniers : Table Vernier) (pps : Pps) (timers : Table Timer) (watchdogs : Table Watchdog) (trackers : Table Tracker) (phaseTargets : Table PhaseTarget) (ephHold : Word) (eyeData : Word) (failed : Table (List BulkTag)) (gprs : Table Word) (banks : Table Bank) (lens : Table DWord) (wcs : Table StoreWord) (engines : Table Engine) (bootKey : BitVec 128) (crossTrigger : Bool) (vernierHalts : Nat) (ports : Table FramePort) (residues : Table (List Residue)) (buckets : Table Nat) (groups : Table RedundancyGroup) (streams : Table RecoveryStream) (channels : Table OccChannel) (power : Power) (security : Security) (chart : Chart) (assistant : Assistant) (links : Table LinkPort) (constellation : Constellation) (eyepiece : Eyepiece) (jobs : List Waiting) (tick : Tick) (h : Keeps m s0 t) (h_ecc : m .ecc ∨ (ecc = t.ecc ∧ scrubWord = t.scrubWord ∧ handovers = t.handovers)) (h_queues : m .queues ∨ (queues = t.queues ∧ failed = t.failed ∧ bulk = t.bulk ∧ bulkWaiting = t.bulkWaiting ∧ handoff = t.handoff ∧ jobs = t.jobs)) (h_time : m .time ∨ (rgl = t.rgl ∧ stamps = t.stamps ∧ stampCount = t.stampCount ∧ alarms = t.alarms ∧ pps = t.pps)) (h_events : m .events ∨ (lines = t.lines ∧ deliveries = t.deliveries ∧ asst = t.asst ∧ claims = t.claims ∧ evmask = t.evmask ∧ retained = t.retained)) (h_answers : m .answers ∨ (host = t.host ∧ eyeResp = t.eyeResp ∧ eyeData = t.eyeData ∧ log = t.log)) (h_power : m .power ∨ (ifcOn = t.ifcOn ∧ dbgOn = t.dbgOn ∧ power = t.power)) (h_flows : m .flows ∨ (flows = t.flows ∧ buckets = t.buckets)) (h_framePorts : m .framePorts ∨ (ports = t.ports ∧ residues = t.residues ∧ groups = t.groups ∧ streams = t.streams)) (h_verniers : m .verniers ∨ (verniers = t.verniers ∧ vernierHalts = t.vernierHalts)) (h_timers : m .timers ∨ (timers = t.timers ∧ watchdogs = t.watchdogs)) (h_clockDrive : m .clockDrive ∨ (trackers = t.trackers ∧ phaseTargets = t.phaseTargets ∧ ephHold = t.ephHold)) (h_banks : m .banks ∨ (gprs = t.gprs ∧ banks = t.banks)) (h_lens : m .lens ∨ (lens = t.lens)) (h_store : m .store ∨ (wcs = t.wcs)) (h_engines : m .engines ∨ (engines = t.engines ∧ crossTrigger = t.crossTrigger)) (h_security : m .security ∨ (bootKey = t.bootKey ∧ security = t.security)) (h_occultation : m .occultation ∨ (channels = t.channels)) (h_chart : m .chart ∨ (chart = t.chart)) (h_assistant : m .assistant ∨ (assistant = t.assistant)) (h_constellation : m .constellation ∨ (links = t.links ∧ constellation = t.constellation)) (h_eyepiece : m .eyepiece ∨ (eyepiece = t.eyepiece)) (h_tick : m .tick ∨ (tick = t.tick)) :
    Keeps m s0 { pending := t.pending, freeUsed := t.freeUsed, regs := t.regs, mem := t.mem, ecc := ecc, host := host, handoff := handoff, rgl := rgl, stamps := stamps, alarms := alarms, lines := lines, deliveries := deliveries, asst := asst, retained := retained, log := log, queues := queues, bulk := bulk, handovers := handovers, ifcOn := ifcOn, dbgOn := dbgOn, eyeResp := eyeResp, claims := claims, evmask := evmask, bulkWaiting := bulkWaiting, scrubWord := scrubWord, flows := flows, stampCount := stampCount, verniers := verniers, pps := pps, timers := timers, watchdogs := watchdogs, trackers := trackers, phaseTargets := phaseTargets, ephHold := ephHold, eyeData := eyeData, failed := failed, gprs := gprs, banks := banks, lens := lens, wcs := wcs, engines := engines, bootKey := bootKey, crossTrigger := crossTrigger, vernierHalts := vernierHalts, ports := ports, residues := residues, buckets := buckets, groups := groups, streams := streams, channels := channels, power := power, security := security, chart := chart, assistant := assistant, links := links, constellation := constellation, eyepiece := eyepiece, jobs := jobs, tick := tick } := by
  refine ⟨h.pending, h.used, h.mem, h.regs, fun p hp => ?_⟩
  cases p
  · exact h.parts .plates hp
  · exact h_ecc.elim (fun c => absurd c hp) fun e => ⟨e.1.trans (h.parts .ecc hp).1, e.2.1.trans (h.parts .ecc hp).2.1, e.2.2.trans (h.parts .ecc hp).2.2⟩
  · exact h_queues.elim (fun c => absurd c hp) fun e => ⟨e.1.trans (h.parts .queues hp).1, e.2.1.trans (h.parts .queues hp).2.1, e.2.2.1.trans (h.parts .queues hp).2.2.1, e.2.2.2.1.trans (h.parts .queues hp).2.2.2.1, e.2.2.2.2.1.trans (h.parts .queues hp).2.2.2.2.1, e.2.2.2.2.2.trans (h.parts .queues hp).2.2.2.2.2⟩
  · exact h_time.elim (fun c => absurd c hp) fun e => ⟨e.1.trans (h.parts .time hp).1, e.2.1.trans (h.parts .time hp).2.1, e.2.2.1.trans (h.parts .time hp).2.2.1, e.2.2.2.1.trans (h.parts .time hp).2.2.2.1, e.2.2.2.2.trans (h.parts .time hp).2.2.2.2⟩
  · exact h_events.elim (fun c => absurd c hp) fun e => ⟨e.1.trans (h.parts .events hp).1, e.2.1.trans (h.parts .events hp).2.1, e.2.2.1.trans (h.parts .events hp).2.2.1, e.2.2.2.1.trans (h.parts .events hp).2.2.2.1, e.2.2.2.2.1.trans (h.parts .events hp).2.2.2.2.1, e.2.2.2.2.2.trans (h.parts .events hp).2.2.2.2.2⟩
  · exact h_answers.elim (fun c => absurd c hp) fun e => ⟨e.1.trans (h.parts .answers hp).1, e.2.1.trans (h.parts .answers hp).2.1, e.2.2.1.trans (h.parts .answers hp).2.2.1, e.2.2.2.trans (h.parts .answers hp).2.2.2⟩
  · exact h_power.elim (fun c => absurd c hp) fun e => ⟨e.1.trans (h.parts .power hp).1, e.2.1.trans (h.parts .power hp).2.1, e.2.2.trans (h.parts .power hp).2.2⟩
  · exact h_flows.elim (fun c => absurd c hp) fun e => ⟨e.1.trans (h.parts .flows hp).1, e.2.trans (h.parts .flows hp).2⟩
  · exact h_framePorts.elim (fun c => absurd c hp) fun e => ⟨e.1.trans (h.parts .framePorts hp).1, e.2.1.trans (h.parts .framePorts hp).2.1, e.2.2.1.trans (h.parts .framePorts hp).2.2.1, e.2.2.2.trans (h.parts .framePorts hp).2.2.2⟩
  · exact h_verniers.elim (fun c => absurd c hp) fun e => ⟨e.1.trans (h.parts .verniers hp).1, e.2.trans (h.parts .verniers hp).2⟩
  · exact h_timers.elim (fun c => absurd c hp) fun e => ⟨e.1.trans (h.parts .timers hp).1, e.2.trans (h.parts .timers hp).2⟩
  · exact h_clockDrive.elim (fun c => absurd c hp) fun e => ⟨e.1.trans (h.parts .clockDrive hp).1, e.2.1.trans (h.parts .clockDrive hp).2.1, e.2.2.trans (h.parts .clockDrive hp).2.2⟩
  · exact h_banks.elim (fun c => absurd c hp) fun e => ⟨e.1.trans (h.parts .banks hp).1, e.2.trans (h.parts .banks hp).2⟩
  · exact h_lens.elim (fun c => absurd c hp) fun e => e.trans (h.parts .lens hp)
  · exact h_store.elim (fun c => absurd c hp) fun e => e.trans (h.parts .store hp)
  · exact h_engines.elim (fun c => absurd c hp) fun e => ⟨e.1.trans (h.parts .engines hp).1, e.2.trans (h.parts .engines hp).2⟩
  · exact h_security.elim (fun c => absurd c hp) fun e => ⟨e.1.trans (h.parts .security hp).1, e.2.trans (h.parts .security hp).2⟩
  · exact h_occultation.elim (fun c => absurd c hp) fun e => e.trans (h.parts .occultation hp)
  · exact h_chart.elim (fun c => absurd c hp) fun e => e.trans (h.parts .chart hp)
  · exact h_assistant.elim (fun c => absurd c hp) fun e => e.trans (h.parts .assistant hp)
  · exact h_constellation.elim (fun c => absurd c hp) fun e => ⟨e.1.trans (h.parts .constellation hp).1, e.2.trans (h.parts .constellation hp).2⟩
  · exact h_eyepiece.elim (fun c => absurd c hp) fun e => e.trans (h.parts .eyepiece hp)
  · exact h_tick.elim (fun c => absurd c hp) fun e => e.trans (h.parts .tick hp)

end Sys2Proof.Machine
end

