-- ==== Sys2Proof/Laws/KeepsParts.lean ====
section
/-! SUPPORT. What every command keeps: the lemmas of registers, events, plates, pins, timers, the Regulator, the Clock Drive and the queues. -/

namespace Sys2Proof.Machine

set_option Elab.async false
variable {m : Part → Prop}

theorem State.put_keeps {s0 : State} (x0 : State) (x1) (x2) (h : Keeps m s0 x0) : Keeps m s0 (State.put x0 x1 x2) := by unfold State.put; grind [State.setReg_keeps]
theorem State.count_keeps {s0 : State} (x0 : State) (x1) (x2) (h : Keeps m s0 x0) : Keeps m s0 (State.count x0 x1 x2) := by unfold State.count; grind [State.put_keeps]
theorem State.orBits_keeps {s0 : State} (x0 : State) (x1) (x2) (h : Keeps m s0 x0) : Keeps m s0 (State.orBits x0 x1 x2) := by unfold State.orBits; grind [State.put_keeps]
theorem State.clearBits_keeps {s0 : State} (x0 : State) (x1) (x2) (h : Keeps m s0 x0) : Keeps m s0 (State.clearBits x0 x1 x2) := by unfold State.clearBits; grind [State.put_keeps]
theorem State.setBytes_keeps {s0 : State} (x0 : State) (x1) (x2) (h : Keeps m s0 x0) (_ : m .plates := by first | assumption | exact True.intro) : Keeps m s0 (x0.setBytes x1 x2) := by
  induction x2 generalizing x0 x1 with
  | nil => exact h
  | cons b bs ih => exact ih _ _ (State.setByte_keeps _ _ _ h)
theorem State.noteCorrected_keeps {s0 : State} (x0 : State) (x1) (x2) (h : Keeps m s0 x0) : Keeps m s0 (State.noteCorrected x0 x1 x2) := by unfold State.noteCorrected; grind [State.put_keeps, State.count_keeps]
theorem State.noteUncorrectable_keeps {s0 : State} (x0 : State) (x1) (x2) (h : Keeps m s0 x0) : Keeps m s0 (State.noteUncorrectable x0 x1 x2) := by unfold State.noteUncorrectable; grind [State.put_keeps]
theorem State.readWords_keeps {s0 : State} (x0 : State) (x1) (x2) (h : Keeps m s0 x0) : Keeps m s0 (State.readWords x0 x1 x2).2 := by revert h; fun_induction State.readWords x0 x1 x2 <;> grind [State.noteUncorrectable_keeps, State.noteCorrected_keeps]
theorem State.plateRead_keeps {s0 : State} (x0 : State) (x1) (x2) (x3) (h : Keeps m s0 x0) : Keeps m s0 (State.plateRead x0 x1 x2 x3).2 := by unfold State.plateRead; grind [State.readWords_keeps]
theorem State.clearEcc_keeps {s0 : State} (x0 : State) (x1) (x2) (h : Keeps m s0 x0) (_ : m .ecc := by first | assumption | exact True.intro) : Keeps m s0 (State.clearEcc x0 x1 x2) := by unfold State.clearEcc; grind [Keeps.upd]
theorem State.writeWord_keeps {s0 : State} (x0 : State) (x1) (x2) (x3) (x4) (h : Keeps m s0 x0) (_ : m .plates := by first | assumption | exact True.intro) (_ : m .ecc := by first | assumption | exact True.intro) : Keeps m s0 (State.writeWord x0 x1 x2 x3 x4).2 := by unfold State.writeWord; grind [State.readWords_keeps, State.setBytes_keeps, State.clearEcc_keeps]
theorem State.writePieces_keeps {s0 : State} (x0 : State) (x1) (x2) (h : Keeps m s0 x0) (_ : m .plates := by first | assumption | exact True.intro) (_ : m .ecc := by first | assumption | exact True.intro) : Keeps m s0 (State.writePieces x0 x1 x2).2 := by revert h; fun_induction State.writePieces x0 x1 x2 <;> grind [State.writeWord_keeps]
theorem State.plateWrite_keeps {s0 : State} (x0 : State) (x1) (x2) (x3) (h : Keeps m s0 x0) (_ : m .plates := by first | assumption | exact True.intro) (_ : m .ecc := by first | assumption | exact True.intro) : Keeps m s0 (State.plateWrite x0 x1 x2 x3).2 := by unfold State.plateWrite; grind [State.writePieces_keeps]
theorem State.logChange_keeps {s0 : State} (x0 : State) (x1) (x2) (x3) (x4) (x5) (x6) (x7) (h : Keeps m s0 x0) (_ : m .answers := by first | assumption | exact True.intro) : Keeps m s0 (State.logChange x0 x1 x2 x3 x4 x5 x6 x7) := by unfold State.logChange; grind [State.count_keeps, Keeps.upd]
theorem Effect.denied_keeps {s0 : State} (x0 : State) (x1) (h : Keeps m s0 x0) : EKeeps m s0 (Effect.denied x0 x1) := ⟨h, fun _ h => h⟩
theorem opt_map_keeps {s0 : State} (o : Option State) (f : State → State) (h : ∀ r, o = some r → Keeps m s0 r)
    (hf : ∀ u, Keeps m s0 u → Keeps m s0 (f u)) : ∀ r, o.map f = some r → Keeps m s0 r := by
  intro r hr
  obtain ⟨u, hu, rfl⟩ := Option.map_eq_some_iff.mp hr
  exact hf _ (h _ hu)
theorem opt_bind_keeps {s0 : State} (o : Option State) (f : State → Option State) (h : ∀ r, o = some r → Keeps m s0 r)
    (hf : ∀ u, Keeps m s0 u → ∀ r, f u = some r → Keeps m s0 r) : ∀ r, o.bind f = some r → Keeps m s0 r := by
  intro r hr
  obtain ⟨u, hu, hr⟩ := Option.bind_eq_some_iff.mp hr
  exact hf _ (h _ hu) _ hr
theorem opt_some_keeps {s0 : State} (s : State) (h : Keeps m s0 s) : ∀ r, some s = some r → Keeps m s0 r := by
  intro r hr
  cases hr
  exact h
theorem opt_ite_keeps {s0 : State} {c : Prop} [Decidable c] {a b : Option State} (ha : ∀ r, a = some r → Keeps m s0 r)
    (hb : ∀ r, b = some r → Keeps m s0 r) : ∀ r, (if c then a else b) = some r → Keeps m s0 r := by
  split
  · exact ha
  · exact hb
theorem opt_none_keeps {s0 : State} : ∀ r, (none : Option State) = some r → Keeps m s0 r := by
  intro r hr
  cases hr
theorem next_keeps {s0 : State} (s : State) (h : Keeps m s0 s) : ∀ r, (.next s : Host.Outcome State Fault Refusal) = .next r → Keeps m s0 r := by
  intro r hr
  cases hr
  exact h
theorem ite_keeps {s0 : State} {c : Prop} [Decidable c] {a b : State} (ha : Keeps m s0 a) (hb : Keeps m s0 b) : Keeps m s0 (if c then a else b) := by
  split
  · exact ha
  · exact hb
theorem EKeeps.ite {s0 : State} {c : Prop} [Decidable c] {a b : Effect} (ha : EKeeps m s0 a) (hb : EKeeps m s0 b) : EKeeps m s0 (if c then a else b) := by
  split
  · exact ha
  · exact hb
theorem Effect.ok_keeps {s0 : State} (x0 : State) (h : Keeps m s0 x0) : EKeeps m s0 (Effect.ok x0) := ⟨h, fun _ h => h⟩
theorem Effect.kept_keeps {s0 : State} (x0 : State) (h : Keeps m s0 x0) : EKeeps m s0 (Effect.kept x0) := ⟨h, fun _ h => h⟩
theorem State.respond_keeps {s0 : State} (x0 : State) (x1) (x2) (h : Keeps m s0 x0) (_ : m .answers := by first | assumption | exact True.intro) : Keeps m s0 (State.respond x0 x1 x2) := by unfold State.respond; grind [Keeps.upd]
theorem State.answer_keeps {s0 : State} (x0 : State) (x1) (x2) (x3) (h : Keeps m s0 x0) (_ : m .answers := by first | assumption | exact True.intro) : Keeps m s0 (State.answer x0 x1 x2 x3) := by unfold State.answer; grind [Keeps.upd]
theorem State.plainWrite_keeps {s0 : State} (x0 : State) (x1) (x2) (h : Keeps m s0 x0) : Keeps m s0 (State.plainWrite x0 x1 x2) := by unfold State.plainWrite; grind [State.setReg_keeps]
theorem State.logWrite_keeps {s0 : State} (x0 : State) (x1) (x2) (x3) (x4) (x5) (h : Keeps m s0 x0) (_ : m .answers := by first | assumption | exact True.intro) : Keeps m s0 (State.logWrite x0 x1 x2 x3 x4 x5) := by unfold State.logWrite; grind [State.logChange_keeps]
theorem State.writeAs_keeps {s0 : State} (x0 : State) (x1) (x2) (x3) (x4) (x5 : State → Effect) (h : Keeps m s0 x0)
    (ha : ∀ u, Keeps m s0 u → EKeeps m s0 (x5 u)) (_ : m .answers := by first | assumption | exact True.intro) : Keeps m s0 (x0.writeAs x1 x2 x3 x4 x5) := by
  have he := ha x0 h
  unfold State.writeAs
  split
  · exact State.respond_keeps _ _ _ h
  split
  · exact State.respond_keeps _ _ _ h
  split
  · exact State.respond_keeps _ _ _ (State.logWrite_keeps _ _ _ _ _ _ h)
  · exact State.respond_keeps _ _ _ (he.after _ (State.logWrite_keeps _ _ _ _ _ _ he.state))
theorem State.writeReg_keeps {s0 : State} (x0 : State) (x1) (x2) (x3) (x4 : State → Effect) (h : Keeps m s0 x0)
    (ha : ∀ u, Keeps m s0 u → EKeeps m s0 (x4 u)) (_ : m .answers := by first | assumption | exact True.intro) : Keeps m s0 (x0.writeReg x1 x2 x3 x4) := State.writeAs_keeps _ _ _ _ _ _ h ha
theorem State.setBit_keeps {s0 : State} (x0 : State) (x1) (x2) (x3) (h : Keeps m s0 x0) : Keeps m s0 (State.setBit x0 x1 x2 x3) := by unfold State.setBit; grind [State.setReg_keeps]
theorem State.setLinePending_keeps {s0 : State} (x0 : State) (x1) (x2) (h : Keeps m s0 x0) : Keeps m s0 (State.setLinePending x0 x1 x2) := by unfold State.setLinePending; grind [State.setBit_keeps]
theorem State.setLine_keeps {s0 : State} (x0 : State) (x1) (x2) (h : Keeps m s0 x0) (_ : m .events := by first | assumption | exact True.intro) : Keeps m s0 (State.setLine x0 x1 x2) := by unfold State.setLine; grind [Keeps.upd]
theorem State.dropDeliveries_keeps {s0 : State} (x0 : State) (x1) (h : Keeps m s0 x0) (_ : m .events := by first | assumption | exact True.intro) : Keeps m s0 (State.dropDeliveries x0 x1) := by unfold State.dropDeliveries; grind [Keeps.upd]
theorem State.retire_keeps {s0 : State} (x0 : State) (x1) (h : Keeps m s0 x0) (_ : m .events := by first | assumption | exact True.intro) : Keeps m s0 (State.retire x0 x1) := by unfold State.retire; grind [State.setLine_keeps, State.setLinePending_keeps]
theorem State.retireIfDone_keeps {s0 : State} (x0 : State) (x1) (h : Keeps m s0 x0) (_ : m .events := by first | assumption | exact True.intro) : Keeps m s0 (State.retireIfDone x0 x1) := by unfold State.retireIfDone; grind [State.retire_keeps]
theorem State.retireDone_keeps {s0 : State} (x0 : State) (x1) (h : Keeps m s0 x0) (_ : m .events := by first | assumption | exact True.intro) : Keeps m s0 (State.retireDone x0 x1) := by revert h; fun_induction State.retireDone x0 x1 <;> grind [State.retireIfDone_keeps]
theorem State.releaseHeld_keeps {s0 : State} (x0 : State) (x1) (h : Keeps m s0 x0) (_ : m .events := by first | assumption | exact True.intro) : Keeps m s0 (State.releaseHeld x0 x1) := by unfold State.releaseHeld; grind [Keeps.upd]
theorem State.deliverTo_keeps {s0 : State} (x0 : State) (x1) (x2) (x3) (h : Keeps m s0 x0) (_ : m .events := by first | assumption | exact True.intro) : Keeps m s0 (State.deliverTo x0 x1 x2 x3) := by unfold State.deliverTo; grind [State.releaseHeld_keeps, Keeps.upd]
theorem State.deliverAll_keeps {s0 : State} (x0 : State) (x1) (x2) (x3) (h : Keeps m s0 x0) (_ : m .events := by first | assumption | exact True.intro) : Keeps m s0 (State.deliverAll x0 x1 x2 x3) := by revert h; fun_induction State.deliverAll x0 x1 x2 x3 <;> grind [State.deliverTo_keeps]
theorem State.serviceLine_keeps {s0 : State} (x0 : State) (x1) (h : Keeps m s0 x0) (_ : m .events := by first | assumption | exact True.intro) : Keeps m s0 (State.serviceLine x0 x1) := by unfold State.serviceLine; grind [State.setLine_keeps, State.deliverAll_keeps]
theorem State.copyToAssistant_keeps {s0 : State} (x0 : State) (x1) (h : Keeps m s0 x0) (_ : m .events := by first | assumption | exact True.intro) : Keeps m s0 (State.copyToAssistant x0 x1) := by unfold State.copyToAssistant; grind [Keeps.upd]
theorem State.latchVerniers_keeps {s0 : State} (x0 : State) (x1) (x2) (h : Keeps m s0 x0) : Keeps m s0 (State.latchVerniers x0 x1 x2) := by revert h; fun_induction State.latchVerniers x0 x1 x2 <;> grind [State.orBits_keeps]
theorem State.exportEvent_keeps {s0 : State} (x0 : State) (x1) (h : Keeps m s0 x0) (_ : m .events := by first | assumption | exact True.intro) : Keeps m s0 (State.exportEvent x0 x1) := by unfold State.exportEvent; grind [Keeps.upd]
theorem State.setFlow_keeps {s0 : State} (x0 : State) (x1) (x2) (h : Keeps m s0 x0) (_ : m .flows := by first | assumption | exact True.intro) : Keeps m s0 (State.setFlow x0 x1 x2) := by unfold State.setFlow; grind [Keeps.upd]
theorem State.acceptRegistration_keeps {s0 : State} (x0 : State) (x1) (x2) (h : Keeps m s0 x0) (_ : m .flows := by first | assumption | exact True.intro) : Keeps m s0 (State.acceptRegistration x0 x1 x2) := by unfold State.acceptRegistration; grind [State.setFlow_keeps, State.put_keeps, State.setReg_keeps, State.count_keeps]
theorem State.acceptRegistrations_keeps {s0 : State} (x0 : State) (x1) (x2) (h : Keeps m s0 x0) (_ : m .flows := by first | assumption | exact True.intro) : Keeps m s0 (State.acceptRegistrations x0 x1 x2) := by revert h; fun_induction State.acceptRegistrations x0 x1 x2 <;> grind [State.acceptRegistration_keeps]
theorem State.registerEventAt_keeps {s0 : State} (x0 : State) (x1) (x2) (h : Keeps m s0 x0) (_ : m .events := by first | assumption | exact True.intro) (_ : m .flows := by first | assumption | exact True.intro) : Keeps m s0 (x0.registerEventAt x1 x2) := by
  unfold State.registerEventAt
  refine ite_keeps (State.setBit_keeps _ _ _ _ h) ?_
  exact State.serviceLine_keeps _ _ (State.copyToAssistant_keeps _ _ (State.acceptRegistrations_keeps _ _ _ (State.setLinePending_keeps _ _ _
    (State.exportEvent_keeps _ _ (State.latchVerniers_keeps _ _ _ h)))))
theorem State.registerEvent_keeps {s0 : State} (x0 : State) (x1) (h : Keeps m s0 x0) (_ : m .events := by first | assumption | exact True.intro) (_ : m .flows := by first | assumption | exact True.intro) : Keeps m s0 (State.registerEvent x0 x1) := by unfold State.registerEvent; grind [State.registerEventAt_keeps]
theorem State.catchEdge_keeps {s0 : State} (x0 : State) (x1) (h : Keeps m s0 x0) (_ : m .events := by first | assumption | exact True.intro) (_ : m .flows := by first | assumption | exact True.intro) : Keeps m s0 (State.catchEdge x0 x1) := by unfold State.catchEdge; grind [State.registerEvent_keeps, State.setLine_keeps]
theorem Effect.conflict_keeps {s0 : State} (x0 : Effect) (h : EKeeps m s0 x0) (_ : m .events := by first | assumption | exact True.intro) (_ : m .flows := by first | assumption | exact True.intro) : EKeeps m s0 x0.conflict :=
  ⟨h.state, fun _ hu => State.registerEvent_keeps _ _ hu⟩
theorem State.registerEvents_keeps {s0 : State} (x0 : State) (x1) (h : Keeps m s0 x0) (_ : m .events := by first | assumption | exact True.intro) (_ : m .flows := by first | assumption | exact True.intro) : Keeps m s0 (State.registerEvents x0 x1) := by revert h; fun_induction State.registerEvents x0 x1 <;> grind [State.registerEvent_keeps]
theorem State.inTick_keeps {s0 : State} (x0 : State) (x1) (x2 : State → State) (h : Keeps m s0 x0)
    (hf : ∀ u, Keeps m s0 u → Keeps m s0 (x2 u)) (_ : m .tick := by first | assumption | exact True.intro) : Keeps m s0 (x0.inTick x1 x2) := by
  have hk (t : State) (k) (ht : Keeps m s0 t) : Keeps m s0 { t with tick := k } := Keeps.of _ _ _ ht rfl rfl rfl rfl
  exact hk _ _ (hf _ (hk _ _ h))
theorem State.setClaimContext_keeps {s0 : State} (x0 : State) (x1) (x2) (x3) (h : Keeps m s0 x0) (_ : m .events := by first | assumption | exact True.intro) : Keeps m s0 (State.setClaimContext x0 x1 x2 x3) := by unfold State.setClaimContext; grind [Keeps.upd]
theorem State.commitEntry_keeps {s0 : State} (x0 : State) (x1) (x2) (x3) (h : Keeps m s0 x0) (_ : m .events := by first | assumption | exact True.intro) : Keeps m s0 (State.commitEntry x0 x1 x2 x3) := by unfold State.commitEntry; grind [State.retireDone_keeps, State.setClaimContext_keeps, State.dropDeliveries_keeps]
theorem State.withdraw_keeps {s0 : State} (x0 : State) (x1) (x2) (h : Keeps m s0 x0) (_ : m .events := by first | assumption | exact True.intro) : Keeps m s0 (State.withdraw x0 x1 x2) := by unfold State.withdraw; grind [State.dropDeliveries_keeps]
theorem State.claim_keeps {s0 : State} (x0 : State) (x1) (x2) (h : Keeps m s0 x0) (_ : m .events := by first | assumption | exact True.intro) (_ : m .tick := by first | assumption | exact True.intro) : Keeps m s0 (State.claim x0 x1 x2).2 := by unfold State.claim; grind [State.retire_keeps, State.withdraw_keeps, Keeps.upd]
theorem State.setVector_keeps {s0 : State} (x0 : State) (x1) (x2) (h : Keeps m s0 x0) (_ : m .events := by first | assumption | exact True.intro) : Keeps m s0 (State.setVector x0 x1 x2) := by unfold State.setVector; grind [Keeps.upd]
theorem State.clearVector_keeps {s0 : State} (x0 : State) (x1) (x2) (h : Keeps m s0 x0) (_ : m .events := by first | assumption | exact True.intro) : Keeps m s0 (State.clearVector x0 x1 x2) := by unfold State.clearVector; grind [State.retireDone_keeps, State.dropDeliveries_keeps]
theorem State.writePendBit_keeps {s0 : State} (x0 : State) (x1) (x2) (h : Keeps m s0 x0) (_ : m .events := by first | assumption | exact True.intro) (_ : m .flows := by first | assumption | exact True.intro) : Keeps m s0 (State.writePendBit x0 x1 x2) := by unfold State.writePendBit; grind [State.retire_keeps, State.dropDeliveries_keeps, State.registerEvent_keeps]
theorem State.writePendBits_keeps {s0 : State} (x0 : State) (x1) (x2) (h : Keeps m s0 x0) (_ : m .events := by first | assumption | exact True.intro) (_ : m .flows := by first | assumption | exact True.intro) : Keeps m s0 (State.writePendBits x0 x1 x2) := by revert h; fun_induction State.writePendBits x0 x1 x2 <;> grind [State.writePendBit_keeps]
theorem State.serviceLines_keeps {s0 : State} (x0 : State) (x1) (h : Keeps m s0 x0) (_ : m .events := by first | assumption | exact True.intro) : Keeps m s0 (State.serviceLines x0 x1) := by revert h; fun_induction State.serviceLines x0 x1 <;> grind [State.serviceLine_keeps]
theorem writeEvcMask_keeps {s0 : State} (x0) (x1) (x2) (x3 : State) (h : Keeps m s0 x3) (_ : m .events := by first | assumption | exact True.intro) : EKeeps m s0 (writeEvcMask x0 x1 x2 x3) := by unfold writeEvcMask; grind [State.setReg_keeps, Effect.ok_keeps, State.serviceLines_keeps, EKeeps, Effect.ok, Effect.kept, Effect.denied, Effect.retry]
theorem writeEvcPend_keeps {s0 : State} (x0) (x1) (x2) (x3 : State) (h : Keeps m s0 x3) (_ : m .events := by first | assumption | exact True.intro) (_ : m .flows := by first | assumption | exact True.intro) : EKeeps m s0 (writeEvcPend x0 x1 x2 x3) := by unfold writeEvcPend; grind [Effect.ok_keeps, State.writePendBits_keeps, EKeeps, Effect.ok, Effect.kept, Effect.denied, Effect.retry]
theorem writeEvcRoute_keeps {s0 : State} (x0) (x1) (x2 : State) (h : Keeps m s0 x2) (_ : m .events := by first | assumption | exact True.intro) (_ : m .flows := by first | assumption | exact True.intro) : EKeeps m s0 (writeEvcRoute x0 x1 x2) := by unfold writeEvcRoute; grind [Effect.ok_keeps, State.plainWrite_keeps, State.put_keeps, Effect.conflict_keeps, Effect.denied_keeps, EKeeps, Effect.ok, Effect.kept, Effect.denied, Effect.retry]
theorem writeEvcDoor_keeps {s0 : State} (x0) (x1 : State) (h : Keeps m s0 x1) (_ : m .events := by first | assumption | exact True.intro) (_ : m .flows := by first | assumption | exact True.intro) : EKeeps m s0 (writeEvcDoor x0 x1) := by unfold writeEvcDoor; grind [Effect.ok_keeps, State.registerEvents_keeps, EKeeps, Effect.ok, Effect.kept, Effect.denied, Effect.retry]
theorem execEventRegistration_keeps {s0 : State} (x0) (x1 : State) (h : Keeps m s0 x1) (_ : m .events := by first | assumption | exact True.intro) (_ : m .flows := by first | assumption | exact True.intro) : ∀ r, execEventRegistration x0 x1 = .next r → Keeps m s0 r := by unfold execEventRegistration; grind [State.registerEvent_keeps]
theorem execLineRetire_keeps {s0 : State} (x0) (x1 : State) (h : Keeps m s0 x1) (_ : m .events := by first | assumption | exact True.intro) : ∀ r, execLineRetire x0 x1 = .next r → Keeps m s0 r := by unfold execLineRetire; grind [State.retireIfDone_keeps]
theorem execModerationRelease_keeps {s0 : State} (x0) (x1 : State) (h : Keeps m s0 x1) (_ : m .events := by first | assumption | exact True.intro) : ∀ r, execModerationRelease x0 x1 = .next r → Keeps m s0 r := by unfold execModerationRelease; grind [State.releaseHeld_keeps]
theorem execEvcDoor_keeps {s0 : State} (x0) (x1) (x2 : State) (h : Keeps m s0 x2) (_ : m .events := by first | assumption | exact True.intro) (_ : m .answers := by first | assumption | exact True.intro) (_ : m .flows := by first | assumption | exact True.intro) : ∀ r, execEvcDoor x0 x1 x2 = .next r → Keeps m s0 r := by unfold execEvcDoor; grind [State.writeReg_keeps, writeEvcDoor_keeps]
theorem execEvcMaskWrite_keeps {s0 : State} (x0) (x1) (x2) (x3 : State) (h : Keeps m s0 x3) (_ : m .events := by first | assumption | exact True.intro) (_ : m .answers := by first | assumption | exact True.intro) : ∀ r, execEvcMaskWrite x0 x1 x2 x3 = .next r → Keeps m s0 r := by unfold execEvcMaskWrite; grind [State.writeReg_keeps, writeEvcMask_keeps]
theorem execEvcPendWrite_keeps {s0 : State} (x0) (x1) (x2) (x3 : State) (h : Keeps m s0 x3) (_ : m .events := by first | assumption | exact True.intro) (_ : m .answers := by first | assumption | exact True.intro) (_ : m .flows := by first | assumption | exact True.intro) : ∀ r, execEvcPendWrite x0 x1 x2 x3 = .next r → Keeps m s0 r := by unfold execEvcPendWrite; grind [State.writeReg_keeps, writeEvcPend_keeps]
theorem execEvcRouteWrite_keeps {s0 : State} (x0) (x1) (x2) (x3 : State) (h : Keeps m s0 x3) (_ : m .events := by first | assumption | exact True.intro) (_ : m .answers := by first | assumption | exact True.intro) (_ : m .flows := by first | assumption | exact True.intro) : ∀ r, execEvcRouteWrite x0 x1 x2 x3 = .next r → Keeps m s0 r := by unfold execEvcRouteWrite; grind [State.writeReg_keeps, writeEvcRoute_keeps]
theorem State.setCap_keeps {s0 : State} (x0 : State) (x1) (x2) (x3) (h : Keeps m s0 x0) : Keeps m s0 (State.setCap x0 x1 x2 x3) := by unfold State.setCap; grind [State.setReg_keeps]
theorem State.setEntry_keeps {s0 : State} (x0 : State) (x1) (x2) (x3) (x4) (h : Keeps m s0 x0) (_ : m .plates := by first | assumption | exact True.intro) (_ : m .ecc := by first | assumption | exact True.intro) : Keeps m s0 (State.setEntry x0 x1 x2 x3 x4) := by unfold State.setEntry; grind [State.plateWrite_keeps]
theorem State.bump_keeps {s0 : State} (x0 : State) (x1) (x2) (h : Keeps m s0 x0) (_ : m .plates := by first | assumption | exact True.intro) (_ : m .ecc := by first | assumption | exact True.intro) (_ : m .answers := by first | assumption | exact True.intro) (_ : m .tick := by first | assumption | exact True.intro) : Keeps m s0 (State.bump x0 x1 x2) := by unfold State.bump; grind [State.setEntry_keeps, State.logChange_keeps, Keeps.upd]
theorem State.setHandover_keeps {s0 : State} (x0 : State) (x1) (x2) (h : Keeps m s0 x0) (_ : m .ecc := by first | assumption | exact True.intro) : Keeps m s0 (State.setHandover x0 x1 x2) := by unfold State.setHandover; grind [Keeps.upd]
theorem State.startCopies_keeps {s0 : State} (x0 : State) (x1) (h : Keeps m s0 x0) (_ : m .queues := by first | assumption | exact True.intro) : Keeps m s0 (State.startCopies x0 x1) := by unfold State.startCopies; grind [Keeps.upd]
theorem writePltOwn_keeps {s0 : State} (x0) (x1) (x2) (x3 : State) (h : Keeps m s0 x3) (_ : m .ecc := by first | assumption | exact True.intro) (_ : m .queues := by first | assumption | exact True.intro) : EKeeps m s0 (writePltOwn x0 x1 x2 x3) := by unfold writePltOwn; grind [Effect.ok_keeps, State.put_keeps, State.setHandover_keeps, State.startCopies_keeps, Effect.denied_keeps, Effect.kept_keeps, EKeeps, Effect.ok, Effect.kept, Effect.denied, Effect.retry]
theorem State.takeHandover_keeps {s0 : State} (x0 : State) (x1) (h : Keeps m s0 x0) (_ : m .plates := by first | assumption | exact True.intro) (_ : m .ecc := by first | assumption | exact True.intro) (_ : m .answers := by first | assumption | exact True.intro) (_ : m .tick := by first | assumption | exact True.intro) : Keeps m s0 (State.takeHandover x0 x1) := by unfold State.takeHandover; grind [State.bump_keeps, State.setHandover_keeps, State.put_keeps, State.logChange_keeps]
theorem State.hostWriteBeat_keeps {s0 : State} (x0 : State) (x1) (x2) (x3) (h : Keeps m s0 x0) (_ : m .plates := by first | assumption | exact True.intro) (_ : m .ecc := by first | assumption | exact True.intro) : Keeps m s0 (State.hostWriteBeat x0 x1 x2 x3).2 := by unfold State.hostWriteBeat; grind [State.writeWord_keeps]
theorem State.hostWriteBeats_keeps {s0 : State} (x0 : State) (x1) (x2) (x3) (h : Keeps m s0 x0) (_ : m .plates := by first | assumption | exact True.intro) (_ : m .ecc := by first | assumption | exact True.intro) : Keeps m s0 (State.hostWriteBeats x0 x1 x2 x3).2 := by revert h; fun_induction State.hostWriteBeats x0 x1 x2 x3 <;> grind [State.hostWriteBeat_keeps]
theorem State.hostReadBeats_keeps {s0 : State} (x0 : State) (x1) (x2) (h : Keeps m s0 x0) : Keeps m s0 (State.hostReadBeats x0 x1 x2).2 := by revert h; fun_induction State.hostReadBeats x0 x1 x2 <;> grind [State.plateRead_keeps]
theorem State.hostAnswer_keeps {s0 : State} (x0 : State) (x1) (x2) (h : Keeps m s0 x0) (_ : m .answers := by first | assumption | exact True.intro) : Keeps m s0 (State.hostAnswer x0 x1 x2) := by unfold State.hostAnswer; grind [Keeps.upd]
theorem State.hostPlate_keeps {s0 : State} (x0 : State) (x1) (x2) (x3) (x4) (x5) (x6) (h : Keeps m s0 x0) (_ : m .plates := by first | assumption | exact True.intro) (_ : m .ecc := by first | assumption | exact True.intro) (_ : m .answers := by first | assumption | exact True.intro) : Keeps m s0 (State.hostPlate x0 x1 x2 x3 x4 x5 x6) := by unfold State.hostPlate; grind [State.fresh_keeps, State.hostWriteBeats_keeps, State.hostReadBeats_keeps, State.hostAnswer_keeps]
theorem execPltOwnWrite_keeps {s0 : State} (x0) (x1) (x2) (x3 : State) (h : Keeps m s0 x3) (_ : m .ecc := by first | assumption | exact True.intro) (_ : m .queues := by first | assumption | exact True.intro) (_ : m .answers := by first | assumption | exact True.intro) : ∀ r, execPltOwnWrite x0 x1 x2 x3 = .next r → Keeps m s0 r := by unfold execPltOwnWrite; grind [State.writeReg_keeps, writePltOwn_keeps]
theorem execHandoverTakesEffect_keeps {s0 : State} (x0) (x1 : State) (h : Keeps m s0 x1) (_ : m .plates := by first | assumption | exact True.intro) (_ : m .ecc := by first | assumption | exact True.intro) (_ : m .answers := by first | assumption | exact True.intro) (_ : m .tick := by first | assumption | exact True.intro) : ∀ r, execHandoverTakesEffect x0 x1 = .next r → Keeps m s0 r :=
  next_keeps _ (ite_keeps (State.inTick_keeps _ _ _ h fun _ hu => State.takeHandover_keeps _ _ hu) h)
theorem execHostPlateAccess_keeps {s0 : State} (x0) (x1) (x2) (x3) (x4) (x5) (x6 : State) (h : Keeps m s0 x6) (_ : m .plates := by first | assumption | exact True.intro) (_ : m .ecc := by first | assumption | exact True.intro) (_ : m .answers := by first | assumption | exact True.intro) : ∀ r, execHostPlateAccess x0 x1 x2 x3 x4 x5 x6 = .next r → Keeps m s0 r := by unfold execHostPlateAccess; grind [State.hostPlate_keeps]
theorem execScrubberVisit_keeps {s0 : State} (x0) (x1 : State) (h : Keeps m s0 x1) (_ : m .ecc := by first | assumption | exact True.intro) (_ : m .events := by first | assumption | exact True.intro) (_ : m .flows := by first | assumption | exact True.intro) : ∀ r, execScrubberVisit x0 x1 = .next r → Keeps m s0 r := by unfold execScrubberVisit; grind [State.registerEvent_keeps, State.noteUncorrectable_keeps, State.noteCorrected_keeps, State.clearEcc_keeps, Keeps.upd]
theorem State.setStampPoint_keeps {s0 : State} (x0 : State) (x1) (x2) (h : Keeps m s0 x0) (_ : m .time := by first | assumption | exact True.intro) : Keeps m s0 (State.setStampPoint x0 x1 x2) := by unfold State.setStampPoint; grind [Keeps.upd]
theorem State.putStamp_keeps {s0 : State} (x0 : State) (x1) (x2) (x3) (x4) (h : Keeps m s0 x0) (_ : m .time := by first | assumption | exact True.intro) : Keeps m s0 (x0.putStamp x1 x2 x3 x4).2 := by
  have hk (t : State) (n) (ht : Keeps m s0 t) : Keeps m s0 { t with stampCount := n } := Keeps.of _ _ _ ht rfl rfl rfl rfl
  unfold State.putStamp
  simp only
  split
  · split
    · exact h
    · exact hk _ _ (State.setStampPoint_keeps _ _ _ h)
  · split
    · exact h
    · exact hk _ _ (State.setStampPoint_keeps _ _ _ h)
theorem State.stampEdge_keeps {s0 : State} (x0 : State) (x1) (x2) (x3) (h : Keeps m s0 x0) (_ : m .time := by first | assumption | exact True.intro) : Keeps m s0 (x0.stampEdge x1 x2 x3).2 :=
  State.putStamp_keeps _ _ _ _ _ h
theorem State.setChannel_keeps {s0 : State} (x0 : State) (x1) (x2) (h : Keeps m s0 x0) (_ : m .occultation := by first | assumption | exact True.intro) : Keeps m s0 (State.setChannel x0 x1 x2) := by unfold State.setChannel; grind [Keeps.upd]
theorem State.frameClock_keeps {s0 : State} (x0 : State) (x1 : State) (x2) (h : Keeps m s0 x1) (_ : m .occultation := by first | assumption | exact True.intro) : Keeps m s0 (State.frameClock x0 x1 x2) := by unfold State.frameClock; grind [State.put_keeps, State.setChannel_keeps]
theorem State.setPinOut_keeps {s0 : State} (x0 : State) (x1) (x2) (h : Keeps m s0 x0) : Keeps m s0 (State.setPinOut x0 x1 x2) := by unfold State.setPinOut; grind [State.setBit_keeps]
theorem State.putPinLevel_keeps {s0 : State} (x0 : State) (x1) (x2) (h : Keeps m s0 x0) : Keeps m s0 (State.putPinLevel x0 x1 x2) := by unfold State.putPinLevel; grind [State.setBit_keeps]
theorem State.setPinLevel_keeps {s0 : State} (x0 : State) (x1) (x2) (h : Keeps m s0 x0) (_ : m .events := by first | assumption | exact True.intro) (_ : m .flows := by first | assumption | exact True.intro) : Keeps m s0 (State.setPinLevel x0 x1 x2) := by unfold State.setPinLevel; grind [State.catchEdge_keeps, State.putPinLevel_keeps]
theorem State.setVernier_keeps {s0 : State} (x0 : State) (x1) (x2) (h : Keeps m s0 x0) (_ : m .verniers := by first | assumption | exact True.intro) : Keeps m s0 (State.setVernier x0 x1 x2) := by unfold State.setVernier; grind [Keeps.upd]
theorem State.setTimer_keeps {s0 : State} (x0 : State) (x1) (x2) (x3) (h : Keeps m s0 x0) (_ : m .timers := by first | assumption | exact True.intro) : Keeps m s0 (State.setTimer x0 x1 x2 x3) := by unfold State.setTimer; grind [Keeps.upd]
theorem State.settlePin_keeps {s0 : State} (x0 : State) (x1) (h : Keeps m s0 x0) (_ : m .events := by first | assumption | exact True.intro) (_ : m .flows := by first | assumption | exact True.intro) : Keeps m s0 (State.settlePin x0 x1) := by unfold State.settlePin; grind [State.setPinLevel_keeps]
theorem State.settlePins_keeps {s0 : State} (x0 : State) (x1) (h : Keeps m s0 x0) (_ : m .events := by first | assumption | exact True.intro) (_ : m .flows := by first | assumption | exact True.intro) : Keeps m s0 (State.settlePins x0 x1) := by revert h; fun_induction State.settlePins x0 x1 <;> grind [State.settlePin_keeps]
theorem State.settleAll_keeps {s0 : State} (x0 : State) (h : Keeps m s0 x0) (_ : m .events := by first | assumption | exact True.intro) (_ : m .flows := by first | assumption | exact True.intro) : Keeps m s0 (State.settleAll x0) := by unfold State.settleAll; grind [State.settlePins_keeps]
theorem State.pinWrite_keeps {s0 : State} (x0 : State) (x1) (x2) (x3) (h : Keeps m s0 x0) (_ : m .events := by first | assumption | exact True.intro) (_ : m .flows := by first | assumption | exact True.intro) : Keeps m s0 (State.pinWrite x0 x1 x2 x3) := by unfold State.pinWrite; grind [State.settlePin_keeps, State.setPinOut_keeps]
theorem writeFldCfg_keeps {s0 : State} (x0) (x1) (x2 : State) (h : Keeps m s0 x2) (_ : m .events := by first | assumption | exact True.intro) (_ : m .flows := by first | assumption | exact True.intro) : EKeeps m s0 (writeFldCfg x0 x1 x2) := by unfold writeFldCfg; grind [State.plainWrite_keeps, State.put_keeps, State.settlePin_keeps, EKeeps, Effect.ok, Effect.kept, Effect.denied, Effect.retry]
theorem State.ppsStep_keeps {s0 : State} (x0 : State) (x1) (h : Keeps m s0 x0) (_ : m .time := by first | assumption | exact True.intro) : Keeps m s0 (x0.ppsStep x1) :=
  Keeps.of _ _ _ (State.count_keeps _ _ _ h) rfl rfl rfl rfl
theorem State.ppsRebase_keeps {s0 : State} (x0 : State) (h : Keeps m s0 x0) (_ : m .time := by first | assumption | exact True.intro) : Keeps m s0 (State.ppsRebase x0) := by unfold State.ppsRebase; grind [Keeps.upd]
theorem writeFldPps_keeps {s0 : State} (x0) (x1 : State) (h : Keeps m s0 x1) : EKeeps m s0 (writeFldPps x0 x1) := by unfold writeFldPps; grind [Effect.ok_keeps, State.put_keeps, State.plainWrite_keeps, EKeeps, Effect.ok, Effect.kept, Effect.denied, Effect.retry]
theorem writeFldPpsofs_keeps {s0 : State} (x0) (x1 : State) (h : Keeps m s0 x1) (_ : m .time := by first | assumption | exact True.intro) : EKeeps m s0 (writeFldPpsofs x0 x1) := by
  unfold writeFldPpsofs
  split
  · exact Effect.kept_keeps _ h
  · exact Effect.ok_keeps _ (Keeps.of _ _ _ (State.plainWrite_keeps _ _ _ h) rfl rfl rfl rfl)
theorem execStampPointEdge_keeps {s0 : State} (x0) (x1) (x2) (x3 : State) (h : Keeps m s0 x3) (_ : m .time := by first | assumption | exact True.intro) (_ : m .occultation := by first | assumption | exact True.intro) : ∀ r, execStampPointEdge x0 x1 x2 x3 = .next r → Keeps m s0 r := by unfold execStampPointEdge; grind [State.stampEdge_keeps, State.frameClock_keeps]
theorem execFieldPinEdge_keeps {s0 : State} (x0) (x1) (x2 : State) (h : Keeps m s0 x2) (_ : m .events := by first | assumption | exact True.intro) (_ : m .flows := by first | assumption | exact True.intro) : ∀ r, execFieldPinEdge x0 x1 x2 = .next r → Keeps m s0 r := by unfold execFieldPinEdge; grind [State.putPinLevel_keeps, State.setBit_keeps, State.setPinLevel_keeps]
theorem execFldCfgWrite_keeps {s0 : State} (x0) (x1) (x2) (x3 : State) (h : Keeps m s0 x3) (_ : m .events := by first | assumption | exact True.intro) (_ : m .answers := by first | assumption | exact True.intro) (_ : m .flows := by first | assumption | exact True.intro) : ∀ r, execFldCfgWrite x0 x1 x2 x3 = .next r → Keeps m s0 r := by unfold execFldCfgWrite; grind [State.writeReg_keeps, writeFldCfg_keeps]
theorem execPpsRising_keeps {s0 : State} (x0 : State) (h : Keeps m s0 x0) (_ : m .time := by first | assumption | exact True.intro) (_ : m .events := by first | assumption | exact True.intro) (_ : m .flows := by first | assumption | exact True.intro) : ∀ r, execPpsRising x0 = .next r → Keeps m s0 r := by unfold execPpsRising; grind [State.count_keeps, State.settlePins_keeps, Keeps.upd]
theorem execPpsFalling_keeps {s0 : State} (x0 : State) (h : Keeps m s0 x0) (_ : m .time := by first | assumption | exact True.intro) (_ : m .events := by first | assumption | exact True.intro) (_ : m .flows := by first | assumption | exact True.intro) : ∀ r, execPpsFalling x0 = .next r → Keeps m s0 r := by unfold execPpsFalling; grind [State.settlePins_keeps, Keeps.upd]
theorem State.vernierStart_keeps {s0 : State} (x0 : State) (x1) (h : Keeps m s0 x0) (_ : m .events := by first | assumption | exact True.intro) (_ : m .flows := by first | assumption | exact True.intro) (_ : m .verniers := by first | assumption | exact True.intro) : Keeps m s0 (x0.vernierStart x1) := by
  have hs (t x) (ht : Keeps m s0 t) : Keeps m s0 (t.setVernier x1 x) := State.setVernier_keeps _ _ _ ht
  have hp (t f v) (ht : Keeps m s0 t) : Keeps m s0 (t.put f v) := State.put_keeps _ _ _ ht
  unfold State.vernierStart
  simp only
  split
  · exact State.settlePins_keeps _ _ (hs _ _ (hp _ _ _ (hp _ _ _ (hp _ _ _ h))))
  · exact State.settlePins_keeps _ _ (hs _ _ (hp _ _ _ (hp _ _ _ (hp _ _ _ h))))
  · exact hs _ _ h
  · split
    · exact hs _ _ (hp _ _ _ h)
    · exact hs _ _ h
  · exact h
theorem State.vernierRestart_keeps {s0 : State} (x0 : State) (x1) (h : Keeps m s0 x0) (_ : m .events := by first | assumption | exact True.intro) (_ : m .flows := by first | assumption | exact True.intro) (_ : m .verniers := by first | assumption | exact True.intro) : Keeps m s0 (State.vernierRestart x0 x1) := by unfold State.vernierRestart; grind [State.vernierStart_keeps]
theorem State.vernierStop_keeps {s0 : State} (x0 : State) (x1) (h : Keeps m s0 x0) (_ : m .verniers := by first | assumption | exact True.intro) : Keeps m s0 (State.vernierStop x0 x1) := by unfold State.vernierStop; grind [State.setVernier_keeps, State.put_keeps]
theorem State.startJoined_keeps {s0 : State} (x0 : State) (x1) (h : Keeps m s0 x0) (_ : m .events := by first | assumption | exact True.intro) (_ : m .flows := by first | assumption | exact True.intro) (_ : m .verniers := by first | assumption | exact True.intro) : Keeps m s0 (State.startJoined x0 x1) := by revert h; fun_induction State.startJoined x0 x1 <;> grind [State.vernierRestart_keeps]
theorem State.groupStart_keeps {s0 : State} (x0 : State) (x1) (h : Keeps m s0 x0) (_ : m .events := by first | assumption | exact True.intro) (_ : m .flows := by first | assumption | exact True.intro) (_ : m .verniers := by first | assumption | exact True.intro) : Keeps m s0 (State.groupStart x0 x1) := by unfold State.groupStart; grind [State.startJoined_keeps]
theorem State.groupStarts_keeps {s0 : State} (x0 : State) (x1) (h : Keeps m s0 x0) (_ : m .events := by first | assumption | exact True.intro) (_ : m .flows := by first | assumption | exact True.intro) (_ : m .verniers := by first | assumption | exact True.intro) : Keeps m s0 (State.groupStarts x0 x1) := by revert h; fun_induction State.groupStarts x0 x1 <;> grind [State.groupStart_keeps]
theorem State.vernierFault_keeps {s0 : State} (x0 : State) (h : Keeps m s0 x0) (_ : m .events := by first | assumption | exact True.intro) (_ : m .flows := by first | assumption | exact True.intro) : Keeps m s0 (State.vernierFault x0) := by unfold State.vernierFault; grind [State.registerEvent_keeps]
theorem State.driveSlot_keeps {s0 : State} (x0 : State) (x1) (x2) (x3) (x4) (h : Keeps m s0 x0) (_ : m .events := by first | assumption | exact True.intro) (_ : m .flows := by first | assumption | exact True.intro) (_ : m .verniers := by first | assumption | exact True.intro) : Keeps m s0 (State.driveSlot x0 x1 x2 x3 x4) := by unfold State.driveSlot; grind [State.vernierFault_keeps, State.put_keeps, State.settlePin_keeps, State.setVernier_keeps]
theorem State.driveSlots_keeps {s0 : State} (x0 : State) (x1) (x2) (x3) (x4) (h : Keeps m s0 x0) (_ : m .events := by first | assumption | exact True.intro) (_ : m .flows := by first | assumption | exact True.intro) (_ : m .verniers := by first | assumption | exact True.intro) : Keeps m s0 (State.driveSlots x0 x1 x2 x3 x4) := by revert h; fun_induction State.driveSlots x0 x1 x2 x3 x4 <;> grind [State.driveSlot_keeps]
theorem State.vernierPush_keeps {s0 : State} (x0 : State) (x1) (x2) (h : Keeps m s0 x0) (_ : m .verniers := by first | assumption | exact True.intro) : Keeps m s0 (State.vernierPush x0 x1 x2).2 := by unfold State.vernierPush; grind [State.setVernier_keeps, State.put_keeps]
theorem State.vernierPull_keeps {s0 : State} (x0 : State) (x1) (h : Keeps m s0 x0) : Keeps m s0 (State.vernierPull x0 x1).2 := by unfold State.vernierPull; grind [State.put_keeps]
theorem State.vernierFlags_keeps {s0 : State} (x0 : State) (x1) (x2) (x3) (x4) (h : Keeps m s0 x0) (_ : m .verniers := by first | assumption | exact True.intro) : Keeps m s0 (State.vernierFlags x0 x1 x2 x3 x4) := by unfold State.vernierFlags; grind [State.setVernier_keeps, State.orBits_keeps, State.clearBits_keeps]
theorem State.shiftStep_keeps {s0 : State} (x0 : State) (x1) (x2) (x3) (h : Keeps m s0 x0) (_ : m .events := by first | assumption | exact True.intro) (_ : m .flows := by first | assumption | exact True.intro) (_ : m .verniers := by first | assumption | exact True.intro) : Keeps m s0 (State.shiftStep x0 x1 x2 x3) := by unfold State.shiftStep; grind [State.setReg_keeps, State.driveSlot_keeps]
theorem State.stallVernier_keeps {s0 : State} (x0 : State) (x1) (h : Keeps m s0 x0) : Keeps m s0 (State.stallVernier x0 x1) := by unfold State.stallVernier; grind [State.put_keeps]
theorem State.endInsn_keeps {s0 : State} (x0 : State) (x1) (x2) (x3) (h : Keeps m s0 x0) (_ : m .verniers := by first | assumption | exact True.intro) : Keeps m s0 (State.endInsn x0 x1 x2 x3) := by unfold State.endInsn; grind [State.setVernier_keeps, State.put_keeps]
theorem State.takeBranch_keeps {s0 : State} (x0 : State) (x1) (x2) (h : Keeps m s0 x0) (_ : m .verniers := by first | assumption | exact True.intro) : Keeps m s0 (State.takeBranch x0 x1 x2) := by unfold State.takeBranch; grind [State.setVernier_keeps, State.put_keeps]
theorem State.runInsn_keeps {s0 : State} (x0 : State) (x1) (x2) (x3) (h : Keeps m s0 x0) (_ : m .events := by first | assumption | exact True.intro) (_ : m .flows := by first | assumption | exact True.intro) (_ : m .verniers := by first | assumption | exact True.intro) : Keeps m s0 (State.runInsn x0 x1 x2 x3) := by unfold State.runInsn; grind [State.endInsn_keeps, State.driveSlots_keeps, State.shiftStep_keeps, State.put_keeps, State.setReg_keeps, State.registerEvent_keeps, State.stallVernier_keeps, State.setVernier_keeps, State.takeBranch_keeps, State.clearBits_keeps, State.vernierFlags_keeps]
theorem State.vernierIll_keeps {s0 : State} (x0 : State) (x1) (h : Keeps m s0 x0) (_ : m .events := by first | assumption | exact True.intro) (_ : m .flows := by first | assumption | exact True.intro) : Keeps m s0 (State.vernierIll x0 x1) := by unfold State.vernierIll; grind [State.settlePins_keeps, State.vernierFault_keeps, State.put_keeps]
theorem State.vernierStep_keeps {s0 : State} (x0 : State) (x1) (h : Keeps m s0 x0) (_ : m .events := by first | assumption | exact True.intro) (_ : m .flows := by first | assumption | exact True.intro) (_ : m .verniers := by first | assumption | exact True.intro) : Keeps m s0 (State.vernierStep x0 x1) := by unfold State.vernierStep; grind [State.setVernier_keeps, State.shiftStep_keeps, State.runInsn_keeps, State.put_keeps, State.vernierIll_keeps]
theorem State.vernierRow_keeps {s0 : State} (x0 : State) (x1) (x2) (h : Keeps m s0 x0) (_ : m .events := by first | assumption | exact True.intro) (_ : m .flows := by first | assumption | exact True.intro) (_ : m .verniers := by first | assumption | exact True.intro) : Keeps m s0 (State.vernierRow x0 x1 x2) := by unfold State.vernierRow; grind [State.vernierStep_keeps]
theorem writeVrnCtl_keeps {s0 : State} (x0) (x1) (x2 : State) (h : Keeps m s0 x2) (_ : m .events := by first | assumption | exact True.intro) (_ : m .flows := by first | assumption | exact True.intro) (_ : m .verniers := by first | assumption | exact True.intro) : EKeeps m s0 (writeVrnCtl x0 x1 x2) := by unfold writeVrnCtl; grind [State.plainWrite_keeps, State.vernierStart_keeps, Effect.ok_keeps, State.vernierStop_keeps, EKeeps, Effect.ok, Effect.kept, Effect.denied, Effect.retry]
theorem writeVrnClk_keeps {s0 : State} (x0) (x1) (x2 : State) (h : Keeps m s0 x2) : EKeeps m s0 (writeVrnClk x0 x1 x2) := by unfold writeVrnClk; grind [State.plainWrite_keeps, Effect.ok_keeps, State.put_keeps, EKeeps, Effect.ok, Effect.kept, Effect.denied, Effect.retry]
theorem writeVrnPins_keeps {s0 : State} (x0) (x1) (x2 : State) (h : Keeps m s0 x2) (_ : m .events := by first | assumption | exact True.intro) (_ : m .flows := by first | assumption | exact True.intro) : EKeeps m s0 (writeVrnPins x0 x1 x2) := by unfold writeVrnPins; grind [State.settlePins_keeps, State.plainWrite_keeps, EKeeps, Effect.ok, Effect.kept, Effect.denied, Effect.retry]
theorem writeVrnGstart_keeps {s0 : State} (x0) (x1 : State) (h : Keeps m s0 x1) (_ : m .events := by first | assumption | exact True.intro) (_ : m .flows := by first | assumption | exact True.intro) (_ : m .verniers := by first | assumption | exact True.intro) : EKeeps m s0 (writeVrnGstart x0 x1) := by unfold writeVrnGstart; grind [Effect.ok_keeps, State.groupStarts_keeps, EKeeps, Effect.ok, Effect.kept, Effect.denied, Effect.retry]
theorem writeVrnImem_keeps {s0 : State} (x0) (x1) (x2) (x3) (x4 : State) (h : Keeps m s0 x4) (_ : m .answers := by first | assumption | exact True.intro) : EKeeps m s0 (writeVrnImem x0 x1 x2 x3 x4) := by
  unfold writeVrnImem
  split
  · exact Effect.denied_keeps _ _ h
  · exact ⟨State.plainWrite_keeps _ _ _ h, fun _ hu => State.logChange_keeps _ _ _ _ _ _ _ _ hu⟩
theorem execVrnCtlStart_keeps {s0 : State} (x0) (x1) (x2) (x3 : State) (h : Keeps m s0 x3) (_ : m .events := by first | assumption | exact True.intro) (_ : m .answers := by first | assumption | exact True.intro) (_ : m .flows := by first | assumption | exact True.intro) (_ : m .verniers := by first | assumption | exact True.intro) : ∀ r, execVrnCtlStart x0 x1 x2 x3 = .next r → Keeps m s0 r := by unfold execVrnCtlStart; grind [State.writeReg_keeps, writeVrnCtl_keeps]
theorem execVrnCtlStop_keeps {s0 : State} (x0) (x1) (x2) (x3 : State) (h : Keeps m s0 x3) (_ : m .events := by first | assumption | exact True.intro) (_ : m .answers := by first | assumption | exact True.intro) (_ : m .flows := by first | assumption | exact True.intro) (_ : m .verniers := by first | assumption | exact True.intro) : ∀ r, execVrnCtlStop x0 x1 x2 x3 = .next r → Keeps m s0 r := by unfold execVrnCtlStop; grind [State.writeReg_keeps, writeVrnCtl_keeps]
theorem execGroupStart_keeps {s0 : State} (x0) (x1) (x2 : State) (h : Keeps m s0 x2) (_ : m .events := by first | assumption | exact True.intro) (_ : m .answers := by first | assumption | exact True.intro) (_ : m .flows := by first | assumption | exact True.intro) (_ : m .verniers := by first | assumption | exact True.intro) : ∀ r, execGroupStart x0 x1 x2 = .next r → Keeps m s0 r := by unfold execGroupStart; grind [State.writeReg_keeps, writeVrnGstart_keeps]
theorem execVrnImemWrite_keeps {s0 : State} (x0) (x1) (x2) (x3) (x4 : State) (h : Keeps m s0 x4) (_ : m .answers := by first | assumption | exact True.intro) : ∀ r, execVrnImemWrite x0 x1 x2 x3 x4 = .next r → Keeps m s0 r := by unfold execVrnImemWrite; grind [State.writeReg_keeps, writeVrnImem_keeps]
theorem execIdle_keeps {s0 : State} (x0) (x1 : State) (h : Keeps m s0 x1) (_ : m .events := by first | assumption | exact True.intro) (_ : m .flows := by first | assumption | exact True.intro) (_ : m .verniers := by first | assumption | exact True.intro) : ∀ r, execIdle x0 x1 = .next r → Keeps m s0 r := by unfold execIdle; grind [State.vernierRow_keeps]
theorem execSetp_keeps {s0 : State} (x0) (x1 : State) (h : Keeps m s0 x1) (_ : m .events := by first | assumption | exact True.intro) (_ : m .flows := by first | assumption | exact True.intro) (_ : m .verniers := by first | assumption | exact True.intro) : ∀ r, execSetp x0 x1 = .next r → Keeps m s0 r := by unfold execSetp; grind [State.vernierRow_keeps]
theorem execSete_keeps {s0 : State} (x0) (x1 : State) (h : Keeps m s0 x1) (_ : m .events := by first | assumption | exact True.intro) (_ : m .flows := by first | assumption | exact True.intro) (_ : m .verniers := by first | assumption | exact True.intro) : ∀ r, execSete x0 x1 = .next r → Keeps m s0 r := by unfold execSete; grind [State.vernierRow_keeps]
theorem execEmit_keeps {s0 : State} (x0) (x1 : State) (h : Keeps m s0 x1) (_ : m .events := by first | assumption | exact True.intro) (_ : m .flows := by first | assumption | exact True.intro) (_ : m .verniers := by first | assumption | exact True.intro) : ∀ r, execEmit x0 x1 = .next r → Keeps m s0 r := by unfold execEmit; grind [State.vernierRow_keeps]
theorem execGather_keeps {s0 : State} (x0) (x1 : State) (h : Keeps m s0 x1) (_ : m .events := by first | assumption | exact True.intro) (_ : m .flows := by first | assumption | exact True.intro) (_ : m .verniers := by first | assumption | exact True.intro) : ∀ r, execGather x0 x1 = .next r → Keeps m s0 r := by unfold execGather; grind [State.vernierRow_keeps]
theorem execVernierLoad_keeps {s0 : State} (x0) (x1 : State) (h : Keeps m s0 x1) (_ : m .events := by first | assumption | exact True.intro) (_ : m .flows := by first | assumption | exact True.intro) (_ : m .verniers := by first | assumption | exact True.intro) : ∀ r, execVernierLoad x0 x1 = .next r → Keeps m s0 r := by unfold execVernierLoad; grind [State.vernierRow_keeps]
theorem execPost_keeps {s0 : State} (x0) (x1 : State) (h : Keeps m s0 x1) (_ : m .events := by first | assumption | exact True.intro) (_ : m .flows := by first | assumption | exact True.intro) (_ : m .verniers := by first | assumption | exact True.intro) : ∀ r, execPost x0 x1 = .next r → Keeps m s0 r := by unfold execPost; grind [State.vernierRow_keeps]
theorem execTally_keeps {s0 : State} (x0) (x1 : State) (h : Keeps m s0 x1) (_ : m .events := by first | assumption | exact True.intro) (_ : m .flows := by first | assumption | exact True.intro) (_ : m .verniers := by first | assumption | exact True.intro) : ∀ r, execTally x0 x1 = .next r → Keeps m s0 r := by unfold execTally; grind [State.vernierRow_keeps]
theorem execVernierBr_keeps {s0 : State} (x0) (x1 : State) (h : Keeps m s0 x1) (_ : m .events := by first | assumption | exact True.intro) (_ : m .flows := by first | assumption | exact True.intro) (_ : m .verniers := by first | assumption | exact True.intro) : ∀ r, execVernierBr x0 x1 = .next r → Keeps m s0 r := by unfold execVernierBr; grind [State.vernierRow_keeps]
theorem execVernierWait_keeps {s0 : State} (x0) (x1 : State) (h : Keeps m s0 x1) (_ : m .events := by first | assumption | exact True.intro) (_ : m .flows := by first | assumption | exact True.intro) (_ : m .verniers := by first | assumption | exact True.intro) : ∀ r, execVernierWait x0 x1 = .next r → Keeps m s0 r := by unfold execVernierWait; grind [State.vernierRow_keeps]
theorem execStmp_keeps {s0 : State} (x0) (x1 : State) (h : Keeps m s0 x1) (_ : m .events := by first | assumption | exact True.intro) (_ : m .flows := by first | assumption | exact True.intro) (_ : m .verniers := by first | assumption | exact True.intro) : ∀ r, execStmp x0 x1 = .next r → Keeps m s0 r := by unfold execStmp; grind [State.vernierRow_keeps]
theorem execFlg_keeps {s0 : State} (x0) (x1 : State) (h : Keeps m s0 x1) (_ : m .events := by first | assumption | exact True.intro) (_ : m .flows := by first | assumption | exact True.intro) (_ : m .verniers := by first | assumption | exact True.intro) : ∀ r, execFlg x0 x1 = .next r → Keeps m s0 r := by unfold execFlg; grind [State.vernierRow_keeps]
theorem execRep_keeps {s0 : State} (x0) (x1 : State) (h : Keeps m s0 x1) (_ : m .events := by first | assumption | exact True.intro) (_ : m .flows := by first | assumption | exact True.intro) (_ : m .verniers := by first | assumption | exact True.intro) : ∀ r, execRep x0 x1 = .next r → Keeps m s0 r := by unfold execRep; grind [State.vernierRow_keeps]
theorem State.setTracker_keeps {s0 : State} (x0 : State) (x1) (x2) (h : Keeps m s0 x0) (_ : m .clockDrive := by first | assumption | exact True.intro) : Keeps m s0 (State.setTracker x0 x1 x2) := by unfold State.setTracker; grind [Keeps.upd]
theorem State.shiftTrackers_keeps {s0 : State} (x0 : State) (x1) (h : Keeps m s0 x0) (_ : m .clockDrive := by first | assumption | exact True.intro) : Keeps m s0 (State.shiftTrackers x0 x1) := by unfold State.shiftTrackers; grind [Keeps.upd]
theorem State.evsrc_keeps {s0 : State} (x0 : State) (x1) (x2) (x3) (h : Keeps m s0 x0) (_ : m .events := by first | assumption | exact True.intro) (_ : m .flows := by first | assumption | exact True.intro) : Keeps m s0 (State.evsrc x0 x1 x2 x3) := by unfold State.evsrc; grind [State.registerEvent_keeps, State.orBits_keeps]
theorem State.trackerEvent_keeps {s0 : State} (x0 : State) (x1) (h : Keeps m s0 x0) (_ : m .events := by first | assumption | exact True.intro) (_ : m .flows := by first | assumption | exact True.intro) : Keeps m s0 (State.trackerEvent x0 x1) := by unfold State.trackerEvent; grind [State.evsrc_keeps]
theorem State.phaseCaptures_keeps {s0 : State} (x0 : State) (x1) (x2) (x3) (x4) (h : Keeps m s0 x0) (_ : m .events := by first | assumption | exact True.intro) (_ : m .flows := by first | assumption | exact True.intro) : Keeps m s0 (State.phaseCaptures x0 x1 x2 x3 x4) := by revert h; fun_induction State.phaseCaptures x0 x1 x2 x3 x4 <;> grind [State.setReg_keeps, State.put_keeps, State.evsrc_keeps]
theorem State.timerAct_keeps {s0 : State} (x0 : State) (x1) (x2) (x3) (h : Keeps m s0 x0) (_ : m .timers := by first | assumption | exact True.intro) : Keeps m s0 (State.timerAct x0 x1 x2 x3) := by unfold State.timerAct; grind [State.setTimer_keeps]
theorem State.stampCrossing_keeps {s0 : State} (x0 : State) (x1) (x2) (x3) (x4) (h : Keeps m s0 x0) (_ : m .time := by first | assumption | exact True.intro) : Keeps m s0 (State.stampCrossing x0 x1 x2 x3 x4) := by unfold State.stampCrossing; grind [State.fresh_keeps, State.putStamp_keeps]
theorem State.timerDrive_keeps {s0 : State} (x0 : State) (x1) (x2) (x3) (x4) (h : Keeps m s0 x0) (_ : m .time := by first | assumption | exact True.intro) (_ : m .events := by first | assumption | exact True.intro) (_ : m .flows := by first | assumption | exact True.intro) : Keeps m s0 (State.timerDrive x0 x1 x2 x3 x4) := by unfold State.timerDrive; grind [State.stampCrossing_keeps, State.settlePin_keeps]
theorem State.timerDriveAt_keeps {s0 : State} (x0 : State) (x1) (x2) (x3) (h : Keeps m s0 x0) (_ : m .time := by first | assumption | exact True.intro) (_ : m .events := by first | assumption | exact True.intro) (_ : m .flows := by first | assumption | exact True.intro) : Keeps m s0 (State.timerDriveAt x0 x1 x2 x3) := by unfold State.timerDriveAt; grind [State.timerDrive_keeps]
theorem State.timerEvent_keeps {s0 : State} (x0 : State) (x1) (x2) (x3) (x4) (h : Keeps m s0 x0) (_ : m .events := by first | assumption | exact True.intro) (_ : m .flows := by first | assumption | exact True.intro) (_ : m .timers := by first | assumption | exact True.intro) : Keeps m s0 (State.timerEvent x0 x1 x2 x3 x4) := by unfold State.timerEvent; grind [State.registerEvent_keeps, State.setTimer_keeps]
theorem State.timerMatch_keeps {s0 : State} (x0 : State) (x1) (x2) (x3) (h : Keeps m s0 x0) (_ : m .timers := by first | assumption | exact True.intro) : Keeps m s0 (State.timerMatch x0 x1 x2 x3) := by unfold State.timerMatch; grind [State.put_keeps, State.timerAct_keeps]
theorem State.timerWrapped_keeps {s0 : State} (x0 : State) (x1) (x2) (x3) (h : Keeps m s0 x0) (_ : m .timers := by first | assumption | exact True.intro) : Keeps m s0 (State.timerWrapped x0 x1 x2 x3) := by unfold State.timerWrapped; grind [State.put_keeps, State.timerAct_keeps]
theorem State.timerReload_keeps {s0 : State} (x0 : State) (x1) (x2) (h : Keeps m s0 x0) (_ : m .timers := by first | assumption | exact True.intro) : Keeps m s0 (State.timerReload x0 x1 x2) := by unfold State.timerReload; grind [State.setTimer_keeps]
theorem State.timerLatched_keeps {s0 : State} (x0 : State) (x1) (x2) (x3) (h : Keeps m s0 x0) : Keeps m s0 (State.timerLatched x0 x1 x2 x3) := by unfold State.timerLatched; grind [State.setReg_keeps, State.put_keeps]
theorem State.timerOneStop_keeps {s0 : State} (x0 : State) (x1) (x2) (h : Keeps m s0 x0) : Keeps m s0 (State.timerOneStop x0 x1 x2) := by unfold State.timerOneStop; grind [State.put_keeps, State.timerLatched_keeps]
theorem State.matchAtWrap_keeps {s0 : State} (x0 : State) (x1) (x2) (x3) (h : Keeps m s0 x0) (_ : m .timers := by first | assumption | exact True.intro) : Keeps m s0 (State.matchAtWrap x0 x1 x2 x3).2 := by unfold State.matchAtWrap; grind [State.timerMatch_keeps]
theorem State.timerWrap_keeps {s0 : State} (x0 : State) (x1) (x2) (x3) (h : Keeps m s0 x0) (_ : m .timers := by first | assumption | exact True.intro) : Keeps m s0 (State.timerWrap x0 x1 x2 x3).2 := by unfold State.timerWrap; grind [State.timerOneStop_keeps, State.matchAtWrap_keeps, State.timerWrapped_keeps, State.timerReload_keeps, State.setTimer_keeps]
theorem State.timerStep_keeps {s0 : State} (x0 : State) (x1) (x2) (x3) (x4) (h : Keeps m s0 x0) (_ : m .timers := by first | assumption | exact True.intro) : Keeps m s0 (State.timerStep x0 x1 x2 x3 x4) := by unfold State.timerStep; grind [State.setTimer_keeps]
theorem State.timerHappening_keeps {s0 : State} (x0 : State) (x1) (x2) (x3) (h : Keeps m s0 x0) (_ : m .timers := by first | assumption | exact True.intro) : Keeps m s0 (State.timerHappening x0 x1 x2 x3).2 := by unfold State.timerHappening; grind [State.timerMatch_keeps, State.timerStep_keeps, State.timerWrap_keeps]
theorem State.timerNext_keeps {s0 : State} (x0 : State) (x1) (x2) (h : Keeps m s0 x0) (_ : m .time := by first | assumption | exact True.intro) (_ : m .events := by first | assumption | exact True.intro) (_ : m .flows := by first | assumption | exact True.intro) (_ : m .timers := by first | assumption | exact True.intro) : Keeps m s0 (State.timerNext x0 x1 x2) := by unfold State.timerNext; grind [State.timerHappening_keeps, State.timerDriveAt_keeps, State.timerEvent_keeps]
theorem State.timerHappenings_keeps {s0 : State} (x0 : State) (x1) (x2) (x3) (x4) (h : Keeps m s0 x0) (_ : m .time := by first | assumption | exact True.intro) (_ : m .events := by first | assumption | exact True.intro) (_ : m .flows := by first | assumption | exact True.intro) (_ : m .timers := by first | assumption | exact True.intro) : Keeps m s0 (State.timerHappenings x0 x1 x2 x3 x4) := by revert h; fun_induction State.timerHappenings x0 x1 x2 x3 x4 <;> grind [State.timerNext_keeps]
theorem State.timerCatchUp_keeps {s0 : State} (x0 : State) (x1) (x2) (x3) (h : Keeps m s0 x0) (_ : m .time := by first | assumption | exact True.intro) (_ : m .events := by first | assumption | exact True.intro) (_ : m .flows := by first | assumption | exact True.intro) (_ : m .timers := by first | assumption | exact True.intro) : Keeps m s0 (State.timerCatchUp x0 x1 x2 x3) := by unfold State.timerCatchUp; grind [State.timerHappenings_keeps]
theorem State.timerPassed_keeps {s0 : State} (x0 : State) (x1) (x2) (x3) (h : Keeps m s0 x0) (_ : m .timers := by first | assumption | exact True.intro) : Keeps m s0 (State.timerPassed x0 x1 x2 x3).2 := by revert h; fun_induction State.timerPassed x0 x1 x2 x3 <;> grind [State.timerHappening_keeps]
theorem State.timerJump_keeps {s0 : State} (x0 : State) (x1) (x2) (h : Keeps m s0 x0) (_ : m .time := by first | assumption | exact True.intro) (_ : m .events := by first | assumption | exact True.intro) (_ : m .flows := by first | assumption | exact True.intro) (_ : m .timers := by first | assumption | exact True.intro) : Keeps m s0 (State.timerJump x0 x1 x2) := by unfold State.timerJump; grind [State.timerDriveAt_keeps, State.timerPassed_keeps, State.timerEvent_keeps]
theorem State.timerSync_keeps {s0 : State} (x0 : State) (x1) (x2) (x3) (h : Keeps m s0 x0) (_ : m .time := by first | assumption | exact True.intro) (_ : m .events := by first | assumption | exact True.intro) (_ : m .flows := by first | assumption | exact True.intro) (_ : m .timers := by first | assumption | exact True.intro) : Keeps m s0 (State.timerSync x0 x1 x2 x3) := by unfold State.timerSync; grind [State.timerStep_keeps, State.timerCatchUp_keeps]
theorem State.timerSettle_keeps {s0 : State} (x0 : State) (x1) (x2) (h : Keeps m s0 x0) (_ : m .time := by first | assumption | exact True.intro) (_ : m .events := by first | assumption | exact True.intro) (_ : m .flows := by first | assumption | exact True.intro) (_ : m .timers := by first | assumption | exact True.intro) : Keeps m s0 (State.timerSettle x0 x1 x2) := by unfold State.timerSettle; grind [State.timerSync_keeps]
theorem State.timerRebase_keeps {s0 : State} (x0 : State) (x1) (x2) (h : Keeps m s0 x0) (_ : m .timers := by first | assumption | exact True.intro) : Keeps m s0 (State.timerRebase x0 x1 x2) := by unfold State.timerRebase; grind [State.setTimer_keeps]
theorem State.timerStart_keeps {s0 : State} (x0 : State) (x1) (x2) (h : Keeps m s0 x0) (_ : m .timers := by first | assumption | exact True.intro) : Keeps m s0 (State.timerStart x0 x1 x2) := by unfold State.timerStart; grind [State.put_keeps, State.setTimer_keeps]
theorem State.timerStop_keeps {s0 : State} (x0 : State) (x1) (x2) (h : Keeps m s0 x0) (_ : m .time := by first | assumption | exact True.intro) (_ : m .events := by first | assumption | exact True.intro) (_ : m .flows := by first | assumption | exact True.intro) (_ : m .timers := by first | assumption | exact True.intro) : Keeps m s0 (x0.timerStop x1 x2) := by
  unfold State.timerStop
  grind [State.timerSync_keeps, State.timerLatched_keeps]
theorem State.timerLatch_keeps {s0 : State} (x0 : State) (x1) (x2) (h : Keeps m s0 x0) (_ : m .time := by first | assumption | exact True.intro) (_ : m .events := by first | assumption | exact True.intro) (_ : m .flows := by first | assumption | exact True.intro) (_ : m .timers := by first | assumption | exact True.intro) : Keeps m s0 (State.timerLatch x0 x1 x2).2 := by unfold State.timerLatch; grind [State.timerSettle_keeps]
theorem State.timerPutLatch_keeps {s0 : State} (x0 : State) (x1) (x2) (x3) (h : Keeps m s0 x0) : Keeps m s0 (State.timerPutLatch x0 x1 x2 x3) := by unfold State.timerPutLatch; grind [State.setReg_keeps, State.put_keeps]
theorem State.timerCapture_keeps {s0 : State} (x0 : State) (x1) (x2) (h : Keeps m s0 x0) (_ : m .time := by first | assumption | exact True.intro) (_ : m .events := by first | assumption | exact True.intro) (_ : m .flows := by first | assumption | exact True.intro) (_ : m .timers := by first | assumption | exact True.intro) : Keeps m s0 (State.timerCapture x0 x1 x2) := by unfold State.timerCapture; grind [State.timerLatch_keeps, State.timerPutLatch_keeps]
theorem State.putCapture_keeps {s0 : State} (x0 : State) (x1) (x2) (x3) (x4) (x5) (h : Keeps m s0 x0) : Keeps m s0 (State.putCapture x0 x1 x2 x3 x4 x5) := by unfold State.putCapture; grind [State.setReg_keeps, State.put_keeps]
theorem State.captureRead_keeps {s0 : State} (x0 : State) (x1) (x2) (x3) (x4) (h : Keeps m s0 x0) : Keeps m s0 (State.captureRead x0 x1 x2 x3 x4).2 := by unfold State.captureRead; grind [State.put_keeps]
theorem State.seeEdges_keeps {s0 : State} (x0 : State) (x1) (x2) (x3) (x4) (h : Keeps m s0 x0) (_ : m .timers := by first | assumption | exact True.intro) : Keeps m s0 (State.seeEdges x0 x1 x2 x3 x4) := by unfold State.seeEdges; grind [State.setTimer_keeps]
theorem State.captureWords_keeps {s0 : State} (x0 : State) (x1) (x2) (x3) (h : Keeps m s0 x0) (_ : m .time := by first | assumption | exact True.intro) (_ : m .events := by first | assumption | exact True.intro) (_ : m .flows := by first | assumption | exact True.intro) (_ : m .timers := by first | assumption | exact True.intro) : Keeps m s0 (State.captureWords x0 x1 x2 x3).2.2 := by unfold State.captureWords; grind [State.timerCatchUp_keeps]
theorem State.edgeCapture_keeps {s0 : State} (x0 : State) (x1) (x2) (x3) (x4) (x5) (h : Keeps m s0 x0) (_ : m .time := by first | assumption | exact True.intro) (_ : m .events := by first | assumption | exact True.intro) (_ : m .flows := by first | assumption | exact True.intro) (_ : m .timers := by first | assumption | exact True.intro) : Keeps m s0 (State.edgeCapture x0 x1 x2 x3 x4 x5) := by unfold State.edgeCapture; grind [State.captureWords_keeps, State.timerEvent_keeps, State.seeEdges_keeps, State.timerSettle_keeps, State.putCapture_keeps]
theorem State.timerParm_keeps {s0 : State} (x0 : State) (x1) (x2) (x3) (x4) (h : Keeps m s0 x0) (_ : m .time := by first | assumption | exact True.intro) (_ : m .events := by first | assumption | exact True.intro) (_ : m .flows := by first | assumption | exact True.intro) (_ : m .timers := by first | assumption | exact True.intro) : Keeps m s0 (State.timerParm x0 x1 x2 x3 x4).2 := by unfold State.timerParm; grind [State.put_keeps, State.timerSettle_keeps, State.setTimer_keeps]
theorem State.timerDisarm_keeps {s0 : State} (x0 : State) (x1) (x2) (h : Keeps m s0 x0) (_ : m .time := by first | assumption | exact True.intro) (_ : m .events := by first | assumption | exact True.intro) (_ : m .flows := by first | assumption | exact True.intro) (_ : m .timers := by first | assumption | exact True.intro) : Keeps m s0 (State.timerDisarm x0 x1 x2) := by unfold State.timerDisarm; grind [State.put_keeps, State.timerSettle_keeps]
theorem State.timerParmFire_keeps {s0 : State} (x0 : State) (x1) (x2) (h : Keeps m s0 x0) (_ : m .time := by first | assumption | exact True.intro) (_ : m .events := by first | assumption | exact True.intro) (_ : m .flows := by first | assumption | exact True.intro) (_ : m .timers := by first | assumption | exact True.intro) : Keeps m s0 (State.timerParmFire x0 x1 x2) := by unfold State.timerParmFire; grind [State.timerDisarm_keeps, State.timerEvent_keeps, State.put_keeps, State.timerAct_keeps, State.timerDrive_keeps]
theorem State.timerAbort_keeps {s0 : State} (x0 : State) (x1) (x2) (h : Keeps m s0 x0) (_ : m .time := by first | assumption | exact True.intro) (_ : m .events := by first | assumption | exact True.intro) (_ : m .flows := by first | assumption | exact True.intro) (_ : m .timers := by first | assumption | exact True.intro) : Keeps m s0 (State.timerAbort x0 x1 x2) := by unfold State.timerAbort; grind [State.timerDisarm_keeps, State.timerEvent_keeps, State.put_keeps]
theorem State.eachTimer_keeps {s0 : State} (x0 : State) (x1 : State → Nat → Nat → State) (x2) (h : Keeps m s0 x0)
    (hf : ∀ u a b, Keeps m s0 u → Keeps m s0 (x1 u a b)) : Keeps m s0 (x0.eachTimer x1 x2) := by
  induction x2 generalizing x0 with
  | nil => exact h
  | cons b bs ih => exact ih _ (hf _ _ _ h)
theorem State.abortTimers_keeps {s0 : State} (x0 : State) (x1) (h : Keeps m s0 x0) (_ : m .time := by first | assumption | exact True.intro) (_ : m .events := by first | assumption | exact True.intro) (_ : m .flows := by first | assumption | exact True.intro) (_ : m .timers := by first | assumption | exact True.intro) : Keeps m s0 (State.abortTimers x0 x1) := by unfold State.abortTimers; grind [State.eachTimer_keeps, State.timerAbort_keeps]
theorem State.syncPhaseTimers_keeps {s0 : State} (x0 : State) (x1) (h : Keeps m s0 x0) (_ : m .time := by first | assumption | exact True.intro) (_ : m .events := by first | assumption | exact True.intro) (_ : m .flows := by first | assumption | exact True.intro) (_ : m .timers := by first | assumption | exact True.intro) : Keeps m s0 (State.syncPhaseTimers x0 x1) := by unfold State.syncPhaseTimers; grind [State.timerSettle_keeps, State.eachTimer_keeps]
theorem State.jumpPhaseTimers_keeps {s0 : State} (x0 : State) (x1) (x2) (h : Keeps m s0 x0) (_ : m .time := by first | assumption | exact True.intro) (_ : m .events := by first | assumption | exact True.intro) (_ : m .flows := by first | assumption | exact True.intro) (_ : m .timers := by first | assumption | exact True.intro) : Keeps m s0 (State.jumpPhaseTimers x0 x1 x2) := by unfold State.jumpPhaseTimers; grind [State.timerJump_keeps, State.setTimer_keeps, State.eachTimer_keeps]
theorem State.rebasePhaseTimers_keeps {s0 : State} (x0 : State) (x1) (h : Keeps m s0 x0) (_ : m .timers := by first | assumption | exact True.intro) : Keeps m s0 (State.rebasePhaseTimers x0 x1) := by unfold State.rebasePhaseTimers; grind [State.eachTimer_keeps, State.timerRebase_keeps]
theorem State.startTimersOn_keeps {s0 : State} (x0 : State) (x1) (h : Keeps m s0 x0) (_ : m .timers := by first | assumption | exact True.intro) : Keeps m s0 (State.startTimersOn x0 x1) := by unfold State.startTimersOn; grind [State.eachTimer_keeps, State.timerStart_keeps]
theorem State.setEng_keeps {s0 : State} (x0 : State) (x1) (x2) (h : Keeps m s0 x0) (_ : m .engines := by first | assumption | exact True.intro) : Keeps m s0 (State.setEng x0 x1 x2) := by unfold State.setEng; grind [Keeps.upd]
theorem State.setWatchdog_keeps {s0 : State} (x0 : State) (x1) (x2) (h : Keeps m s0 x0) (_ : m .timers := by first | assumption | exact True.intro) : Keeps m s0 (State.setWatchdog x0 x1 x2) := by unfold State.setWatchdog; grind [Keeps.upd]
theorem State.watchdogRestart_keeps {s0 : State} (x0 : State) (x1) (h : Keeps m s0 x0) (_ : m .timers := by first | assumption | exact True.intro) : Keeps m s0 (State.watchdogRestart x0 x1) := by unfold State.watchdogRestart; grind [State.setWatchdog_keeps]
theorem State.watchdogHold_keeps {s0 : State} (x0 : State) (x1) (h : Keeps m s0 x0) (_ : m .timers := by first | assumption | exact True.intro) : Keeps m s0 (State.watchdogHold x0 x1) := by unfold State.watchdogHold; grind [State.setWatchdog_keeps]
theorem State.watchdogSettle_keeps {s0 : State} (x0 : State) (x1) (h : Keeps m s0 x0) (_ : m .timers := by first | assumption | exact True.intro) : Keeps m s0 (State.watchdogSettle x0 x1) := by unfold State.watchdogSettle; grind [State.setWatchdog_keeps, State.watchdogHold_keeps]
theorem State.watchdogExpire_keeps {s0 : State} (x0 : State) (x1) (h : Keeps m s0 x0) (_ : m .timers := by first | assumption | exact True.intro) : Keeps m s0 (State.watchdogExpire x0 x1) := by unfold State.watchdogExpire; grind [State.watchdogRestart_keeps, State.count_keeps, State.put_keeps, State.setWatchdog_keeps]
theorem State.watchdogKick_keeps {s0 : State} (x0 : State) (x1) (x2) (h : Keeps m s0 x0) (_ : m .timers := by first | assumption | exact True.intro) : Keeps m s0 (State.watchdogKick x0 x1 x2) := by unfold State.watchdogKick; grind [State.watchdogRestart_keeps, State.watchdogExpire_keeps]
theorem State.freezeTimers_keeps {s0 : State} (x0 : State) (x1) (x2) (h : Keeps m s0 x0) (_ : m .time := by first | assumption | exact True.intro) (_ : m .events := by first | assumption | exact True.intro) (_ : m .flows := by first | assumption | exact True.intro) (_ : m .timers := by first | assumption | exact True.intro) : Keeps m s0 (State.freezeTimers x0 x1 x2) := by unfold State.freezeTimers; grind [State.timerRebase_keeps, State.timerSettle_keeps, State.setTimer_keeps, State.eachTimer_keeps]
theorem State.setEngineState_keeps {s0 : State} (x0 : State) (x1) (x2) (h : Keeps m s0 x0) (_ : m .time := by first | assumption | exact True.intro) (_ : m .events := by first | assumption | exact True.intro) (_ : m .flows := by first | assumption | exact True.intro) (_ : m .timers := by first | assumption | exact True.intro) : Keeps m s0 (State.setEngineState x0 x1 x2) := by unfold State.setEngineState; grind [State.watchdogRestart_keeps, State.watchdogSettle_keeps, State.put_keeps, State.freezeTimers_keeps]
theorem State.timerCtlWrite_keeps {s0 : State} (x0 : State) (x1) (x2) (x3) (x4) (h : Keeps m s0 x0) (_ : m .time := by first | assumption | exact True.intro) (_ : m .events := by first | assumption | exact True.intro) (_ : m .flows := by first | assumption | exact True.intro) (_ : m .timers := by first | assumption | exact True.intro) : Keeps m s0 (State.timerCtlWrite x0 x1 x2 x3 x4) := by unfold State.timerCtlWrite; grind [State.setReg_keeps, State.timerDisarm_keeps, State.timerRebase_keeps, State.timerCapture_keeps, State.seeEdges_keeps, State.timerSettle_keeps]
theorem writeTmrCtl_keeps {s0 : State} (x0) (x1) (x2) (x3) (x4 : State) (h : Keeps m s0 x4) (_ : m .time := by first | assumption | exact True.intro) (_ : m .events := by first | assumption | exact True.intro) (_ : m .flows := by first | assumption | exact True.intro) (_ : m .timers := by first | assumption | exact True.intro) : EKeeps m s0 (writeTmrCtl x0 x1 x2 x3 x4) := by unfold writeTmrCtl; grind [Effect.ok_keeps, State.timerCtlWrite_keeps, EKeeps, Effect.ok, Effect.kept, Effect.denied, Effect.retry]
theorem writeTmrCnt_keeps {s0 : State} (x0) (x1) (x2) (x3 : State) (h : Keeps m s0 x3) : EKeeps m s0 (writeTmrCnt x0 x1 x2 x3) := by unfold writeTmrCnt; grind [State.setReg_keeps, Effect.ok_keeps, State.put_keeps, Effect.denied_keeps, EKeeps, Effect.ok, Effect.kept, Effect.denied, Effect.retry]
theorem writeTmrIo_keeps {s0 : State} (x0) (x1) (x2) (x3 : State) (h : Keeps m s0 x3) (_ : m .time := by first | assumption | exact True.intro) (_ : m .events := by first | assumption | exact True.intro) (_ : m .flows := by first | assumption | exact True.intro) (_ : m .timers := by first | assumption | exact True.intro) : EKeeps m s0 (writeTmrIo x0 x1 x2 x3) := by unfold writeTmrIo; grind [State.timerRebase_keeps, State.settlePins_keeps, State.plainWrite_keeps, State.seeEdges_keeps, State.timerSettle_keeps, EKeeps, Effect.ok, Effect.kept, Effect.denied, Effect.retry]
theorem writeTmrWdctl_keeps {s0 : State} (x0) (x1) (x2 : State) (h : Keeps m s0 x2) (_ : m .timers := by first | assumption | exact True.intro) : EKeeps m s0 (writeTmrWdctl x0 x1 x2) := by unfold writeTmrWdctl; grind [State.watchdogRestart_keeps, Effect.ok_keeps, State.watchdogSettle_keeps, State.plainWrite_keeps, EKeeps, Effect.ok, Effect.kept, Effect.denied, Effect.retry]
theorem writeTmrWdper_keeps {s0 : State} (x0) (x1) (x2 : State) (h : Keeps m s0 x2) : EKeeps m s0 (writeTmrWdper x0 x1 x2) := by unfold writeTmrWdper; grind [State.plainWrite_keeps, Effect.ok_keeps, State.put_keeps, EKeeps, Effect.ok, Effect.kept, Effect.denied, Effect.retry]
theorem execTimerStart_keeps {s0 : State} (x0) (x1) (x2 : State) (h : Keeps m s0 x2) (_ : m .timers := by first | assumption | exact True.intro) : ∀ r, execTimerStart x0 x1 x2 = .next r → Keeps m s0 r := by unfold execTimerStart; grind [State.timerStart_keeps]
theorem execTimerWrap_keeps {s0 : State} (x0) (x1) (x2 : State) (h : Keeps m s0 x2) (_ : m .time := by first | assumption | exact True.intro) (_ : m .events := by first | assumption | exact True.intro) (_ : m .flows := by first | assumption | exact True.intro) (_ : m .timers := by first | assumption | exact True.intro) : ∀ r, execTimerWrap x0 x1 x2 = .next r → Keeps m s0 r := by unfold execTimerWrap; grind [State.timerNext_keeps]
theorem execTimerCompareMatch_keeps {s0 : State} (x0) (x1) (x2 : State) (h : Keeps m s0 x2) (_ : m .time := by first | assumption | exact True.intro) (_ : m .events := by first | assumption | exact True.intro) (_ : m .flows := by first | assumption | exact True.intro) (_ : m .timers := by first | assumption | exact True.intro) : ∀ r, execTimerCompareMatch x0 x1 x2 = .next r → Keeps m s0 r := by unfold execTimerCompareMatch; grind [State.timerNext_keeps]
theorem execTimerStop_keeps {s0 : State} (x0) (x1) (x2 : State) (h : Keeps m s0 x2) (_ : m .time := by first | assumption | exact True.intro) (_ : m .events := by first | assumption | exact True.intro) (_ : m .flows := by first | assumption | exact True.intro) (_ : m .timers := by first | assumption | exact True.intro) : ∀ r, execTimerStop x0 x1 x2 = .next r → Keeps m s0 r := by unfold execTimerStop; grind [State.timerStop_keeps]
theorem execPhaseModeCompareFire_keeps {s0 : State} (x0) (x1) (x2 : State) (h : Keeps m s0 x2) (_ : m .time := by first | assumption | exact True.intro) (_ : m .events := by first | assumption | exact True.intro) (_ : m .flows := by first | assumption | exact True.intro) (_ : m .timers := by first | assumption | exact True.intro) : ∀ r, execPhaseModeCompareFire x0 x1 x2 = .next r → Keeps m s0 r := by unfold execPhaseModeCompareFire; grind [State.timerParmFire_keeps]
theorem execPdis_keeps {s0 : State} (x0) (x1) (x2) (x3) (x4 : State) (h : Keeps m s0 x4) (_ : m .time := by first | assumption | exact True.intro) (_ : m .events := by first | assumption | exact True.intro) (_ : m .answers := by first | assumption | exact True.intro) (_ : m .flows := by first | assumption | exact True.intro) (_ : m .timers := by first | assumption | exact True.intro) : ∀ r, execPdis x0 x1 x2 x3 x4 = .next r → Keeps m s0 r := by unfold execPdis; grind [State.writeReg_keeps, writeTmrCtl_keeps]
theorem execScap_keeps {s0 : State} (x0) (x1) (x2) (x3) (x4 : State) (h : Keeps m s0 x4) (_ : m .time := by first | assumption | exact True.intro) (_ : m .events := by first | assumption | exact True.intro) (_ : m .answers := by first | assumption | exact True.intro) (_ : m .flows := by first | assumption | exact True.intro) (_ : m .timers := by first | assumption | exact True.intro) : ∀ r, execScap x0 x1 x2 x3 x4 = .next r → Keeps m s0 r := by unfold execScap; grind [State.writeReg_keeps, writeTmrCtl_keeps]
theorem execEdgeCapture_keeps {s0 : State} (x0) (x1) (x2) (x3) (x4 : State) (h : Keeps m s0 x4) (_ : m .time := by first | assumption | exact True.intro) (_ : m .events := by first | assumption | exact True.intro) (_ : m .flows := by first | assumption | exact True.intro) (_ : m .timers := by first | assumption | exact True.intro) : ∀ r, execEdgeCapture x0 x1 x2 x3 x4 = .next r → Keeps m s0 r := by unfold execEdgeCapture; grind [State.edgeCapture_keeps]
theorem execTmrCntWrite_keeps {s0 : State} (x0) (x1) (x2) (x3) (x4 : State) (h : Keeps m s0 x4) (_ : m .answers := by first | assumption | exact True.intro) : ∀ r, execTmrCntWrite x0 x1 x2 x3 x4 = .next r → Keeps m s0 r := by unfold execTmrCntWrite; grind [State.writeReg_keeps, writeTmrCnt_keeps]
theorem execTmrCtlWrite_keeps {s0 : State} (x0) (x1) (x2) (x3) (x4 : State) (h : Keeps m s0 x4) (_ : m .time := by first | assumption | exact True.intro) (_ : m .events := by first | assumption | exact True.intro) (_ : m .answers := by first | assumption | exact True.intro) (_ : m .flows := by first | assumption | exact True.intro) (_ : m .timers := by first | assumption | exact True.intro) : ∀ r, execTmrCtlWrite x0 x1 x2 x3 x4 = .next r → Keeps m s0 r := by unfold execTmrCtlWrite; grind [State.writeReg_keeps, writeTmrCtl_keeps]
theorem execWatchdogKick_keeps {s0 : State} (x0) (x1) (x2) (x3 : State) (h : Keeps m s0 x3) (_ : m .answers := by first | assumption | exact True.intro) (_ : m .timers := by first | assumption | exact True.intro) : ∀ r, execWatchdogKick x0 x1 x2 x3 = .next r → Keeps m s0 r := by unfold execWatchdogKick; grind [State.writeReg_keeps, Effect.ok_keeps, State.watchdogKick_keeps]
theorem execWatchdogExpiry_keeps {s0 : State} (x0) (x1 : State) (h : Keeps m s0 x1) (_ : m .timers := by first | assumption | exact True.intro) : ∀ r, execWatchdogExpiry x0 x1 = .next r → Keeps m s0 r := by unfold execWatchdogExpiry; grind [State.watchdogExpire_keeps]
theorem State.setPhaseTarget_keeps {s0 : State} (x0 : State) (x1) (x2) (h : Keeps m s0 x0) (_ : m .clockDrive := by first | assumption | exact True.intro) : Keeps m s0 (State.setPhaseTarget x0 x1 x2) := by unfold State.setPhaseTarget; grind [Keeps.upd]
theorem State.palmEvent_keeps {s0 : State} (x0 : State) (x1) (h : Keeps m s0 x0) (_ : m .events := by first | assumption | exact True.intro) (_ : m .flows := by first | assumption | exact True.intro) : Keeps m s0 (State.palmEvent x0 x1) := by unfold State.palmEvent; grind [State.evsrc_keeps]
theorem State.palmAbort_keeps {s0 : State} (x0 : State) (x1) (h : Keeps m s0 x0) (_ : m .events := by first | assumption | exact True.intro) (_ : m .flows := by first | assumption | exact True.intro) : Keeps m s0 (State.palmAbort x0 x1) := by unfold State.palmAbort; grind [State.palmEvent_keeps, State.put_keeps]
theorem State.eachPalm_keeps {s0 : State} (x0 : State) (x1 : State → Nat → State) (x2) (h : Keeps m s0 x0)
    (hf : ∀ u a, Keeps m s0 u → Keeps m s0 (x1 u a)) : Keeps m s0 (x0.eachPalm x1 x2) := by
  induction x2 generalizing x0 with
  | nil => exact h
  | cons b bs ih => exact ih _ (hf _ _ h)
theorem State.abortTargets_keeps {s0 : State} (x0 : State) (x1) (h : Keeps m s0 x0) (_ : m .time := by first | assumption | exact True.intro) (_ : m .events := by first | assumption | exact True.intro) (_ : m .flows := by first | assumption | exact True.intro) (_ : m .timers := by first | assumption | exact True.intro) : Keeps m s0 (State.abortTargets x0 x1) := by unfold State.abortTargets; grind [State.abortTimers_keeps, State.eachPalm_keeps, State.palmAbort_keeps]
theorem State.jumpPalms_keeps {s0 : State} (x0 : State) (x1) (x2) (h : Keeps m s0 x0) (_ : m .clockDrive := by first | assumption | exact True.intro) : Keeps m s0 (State.jumpPalms x0 x1 x2) := by unfold State.jumpPalms; grind [State.eachPalm_keeps, State.setPhaseTarget_keeps]
theorem State.palmTerr_keeps {s0 : State} (x0 : State) (x1) (h : Keeps m s0 x0) (_ : m .events := by first | assumption | exact True.intro) (_ : m .flows := by first | assumption | exact True.intro) : Keeps m s0 (State.palmTerr x0 x1) := by unfold State.palmTerr; grind [State.palmEvent_keeps, State.put_keeps]
theorem State.palmArm_keeps {s0 : State} (x0 : State) (x1) (h : Keeps m s0 x0) (_ : m .events := by first | assumption | exact True.intro) (_ : m .flows := by first | assumption | exact True.intro) (_ : m .clockDrive := by first | assumption | exact True.intro) : Keeps m s0 (State.palmArm x0 x1).2 := by unfold State.palmArm; grind [State.palmTerr_keeps, State.put_keeps, State.setPhaseTarget_keeps]
theorem State.palmMarks_keeps {s0 : State} (x0 : State) (x1) (x2) (h : Keeps m s0 x0) : Keeps m s0 (State.palmMarks x0 x1 x2) := by unfold State.palmMarks; grind [State.put_keeps]
theorem State.palmFire_keeps {s0 : State} (x0 : State) (x1) (h : Keeps m s0 x0) (_ : m .events := by first | assumption | exact True.intro) (_ : m .flows := by first | assumption | exact True.intro) : Keeps m s0 (State.palmFire x0 x1) := by unfold State.palmFire; grind [State.palmEvent_keeps, State.put_keeps, State.palmMarks_keeps]
theorem State.palmPeriodicFire_keeps {s0 : State} (x0 : State) (x1) (h : Keeps m s0 x0) (_ : m .events := by first | assumption | exact True.intro) (_ : m .flows := by first | assumption | exact True.intro) (_ : m .clockDrive := by first | assumption | exact True.intro) : Keeps m s0 (State.palmPeriodicFire x0 x1) := by unfold State.palmPeriodicFire; grind [State.palmEvent_keeps, State.palmMarks_keeps, State.setPhaseTarget_keeps]
theorem State.palmEntryFire_keeps {s0 : State} (x0 : State) (x1) (h : Keeps m s0 x0) (_ : m .events := by first | assumption | exact True.intro) (_ : m .flows := by first | assumption | exact True.intro) (_ : m .verniers := by first | assumption | exact True.intro) (_ : m .clockDrive := by first | assumption | exact True.intro) : Keeps m s0 (State.palmEntryFire x0 x1) := by unfold State.palmEntryFire; grind [State.palmTerr_keeps, State.palmEvent_keeps, State.groupStart_keeps, State.put_keeps, State.palmMarks_keeps, State.setPhaseTarget_keeps]
theorem writePalmCtl_keeps {s0 : State} (x0) (x1) (x2) (x3 : State) (h : Keeps m s0 x3) (_ : m .events := by first | assumption | exact True.intro) (_ : m .flows := by first | assumption | exact True.intro) (_ : m .clockDrive := by first | assumption | exact True.intro) : EKeeps m s0 (writePalmCtl x0 x1 x2 x3) := by unfold writePalmCtl; grind [Effect.ok_keeps, State.palmArm_keeps, State.plainWrite_keeps, State.put_keeps, Effect.denied_keeps, EKeeps, Effect.ok, Effect.kept, Effect.denied, Effect.retry]
theorem writePalmValue_keeps {s0 : State} (x0) (x1) (x2) (x3) (x4 : State) (h : Keeps m s0 x4) : EKeeps m s0 (writePalmValue x0 x1 x2 x3 x4) := by unfold writePalmValue; grind [Effect.denied_keeps, Effect.kept_keeps, State.put_keeps, Effect.ok_keeps, State.plainWrite_keeps, EKeeps, Effect.ok, Effect.kept, Effect.denied, Effect.retry]
theorem writeEphHi_keeps {s0 : State} (x0) (x1) (x2) (x3 : State) (h : Keeps m s0 x3) : EKeeps m s0 (writeEphHi x0 x1 x2 x3) := by
  unfold writeEphHi
  try simp only []
  repeat' first | exact h | apply State.put_keeps | apply Effect.ok_keeps | apply State.setReg_keeps | apply State.plainWrite_keeps | split
  all_goals grind [State.put_keeps, Effect.ok_keeps, State.setReg_keeps, State.plainWrite_keeps, Keeps.upd, EKeeps, Effect.ok, Effect.kept, Effect.denied, Effect.retry]
theorem writeEphLo_keeps {s0 : State} (x0) (x1 : State) (h : Keeps m s0 x1) (_ : m .clockDrive := by first | assumption | exact True.intro) : EKeeps m s0 (writeEphLo x0 x1) := by unfold writeEphLo; grind [Effect.ok_keeps, EKeeps, Effect.ok, Effect.kept, Effect.denied, Effect.retry, Keeps.upd]
theorem State.setTrackerState_keeps {s0 : State} (x0 : State) (x1) (x2) (h : Keeps m s0 x0) (_ : m .events := by first | assumption | exact True.intro) (_ : m .flows := by first | assumption | exact True.intro) : Keeps m s0 (State.setTrackerState x0 x1 x2) := by unfold State.setTrackerState; grind [State.put_keeps, State.trackerEvent_keeps]
theorem State.trackerEnterLost_keeps {s0 : State} (x0 : State) (x1) (h : Keeps m s0 x0) (_ : m .time := by first | assumption | exact True.intro) (_ : m .events := by first | assumption | exact True.intro) (_ : m .flows := by first | assumption | exact True.intro) (_ : m .timers := by first | assumption | exact True.intro) : Keeps m s0 (State.trackerEnterLost x0 x1) := by unfold State.trackerEnterLost; grind [State.setTrackerState_keeps, State.abortTargets_keeps]
theorem State.trackerEnterHoldover_keeps {s0 : State} (x0 : State) (x1) (h : Keeps m s0 x0) (_ : m .time := by first | assumption | exact True.intro) (_ : m .events := by first | assumption | exact True.intro) (_ : m .flows := by first | assumption | exact True.intro) (_ : m .timers := by first | assumption | exact True.intro) (_ : m .clockDrive := by first | assumption | exact True.intro) : Keeps m s0 (State.trackerEnterHoldover x0 x1) := by unfold State.trackerEnterHoldover; grind [State.setTracker_keeps, State.setTrackerState_keeps, State.put_keeps, State.setReg_keeps, State.abortTargets_keeps, State.trackerEnterLost_keeps]
theorem State.trackerOffEntry_keeps {s0 : State} (x0 : State) (x1) (h : Keeps m s0 x0) (_ : m .time := by first | assumption | exact True.intro) (_ : m .events := by first | assumption | exact True.intro) (_ : m .flows := by first | assumption | exact True.intro) (_ : m .timers := by first | assumption | exact True.intro) (_ : m .clockDrive := by first | assumption | exact True.intro) : Keeps m s0 (State.trackerOffEntry x0 x1) := by
  unfold State.trackerOffEntry
  try simp only []
  repeat' first | exact h | apply State.setTracker_keeps | apply State.abortTargets_keeps | apply State.setTrackerState_keeps | apply State.put_keeps | apply State.setReg_keeps | split
  all_goals grind [State.setTracker_keeps, State.abortTargets_keeps, State.setTrackerState_keeps, State.put_keeps, State.setReg_keeps, Keeps.upd]
theorem State.trackerOn_keeps {s0 : State} (x0 : State) (x1) (h : Keeps m s0 x0) (_ : m .events := by first | assumption | exact True.intro) (_ : m .flows := by first | assumption | exact True.intro) (_ : m .clockDrive := by first | assumption | exact True.intro) : Keeps m s0 (State.trackerOn x0 x1) := by unfold State.trackerOn; grind [State.setTrackerState_keeps, State.setTracker_keeps]
theorem State.trackerCycload_keeps {s0 : State} (x0 : State) (x1) (h : Keeps m s0 x0) (_ : m .time := by first | assumption | exact True.intro) (_ : m .events := by first | assumption | exact True.intro) (_ : m .flows := by first | assumption | exact True.intro) (_ : m .timers := by first | assumption | exact True.intro) (_ : m .clockDrive := by first | assumption | exact True.intro) : Keeps m s0 (State.trackerCycload x0 x1) := by unfold State.trackerCycload; grind [State.syncPhaseTimers_keeps, State.rebasePhaseTimers_keeps, State.setTracker_keeps]
theorem writePtCtl_keeps {s0 : State} (x0) (x1) (x2 : State) (h : Keeps m s0 x2) (_ : m .time := by first | assumption | exact True.intro) (_ : m .events := by first | assumption | exact True.intro) (_ : m .flows := by first | assumption | exact True.intro) (_ : m .timers := by first | assumption | exact True.intro) (_ : m .clockDrive := by first | assumption | exact True.intro) : EKeeps m s0 (writePtCtl x0 x1 x2) := by unfold writePtCtl; grind [State.plainWrite_keeps, State.trackerCycload_keeps, Effect.ok_keeps, State.trackerOn_keeps, State.trackerOffEntry_keeps, EKeeps, Effect.ok, Effect.kept, Effect.denied, Effect.retry]
theorem writePtCfg_keeps {s0 : State} (x0) (x1) (x2 : State) (h : Keeps m s0 x2) : EKeeps m s0 (writePtCfg x0 x1 x2) := by unfold writePtCfg; grind [Effect.denied_keeps, State.plainWrite_keeps, Effect.ok_keeps, State.put_keeps, EKeeps, Effect.ok, Effect.kept, Effect.denied, Effect.retry]
theorem writePtSrc_keeps {s0 : State} (x0) (x1) (x2 : State) (h : Keeps m s0 x2) : EKeeps m s0 (writePtSrc x0 x1 x2) := by unfold writePtSrc; grind [Effect.denied_keeps, Effect.kept_keeps, Effect.ok_keeps, State.plainWrite_keeps, EKeeps, Effect.ok, Effect.kept, Effect.denied, Effect.retry]
theorem State.trackerInstant_keeps {s0 : State} (x0 : State) (x1) (x2) (x3) (h : Keeps m s0 x0) (_ : m .clockDrive := by first | assumption | exact True.intro) : Keeps m s0 (State.trackerInstant x0 x1 x2 x3) := by unfold State.trackerInstant; grind [State.setTracker_keeps]
theorem State.phaseFeed_keeps {s0 : State} (x0 : State) (x1) (x2) (x3) (x4) (x5) (h : Keeps m s0 x0) (_ : m .clockDrive := by first | assumption | exact True.intro) : Keeps m s0 (State.phaseFeed x0 x1 x2 x3 x4 x5) := by unfold State.phaseFeed; grind [State.trackerInstant_keeps]
theorem State.zeroCrossing_keeps {s0 : State} (x0 : State) (x1) (x2) (h : Keeps m s0 x0) (_ : m .clockDrive := by first | assumption | exact True.intro) : Keeps m s0 (State.zeroCrossing x0 x1 x2) := by unfold State.zeroCrossing; grind [State.trackerInstant_keeps, State.setTracker_keeps]
theorem State.setPath_keeps {s0 : State} (x0 : State) (x1) (x2) (x3) (x4) (x5) (h : Keeps m s0 x0) (_ : m .clockDrive := by first | assumption | exact True.intro) : Keeps m s0 (State.setPath x0 x1 x2 x3 x4 x5) := by unfold State.setPath; grind [State.setTracker_keeps]
theorem State.phaseForward_keeps {s0 : State} (x0 : State) (x1) (x2) (x3) (x4 : State → State) (h : Keeps m s0 x0)
    (hf : ∀ u, Keeps m s0 u → Keeps m s0 (x4 u)) (_ : m .time := by first | assumption | exact True.intro) (_ : m .events := by first | assumption | exact True.intro) (_ : m .flows := by first | assumption | exact True.intro) (_ : m .timers := by first | assumption | exact True.intro) (_ : m .clockDrive := by first | assumption | exact True.intro) : Keeps m s0 (x0.phaseForward x1 x2 x3 x4) := by
  unfold State.phaseForward
  exact State.jumpPhaseTimers_keeps _ _ _ (State.jumpPalms_keeps _ _ _ (hf _ (State.setPath_keeps _ _ _ _ _ _ (State.syncPhaseTimers_keeps _ _ h))))
theorem State.putEstimate_keeps {s0 : State} (x0 : State) (x1) (x2) (h : Keeps m s0 x0) (_ : m .clockDrive := by first | assumption | exact True.intro) : Keeps m s0 (State.putEstimate x0 x1 x2) := by unfold State.putEstimate; grind [State.setTracker_keeps, State.setReg_keeps]
theorem State.applyEstimate_keeps {s0 : State} (x0 : State) (x1) (x2) (h : Keeps m s0 x0) (_ : m .time := by first | assumption | exact True.intro) (_ : m .events := by first | assumption | exact True.intro) (_ : m .flows := by first | assumption | exact True.intro) (_ : m .timers := by first | assumption | exact True.intro) (_ : m .clockDrive := by first | assumption | exact True.intro) : Keeps m s0 (State.applyEstimate x0 x1 x2) := by unfold State.applyEstimate; grind [State.putEstimate_keeps, State.phaseForward_keeps, State.put_keeps, State.trackerEvent_keeps, State.setPath_keeps]
theorem State.lockForward_keeps {s0 : State} (x0 : State) (x1) (x2) (h : Keeps m s0 x0) (_ : m .time := by first | assumption | exact True.intro) (_ : m .events := by first | assumption | exact True.intro) (_ : m .flows := by first | assumption | exact True.intro) (_ : m .timers := by first | assumption | exact True.intro) (_ : m .clockDrive := by first | assumption | exact True.intro) : Keeps m s0 (State.lockForward x0 x1 x2) := by unfold State.lockForward; grind [State.phaseForward_keeps, State.putEstimate_keeps]
theorem State.trackerUpdate_keeps {s0 : State} (x0 : State) (x1) (x2) (h : Keeps m s0 x0) (_ : m .time := by first | assumption | exact True.intro) (_ : m .events := by first | assumption | exact True.intro) (_ : m .flows := by first | assumption | exact True.intro) (_ : m .timers := by first | assumption | exact True.intro) (_ : m .clockDrive := by first | assumption | exact True.intro) : Keeps m s0 (State.trackerUpdate x0 x1 x2) := by unfold State.trackerUpdate; grind [State.lockForward_keeps, State.setTrackerState_keeps, State.trackerEnterHoldover_keeps, State.setTracker_keeps, State.applyEstimate_keeps, State.put_keeps]
theorem State.latchPhases_keeps {s0 : State} (x0 : State) (x1) (h : Keeps m s0 x0) : Keeps m s0 (State.latchPhases x0 x1) := by revert h; fun_induction State.latchPhases x0 x1 <;> grind [State.setReg_keeps]
theorem State.phaseSnapshot_keeps {s0 : State} (x0 : State) (h : Keeps m s0 x0) : Keeps m s0 (State.phaseSnapshot x0) := by
  unfold State.phaseSnapshot
  extract_lets t1 t2
  have h1 : Keeps m s0 t1 := State.setReg_keeps _ _ _ (State.setReg_keeps _ _ _ (State.setReg_keeps _ _ _ h))
  have h2 : Keeps m s0 t2 := State.latchPhases_keeps _ _ h1
  exact State.put_keeps _ _ _ (State.put_keeps _ _ _ h2)
theorem writeCdrSnap_keeps {s0 : State} (x0) (x1 : State) (h : Keeps m s0 x1) : EKeeps m s0 (writeCdrSnap x0 x1) := by unfold writeCdrSnap; grind [Effect.ok_keeps, State.phaseSnapshot_keeps, EKeeps, Effect.ok, Effect.kept, Effect.denied, Effect.retry]
theorem State.pcapRead_keeps {s0 : State} (x0 : State) (x1) (x2) (h : Keeps m s0 x0) : Keeps m s0 (State.pcapRead x0 x1 x2).2 := by unfold State.pcapRead; grind [State.put_keeps]
theorem execPcapCycRead_keeps {s0 : State} (x0) (x1) (x2 : State) (h : Keeps m s0 x2) (_ : m .answers := by first | assumption | exact True.intro) : ∀ r, execPcapCycRead x0 x1 x2 = .next r → Keeps m s0 r := by unfold execPcapCycRead; grind [State.answer_keeps, State.pcapRead_keeps]
theorem execCdrSnapshot_keeps {s0 : State} (x0) (x1) (x2 : State) (h : Keeps m s0 x2) (_ : m .answers := by first | assumption | exact True.intro) : ∀ r, execCdrSnapshot x0 x1 x2 = .next r → Keeps m s0 r := by unfold execCdrSnapshot; grind [State.writeReg_keeps, writeCdrSnap_keeps]
theorem execZeroCrossing_keeps {s0 : State} (x0) (x1) (x2 : State) (h : Keeps m s0 x2) (_ : m .clockDrive := by first | assumption | exact True.intro) : ∀ r, execZeroCrossing x0 x1 x2 = .next r → Keeps m s0 r := by unfold execZeroCrossing; grind [State.zeroCrossing_keeps]
theorem execEstimateApplication_keeps {s0 : State} (x0) (x1 : State) (h : Keeps m s0 x1) (_ : m .time := by first | assumption | exact True.intro) (_ : m .events := by first | assumption | exact True.intro) (_ : m .flows := by first | assumption | exact True.intro) (_ : m .timers := by first | assumption | exact True.intro) (_ : m .clockDrive := by first | assumption | exact True.intro) : ∀ r, execEstimateApplication x0 x1 = .next r → Keeps m s0 r := by unfold execEstimateApplication; grind [State.trackerUpdate_keeps]
theorem execCatchupEnd_keeps {s0 : State} (x0) (x1 : State) (h : Keeps m s0 x1) (_ : m .clockDrive := by first | assumption | exact True.intro) : ∀ r, execCatchupEnd x0 x1 = .next r → Keeps m s0 r := by unfold execCatchupEnd; grind [State.put_keeps, State.setPath_keeps]
theorem execTrackerSourceLoss_keeps {s0 : State} (x0) (x1 : State) (h : Keeps m s0 x1) (_ : m .time := by first | assumption | exact True.intro) (_ : m .events := by first | assumption | exact True.intro) (_ : m .flows := by first | assumption | exact True.intro) (_ : m .timers := by first | assumption | exact True.intro) (_ : m .clockDrive := by first | assumption | exact True.intro) : ∀ r, execTrackerSourceLoss x0 x1 = .next r → Keeps m s0 r := by unfold execTrackerSourceLoss; grind [State.trackerEnterHoldover_keeps, State.setTracker_keeps, State.put_keeps]
theorem execHoldoverLimit_keeps {s0 : State} (x0) (x1 : State) (h : Keeps m s0 x1) (_ : m .time := by first | assumption | exact True.intro) (_ : m .events := by first | assumption | exact True.intro) (_ : m .flows := by first | assumption | exact True.intro) (_ : m .timers := by first | assumption | exact True.intro) : ∀ r, execHoldoverLimit x0 x1 = .next r → Keeps m s0 r := by unfold execHoldoverLimit; grind [State.trackerEnterLost_keeps]
theorem execTrackerEnable_keeps {s0 : State} (x0) (x1) (x2) (x3 : State) (h : Keeps m s0 x3) (_ : m .time := by first | assumption | exact True.intro) (_ : m .events := by first | assumption | exact True.intro) (_ : m .answers := by first | assumption | exact True.intro) (_ : m .flows := by first | assumption | exact True.intro) (_ : m .timers := by first | assumption | exact True.intro) (_ : m .clockDrive := by first | assumption | exact True.intro) : ∀ r, execTrackerEnable x0 x1 x2 x3 = .next r → Keeps m s0 r := by unfold execTrackerEnable; grind [State.writeReg_keeps, writePtCtl_keeps]
theorem execTrackerDisable_keeps {s0 : State} (x0) (x1) (x2) (x3 : State) (h : Keeps m s0 x3) (_ : m .time := by first | assumption | exact True.intro) (_ : m .events := by first | assumption | exact True.intro) (_ : m .answers := by first | assumption | exact True.intro) (_ : m .flows := by first | assumption | exact True.intro) (_ : m .timers := by first | assumption | exact True.intro) (_ : m .clockDrive := by first | assumption | exact True.intro) : ∀ r, execTrackerDisable x0 x1 x2 x3 = .next r → Keeps m s0 r := by unfold execTrackerDisable; grind [State.writeReg_keeps, writePtCtl_keeps]
theorem execCycload_keeps {s0 : State} (x0) (x1) (x2) (x3 : State) (h : Keeps m s0 x3) (_ : m .time := by first | assumption | exact True.intro) (_ : m .events := by first | assumption | exact True.intro) (_ : m .answers := by first | assumption | exact True.intro) (_ : m .flows := by first | assumption | exact True.intro) (_ : m .timers := by first | assumption | exact True.intro) (_ : m .clockDrive := by first | assumption | exact True.intro) : ∀ r, execCycload x0 x1 x2 x3 = .next r → Keeps m s0 r := by unfold execCycload; grind [State.writeReg_keeps, writePtCtl_keeps]
theorem execPhaseAlarmArm_keeps {s0 : State} (x0) (x1) (x2) (x3 : State) (h : Keeps m s0 x3) (_ : m .events := by first | assumption | exact True.intro) (_ : m .answers := by first | assumption | exact True.intro) (_ : m .flows := by first | assumption | exact True.intro) (_ : m .clockDrive := by first | assumption | exact True.intro) : ∀ r, execPhaseAlarmArm x0 x1 x2 x3 = .next r → Keeps m s0 r := by unfold execPhaseAlarmArm; grind [State.writeReg_keeps, writePalmCtl_keeps]
theorem execPhaseAlarmDisarm_keeps {s0 : State} (x0) (x1) (x2) (x3 : State) (h : Keeps m s0 x3) (_ : m .events := by first | assumption | exact True.intro) (_ : m .answers := by first | assumption | exact True.intro) (_ : m .flows := by first | assumption | exact True.intro) (_ : m .clockDrive := by first | assumption | exact True.intro) : ∀ r, execPhaseAlarmDisarm x0 x1 x2 x3 = .next r → Keeps m s0 r := by unfold execPhaseAlarmDisarm; grind [State.writeReg_keeps, writePalmCtl_keeps]
theorem execPhaseAlarmFire_keeps {s0 : State} (x0) (x1 : State) (h : Keeps m s0 x1) (_ : m .events := by first | assumption | exact True.intro) (_ : m .flows := by first | assumption | exact True.intro) : ∀ r, execPhaseAlarmFire x0 x1 = .next r → Keeps m s0 r := by unfold execPhaseAlarmFire; grind [State.palmFire_keeps]
theorem execPhaseAlarmPeriodicFire_keeps {s0 : State} (x0) (x1 : State) (h : Keeps m s0 x1) (_ : m .events := by first | assumption | exact True.intro) (_ : m .flows := by first | assumption | exact True.intro) (_ : m .clockDrive := by first | assumption | exact True.intro) : ∀ r, execPhaseAlarmPeriodicFire x0 x1 = .next r → Keeps m s0 r := by unfold execPhaseAlarmPeriodicFire; grind [State.palmPeriodicFire_keeps]
theorem execEphemerisEntryFire_keeps {s0 : State} (x0) (x1 : State) (h : Keeps m s0 x1) (_ : m .events := by first | assumption | exact True.intro) (_ : m .flows := by first | assumption | exact True.intro) (_ : m .verniers := by first | assumption | exact True.intro) (_ : m .clockDrive := by first | assumption | exact True.intro) : ∀ r, execEphemerisEntryFire x0 x1 = .next r → Keeps m s0 r := by unfold execEphemerisEntryFire; grind [State.palmEntryFire_keeps]
theorem execEphemerisEntryWrite_keeps {s0 : State} (x0) (x1) (x2 : State) (h : Keeps m s0 x2) (_ : m .answers := by first | assumption | exact True.intro) : ∀ r, execEphemerisEntryWrite x0 x1 x2 = .next r → Keeps m s0 r := by unfold execEphemerisEntryWrite; grind [State.writeReg_keeps, writeEphHi_keeps]
theorem execTrackerConfigWrite_keeps {s0 : State} (x0) (x1) (x2) (x3) (x4 : State) (h : Keeps m s0 x4) (_ : m .answers := by first | assumption | exact True.intro) : ∀ r, execTrackerConfigWrite x0 x1 x2 x3 x4 = .next r → Keeps m s0 r := by unfold execTrackerConfigWrite; grind [State.writeReg_keeps, writePtCfg_keeps, writePtSrc_keeps]
theorem State.setAlarm_keeps {s0 : State} (x0 : State) (x1) (x2) (h : Keeps m s0 x0) (_ : m .time := by first | assumption | exact True.intro) : Keeps m s0 (State.setAlarm x0 x1 x2) := by unfold State.setAlarm; grind [Keeps.upd]
theorem State.putCompare_keeps {s0 : State} (x0 : State) (x1) (x2) (h : Keeps m s0 x0) : Keeps m s0 (State.putCompare x0 x1 x2) := by unfold State.putCompare; grind [State.setReg_keeps]
theorem State.alarmArm_keeps {s0 : State} (x0 : State) (x1) (h : Keeps m s0 x0) (_ : m .time := by first | assumption | exact True.intro) : Keeps m s0 (State.alarmArm x0 x1).2 := by unfold State.alarmArm; grind [State.setAlarm_keeps, State.put_keeps]
theorem State.alarmDisarm_keeps {s0 : State} (x0 : State) (x1) (h : Keeps m s0 x0) : Keeps m s0 (State.alarmDisarm x0 x1) := by unfold State.alarmDisarm; grind [State.put_keeps]
theorem State.alarmEvent_keeps {s0 : State} (x0 : State) (x1) (x2) (x3) (h : Keeps m s0 x0) (_ : m .events := by first | assumption | exact True.intro) (_ : m .flows := by first | assumption | exact True.intro) (_ : m .verniers := by first | assumption | exact True.intro) (_ : m .timers := by first | assumption | exact True.intro) : Keeps m s0 (State.alarmEvent x0 x1 x2 x3) := by unfold State.alarmEvent; grind [State.startTimersOn_keeps, State.groupStarts_keeps, State.phaseCaptures_keeps, State.registerEventAt_keeps]
theorem State.alarmMarks_keeps {s0 : State} (x0 : State) (x1) (x2) (h : Keeps m s0 x0) : Keeps m s0 (State.alarmMarks x0 x1 x2) := by unfold State.alarmMarks; grind [State.put_keeps]
theorem State.alarmFire_keeps {s0 : State} (x0 : State) (x1) (h : Keeps m s0 x0) (_ : m .events := by first | assumption | exact True.intro) (_ : m .flows := by first | assumption | exact True.intro) (_ : m .verniers := by first | assumption | exact True.intro) (_ : m .timers := by first | assumption | exact True.intro) : Keeps m s0 (State.alarmFire x0 x1) := by unfold State.alarmFire; grind [State.put_keeps, State.alarmMarks_keeps, State.alarmEvent_keeps]
theorem State.alarmPeriodicFire_keeps {s0 : State} (x0 : State) (x1) (h : Keeps m s0 x0) (_ : m .time := by first | assumption | exact True.intro) (_ : m .events := by first | assumption | exact True.intro) (_ : m .flows := by first | assumption | exact True.intro) (_ : m .verniers := by first | assumption | exact True.intro) (_ : m .timers := by first | assumption | exact True.intro) : Keeps m s0 (x0.alarmPeriodicFire x1) := by
  unfold State.alarmPeriodicFire
  exact State.alarmEvent_keeps _ _ _ _ (State.setAlarm_keeps _ _ _ (State.alarmMarks_keeps _ _ _ h))
theorem State.alarmOpen_keeps {s0 : State} (x0 : State) (x1) (h : Keeps m s0 x0) (_ : m .time := by first | assumption | exact True.intro) (_ : m .events := by first | assumption | exact True.intro) (_ : m .flows := by first | assumption | exact True.intro) (_ : m .verniers := by first | assumption | exact True.intro) (_ : m .timers := by first | assumption | exact True.intro) : Keeps m s0 (State.alarmOpen x0 x1) := by unfold State.alarmOpen; grind [State.setAlarm_keeps, State.put_keeps, State.alarmMarks_keeps, State.alarmEvent_keeps]
theorem State.alarmClose_keeps {s0 : State} (x0 : State) (x1) (h : Keeps m s0 x0) (_ : m .events := by first | assumption | exact True.intro) (_ : m .flows := by first | assumption | exact True.intro) : Keeps m s0 (State.alarmClose x0 x1) := by
  unfold State.alarmClose
  try simp only []
  repeat' first | exact h | apply State.registerEventAt_keeps | apply State.alarmDisarm_keeps | apply State.alarmMarks_keeps | split
  all_goals grind [State.registerEventAt_keeps, State.alarmDisarm_keeps, State.alarmMarks_keeps, Keeps.upd]
theorem State.alarmSettle_keeps {s0 : State} (x0 : State) (x1) (h : Keeps m s0 x0) (_ : m .time := by first | assumption | exact True.intro) (_ : m .events := by first | assumption | exact True.intro) (_ : m .flows := by first | assumption | exact True.intro) (_ : m .verniers := by first | assumption | exact True.intro) (_ : m .timers := by first | assumption | exact True.intro) : Keeps m s0 (x0.alarmSettle x1) := by
  unfold State.alarmSettle
  refine ite_keeps (State.alarmFire_keeps _ _ h) (ite_keeps (State.alarmPeriodicFire_keeps _ _ h) (ite_keeps ?_ h))
  have ht := ite_keeps (c := (x0.alarm x1).opened = true) h (State.alarmOpen_keeps x0 x1 h)
  exact ite_keeps (State.alarmClose_keeps _ _ ht) ht
theorem State.settlePartner_keeps {s0 : State} (x0 : State) (x1) (h : Keeps m s0 x0) : Keeps m s0 (State.settlePartner x0 x1) := by unfold State.settlePartner; grind [State.alarmDisarm_keeps]
theorem State.skipAlarm_keeps {s0 : State} (x0 : State) (x1) (x2) (h : Keeps m s0 x0) (_ : m .time := by first | assumption | exact True.intro) : Keeps m s0 (State.skipAlarm x0 x1 x2) := by
  unfold State.skipAlarm
  try simp only []
  repeat' first | exact h | apply State.put_keeps | apply State.setAlarm_keeps | split
  all_goals grind [State.put_keeps, State.setAlarm_keeps, Keeps.upd]
theorem State.skipAlarms_keeps {s0 : State} (x0 : State) (x1) (x2) (h : Keeps m s0 x0) (_ : m .time := by first | assumption | exact True.intro) : Keeps m s0 (State.skipAlarms x0 x1 x2) := by revert h; fun_induction State.skipAlarms x0 x1 x2 <;> grind [State.skipAlarm_keeps]
theorem writeAlmCtl_keeps {s0 : State} (x0) (x1) (x2) (x3 : State) (h : Keeps m s0 x3) (_ : m .time := by first | assumption | exact True.intro) : EKeeps m s0 (writeAlmCtl x0 x1 x2 x3) := by unfold writeAlmCtl; grind [Effect.ok_keeps, State.settlePartner_keeps, State.alarmDisarm_keeps, State.plainWrite_keeps, State.put_keeps, State.alarmArm_keeps, Effect.denied_keeps, EKeeps, Effect.ok, Effect.kept, Effect.denied, Effect.retry]
theorem writeAlmTime_keeps {s0 : State} (x0) (x1) (x2) (x3) (x4 : State) (h : Keeps m s0 x4) : EKeeps m s0 (writeAlmTime x0 x1 x2 x3 x4) := by unfold writeAlmTime; grind [Effect.denied_keeps, Effect.kept_keeps, State.put_keeps, Effect.ok_keeps, State.plainWrite_keeps, EKeeps, Effect.ok, Effect.kept, Effect.denied, Effect.retry]
theorem State.engineAlarmArm_keeps {s0 : State} (x0 : State) (x1) (x2) (x3) (h : Keeps m s0 x0) (_ : m .time := by first | assumption | exact True.intro) : Keeps m s0 (State.engineAlarmArm x0 x1 x2 x3).2 := by unfold State.engineAlarmArm; grind [State.settlePartner_keeps, State.putCompare_keeps, State.put_keeps, State.alarmArm_keeps]
theorem State.engineAlarmSet_keeps {s0 : State} (x0 : State) (x1) (x2) (h : Keeps m s0 x0) : Keeps m s0 (State.engineAlarmSet x0 x1 x2).2 := by unfold State.engineAlarmSet; grind [State.put_keeps, State.putCompare_keeps]
theorem State.setTime_keeps {s0 : State} (x0 : State) (x1) (h : Keeps m s0 x0) (_ : m .time := by first | assumption | exact True.intro) : Keeps m s0 (State.setTime x0 x1) := by unfold State.setTime; grind [State.put_keeps, Keeps.upd]
theorem State.setQ_keeps {s0 : State} (x0 : State) (x1) (h : Keeps m s0 x0) (_ : m .time := by first | assumption | exact True.intro) : Keeps m s0 (State.setQ x0 x1) := by unfold State.setQ; grind [State.put_keeps, Keeps.upd]
theorem State.addOffset_keeps {s0 : State} (x0 : State) (x1) (h : Keeps m s0 x0) (_ : m .time := by first | assumption | exact True.intro) (_ : m .clockDrive := by first | assumption | exact True.intro) : Keeps m s0 (State.addOffset x0 x1) := by unfold State.addOffset; grind [State.shiftTrackers_keeps, State.setTime_keeps]
theorem State.stepForward_keeps {s0 : State} (x0 : State) (x1) (h : Keeps m s0 x0) (_ : m .time := by first | assumption | exact True.intro) (_ : m .clockDrive := by first | assumption | exact True.intro) : Keeps m s0 (State.stepForward x0 x1) := by unfold State.stepForward; grind [State.ppsStep_keeps, State.skipAlarms_keeps, State.setQ_keeps, State.addOffset_keeps]
theorem State.tclkEdge_keeps {s0 : State} (x0 : State) (h : Keeps m s0 x0) (_ : m .time := by first | assumption | exact True.intro) (_ : m .clockDrive := by first | assumption | exact True.intro) : Keeps m s0 x0.tclkEdge := by
  have hr (r : Regulator) : Keeps m s0 { x0 with rgl := r } := Keeps.of _ _ _ h rfl rfl rfl rfl
  unfold State.tclkEdge
  split
  · exact h
  · extract_lets q _ t
    have ht : Keeps m s0 t := hr _
    split
    · exact State.setTime_keeps _ _ ht
    · split
      · exact State.setQ_keeps _ _ (State.shiftTrackers_keeps _ _ (State.setTime_keeps _ _ ht))
      · exact State.setQ_keeps _ _ (State.setTime_keeps _ _ ht)
theorem State.idle_keeps {s0 : State} (x0 : State) (h : Keeps m s0 x0) (_ : m .time := by first | assumption | exact True.intro) (_ : m .clockDrive := by first | assumption | exact True.intro) : Keeps m s0 (State.idle x0) := by unfold State.idle; grind [State.tclkEdge_keeps, Keeps.upd]
theorem State.discipline_keeps {s0 : State} (x0 : State) (x1) (x2 : State → Effect) (h : Keeps m s0 x0)
    (ha : ∀ u, Keeps m s0 u → EKeeps m s0 (x2 u)) : EKeeps m s0 (x0.discipline x1 x2) := by
  unfold State.discipline
  split
  · exact ⟨State.put_keeps _ _ _ h, fun _ h => h⟩
  · exact ha _ h
theorem State.noteWrite_keeps {s0 : State} (x0 : State) (x1) (x2) (x3) (h : Keeps m s0 x0) (_ : m .time := by first | assumption | exact True.intro) : Keeps m s0 (State.noteWrite x0 x1 x2 x3) := by unfold State.noteWrite; grind [Keeps.upd]
theorem State.holdWrite_keeps {s0 : State} (x0 : State) (x1) (x2) (h : Keeps m s0 x0) (_ : m .time := by first | assumption | exact True.intro) : Keeps m s0 (State.holdWrite x0 x1 x2) := by unfold State.holdWrite; grind [Keeps.upd]
theorem State.markDiscipline_keeps {s0 : State} (x0 : State) (h : Keeps m s0 x0) (_ : m .time := by first | assumption | exact True.intro) : Keeps m s0 (State.markDiscipline x0) := by unfold State.markDiscipline; grind [Keeps.upd]
theorem State.writeRate_keeps {s0 : State} (x0 : State) (x1) (x2) (h : Keeps m s0 x0) (_ : m .time := by first | assumption | exact True.intro) : Keeps m s0 (State.writeRate x0 x1 x2) := by unfold State.writeRate; grind [State.setReg_keeps, State.noteWrite_keeps, State.put_keeps, State.markDiscipline_keeps, Keeps.upd]
theorem State.applyQ_keeps {s0 : State} (x0 : State) (x1) (h : Keeps m s0 x0) (_ : m .time := by first | assumption | exact True.intro) (_ : m .clockDrive := by first | assumption | exact True.intro) : Keeps m s0 (State.applyQ x0 x1) := by unfold State.applyQ; grind [State.stepForward_keeps, State.setQ_keeps]
theorem State.commitStep_keeps {s0 : State} (x0 : State) (x1) (x2) (h : Keeps m s0 x0) (_ : m .time := by first | assumption | exact True.intro) (_ : m .clockDrive := by first | assumption | exact True.intro) : Keeps m s0 (State.commitStep x0 x1 x2).2 := by unfold State.commitStep; grind [State.put_keeps, State.applyQ_keeps, State.markDiscipline_keeps, Keeps.upd]
theorem State.setQuality_keeps {s0 : State} (x0 : State) (x1) (h : Keeps m s0 x0) (_ : m .time := by first | assumption | exact True.intro) : Keeps m s0 (State.setQuality x0 x1) := by unfold State.setQuality; grind [State.put_keeps, State.markDiscipline_keeps, Keeps.upd]
theorem State.takeQuality_keeps {s0 : State} (x0 : State) (x1) (h : Keeps m s0 x0) (_ : m .time := by first | assumption | exact True.intro) : Keeps m s0 (State.takeQuality x0 x1) := by revert h; fun_induction State.takeQuality x0 x1 <;> grind [State.put_keeps, State.setQuality_keeps]
theorem State.writeQuality_keeps {s0 : State} (x0 : State) (x1) (x2) (h : Keeps m s0 x0) (_ : m .time := by first | assumption | exact True.intro) : Keeps m s0 (State.writeQuality x0 x1 x2).2 := by unfold State.writeQuality; grind [State.noteWrite_keeps, State.takeQuality_keeps, State.put_keeps, State.holdWrite_keeps, Keeps.upd]
theorem State.putSlew_keeps {s0 : State} (x0 : State) (x1) (h : Keeps m s0 x0) : Keeps m s0 (State.putSlew x0 x1) := by unfold State.putSlew; grind [State.plainWrite_keeps, State.put_keeps]
theorem State.putDiscipline_keeps {s0 : State} (x0 : State) (x1) (x2) (h : Keeps m s0 x0) (_ : m .time := by first | assumption | exact True.intro) : Keeps m s0 (State.putDiscipline x0 x1 x2) := by unfold State.putDiscipline; grind [State.putSlew_keeps, State.takeQuality_keeps, State.plainWrite_keeps]
theorem State.takeDiscipline_keeps {s0 : State} (x0 : State) (x1) (x2) (x3) (h : Keeps m s0 x0) (_ : m .time := by first | assumption | exact True.intro) : Keeps m s0 (State.takeDiscipline x0 x1 x2 x3) := by unfold State.takeDiscipline; grind [State.putDiscipline_keeps, State.noteWrite_keeps, State.holdWrite_keeps]
theorem State.putHeld_keeps {s0 : State} (x0 : State) (x1) (h : Keeps m s0 x0) (_ : m .time := by first | assumption | exact True.intro) : Keeps m s0 (State.putHeld x0 x1) := by revert h; fun_induction State.putHeld x0 x1 <;> grind [State.putDiscipline_keeps]
theorem State.releaseServo_keeps {s0 : State} (x0 : State) (h : Keeps m s0 x0) (_ : m .time := by first | assumption | exact True.intro) (_ : m .clockDrive := by first | assumption | exact True.intro) : Keeps m s0 (State.releaseServo x0) := by unfold State.releaseServo; grind [State.setReg_keeps, State.put_keeps, State.applyQ_keeps, State.putHeld_keeps, Keeps.upd]
theorem writeRglRate_keeps {s0 : State} (x0) (x1) (x2 : State) (h : Keeps m s0 x2) (_ : m .time := by first | assumption | exact True.intro) : EKeeps m s0 (writeRglRate x0 x1 x2) := by unfold writeRglRate; grind [State.discipline_keeps, Effect.ok_keeps, State.writeRate_keeps, EKeeps, Effect.ok, Effect.kept, Effect.denied, Effect.retry]
theorem writeRglStep_keeps {s0 : State} (x0) (x1) (x2 : State) (h : Keeps m s0 x2) (_ : m .time := by first | assumption | exact True.intro) (_ : m .clockDrive := by first | assumption | exact True.intro) : EKeeps m s0 (writeRglStep x0 x1 x2) := by unfold writeRglStep; grind [State.discipline_keeps, State.commitStep_keeps, EKeeps, Effect.ok, Effect.kept, Effect.denied, Effect.retry]
theorem writeRglQual_keeps {s0 : State} (x0) (x1) (x2 : State) (h : Keeps m s0 x2) (_ : m .time := by first | assumption | exact True.intro) : EKeeps m s0 (writeRglQual x0 x1 x2) := by unfold writeRglQual; grind [State.writeQuality_keeps, State.discipline_keeps, EKeeps, Effect.ok, Effect.kept, Effect.denied, Effect.retry]
theorem writeRglPlain_keeps {s0 : State} (x0) (x1) (x2) (x3 : State) (h : Keeps m s0 x3) (_ : m .time := by first | assumption | exact True.intro) : EKeeps m s0 (writeRglPlain x0 x1 x2 x3) := by unfold writeRglPlain; grind [State.takeDiscipline_keeps, Effect.ok_keeps, State.discipline_keeps, EKeeps, Effect.ok, Effect.kept, Effect.denied, Effect.retry]
theorem writeRglSrvOwn_keeps {s0 : State} (x0) (x1 : State) (h : Keeps m s0 x1) (_ : m .time := by first | assumption | exact True.intro) : EKeeps m s0 (writeRglSrvOwn x0 x1) := by unfold writeRglSrvOwn; grind [Effect.kept_keeps, State.put_keeps, Effect.ok_keeps, State.setQuality_keeps, EKeeps, Effect.ok, Effect.kept, Effect.denied, Effect.retry]
theorem State.rglSnapshot_keeps {s0 : State} (x0 : State) (h : Keeps m s0 x0) (_ : m .time := by first | assumption | exact True.intro) : Keeps m s0 (State.rglSnapshot x0) := by
  have hr (r : Regulator) : Keeps m s0 { x0 with rgl := r } := Keeps.of _ _ _ h rfl rfl rfl rfl
  unfold State.rglSnapshot
  extract_lets w t96 rem _ t1 t2 t3 t4
  refine ite_keeps h ?_
  have h1 : Keeps m s0 t1 := hr _
  have h2 : Keeps m s0 t2 := State.setReg_keeps _ _ _ (State.setReg_keeps _ _ _ (State.setReg_keeps _ _ _ h1))
  have h3 : Keeps m s0 t3 := State.setReg_keeps _ _ _ (State.setReg_keeps _ _ _ h2)
  have h4 : Keeps m s0 t4 := State.put_keeps _ _ _ (State.put_keeps _ _ _ h3)
  exact State.put_keeps _ _ _ (State.put_keeps _ _ _ h4)
theorem writeRglSnap_keeps {s0 : State} (x0) (x1 : State) (h : Keeps m s0 x1) (_ : m .time := by first | assumption | exact True.intro) : EKeeps m s0 (writeRglSnap x0 x1) := by unfold writeRglSnap; grind [Effect.ok_keeps, State.rglSnapshot_keeps, EKeeps, Effect.ok, Effect.kept, Effect.denied, Effect.retry]
theorem writeRglPincal_keeps {s0 : State} (x0) (x1 : State) (h : Keeps m s0 x1) : EKeeps m s0 (writeRglPincal x0 x1) := by unfold writeRglPincal; grind [Effect.denied_keeps, Effect.kept_keeps, Effect.ok_keeps, State.plainWrite_keeps, EKeeps, Effect.ok, Effect.kept, Effect.denied, Effect.retry]
theorem execTempReading_keeps {s0 : State} (x0) (x1) (x2 : State) (h : Keeps m s0 x2) (_ : m .time := by first | assumption | exact True.intro) : ∀ r, execTempReading x0 x1 x2 = .next r → Keeps m s0 r := by unfold execTempReading; grind [State.put_keeps, Keeps.upd]
theorem execSnapshot_keeps {s0 : State} (x0) (x1) (x2 : State) (h : Keeps m s0 x2) (_ : m .time := by first | assumption | exact True.intro) (_ : m .answers := by first | assumption | exact True.intro) : ∀ r, execSnapshot x0 x1 x2 = .next r → Keeps m s0 r := by unfold execSnapshot; grind [State.writeReg_keeps, writeRglSnap_keeps]
theorem execRateWrite_keeps {s0 : State} (x0) (x1) (x2 : State) (h : Keeps m s0 x2) (_ : m .time := by first | assumption | exact True.intro) (_ : m .answers := by first | assumption | exact True.intro) : ∀ r, execRateWrite x0 x1 x2 = .next r → Keeps m s0 r := by unfold execRateWrite; grind [State.writeReg_keeps, writeRglRate_keeps]
theorem execStepCommit_keeps {s0 : State} (x0) (x1) (x2 : State) (h : Keeps m s0 x2) (_ : m .time := by first | assumption | exact True.intro) (_ : m .answers := by first | assumption | exact True.intro) (_ : m .clockDrive := by first | assumption | exact True.intro) : ∀ r, execStepCommit x0 x1 x2 = .next r → Keeps m s0 r := by unfold execStepCommit; grind [State.writeReg_keeps, writeRglStep_keeps]
theorem execSlewComplete_keeps {s0 : State} (x0 : State) (h : Keeps m s0 x0) (_ : m .time := by first | assumption | exact True.intro) (_ : m .clockDrive := by first | assumption | exact True.intro) : ∀ r, execSlewComplete x0 = .next r → Keeps m s0 r := by unfold execSlewComplete; grind [State.tclkEdge_keeps]
theorem execQualWrite_keeps {s0 : State} (x0) (x1) (x2 : State) (h : Keeps m s0 x2) (_ : m .time := by first | assumption | exact True.intro) (_ : m .answers := by first | assumption | exact True.intro) : ∀ r, execQualWrite x0 x1 x2 = .next r → Keeps m s0 r := by unfold execQualWrite; grind [State.writeReg_keeps, writeRglQual_keeps]
theorem execHoldoverTimeout_keeps {s0 : State} (x0 : State) (h : Keeps m s0 x0) (_ : m .time := by first | assumption | exact True.intro) : ∀ r, execHoldoverTimeout x0 = .next r → Keeps m s0 r := by unfold execHoldoverTimeout; grind [State.setQuality_keeps]
theorem execSrvOwnWrite_keeps {s0 : State} (x0) (x1) (x2 : State) (h : Keeps m s0 x2) (_ : m .time := by first | assumption | exact True.intro) (_ : m .answers := by first | assumption | exact True.intro) : ∀ r, execSrvOwnWrite x0 x1 x2 = .next r → Keeps m s0 r := by unfold execSrvOwnWrite; grind [State.writeReg_keeps, writeRglSrvOwn_keeps]
theorem execServoFreezeRelease_keeps {s0 : State} (x0 : State) (h : Keeps m s0 x0) (_ : m .time := by first | assumption | exact True.intro) (_ : m .clockDrive := by first | assumption | exact True.intro) : ∀ r, execServoFreezeRelease x0 = .next r → Keeps m s0 r := by unfold execServoFreezeRelease; grind [State.releaseServo_keeps]
theorem execPincalWrite_keeps {s0 : State} (x0) (x1) (x2 : State) (h : Keeps m s0 x2) (_ : m .answers := by first | assumption | exact True.intro) : ∀ r, execPincalWrite x0 x1 x2 = .next r → Keeps m s0 r := by unfold execPincalWrite; grind [State.writeReg_keeps, writeRglPincal_keeps]
theorem execAlarmArm_keeps {s0 : State} (x0) (x1) (x2) (x3 : State) (h : Keeps m s0 x3) (_ : m .time := by first | assumption | exact True.intro) (_ : m .answers := by first | assumption | exact True.intro) : ∀ r, execAlarmArm x0 x1 x2 x3 = .next r → Keeps m s0 r := by unfold execAlarmArm; grind [State.writeReg_keeps, writeAlmCtl_keeps]
theorem execAlarmDisarm_keeps {s0 : State} (x0) (x1) (x2) (x3 : State) (h : Keeps m s0 x3) (_ : m .time := by first | assumption | exact True.intro) (_ : m .answers := by first | assumption | exact True.intro) : ∀ r, execAlarmDisarm x0 x1 x2 x3 = .next r → Keeps m s0 r := by unfold execAlarmDisarm; grind [State.writeReg_keeps, writeAlmCtl_keeps]
theorem execAlarmFire_keeps {s0 : State} (x0) (x1 : State) (h : Keeps m s0 x1) (_ : m .events := by first | assumption | exact True.intro) (_ : m .flows := by first | assumption | exact True.intro) (_ : m .verniers := by first | assumption | exact True.intro) (_ : m .timers := by first | assumption | exact True.intro) : ∀ r, execAlarmFire x0 x1 = .next r → Keeps m s0 r := by unfold execAlarmFire; grind [State.alarmFire_keeps]
theorem execAlarmPeriodicFire_keeps {s0 : State} (x0) (x1 : State) (h : Keeps m s0 x1) (_ : m .time := by first | assumption | exact True.intro) (_ : m .events := by first | assumption | exact True.intro) (_ : m .flows := by first | assumption | exact True.intro) (_ : m .verniers := by first | assumption | exact True.intro) (_ : m .timers := by first | assumption | exact True.intro) : ∀ r, execAlarmPeriodicFire x0 x1 = .next r → Keeps m s0 r := by unfold execAlarmPeriodicFire; grind [State.alarmPeriodicFire_keeps]
theorem execAlarmRangeOpen_keeps {s0 : State} (x0) (x1 : State) (h : Keeps m s0 x1) (_ : m .time := by first | assumption | exact True.intro) (_ : m .events := by first | assumption | exact True.intro) (_ : m .flows := by first | assumption | exact True.intro) (_ : m .verniers := by first | assumption | exact True.intro) (_ : m .timers := by first | assumption | exact True.intro) : ∀ r, execAlarmRangeOpen x0 x1 = .next r → Keeps m s0 r := by unfold execAlarmRangeOpen; grind [State.alarmOpen_keeps]
theorem execAlarmRangeClose_keeps {s0 : State} (x0) (x1 : State) (h : Keeps m s0 x1) (_ : m .events := by first | assumption | exact True.intro) (_ : m .flows := by first | assumption | exact True.intro) : ∀ r, execAlarmRangeClose x0 x1 = .next r → Keeps m s0 r := by unfold execAlarmRangeClose; grind [State.alarmClose_keeps]
theorem execSecondCarry_keeps {s0 : State} (x0 : State) (h : Keeps m s0 x0) (_ : m .time := by first | assumption | exact True.intro) (_ : m .clockDrive := by first | assumption | exact True.intro) : ∀ r, execSecondCarry x0 = .next r → Keeps m s0 r := by unfold execSecondCarry; grind [State.tclkEdge_keeps]
theorem State.setQueue_keeps {s0 : State} (x0 : State) (x1) (x2) (h : Keeps m s0 x0) (_ : m .queues := by first | assumption | exact True.intro) : Keeps m s0 (State.setQueue x0 x1 x2) := by unfold State.setQueue; grind [Keeps.upd]
theorem State.releaseSlots_keeps {s0 : State} (x0 : State) (x1) (x2) (h : Keeps m s0 x0) (_ : m .queues := by first | assumption | exact True.intro) : Keeps m s0 (State.releaseSlots x0 x1 x2) := by revert h; fun_induction State.releaseSlots x0 x1 x2 <;> grind [State.setQueue_keeps]
theorem State.noteItem_keeps {s0 : State} (x0 : State) (x1) (x2) (h : Keeps m s0 x0) : Keeps m s0 (State.noteItem x0 x1 x2) := by unfold State.noteItem; grind [State.setReg_keeps]
theorem State.putBulk_keeps {s0 : State} (x0 : State) (x1) (x2) (h : Keeps m s0 x0) (_ : m .queues := by first | assumption | exact True.intro) : Keeps m s0 (State.putBulk x0 x1 x2) := by unfold State.putBulk; grind [Keeps.upd]
theorem State.issueTransfer_keeps {s0 : State} (x0 : State) (x1) (h : Keeps m s0 x0) (_ : m .queues := by first | assumption | exact True.intro) : Keeps m s0 (State.issueTransfer x0 x1) := by unfold State.issueTransfer; grind [State.putBulk_keeps, Keeps.upd]
theorem State.stopQueue_keeps {s0 : State} (x0 : State) (x1) (x2) (h : Keeps m s0 x0) (_ : m .events := by first | assumption | exact True.intro) (_ : m .flows := by first | assumption | exact True.intro) : Keeps m s0 (State.stopQueue x0 x1 x2) := by unfold State.stopQueue; grind [State.registerEvent_keeps, State.put_keeps]
theorem State.joinQueue_keeps {s0 : State} (x0 : State) (x1) (x2) (h : Keeps m s0 x0) (_ : m .queues := by first | assumption | exact True.intro) : Keeps m s0 (State.joinQueue x0 x1 x2) := by unfold State.joinQueue; grind [State.noteItem_keeps, State.issueTransfer_keeps, State.setQueue_keeps]
theorem State.takeDescriptor_keeps {s0 : State} (x0 : State) (x1) (x2) (h : Keeps m s0 x0) (_ : m .queues := by first | assumption | exact True.intro) : Keeps m s0 (State.takeDescriptor x0 x1 x2) := by unfold State.takeDescriptor; grind [State.joinQueue_keeps, State.count_keeps]
theorem State.tryEnqueue_keeps {s0 : State} (x0 : State) (x1) (x2) (h : Keeps m s0 x0) (_ : m .queues := by first | assumption | exact True.intro) : Keeps m s0 (State.tryEnqueue x0 x1 x2).2 := by unfold State.tryEnqueue; grind [State.takeDescriptor_keeps]
theorem State.returnBuffer_keeps {s0 : State} (x0 : State) (x1) (h : Keeps m s0 x0) (_ : m .queues := by first | assumption | exact True.intro) : Keeps m s0 (State.returnBuffer x0 x1) := by unfold State.returnBuffer; grind [State.tryEnqueue_keeps]
theorem State.countDrop_keeps {s0 : State} (x0 : State) (x1) (h : Keeps m s0 x0) (_ : m .events := by first | assumption | exact True.intro) (_ : m .flows := by first | assumption | exact True.intro) : Keeps m s0 (State.countDrop x0 x1) := by unfold State.countDrop; grind [State.registerEvent_keeps, State.count_keeps]
theorem State.hwEnqueue_keeps {s0 : State} (x0 : State) (x1) (x2) (h : Keeps m s0 x0) (_ : m .queues := by first | assumption | exact True.intro) (_ : m .events := by first | assumption | exact True.intro) (_ : m .flows := by first | assumption | exact True.intro) : Keeps m s0 (State.hwEnqueue x0 x1 x2).2 := by unfold State.hwEnqueue; grind [State.countDrop_keeps, State.returnBuffer_keeps, State.noteItem_keeps, State.takeDescriptor_keeps]
theorem State.dequeue_keeps {s0 : State} (x0 : State) (x1) (h : Keeps m s0 x0) (_ : m .queues := by first | assumption | exact True.intro) : Keeps m s0 (State.dequeue x0 x1).2 := by unfold State.dequeue; grind [State.releaseSlots_keeps, State.setQueue_keeps]
theorem State.finishDescriptor_keeps {s0 : State} (x0 : State) (x1) (x2) (h : Keeps m s0 x0) (_ : m .queues := by first | assumption | exact True.intro) (_ : m .events := by first | assumption | exact True.intro) (_ : m .flows := by first | assumption | exact True.intro) : Keeps m s0 (State.finishDescriptor x0 x1 x2) := by unfold State.finishDescriptor; grind [State.hwEnqueue_keeps]
theorem State.readHead_keeps {s0 : State} (x0 : State) (x1) (h : Keeps m s0 x0) (_ : m .events := by first | assumption | exact True.intro) (_ : m .flows := by first | assumption | exact True.intro) : Keeps m s0 (State.readHead x0 x1).2 := by unfold State.readHead; grind [State.stopQueue_keeps, State.plateRead_keeps]
theorem State.takeBuffer_keeps {s0 : State} (x0 : State) (x1) (h : Keeps m s0 x0) (_ : m .queues := by first | assumption | exact True.intro) (_ : m .events := by first | assumption | exact True.intro) (_ : m .flows := by first | assumption | exact True.intro) : Keeps m s0 (State.takeBuffer x0 x1).2 := by unfold State.takeBuffer; grind [State.dequeue_keeps, State.readHead_keeps]
theorem State.placeBurst_keeps {s0 : State} (x0 : State) (x1) (x2) (x3) (x4) (h : Keeps m s0 x0) (_ : m .plates := by first | assumption | exact True.intro) (_ : m .ecc := by first | assumption | exact True.intro) (_ : m .queues := by first | assumption | exact True.intro) (_ : m .events := by first | assumption | exact True.intro) (_ : m .flows := by first | assumption | exact True.intro) : Keeps m s0 (State.placeBurst x0 x1 x2 x3 x4).2 := by unfold State.placeBurst; grind [State.stopQueue_keeps, State.takeBuffer_keeps, State.plateWrite_keeps, State.countDrop_keeps, State.hwEnqueue_keeps, State.returnBuffer_keeps, State.noteItem_keeps]
theorem State.wait_keeps {s0 : State} (x0 : State) (x1) (x2) (h : Keeps m s0 x0) (_ : m .queues := by first | assumption | exact True.intro) : Keeps m s0 (State.wait x0 x1 x2) := by unfold State.wait; grind [Keeps.upd]
theorem State.itemDone_keeps {s0 : State} (x0 : State) (x1) (h : Keeps m s0 x0) (_ : m .flows := by first | assumption | exact True.intro) : Keeps m s0 (State.itemDone x0 x1) := by unfold State.itemDone; grind [State.setFlow_keeps]
theorem State.deliverItem_keeps {s0 : State} (x0 : State) (x1) (x2) (h : Keeps m s0 x0) (_ : m .flows := by first | assumption | exact True.intro) : Keeps m s0 (State.deliverItem x0 x1 x2) := by unfold State.deliverItem; grind [State.itemDone_keeps]
theorem State.watermark_keeps {s0 : State} (x0 : State) (x1) (x2) (h : Keeps m s0 x0) (_ : m .events := by first | assumption | exact True.intro) (_ : m .flows := by first | assumption | exact True.intro) : Keeps m s0 (State.watermark x0 x1 x2) := by unfold State.watermark; grind [State.registerEvent_keeps]
theorem State.makeVisible_keeps {s0 : State} (x0 : State) (x1) (h : Keeps m s0 x0) (_ : m .plates := by first | assumption | exact True.intro) (_ : m .ecc := by first | assumption | exact True.intro) (_ : m .queues := by first | assumption | exact True.intro) (_ : m .events := by first | assumption | exact True.intro) (_ : m .flows := by first | assumption | exact True.intro) : Keeps m s0 (State.makeVisible x0 x1) := by unfold State.makeVisible; grind [State.deliverItem_keeps, State.setQueue_keeps, State.plateWrite_keeps, State.watermark_keeps]
theorem State.setFailures_keeps {s0 : State} (x0 : State) (x1) (x2) (h : Keeps m s0 x0) (_ : m .queues := by first | assumption | exact True.intro) : Keeps m s0 (State.setFailures x0 x1 x2) := by unfold State.setFailures; grind [Keeps.upd]
theorem State.readBack_keeps {s0 : State} (x0 : State) (x1) (h : Keeps m s0 x0) (_ : m .queues := by first | assumption | exact True.intro) : Keeps m s0 (State.readBack x0 x1) := by unfold State.readBack; grind [State.issueTransfer_keeps]
theorem State.transferFailed_keeps {s0 : State} (x0 : State) (x1) (x2) (h : Keeps m s0 x0) (_ : m .queues := by first | assumption | exact True.intro) (_ : m .events := by first | assumption | exact True.intro) (_ : m .flows := by first | assumption | exact True.intro) : Keeps m s0 (State.transferFailed x0 x1 x2) := by unfold State.transferFailed; grind [State.stopQueue_keeps, State.setFailures_keeps]
theorem State.transferDone_keeps {s0 : State} (x0 : State) (x1) (x2) (x3) (h : Keeps m s0 x0) (_ : m .queues := by first | assumption | exact True.intro) (_ : m .events := by first | assumption | exact True.intro) (_ : m .flows := by first | assumption | exact True.intro) : Keeps m s0 (State.transferDone x0 x1 x2 x3) := by unfold State.transferDone; grind [State.setQueue_keeps, State.transferFailed_keeps]
theorem State.issueWaiting_keeps {s0 : State} (x0 : State) (h : Keeps m s0 x0) (_ : m .queues := by first | assumption | exact True.intro) : Keeps m s0 (State.issueWaiting x0) := by unfold State.issueWaiting; grind [State.putBulk_keeps, Keeps.upd]
theorem State.advanceItem_keeps {s0 : State} (x0 : State) (x1) (h : Keeps m s0 x0) (_ : m .queues := by first | assumption | exact True.intro) (_ : m .flows := by first | assumption | exact True.intro) : Keeps m s0 (State.advanceItem x0 x1) := by unfold State.advanceItem; grind [State.setReg_keeps, State.setFlow_keeps, State.put_keeps, State.releaseSlots_keeps]
theorem State.placeBreach_keeps {s0 : State} (x0 : State) (x1) (x2) (x3) (h : Keeps m s0 x0) (_ : m .queues := by first | assumption | exact True.intro) (_ : m .flows := by first | assumption | exact True.intro) : Keeps m s0 (State.placeBreach x0 x1 x2 x3).2 := by unfold State.placeBreach; grind [State.advanceItem_keeps, State.count_keeps, State.takeDescriptor_keeps]
theorem State.commit_keeps {s0 : State} (x0 : State) (x1) (x2) (h : Keeps m s0 x0) (_ : m .queues := by first | assumption | exact True.intro) (_ : m .flows := by first | assumption | exact True.intro) : Keeps m s0 (State.commit x0 x1 x2).2 := by unfold State.commit; grind [State.placeBreach_keeps, State.takeDescriptor_keeps, State.advanceItem_keeps, State.setFlow_keeps]
theorem State.breachVisit_keeps {s0 : State} (x0 : State) (x1) (h : Keeps m s0 x0) (_ : m .queues := by first | assumption | exact True.intro) (_ : m .flows := by first | assumption | exact True.intro) : Keeps m s0 (State.breachVisit x0 x1) := by unfold State.breachVisit; grind [State.placeBreach_keeps]
theorem State.queueResult_keeps {s0 : State} (x0 : State) (x1) (x2) (h : Keeps m s0 x0) : Keeps m s0 (State.queueResult x0 x1 x2) := by unfold State.queueResult; grind [State.put_keeps]
theorem State.queueEnqueue_keeps {s0 : State} (x0 : State) (x1) (x2) (h : Keeps m s0 x0) (_ : m .queues := by first | assumption | exact True.intro) (_ : m .events := by first | assumption | exact True.intro) (_ : m .flows := by first | assumption | exact True.intro) : Keeps m s0 (State.queueEnqueue x0 x1 x2) := by unfold State.queueEnqueue; grind [State.stopQueue_keeps, State.plateRead_keeps, State.tryEnqueue_keeps, State.queueResult_keeps]
theorem writeQmQcmd_keeps {s0 : State} (x0) (x1) (x2 : State) (h : Keeps m s0 x2) (_ : m .queues := by first | assumption | exact True.intro) (_ : m .events := by first | assumption | exact True.intro) (_ : m .flows := by first | assumption | exact True.intro) : EKeeps m s0 (writeQmQcmd x0 x1 x2) := by unfold writeQmQcmd; grind [State.dequeue_keeps, State.queueEnqueue_keeps, Effect.ok_keeps, State.wait_keeps, Effect.denied_keeps, State.queueResult_keeps, EKeeps, Effect.ok, Effect.kept, Effect.denied, Effect.retry]
theorem writeQmQring_keeps {s0 : State} (x0) (x1) (x2 : State) (h : Keeps m s0 x2) (_ : m .queues := by first | assumption | exact True.intro) : EKeeps m s0 (writeQmQring x0 x1 x2) := by unfold writeQmQring; grind [State.setQueue_keeps, Effect.ok_keeps, State.plainWrite_keeps, Effect.denied_keeps, Effect.kept_keeps, EKeeps, Effect.ok, Effect.kept, Effect.denied, Effect.retry]
theorem writeQmQcfg_keeps {s0 : State} (x0) (x1) (x2 : State) (h : Keeps m s0 x2) : EKeeps m s0 (writeQmQcfg x0 x1 x2) := by unfold writeQmQcfg; grind [Effect.denied_keeps, Effect.kept_keeps, Effect.ok_keeps, State.plainWrite_keeps, EKeeps, Effect.ok, Effect.kept, Effect.denied, Effect.retry]
theorem writeQmQspill_keeps {s0 : State} (x0) (x1) (x2 : State) (h : Keeps m s0 x2) : EKeeps m s0 (writeQmQspill x0 x1 x2) := by unfold writeQmQspill; grind [Effect.denied_keeps, Effect.ok_keeps, State.plainWrite_keeps, EKeeps, Effect.ok, Effect.kept, Effect.denied, Effect.retry]
theorem writeQmQsplen_keeps {s0 : State} (x0) (x1) (x2 : State) (h : Keeps m s0 x2) (_ : m .queues := by first | assumption | exact True.intro) : EKeeps m s0 (writeQmQsplen x0 x1 x2) := by unfold writeQmQsplen; grind [Effect.denied_keeps, Effect.kept_keeps, Effect.ok_keeps, State.setQueue_keeps, State.plainWrite_keeps, EKeeps, Effect.ok, Effect.kept, Effect.denied, Effect.retry]
theorem State.issueTransfers_keeps {s0 : State} (x0 : State) (x1) (h : Keeps m s0 x0) (_ : m .queues := by first | assumption | exact True.intro) : Keeps m s0 (State.issueTransfers x0 x1) := by revert h; fun_induction State.issueTransfers x0 x1 <;> grind [State.issueTransfer_keeps]
theorem writeQmQstat_keeps {s0 : State} (x0) (x1) (x2) (x3 : State) (h : Keeps m s0 x3) (_ : m .queues := by first | assumption | exact True.intro) : EKeeps m s0 (writeQmQstat x0 x1 x2 x3) := by unfold writeQmQstat; grind [State.setFailures_keeps, Effect.ok_keeps, State.plainWrite_keeps, State.issueTransfers_keeps, EKeeps, Effect.ok, Effect.kept, Effect.denied, Effect.retry]
theorem writeQmPbase_keeps {s0 : State} (x0) (x1) (x2 : State) (h : Keeps m s0 x2) (_ : m .events := by first | assumption | exact True.intro) (_ : m .flows := by first | assumption | exact True.intro) : EKeeps m s0 (writeQmPbase x0 x1 x2) := by unfold writeQmPbase; grind [Effect.ok_keeps, State.plainWrite_keeps, Effect.conflict_keeps, Effect.denied_keeps, EKeeps, Effect.ok, Effect.kept, Effect.denied, Effect.retry]
theorem writeQmPcfg_keeps {s0 : State} (x0) (x1) (x2 : State) (h : Keeps m s0 x2) (_ : m .events := by first | assumption | exact True.intro) (_ : m .flows := by first | assumption | exact True.intro) : EKeeps m s0 (writeQmPcfg x0 x1 x2) := by unfold writeQmPcfg; grind [Effect.ok_keeps, State.plainWrite_keeps, Effect.conflict_keeps, Effect.denied_keeps, Effect.kept_keeps, EKeeps, Effect.ok, Effect.kept, Effect.denied, Effect.retry]
theorem execSpillReadback_keeps {s0 : State} (x0) (x1 : State) (h : Keeps m s0 x1) (_ : m .queues := by first | assumption | exact True.intro) : ∀ r, execSpillReadback x0 x1 = .next r → Keeps m s0 r := by unfold execSpillReadback; grind [State.readBack_keeps]
theorem execQueueResume_keeps {s0 : State} (x0) (x1) (x2 : State) (h : Keeps m s0 x2) (_ : m .queues := by first | assumption | exact True.intro) (_ : m .answers := by first | assumption | exact True.intro) : ∀ r, execQueueResume x0 x1 x2 = .next r → Keeps m s0 r := by unfold execQueueResume; grind [State.writeReg_keeps, writeQmQstat_keeps]
theorem execQmEnq_keeps {s0 : State} (x0) (x1) (x2 : State) (h : Keeps m s0 x2) (_ : m .queues := by first | assumption | exact True.intro) (_ : m .events := by first | assumption | exact True.intro) (_ : m .answers := by first | assumption | exact True.intro) (_ : m .flows := by first | assumption | exact True.intro) : ∀ r, execQmEnq x0 x1 x2 = .next r → Keeps m s0 r := by unfold execQmEnq; grind [State.writeReg_keeps, writeQmQcmd_keeps]
theorem execQmDeq_keeps {s0 : State} (x0) (x1) (x2 : State) (h : Keeps m s0 x2) (_ : m .queues := by first | assumption | exact True.intro) (_ : m .events := by first | assumption | exact True.intro) (_ : m .answers := by first | assumption | exact True.intro) (_ : m .flows := by first | assumption | exact True.intro) : ∀ r, execQmDeq x0 x1 x2 = .next r → Keeps m s0 r := by unfold execQmDeq; grind [State.writeReg_keeps, writeQmQcmd_keeps]
theorem execQmPeek_keeps {s0 : State} (x0) (x1) (x2 : State) (h : Keeps m s0 x2) (_ : m .queues := by first | assumption | exact True.intro) (_ : m .events := by first | assumption | exact True.intro) (_ : m .answers := by first | assumption | exact True.intro) (_ : m .flows := by first | assumption | exact True.intro) : ∀ r, execQmPeek x0 x1 x2 = .next r → Keeps m s0 r := by unfold execQmPeek; grind [State.writeReg_keeps, writeQmQcmd_keeps]
theorem execQmLen_keeps {s0 : State} (x0) (x1) (x2 : State) (h : Keeps m s0 x2) (_ : m .queues := by first | assumption | exact True.intro) (_ : m .events := by first | assumption | exact True.intro) (_ : m .answers := by first | assumption | exact True.intro) (_ : m .flows := by first | assumption | exact True.intro) : ∀ r, execQmLen x0 x1 x2 = .next r → Keeps m s0 r := by unfold execQmLen; grind [State.writeReg_keeps, writeQmQcmd_keeps]
theorem execQueueConfigWrite_keeps {s0 : State} (x0) (x1) (x2) (x3 : State) (h : Keeps m s0 x3) (_ : m .queues := by first | assumption | exact True.intro) (_ : m .answers := by first | assumption | exact True.intro) : ∀ r, execQueueConfigWrite x0 x1 x2 x3 = .next r → Keeps m s0 r := by unfold execQueueConfigWrite; grind [State.writeReg_keeps, writeQmQring_keeps, writeQmQcfg_keeps, writeQmQspill_keeps, writeQmQsplen_keeps]
theorem execPoolConfigWrite_keeps {s0 : State} (x0) (x1) (x2) (x3 : State) (h : Keeps m s0 x3) (_ : m .events := by first | assumption | exact True.intro) (_ : m .answers := by first | assumption | exact True.intro) (_ : m .flows := by first | assumption | exact True.intro) : ∀ r, execPoolConfigWrite x0 x1 x2 x3 = .next r → Keeps m s0 r := by unfold execPoolConfigWrite; grind [State.writeReg_keeps, writeQmPcfg_keeps, writeQmPbase_keeps]
theorem execBreachWatchVisit_keeps {s0 : State} (x0) (x1 : State) (h : Keeps m s0 x1) (_ : m .queues := by first | assumption | exact True.intro) (_ : m .flows := by first | assumption | exact True.intro) : ∀ r, execBreachWatchVisit x0 x1 = .next r → Keeps m s0 r := by unfold execBreachWatchVisit; grind [State.breachVisit_keeps]

end Sys2Proof.Machine
end

