-- ==== Sys2Proof/Laws/KeepsFrames.lean ====
section
/-! SUPPORT. What every command keeps: the lemmas of frames, records, resets, the constellation, power and security. -/

namespace Sys2Proof.Machine

set_option Elab.async false
variable {m : Part → Prop}

theorem State.setSlot_keeps {s0 : State} (x0 : State) (x1) (x2) (x3) (x4) (h : Keeps m s0 x0) (_ : m .queues := by first | assumption | exact True.intro) : Keeps m s0 (State.setSlot x0 x1 x2 x3 x4) := by unfold State.setSlot; grind [Keeps.upd]
theorem State.put8_keeps {s0 : State} (x0 : State) (x1) (x2) (x3) (h : Keeps m s0 x0) (_ : m .queues := by first | assumption | exact True.intro) (_ : m .tick := by first | assumption | exact True.intro) : Keeps m s0 (State.put8 x0 x1 x2 x3).2 := by unfold State.put8; grind [State.setSlot_keeps, Keeps.upd]
theorem State.take8_keeps {s0 : State} (x0 : State) (x1) (x2) (h : Keeps m s0 x0) (_ : m .queues := by first | assumption | exact True.intro) (_ : m .tick := by first | assumption | exact True.intro) : Keeps m s0 (State.take8 x0 x1 x2).2 := by unfold State.take8; grind [State.setSlot_keeps, Keeps.upd]
theorem writeCluQmap_keeps {s0 : State} (x0) (x1) (x2 : State) (h : Keeps m s0 x2) (_ : m .events := by first | assumption | exact True.intro) (_ : m .flows := by first | assumption | exact True.intro) : EKeeps m s0 (writeCluQmap x0 x1 x2) := by unfold writeCluQmap; grind [Effect.ok_keeps, State.plainWrite_keeps, Effect.conflict_keeps, Effect.denied_keeps, EKeeps, Effect.ok, Effect.kept, Effect.denied, Effect.retry]
theorem State.setBank_keeps {s0 : State} (x0 : State) (x1) (x2) (x3) (h : Keeps m s0 x0) (_ : m .banks := by first | assumption | exact True.intro) : Keeps m s0 (State.setBank x0 x1 x2 x3) := by unfold State.setBank; grind [Keeps.upd]
theorem State.setGpr_keeps {s0 : State} (x0 : State) (x1) (x2) (x3) (x4) (h : Keeps m s0 x0) (_ : m .banks := by first | assumption | exact True.intro) : Keeps m s0 (State.setGpr x0 x1 x2 x3 x4) := by unfold State.setGpr; grind [Keeps.upd]
theorem State.setLensReg_keeps {s0 : State} (x0 : State) (x1) (x2) (x3) (h : Keeps m s0 x0) (_ : m .lens := by first | assumption | exact True.intro) : Keeps m s0 (State.setLensReg x0 x1 x2 x3) := by unfold State.setLensReg; grind [Keeps.upd]
theorem State.setLensRegs_keeps {s0 : State} (x0 : State) (x1) (x2) (h : Keeps m s0 x0) (_ : m .lens := by first | assumption | exact True.intro) : Keeps m s0 (State.setLensRegs x0 x1 x2) := by revert h; fun_induction State.setLensRegs x0 x1 x2 <;> grind [State.setLensReg_keeps]
theorem State.setStoreWord_keeps {s0 : State} (x0 : State) (x1) (x2) (x3) (h : Keeps m s0 x0) (_ : m .store := by first | assumption | exact True.intro) : Keeps m s0 (State.setStoreWord x0 x1 x2 x3) := by unfold State.setStoreWord; grind [Keeps.upd]
theorem State.putDst_keeps {s0 : State} (x0 : State) (x1) (x2) (x3) (x4) (h : Keeps m s0 x0) (_ : m .banks := by first | assumption | exact True.intro) (_ : m .lens := by first | assumption | exact True.intro) : Keeps m s0 (State.putDst x0 x1 x2 x3 x4) := by unfold State.putDst; grind [State.setGpr_keeps, State.setLensReg_keeps, State.setBank_keeps]
theorem State.putDsts_keeps {s0 : State} (x0 : State) (x1) (x2) (x3) (x4) (h : Keeps m s0 x0) (_ : m .banks := by first | assumption | exact True.intro) (_ : m .lens := by first | assumption | exact True.intro) : Keeps m s0 (State.putDsts x0 x1 x2 x3 x4) := by revert h; fun_induction State.putDsts x0 x1 x2 x3 x4 <;> grind [State.putDst_keeps]
theorem State.captureConds_keeps {s0 : State} (x0 : State) (x1) (h : Keeps m s0 x0) (_ : m .engines := by first | assumption | exact True.intro) : Keeps m s0 (State.captureConds x0 x1) := by unfold State.captureConds; grind [State.setEng_keeps]
theorem State.requestHalt_keeps {s0 : State} (x0 : State) (x1) (x2) (h : Keeps m s0 x0) (_ : m .engines := by first | assumption | exact True.intro) : Keeps m s0 (State.requestHalt x0 x1 x2) := by unfold State.requestHalt; grind [State.setEng_keeps]
theorem State.haltRecord_keeps {s0 : State} (x0 : State) (x1) (x2) (x3) (h : Keeps m s0 x0) (_ : m .answers := by first | assumption | exact True.intro) : Keeps m s0 (State.haltRecord x0 x1 x2 x3) := by unfold State.haltRecord; grind [State.logChange_keeps]
theorem State.fire_keeps {s0 : State} (x0 : State) (x1) (x2) (h : Keeps m s0 x0) (_ : m .answers := by first | assumption | exact True.intro) (_ : m .engines := by first | assumption | exact True.intro) : Keeps m s0 (x0.fire x1 x2) := by
  unfold State.fire
  extract_lets t _ u
  have ht : Keeps m s0 t := State.count_keeps _ _ _ (State.put_keeps _ _ _ h)
  have hu : Keeps m s0 u := State.setEng_keeps _ _ _ ht
  have hc (v : State) (hv : Keeps m s0 v) : Keeps m s0 { v with crossTrigger := true } := Keeps.of _ _ _ hv rfl rfl rfl rfl
  split
  · exact State.haltRecord_keeps _ _ _ _ (State.requestHalt_keeps _ _ _ hu)
  · exact hc _ (State.haltRecord_keeps _ _ _ _ (State.requestHalt_keeps _ _ _ hu))
  · exact hu
theorem State.fireEach_keeps {s0 : State} (x0 : State) (x1) (x2) (h : Keeps m s0 x0) (_ : m .answers := by first | assumption | exact True.intro) (_ : m .engines := by first | assumption | exact True.intro) : Keeps m s0 (State.fireEach x0 x1 x2) := by revert h; fun_induction State.fireEach x0 x1 x2 <;> grind [State.fire_keeps]
theorem State.happening_keeps {s0 : State} (x0 : State) (x1) (x2) (x3) (h : Keeps m s0 x0) (_ : m .answers := by first | assumption | exact True.intro) (_ : m .engines := by first | assumption | exact True.intro) : Keeps m s0 (State.happening x0 x1 x2 x3) := by unfold State.happening; grind [State.fireEach_keeps]
theorem State.sawRead_keeps {s0 : State} (x0 : State) (x1) (x2) (x3) (h : Keeps m s0 x0) (_ : m .answers := by first | assumption | exact True.intro) (_ : m .engines := by first | assumption | exact True.intro) : Keeps m s0 (State.sawRead x0 x1 x2 x3) := by unfold State.sawRead; grind [State.happening_keeps]
theorem State.sawWrite_keeps {s0 : State} (x0 : State) (x1) (x2) (x3) (h : Keeps m s0 x0) (_ : m .answers := by first | assumption | exact True.intro) (_ : m .engines := by first | assumption | exact True.intro) : Keeps m s0 (State.sawWrite x0 x1 x2 x3) := by unfold State.sawWrite; grind [State.happening_keeps]
theorem State.sawDst_keeps {s0 : State} (x0 : State) (x1) (x2) (h : Keeps m s0 x0) (_ : m .answers := by first | assumption | exact True.intro) (_ : m .engines := by first | assumption | exact True.intro) : Keeps m s0 (State.sawDst x0 x1 x2) := by unfold State.sawDst; grind [State.happening_keeps]
theorem State.putCaps_keeps {s0 : State} (x0 : State) (x1) (x2) (h : Keeps m s0 x0) : Keeps m s0 (State.putCaps x0 x1 x2) := by revert h; fun_induction State.putCaps x0 x1 x2 <;> grind [State.setCap_keeps]
theorem State.boundary_keeps {s0 : State} (x0 : State) (x1) (h : Keeps m s0 x0) (_ : m .engines := by first | assumption | exact True.intro) : Keeps m s0 (State.boundary x0 x1) := by unfold State.boundary; grind [State.putCaps_keeps, State.setEng_keeps]
theorem State.commitCap_keeps {s0 : State} (x0 : State) (x1) (x2) (x3) (h : Keeps m s0 x0) (_ : m .engines := by first | assumption | exact True.intro) : Keeps m s0 (State.commitCap x0 x1 x2 x3) := by unfold State.commitCap; grind [State.setEng_keeps, State.setCap_keeps]
theorem State.tagDone_keeps {s0 : State} (x0 : State) (x1) (x2) (x3) (h : Keeps m s0 x0) (_ : m .queues := by first | assumption | exact True.intro) (_ : m .engines := by first | assumption | exact True.intro) : Keeps m s0 (State.tagDone x0 x1 x2 x3) := by unfold State.tagDone; grind [State.setEng_keeps, State.orBits_keeps, Keeps.upd]
theorem State.fetchBulk_keeps {s0 : State} (x0 : State) (x1) (x2) (x3) (x4) (x5) (h : Keeps m s0 x0) (_ : m .queues := by first | assumption | exact True.intro) (_ : m .engines := by first | assumption | exact True.intro) : Keeps m s0 (State.fetchBulk x0 x1 x2 x3 x4 x5) := by unfold State.fetchBulk; grind [State.putBulk_keeps, State.plateRead_keeps, State.tagDone_keeps]
theorem State.bulkStore_keeps {s0 : State} (x0 : State) (x1) (x2) (x3) (x4) (h : Keeps m s0 x0) (_ : m .plates := by first | assumption | exact True.intro) (_ : m .ecc := by first | assumption | exact True.intro) : Keeps m s0 (State.bulkStore x0 x1 x2 x3 x4).2 := by revert h; fun_induction State.bulkStore x0 x1 x2 x3 x4 <;> grind [State.writeWord_keeps]
theorem State.bulkReadIn_keeps {s0 : State} (x0 : State) (x1) (x2) (x3) (x4) (x5) (x6) (h : Keeps m s0 x0) (_ : m .plates := by first | assumption | exact True.intro) (_ : m .ecc := by first | assumption | exact True.intro) (_ : m .queues := by first | assumption | exact True.intro) (_ : m .answers := by first | assumption | exact True.intro) (_ : m .engines := by first | assumption | exact True.intro) : Keeps m s0 (State.bulkReadIn x0 x1 x2 x3 x4 x5 x6) := by unfold State.bulkReadIn; grind [State.sawWrite_keeps, State.bulkStore_keeps, State.tagDone_keeps]
theorem State.fetchBulks_keeps {s0 : State} (x0 : State) (x1) (x2) (h : Keeps m s0 x0) (_ : m .plates := by first | assumption | exact True.intro) (_ : m .ecc := by first | assumption | exact True.intro) (_ : m .queues := by first | assumption | exact True.intro) (_ : m .answers := by first | assumption | exact True.intro) (_ : m .engines := by first | assumption | exact True.intro) : Keeps m s0 (State.fetchBulks x0 x1 x2) := by revert h; fun_induction State.fetchBulks x0 x1 x2 <;> grind [State.bulkReadIn_keeps, State.fetchBulk_keeps]
theorem State.endLock_keeps {s0 : State} (x0 : State) (x1) (h : Keeps m s0 x0) (_ : m .plates := by first | assumption | exact True.intro) (_ : m .ecc := by first | assumption | exact True.intro) (_ : m .queues := by first | assumption | exact True.intro) (_ : m .answers := by first | assumption | exact True.intro) (_ : m .engines := by first | assumption | exact True.intro) : Keeps m s0 (State.endLock x0 x1) := by unfold State.endLock; grind [State.fetchBulks_keeps, State.put_keeps]
theorem State.breakLock_keeps {s0 : State} (x0 : State) (x1) (h : Keeps m s0 x0) (_ : m .plates := by first | assumption | exact True.intro) (_ : m .ecc := by first | assumption | exact True.intro) (_ : m .queues := by first | assumption | exact True.intro) (_ : m .answers := by first | assumption | exact True.intro) (_ : m .engines := by first | assumption | exact True.intro) : Keeps m s0 (State.breakLock x0 x1) := by unfold State.breakLock; grind [State.setEng_keeps, State.endLock_keeps]
theorem State.dropLatches_keeps {s0 : State} (x0 : State) (x1) (x2) (h : Keeps m s0 x0) (_ : m .timers := by first | assumption | exact True.intro) : Keeps m s0 (State.dropLatches x0 x1 x2) := by revert h; fun_induction State.dropLatches x0 x1 x2 <;> grind [State.setTimer_keeps]
theorem State.unstall_keeps {s0 : State} (x0 : State) (x1) (h : Keeps m s0 x0) (_ : m .timers := by first | assumption | exact True.intro) (_ : m .engines := by first | assumption | exact True.intro) : Keeps m s0 (State.unstall x0 x1) := by unfold State.unstall; grind [State.dropLatches_keeps, State.setEng_keeps, State.put_keeps]
theorem State.takeHalt_keeps {s0 : State} (x0 : State) (x1) (h : Keeps m s0 x0) (_ : m .plates := by first | assumption | exact True.intro) (_ : m .ecc := by first | assumption | exact True.intro) (_ : m .queues := by first | assumption | exact True.intro) (_ : m .time := by first | assumption | exact True.intro) (_ : m .events := by first | assumption | exact True.intro) (_ : m .answers := by first | assumption | exact True.intro) (_ : m .flows := by first | assumption | exact True.intro) (_ : m .timers := by first | assumption | exact True.intro) (_ : m .engines := by first | assumption | exact True.intro) : Keeps m s0 (State.takeHalt x0 x1) := by unfold State.takeHalt; grind [State.boundary_keeps, State.unstall_keeps, State.breakLock_keeps, State.setEng_keeps, State.setEngineState_keeps]
theorem State.takeStop_keeps {s0 : State} (x0 : State) (x1) (h : Keeps m s0 x0) (_ : m .plates := by first | assumption | exact True.intro) (_ : m .ecc := by first | assumption | exact True.intro) (_ : m .queues := by first | assumption | exact True.intro) (_ : m .time := by first | assumption | exact True.intro) (_ : m .events := by first | assumption | exact True.intro) (_ : m .answers := by first | assumption | exact True.intro) (_ : m .flows := by first | assumption | exact True.intro) (_ : m .timers := by first | assumption | exact True.intro) (_ : m .engines := by first | assumption | exact True.intro) : Keeps m s0 (State.takeStop x0 x1) := by unfold State.takeStop; grind [State.boundary_keeps, State.unstall_keeps, State.breakLock_keeps, State.setEng_keeps, State.setEngineState_keeps]
theorem State.settleRun_keeps {s0 : State} (x0 : State) (x1) (h : Keeps m s0 x0) (_ : m .plates := by first | assumption | exact True.intro) (_ : m .ecc := by first | assumption | exact True.intro) (_ : m .queues := by first | assumption | exact True.intro) (_ : m .time := by first | assumption | exact True.intro) (_ : m .events := by first | assumption | exact True.intro) (_ : m .answers := by first | assumption | exact True.intro) (_ : m .flows := by first | assumption | exact True.intro) (_ : m .timers := by first | assumption | exact True.intro) (_ : m .engines := by first | assumption | exact True.intro) : Keeps m s0 (State.settleRun x0 x1) := by unfold State.settleRun; grind [State.takeStop_keeps, State.takeHalt_keeps]
theorem State.doubleFault_keeps {s0 : State} (x0 : State) (x1) (x2) (x3) (h : Keeps m s0 x0) (_ : m .plates := by first | assumption | exact True.intro) (_ : m .ecc := by first | assumption | exact True.intro) (_ : m .queues := by first | assumption | exact True.intro) (_ : m .time := by first | assumption | exact True.intro) (_ : m .events := by first | assumption | exact True.intro) (_ : m .answers := by first | assumption | exact True.intro) (_ : m .flows := by first | assumption | exact True.intro) (_ : m .timers := by first | assumption | exact True.intro) (_ : m .engines := by first | assumption | exact True.intro) : Keeps m s0 (State.doubleFault x0 x1 x2 x3) := by
  unfold State.doubleFault
  try simp only []
  repeat' first | assumption | exact True.intro | with_reducible exact h | with_reducible apply State.boundary_keeps | with_reducible apply State.unstall_keeps | with_reducible apply State.breakLock_keeps | with_reducible apply State.put_keeps | with_reducible apply State.setEng_keeps | with_reducible apply State.registerEvent_keeps | with_reducible apply State.setEngineState_keeps | split
  all_goals grind [State.boundary_keeps, State.unstall_keeps, State.breakLock_keeps, State.put_keeps, State.setEng_keeps, State.registerEvent_keeps, State.setEngineState_keeps, Keeps.upd]
theorem State.switchToPF_keeps {s0 : State} (x0 : State) (x1) (x2) (x3) (x4) (h : Keeps m s0 x0) (_ : m .plates := by first | assumption | exact True.intro) (_ : m .ecc := by first | assumption | exact True.intro) (_ : m .queues := by first | assumption | exact True.intro) (_ : m .time := by first | assumption | exact True.intro) (_ : m .events := by first | assumption | exact True.intro) (_ : m .answers := by first | assumption | exact True.intro) (_ : m .flows := by first | assumption | exact True.intro) (_ : m .timers := by first | assumption | exact True.intro) (_ : m .banks := by first | assumption | exact True.intro) (_ : m .engines := by first | assumption | exact True.intro) : Keeps m s0 (State.switchToPF x0 x1 x2 x3 x4) := by
  unfold State.switchToPF
  try simp only []
  repeat' first | assumption | exact True.intro | with_reducible exact h | with_reducible apply State.boundary_keeps | with_reducible apply State.unstall_keeps | with_reducible apply State.breakLock_keeps | with_reducible apply State.put_keeps | with_reducible apply State.setBank_keeps | with_reducible apply State.orBits_keeps | with_reducible apply State.setEngineState_keeps | with_reducible apply State.captureConds_keeps | with_reducible apply State.setEng_keeps | split
  all_goals grind [State.boundary_keeps, State.unstall_keeps, State.breakLock_keeps, State.put_keeps, State.setBank_keeps, State.orBits_keeps, State.setEngineState_keeps, State.captureConds_keeps, State.setEng_keeps, Keeps.upd]
theorem State.enterPF_keeps {s0 : State} (x0 : State) (x1) (x2) (x3) (x4) (x5) (x6) (h : Keeps m s0 x0) (_ : m .plates := by first | assumption | exact True.intro) (_ : m .ecc := by first | assumption | exact True.intro) (_ : m .queues := by first | assumption | exact True.intro) (_ : m .time := by first | assumption | exact True.intro) (_ : m .events := by first | assumption | exact True.intro) (_ : m .answers := by first | assumption | exact True.intro) (_ : m .flows := by first | assumption | exact True.intro) (_ : m .timers := by first | assumption | exact True.intro) (_ : m .banks := by first | assumption | exact True.intro) (_ : m .engines := by first | assumption | exact True.intro) : Keeps m s0 (State.enterPF x0 x1 x2 x3 x4 x5 x6) := by
  unfold State.enterPF
  try simp only []
  repeat' first | assumption | exact True.intro | with_reducible exact h | with_reducible apply State.doubleFault_keeps | with_reducible apply State.switchToPF_keeps | with_reducible apply State.put_keeps | with_reducible apply State.happening_keeps | with_reducible apply State.registerEvent_keeps | split
  all_goals grind [State.doubleFault_keeps, State.switchToPF_keeps, State.put_keeps, State.happening_keeps, State.registerEvent_keeps, Keeps.upd]
theorem State.enterLht_keeps {s0 : State} (x0 : State) (x1) (h : Keeps m s0 x0) (_ : m .plates := by first | assumption | exact True.intro) (_ : m .ecc := by first | assumption | exact True.intro) (_ : m .queues := by first | assumption | exact True.intro) (_ : m .time := by first | assumption | exact True.intro) (_ : m .events := by first | assumption | exact True.intro) (_ : m .answers := by first | assumption | exact True.intro) (_ : m .flows := by first | assumption | exact True.intro) (_ : m .timers := by first | assumption | exact True.intro) (_ : m .banks := by first | assumption | exact True.intro) (_ : m .engines := by first | assumption | exact True.intro) : Keeps m s0 (State.enterLht x0 x1) := by unfold State.enterLht; grind [State.happening_keeps, State.switchToPF_keeps]
theorem State.syncFault_keeps {s0 : State} (x0 : State) (x1) (x2) (x3) (x4) (x5) (x6) (h : Keeps m s0 x0) (_ : m .plates := by first | assumption | exact True.intro) (_ : m .ecc := by first | assumption | exact True.intro) (_ : m .queues := by first | assumption | exact True.intro) (_ : m .time := by first | assumption | exact True.intro) (_ : m .events := by first | assumption | exact True.intro) (_ : m .answers := by first | assumption | exact True.intro) (_ : m .flows := by first | assumption | exact True.intro) (_ : m .timers := by first | assumption | exact True.intro) (_ : m .banks := by first | assumption | exact True.intro) (_ : m .engines := by first | assumption | exact True.intro) : Keeps m s0 (State.syncFault x0 x1 x2 x3 x4 x5 x6) := by unfold State.syncFault; grind [State.takeHalt_keeps, State.put_keeps, State.breakLock_keeps, State.enterPF_keeps]
theorem State.takeAsync_keeps {s0 : State} (x0 : State) (x1) (h : Keeps m s0 x0) (_ : m .plates := by first | assumption | exact True.intro) (_ : m .ecc := by first | assumption | exact True.intro) (_ : m .queues := by first | assumption | exact True.intro) (_ : m .time := by first | assumption | exact True.intro) (_ : m .events := by first | assumption | exact True.intro) (_ : m .answers := by first | assumption | exact True.intro) (_ : m .flows := by first | assumption | exact True.intro) (_ : m .timers := by first | assumption | exact True.intro) (_ : m .banks := by first | assumption | exact True.intro) (_ : m .engines := by first | assumption | exact True.intro) : Keeps m s0 (State.takeAsync x0 x1) := by unfold State.takeAsync; grind [State.fresh_keeps, State.setWatchdog_keeps, State.enterPF_keeps, State.setEng_keeps]
theorem State.beginEntry_keeps {s0 : State} (x0 : State) (x1) (x2) (h : Keeps m s0 x0) (_ : m .timers := by first | assumption | exact True.intro) (_ : m .engines := by first | assumption | exact True.intro) : Keeps m s0 (State.beginEntry x0 x1 x2) := by unfold State.beginEntry; grind [State.put_keeps, State.boundary_keeps, State.unstall_keeps, State.setEng_keeps]
theorem State.commitDispatch_keeps {s0 : State} (x0 : State) (x1) (x2) (h : Keeps m s0 x0) (_ : m .time := by first | assumption | exact True.intro) (_ : m .events := by first | assumption | exact True.intro) (_ : m .answers := by first | assumption | exact True.intro) (_ : m .flows := by first | assumption | exact True.intro) (_ : m .timers := by first | assumption | exact True.intro) (_ : m .engines := by first | assumption | exact True.intro) : Keeps m s0 (x0.commitDispatch x1 x2) := by
  have ho (t : State) (v : Nat) (ht : Keeps m s0 t) : Keeps m s0
      (((((t.orBits (ENG_STAT.BANKS x1) (2 ^ x2)).put (ENG_STAT.LEVEL x1) x2).put (ENG_UPC.UPC x1) v).setEngineState x1 1).setEng x1
        { ((((t.orBits (ENG_STAT.BANKS x1) (2 ^ x2)).put (ENG_STAT.LEVEL x1) x2).put (ENG_UPC.UPC x1) v).setEngineState x1 1).eng x1 with
          entry := none, released := false, conds := x0.condMask x1 x2, condR15 := x0.gpr x1 x2 15 } |>.boundary x1) :=
    State.boundary_keeps _ _ (State.setEng_keeps _ _ _ (State.setEngineState_keeps _ _ _ (State.put_keeps _ _ _ (State.put_keeps _ _ _
      (State.orBits_keeps _ _ _ ht)))))
  unfold State.commitDispatch
  cases x0.linesAt x1 x2 with
  | nil => exact ho _ _ (State.setClaimContext_keeps _ _ _ _ h)
  | cons v vs => exact State.happening_keeps _ _ _ _ (ho _ _ (State.commitEntry_keeps _ _ _ _ h))
theorem State.dispatch_keeps {s0 : State} (x0 : State) (x1) (h : Keeps m s0 x0) (_ : m .plates := by first | assumption | exact True.intro) (_ : m .ecc := by first | assumption | exact True.intro) (_ : m .queues := by first | assumption | exact True.intro) (_ : m .time := by first | assumption | exact True.intro) (_ : m .events := by first | assumption | exact True.intro) (_ : m .answers := by first | assumption | exact True.intro) (_ : m .flows := by first | assumption | exact True.intro) (_ : m .timers := by first | assumption | exact True.intro) (_ : m .engines := by first | assumption | exact True.intro) : Keeps m s0 (State.dispatch x0 x1) := by unfold State.dispatch; grind [State.takeHalt_keeps, State.setEng_keeps, State.captureConds_keeps, State.beginEntry_keeps, State.commitDispatch_keeps]
theorem State.startEngine_keeps {s0 : State} (x0 : State) (x1) (h : Keeps m s0 x0) (_ : m .time := by first | assumption | exact True.intro) (_ : m .events := by first | assumption | exact True.intro) (_ : m .flows := by first | assumption | exact True.intro) (_ : m .timers := by first | assumption | exact True.intro) (_ : m .engines := by first | assumption | exact True.intro) : Keeps m s0 (State.startEngine x0 x1) := by unfold State.startEngine; grind [State.captureConds_keeps, State.orBits_keeps, State.setEngineState_keeps, State.setEng_keeps]
theorem State.stopRequest_keeps {s0 : State} (x0 : State) (x1) (x2) (h : Keeps m s0 x0) (_ : m .plates := by first | assumption | exact True.intro) (_ : m .ecc := by first | assumption | exact True.intro) (_ : m .queues := by first | assumption | exact True.intro) (_ : m .time := by first | assumption | exact True.intro) (_ : m .events := by first | assumption | exact True.intro) (_ : m .answers := by first | assumption | exact True.intro) (_ : m .flows := by first | assumption | exact True.intro) (_ : m .timers := by first | assumption | exact True.intro) (_ : m .engines := by first | assumption | exact True.intro) : Keeps m s0 (State.stopRequest x0 x1 x2) := by unfold State.stopRequest; grind [State.setEng_keeps, State.takeStop_keeps]
theorem writeEngCtl_keeps {s0 : State} (x0) (x1) (x2 : State) (h : Keeps m s0 x2) (_ : m .plates := by first | assumption | exact True.intro) (_ : m .ecc := by first | assumption | exact True.intro) (_ : m .queues := by first | assumption | exact True.intro) (_ : m .time := by first | assumption | exact True.intro) (_ : m .events := by first | assumption | exact True.intro) (_ : m .answers := by first | assumption | exact True.intro) (_ : m .flows := by first | assumption | exact True.intro) (_ : m .timers := by first | assumption | exact True.intro) (_ : m .engines := by first | assumption | exact True.intro) : EKeeps m s0 (writeEngCtl x0 x1 x2) := by unfold writeEngCtl; grind [State.setReg_keeps, State.watchdogRestart_keeps, Effect.ok_keeps, State.stopRequest_keeps, State.setEngineState_keeps, State.setEng_keeps, State.plainWrite_keeps, State.put_keeps, Effect.kept_keeps, State.startEngine_keeps, EKeeps, Effect.ok, Effect.kept, Effect.denied, Effect.retry]
theorem writeEngUpc_keeps {s0 : State} (x0) (x1) (x2 : State) (h : Keeps m s0 x2) : EKeeps m s0 (writeEngUpc x0 x1 x2) := by unfold writeEngUpc; grind [Effect.ok_keeps, State.plainWrite_keeps, Effect.denied_keeps, EKeeps, Effect.ok, Effect.kept, Effect.denied, Effect.retry]
theorem writeEngSal_keeps {s0 : State} (x0) (x1) (x2) (x3 : State) (h : Keeps m s0 x3) : EKeeps m s0 (writeEngSal x0 x1 x2 x3) := by unfold writeEngSal; grind [Effect.ok_keeps, State.plainWrite_keeps, Effect.denied_keeps, EKeeps, Effect.ok, Effect.kept, Effect.denied, Effect.retry]
theorem writeEngPri_keeps {s0 : State} (x0) (x1) (x2 : State) (h : Keeps m s0 x2) : EKeeps m s0 (writeEngPri x0 x1 x2) := by
  unfold writeEngPri
  try simp only []
  repeat' first | exact h | apply Effect.denied_keeps | apply State.put_keeps | split
  all_goals grind [Effect.denied_keeps, State.put_keeps, Keeps.upd, EKeeps, Effect.ok, Effect.kept, Effect.denied, Effect.retry]
theorem State.wcsNext_keeps {s0 : State} (x0 : State) (x1) (h : Keeps m s0 x0) : Keeps m s0 (State.wcsNext x0 x1) := by unfold State.wcsNext; grind [State.put_keeps]
theorem writeWcsAddr_keeps {s0 : State} (x0) (x1) (x2) (x3 : State) (h : Keeps m s0 x3) : EKeeps m s0 (writeWcsAddr x0 x1 x2 x3) := by unfold writeWcsAddr; grind [Effect.denied_keeps, State.plainWrite_keeps, Effect.ok_keeps, State.put_keeps, EKeeps, Effect.ok, Effect.kept, Effect.denied, Effect.retry]
theorem State.loadStoreWord_keeps {s0 : State} (x0 : State) (x1) (x2) (x3) (h : Keeps m s0 x0) (_ : m .store := by first | assumption | exact True.intro) (_ : m .engines := by first | assumption | exact True.intro) : Keeps m s0 (State.loadStoreWord x0 x1 x2 x3) := by unfold State.loadStoreWord; grind [State.setEng_keeps, State.setStoreWord_keeps, State.put_keeps]
theorem writeWcsD_keeps {s0 : State} (x0) (x1) (x2) (x3) (x4 : State) (h : Keeps m s0 x4) (_ : m .answers := by first | assumption | exact True.intro) (_ : m .store := by first | assumption | exact True.intro) (_ : m .engines := by first | assumption | exact True.intro) : EKeeps m s0 (writeWcsD x0 x1 x2 x3 x4) := by
  unfold writeWcsD
  try simp only []
  repeat' first | exact h | apply Effect.denied_keeps | apply Effect.ok_keeps | apply State.setEng_keeps | apply State.wcsNext_keeps | apply State.put_keeps | apply State.setStoreWord_keeps | apply State.logChange_keeps | split
  all_goals grind [Effect.denied_keeps, Effect.ok_keeps, State.setEng_keeps, State.wcsNext_keeps, State.put_keeps, State.setStoreWord_keeps, State.logChange_keeps, Keeps.upd, EKeeps, Effect.ok, Effect.kept, Effect.denied, Effect.retry]
theorem State.readWcsD_keeps {s0 : State} (x0 : State) (x1) (x2) (h : Keeps m s0 x0) (_ : m .engines := by first | assumption | exact True.intro) : Keeps m s0 (State.readWcsD x0 x1 x2).2.2 := by unfold State.readWcsD; grind [State.setEng_keeps, State.wcsNext_keeps]
theorem execEventDispatch_keeps {s0 : State} (x0) (x1 : State) (h : Keeps m s0 x1) (_ : m .plates := by first | assumption | exact True.intro) (_ : m .ecc := by first | assumption | exact True.intro) (_ : m .queues := by first | assumption | exact True.intro) (_ : m .time := by first | assumption | exact True.intro) (_ : m .events := by first | assumption | exact True.intro) (_ : m .answers := by first | assumption | exact True.intro) (_ : m .flows := by first | assumption | exact True.intro) (_ : m .timers := by first | assumption | exact True.intro) (_ : m .engines := by first | assumption | exact True.intro) : ∀ r, execEventDispatch x0 x1 = .next r → Keeps m s0 r := by unfold execEventDispatch; grind [State.dispatch_keeps]
theorem execEngineRun_keeps {s0 : State} (x0) (x1) (x2) (x3 : State) (h : Keeps m s0 x3) (_ : m .plates := by first | assumption | exact True.intro) (_ : m .ecc := by first | assumption | exact True.intro) (_ : m .queues := by first | assumption | exact True.intro) (_ : m .time := by first | assumption | exact True.intro) (_ : m .events := by first | assumption | exact True.intro) (_ : m .answers := by first | assumption | exact True.intro) (_ : m .flows := by first | assumption | exact True.intro) (_ : m .timers := by first | assumption | exact True.intro) (_ : m .engines := by first | assumption | exact True.intro) : ∀ r, execEngineRun x0 x1 x2 x3 = .next r → Keeps m s0 r := by unfold execEngineRun; grind [State.writeReg_keeps, writeEngCtl_keeps]
theorem execEngineStop_keeps {s0 : State} (x0) (x1) (x2) (x3 : State) (h : Keeps m s0 x3) (_ : m .plates := by first | assumption | exact True.intro) (_ : m .ecc := by first | assumption | exact True.intro) (_ : m .queues := by first | assumption | exact True.intro) (_ : m .time := by first | assumption | exact True.intro) (_ : m .events := by first | assumption | exact True.intro) (_ : m .answers := by first | assumption | exact True.intro) (_ : m .flows := by first | assumption | exact True.intro) (_ : m .timers := by first | assumption | exact True.intro) (_ : m .engines := by first | assumption | exact True.intro) : ∀ r, execEngineStop x0 x1 x2 x3 = .next r → Keeps m s0 r := by unfold execEngineStop; grind [State.writeReg_keeps, writeEngCtl_keeps]
theorem execEngineForceStop_keeps {s0 : State} (x0) (x1) (x2) (x3 : State) (h : Keeps m s0 x3) (_ : m .plates := by first | assumption | exact True.intro) (_ : m .ecc := by first | assumption | exact True.intro) (_ : m .queues := by first | assumption | exact True.intro) (_ : m .time := by first | assumption | exact True.intro) (_ : m .events := by first | assumption | exact True.intro) (_ : m .answers := by first | assumption | exact True.intro) (_ : m .flows := by first | assumption | exact True.intro) (_ : m .timers := by first | assumption | exact True.intro) (_ : m .engines := by first | assumption | exact True.intro) : ∀ r, execEngineForceStop x0 x1 x2 x3 = .next r → Keeps m s0 r := by unfold execEngineForceStop; grind [State.writeReg_keeps, writeEngCtl_keeps]
theorem execFclr_keeps {s0 : State} (x0) (x1) (x2) (x3 : State) (h : Keeps m s0 x3) (_ : m .plates := by first | assumption | exact True.intro) (_ : m .ecc := by first | assumption | exact True.intro) (_ : m .queues := by first | assumption | exact True.intro) (_ : m .time := by first | assumption | exact True.intro) (_ : m .events := by first | assumption | exact True.intro) (_ : m .answers := by first | assumption | exact True.intro) (_ : m .flows := by first | assumption | exact True.intro) (_ : m .timers := by first | assumption | exact True.intro) (_ : m .engines := by first | assumption | exact True.intro) : ∀ r, execFclr x0 x1 x2 x3 = .next r → Keeps m s0 r := by unfold execFclr; grind [State.writeReg_keeps, writeEngCtl_keeps]
theorem execDeferredHalt_keeps {s0 : State} (x0) (x1 : State) (h : Keeps m s0 x1) (_ : m .plates := by first | assumption | exact True.intro) (_ : m .ecc := by first | assumption | exact True.intro) (_ : m .queues := by first | assumption | exact True.intro) (_ : m .time := by first | assumption | exact True.intro) (_ : m .events := by first | assumption | exact True.intro) (_ : m .answers := by first | assumption | exact True.intro) (_ : m .flows := by first | assumption | exact True.intro) (_ : m .timers := by first | assumption | exact True.intro) (_ : m .engines := by first | assumption | exact True.intro) : ∀ r, execDeferredHalt x0 x1 = .next r → Keeps m s0 r := by unfold execDeferredHalt; grind [State.settleRun_keeps]
theorem execEngUpcWrite_keeps {s0 : State} (x0) (x1) (x2) (x3 : State) (h : Keeps m s0 x3) (_ : m .answers := by first | assumption | exact True.intro) : ∀ r, execEngUpcWrite x0 x1 x2 x3 = .next r → Keeps m s0 r := by unfold execEngUpcWrite; grind [State.writeReg_keeps, writeEngUpc_keeps]
theorem execEngPriWrite_keeps {s0 : State} (x0) (x1) (x2) (x3 : State) (h : Keeps m s0 x3) (_ : m .answers := by first | assumption | exact True.intro) : ∀ r, execEngPriWrite x0 x1 x2 x3 = .next r → Keeps m s0 r := by unfold execEngPriWrite; grind [State.writeReg_keeps, writeEngPri_keeps]
theorem execEngSalWrite_keeps {s0 : State} (x0) (x1) (x2) (x3) (x4 : State) (h : Keeps m s0 x4) (_ : m .answers := by first | assumption | exact True.intro) : ∀ r, execEngSalWrite x0 x1 x2 x3 x4 = .next r → Keeps m s0 r := by unfold execEngSalWrite; grind [State.writeReg_keeps, writeEngSal_keeps]
theorem execWcsCommit_keeps {s0 : State} (x0) (x1) (x2) (x3 : State) (h : Keeps m s0 x3) (_ : m .answers := by first | assumption | exact True.intro) (_ : m .store := by first | assumption | exact True.intro) (_ : m .engines := by first | assumption | exact True.intro) : ∀ r, execWcsCommit x0 x1 x2 x3 = .next r → Keeps m s0 r := by unfold execWcsCommit; grind [State.writeReg_keeps, writeWcsD_keeps]
theorem State.countFlows_keeps {s0 : State} (x0 : State) (h : Keeps m s0 x0) : Keeps m s0 (State.countFlows x0) := by unfold State.countFlows; grind [State.put_keeps]
theorem State.setBucket_keeps {s0 : State} (x0 : State) (x1) (x2) (x3) (h : Keeps m s0 x0) (_ : m .flows := by first | assumption | exact True.intro) : Keeps m s0 (State.setBucket x0 x1 x2 x3) := by unfold State.setBucket; grind [Keeps.upd]
theorem State.writeEntry_keeps {s0 : State} (x0 : State) (x1) (x2) (x3) (x4) (x5) (x6) (h : Keeps m s0 x0) (_ : m .flows := by first | assumption | exact True.intro) : Keeps m s0 (State.writeEntry x0 x1 x2 x3 x4 x5 x6) := by unfold State.writeEntry; grind [State.setReg_keeps, State.fresh_keeps, State.setBucket_keeps]
theorem State.dropEntry_keeps {s0 : State} (x0 : State) (x1) (x2) (x3) (h : Keeps m s0 x0) : Keeps m s0 (State.dropEntry x0 x1 x2 x3) := by unfold State.dropEntry; grind [State.put_keeps]
theorem State.dropEntries_keeps {s0 : State} (x0 : State) (x1) (x2) (h : Keeps m s0 x0) : Keeps m s0 (State.dropEntries x0 x1 x2) := by revert h; fun_induction State.dropEntries x0 x1 x2 <;> grind [State.dropEntry_keeps]
theorem State.activateFlow_keeps {s0 : State} (x0 : State) (x1) (h : Keeps m s0 x0) (_ : m .flows := by first | assumption | exact True.intro) : Keeps m s0 (State.activateFlow x0 x1) := by
  unfold State.activateFlow
  try simp only []
  repeat' first | assumption | exact True.intro | with_reducible exact h | with_reducible apply State.setReg_keeps | with_reducible apply State.put_keeps | with_reducible apply State.setFlow_keeps | with_reducible apply State.countFlows_keeps | split
  all_goals grind [State.setReg_keeps, State.put_keeps, State.setFlow_keeps, State.countFlows_keeps, Keeps.upd]
theorem State.withdrawFlow_keeps {s0 : State} (x0 : State) (x1) (h : Keeps m s0 x0) (_ : m .flows := by first | assumption | exact True.intro) : Keeps m s0 (State.withdrawFlow x0 x1) := by unfold State.withdrawFlow; grind [State.countFlows_keeps, State.put_keeps, State.setFlow_keeps]
theorem State.releaseFlow_keeps {s0 : State} (x0 : State) (x1) (h : Keeps m s0 x0) : Keeps m s0 (State.releaseFlow x0 x1) := by unfold State.releaseFlow; grind [State.countFlows_keeps, State.put_keeps, State.dropEntries_keeps]
theorem execFlowWithdrawn_keeps {s0 : State} (x0) (x1 : State) (h : Keeps m s0 x1) : ∀ r, execFlowWithdrawn x0 x1 = .next r → Keeps m s0 r := by unfold execFlowWithdrawn; grind [State.releaseFlow_keeps]
theorem State.ruleCommitted_keeps {s0 : State} (x0 : State) (x1) (x2) (h : Keeps m s0 x0) (_ : m .flows := by first | assumption | exact True.intro) : Keeps m s0 (State.ruleCommitted x0 x1 x2) := by revert h; fun_induction State.ruleCommitted x0 x1 x2 <;> grind [State.activateFlow_keeps, State.withdrawFlow_keeps]
theorem State.setPort_keeps {s0 : State} (x0 : State) (x1) (x2) (h : Keeps m s0 x0) (_ : m .framePorts := by first | assumption | exact True.intro) : Keeps m s0 (State.setPort x0 x1 x2) := by unfold State.setPort; grind [Keeps.upd]
theorem State.portEvent_keeps {s0 : State} (x0 : State) (x1) (x2) (h : Keeps m s0 x0) (_ : m .events := by first | assumption | exact True.intro) (_ : m .flows := by first | assumption | exact True.intro) : Keeps m s0 (State.portEvent x0 x1 x2) := by unfold State.portEvent; grind [State.registerEvent_keeps, State.setBit_keeps]
theorem State.portCount_keeps {s0 : State} (x0 : State) (x1) (x2) (h : Keeps m s0 x0) : Keeps m s0 (State.portCount x0 x1 x2) := by unfold State.portCount; grind [State.count_keeps]
theorem State.frameStamp_keeps {s0 : State} (x0 : State) (x1) (x2) (h : Keeps m s0 x0) (_ : m .time := by first | assumption | exact True.intro) : Keeps m s0 (State.frameStamp x0 x1 x2).2 := by unfold State.frameStamp; grind [State.stampEdge_keeps]
theorem writeFptCtl_keeps {s0 : State} (x0) (x1) (x2 : State) (h : Keeps m s0 x2) (_ : m .framePorts := by first | assumption | exact True.intro) : EKeeps m s0 (writeFptCtl x0 x1 x2) := by unfold writeFptCtl; grind [Effect.ok_keeps, State.setPort_keeps, State.plainWrite_keeps, EKeeps, Effect.ok, Effect.kept, Effect.denied, Effect.retry]
theorem State.judgeCopy_keeps {s0 : State} (x0 : State) (x1) (x2) (x3) (h : Keeps m s0 x0) (_ : m .events := by first | assumption | exact True.intro) (_ : m .flows := by first | assumption | exact True.intro) : Keeps m s0 (State.judgeCopy x0 x1 x2 x3).2.2 := by unfold State.judgeCopy; grind [State.fresh_keeps, State.portEvent_keeps, State.portCount_keeps, State.setBucket_keeps, State.setReg_keeps]
theorem State.placeCopy_keeps {s0 : State} (x0 : State) (x1) (x2) (x3) (x4) (x5) (x6) (x7) (x8) (h : Keeps m s0 x0) (_ : m .plates := by first | assumption | exact True.intro) (_ : m .ecc := by first | assumption | exact True.intro) (_ : m .queues := by first | assumption | exact True.intro) (_ : m .events := by first | assumption | exact True.intro) (_ : m .flows := by first | assumption | exact True.intro) : Keeps m s0 (State.placeCopy x0 x1 x2 x3 x4 x5 x6 x7 x8) := by unfold State.placeCopy; grind [State.portCount_keeps, State.placeBurst_keeps]
theorem State.offerCopy_keeps {s0 : State} (x0 : State) (x1) (x2) (x3) (x4) (x5) (x6) (x7) (h : Keeps m s0 x0) (_ : m .plates := by first | assumption | exact True.intro) (_ : m .ecc := by first | assumption | exact True.intro) (_ : m .queues := by first | assumption | exact True.intro) (_ : m .events := by first | assumption | exact True.intro) (_ : m .flows := by first | assumption | exact True.intro) : Keeps m s0 (State.offerCopy x0 x1 x2 x3 x4 x5 x6 x7) := by unfold State.offerCopy; grind [State.wait_keeps, State.placeCopy_keeps]
theorem State.copyFrame_keeps {s0 : State} (x0 : State) (x1) (x2) (x3) (x4) (x5) (x6) (x7) (h : Keeps m s0 x0) (_ : m .plates := by first | assumption | exact True.intro) (_ : m .ecc := by first | assumption | exact True.intro) (_ : m .queues := by first | assumption | exact True.intro) (_ : m .events := by first | assumption | exact True.intro) (_ : m .flows := by first | assumption | exact True.intro) : Keeps m s0 (State.copyFrame x0 x1 x2 x3 x4 x5 x6 x7).2 := by unfold State.copyFrame; grind [State.fresh_keeps, State.portCount_keeps, State.offerCopy_keeps, State.judgeCopy_keeps, State.portEvent_keeps]
theorem State.setGroup_keeps {s0 : State} (x0 : State) (x1) (x2) (h : Keeps m s0 x0) (_ : m .framePorts := by first | assumption | exact True.intro) : Keeps m s0 (State.setGroup x0 x1 x2) := by unfold State.setGroup; grind [Keeps.upd]
theorem State.enterProxy_keeps {s0 : State} (x0 : State) (x1) (x2) (h : Keeps m s0 x0) (_ : m .framePorts := by first | assumption | exact True.intro) : Keeps m s0 (State.enterProxy x0 x1 x2) := by unfold State.enterProxy; grind [State.setGroup_keeps]
theorem State.noteDuplicate_keeps {s0 : State} (x0 : State) (x1) (x2) (x3) (h : Keeps m s0 x0) (_ : m .events := by first | assumption | exact True.intro) (_ : m .flows := by first | assumption | exact True.intro) (_ : m .framePorts := by first | assumption | exact True.intro) : Keeps m s0 (State.noteDuplicate x0 x1 x2 x3) := by unfold State.noteDuplicate; grind [State.setGroup_keeps, State.portEvent_keeps, State.portCount_keeps]
theorem State.nextRedSeq_keeps {s0 : State} (x0 : State) (x1) (h : Keeps m s0 x0) : Keeps m s0 (State.nextRedSeq x0 x1).2 := by unfold State.nextRedSeq; grind [State.put_keeps]
theorem State.redIngress_keeps {s0 : State} (x0 : State) (x1) (x2) (h : Keeps m s0 x0) (_ : m .framePorts := by first | assumption | exact True.intro) : Keeps m s0 (State.redIngress x0 x1 x2).2 := by unfold State.redIngress; grind [State.portCount_keeps, State.nextRedSeq_keeps, State.enterProxy_keeps]
theorem State.checkDuplicate_keeps {s0 : State} (x0 : State) (x1) (x2) (x3) (h : Keeps m s0 x0) (_ : m .events := by first | assumption | exact True.intro) (_ : m .flows := by first | assumption | exact True.intro) (_ : m .framePorts := by first | assumption | exact True.intro) : Keeps m s0 (State.checkDuplicate x0 x1 x2 x3).2 := by unfold State.checkDuplicate; grind [State.portCount_keeps, State.noteDuplicate_keeps]
theorem State.redEgress_keeps {s0 : State} (x0 : State) (x1) (x2) (h : Keeps m s0 x0) (_ : m .events := by first | assumption | exact True.intro) (_ : m .flows := by first | assumption | exact True.intro) (_ : m .framePorts := by first | assumption | exact True.intro) : Keeps m s0 (State.redEgress x0 x1 x2).2 := by unfold State.redEgress; grind [State.checkDuplicate_keeps]
theorem State.setStream_keeps {s0 : State} (x0 : State) (x1) (x2) (x3) (h : Keeps m s0 x0) (_ : m .framePorts := by first | assumption | exact True.intro) : Keeps m s0 (State.setStream x0 x1 x2 x3) := by unfold State.setStream; grind [Keeps.upd]
theorem State.recover_keeps {s0 : State} (x0 : State) (x1) (x2) (x3) (h : Keeps m s0 x0) (_ : m .framePorts := by first | assumption | exact True.intro) : Keeps m s0 (State.recover x0 x1 x2 x3).2 := by unfold State.recover; grind [State.setStream_keeps, State.portCount_keeps]
theorem State.sendCore_keeps {s0 : State} (x0 : State) (x1) (x2) (h : Keeps m s0 x0) (_ : m .framePorts := by first | assumption | exact True.intro) : Keeps m s0 (State.sendCore x0 x1 x2) := by unfold State.sendCore; grind [State.setPort_keeps]
theorem State.ptpIn_keeps {s0 : State} (x0 : State) (x1) (x2) (x3) (h : Keeps m s0 x0) : Keeps m s0 (State.ptpIn x0 x1 x2 x3).2 := by unfold State.ptpIn; grind [State.portCount_keeps]
theorem State.receiveFrame_keeps {s0 : State} (x0 : State) (x1) (x2) (x3) (x4) (x5) (x6) (h : Keeps m s0 x0) (_ : m .plates := by first | assumption | exact True.intro) (_ : m .ecc := by first | assumption | exact True.intro) (_ : m .queues := by first | assumption | exact True.intro) (_ : m .time := by first | assumption | exact True.intro) (_ : m .events := by first | assumption | exact True.intro) (_ : m .flows := by first | assumption | exact True.intro) (_ : m .framePorts := by first | assumption | exact True.intro) : Keeps m s0 (State.receiveFrame x0 x1 x2 x3 x4 x5 x6) := by
  unfold State.receiveFrame
  try simp only []
  repeat' first | assumption | exact True.intro | with_reducible exact h | with_reducible apply State.frameStamp_keeps | with_reducible apply State.portCount_keeps | with_reducible apply State.sendCore_keeps | with_reducible apply State.copyFrame_keeps | with_reducible apply State.ptpIn_keeps | with_reducible apply State.redIngress_keeps | split
  all_goals grind [State.frameStamp_keeps, State.portCount_keeps, State.sendCore_keeps, State.copyFrame_keeps, State.ptpIn_keeps, State.redIngress_keeps, Keeps.upd]
theorem execFrameReceived_keeps {s0 : State} (x0) (x1) (x2) (x3) (x4) (x5) (x6 : State) (h : Keeps m s0 x6) (_ : m .plates := by first | assumption | exact True.intro) (_ : m .ecc := by first | assumption | exact True.intro) (_ : m .queues := by first | assumption | exact True.intro) (_ : m .time := by first | assumption | exact True.intro) (_ : m .events := by first | assumption | exact True.intro) (_ : m .flows := by first | assumption | exact True.intro) (_ : m .framePorts := by first | assumption | exact True.intro) : ∀ r, execFrameReceived x0 x1 x2 x3 x4 x5 x6 = .next r → Keeps m s0 r := by unfold execFrameReceived; grind [State.receiveFrame_keeps]
theorem execFrameFromSwitchCore_keeps {s0 : State} (x0) (x1) (x2) (x3) (x4 : State) (h : Keeps m s0 x4) (_ : m .plates := by first | assumption | exact True.intro) (_ : m .ecc := by first | assumption | exact True.intro) (_ : m .queues := by first | assumption | exact True.intro) (_ : m .events := by first | assumption | exact True.intro) (_ : m .flows := by first | assumption | exact True.intro) (_ : m .framePorts := by first | assumption | exact True.intro) : ∀ r, execFrameFromSwitchCore x0 x1 x2 x3 x4 = .next r → Keeps m s0 r := by unfold execFrameFromSwitchCore; grind [State.copyFrame_keeps, State.redEgress_keeps, State.recover_keeps, State.setPort_keeps]
theorem writeFptGctl_keeps {s0 : State} (x0) (x1) (x2 : State) (h : Keeps m s0 x2) (_ : m .events := by first | assumption | exact True.intro) (_ : m .flows := by first | assumption | exact True.intro) (_ : m .framePorts := by first | assumption | exact True.intro) : EKeeps m s0 (writeFptGctl x0 x1 x2) := by
  unfold writeFptGctl
  try simp only []
  repeat' first | assumption | exact True.intro | with_reducible exact h | with_reducible apply State.plainWrite_keeps | with_reducible apply Effect.ok_keeps | with_reducible apply State.portEvent_keeps | with_reducible apply State.put_keeps | with_reducible apply State.setPort_keeps | split
  all_goals grind [State.plainWrite_keeps, Effect.ok_keeps, State.portEvent_keeps, State.put_keeps, State.setPort_keeps, Keeps.upd, EKeeps, Effect.ok, Effect.kept, Effect.denied, Effect.retry]
theorem writeFptGent_keeps {s0 : State} (x0) (x1) (x2) (x3 : State) (h : Keeps m s0 x3) : EKeeps m s0 (writeFptGent x0 x1 x2 x3) := by unfold writeFptGent; grind [Effect.denied_keeps, Effect.ok_keeps, State.plainWrite_keeps, EKeeps, Effect.ok, Effect.kept, Effect.denied, Effect.retry]
theorem execGo_keeps {s0 : State} (x0) (x1) (x2) (x3 : State) (h : Keeps m s0 x3) (_ : m .events := by first | assumption | exact True.intro) (_ : m .answers := by first | assumption | exact True.intro) (_ : m .flows := by first | assumption | exact True.intro) (_ : m .framePorts := by first | assumption | exact True.intro) : ∀ r, execGo x0 x1 x2 x3 = .next r → Keeps m s0 r := by unfold execGo; grind [State.writeReg_keeps, writeFptGctl_keeps]
theorem execGateListChange_keeps {s0 : State} (x0) (x1 : State) (h : Keeps m s0 x1) (_ : m .events := by first | assumption | exact True.intro) (_ : m .flows := by first | assumption | exact True.intro) (_ : m .framePorts := by first | assumption | exact True.intro) : ∀ r, execGateListChange x0 x1 = .next r → Keeps m s0 r := by unfold execGateListChange; grind [State.setPort_keeps, State.put_keeps, State.portEvent_keeps, State.setReg_keeps]
theorem State.setResidue_keeps {s0 : State} (x0 : State) (x1) (x2) (x3) (h : Keeps m s0 x0) (_ : m .framePorts := by first | assumption | exact True.intro) : Keeps m s0 (State.setResidue x0 x1 x2 x3) := by unfold State.setResidue; grind [Keeps.upd]
theorem State.readPortHead_keeps {s0 : State} (x0 : State) (x1) (x2) (x3) (h : Keeps m s0 x0) (_ : m .events := by first | assumption | exact True.intro) (_ : m .flows := by first | assumption | exact True.intro) : Keeps m s0 (State.readPortHead x0 x1 x2 x3).2 := by unfold State.readPortHead; grind [State.readHead_keeps]
theorem State.portItemDone_keeps {s0 : State} (x0 : State) (x1) (x2) (h : Keeps m s0 x0) (_ : m .flows := by first | assumption | exact True.intro) : Keeps m s0 (State.portItemDone x0 x1 x2) := by unfold State.portItemDone; grind [State.itemDone_keeps]
theorem State.finishFront_keeps {s0 : State} (x0 : State) (x1) (x2) (x3) (h : Keeps m s0 x0) (_ : m .queues := by first | assumption | exact True.intro) (_ : m .events := by first | assumption | exact True.intro) (_ : m .flows := by first | assumption | exact True.intro) (_ : m .framePorts := by first | assumption | exact True.intro) : Keeps m s0 (State.finishFront x0 x1 x2 x3) := by revert h; fun_induction State.finishFront x0 x1 x2 x3 <;> grind [State.portItemDone_keeps, State.finishDescriptor_keeps, State.setResidue_keeps]
theorem State.portDone_keeps {s0 : State} (x0 : State) (x1) (x2) (x3) (x4) (x5) (h : Keeps m s0 x0) (_ : m .queues := by first | assumption | exact True.intro) (_ : m .events := by first | assumption | exact True.intro) (_ : m .flows := by first | assumption | exact True.intro) (_ : m .framePorts := by first | assumption | exact True.intro) : Keeps m s0 (State.portDone x0 x1 x2 x3 x4 x5) := by unfold State.portDone; grind [State.setResidue_keeps, State.dequeue_keeps, State.finishFront_keeps]
theorem State.ledgerTake_keeps {s0 : State} (x0 : State) (x1) (x2) (h : Keeps m s0 x0) : Keeps m s0 (State.ledgerTake x0 x1 x2) := by unfold State.ledgerTake; grind [State.setReg_keeps]
theorem State.consumeTomb_keeps {s0 : State} (x0 : State) (x1) (x2) (h : Keeps m s0 x0) (_ : m .events := by first | assumption | exact True.intro) (_ : m .flows := by first | assumption | exact True.intro) : Keeps m s0 (State.consumeTomb x0 x1 x2) := by unfold State.consumeTomb; grind [State.ledgerTake_keeps, State.portEvent_keeps, State.portCount_keeps]
theorem State.bufferBytes_keeps {s0 : State} (x0 : State) (x1) (x2) (h : Keeps m s0 x0) : Keeps m s0 (State.bufferBytes x0 x1 x2).2 := by unfold State.bufferBytes; grind [State.plateRead_keeps]
theorem State.stampRecord_keeps {s0 : State} (x0 : State) (x1) (x2) (h : Keeps m s0 x0) (_ : m .queues := by first | assumption | exact True.intro) (_ : m .events := by first | assumption | exact True.intro) (_ : m .flows := by first | assumption | exact True.intro) : Keeps m s0 (State.stampRecord x0 x1 x2) := by unfold State.stampRecord; grind [State.hwEnqueue_keeps, State.portEvent_keeps]
theorem State.sendMac_keeps {s0 : State} (x0 : State) (x1) (x2) (h : Keeps m s0 x0) (_ : m .framePorts := by first | assumption | exact True.intro) : Keeps m s0 (State.sendMac x0 x1 x2) := by unfold State.sendMac; grind [State.portCount_keeps, State.setPort_keeps]
theorem State.emitQueue_keeps {s0 : State} (x0 : State) (x1) (x2) (x3) (x4) (x5) (x6) (x7) (h : Keeps m s0 x0) (_ : m .queues := by first | assumption | exact True.intro) (_ : m .time := by first | assumption | exact True.intro) (_ : m .events := by first | assumption | exact True.intro) (_ : m .flows := by first | assumption | exact True.intro) (_ : m .framePorts := by first | assumption | exact True.intro) : Keeps m s0 (State.emitQueue x0 x1 x2 x3 x4 x5 x6 x7) := by unfold State.emitQueue; grind [State.bufferBytes_keeps, State.stopQueue_keeps, State.frameStamp_keeps, State.ledgerTake_keeps, State.sendMac_keeps, State.stampRecord_keeps, State.portDone_keeps]
theorem State.emitCore_keeps {s0 : State} (x0 : State) (x1) (x2) (x3) (x4) (h : Keeps m s0 x0) (_ : m .queues := by first | assumption | exact True.intro) (_ : m .time := by first | assumption | exact True.intro) (_ : m .events := by first | assumption | exact True.intro) (_ : m .flows := by first | assumption | exact True.intro) (_ : m .framePorts := by first | assumption | exact True.intro) : Keeps m s0 (State.emitCore x0 x1 x2 x3 x4) := by
  unfold State.emitCore
  try simp only []
  repeat' first | assumption | exact True.intro | with_reducible exact h | with_reducible apply State.frameStamp_keeps | with_reducible apply State.setPort_keeps | with_reducible apply State.portCount_keeps | with_reducible apply State.sendMac_keeps | with_reducible apply State.portEvent_keeps | with_reducible apply State.stampRecord_keeps | split
  all_goals grind [State.frameStamp_keeps, State.setPort_keeps, State.portCount_keeps, State.sendMac_keeps, State.portEvent_keeps, State.stampRecord_keeps, Keeps.upd]
theorem State.serveClass_keeps {s0 : State} (x0 : State) (x1) (x2) (x3) (x4) (x5) (x6) (h : Keeps m s0 x0) (_ : m .queues := by first | assumption | exact True.intro) (_ : m .time := by first | assumption | exact True.intro) (_ : m .events := by first | assumption | exact True.intro) (_ : m .flows := by first | assumption | exact True.intro) (_ : m .framePorts := by first | assumption | exact True.intro) : ∀ r, State.serveClass x0 x1 x2 x3 x4 x5 x6 = some r → Keeps m s0 r := by unfold State.serveClass; grind [State.setPort_keeps, State.portDone_keeps, State.emitCore_keeps, State.portCount_keeps, State.emitQueue_keeps, State.consumeTomb_keeps, State.readPortHead_keeps, State.portEvent_keeps]
theorem execFrameEmission_keeps {s0 : State} (x0) (x1) (x2) (x3) (x4) (x5 : State) (h : Keeps m s0 x5) (_ : m .queues := by first | assumption | exact True.intro) (_ : m .time := by first | assumption | exact True.intro) (_ : m .events := by first | assumption | exact True.intro) (_ : m .flows := by first | assumption | exact True.intro) (_ : m .framePorts := by first | assumption | exact True.intro) : ∀ r, execFrameEmission x0 x1 x2 x3 x4 x5 = .next r → Keeps m s0 r := by
  intro r hr
  cases hr
  split
  · exact h
  · cases hf : [7, 6, 5, 4, 3, 2, 1, 0].findSome? (x5.serveClass x0 x1 x2 x3 x4) with
    | none => exact h
    | some t =>
      obtain ⟨k, -, hk⟩ := List.exists_of_findSome?_eq_some hf
      exact (State.serveClass_keeps _ _ _ _ _ _ _ h) _ hk
theorem execExpiryConversion_keeps {s0 : State} (x0) (x1) (x2) (x3 : State) (h : Keeps m s0 x3) (_ : m .queues := by first | assumption | exact True.intro) (_ : m .events := by first | assumption | exact True.intro) (_ : m .flows := by first | assumption | exact True.intro) (_ : m .framePorts := by first | assumption | exact True.intro) : ∀ r, execExpiryConversion x0 x1 x2 x3 = .next r → Keeps m s0 r := by unfold execExpiryConversion; grind [State.portDone_keeps, State.consumeTomb_keeps, State.readPortHead_keeps]
theorem execInjectedFrame_keeps {s0 : State} (x0) (x1) (x2 : State) (h : Keeps m s0 x2) (_ : m .queues := by first | assumption | exact True.intro) (_ : m .events := by first | assumption | exact True.intro) (_ : m .flows := by first | assumption | exact True.intro) (_ : m .framePorts := by first | assumption | exact True.intro) : ∀ r, execInjectedFrame x0 x1 x2 = .next r → Keeps m s0 r := by
  unfold execInjectedFrame
  try simp only []
  repeat' first | assumption | exact True.intro | with_reducible exact h | with_reducible apply State.stopQueue_keeps | with_reducible apply State.dequeue_keeps | with_reducible apply State.finishDescriptor_keeps | with_reducible apply State.portCount_keeps | with_reducible apply State.bufferBytes_keeps | with_reducible apply State.readHead_keeps | with_reducible apply State.portEvent_keeps | with_reducible apply State.sendCore_keeps | split
  all_goals grind [State.stopQueue_keeps, State.dequeue_keeps, State.finishDescriptor_keeps, State.portCount_keeps, State.bufferBytes_keeps, State.readHead_keeps, State.portEvent_keeps, State.sendCore_keeps]
theorem writeFptFrw_keeps {s0 : State} (x0) (x1) (x2) (x3 : State) (h : Keeps m s0 x3) (_ : m .framePorts := by first | assumption | exact True.intro) : EKeeps m s0 (writeFptFrw x0 x1 x2 x3) := by unfold writeFptFrw; grind [Effect.denied_keeps, Effect.ok_keeps, State.setPort_keeps, EKeeps, Effect.ok, Effect.kept, Effect.denied, Effect.retry]
theorem writeFptFrw6_keeps {s0 : State} (x0) (x1) (x2 : State) (h : Keeps m s0 x2) (_ : m .framePorts := by first | assumption | exact True.intro) : EKeeps m s0 (writeFptFrw6 x0 x1 x2) := by unfold writeFptFrw6; grind [Effect.denied_keeps, Effect.ok_keeps, State.setPort_keeps, State.put_keeps, EKeeps, Effect.ok, Effect.kept, Effect.denied, Effect.retry]
theorem State.putRule_keeps {s0 : State} (x0 : State) (x1) (x2) (x3) (x4) (h : Keeps m s0 x0) : Keeps m s0 (State.putRule x0 x1 x2 x3 x4) := by revert h; fun_induction State.putRule x0 x1 x2 x3 x4 <;> grind [State.plainWrite_keeps]
theorem State.askRule_keeps {s0 : State} (x0 : State) (x1) (h : Keeps m s0 x0) (_ : m .framePorts := by first | assumption | exact True.intro) : Keeps m s0 (State.askRule x0 x1) := by unfold State.askRule; grind [State.setPort_keeps, State.put_keeps]
theorem State.applyRule_keeps {s0 : State} (x0 : State) (x1) (h : Keeps m s0 x0) (_ : m .flows := by first | assumption | exact True.intro) (_ : m .framePorts := by first | assumption | exact True.intro) : Keeps m s0 (State.applyRule x0 x1) := by
  unfold State.applyRule
  try simp only []
  repeat' first | exact h | apply State.setPort_keeps | apply State.put_keeps | apply State.putRule_keeps | apply State.askRule_keeps | apply State.ruleCommitted_keeps | split
  all_goals grind [State.setPort_keeps, State.put_keeps, State.putRule_keeps, State.askRule_keeps, State.ruleCommitted_keeps, Keeps.upd]
theorem execFinderRuleCommit_keeps {s0 : State} (x0) (x1) (x2) (x3 : State) (h : Keeps m s0 x3) (_ : m .answers := by first | assumption | exact True.intro) (_ : m .framePorts := by first | assumption | exact True.intro) : ∀ r, execFinderRuleCommit x0 x1 x2 x3 = .next r → Keeps m s0 r := by unfold execFinderRuleCommit; grind [State.writeReg_keeps, writeFptFrw6_keeps]
theorem execFinderRuleApply_keeps {s0 : State} (x0) (x1 : State) (h : Keeps m s0 x1) (_ : m .flows := by first | assumption | exact True.intro) (_ : m .framePorts := by first | assumption | exact True.intro) : ∀ r, execFinderRuleApply x0 x1 = .next r → Keeps m s0 r := by unfold execFinderRuleApply; grind [State.applyRule_keeps]
theorem writeFptFtw_keeps {s0 : State} (x0) (x1) (x2) (x3 : State) (h : Keeps m s0 x3) (_ : m .framePorts := by first | assumption | exact True.intro) : EKeeps m s0 (writeFptFtw x0 x1 x2 x3) := by unfold writeFptFtw; grind [Effect.ok_keeps, State.setPort_keeps, EKeeps, Effect.ok, Effect.kept, Effect.denied, Effect.retry]
theorem writeFptFtw3_keeps {s0 : State} (x0) (x1) (x2 : State) (h : Keeps m s0 x2) (_ : m .events := by first | assumption | exact True.intro) (_ : m .flows := by first | assumption | exact True.intro) (_ : m .framePorts := by first | assumption | exact True.intro) : EKeeps m s0 (writeFptFtw3 x0 x1 x2) := by unfold writeFptFtw3; grind [State.setPort_keeps, Effect.ok_keeps, State.writeEntry_keeps, Effect.conflict_keeps, Effect.denied_keeps, EKeeps, Effect.ok, Effect.kept, Effect.denied, Effect.retry]
theorem execFlowTableCommit_keeps {s0 : State} (x0) (x1) (x2) (x3 : State) (h : Keeps m s0 x3) (_ : m .events := by first | assumption | exact True.intro) (_ : m .answers := by first | assumption | exact True.intro) (_ : m .flows := by first | assumption | exact True.intro) (_ : m .framePorts := by first | assumption | exact True.intro) : ∀ r, execFlowTableCommit x0 x1 x2 x3 = .next r → Keeps m s0 r := by unfold execFlowTableCommit; grind [State.writeReg_keeps, writeFptFtw3_keeps]
theorem State.refill_keeps {s0 : State} (x0 : State) (x1) (x2) (h : Keeps m s0 x0) (_ : m .flows := by first | assumption | exact True.intro) : Keeps m s0 (State.refill x0 x1 x2) := by revert h; fun_induction State.refill x0 x1 x2 <;> grind [State.setBucket_keeps]
theorem execBucketRefill_keeps {s0 : State} (x0) (x1 : State) (h : Keeps m s0 x1) (_ : m .flows := by first | assumption | exact True.intro) (_ : m .framePorts := by first | assumption | exact True.intro) : ∀ r, execBucketRefill x0 x1 = .next r → Keeps m s0 r := by unfold execBucketRefill; grind [State.refill_keeps, State.setPort_keeps]
theorem execBypassChange_keeps {s0 : State} (x0) (x1 : State) (h : Keeps m s0 x1) (_ : m .framePorts := by first | assumption | exact True.intro) : ∀ r, execBypassChange x0 x1 = .next r → Keeps m s0 r := by unfold execBypassChange; grind [State.setPort_keeps]
theorem execMacStatisticsCode_keeps {s0 : State} (x0) (x1) (x2 : State) (h : Keeps m s0 x2) (_ : m .events := by first | assumption | exact True.intro) (_ : m .flows := by first | assumption | exact True.intro) : ∀ r, execMacStatisticsCode x0 x1 x2 = .next r → Keeps m s0 r := by unfold execMacStatisticsCode; grind [State.portCount_keeps, State.portEvent_keeps, State.put_keeps]
theorem execMacWakeEdge_keeps {s0 : State} (x0) (x1 : State) (h : Keeps m s0 x1) (_ : m .events := by first | assumption | exact True.intro) (_ : m .flows := by first | assumption | exact True.intro) : ∀ r, execMacWakeEdge x0 x1 = .next r → Keeps m s0 r := by unfold execMacWakeEdge; grind [State.setBit_keeps, State.catchEdge_keeps]
theorem execResidueIndication_keeps {s0 : State} (x0) (x1) (x2 : State) (h : Keeps m s0 x2) (_ : m .events := by first | assumption | exact True.intro) (_ : m .flows := by first | assumption | exact True.intro) : ∀ r, execResidueIndication x0 x1 x2 = .next r → Keeps m s0 r := by unfold execResidueIndication; grind [State.portEvent_keeps, State.orBits_keeps]
theorem execLinkDelayCopy_keeps {s0 : State} (x0) (x1) (x2 : State) (h : Keeps m s0 x2) (_ : m .framePorts := by first | assumption | exact True.intro) : ∀ r, execLinkDelayCopy x0 x1 x2 = .next r → Keeps m s0 r := by unfold execLinkDelayCopy; grind [State.setReg_keeps, State.setPort_keeps, State.plateRead_keeps]
theorem execDuplicateEntryExpiry_keeps {s0 : State} (x0) (x1 : State) (h : Keeps m s0 x1) (_ : m .framePorts := by first | assumption | exact True.intro) : ∀ r, execDuplicateEntryExpiry x0 x1 = .next r → Keeps m s0 r := by unfold execDuplicateEntryExpiry; grind [State.setGroup_keeps]
theorem execProxyEntryExpiry_keeps {s0 : State} (x0) (x1 : State) (h : Keeps m s0 x1) (_ : m .framePorts := by first | assumption | exact True.intro) : ∀ r, execProxyEntryExpiry x0 x1 = .next r → Keeps m s0 r := by unfold execProxyEntryExpiry; grind [State.setGroup_keeps]
theorem execRecoveryStreamReset_keeps {s0 : State} (x0) (x1) (x2 : State) (h : Keeps m s0 x2) (_ : m .framePorts := by first | assumption | exact True.intro) : ∀ r, execRecoveryStreamReset x0 x1 x2 = .next r → Keeps m s0 r :=
  next_keeps _ (ite_keeps (State.setStream_keeps _ _ _ _ h) h)
theorem writeFptPhy_keeps {s0 : State} (x0) (x1) (x2 : State) (h : Keeps m s0 x2) : EKeeps m s0 (writeFptPhy x0 x1 x2) := by
  unfold writeFptPhy
  try simp only []
  repeat' first | exact h | apply State.plainWrite_keeps | apply Effect.ok_keeps | split
  all_goals grind [State.plainWrite_keeps, Effect.ok_keeps, Keeps.upd, EKeeps, Effect.ok, Effect.kept, Effect.denied, Effect.retry]
theorem writeFptRed_keeps {s0 : State} (x0) (x1) (x2 : State) (h : Keeps m s0 x2) : EKeeps m s0 (writeFptRed x0 x1 x2) := by
  unfold writeFptRed
  try simp only []
  repeat' first | exact h | apply State.plainWrite_keeps | apply Effect.ok_keeps | split
  all_goals grind [State.plainWrite_keeps, Effect.ok_keeps, Keeps.upd, EKeeps, Effect.ok, Effect.kept, Effect.denied, Effect.retry]
theorem writeFptRcvcfg_keeps {s0 : State} (x0) (x1) (x2) (x3 : State) (h : Keeps m s0 x3) : EKeeps m s0 (writeFptRcvcfg x0 x1 x2 x3) := by
  unfold writeFptRcvcfg
  try simp only []
  repeat' first | exact h | apply State.plainWrite_keeps | apply Effect.ok_keeps | split
  all_goals grind [State.plainWrite_keeps, Effect.ok_keeps, Keeps.upd, EKeeps, Effect.ok, Effect.kept, Effect.denied, Effect.retry]
theorem State.evaluateFront_keeps {s0 : State} (x0 : State) (x1) (x2) (x3) (h : Keeps m s0 x0) (_ : m .occultation := by first | assumption | exact True.intro) : Keeps m s0 (State.evaluateFront x0 x1 x2 x3) := by unfold State.evaluateFront; grind [State.setChannel_keeps, State.count_keeps]
theorem State.placeArrival_keeps {s0 : State} (x0 : State) (x1) (x2) (x3) (x4) (h : Keeps m s0 x0) (_ : m .plates := by first | assumption | exact True.intro) (_ : m .ecc := by first | assumption | exact True.intro) (_ : m .queues := by first | assumption | exact True.intro) (_ : m .events := by first | assumption | exact True.intro) (_ : m .flows := by first | assumption | exact True.intro) : Keeps m s0 (State.placeArrival x0 x1 x2 x3 x4) := by unfold State.placeArrival; grind [State.registerEvent_keeps, State.placeBurst_keeps, State.put_keeps, State.hwEnqueue_keeps]
theorem State.offerRecord_keeps {s0 : State} (x0 : State) (x1) (x2) (x3) (h : Keeps m s0 x0) (_ : m .plates := by first | assumption | exact True.intro) (_ : m .ecc := by first | assumption | exact True.intro) (_ : m .queues := by first | assumption | exact True.intro) (_ : m .events := by first | assumption | exact True.intro) (_ : m .flows := by first | assumption | exact True.intro) : Keeps m s0 (State.offerRecord x0 x1 x2 x3) := by unfold State.offerRecord; grind [State.wait_keeps, State.placeArrival_keeps]
theorem State.judgeFront_keeps {s0 : State} (x0 : State) (x1) (x2) (x3) (h : Keeps m s0 x0) (_ : m .plates := by first | assumption | exact True.intro) (_ : m .ecc := by first | assumption | exact True.intro) (_ : m .queues := by first | assumption | exact True.intro) (_ : m .events := by first | assumption | exact True.intro) (_ : m .flows := by first | assumption | exact True.intro) (_ : m .occultation := by first | assumption | exact True.intro) : Keeps m s0 (State.judgeFront x0 x1 x2 x3) := by
  unfold State.judgeFront
  try simp only []
  repeat' first | assumption | exact True.intro | with_reducible exact h | with_reducible apply State.offerRecord_keeps | with_reducible apply State.registerEvent_keeps | with_reducible apply State.setChannel_keeps | with_reducible apply State.put_keeps | with_reducible apply State.count_keeps | split
  all_goals grind [State.offerRecord_keeps, State.registerEvent_keeps, State.setChannel_keeps, State.put_keeps, State.count_keeps]
theorem State.channelOff_keeps {s0 : State} (x0 : State) (x1) (h : Keeps m s0 x0) (_ : m .occultation := by first | assumption | exact True.intro) : Keeps m s0 (State.channelOff x0 x1) := by unfold State.channelOff; grind [State.setChannel_keeps, State.put_keeps]
theorem State.writeWarm_keeps {s0 : State} (x0 : State) (x1) (x2) (h : Keeps m s0 x0) (_ : m .occultation := by first | assumption | exact True.intro) : Keeps m s0 (State.writeWarm x0 x1 x2) := by unfold State.writeWarm; grind [State.put_keeps, State.setChannel_keeps]
theorem writeOccChctl_keeps {s0 : State} (x0) (x1) (x2) (x3 : State) (h : Keeps m s0 x3) (_ : m .occultation := by first | assumption | exact True.intro) : EKeeps m s0 (writeOccChctl x0 x1 x2 x3) := by
  unfold writeOccChctl
  split
  · exact Effect.denied_keeps _ _ h
  · refine ⟨?_, fun _ h => h⟩
    have hm (t u : State) (c : Prop) [Decidable c] (ht : Keeps m s0 t) (hu : Keeps m s0 u) : Keeps m s0 (if c then t else u) := by
      split <;> assumption
    extract_lets t1 t2 t3 t4
    have h1 : Keeps m s0 t1 := State.put_keeps _ _ _ h
    have h2 : Keeps m s0 t2 := hm _ _ _ h1 (State.put_keeps _ _ _ h1)
    have h3 : Keeps m s0 t3 := State.writeWarm_keeps _ _ _ h2
    exact hm _ _ _ (State.put_keeps _ _ _ (State.channelOff_keeps _ _ h3)) h3
theorem writeOccWindow_keeps {s0 : State} (x0) (x1) (x2) (x3) (x4 : State) (h : Keeps m s0 x4) : EKeeps m s0 (writeOccWindow x0 x1 x2 x3 x4) := by unfold writeOccWindow; grind [Effect.denied_keeps, Effect.kept_keeps, State.put_keeps, Effect.ok_keeps, State.plainWrite_keeps, EKeeps, Effect.ok, Effect.kept, Effect.denied, Effect.retry]
theorem writeOccChcfg_keeps {s0 : State} (x0) (x1) (x2 : State) (h : Keeps m s0 x2) : EKeeps m s0 (writeOccChcfg x0 x1 x2) := by unfold writeOccChcfg; grind [Effect.denied_keeps, Effect.ok_keeps, State.plainWrite_keeps, EKeeps, Effect.ok, Effect.kept, Effect.denied, Effect.retry]
theorem writeOccThr_keeps {s0 : State} (x0) (x1) (x2 : State) (h : Keeps m s0 x2) : EKeeps m s0 (writeOccThr x0 x1 x2) := by unfold writeOccThr; grind [Effect.ok_keeps, State.put_keeps, EKeeps, Effect.ok, Effect.kept, Effect.denied, Effect.retry]
theorem execTrain_keeps {s0 : State} (x0) (x1) (x2) (x3 : State) (h : Keeps m s0 x3) (_ : m .answers := by first | assumption | exact True.intro) (_ : m .occultation := by first | assumption | exact True.intro) : ∀ r, execTrain x0 x1 x2 x3 = .next r → Keeps m s0 r := by unfold execTrain; grind [State.writeReg_keeps, writeOccChctl_keeps]
theorem execTrainingComplete_keeps {s0 : State} (x0) (x1 : State) (h : Keeps m s0 x1) (_ : m .occultation := by first | assumption | exact True.intro) : ∀ r, execTrainingComplete x0 x1 = .next r → Keeps m s0 r := by unfold execTrainingComplete; grind [State.setChannel_keeps, State.put_keeps]
theorem execChannelLost_keeps {s0 : State} (x0) (x1 : State) (h : Keeps m s0 x1) (_ : m .events := by first | assumption | exact True.intro) (_ : m .flows := by first | assumption | exact True.intro) (_ : m .occultation := by first | assumption | exact True.intro) : ∀ r, execChannelLost x0 x1 = .next r → Keeps m s0 r := by unfold execChannelLost; grind [State.registerEvent_keeps, State.setChannel_keeps, State.put_keeps]
theorem execFrontTrigger_keeps {s0 : State} (x0) (x1) (x2) (x3) (x4 : State) (h : Keeps m s0 x4) (_ : m .occultation := by first | assumption | exact True.intro) : ∀ r, execFrontTrigger x0 x1 x2 x3 x4 = .next r → Keeps m s0 r := by unfold execFrontTrigger; grind [State.evaluateFront_keeps]
theorem execArrivalRecord_keeps {s0 : State} (x0) (x1) (x2 : State) (h : Keeps m s0 x2) (_ : m .plates := by first | assumption | exact True.intro) (_ : m .ecc := by first | assumption | exact True.intro) (_ : m .queues := by first | assumption | exact True.intro) (_ : m .events := by first | assumption | exact True.intro) (_ : m .flows := by first | assumption | exact True.intro) (_ : m .occultation := by first | assumption | exact True.intro) : ∀ r, execArrivalRecord x0 x1 x2 = .next r → Keeps m s0 r := by unfold execArrivalRecord; grind [State.judgeFront_keeps]
theorem execWarm_keeps {s0 : State} (x0) (x1) (x2) (x3 : State) (h : Keeps m s0 x3) (_ : m .answers := by first | assumption | exact True.intro) (_ : m .occultation := by first | assumption | exact True.intro) : ∀ r, execWarm x0 x1 x2 x3 = .next r → Keeps m s0 r := by unfold execWarm; grind [State.writeReg_keeps, writeOccChctl_keeps]
theorem execWindowClose_keeps {s0 : State} (x0) (x1 : State) (h : Keeps m s0 x1) (_ : m .events := by first | assumption | exact True.intro) (_ : m .flows := by first | assumption | exact True.intro) : ∀ r, execWindowClose x0 x1 = .next r → Keeps m s0 r := by unfold execWindowClose; grind [State.put_keeps, State.registerEvent_keeps]
theorem execOccChcfgWrite_keeps {s0 : State} (x0) (x1) (x2) (x3 : State) (h : Keeps m s0 x3) (_ : m .answers := by first | assumption | exact True.intro) : ∀ r, execOccChcfgWrite x0 x1 x2 x3 = .next r → Keeps m s0 r := by unfold execOccChcfgWrite; grind [State.writeReg_keeps, writeOccChcfg_keeps]
theorem State.placeRecord_keeps {s0 : State} (x0 : State) (h : Keeps m s0 x0) (_ : m .plates := by first | assumption | exact True.intro) (_ : m .ecc := by first | assumption | exact True.intro) (_ : m .answers := by first | assumption | exact True.intro) : Keeps m s0 (State.placeRecord x0) := by unfold State.placeRecord; grind [State.setReg_keeps, State.plateWrite_keeps, Keeps.upd]
theorem State.placeRecords_keeps {s0 : State} (x0 : State) (x1) (h : Keeps m s0 x0) (_ : m .plates := by first | assumption | exact True.intro) (_ : m .ecc := by first | assumption | exact True.intro) (_ : m .answers := by first | assumption | exact True.intro) : Keeps m s0 (State.placeRecords x0 x1) := by revert h; fun_induction State.placeRecords x0 x1 <;> grind [State.placeRecord_keeps]
theorem State.placeAll_keeps {s0 : State} (x0 : State) (h : Keeps m s0 x0) (_ : m .plates := by first | assumption | exact True.intro) (_ : m .ecc := by first | assumption | exact True.intro) (_ : m .answers := by first | assumption | exact True.intro) : Keeps m s0 (State.placeAll x0) := by unfold State.placeAll; grind [State.placeRecords_keeps]
theorem State.reserveGap_keeps {s0 : State} (x0 : State) (h : Keeps m s0 x0) (_ : m .answers := by first | assumption | exact True.intro) : Keeps m s0 (State.reserveGap x0) := by unfold State.reserveGap; grind [State.setReg_keeps, Keeps.upd]
theorem State.discardLog_keeps {s0 : State} (x0 : State) (h : Keeps m s0 x0) (_ : m .answers := by first | assumption | exact True.intro) : Keeps m s0 (State.discardLog x0) := by unfold State.discardLog; grind [State.setReg_keeps, State.count_keeps, Keeps.upd]
theorem State.spillDone_keeps {s0 : State} (x0 : State) (x1) (h : Keeps m s0 x0) : Keeps m s0 (State.spillDone x0 x1) := by unfold State.spillDone; grind [State.put_keeps, State.setReg_keeps]
theorem State.setSpill_keeps {s0 : State} (x0 : State) (x1) (x2) (x3) (h : Keeps m s0 x0) : Keeps m s0 (State.setSpill x0 x1 x2 x3) := by unfold State.setSpill; grind [State.put_keeps, State.setReg_keeps]
theorem State.readRecord_keeps {s0 : State} (x0 : State) (x1) (h : Keeps m s0 x0) : Keeps m s0 (State.readRecord x0 x1).2 := by unfold State.readRecord; grind [State.plateRead_keeps]
theorem advanceOnly_keeps {s0 : State} (x0) (x1) (x2) (x3 : State) (h : Keeps m s0 x3) : EKeeps m s0 (advanceOnly x0 x1 x2 x3) := by unfold advanceOnly; grind [Effect.ok_keeps, State.setReg_keeps, Effect.kept_keeps, EKeeps, Effect.ok, Effect.kept, Effect.denied, Effect.retry]
theorem writeLogSpillrd_keeps {s0 : State} (x0) (x1 : State) (h : Keeps m s0 x1) : EKeeps m s0 (writeLogSpillrd x0 x1) := by unfold writeLogSpillrd; grind [advanceOnly_keeps, EKeeps, Effect.ok, Effect.kept, Effect.denied, Effect.retry]
theorem writeLogTail_keeps {s0 : State} (x0) (x1 : State) (h : Keeps m s0 x1) : EKeeps m s0 (writeLogTail x0 x1) := by unfold writeLogTail; grind [Effect.kept_keeps, advanceOnly_keeps, EKeeps, Effect.ok, Effect.kept, Effect.denied, Effect.retry]
theorem execLogRecordPlace_keeps {s0 : State} (x0 : State) (h : Keeps m s0 x0) (_ : m .plates := by first | assumption | exact True.intro) (_ : m .ecc := by first | assumption | exact True.intro) (_ : m .answers := by first | assumption | exact True.intro) : ∀ r, execLogRecordPlace x0 = .next r → Keeps m s0 r := by unfold execLogRecordPlace; grind [State.placeRecord_keeps]
theorem execGapRecord_keeps {s0 : State} (x0 : State) (h : Keeps m s0 x0) (_ : m .answers := by first | assumption | exact True.intro) : ∀ r, execGapRecord x0 = .next r → Keeps m s0 r := by unfold execGapRecord; grind [State.reserveGap_keeps]
theorem execLogSpillWrite_keeps {s0 : State} (x0) (x1 : State) (h : Keeps m s0 x1) : ∀ r, execLogSpillWrite x0 x1 = .next r → Keeps m s0 r := by unfold execLogSpillWrite; grind [State.spillDone_keeps]
theorem execLogSpillrdWrite_keeps {s0 : State} (x0) (x1) (x2 : State) (h : Keeps m s0 x2) (_ : m .answers := by first | assumption | exact True.intro) : ∀ r, execLogSpillrdWrite x0 x1 x2 = .next r → Keeps m s0 r := by unfold execLogSpillrdWrite; grind [State.writeReg_keeps, writeLogSpillrd_keeps]
theorem execLogTailWrite_keeps {s0 : State} (x0) (x1) (x2 : State) (h : Keeps m s0 x2) (_ : m .answers := by first | assumption | exact True.intro) : ∀ r, execLogTailWrite x0 x1 x2 = .next r → Keeps m s0 r := by unfold execLogTailWrite; grind [State.writeReg_keeps, writeLogTail_keeps]
theorem State.mirrorFreeze_keeps {s0 : State} (x0 : State) (h : Keeps m s0 x0) : Keeps m s0 (State.mirrorFreeze x0) := by unfold State.mirrorFreeze; grind [State.put_keeps]
theorem State.resetVerniers_keeps {s0 : State} (x0 : State) (x1) (h : Keeps m s0 x0) (_ : m .verniers := by first | assumption | exact True.intro) : Keeps m s0 (State.resetVerniers x0 x1) := by revert h; fun_induction State.resetVerniers x0 x1 <;> grind [State.setVernier_keeps, State.put_keeps]
theorem State.resetQuality_keeps {s0 : State} (x0 : State) (h : Keeps m s0 x0) : Keeps m s0 (State.resetQuality x0) := by unfold State.resetQuality; grind [State.put_keeps]
theorem reset_regs_wf (f : Nat → Nat) (t : Table Word) (h : TableWf resetWord t) : TableWf resetWord (keepBits f t) := tmap_wf _ _ _ h
/-- A state made anew, with the queue, the free values and the memory of another, and part of its registers. -/
theorem Keeps.anew (s0 s t : State) (f : Nat → Nat) (h : Keeps m s0 s) (h1 : t.pending = s.pending) (h2 : t.freeUsed = s.freeUsed)
    (h3 : t.mem = s.mem ∨ t.mem = []) (h4 : t.regs = keepBits f s.regs)
    (ha : ∀ p, ¬ m p → p.same s t := by
      intro p hp; cases p <;> first | exact absurd (by first | assumption | exact True.intro) hp | (simp only [Part.same, and_self]; done) | exact rfl) : Keeps m s0 t := by
  refine ⟨h1.trans h.pending, h2 ▸ h.used, fun w => ?_, fun w => h4 ▸ reset_regs_wf _ _ (h.regs w), fun p hp => p.same_trans _ _ _ (h.parts p hp) (ha p hp)⟩
  rcases h3 with e | e
  · exact e ▸ h.mem w
  · exact e ▸ rfl
theorem State.clusterReset_keeps {s0 : State} (x0 : State) (h : Keeps m s0 x0) (_ : m .ecc := by first | assumption | exact True.intro) (_ : m .queues := by first | assumption | exact True.intro) (_ : m .time := by first | assumption | exact True.intro) (_ : m .events := by first | assumption | exact True.intro) (_ : m .answers := by first | assumption | exact True.intro) (_ : m .power := by first | assumption | exact True.intro) (_ : m .flows := by first | assumption | exact True.intro) (_ : m .framePorts := by first | assumption | exact True.intro) (_ : m .verniers := by first | assumption | exact True.intro) (_ : m .timers := by first | assumption | exact True.intro) (_ : m .clockDrive := by first | assumption | exact True.intro) (_ : m .banks := by first | assumption | exact True.intro) (_ : m .engines := by first | assumption | exact True.intro) (_ : m .security := by first | assumption | exact True.intro) (_ : m .occultation := by first | assumption | exact True.intro) (_ : m .chart := by first | assumption | exact True.intro) (_ : m .assistant := by first | assumption | exact True.intro) (_ : m .constellation := by first | assumption | exact True.intro) (_ : m .eyepiece := by first | assumption | exact True.intro) (_ : m .tick := by first | assumption | exact True.intro) : Keeps m s0 x0.clusterReset := by
  unfold State.clusterReset
  refine State.settleAll_keeps _ (State.resetQuality_keeps _ (State.mirrorFreeze_keeps _ (State.resetVerniers_keeps _ _ ?_)))
  exact Keeps.anew s0 x0 _ clusterKeeps h rfl rfl (.inl rfl) rfl
theorem State.resetClockDrive_keeps {s0 : State} (x0 : State) (h : Keeps m s0 x0) (_ : m .clockDrive := by first | assumption | exact True.intro) : Keeps m s0 x0.resetClockDrive :=
  Keeps.ofRegs _ _ _ h rfl rfl rfl fun w => filter_wf _ _ _ w
theorem State.enterLoading_keeps {s0 : State} (x0 : State) (h : Keeps m s0 x0) (_ : m .clockDrive := by first | assumption | exact True.intro) : Keeps m s0 (State.enterLoading x0) := by unfold State.enterLoading; grind [State.resetClockDrive_keeps, State.put_keeps]
theorem State.resetWith_keeps {s0 : State} (x0 : State) (x1) (h : Keeps m s0 x0) (_ : m .ecc := by first | assumption | exact True.intro) (_ : m .queues := by first | assumption | exact True.intro) (_ : m .time := by first | assumption | exact True.intro) (_ : m .events := by first | assumption | exact True.intro) (_ : m .answers := by first | assumption | exact True.intro) (_ : m .power := by first | assumption | exact True.intro) (_ : m .flows := by first | assumption | exact True.intro) (_ : m .framePorts := by first | assumption | exact True.intro) (_ : m .verniers := by first | assumption | exact True.intro) (_ : m .timers := by first | assumption | exact True.intro) (_ : m .clockDrive := by first | assumption | exact True.intro) (_ : m .banks := by first | assumption | exact True.intro) (_ : m .engines := by first | assumption | exact True.intro) (_ : m .security := by first | assumption | exact True.intro) (_ : m .occultation := by first | assumption | exact True.intro) (_ : m .chart := by first | assumption | exact True.intro) (_ : m .assistant := by first | assumption | exact True.intro) (_ : m .constellation := by first | assumption | exact True.intro) (_ : m .eyepiece := by first | assumption | exact True.intro) (_ : m .tick := by first | assumption | exact True.intro) : Keeps m s0 (State.resetWith x0 x1) := by unfold State.resetWith; grind [State.put_keeps, State.clusterReset_keeps]
theorem State.newNonce_keeps {s0 : State} (x0 : State) (h : Keeps m s0 x0) : Keeps m s0 (State.newNonce x0) := by unfold State.newNonce; grind [State.fresh_keeps, State.setReg_keeps]
theorem State.powerOff_keeps {s0 : State} (x0 : State) (h : Keeps AllParts s0 x0) : Keeps AllParts s0 x0.powerOff := by
  unfold State.powerOff
  simp only
  split
  · refine State.settleAll_keeps _ (State.mirrorFreeze_keeps _ (State.put_keeps _ _ _ (State.put_keeps _ _ _ ?_)))
    exact Keeps.anew s0 x0 _ (powerOffKeeps x0.dbgOn) h rfl rfl (.inr rfl) rfl
  · refine State.settleAll_keeps _ (State.mirrorFreeze_keeps _ ?_)
    exact Keeps.anew s0 x0 _ (powerOffKeeps x0.dbgOn) h rfl rfl (.inr rfl) rfl
theorem State.ifcOff_keeps {s0 : State} (x0 : State) (h : Keeps AllParts s0 x0) : Keeps AllParts s0 (State.ifcOff x0) :=
  State.resetQuality_keeps _ (State.put_keeps _ _ _ (State.powerOff_keeps _ h))
theorem State.aonReset_keeps {s0 : State} (x0 : State) (h : Keeps AllParts s0 x0) : Keeps AllParts s0 x0.aonReset := by
  unfold State.aonReset
  refine State.settleAll_keeps _ (State.newNonce_keeps _ ?_)
  exact Keeps.anew s0 x0 _
    (fun k => if otpRegister k ∨ k = FLD_IN0 ∨ k = FLD_IN1 then 0xFFFFFFFF else if k = CLU_ATTACH then 0x80 else 0) h rfl rfl (.inr rfl) rfl
theorem State.loadPincal_keeps {s0 : State} (x0 : State) (x1) (x2) (h : Keeps m s0 x0) : Keeps m s0 (State.loadPincal x0 x1 x2) := by unfold State.loadPincal; grind [State.put_keeps]
theorem State.loadPincals_keeps {s0 : State} (x0 : State) (x1) (x2) (h : Keeps m s0 x0) : Keeps m s0 (State.loadPincals x0 x1 x2) := by revert h; fun_induction State.loadPincals x0 x1 x2 <;> grind [State.loadPincal_keeps]
theorem State.fuseRecords_keeps {s0 : State} (x0 : State) (x1) (x2) (h : Keeps m s0 x0) (_ : m .answers := by first | assumption | exact True.intro) : Keeps m s0 (State.fuseRecords x0 x1 x2) := by revert h; fun_induction State.fuseRecords x0 x1 x2 <;> grind [State.logChange_keeps]
theorem State.loadLimits_keeps {s0 : State} (x0 : State) (x1) (x2) (h : Keeps m s0 x0) : Keeps m s0 (State.loadLimits x0 x1 x2) := by revert h; fun_induction State.loadLimits x0 x1 x2 <;> grind [State.put_keeps]
theorem State.setRegs_keeps {s0 : State} (x0 : State) (x1) (h : Keeps m s0 x0) : Keeps m s0 (State.setRegs x0 x1) := by revert h; fun_induction State.setRegs x0 x1 <;> grind [State.setReg_keeps]
theorem State.restore_keeps {s0 : State} (x0 : State) (x1) (h : Keeps m s0 x0) : Keeps m s0 (State.restore x0 x1) := by
  unfold State.restore
  try simp only []
  repeat' first | assumption | exact True.intro | with_reducible exact h | with_reducible apply State.setRegs_keeps | with_reducible apply State.setReg_keeps | split
  all_goals grind [State.setRegs_keeps, State.setReg_keeps, Keeps.upd]
theorem State.restartLoad_keeps {s0 : State} (x0 : State) (x1) (h : Keeps m s0 x0) (_ : m .time := by first | assumption | exact True.intro) : Keeps m s0 (State.restartLoad x0 x1) := by unfold State.restartLoad; grind [State.ppsRebase_keeps, State.setQuality_keeps, Keeps.upd]
theorem State.emptySlots_keeps {s0 : State} (x0 : State) (x1) (h : Keeps m s0 x0) (_ : m .security := by first | assumption | exact True.intro) : Keeps m s0 (State.emptySlots x0 x1) := by revert h; fun_induction State.emptySlots x0 x1 <;> grind [State.setReg_keeps, Keeps.upd]
theorem State.vaultCheck_keeps {s0 : State} (x0 : State) (h : Keeps m s0 x0) (_ : m .security := by first | assumption | exact True.intro) : Keeps m s0 (State.vaultCheck x0) := by unfold State.vaultCheck; grind [State.emptySlots_keeps, Keeps.upd]
theorem State.tamperRecords_keeps {s0 : State} (x0 : State) (x1) (h : Keeps m s0 x0) (_ : m .events := by first | assumption | exact True.intro) (_ : m .answers := by first | assumption | exact True.intro) (_ : m .flows := by first | assumption | exact True.intro) : Keeps m s0 (State.tamperRecords x0 x1) := by revert h; fun_induction State.tamperRecords x0 x1 <;> grind [State.logChange_keeps, State.registerEvent_keeps]
theorem State.tamperFirst_keeps {s0 : State} (x0 : State) (h : Keeps m s0 x0) (_ : m .events := by first | assumption | exact True.intro) (_ : m .answers := by first | assumption | exact True.intro) (_ : m .flows := by first | assumption | exact True.intro) (_ : m .security := by first | assumption | exact True.intro) : Keeps m s0 (State.tamperFirst x0) := by unfold State.tamperFirst; grind [State.tamperRecords_keeps, Keeps.upd]
theorem State.releaseReset_keeps {s0 : State} (x0 : State) (x1) (x2) (x3) (h : Keeps m s0 x0) (_ : m .time := by first | assumption | exact True.intro) (_ : m .events := by first | assumption | exact True.intro) (_ : m .answers := by first | assumption | exact True.intro) (_ : m .power := by first | assumption | exact True.intro) (_ : m .flows := by first | assumption | exact True.intro) (_ : m .clockDrive := by first | assumption | exact True.intro) (_ : m .security := by first | assumption | exact True.intro) : Keeps m s0 (x0.releaseReset x1 x2 x3) := by
  unfold State.releaseReset
  extract_lets t1 t2 t3 t4 k _ u _
  have h1 : Keeps m s0 t1 := by
    show Keeps m s0 (if _ then _ else _)
    split
    · exact State.vaultCheck_keeps _ (State.discardLog_keeps _ h)
    · exact h
  have h2 : Keeps m s0 t2 := State.put_keeps _ _ _ (State.loadPincals_keeps _ _ _ h1)
  have h3 : Keeps m s0 t3 := by
    show Keeps m s0 (match t2.retained with | some r => t2.restore r | none => t2)
    split
    · exact State.restore_keeps _ _ h2
    · exact h2
  have h4 : Keeps m s0 t4 := State.loadLimits_keeps _ _ _ (State.restartLoad_keeps _ _ h3)
  have hk : Keeps m s0 k.2 := State.fresh_keeps _ _ h4
  have hb : Keeps m s0 { k.2 with bootKey := k.1 } := Keeps.of _ _ _ hk rfl rfl rfl rfl
  have hu : Keeps m s0 u := State.fuseRecords_keeps _ _ _ (State.tamperFirst_keeps _ (State.enterLoading_keeps _ hb))
  exact Keeps.of _ _ _ hu rfl rfl rfl rfl
theorem State.releaseHalt_keeps {s0 : State} (x0 : State) (x1) (h : Keeps m s0 x0) (_ : m .time := by first | assumption | exact True.intro) (_ : m .events := by first | assumption | exact True.intro) (_ : m .flows := by first | assumption | exact True.intro) (_ : m .timers := by first | assumption | exact True.intro) (_ : m .engines := by first | assumption | exact True.intro) : Keeps m s0 (State.releaseHalt x0 x1) := by unfold State.releaseHalt; grind [State.setEngineState_keeps, State.setEng_keeps]
theorem State.releaseHalts_keeps {s0 : State} (x0 : State) (x1) (h : Keeps m s0 x0) (_ : m .time := by first | assumption | exact True.intro) (_ : m .events := by first | assumption | exact True.intro) (_ : m .flows := by first | assumption | exact True.intro) (_ : m .timers := by first | assumption | exact True.intro) (_ : m .engines := by first | assumption | exact True.intro) : Keeps m s0 (State.releaseHalts x0 x1) := by revert h; fun_induction State.releaseHalts x0 x1 <;> grind [State.releaseHalt_keeps]
theorem State.releaseVernier_keeps {s0 : State} (x0 : State) (x1) (h : Keeps m s0 x0) : Keeps m s0 (State.releaseVernier x0 x1) := by unfold State.releaseVernier; grind [State.put_keeps]
theorem State.releaseVerniers_keeps {s0 : State} (x0 : State) (x1) (h : Keeps m s0 x0) : Keeps m s0 (State.releaseVerniers x0 x1) := by revert h; fun_induction State.releaseVerniers x0 x1 <;> grind [State.releaseVernier_keeps]
theorem State.dropRequests_keeps {s0 : State} (x0 : State) (x1) (h : Keeps m s0 x0) (_ : m .engines := by first | assumption | exact True.intro) : Keeps m s0 (State.dropRequests x0 x1) := by revert h; fun_induction State.dropRequests x0 x1 <;> grind [State.setEng_keeps]
theorem State.endDebug_keeps {s0 : State} (x0 : State) (h : Keeps m s0 x0) (_ : m .time := by first | assumption | exact True.intro) (_ : m .events := by first | assumption | exact True.intro) (_ : m .flows := by first | assumption | exact True.intro) (_ : m .verniers := by first | assumption | exact True.intro) (_ : m .timers := by first | assumption | exact True.intro) (_ : m .engines := by first | assumption | exact True.intro) : Keeps m s0 (State.endDebug x0) := by
  unfold State.endDebug
  try simp only []
  repeat' first | assumption | exact True.intro | with_reducible exact h | with_reducible apply State.releaseVerniers_keeps | with_reducible apply State.releaseHalts_keeps | with_reducible apply State.dropRequests_keeps | with_reducible apply State.setReg_keeps | with_reducible apply State.put_keeps | with_reducible apply State.newNonce_keeps | split
  all_goals grind [State.releaseVerniers_keeps, State.releaseHalts_keeps, State.dropRequests_keeps, State.setReg_keeps, State.put_keeps, State.newNonce_keeps, Keeps.upd]
theorem State.closeRecord_keeps {s0 : State} (x0 : State) (x1) (x2) (h : Keeps m s0 x0) (_ : m .answers := by first | assumption | exact True.intro) : Keeps m s0 (State.closeRecord x0 x1 x2) := by unfold State.closeRecord; grind [State.logChange_keeps]
theorem State.closeSession_keeps {s0 : State} (x0 : State) (x1) (x2) (h : Keeps m s0 x0) (_ : m .time := by first | assumption | exact True.intro) (_ : m .events := by first | assumption | exact True.intro) (_ : m .answers := by first | assumption | exact True.intro) (_ : m .flows := by first | assumption | exact True.intro) (_ : m .verniers := by first | assumption | exact True.intro) (_ : m .timers := by first | assumption | exact True.intro) (_ : m .engines := by first | assumption | exact True.intro) (_ : m .eyepiece := by first | assumption | exact True.intro) : Keeps m s0 (State.closeSession x0 x1 x2) := by unfold State.closeSession; grind [State.setReg_keeps, State.put_keeps, State.closeRecord_keeps, State.endDebug_keeps, Keeps.upd]
theorem State.debugReset_keeps {s0 : State} (x0 : State) (h : Keeps m s0 x0) (_ : m .queues := by first | assumption | exact True.intro) (_ : m .time := by first | assumption | exact True.intro) (_ : m .events := by first | assumption | exact True.intro) (_ : m .answers := by first | assumption | exact True.intro) (_ : m .flows := by first | assumption | exact True.intro) (_ : m .verniers := by first | assumption | exact True.intro) (_ : m .timers := by first | assumption | exact True.intro) (_ : m .engines := by first | assumption | exact True.intro) (_ : m .eyepiece := by first | assumption | exact True.intro) : Keeps m s0 x0.debugReset := by
  unfold State.debugReset
  apply State.newNonce_keeps
  have ht : Keeps m s0 (x0.closeRecord 2 (originCode .eyepiece)).endDebug := State.endDebug_keeps _ (State.closeRecord_keeps _ _ _ h)
  exact Keeps.ofRegs _ _ _ ht rfl rfl rfl fun w => filter_wf _ _ _ w
theorem State.setLink_keeps {s0 : State} (x0 : State) (x1) (x2) (h : Keeps m s0 x0) (_ : m .constellation := by first | assumption | exact True.intro) : Keeps m s0 (State.setLink x0 x1 x2) := by unfold State.setLink; grind [Keeps.upd]
theorem State.setAssembly_keeps {s0 : State} (x0 : State) (x1) (x2) (x3) (h : Keeps m s0 x0) (_ : m .constellation := by first | assumption | exact True.intro) : Keeps m s0 (State.setAssembly x0 x1 x2 x3) := by unfold State.setAssembly; grind [Keeps.upd]
theorem State.setLinkState_keeps {s0 : State} (x0 : State) (x1) (x2) (h : Keeps m s0 x0) (_ : m .events := by first | assumption | exact True.intro) (_ : m .flows := by first | assumption | exact True.intro) : Keeps m s0 (State.setLinkState x0 x1 x2) := by unfold State.setLinkState; grind [State.registerEvent_keeps, State.put_keeps]
theorem State.freeQuotient_keeps {s0 : State} (x0 : State) (x1) (x2) (h : Keeps m s0 x0) : Keeps m s0 (State.freeQuotient x0 x1 x2).2 := by unfold State.freeQuotient; grind [State.fresh_keeps]
theorem State.nearest_keeps {s0 : State} (x0 : State) (x1) (x2) (h : Keeps m s0 x0) : Keeps m s0 (State.nearest x0 x1 x2).2 := by unfold State.nearest; grind [State.fresh_keeps]
theorem State.sendLink_keeps {s0 : State} (x0 : State) (x1) (x2) (x3) (h : Keeps m s0 x0) (_ : m .time := by first | assumption | exact True.intro) (_ : m .constellation := by first | assumption | exact True.intro) : Keeps m s0 (State.sendLink x0 x1 x2 x3) := by unfold State.sendLink; grind [State.stampEdge_keeps, State.setLink_keeps]
theorem State.emptyFrame_keeps {s0 : State} (x0 : State) (x1) (x2) (x3) (h : Keeps m s0 x0) : Keeps m s0 (State.emptyFrame x0 x1 x2 x3).2 := by unfold State.emptyFrame; grind [State.fresh_keeps]
theorem State.elect_keeps {s0 : State} (x0 : State) (h : Keeps m s0 x0) (_ : m .events := by first | assumption | exact True.intro) (_ : m .flows := by first | assumption | exact True.intro) (_ : m .constellation := by first | assumption | exact True.intro) : Keeps m s0 x0.elect := by
  unfold State.elect
  extract_lets c isSrc t1 t2 t3 _ u _ t4 turned _ t5
  have h1 : Keeps m s0 t1 := State.put_keeps _ _ _ h
  have hm (o : Option SourceOffer) (t : State) (ht : Keeps m s0 t) : Keeps m s0 (match o with
      | some p => ((((t.put CST_STAT.SRCM p.src).put CST_STAT.HOPS p.hops).put CST_STAT.SCLASS p.cls).put CST_STAT.SPRIO p.prio).put
          CST_STAT.UPX (p.port.getD 0)
      | none => t) := by
    cases o with
    | none => exact ht
    | some p => exact State.put_keeps _ _ _ (State.put_keeps _ _ _ (State.put_keeps _ _ _ (State.put_keeps _ _ _ (State.put_keeps _ _ _ ht))))
  have h2 : Keeps m s0 t2 := hm c t1 h1
  have h3 : Keeps m s0 t3 := State.put_keeps _ _ _ (State.put_keeps _ _ _ h2)
  have h4 : Keeps m s0 t4 := by
    show Keeps m s0 (if _ then _ else _)
    split
    · exact State.setLink_keeps _ _ _ (State.setLink_keeps _ _ _ h3)
    · exact h3
  have h5 : Keeps m s0 t5 := by
    show Keeps m s0 (if _ then _ else _)
    split
    · exact Keeps.of _ _ _ h4 rfl rfl rfl rfl
    · exact h4
  split
  · exact State.registerEvent_keeps _ _ h5
  · exact h5
theorem State.abandonItem_keeps {s0 : State} (x0 : State) (x1) (x2) (h : Keeps m s0 x0) (_ : m .queues := by first | assumption | exact True.intro) (_ : m .constellation := by first | assumption | exact True.intro) : Keeps m s0 (State.abandonItem x0 x1 x2) := by unfold State.abandonItem; grind [State.count_keeps, State.returnBuffer_keeps, State.setAssembly_keeps]
theorem State.abandonItems_keeps {s0 : State} (x0 : State) (x1) (x2) (h : Keeps m s0 x0) (_ : m .queues := by first | assumption | exact True.intro) (_ : m .constellation := by first | assumption | exact True.intro) : Keeps m s0 (State.abandonItems x0 x1 x2) := by revert h; fun_induction State.abandonItems x0 x1 x2 <;> grind [State.abandonItem_keeps]
theorem State.losePeers_keeps {s0 : State} (x0 : State) (x1) (h : Keeps m s0 x0) (_ : m .clockDrive := by first | assumption | exact True.intro) : Keeps m s0 (State.losePeers x0 x1) := by revert h; fun_induction State.losePeers x0 x1 <;> grind [State.setTracker_keeps]
theorem State.linkRecord_keeps {s0 : State} (x0 : State) (x1) (h : Keeps m s0 x0) (_ : m .answers := by first | assumption | exact True.intro) : Keeps m s0 (State.linkRecord x0 x1) := by unfold State.linkRecord; grind [State.fresh_keeps, State.logChange_keeps]
theorem State.linkDown_keeps {s0 : State} (x0 : State) (x1) (x2) (h : Keeps m s0 x0) (_ : m .queues := by first | assumption | exact True.intro) (_ : m .events := by first | assumption | exact True.intro) (_ : m .answers := by first | assumption | exact True.intro) (_ : m .flows := by first | assumption | exact True.intro) (_ : m .clockDrive := by first | assumption | exact True.intro) (_ : m .constellation := by first | assumption | exact True.intro) : Keeps m s0 (State.linkDown x0 x1 x2) := by
  unfold State.linkDown
  refine ite_keeps h ?_
  have h1 := State.setLink_keeps _ x1 { link0 with lastSent := (x0.link x1).lastSent } (State.setLinkState_keeps _ x1 0 (State.abandonItems_keeps _ x1 (List.range 64) h))
  refine State.elect_keeps _ ?_
  cases x2 with
  | left => exact h1
  | peerLeft => exact State.linkRecord_keeps _ _ (State.put_keeps _ _ _ h1)
  | lost => exact State.losePeers_keeps _ _ (State.linkRecord_keeps _ _ (State.put_keeps _ _ _ h1))
theorem State.linksLost_keeps {s0 : State} (x0 : State) (h : Keeps m s0 x0) (_ : m .queues := by first | assumption | exact True.intro) (_ : m .events := by first | assumption | exact True.intro) (_ : m .answers := by first | assumption | exact True.intro) (_ : m .flows := by first | assumption | exact True.intro) (_ : m .clockDrive := by first | assumption | exact True.intro) (_ : m .constellation := by first | assumption | exact True.intro) : Keeps m s0 (State.linksLost x0) := by unfold State.linksLost; grind [State.linkDown_keeps]
theorem State.leaveLink_keeps {s0 : State} (x0 : State) (x1) (h : Keeps m s0 x0) (_ : m .queues := by first | assumption | exact True.intro) (_ : m .time := by first | assumption | exact True.intro) (_ : m .events := by first | assumption | exact True.intro) (_ : m .answers := by first | assumption | exact True.intro) (_ : m .flows := by first | assumption | exact True.intro) (_ : m .clockDrive := by first | assumption | exact True.intro) (_ : m .constellation := by first | assumption | exact True.intro) : Keeps m s0 (State.leaveLink x0 x1) := by unfold State.leaveLink; grind [State.emptyFrame_keeps, State.linkDown_keeps, State.sendLink_keeps]
theorem State.linkSyncs_keeps {s0 : State} (x0 : State) (x1) (h : Keeps m s0 x0) (_ : m .events := by first | assumption | exact True.intro) (_ : m .flows := by first | assumption | exact True.intro) : Keeps m s0 (State.linkSyncs x0 x1) := by unfold State.linkSyncs; grind [State.setLinkState_keeps]
theorem State.linkCals_keeps {s0 : State} (x0 : State) (x1) (x2) (h : Keeps m s0 x0) (_ : m .events := by first | assumption | exact True.intro) (_ : m .flows := by first | assumption | exact True.intro) (_ : m .constellation := by first | assumption | exact True.intro) : Keeps m s0 (State.linkCals x0 x1 x2) := by unfold State.linkCals; grind [State.setLink_keeps, State.setLinkState_keeps]
theorem State.linkStep_keeps {s0 : State} (x0 : State) (x1) (h : Keeps m s0 x0) (_ : m .time := by first | assumption | exact True.intro) (_ : m .answers := by first | assumption | exact True.intro) (_ : m .clockDrive := by first | assumption | exact True.intro) : Keeps m s0 (State.linkStep x0 x1) := by unfold State.linkStep; grind [State.writeReg_keeps, writeRglPlain_keeps, writeRglStep_keeps]
theorem State.linkDiscipline_keeps {s0 : State} (x0 : State) (x1) (h : Keeps m s0 x0) (_ : m .time := by first | assumption | exact True.intro) (_ : m .answers := by first | assumption | exact True.intro) (_ : m .clockDrive := by first | assumption | exact True.intro) (_ : m .constellation := by first | assumption | exact True.intro) : Keeps m s0 (State.linkDiscipline x0 x1) := by unfold State.linkDiscipline; grind [State.setLink_keeps, State.linkStep_keeps, State.nearest_keeps, State.writeReg_keeps, writeRglRate_keeps]
theorem State.linkQuality_keeps {s0 : State} (x0 : State) (x1) (h : Keeps m s0 x0) (_ : m .time := by first | assumption | exact True.intro) (_ : m .answers := by first | assumption | exact True.intro) : Keeps m s0 (State.linkQuality x0 x1) := by unfold State.linkQuality; grind [State.writeReg_keeps, writeRglQual_keeps]
theorem State.linkUpdate_keeps {s0 : State} (x0 : State) (x1) (h : Keeps m s0 x0) (_ : m .time := by first | assumption | exact True.intro) (_ : m .events := by first | assumption | exact True.intro) (_ : m .answers := by first | assumption | exact True.intro) (_ : m .flows := by first | assumption | exact True.intro) (_ : m .clockDrive := by first | assumption | exact True.intro) (_ : m .constellation := by first | assumption | exact True.intro) : Keeps m s0 (State.linkUpdate x0 x1) := by
  unfold State.linkUpdate
  try simp only []
  repeat' first | assumption | exact True.intro | with_reducible exact h | with_reducible apply State.freeQuotient_keeps | with_reducible apply State.setReg_keeps | with_reducible apply State.setLink_keeps | with_reducible apply State.put_keeps | with_reducible apply State.linkQuality_keeps | with_reducible apply State.linkDiscipline_keeps | with_reducible apply State.linkSyncs_keeps | with_reducible apply State.linkCals_keeps | split
  all_goals grind [State.freeQuotient_keeps, State.setReg_keeps, State.setLink_keeps, State.put_keeps, State.linkQuality_keeps, State.linkDiscipline_keeps, State.linkSyncs_keeps, State.linkCals_keeps, Keeps.upd]
theorem State.measure_keeps {s0 : State} (x0 : State) (x1) (x2) (x3) (h : Keeps m s0 x0) (_ : m .constellation := by first | assumption | exact True.intro) : Keeps m s0 (State.measure x0 x1 x2 x3) := by unfold State.measure; grind [State.setLink_keeps]
theorem State.setPresent_keeps {s0 : State} (x0 : State) (x1) (x2) (h : Keeps m s0 x0) (_ : m .events := by first | assumption | exact True.intro) (_ : m .flows := by first | assumption | exact True.intro) : Keeps m s0 (State.setPresent x0 x1 x2) := by unfold State.setPresent; grind [State.registerEvent_keeps, State.setBit_keeps]
theorem State.notePresence_keeps {s0 : State} (x0 : State) (x1) (h : Keeps m s0 x0) (_ : m .events := by first | assumption | exact True.intro) (_ : m .flows := by first | assumption | exact True.intro) (_ : m .constellation := by first | assumption | exact True.intro) : Keeps m s0 (State.notePresence x0 x1) := by unfold State.notePresence; grind [State.setPresent_keeps, Keeps.upd]
theorem State.placeItem_keeps {s0 : State} (x0 : State) (x1) (x2) (x3) (h : Keeps m s0 x0) (_ : m .queues := by first | assumption | exact True.intro) (_ : m .events := by first | assumption | exact True.intro) (_ : m .flows := by first | assumption | exact True.intro) (_ : m .constellation := by first | assumption | exact True.intro) : Keeps m s0 (State.placeItem x0 x1 x2 x3) := by unfold State.placeItem; grind [State.setAssembly_keeps, State.count_keeps, State.returnBuffer_keeps, State.put_keeps, State.hwEnqueue_keeps, State.setReg_keeps]
theorem State.addChunk_keeps {s0 : State} (x0 : State) (x1) (x2) (x3) (x4) (h : Keeps m s0 x0) (_ : m .plates := by first | assumption | exact True.intro) (_ : m .ecc := by first | assumption | exact True.intro) (_ : m .queues := by first | assumption | exact True.intro) (_ : m .events := by first | assumption | exact True.intro) (_ : m .flows := by first | assumption | exact True.intro) (_ : m .constellation := by first | assumption | exact True.intro) : Keeps m s0 (State.addChunk x0 x1 x2 x3 x4) := by unfold State.addChunk; grind [State.stopQueue_keeps, State.placeItem_keeps, State.abandonItem_keeps, State.setAssembly_keeps, State.plateWrite_keeps]
theorem State.openItem_keeps {s0 : State} (x0 : State) (x1) (x2) (x3) (x4) (h : Keeps m s0 x0) (_ : m .plates := by first | assumption | exact True.intro) (_ : m .ecc := by first | assumption | exact True.intro) (_ : m .queues := by first | assumption | exact True.intro) (_ : m .events := by first | assumption | exact True.intro) (_ : m .flows := by first | assumption | exact True.intro) (_ : m .constellation := by first | assumption | exact True.intro) : Keeps m s0 (State.openItem x0 x1 x2 x3 x4) := by unfold State.openItem; grind [State.abandonItem_keeps, State.takeBuffer_keeps, State.countDrop_keeps, State.addChunk_keeps]
theorem State.continueItem_keeps {s0 : State} (x0 : State) (x1) (x2) (x3) (h : Keeps m s0 x0) (_ : m .plates := by first | assumption | exact True.intro) (_ : m .ecc := by first | assumption | exact True.intro) (_ : m .queues := by first | assumption | exact True.intro) (_ : m .events := by first | assumption | exact True.intro) (_ : m .flows := by first | assumption | exact True.intro) (_ : m .constellation := by first | assumption | exact True.intro) : Keeps m s0 (State.continueItem x0 x1 x2 x3) := by unfold State.continueItem; grind [State.abandonItem_keeps, State.addChunk_keeps]
theorem State.takeItemFrame_keeps {s0 : State} (x0 : State) (x1) (x2) (x3 : State → Nat → State) (h : Keeps m s0 x0)
    (hf : ∀ u c, Keeps m s0 u → Keeps m s0 (x3 u c)) (_ : m .queues := by first | assumption | exact True.intro) : Keeps m s0 (x0.takeItemFrame x1 x2 x3) := by
  unfold State.takeItemFrame
  split
  · exact h
  · exact ite_keeps (State.wait_keeps _ _ _ h) (hf _ _ h)
theorem State.takeHead_keeps {s0 : State} (x0 : State) (x1) (x2) (x3) (h : Keeps m s0 x0) (_ : m .plates := by first | assumption | exact True.intro) (_ : m .ecc := by first | assumption | exact True.intro) (_ : m .queues := by first | assumption | exact True.intro) (_ : m .events := by first | assumption | exact True.intro) (_ : m .flows := by first | assumption | exact True.intro) (_ : m .constellation := by first | assumption | exact True.intro) : Keeps m s0 (State.takeHead x0 x1 x2 x3) := by unfold State.takeHead; grind [State.takeItemFrame_keeps, State.openItem_keeps]
theorem State.takeData_keeps {s0 : State} (x0 : State) (x1) (x2) (h : Keeps m s0 x0) (_ : m .plates := by first | assumption | exact True.intro) (_ : m .ecc := by first | assumption | exact True.intro) (_ : m .queues := by first | assumption | exact True.intro) (_ : m .events := by first | assumption | exact True.intro) (_ : m .flows := by first | assumption | exact True.intro) (_ : m .constellation := by first | assumption | exact True.intro) : Keeps m s0 (State.takeData x0 x1 x2) := by unfold State.takeData; grind [State.continueItem_keeps, State.takeItemFrame_keeps]
theorem State.takeEvents_keeps {s0 : State} (x0 : State) (x1) (h : Keeps m s0 x0) (_ : m .events := by first | assumption | exact True.intro) (_ : m .flows := by first | assumption | exact True.intro) : Keeps m s0 (State.takeEvents x0 x1) := by unfold State.takeEvents; grind [State.registerEvents_keeps]
theorem State.takeControl_keeps {s0 : State} (x0 : State) (x1) (x2) (h : Keeps m s0 x0) (_ : m .queues := by first | assumption | exact True.intro) (_ : m .events := by first | assumption | exact True.intro) (_ : m .answers := by first | assumption | exact True.intro) (_ : m .flows := by first | assumption | exact True.intro) (_ : m .clockDrive := by first | assumption | exact True.intro) (_ : m .constellation := by first | assumption | exact True.intro) : Keeps m s0 (State.takeControl x0 x1 x2) := by unfold State.takeControl; grind [State.setLink_keeps, State.put_keeps, State.linkDown_keeps]
theorem State.takeTrack_keeps {s0 : State} (x0 : State) (x1) (x2) (x3) (h : Keeps m s0 x0) (_ : m .clockDrive := by first | assumption | exact True.intro) : Keeps m s0 (State.takeTrack x0 x1 x2 x3) := by revert h; fun_induction State.takeTrack x0 x1 x2 x3 <;> grind [State.setTracker_keeps]
theorem State.takeTracks_keeps {s0 : State} (x0 : State) (x1) (x2) (h : Keeps m s0 x0) (_ : m .clockDrive := by first | assumption | exact True.intro) : Keeps m s0 (State.takeTracks x0 x1 x2) := by revert h; fun_induction State.takeTracks x0 x1 x2 <;> grind [State.takeTrack_keeps]
theorem State.consumeFrame_keeps {s0 : State} (x0 : State) (x1) (x2) (x3) (h : Keeps m s0 x0) (_ : m .plates := by first | assumption | exact True.intro) (_ : m .ecc := by first | assumption | exact True.intro) (_ : m .queues := by first | assumption | exact True.intro) (_ : m .events := by first | assumption | exact True.intro) (_ : m .flows := by first | assumption | exact True.intro) (_ : m .clockDrive := by first | assumption | exact True.intro) (_ : m .constellation := by first | assumption | exact True.intro) : Keeps m s0 (State.consumeFrame x0 x1 x2 x3) := by unfold State.consumeFrame; grind [State.takeHead_keeps, State.takeData_keeps, State.takeEvents_keeps, State.takeTracks_keeps]
theorem State.forwardFrame_keeps {s0 : State} (x0 : State) (x1) (x2) (h : Keeps m s0 x0) (_ : m .constellation := by first | assumption | exact True.intro) : Keeps m s0 (State.forwardFrame x0 x1 x2) := by unfold State.forwardFrame; grind [State.setLink_keeps]
theorem State.routeFrame_keeps {s0 : State} (x0 : State) (x1) (x2) (x3) (h : Keeps m s0 x0) (_ : m .plates := by first | assumption | exact True.intro) (_ : m .ecc := by first | assumption | exact True.intro) (_ : m .queues := by first | assumption | exact True.intro) (_ : m .events := by first | assumption | exact True.intro) (_ : m .answers := by first | assumption | exact True.intro) (_ : m .flows := by first | assumption | exact True.intro) (_ : m .clockDrive := by first | assumption | exact True.intro) (_ : m .constellation := by first | assumption | exact True.intro) : Keeps m s0 (State.routeFrame x0 x1 x2 x3) := by unfold State.routeFrame; grind [State.takeControl_keeps, State.forwardFrame_keeps, State.consumeFrame_keeps]
theorem State.trained_keeps {s0 : State} (x0 : State) (x1) (h : Keeps m s0 x0) (_ : m .events := by first | assumption | exact True.intro) (_ : m .flows := by first | assumption | exact True.intro) (_ : m .constellation := by first | assumption | exact True.intro) : Keeps m s0 (State.trained x0 x1) := by unfold State.trained; grind [State.setLink_keeps, State.setLinkState_keeps]
theorem State.takeReserved_keeps {s0 : State} (x0 : State) (x1) (x2) (x3) (h : Keeps m s0 x0) (_ : m .events := by first | assumption | exact True.intro) (_ : m .flows := by first | assumption | exact True.intro) (_ : m .constellation := by first | assumption | exact True.intro) : Keeps m s0 (State.takeReserved x0 x1 x2 x3) := by unfold State.takeReserved; grind [State.setLink_keeps, State.trained_keeps]
theorem State.takeBad_keeps {s0 : State} (x0 : State) (x1) (x2) (h : Keeps m s0 x0) (_ : m .queues := by first | assumption | exact True.intro) (_ : m .events := by first | assumption | exact True.intro) (_ : m .answers := by first | assumption | exact True.intro) (_ : m .flows := by first | assumption | exact True.intro) (_ : m .clockDrive := by first | assumption | exact True.intro) (_ : m .constellation := by first | assumption | exact True.intro) : Keeps m s0 (State.takeBad x0 x1 x2) := by unfold State.takeBad; grind [State.setLink_keeps, State.count_keeps, State.linkDown_keeps]
theorem State.takeGood_keeps {s0 : State} (x0 : State) (x1) (x2) (x3) (h : Keeps m s0 x0) (he : m .events) (hf : m .flows) (hc : m .constellation) (_ : m .events := by first | assumption | exact True.intro) (_ : m .flows := by first | assumption | exact True.intro) (_ : m .constellation := by first | assumption | exact True.intro) : Keeps m s0 (State.takeGood x0 x1 x2 x3) := by
  have h1 := State.trained_keeps (x0.measure x1 x2 x3) x1 (State.measure_keeps x0 x1 x2 x3 h hc) he hf hc
  have h2 := ite_keeps (c := linkSrc x2 = ((x0.measure x1 x2 x3).trained x1).member) h1 (State.notePresence_keeps _ (linkSrc x2) h1 he hf hc)
  exact ite_keeps (State.linkSyncs_keeps _ x1 (State.linkCals_keeps _ x1 false (State.elect_keeps _ h2) he hf hc) he hf) h2
theorem State.receiveLink_keeps {s0 : State} (x0 : State) (x1) (x2) (x3) (h : Keeps m s0 x0) (_ : m .plates := by first | assumption | exact True.intro) (_ : m .ecc := by first | assumption | exact True.intro) (_ : m .queues := by first | assumption | exact True.intro) (_ : m .time := by first | assumption | exact True.intro) (_ : m .events := by first | assumption | exact True.intro) (_ : m .answers := by first | assumption | exact True.intro) (_ : m .flows := by first | assumption | exact True.intro) (_ : m .clockDrive := by first | assumption | exact True.intro) (_ : m .constellation := by first | assumption | exact True.intro) : Keeps m s0 (State.receiveLink x0 x1 x2 x3) := by
  unfold State.receiveLink; grind [State.linkUpdate_keeps, State.stampEdge_keeps, State.takeBad_keeps, State.takeReserved_keeps, State.takeGood_keeps, State.routeFrame_keeps]
theorem State.receiveTyped_keeps {s0 : State} (x0 : State) (x1) (x2) (x3) (x4) (h : Keeps m s0 x0) (_ : m .plates := by first | assumption | exact True.intro) (_ : m .ecc := by first | assumption | exact True.intro) (_ : m .queues := by first | assumption | exact True.intro) (_ : m .time := by first | assumption | exact True.intro) (_ : m .events := by first | assumption | exact True.intro) (_ : m .answers := by first | assumption | exact True.intro) (_ : m .flows := by first | assumption | exact True.intro) (_ : m .clockDrive := by first | assumption | exact True.intro) (_ : m .constellation := by first | assumption | exact True.intro) : Keeps m s0 (State.receiveTyped x0 x1 x2 x3 x4) := by unfold State.receiveTyped; grind [State.receiveLink_keeps]
theorem State.loadEvents_keeps {s0 : State} (x0 : State) (h : Keeps m s0 x0) (_ : m .events := by first | assumption | exact True.intro) (_ : m .constellation := by first | assumption | exact True.intro) : Keeps m s0 (State.loadEvents x0) := by unfold State.loadEvents; grind [State.setLink_keeps, Keeps.upd]
theorem State.sendControl_keeps {s0 : State} (x0 : State) (x1) (x2) (h : Keeps m s0 x0) (_ : m .time := by first | assumption | exact True.intro) (_ : m .constellation := by first | assumption | exact True.intro) : Keeps m s0 (State.sendControl x0 x1 x2) := by unfold State.sendControl; grind [State.emptyFrame_keeps, State.sendLink_keeps, State.setLink_keeps]
theorem State.sendIdle_keeps {s0 : State} (x0 : State) (x1) (x2) (h : Keeps m s0 x0) (_ : m .time := by first | assumption | exact True.intro) (_ : m .constellation := by first | assumption | exact True.intro) : Keeps m s0 (State.sendIdle x0 x1 x2) := by unfold State.sendIdle; grind [State.emptyFrame_keeps, State.sendLink_keeps]
theorem State.sendOwn_keeps {s0 : State} (x0 : State) (x1) (x2) (x3) (h : Keeps m s0 x0) (_ : m .time := by first | assumption | exact True.intro) (_ : m .events := by first | assumption | exact True.intro) (_ : m .constellation := by first | assumption | exact True.intro) : Keeps m s0 (State.sendOwn x0 x1 x2 x3) := by unfold State.sendOwn; grind [State.loadEvents_keeps, State.setLink_keeps, State.sendLink_keeps, State.sendControl_keeps, State.sendIdle_keeps]
theorem State.sendSlot_keeps {s0 : State} (x0 : State) (x1) (x2) (x3) (h : Keeps m s0 x0) (_ : m .time := by first | assumption | exact True.intro) (_ : m .events := by first | assumption | exact True.intro) (_ : m .constellation := by first | assumption | exact True.intro) : Keeps m s0 (State.sendSlot x0 x1 x2 x3) := by unfold State.sendSlot; grind [State.setLink_keeps, State.sendOwn_keeps, State.sendLink_keeps, State.sendIdle_keeps]
theorem State.exportTracks_keeps {s0 : State} (x0 : State) (h : Keeps m s0 x0) (_ : m .constellation := by first | assumption | exact True.intro) : Keeps m s0 (State.exportTracks x0) := by unfold State.exportTracks; grind [State.setLink_keeps, Keeps.upd]
theorem State.queueItem_keeps {s0 : State} (x0 : State) (x1) (x2) (h : Keeps m s0 x0) (_ : m .constellation := by first | assumption | exact True.intro) : Keeps m s0 (State.queueItem x0 x1 x2) := by revert h; fun_induction State.queueItem x0 x1 x2 <;> grind [State.setLink_keeps]
theorem State.countAbandon_keeps {s0 : State} (x0 : State) (x1) (h : Keeps m s0 x0) : Keeps m s0 (State.countAbandon x0 x1) := by revert h; fun_induction State.countAbandon x0 x1 <;> grind [State.count_keeps]
theorem State.sendItem_keeps {s0 : State} (x0 : State) (x1) (h : Keeps m s0 x0) (_ : m .queues := by first | assumption | exact True.intro) (_ : m .events := by first | assumption | exact True.intro) (_ : m .flows := by first | assumption | exact True.intro) (_ : m .constellation := by first | assumption | exact True.intro) : Keeps m s0 (State.sendItem x0 x1) := by
  unfold State.sendItem
  try simp only []
  repeat' first | assumption | exact True.intro | with_reducible exact h | with_reducible apply State.stopQueue_keeps | with_reducible apply State.dequeue_keeps | with_reducible apply State.finishDescriptor_keeps | with_reducible apply State.countAbandon_keeps | with_reducible apply State.put_keeps | with_reducible apply State.plateRead_keeps | with_reducible apply State.queueItem_keeps | with_reducible apply State.readHead_keeps | split
  all_goals grind [State.stopQueue_keeps, State.dequeue_keeps, State.finishDescriptor_keeps, State.countAbandon_keeps, State.put_keeps, State.plateRead_keeps, State.queueItem_keeps, State.readHead_keeps]
theorem State.controlNow_keeps {s0 : State} (x0 : State) (h : Keeps m s0 x0) (_ : m .constellation := by first | assumption | exact True.intro) : Keeps m s0 (State.controlNow x0) := by unfold State.controlNow; grind [State.setLink_keeps]
theorem writeCstCfg_keeps {s0 : State} (x0) (x1 : State) (h : Keeps m s0 x1) (_ : m .events := by first | assumption | exact True.intro) (_ : m .flows := by first | assumption | exact True.intro) (_ : m .constellation := by first | assumption | exact True.intro) : EKeeps m s0 (writeCstCfg x0 x1) := by unfold writeCstCfg; grind [Effect.denied_keeps, State.plainWrite_keeps, State.setPresent_keeps, Effect.ok_keeps, State.elect_keeps, State.controlNow_keeps, EKeeps, Effect.ok, Effect.kept, Effect.denied, Effect.retry]
theorem writeCstCand_keeps {s0 : State} (x0) (x1 : State) (h : Keeps m s0 x1) (_ : m .events := by first | assumption | exact True.intro) (_ : m .flows := by first | assumption | exact True.intro) (_ : m .constellation := by first | assumption | exact True.intro) : EKeeps m s0 (writeCstCand x0 x1) := by unfold writeCstCand; grind [Effect.ok_keeps, State.elect_keeps, State.controlNow_keeps, State.plainWrite_keeps, EKeeps, Effect.ok, Effect.kept, Effect.denied, Effect.retry]
theorem writeCstServo_keeps {s0 : State} (x0) (x1 : State) (h : Keeps m s0 x1) : EKeeps m s0 (writeCstServo x0 x1) := by unfold writeCstServo; grind [State.plainWrite_keeps, Effect.ok_keeps, State.put_keeps, EKeeps, Effect.ok, Effect.kept, Effect.denied, Effect.retry]
theorem writeCstLnkctl_keeps {s0 : State} (x0) (x1) (x2 : State) (h : Keeps m s0 x2) (_ : m .queues := by first | assumption | exact True.intro) (_ : m .time := by first | assumption | exact True.intro) (_ : m .events := by first | assumption | exact True.intro) (_ : m .answers := by first | assumption | exact True.intro) (_ : m .flows := by first | assumption | exact True.intro) (_ : m .clockDrive := by first | assumption | exact True.intro) (_ : m .constellation := by first | assumption | exact True.intro) : EKeeps m s0 (writeCstLnkctl x0 x1 x2) := by unfold writeCstLnkctl; grind [State.leaveLink_keeps, State.plainWrite_keeps, Effect.ok_keeps, State.linkDown_keeps, EKeeps, Effect.ok, Effect.kept, Effect.denied, Effect.retry]
theorem writeCstAsym_keeps {s0 : State} (x0) (x1) (x2 : State) (h : Keeps m s0 x2) (_ : m .constellation := by first | assumption | exact True.intro) : EKeeps m s0 (writeCstAsym x0 x1 x2) := by unfold writeCstAsym; grind [Effect.denied_keeps, Effect.ok_keeps, State.controlNow_keeps, State.plainWrite_keeps, EKeeps, Effect.ok, Effect.kept, Effect.denied, Effect.retry]
theorem writeCstChcfg_keeps {s0 : State} (x0) (x1) (x2 : State) (h : Keeps m s0 x2) : EKeeps m s0 (writeCstChcfg x0 x1 x2) := by unfold writeCstChcfg; grind [Effect.denied_keeps, Effect.ok_keeps, State.plainWrite_keeps, EKeeps, Effect.ok, Effect.kept, Effect.denied, Effect.retry]
theorem execLinkTrainingEntry_keeps {s0 : State} (x0) (x1 : State) (h : Keeps m s0 x1) (_ : m .events := by first | assumption | exact True.intro) (_ : m .flows := by first | assumption | exact True.intro) (_ : m .constellation := by first | assumption | exact True.intro) : ∀ r, execLinkTrainingEntry x0 x1 = .next r → Keeps m s0 r := by unfold execLinkTrainingEntry; grind [State.setLink_keeps, State.setLinkState_keeps]
theorem execLinkFrameReceived_keeps {s0 : State} (x0) (x1) (x2) (x3 : State) (h : Keeps m s0 x3) (_ : m .plates := by first | assumption | exact True.intro) (_ : m .ecc := by first | assumption | exact True.intro) (_ : m .queues := by first | assumption | exact True.intro) (_ : m .time := by first | assumption | exact True.intro) (_ : m .events := by first | assumption | exact True.intro) (_ : m .answers := by first | assumption | exact True.intro) (_ : m .flows := by first | assumption | exact True.intro) (_ : m .clockDrive := by first | assumption | exact True.intro) (_ : m .constellation := by first | assumption | exact True.intro) : ∀ r, execLinkFrameReceived x0 x1 x2 x3 = .next r → Keeps m s0 r := by unfold execLinkFrameReceived; grind [State.receiveLink_keeps]
theorem execQhead_keeps {s0 : State} (x0) (x1) (x2) (x3 : State) (h : Keeps m s0 x3) (_ : m .plates := by first | assumption | exact True.intro) (_ : m .ecc := by first | assumption | exact True.intro) (_ : m .queues := by first | assumption | exact True.intro) (_ : m .time := by first | assumption | exact True.intro) (_ : m .events := by first | assumption | exact True.intro) (_ : m .answers := by first | assumption | exact True.intro) (_ : m .flows := by first | assumption | exact True.intro) (_ : m .clockDrive := by first | assumption | exact True.intro) (_ : m .constellation := by first | assumption | exact True.intro) : ∀ r, execQhead x0 x1 x2 x3 = .next r → Keeps m s0 r := by unfold execQhead; grind [State.receiveTyped_keeps]
theorem execQdata_keeps {s0 : State} (x0) (x1) (x2) (x3 : State) (h : Keeps m s0 x3) (_ : m .plates := by first | assumption | exact True.intro) (_ : m .ecc := by first | assumption | exact True.intro) (_ : m .queues := by first | assumption | exact True.intro) (_ : m .time := by first | assumption | exact True.intro) (_ : m .events := by first | assumption | exact True.intro) (_ : m .answers := by first | assumption | exact True.intro) (_ : m .flows := by first | assumption | exact True.intro) (_ : m .clockDrive := by first | assumption | exact True.intro) (_ : m .constellation := by first | assumption | exact True.intro) : ∀ r, execQdata x0 x1 x2 x3 = .next r → Keeps m s0 r := by unfold execQdata; grind [State.receiveTyped_keeps]
theorem execEventFrame_keeps {s0 : State} (x0) (x1) (x2) (x3 : State) (h : Keeps m s0 x3) (_ : m .plates := by first | assumption | exact True.intro) (_ : m .ecc := by first | assumption | exact True.intro) (_ : m .queues := by first | assumption | exact True.intro) (_ : m .time := by first | assumption | exact True.intro) (_ : m .events := by first | assumption | exact True.intro) (_ : m .answers := by first | assumption | exact True.intro) (_ : m .flows := by first | assumption | exact True.intro) (_ : m .clockDrive := by first | assumption | exact True.intro) (_ : m .constellation := by first | assumption | exact True.intro) : ∀ r, execEventFrame x0 x1 x2 x3 = .next r → Keeps m s0 r := by unfold execEventFrame; grind [State.receiveTyped_keeps]
theorem execControlFrame_keeps {s0 : State} (x0) (x1) (x2) (x3 : State) (h : Keeps m s0 x3) (_ : m .plates := by first | assumption | exact True.intro) (_ : m .ecc := by first | assumption | exact True.intro) (_ : m .queues := by first | assumption | exact True.intro) (_ : m .time := by first | assumption | exact True.intro) (_ : m .events := by first | assumption | exact True.intro) (_ : m .answers := by first | assumption | exact True.intro) (_ : m .flows := by first | assumption | exact True.intro) (_ : m .clockDrive := by first | assumption | exact True.intro) (_ : m .constellation := by first | assumption | exact True.intro) : ∀ r, execControlFrame x0 x1 x2 x3 = .next r → Keeps m s0 r := by unfold execControlFrame; grind [State.receiveTyped_keeps]
theorem execTrack_keeps {s0 : State} (x0) (x1) (x2) (x3 : State) (h : Keeps m s0 x3) (_ : m .plates := by first | assumption | exact True.intro) (_ : m .ecc := by first | assumption | exact True.intro) (_ : m .queues := by first | assumption | exact True.intro) (_ : m .time := by first | assumption | exact True.intro) (_ : m .events := by first | assumption | exact True.intro) (_ : m .answers := by first | assumption | exact True.intro) (_ : m .flows := by first | assumption | exact True.intro) (_ : m .clockDrive := by first | assumption | exact True.intro) (_ : m .constellation := by first | assumption | exact True.intro) : ∀ r, execTrack x0 x1 x2 x3 = .next r → Keeps m s0 r := by unfold execTrack; grind [State.receiveTyped_keeps]
theorem execTrackExport_keeps {s0 : State} (x0 : State) (h : Keeps m s0 x0) (_ : m .constellation := by first | assumption | exact True.intro) : ∀ r, execTrackExport x0 = .next r → Keeps m s0 r := by unfold execTrackExport; grind [State.exportTracks_keeps]
theorem execLinkFrameTimeout_keeps {s0 : State} (x0) (x1 : State) (h : Keeps m s0 x1) (_ : m .queues := by first | assumption | exact True.intro) (_ : m .events := by first | assumption | exact True.intro) (_ : m .answers := by first | assumption | exact True.intro) (_ : m .flows := by first | assumption | exact True.intro) (_ : m .clockDrive := by first | assumption | exact True.intro) (_ : m .constellation := by first | assumption | exact True.intro) : ∀ r, execLinkFrameTimeout x0 x1 = .next r → Keeps m s0 r := by unfold execLinkFrameTimeout; grind [State.linkDown_keeps]
theorem execLinkUpdate_keeps {s0 : State} (x0) (x1 : State) (h : Keeps m s0 x1) (_ : m .time := by first | assumption | exact True.intro) (_ : m .events := by first | assumption | exact True.intro) (_ : m .answers := by first | assumption | exact True.intro) (_ : m .flows := by first | assumption | exact True.intro) (_ : m .clockDrive := by first | assumption | exact True.intro) (_ : m .constellation := by first | assumption | exact True.intro) : ∀ r, execLinkUpdate x0 x1 = .next r → Keeps m s0 r := by unfold execLinkUpdate; grind [State.linkUpdate_keeps]
theorem execServoOwnerHandover_keeps {s0 : State} (x0 : State) (h : Keeps m s0 x0) (_ : m .time := by first | assumption | exact True.intro) (_ : m .events := by first | assumption | exact True.intro) (_ : m .answers := by first | assumption | exact True.intro) (_ : m .flows := by first | assumption | exact True.intro) (_ : m .constellation := by first | assumption | exact True.intro) : ∀ r, execServoOwnerHandover x0 = .next r → Keeps m s0 r := by unfold execServoOwnerHandover; grind [State.elect_keeps, State.writeReg_keeps, writeRglSrvOwn_keeps, Keeps.upd]
theorem execPresenceTimeout_keeps {s0 : State} (x0) (x1 : State) (h : Keeps m s0 x1) (_ : m .events := by first | assumption | exact True.intro) (_ : m .flows := by first | assumption | exact True.intro) (_ : m .constellation := by first | assumption | exact True.intro) : ∀ r, execPresenceTimeout x0 x1 = .next r → Keeps m s0 r := by
  have hc (c : Constellation) : Keeps m s0 { x1 with constellation := c } := Keeps.of _ _ _ h rfl rfl rfl rfl
  refine next_keeps _ ?_
  split
  · exact ite_keeps (State.setPresent_keeps _ _ _ (hc _)) h
  · exact h
theorem execLeave_keeps {s0 : State} (x0) (x1) (x2) (x3 : State) (h : Keeps m s0 x3) (_ : m .queues := by first | assumption | exact True.intro) (_ : m .time := by first | assumption | exact True.intro) (_ : m .events := by first | assumption | exact True.intro) (_ : m .answers := by first | assumption | exact True.intro) (_ : m .flows := by first | assumption | exact True.intro) (_ : m .clockDrive := by first | assumption | exact True.intro) (_ : m .constellation := by first | assumption | exact True.intro) : ∀ r, execLeave x0 x1 x2 x3 = .next r → Keeps m s0 r := by unfold execLeave; grind [State.writeReg_keeps, writeCstLnkctl_keeps]
theorem execOutboundItemSend_keeps {s0 : State} (x0 : State) (h : Keeps m s0 x0) (_ : m .queues := by first | assumption | exact True.intro) (_ : m .events := by first | assumption | exact True.intro) (_ : m .flows := by first | assumption | exact True.intro) (_ : m .constellation := by first | assumption | exact True.intro) : ∀ r, execOutboundItemSend x0 = .next r → Keeps m s0 r := by unfold execOutboundItemSend; grind [State.sendItem_keeps]
theorem execFramePeriodSlot_keeps {s0 : State} (x0) (x1) (x2 : State) (h : Keeps m s0 x2) (_ : m .time := by first | assumption | exact True.intro) (_ : m .events := by first | assumption | exact True.intro) (_ : m .constellation := by first | assumption | exact True.intro) : ∀ r, execFramePeriodSlot x0 x1 x2 = .next r → Keeps m s0 r := by unfold execFramePeriodSlot; grind [State.sendSlot_keeps, State.setLink_keeps, State.sendControl_keeps, State.sendIdle_keeps]
theorem State.startAttach_keeps {s0 : State} (x0 : State) (h : Keeps m s0 x0) (_ : m .power := by first | assumption | exact True.intro) : Keeps m s0 (State.startAttach x0) := by unfold State.startAttach; grind [State.put_keeps, Keeps.upd]
theorem State.detachTo_keeps {s0 : State} (x0 : State) (x1) (h : Keeps AllParts s0 x0) : Keeps AllParts s0 (State.detachTo x0 x1) := by unfold State.detachTo; grind [State.ifcOff_keeps, State.put_keeps, Keeps.upd]
theorem State.enterDetached_keeps {s0 : State} (x0 : State) (h : Keeps AllParts s0 x0) : Keeps AllParts s0 (State.enterDetached x0) := by
  have hr (t : State) (r) (ht : Keeps AllParts s0 t) : Keeps AllParts s0 { t with retained := r } := Keeps.of _ _ _ ht rfl rfl rfl rfl
  unfold State.enterDetached
  extract_lets _ t1 t2
  have h1 : Keeps AllParts s0 t1 := hr _ _ (State.put_keeps _ _ _ (State.detachTo_keeps _ _ h))
  have h2 : Keeps AllParts s0 t2 := State.setReg_keeps _ _ _ (State.setReg_keeps _ _ _ (State.setReg_keeps _ _ _ (State.setReg_keeps _ _ _ h1)))
  exact ite_keeps (State.startAttach_keeps _ h2) h2
theorem State.powerUp_keeps {s0 : State} (x0 : State) (h : Keeps m s0 x0) (_ : m .events := by first | assumption | exact True.intro) (_ : m .power := by first | assumption | exact True.intro) (_ : m .flows := by first | assumption | exact True.intro) : Keeps m s0 (State.powerUp x0) := by unfold State.powerUp; grind [State.settleAll_keeps, State.put_keeps, Keeps.upd]
theorem State.holdWatchdogs_keeps {s0 : State} (x0 : State) (x1) (h : Keeps m s0 x0) (_ : m .timers := by first | assumption | exact True.intro) : Keeps m s0 (State.holdWatchdogs x0 x1) := by revert h; fun_induction State.holdWatchdogs x0 x1 <;> grind [State.watchdogHold_keeps]
theorem State.restartWatchdogs_keeps {s0 : State} (x0 : State) (x1) (h : Keeps m s0 x0) (_ : m .timers := by first | assumption | exact True.intro) : Keeps m s0 (State.restartWatchdogs x0 x1) := by revert h; fun_induction State.restartWatchdogs x0 x1 <;> grind [State.watchdogRestart_keeps]
theorem State.leaveNap_keeps {s0 : State} (x0 : State) (h : Keeps m s0 x0) (_ : m .timers := by first | assumption | exact True.intro) : Keeps m s0 (State.leaveNap x0) := by unfold State.leaveNap; grind [State.restartWatchdogs_keeps, State.put_keeps]
theorem State.startDetach_keeps {s0 : State} (x0 : State) (h : Keeps m s0 x0) (_ : m .power := by first | assumption | exact True.intro) (_ : m .timers := by first | assumption | exact True.intro) : Keeps m s0 (State.startDetach x0) := by unfold State.startDetach; grind [State.put_keeps, State.leaveNap_keeps, Keeps.upd]
theorem State.stopEngines_keeps {s0 : State} (x0 : State) (x1) (h : Keeps m s0 x0) (_ : m .plates := by first | assumption | exact True.intro) (_ : m .ecc := by first | assumption | exact True.intro) (_ : m .queues := by first | assumption | exact True.intro) (_ : m .time := by first | assumption | exact True.intro) (_ : m .events := by first | assumption | exact True.intro) (_ : m .answers := by first | assumption | exact True.intro) (_ : m .flows := by first | assumption | exact True.intro) (_ : m .timers := by first | assumption | exact True.intro) (_ : m .engines := by first | assumption | exact True.intro) : Keeps m s0 (State.stopEngines x0 x1) := by revert h; fun_induction State.stopEngines x0 x1 <;> grind [State.stopRequest_keeps, State.put_keeps]
theorem State.tombstoneFlow_keeps {s0 : State} (x0 : State) (x1) (x2) (x3) (h : Keeps m s0 x0) (_ : m .queues := by first | assumption | exact True.intro) (_ : m .flows := by first | assumption | exact True.intro) : Keeps m s0 (State.tombstoneFlow x0 x1 x2 x3).2 := by revert h; fun_induction State.tombstoneFlow x0 x1 x2 x3 <;> grind [State.placeBreach_keeps]
theorem State.tombstoneFlows_keeps {s0 : State} (x0 : State) (x1) (x2) (h : Keeps m s0 x0) (_ : m .queues := by first | assumption | exact True.intro) (_ : m .flows := by first | assumption | exact True.intro) : Keeps m s0 (State.tombstoneFlows x0 x1 x2).2 := by revert h; fun_induction State.tombstoneFlows x0 x1 x2 <;> grind [State.tombstoneFlow_keeps]
theorem State.tombstoneAll_keeps {s0 : State} (x0 : State) (x1) (h : Keeps m s0 x0) (_ : m .queues := by first | assumption | exact True.intro) (_ : m .flows := by first | assumption | exact True.intro) : Keeps m s0 (State.tombstoneAll x0 x1).2 := by unfold State.tombstoneAll; grind [State.tombstoneFlows_keeps]
theorem State.bypassPorts_keeps {s0 : State} (x0 : State) (x1) (h : Keeps m s0 x0) (_ : m .answers := by first | assumption | exact True.intro) (_ : m .framePorts := by first | assumption | exact True.intro) : Keeps m s0 (State.bypassPorts x0 x1) := by revert h; fun_induction State.bypassPorts x0 x1 <;> grind [State.writeReg_keeps, writeFptCtl_keeps]
theorem State.finishDetach_keeps {s0 : State} (x0 : State) (h : Keeps AllParts s0 x0) : Keeps AllParts s0 (State.finishDetach x0) := by unfold State.finishDetach; grind [State.leaveLink_keeps, State.logChange_keeps, State.put_keeps, State.enterDetached_keeps, State.placeAll_keeps, State.bypassPorts_keeps]
theorem State.enterDormant_keeps {s0 : State} (x0 : State) (h : Keeps AllParts s0 x0) : Keeps AllParts s0 (State.enterDormant x0) := by
  have hr (t : State) (r) (ht : Keeps AllParts s0 t) : Keeps AllParts s0 { t with retained := r } := Keeps.of _ _ _ ht rfl rfl rfl rfl
  unfold State.enterDormant
  extract_lets t r _ u
  have h1 : Keeps AllParts s0 t := State.bypassPorts_keeps _ _ h
  have h2 : Keeps AllParts s0 u :=
    State.setRegs_keeps _ _ (hr _ _ (State.detachTo_keeps _ _ (State.placeAll_keeps _ h1)))
  exact ite_keeps h2 (State.enterDetached_keeps _ h2)
theorem State.wake_keeps {s0 : State} (x0 : State) (x1) (h : Keeps m s0 x0) (_ : m .power := by first | assumption | exact True.intro) : Keeps m s0 (State.wake x0 x1) := by unfold State.wake; grind [State.startAttach_keeps, State.setBit_keeps]
theorem State.checked_keeps {s0 : State} (x0 : State) (x1) (h : Keeps m s0 x0) (_ : m .power := by first | assumption | exact True.intro) : Keeps m s0 (x0.checked x1) := by
  have hp (t : State) (p : Power) (ht : Keeps m s0 t) : Keeps m s0 { t with power := p } := Keeps.of _ _ _ ht rfl rfl rfl rfl
  cases x1 with
  | none => exact State.count_keeps _ _ _ (State.put_keeps _ _ _ h)
  | some c => exact hp _ _ (State.put_keeps _ _ _ (State.put_keeps _ _ _ (State.put_keeps _ _ _ h)))
theorem State.stabilityCheck_keeps {s0 : State} (x0 : State) (x1) (x2) (x3) (h : Keeps m s0 x0) (_ : m .power := by first | assumption | exact True.intro) : Keeps m s0 (State.stabilityCheck x0 x1 x2 x3) := by unfold State.stabilityCheck; grind [State.checked_keeps]
theorem State.lockAll_keeps {s0 : State} (x0 : State) (h : Keeps m s0 x0) : Keeps m s0 (State.lockAll x0) := by unfold State.lockAll; grind [State.put_keeps]
theorem State.pllsLock_keeps {s0 : State} (x0 : State) (h : Keeps m s0 x0) (_ : m .ecc := by first | assumption | exact True.intro) (_ : m .queues := by first | assumption | exact True.intro) (_ : m .time := by first | assumption | exact True.intro) (_ : m .events := by first | assumption | exact True.intro) (_ : m .answers := by first | assumption | exact True.intro) (_ : m .power := by first | assumption | exact True.intro) (_ : m .flows := by first | assumption | exact True.intro) (_ : m .framePorts := by first | assumption | exact True.intro) (_ : m .verniers := by first | assumption | exact True.intro) (_ : m .timers := by first | assumption | exact True.intro) (_ : m .clockDrive := by first | assumption | exact True.intro) (_ : m .banks := by first | assumption | exact True.intro) (_ : m .engines := by first | assumption | exact True.intro) (_ : m .security := by first | assumption | exact True.intro) (_ : m .occultation := by first | assumption | exact True.intro) (_ : m .chart := by first | assumption | exact True.intro) (_ : m .assistant := by first | assumption | exact True.intro) (_ : m .constellation := by first | assumption | exact True.intro) (_ : m .eyepiece := by first | assumption | exact True.intro) (_ : m .tick := by first | assumption | exact True.intro) : Keeps m s0 (State.pllsLock x0) := by unfold State.pllsLock; grind [State.lockAll_keeps, State.put_keeps, State.resetWith_keeps]
theorem State.loseClock_keeps {s0 : State} (x0 : State) (x1) (x2) (h : Keeps m s0 x0) (_ : m .time := by first | assumption | exact True.intro) (_ : m .events := by first | assumption | exact True.intro) (_ : m .power := by first | assumption | exact True.intro) (_ : m .flows := by first | assumption | exact True.intro) (_ : m .constellation := by first | assumption | exact True.intro) : Keeps m s0 (x0.loseClock x1 x2) := by
  unfold State.loseClock
  extract_lets _ t1 t2 t3 _ t4 t5 t6
  have h1 : Keeps m s0 t1 := Keeps.of _ _ _ h rfl rfl rfl rfl
  have h2 : Keeps m s0 t2 := State.put_keeps _ _ _ (State.put_keeps _ _ _ (State.put_keeps _ _ _ h1))
  have h3 : Keeps m s0 t3 := State.count_keeps _ _ _ (State.put_keeps _ _ _ (State.put_keeps _ _ _ h2))
  have h4 : Keeps m s0 t4 := Keeps.of _ _ _ h3 rfl rfl rfl rfl
  have h5 : Keeps m s0 t5 := State.put_keeps _ _ _ (State.put_keeps _ _ _ h4)
  have h6 : Keeps m s0 t6 := by
    show Keeps m s0 (if _ then _ else _)
    split
    · exact h5
    · exact State.setQuality_keeps _ _ (State.put_keeps _ _ _ h5)
  exact State.settleAll_keeps _ (Keeps.of _ _ _ h6 rfl rfl rfl rfl)
theorem State.serviceStart_keeps {s0 : State} (x0 : State) (h : Keeps m s0 x0) (_ : m .events := by first | assumption | exact True.intro) (_ : m .answers := by first | assumption | exact True.intro) (_ : m .power := by first | assumption | exact True.intro) (_ : m .flows := by first | assumption | exact True.intro) (_ : m .timers := by first | assumption | exact True.intro) (_ : m .security := by first | assumption | exact True.intro) : Keeps m s0 (State.serviceStart x0) := by
  unfold State.serviceStart
  try simp only []
  repeat' first | assumption | exact True.intro | with_reducible exact h | with_reducible apply State.tamperRecords_keeps | with_reducible apply State.fresh_keeps | with_reducible apply State.registerEvent_keeps | with_reducible apply State.logChange_keeps | with_reducible apply State.put_keeps | with_reducible apply State.startDetach_keeps | split
  all_goals grind [State.tamperRecords_keeps, State.fresh_keeps, State.registerEvent_keeps, State.logChange_keeps, State.put_keeps, State.startDetach_keeps, Keeps.upd]
theorem State.replayLatches_keeps {s0 : State} (x0 : State) (h : Keeps m s0 x0) (_ : m .events := by first | assumption | exact True.intro) (_ : m .flows := by first | assumption | exact True.intro) : Keeps m s0 (State.replayLatches x0) := by unfold State.replayLatches; grind [State.registerEvents_keeps, State.setReg_keeps]
theorem writeCluCtl_keeps {s0 : State} (x0) (x1 : State) (h : Keeps m s0 x1) (_ : m .plates := by first | assumption | exact True.intro) (_ : m .ecc := by first | assumption | exact True.intro) (_ : m .queues := by first | assumption | exact True.intro) (_ : m .time := by first | assumption | exact True.intro) (_ : m .events := by first | assumption | exact True.intro) (_ : m .answers := by first | assumption | exact True.intro) (_ : m .power := by first | assumption | exact True.intro) (_ : m .flows := by first | assumption | exact True.intro) (_ : m .framePorts := by first | assumption | exact True.intro) (_ : m .verniers := by first | assumption | exact True.intro) (_ : m .timers := by first | assumption | exact True.intro) (_ : m .clockDrive := by first | assumption | exact True.intro) (_ : m .banks := by first | assumption | exact True.intro) (_ : m .engines := by first | assumption | exact True.intro) (_ : m .security := by first | assumption | exact True.intro) (_ : m .occultation := by first | assumption | exact True.intro) (_ : m .chart := by first | assumption | exact True.intro) (_ : m .assistant := by first | assumption | exact True.intro) (_ : m .constellation := by first | assumption | exact True.intro) (_ : m .eyepiece := by first | assumption | exact True.intro) (_ : m .tick := by first | assumption | exact True.intro) : EKeeps m s0 (writeCluCtl x0 x1) := by
  unfold writeCluCtl
  try simp only []
  repeat' first | assumption | exact True.intro | with_reducible exact h | with_reducible apply State.plainWrite_keeps | with_reducible apply State.resetWith_keeps | with_reducible apply State.placeAll_keeps | with_reducible apply Effect.ok_keeps | split
  all_goals grind [State.plainWrite_keeps, State.resetWith_keeps, State.placeAll_keeps, Effect.ok_keeps, Keeps.upd, EKeeps, Effect.ok, Effect.kept, Effect.denied, Effect.retry]
theorem writeCluAttach_keeps {s0 : State} (x0) (x1 : State) (h : Keeps m s0 x1) (_ : m .power := by first | assumption | exact True.intro) : EKeeps m s0 (writeCluAttach x0 x1) := by unfold writeCluAttach; grind [State.plainWrite_keeps, Effect.ok_keeps, State.wake_keeps, EKeeps, Effect.ok, Effect.kept, Effect.denied, Effect.retry]
theorem writeClkOscTol_keeps {s0 : State} (x0) (x1 : State) (h : Keeps m s0 x1) : EKeeps m s0 (writeClkOscTol x0 x1) := by unfold writeClkOscTol; grind [State.plainWrite_keeps, Effect.ok_keeps, Effect.kept_keeps, State.put_keeps, EKeeps, Effect.ok, Effect.kept, Effect.denied, Effect.retry]
theorem writeClkSsc_keeps {s0 : State} (x0) (x1 : State) (h : Keeps m s0 x1) : EKeeps m s0 (writeClkSsc x0 x1) := by unfold writeClkSsc; grind [State.plainWrite_keeps, State.put_keeps, Effect.denied_keeps, Effect.kept_keeps, Effect.ok_keeps, EKeeps, Effect.ok, Effect.kept, Effect.denied, Effect.retry]
theorem writeClkPwrctl_keeps {s0 : State} (x0) (x1 : State) (h : Keeps AllParts s0 x1) : EKeeps AllParts s0 (writeClkPwrctl x0 x1) := by
  unfold writeClkPwrctl
  try simp only []
  repeat' first | exact h | apply Effect.denied_keeps | apply State.plainWrite_keeps | apply State.put_keeps | apply State.enterDormant_keeps | apply Effect.ok_keeps | apply State.leaveNap_keeps | split
  all_goals grind [Effect.denied_keeps, State.plainWrite_keeps, State.put_keeps, State.enterDormant_keeps, Effect.ok_keeps, State.leaveNap_keeps, Keeps.upd, EKeeps, Effect.ok, Effect.kept, Effect.denied, Effect.retry]
theorem execAonRstNAssert_keeps {s0 : State} (x0 : State) (h : Keeps AllParts s0 x0) : ∀ r, execAonRstNAssert x0 = .next r → Keeps AllParts s0 r := by unfold execAonRstNAssert; grind [State.aonReset_keeps]
theorem execCluRstNAssert_keeps {s0 : State} (x0 : State) (h : Keeps m s0 x0) (_ : m .ecc := by first | assumption | exact True.intro) (_ : m .queues := by first | assumption | exact True.intro) (_ : m .time := by first | assumption | exact True.intro) (_ : m .events := by first | assumption | exact True.intro) (_ : m .answers := by first | assumption | exact True.intro) (_ : m .power := by first | assumption | exact True.intro) (_ : m .flows := by first | assumption | exact True.intro) (_ : m .framePorts := by first | assumption | exact True.intro) (_ : m .verniers := by first | assumption | exact True.intro) (_ : m .timers := by first | assumption | exact True.intro) (_ : m .clockDrive := by first | assumption | exact True.intro) (_ : m .banks := by first | assumption | exact True.intro) (_ : m .engines := by first | assumption | exact True.intro) (_ : m .security := by first | assumption | exact True.intro) (_ : m .occultation := by first | assumption | exact True.intro) (_ : m .chart := by first | assumption | exact True.intro) (_ : m .assistant := by first | assumption | exact True.intro) (_ : m .constellation := by first | assumption | exact True.intro) (_ : m .eyepiece := by first | assumption | exact True.intro) (_ : m .tick := by first | assumption | exact True.intro) : ∀ r, execCluRstNAssert x0 = .next r → Keeps m s0 r := by unfold execCluRstNAssert; grind [State.resetWith_keeps]
theorem execClurst_keeps {s0 : State} (x0) (x1) (x2 : State) (h : Keeps m s0 x2) (_ : m .plates := by first | assumption | exact True.intro) (_ : m .ecc := by first | assumption | exact True.intro) (_ : m .queues := by first | assumption | exact True.intro) (_ : m .time := by first | assumption | exact True.intro) (_ : m .events := by first | assumption | exact True.intro) (_ : m .answers := by first | assumption | exact True.intro) (_ : m .power := by first | assumption | exact True.intro) (_ : m .flows := by first | assumption | exact True.intro) (_ : m .framePorts := by first | assumption | exact True.intro) (_ : m .verniers := by first | assumption | exact True.intro) (_ : m .timers := by first | assumption | exact True.intro) (_ : m .clockDrive := by first | assumption | exact True.intro) (_ : m .banks := by first | assumption | exact True.intro) (_ : m .engines := by first | assumption | exact True.intro) (_ : m .security := by first | assumption | exact True.intro) (_ : m .occultation := by first | assumption | exact True.intro) (_ : m .chart := by first | assumption | exact True.intro) (_ : m .assistant := by first | assumption | exact True.intro) (_ : m .constellation := by first | assumption | exact True.intro) (_ : m .eyepiece := by first | assumption | exact True.intro) (_ : m .tick := by first | assumption | exact True.intro) : ∀ r, execClurst x0 x1 x2 = .next r → Keeps m s0 r := by unfold execClurst; grind [State.writeReg_keeps, writeCluCtl_keeps]
theorem execResetReleaseSequence_keeps {s0 : State} (x0) (x1) (x2) (x3 : State) (h : Keeps m s0 x3) (_ : m .time := by first | assumption | exact True.intro) (_ : m .events := by first | assumption | exact True.intro) (_ : m .answers := by first | assumption | exact True.intro) (_ : m .power := by first | assumption | exact True.intro) (_ : m .flows := by first | assumption | exact True.intro) (_ : m .clockDrive := by first | assumption | exact True.intro) (_ : m .security := by first | assumption | exact True.intro) : ∀ r, execResetReleaseSequence x0 x1 x2 x3 = .next r → Keeps m s0 r := by unfold execResetReleaseSequence; grind [State.releaseReset_keeps]
theorem execStabilityCheckComplete_keeps {s0 : State} (x0) (x1) (x2) (x3 : State) (h : Keeps m s0 x3) (_ : m .power := by first | assumption | exact True.intro) : ∀ r, execStabilityCheckComplete x0 x1 x2 x3 = .next r → Keeps m s0 r := by unfold execStabilityCheckComplete; grind [State.stabilityCheck_keeps]
theorem execPllLock_keeps {s0 : State} (x0 : State) (h : Keeps m s0 x0) (_ : m .ecc := by first | assumption | exact True.intro) (_ : m .queues := by first | assumption | exact True.intro) (_ : m .time := by first | assumption | exact True.intro) (_ : m .events := by first | assumption | exact True.intro) (_ : m .answers := by first | assumption | exact True.intro) (_ : m .power := by first | assumption | exact True.intro) (_ : m .flows := by first | assumption | exact True.intro) (_ : m .framePorts := by first | assumption | exact True.intro) (_ : m .verniers := by first | assumption | exact True.intro) (_ : m .timers := by first | assumption | exact True.intro) (_ : m .clockDrive := by first | assumption | exact True.intro) (_ : m .banks := by first | assumption | exact True.intro) (_ : m .engines := by first | assumption | exact True.intro) (_ : m .security := by first | assumption | exact True.intro) (_ : m .occultation := by first | assumption | exact True.intro) (_ : m .chart := by first | assumption | exact True.intro) (_ : m .assistant := by first | assumption | exact True.intro) (_ : m .constellation := by first | assumption | exact True.intro) (_ : m .eyepiece := by first | assumption | exact True.intro) (_ : m .tick := by first | assumption | exact True.intro) : ∀ r, execPllLock x0 = .next r → Keeps m s0 r := by unfold execPllLock; grind [State.put_keeps, State.pllsLock_keeps]
theorem execClockLoss_keeps {s0 : State} (x0) (x1) (x2 : State) (h : Keeps m s0 x2) (_ : m .time := by first | assumption | exact True.intro) (_ : m .events := by first | assumption | exact True.intro) (_ : m .power := by first | assumption | exact True.intro) (_ : m .flows := by first | assumption | exact True.intro) (_ : m .constellation := by first | assumption | exact True.intro) : ∀ r, execClockLoss x0 x1 x2 = .next r → Keeps m s0 r := by unfold execClockLoss; grind [State.loseClock_keeps]
theorem execLinkPllLockLoss_keeps {s0 : State} (x0 : State) (h : Keeps m s0 x0) (_ : m .queues := by first | assumption | exact True.intro) (_ : m .events := by first | assumption | exact True.intro) (_ : m .answers := by first | assumption | exact True.intro) (_ : m .flows := by first | assumption | exact True.intro) (_ : m .clockDrive := by first | assumption | exact True.intro) (_ : m .constellation := by first | assumption | exact True.intro) : ∀ r, execLinkPllLockLoss x0 = .next r → Keeps m s0 r := by unfold execLinkPllLockLoss; grind [State.linksLost_keeps, State.put_keeps]
theorem execAttachSequence_keeps {s0 : State} (x0) (x1 : State) (h : Keeps m s0 x1) (_ : m .events := by first | assumption | exact True.intro) (_ : m .power := by first | assumption | exact True.intro) (_ : m .flows := by first | assumption | exact True.intro) : ∀ r, execAttachSequence x0 x1 = .next r → Keeps m s0 r := by unfold execAttachSequence; grind [State.put_keeps, State.startAttach_keeps, State.powerUp_keeps]
theorem execDetachSequence_keeps {s0 : State} (x0 : State) (h : Keeps m s0 x0) (_ : m .power := by first | assumption | exact True.intro) (_ : m .timers := by first | assumption | exact True.intro) : ∀ r, execDetachSequence x0 = .next r → Keeps m s0 r := by unfold execDetachSequence; grind [State.put_keeps, State.startDetach_keeps]
theorem execDetachCommitWindowEnd_keeps {s0 : State} (x0 : State) (h : Keeps m s0 x0) (_ : m .plates := by first | assumption | exact True.intro) (_ : m .ecc := by first | assumption | exact True.intro) (_ : m .queues := by first | assumption | exact True.intro) (_ : m .time := by first | assumption | exact True.intro) (_ : m .events := by first | assumption | exact True.intro) (_ : m .answers := by first | assumption | exact True.intro) (_ : m .power := by first | assumption | exact True.intro) (_ : m .flows := by first | assumption | exact True.intro) (_ : m .timers := by first | assumption | exact True.intro) (_ : m .engines := by first | assumption | exact True.intro) : ∀ r, execDetachCommitWindowEnd x0 = .next r → Keeps m s0 r := by unfold execDetachCommitWindowEnd; grind [State.stopEngines_keeps, State.tombstoneAll_keeps, Keeps.upd]
theorem execDetachDrainEnd_keeps {s0 : State} (x0 : State) (h : Keeps AllParts s0 x0) : ∀ r, execDetachDrainEnd x0 = .next r → Keeps AllParts s0 r := by unfold execDetachDrainEnd; grind [State.finishDetach_keeps]
theorem execPwrAckLoss_keeps {s0 : State} (x0 : State) (h : Keeps AllParts s0 x0) : ∀ r, execPwrAckLoss x0 = .next r → Keeps AllParts s0 r := by unfold execPwrAckLoss; grind [State.enterDetached_keeps]
theorem execAttachReqFallInDormant_keeps {s0 : State} (x0 : State) (h : Keeps AllParts s0 x0) : ∀ r, execAttachReqFallInDormant x0 = .next r → Keeps AllParts s0 r := by unfold execAttachReqFallInDormant; grind [State.put_keeps, State.enterDetached_keeps, State.startDetach_keeps]
theorem execNapRequest_keeps {s0 : State} (x0) (x1) (x2 : State) (h : Keeps AllParts s0 x2) : ∀ r, execNapRequest x0 x1 x2 = .next r → Keeps AllParts s0 r := by unfold execNapRequest; grind [State.writeReg_keeps, writeClkPwrctl_keeps]
theorem execNapEntry_keeps {s0 : State} (x0 : State) (h : Keeps m s0 x0) (_ : m .power := by first | assumption | exact True.intro) (_ : m .timers := by first | assumption | exact True.intro) : ∀ r, execNapEntry x0 = .next r → Keeps m s0 r := by unfold execNapEntry; grind [State.holdWatchdogs_keeps, State.put_keeps, Keeps.upd]
theorem execNapExit_keeps {s0 : State} (x0) (x1 : State) (h : Keeps AllParts s0 x1) : ∀ r, execNapExit x0 x1 = .next r → Keeps AllParts s0 r := by unfold execNapExit; grind [State.writeReg_keeps, writeClkPwrctl_keeps, State.leaveNap_keeps]
theorem execDormant_keeps {s0 : State} (x0) (x1) (x2 : State) (h : Keeps AllParts s0 x2) : ∀ r, execDormant x0 x1 x2 = .next r → Keeps AllParts s0 r := by unfold execDormant; grind [State.writeReg_keeps, writeClkPwrctl_keeps]
theorem execDormantWake_keeps {s0 : State} (x0) (x1) (x2 : State) (h : Keeps m s0 x2) (_ : m .time := by first | assumption | exact True.intro) (_ : m .power := by first | assumption | exact True.intro) : ∀ r, execDormantWake x0 x1 x2 = .next r → Keeps m s0 r := by unfold execDormantWake; grind [State.wake_keeps, Keeps.upd]
theorem execWake_keeps {s0 : State} (x0) (x1) (x2 : State) (h : Keeps m s0 x2) (_ : m .answers := by first | assumption | exact True.intro) (_ : m .power := by first | assumption | exact True.intro) : ∀ r, execWake x0 x1 x2 = .next r → Keeps m s0 r := by unfold execWake; grind [State.writeReg_keeps, writeCluAttach_keeps]
theorem execWakeLatchReplay_keeps {s0 : State} (x0 : State) (h : Keeps m s0 x0) (_ : m .events := by first | assumption | exact True.intro) (_ : m .flows := by first | assumption | exact True.intro) : ∀ r, execWakeLatchReplay x0 = .next r → Keeps m s0 r := by unfold execWakeLatchReplay; grind [State.replayLatches_keeps]
theorem execClkSscWrite_keeps {s0 : State} (x0) (x1) (x2 : State) (h : Keeps m s0 x2) (_ : m .answers := by first | assumption | exact True.intro) : ∀ r, execClkSscWrite x0 x1 x2 = .next r → Keeps m s0 r := by unfold execClkSscWrite; grind [State.writeReg_keeps, writeClkSsc_keeps]
theorem State.fillSlot_keeps {s0 : State} (x0 : State) (x1) (x2) (x3) (h : Keeps m s0 x0) (_ : m .security := by first | assumption | exact True.intro) : Keeps m s0 (State.fillSlot x0 x1 x2 x3) := by unfold State.fillSlot; grind [State.setReg_keeps, Keeps.upd]
theorem State.emptySlot_keeps {s0 : State} (x0 : State) (x1) (h : Keeps m s0 x0) (_ : m .security := by first | assumption | exact True.intro) : Keeps m s0 (State.emptySlot x0 x1) := by unfold State.emptySlot; grind [State.emptySlots_keeps]
theorem State.wipe_keeps {s0 : State} (x0 : State) (h : Keeps m s0 x0) (_ : m .plates := by first | assumption | exact True.intro) (_ : m .ecc := by first | assumption | exact True.intro) : Keeps m s0 (State.wipe x0) := by unfold State.wipe; grind [State.wipePlates_keeps]
theorem State.tamperRecord_keeps {s0 : State} (x0 : State) (x1) (x2) (h : Keeps m s0 x0) (_ : m .events := by first | assumption | exact True.intro) (_ : m .answers := by first | assumption | exact True.intro) (_ : m .flows := by first | assumption | exact True.intro) (_ : m .security := by first | assumption | exact True.intro) : Keeps m s0 (State.tamperRecord x0 x1 x2) := by unfold State.tamperRecord; grind [State.tamperRecords_keeps, Keeps.upd]
theorem State.tamperKill_keeps {s0 : State} (x0 : State) (x1) (h : Keeps m s0 x0) (_ : m .plates := by first | assumption | exact True.intro) (_ : m .ecc := by first | assumption | exact True.intro) (_ : m .queues := by first | assumption | exact True.intro) (_ : m .time := by first | assumption | exact True.intro) (_ : m .events := by first | assumption | exact True.intro) (_ : m .answers := by first | assumption | exact True.intro) (_ : m .power := by first | assumption | exact True.intro) (_ : m .flows := by first | assumption | exact True.intro) (_ : m .framePorts := by first | assumption | exact True.intro) (_ : m .verniers := by first | assumption | exact True.intro) (_ : m .timers := by first | assumption | exact True.intro) (_ : m .clockDrive := by first | assumption | exact True.intro) (_ : m .banks := by first | assumption | exact True.intro) (_ : m .engines := by first | assumption | exact True.intro) (_ : m .security := by first | assumption | exact True.intro) (_ : m .occultation := by first | assumption | exact True.intro) (_ : m .chart := by first | assumption | exact True.intro) (_ : m .assistant := by first | assumption | exact True.intro) (_ : m .constellation := by first | assumption | exact True.intro) (_ : m .eyepiece := by first | assumption | exact True.intro) (_ : m .tick := by first | assumption | exact True.intro) : Keeps m s0 (State.tamperKill x0 x1) := by unfold State.tamperKill; grind [State.emptySlots_keeps, State.put_keeps, State.fresh_keeps, State.resetWith_keeps, State.wipe_keeps, State.placeAll_keeps, State.tamperRecord_keeps, Keeps.upd]
theorem State.tamperDetect_keeps {s0 : State} (x0 : State) (x1) (h : Keeps m s0 x0) (_ : m .plates := by first | assumption | exact True.intro) (_ : m .ecc := by first | assumption | exact True.intro) (_ : m .queues := by first | assumption | exact True.intro) (_ : m .time := by first | assumption | exact True.intro) (_ : m .events := by first | assumption | exact True.intro) (_ : m .answers := by first | assumption | exact True.intro) (_ : m .power := by first | assumption | exact True.intro) (_ : m .flows := by first | assumption | exact True.intro) (_ : m .framePorts := by first | assumption | exact True.intro) (_ : m .verniers := by first | assumption | exact True.intro) (_ : m .timers := by first | assumption | exact True.intro) (_ : m .clockDrive := by first | assumption | exact True.intro) (_ : m .banks := by first | assumption | exact True.intro) (_ : m .engines := by first | assumption | exact True.intro) (_ : m .security := by first | assumption | exact True.intro) (_ : m .occultation := by first | assumption | exact True.intro) (_ : m .chart := by first | assumption | exact True.intro) (_ : m .assistant := by first | assumption | exact True.intro) (_ : m .constellation := by first | assumption | exact True.intro) (_ : m .eyepiece := by first | assumption | exact True.intro) (_ : m .tick := by first | assumption | exact True.intro) : Keeps m s0 (State.tamperDetect x0 x1) := by
  have hs (t : State) (x : Security) (ht : Keeps m s0 t) : Keeps m s0 { t with security := x } := Keeps.of _ _ _ ht rfl rfl rfl rfl
  unfold State.tamperDetect
  extract_lets new mask act t1 _ t2
  have h1 : Keeps m s0 t1 := State.orBits_keeps _ _ _ h
  have h2 : Keeps m s0 t2 := by
    show Keeps m s0 (if _ then _ else _)
    split
    · exact hs _ _ h1
    · exact h1
  clear_value t2 mask act
  split
  · exact h2
  · exact State.tamperRecord_keeps _ _ _ h2
  · exact State.tamperRecord_keeps _ _ _ h2
  · have h3 := State.closeSession_keeps _ 4 (originCode .tamper) (State.tamperRecord_keeps _ mask 3 (State.emptySlots_keeps _ (List.range 64) h2))
    exact ite_keeps (State.wipePlates_keeps _ _ _ h3) h3
  · exact State.tamperKill_keeps _ _ (State.closeSession_keeps _ _ _ h2)
theorem writeTamperPol_keeps {s0 : State} (x0) (x1 : State) (h : Keeps m s0 x1) : EKeeps m s0 (writeTamperPol x0 x1) := by
  unfold writeTamperPol
  try simp only []
  repeat' first | assumption | exact True.intro | with_reducible exact h | with_reducible apply Effect.denied_keeps | with_reducible apply State.setReg_keeps | split
  all_goals grind [Effect.denied_keeps, State.setReg_keeps, Keeps.upd, EKeeps, Effect.ok, Effect.kept, Effect.denied, Effect.retry]
theorem writeSecMesh_keeps {s0 : State} (x0) (x1 : State) (h : Keeps m s0 x1) : EKeeps m s0 (writeSecMesh x0 x1) := by unfold writeSecMesh; grind [State.plainWrite_keeps, Effect.ok_keeps, State.put_keeps, EKeeps, Effect.ok, Effect.kept, Effect.denied, Effect.retry]
theorem writeAuthq_keeps {s0 : State} (x0) (x1) (x2) (x3 : State) (h : Keeps m s0 x3) (_ : m .events := by first | assumption | exact True.intro) (_ : m .answers := by first | assumption | exact True.intro) (_ : m .flows := by first | assumption | exact True.intro) (_ : m .security := by first | assumption | exact True.intro) : EKeeps m s0 (writeAuthq x0 x1 x2 x3) := by
  have hp := State.plainWrite_keeps x3 (SEC_AUTHQ x0) x2 h
  unfold writeAuthq
  refine EKeeps.ite (Effect.denied_keeps _ _ h) (EKeeps.ite (Effect.ok_keeps _ hp) (EKeeps.ite (Effect.conflict_keeps _ (Effect.kept_keeps _ h))
    ⟨?_, fun u hu => ?_⟩))
  · exact Keeps.of _ _ _ hp rfl rfl rfl rfl
  · exact State.logChange_keeps _ _ _ _ _ _ _ _ (State.fresh_keeps _ _ hu)
theorem State.authRun_keeps {s0 : State} (x0 : State) (x1) (x2) (h : Keeps m s0 x0) (_ : m .plates := by first | assumption | exact True.intro) (_ : m .ecc := by first | assumption | exact True.intro) : Keeps m s0 (State.authRun x0 x1 x2).2 := by unfold State.authRun; grind [State.put_keeps, State.plateRead_keeps, State.fresh_keeps, State.plateWrite_keeps]
theorem State.authTake_keeps {s0 : State} (x0 : State) (x1) (h : Keeps m s0 x0) (_ : m .plates := by first | assumption | exact True.intro) (_ : m .ecc := by first | assumption | exact True.intro) (_ : m .queues := by first | assumption | exact True.intro) (_ : m .events := by first | assumption | exact True.intro) (_ : m .flows := by first | assumption | exact True.intro) (_ : m .security := by first | assumption | exact True.intro) : Keeps m s0 (State.authTake x0 x1) := by
  unfold State.authTake
  try simp only []
  repeat' first | assumption | exact True.intro | with_reducible exact h | with_reducible apply State.dequeue_keeps | with_reducible apply State.authRun_keeps | with_reducible apply State.readHead_keeps | split
  all_goals grind [State.dequeue_keeps, State.authRun_keeps, State.readHead_keeps, Keeps.upd]
theorem State.authDone_keeps {s0 : State} (x0 : State) (x1) (h : Keeps m s0 x0) (_ : m .queues := by first | assumption | exact True.intro) (_ : m .events := by first | assumption | exact True.intro) (_ : m .flows := by first | assumption | exact True.intro) (_ : m .security := by first | assumption | exact True.intro) : Keeps m s0 (State.authDone x0 x1) := by unfold State.authDone; grind [State.finishDescriptor_keeps, State.hwEnqueue_keeps, State.count_keeps, Keeps.upd]
theorem execTamperDetection_keeps {s0 : State} (x0) (x1 : State) (h : Keeps m s0 x1) (_ : m .plates := by first | assumption | exact True.intro) (_ : m .ecc := by first | assumption | exact True.intro) (_ : m .queues := by first | assumption | exact True.intro) (_ : m .time := by first | assumption | exact True.intro) (_ : m .events := by first | assumption | exact True.intro) (_ : m .answers := by first | assumption | exact True.intro) (_ : m .power := by first | assumption | exact True.intro) (_ : m .flows := by first | assumption | exact True.intro) (_ : m .framePorts := by first | assumption | exact True.intro) (_ : m .verniers := by first | assumption | exact True.intro) (_ : m .timers := by first | assumption | exact True.intro) (_ : m .clockDrive := by first | assumption | exact True.intro) (_ : m .banks := by first | assumption | exact True.intro) (_ : m .engines := by first | assumption | exact True.intro) (_ : m .security := by first | assumption | exact True.intro) (_ : m .occultation := by first | assumption | exact True.intro) (_ : m .chart := by first | assumption | exact True.intro) (_ : m .assistant := by first | assumption | exact True.intro) (_ : m .constellation := by first | assumption | exact True.intro) (_ : m .eyepiece := by first | assumption | exact True.intro) (_ : m .tick := by first | assumption | exact True.intro) : ∀ r, execTamperDetection x0 x1 = .next r → Keeps m s0 r := by unfold execTamperDetection; grind [State.tamperDetect_keeps]
theorem execTamperPolWrite_keeps {s0 : State} (x0) (x1) (x2 : State) (h : Keeps m s0 x2) (_ : m .answers := by first | assumption | exact True.intro) : ∀ r, execTamperPolWrite x0 x1 x2 = .next r → Keeps m s0 r := by unfold execTamperPolWrite; grind [State.writeReg_keeps, writeTamperPol_keeps]
theorem execAuthBindingWrite_keeps {s0 : State} (x0) (x1) (x2) (x3 : State) (h : Keeps m s0 x3) (_ : m .events := by first | assumption | exact True.intro) (_ : m .answers := by first | assumption | exact True.intro) (_ : m .flows := by first | assumption | exact True.intro) (_ : m .security := by first | assumption | exact True.intro) : ∀ r, execAuthBindingWrite x0 x1 x2 x3 = .next r → Keeps m s0 r := by unfold execAuthBindingWrite; grind [State.writeAs_keeps, writeAuthq_keeps]
theorem execAuthRequest_keeps {s0 : State} (x0) (x1 : State) (h : Keeps m s0 x1) (_ : m .plates := by first | assumption | exact True.intro) (_ : m .ecc := by first | assumption | exact True.intro) (_ : m .queues := by first | assumption | exact True.intro) (_ : m .events := by first | assumption | exact True.intro) (_ : m .flows := by first | assumption | exact True.intro) (_ : m .security := by first | assumption | exact True.intro) : ∀ r, execAuthRequest x0 x1 = .next r → Keeps m s0 r := by unfold execAuthRequest; grind [State.authTake_keeps]
theorem execAuthResult_keeps {s0 : State} (x0 : State) (h : Keeps m s0 x0) (_ : m .queues := by first | assumption | exact True.intro) (_ : m .events := by first | assumption | exact True.intro) (_ : m .flows := by first | assumption | exact True.intro) (_ : m .security := by first | assumption | exact True.intro) : ∀ r, execAuthResult x0 = .next r → Keeps m s0 r := by unfold execAuthResult; grind [State.authDone_keeps]
theorem State.runJob_keeps {s0 : State} (x0 : State) (x1) (h : Keeps m s0 x0) (_ : m .plates := by first | assumption | exact True.intro) (_ : m .ecc := by first | assumption | exact True.intro) (_ : m .queues := by first | assumption | exact True.intro) (_ : m .events := by first | assumption | exact True.intro) (_ : m .flows := by first | assumption | exact True.intro) (_ : m .constellation := by first | assumption | exact True.intro) : Keeps m s0 (State.runJob x0 x1) := by unfold State.runJob; grind [State.queueEnqueue_keeps, State.continueItem_keeps, State.placeArrival_keeps, State.placeCopy_keeps, State.openItem_keeps]
theorem State.runJobs_keeps {s0 : State} (x0 : State) (x1) (x2) (h : Keeps m s0 x0) (_ : m .plates := by first | assumption | exact True.intro) (_ : m .ecc := by first | assumption | exact True.intro) (_ : m .queues := by first | assumption | exact True.intro) (_ : m .events := by first | assumption | exact True.intro) (_ : m .flows := by first | assumption | exact True.intro) (_ : m .constellation := by first | assumption | exact True.intro) : Keeps m s0 (State.runJobs x0 x1 x2) := by revert h; fun_induction State.runJobs x0 x1 x2 <;> grind [State.runJob_keeps, Keeps.upd]
theorem execDescriptorVisible_keeps {s0 : State} (x0) (x1 : State) (h : Keeps m s0 x1) (_ : m .plates := by first | assumption | exact True.intro) (_ : m .ecc := by first | assumption | exact True.intro) (_ : m .queues := by first | assumption | exact True.intro) (_ : m .events := by first | assumption | exact True.intro) (_ : m .flows := by first | assumption | exact True.intro) (_ : m .constellation := by first | assumption | exact True.intro) : ∀ r, execDescriptorVisible x0 x1 = .next r → Keeps m s0 r := by unfold execDescriptorVisible; grind [State.makeVisible_keeps, State.runJobs_keeps]

end Sys2Proof.Machine
end

