-- ==== Sys2Proof/Laws/KeepsEngine.lean ====
section
/-! SUPPORT. What every command keeps: the lemmas of the engines, the Eyepiece and the Assistant. -/

namespace Sys2Proof.Machine

set_option Elab.async false
variable {m : Part → Prop}

theorem OpOut.flag_keeps {s0 : State} (x0 : OpOut) (x1) (x2) (h : Keeps m s0 x0.state) : Keeps m s0 (x0.flag x1 x2).state := h
theorem State.passBulk_keeps {s0 : State} (x0 : State) (x1) (x2) (x3) (h : Keeps m s0 x0) (_ : m .queues := by first | assumption | exact True.intro) : Keeps m s0 (State.passBulk x0 x1 x2 x3) := by unfold State.passBulk; grind [Keeps.upd]
theorem State.readUnderBulk_keeps {s0 : State} (x0 : State) (x1) (x2) (x3) (h : Keeps m s0 x0) (_ : m .plates := by first | assumption | exact True.intro) (_ : m .queues := by first | assumption | exact True.intro) : Keeps m s0 (State.readUnderBulk x0 x1 x2 x3).2 := by unfold State.readUnderBulk; grind [State.fresh_keeps, State.passBulk_keeps, State.setBytes_keeps]
theorem State.readPieces_keeps {s0 : State} (x0 : State) (x1) (x2) (h : Keeps m s0 x0) (_ : m .plates := by first | assumption | exact True.intro) (_ : m .queues := by first | assumption | exact True.intro) : Keeps m s0 (State.readPieces x0 x1 x2).2 := by revert h; fun_induction State.readPieces x0 x1 x2 <;> grind [State.readUnderBulk_keeps]
theorem State.engRead_keeps {s0 : State} (x0 : State) (x1) (x2) (x3) (h : Keeps m s0 x0) (_ : m .plates := by first | assumption | exact True.intro) (_ : m .queues := by first | assumption | exact True.intro) (_ : m .answers := by first | assumption | exact True.intro) (_ : m .engines := by first | assumption | exact True.intro) : Keeps m s0 (State.engRead x0 x1 x2 x3).2 := by unfold State.engRead; grind [State.readPieces_keeps, State.sawRead_keeps, State.plateRead_keeps]
theorem State.writeUnderBulk_keeps {s0 : State} (x0 : State) (x1) (x2) (x3) (h : Keeps m s0 x0) (_ : m .queues := by first | assumption | exact True.intro) : Keeps m s0 (State.writeUnderBulk x0 x1 x2 x3) := by unfold State.writeUnderBulk; grind [State.fresh_keeps, State.passBulk_keeps, Keeps.upd]
theorem State.writesUnderBulk_keeps {s0 : State} (x0 : State) (x1) (x2) (h : Keeps m s0 x0) (_ : m .queues := by first | assumption | exact True.intro) : Keeps m s0 (State.writesUnderBulk x0 x1 x2) := by revert h; fun_induction State.writesUnderBulk x0 x1 x2 <;> grind [State.writeUnderBulk_keeps]
theorem State.engWrite_keeps {s0 : State} (x0 : State) (x1) (x2) (x3) (x4) (h : Keeps m s0 x0) (_ : m .plates := by first | assumption | exact True.intro) (_ : m .ecc := by first | assumption | exact True.intro) (_ : m .queues := by first | assumption | exact True.intro) (_ : m .answers := by first | assumption | exact True.intro) (_ : m .engines := by first | assumption | exact True.intro) : Keeps m s0 (State.engWrite x0 x1 x2 x3 x4).2 := by unfold State.engWrite; grind [State.sawWrite_keeps, State.plateWrite_keeps, State.writesUnderBulk_keeps]
theorem State.noteViolation_keeps {s0 : State} (x0 : State) (x1) (x2) (x3) (x4) (h : Keeps m s0 x0) : Keeps m s0 (State.noteViolation x0 x1 x2 x3 x4) := by unfold State.noteViolation; grind [State.setReg_keeps]
theorem State.loadOut_keeps {s0 : State} (x0 : State) (x1) (h : Keeps m s0 x0) (_ : m .plates := by first | assumption | exact True.intro) (_ : m .queues := by first | assumption | exact True.intro) (_ : m .answers := by first | assumption | exact True.intro) (_ : m .engines := by first | assumption | exact True.intro) : Keeps m s0 (State.loadOut x0 x1).state := by unfold State.loadOut; grind [State.engRead_keeps]
theorem State.storeOut_keeps {s0 : State} (x0 : State) (x1) (h : Keeps m s0 x0) (_ : m .plates := by first | assumption | exact True.intro) (_ : m .ecc := by first | assumption | exact True.intro) (_ : m .queues := by first | assumption | exact True.intro) (_ : m .answers := by first | assumption | exact True.intro) (_ : m .engines := by first | assumption | exact True.intro) : Keeps m s0 (State.storeOut x0 x1).state := by unfold State.storeOut; grind [State.engWrite_keeps]
theorem State.atomicOut_keeps {s0 : State} (x0 : State) (x1) (h : Keeps m s0 x0) (_ : m .plates := by first | assumption | exact True.intro) (_ : m .ecc := by first | assumption | exact True.intro) (_ : m .queues := by first | assumption | exact True.intro) (_ : m .answers := by first | assumption | exact True.intro) (_ : m .engines := by first | assumption | exact True.intro) : Keeps m s0 (State.atomicOut x0 x1).state := by unfold State.atomicOut; grind [State.engRead_keeps, State.engWrite_keeps]
theorem State.bulkOut_keeps {s0 : State} (x0 : State) (x1) (h : Keeps m s0 x0) (_ : m .queues := by first | assumption | exact True.intro) (_ : m .engines := by first | assumption | exact True.intro) : Keeps m s0 (State.bulkOut x0 x1).state := by unfold State.bulkOut; grind [OpOut.flag_keeps, State.putBulk_keeps, State.fetchBulk_keeps]
theorem State.revoke_keeps {s0 : State} (x0 : State) (x1) (x2) (x3) (x4) (h : Keeps m s0 x0) (_ : m .plates := by first | assumption | exact True.intro) (_ : m .ecc := by first | assumption | exact True.intro) (_ : m .answers := by first | assumption | exact True.intro) (_ : m .tick := by first | assumption | exact True.intro) : Keeps m s0 (State.revoke x0 x1 x2 x3 x4) := by unfold State.revoke; grind [State.bump_keeps, State.logChange_keeps]
theorem State.memOut_keeps {s0 : State} (x0 : State) (x1) (h : Keeps m s0 x0) (_ : m .plates := by first | assumption | exact True.intro) (_ : m .ecc := by first | assumption | exact True.intro) (_ : m .queues := by first | assumption | exact True.intro) (_ : m .answers := by first | assumption | exact True.intro) (_ : m .engines := by first | assumption | exact True.intro) (_ : m .tick := by first | assumption | exact True.intro) : Keeps m s0 (State.memOut x0 x1).state := by unfold State.memOut; grind [State.bulkOut_keeps, State.setCap_keeps, State.revoke_keeps, State.loadOut_keeps, State.storeOut_keeps, State.atomicOut_keeps]
theorem State.setRx_keeps {s0 : State} (x0 : State) (x1) (x2) (x3) (h : Keeps m s0 x0) (_ : m .banks := by first | assumption | exact True.intro) : Keeps m s0 (State.setRx x0 x1 x2 x3) := by unfold State.setRx; grind [State.setBank_keeps]
theorem State.takeDesc_keeps {s0 : State} (x0 : State) (x1 : State) (x2) (h : Keeps m s0 x0) (_ : m .ecc := by first | assumption | exact True.intro) : Keeps m s0 (State.takeDesc x0 x1 x2).2 := by
  have hk (t : State) (k) (ht : Keeps m s0 t) : Keeps m s0 { t with ecc := k } := Keeps.of _ _ _ ht rfl rfl rfl rfl
  exact hk _ _ (State.readWords_keeps _ _ _ (hk _ _ h))
theorem State.qopOut_keeps {s0 : State} (x0 : State) (x1) (x2) (h : Keeps m s0 x0) (_ : m .ecc := by first | assumption | exact True.intro) (_ : m .queues := by first | assumption | exact True.intro) (_ : m .events := by first | assumption | exact True.intro) (_ : m .flows := by first | assumption | exact True.intro) (_ : m .banks := by first | assumption | exact True.intro) (_ : m .tick := by first | assumption | exact True.intro) : Keeps m s0 (State.qopOut x0 x1 x2).state := by unfold State.qopOut; grind [State.stopQueue_keeps, State.setRx_keeps, State.dequeue_keeps, State.take8_keeps, State.takeDesc_keeps, State.put8_keeps, OpOut.flag_keeps, State.commit_keeps, State.tryEnqueue_keeps]
theorem State.cclkStamp_keeps {s0 : State} (x0 : State) (h : Keeps m s0 x0) : Keeps m s0 (State.cclkStamp x0).2 := by unfold State.cclkStamp; grind [State.fresh_keeps]
theorem State.timerRead_keeps {s0 : State} (x0 : State) (x1) (x2) (x3) (x4) (h : Keeps m s0 x0) : Keeps m s0 (State.timerRead x0 x1 x2 x3 x4).2.2 := by unfold State.timerRead; grind [State.fresh_keeps, State.captureRead_keeps]
theorem State.timerWrite_keeps {s0 : State} (x0 : State) (x1) (x2) (x3) (x4) (x5) (h : Keeps m s0 x0) (_ : m .time := by first | assumption | exact True.intro) (_ : m .events := by first | assumption | exact True.intro) (_ : m .flows := by first | assumption | exact True.intro) (_ : m .timers := by first | assumption | exact True.intro) : Keeps m s0 (State.timerWrite x0 x1 x2 x3 x4 x5).2 := by unfold State.timerWrite; grind [State.setReg_keeps, State.watchdogKick_keeps, State.timerCtlWrite_keeps, State.put_keeps]
theorem State.enginePalmArm_keeps {s0 : State} (x0 : State) (x1) (x2) (x3) (x4) (x5) (h : Keeps m s0 x0) (_ : m .events := by first | assumption | exact True.intro) (_ : m .flows := by first | assumption | exact True.intro) (_ : m .clockDrive := by first | assumption | exact True.intro) : Keeps m s0 (State.enginePalmArm x0 x1 x2 x3 x4 x5).2 := by unfold State.enginePalmArm; grind [State.put_keeps, State.setReg_keeps, State.palmArm_keeps]
theorem State.discStep_keeps {s0 : State} (x0 : State) (x1) (x2) (h : Keeps m s0 x0) (_ : m .time := by first | assumption | exact True.intro) (_ : m .answers := by first | assumption | exact True.intro) (_ : m .clockDrive := by first | assumption | exact True.intro) : Keeps m s0 (State.discStep x0 x1 x2).2 := by
  unfold State.discStep
  try simp only []
  repeat' first | assumption | exact True.intro | with_reducible exact h | with_reducible apply State.logWrite_keeps | with_reducible apply State.takeDiscipline_keeps | with_reducible apply State.commitStep_keeps | split
  all_goals grind [State.logWrite_keeps, State.takeDiscipline_keeps, State.commitStep_keeps]
theorem topOut_keeps {s0 : State} (x0 : State) (x1) (x2) (h : Keeps m s0 x0) : Keeps m s0 (topOut x0 x1 x2).state := by unfold topOut; grind
theorem State.timeOut_keeps {s0 : State} (x0 : State) (x1) (h : Keeps m s0 x0) (_ : m .time := by first | assumption | exact True.intro) (_ : m .events := by first | assumption | exact True.intro) (_ : m .answers := by first | assumption | exact True.intro) (_ : m .flows := by first | assumption | exact True.intro) (_ : m .verniers := by first | assumption | exact True.intro) (_ : m .timers := by first | assumption | exact True.intro) (_ : m .clockDrive := by first | assumption | exact True.intro) : Keeps m s0 (State.timeOut x0 x1).state := by unfold State.timeOut; grind [State.phaseSnapshot_keeps, State.engineAlarmArm_keeps, State.setReg_keeps, State.dropLatches_keeps, State.logWrite_keeps, topOut_keeps, State.alarmDisarm_keeps, State.timerRead_keeps, State.discStep_keeps, State.timerLatch_keeps, State.alarmSettle_keeps, State.put_keeps, State.writeQuality_keeps, State.enginePalmArm_keeps, State.timerWrite_keeps, State.engineAlarmSet_keeps, State.phaseFeed_keeps, State.cclkStamp_keeps, State.plateRead_keeps, State.writeRate_keeps, State.timerPutLatch_keeps, State.timerParm_keeps]
theorem State.claimFor_keeps {s0 : State} (x0 : State) (x1) (x2) (h : Keeps m s0 x0) (_ : m .events := by first | assumption | exact True.intro) (_ : m .banks := by first | assumption | exact True.intro) (_ : m .tick := by first | assumption | exact True.intro) : Keeps m s0 (State.claimFor x0 x1 x2).2 := by unfold State.claimFor; grind [State.setBank_keeps, State.claim_keeps, Keeps.upd]
theorem State.evtOut_keeps {s0 : State} (x0 : State) (x1) (h : Keeps m s0 x0) (_ : m .events := by first | assumption | exact True.intro) (_ : m .banks := by first | assumption | exact True.intro) (_ : m .tick := by first | assumption | exact True.intro) : Keeps m s0 (State.evtOut x0 x1).state := by unfold State.evtOut; grind [State.claimFor_keeps, State.put_keeps, State.setVector_keeps, OpOut.flag_keeps, State.clearVector_keeps]
theorem State.pinOut5_keeps {s0 : State} (x0 : State) (x1) (h : Keeps m s0 x0) (_ : m .events := by first | assumption | exact True.intro) (_ : m .flows := by first | assumption | exact True.intro) (_ : m .verniers := by first | assumption | exact True.intro) : Keeps m s0 (State.pinOut5 x0 x1).state := by unfold State.pinOut5; grind [State.vernierPush_keeps, OpOut.flag_keeps, State.vernierPull_keeps, State.vernierFlags_keeps, State.vernierRestart_keeps, State.vernierStop_keeps, State.pinWrite_keeps]
theorem State.engineBulkDone_keeps {s0 : State} (x0 : State) (x1) (x2) (x3) (x4) (x5) (h : Keeps m s0 x0) (_ : m .plates := by first | assumption | exact True.intro) (_ : m .ecc := by first | assumption | exact True.intro) (_ : m .queues := by first | assumption | exact True.intro) (_ : m .answers := by first | assumption | exact True.intro) (_ : m .engines := by first | assumption | exact True.intro) : Keeps m s0 (State.engineBulkDone x0 x1 x2 x3 x4 x5) := by unfold State.engineBulkDone; grind [State.bulkReadIn_keeps, State.sawRead_keeps, State.putBulk_keeps, State.tagDone_keeps, Keeps.upd]
theorem State.bulkResponse_keeps {s0 : State} (x0 : State) (x1) (x2) (x3) (h : Keeps m s0 x0) (_ : m .plates := by first | assumption | exact True.intro) (_ : m .ecc := by first | assumption | exact True.intro) (_ : m .queues := by first | assumption | exact True.intro) (_ : m .events := by first | assumption | exact True.intro) (_ : m .answers := by first | assumption | exact True.intro) (_ : m .flows := by first | assumption | exact True.intro) (_ : m .engines := by first | assumption | exact True.intro) : Keeps m s0 (State.bulkResponse x0 x1 x2 x3) := by unfold State.bulkResponse; grind [State.issueWaiting_keeps, State.engineBulkDone_keeps, State.transferDone_keeps, Keeps.upd]
theorem State.lensFree_keeps {s0 : State} (x0 : State) (x1) (h : Keeps m s0 x0) : Keeps m s0 (State.lensFree x0 x1).2 := by unfold State.lensFree; grind [State.fresh_keeps]
theorem State.lensOut_keeps {s0 : State} (x0 : State) (x1 : State) (x2) (x3) (h : Keeps m s0 x0) : Keeps m s0 (State.lensOut x0 x1 x2 x3).2 := by unfold State.lensOut; grind [State.lensFree_keeps]
theorem State.lensFlags_keeps {s0 : State} (x0 : State) (x1) (x2) (x3) (x4) (h : Keeps m s0 x0) (_ : m .engines := by first | assumption | exact True.intro) : Keeps m s0 (State.lensFlags x0 x1 x2 x3 x4) := by unfold State.lensFlags; grind [State.orBits_keeps, State.setEng_keeps]
theorem State.lensFinish_keeps {s0 : State} (x0 : State) (x1) (x2) (h : Keeps m s0 x0) (_ : m .lens := by first | assumption | exact True.intro) (_ : m .engines := by first | assumption | exact True.intro) : Keeps m s0 (State.lensFinish x0 x1 x2) := by unfold State.lensFinish; grind [State.lensFlags_keeps, State.setLensRegs_keeps]
theorem State.lensIssue_keeps {s0 : State} (x0 : State) (x1) (x2) (x3) (x4) (x5) (h : Keeps m s0 x0) (_ : m .lens := by first | assumption | exact True.intro) (_ : m .engines := by first | assumption | exact True.intro) : Keeps m s0 (State.lensIssue x0 x1 x2 x3 x4 x5) := by unfold State.lensIssue; grind [State.lensFinish_keeps, State.setEng_keeps]
theorem State.cordicIterate_keeps {s0 : State} (x0 : State) (x1) (x2) (x3) (h : Keeps m s0 x0) (_ : m .lens := by first | assumption | exact True.intro) (_ : m .engines := by first | assumption | exact True.intro) : Keeps m s0 (State.cordicIterate x0 x1 x2 x3) := by unfold State.cordicIterate; grind [State.setEng_keeps, State.setLensReg_keeps]
theorem State.cordicEnd_keeps {s0 : State} (x0 : State) (x1) (x2) (x3) (x4) (h : Keeps m s0 x0) (_ : m .lens := by first | assumption | exact True.intro) (_ : m .engines := by first | assumption | exact True.intro) : Keeps m s0 (State.cordicEnd x0 x1 x2 x3 x4) := by unfold State.cordicEnd; grind [State.lensFlags_keeps, State.setLensReg_keeps]
theorem execLensComplete_keeps {s0 : State} (x0) (x1 : State) (h : Keeps m s0 x1) (_ : m .lens := by first | assumption | exact True.intro) (_ : m .engines := by first | assumption | exact True.intro) : ∀ r, execLensComplete x0 x1 = .next r → Keeps m s0 r := by unfold execLensComplete; grind [State.lensFinish_keeps, State.setEng_keeps]
theorem State.saveWrites_keeps {s0 : State} (x0 : State) (x1) (x2) (x3) (x4) (h : Keeps m s0 x0) (_ : m .plates := by first | assumption | exact True.intro) (_ : m .ecc := by first | assumption | exact True.intro) (_ : m .queues := by first | assumption | exact True.intro) (_ : m .answers := by first | assumption | exact True.intro) (_ : m .engines := by first | assumption | exact True.intro) : Keeps m s0 (State.saveWrites x0 x1 x2 x3 x4).2 := by revert h; fun_induction State.saveWrites x0 x1 x2 x3 x4 <;> grind [State.engWrite_keeps]
theorem State.saveAdvance_keeps {s0 : State} (x0 : State) (x1) (x2) (x3) (x4) (h : Keeps m s0 x0) : Keeps m s0 (State.saveAdvance x0 x1 x2 x3 x4) := by unfold State.saveAdvance; grind [State.put_keeps]
theorem State.saveRead_keeps {s0 : State} (x0 : State) (x1) (x2) (x3) (x4) (h : Keeps m s0 x0) (_ : m .plates := by first | assumption | exact True.intro) (_ : m .queues := by first | assumption | exact True.intro) (_ : m .answers := by first | assumption | exact True.intro) (_ : m .engines := by first | assumption | exact True.intro) : Keeps m s0 (State.saveRead x0 x1 x2 x3 x4).2 := by unfold State.saveRead; grind [State.engRead_keeps]
theorem State.saveStore_keeps {s0 : State} (x0 : State) (x1 : State) (x2) (h : Keeps m s0 x0) (_ : m .plates := by first | assumption | exact True.intro) (_ : m .ecc := by first | assumption | exact True.intro) (_ : m .queues := by first | assumption | exact True.intro) (_ : m .answers := by first | assumption | exact True.intro) (_ : m .engines := by first | assumption | exact True.intro) : Keeps m s0 (State.saveStore x0 x1 x2).state := by unfold State.saveStore; grind [State.saveRead_keeps, State.saveWrites_keeps, State.saveAdvance_keeps, State.orBits_keeps, State.put_keeps]
theorem State.loadGprs_keeps {s0 : State} (x0 : State) (x1) (x2) (x3) (x4) (h : Keeps m s0 x0) (_ : m .banks := by first | assumption | exact True.intro) : Keeps m s0 (State.loadGprs x0 x1 x2 x3 x4) := by revert h; fun_induction State.loadGprs x0 x1 x2 x3 x4 <;> grind [State.setGpr_keeps]
theorem State.loadCaps_keeps {s0 : State} (x0 : State) (x1 : State) (x2) (x3) (x4) (h : Keeps m s0 x0) : Keeps m s0 (State.loadCaps x0 x1 x2 x3 x4) := by revert h; fun_induction State.loadCaps x0 x1 x2 x3 x4 <;> grind [State.setCap_keeps]
theorem State.loadLens_keeps {s0 : State} (x0 : State) (x1 : State) (x2) (x3) (x4) (h : Keeps m s0 x0) (_ : m .lens := by first | assumption | exact True.intro) : Keeps m s0 (State.loadLens x0 x1 x2 x3 x4) := by revert h; fun_induction State.loadLens x0 x1 x2 x3 x4 <;> grind [State.setLensReg_keeps]
theorem State.saveLoadOut_keeps {s0 : State} (x0 : State) (x1 : State) (x2) (h : Keeps m s0 x0) (_ : m .plates := by first | assumption | exact True.intro) (_ : m .queues := by first | assumption | exact True.intro) (_ : m .answers := by first | assumption | exact True.intro) (_ : m .banks := by first | assumption | exact True.intro) (_ : m .lens := by first | assumption | exact True.intro) (_ : m .engines := by first | assumption | exact True.intro) : Keeps m s0 (State.saveLoadOut x0 x1 x2).state := by
  unfold State.saveLoadOut
  try simp only []
  repeat' first | assumption | exact True.intro | with_reducible exact h | with_reducible apply State.saveRead_keeps | with_reducible apply State.saveAdvance_keeps | with_reducible apply State.loadLens_keeps | with_reducible apply State.setEng_keeps | with_reducible apply State.put_keeps | with_reducible apply State.clearBits_keeps | with_reducible apply State.loadGprs_keeps | with_reducible apply State.setBank_keeps | with_reducible apply State.loadCaps_keeps | with_reducible apply State.setReg_keeps | split
  all_goals grind [State.saveRead_keeps, State.saveAdvance_keeps, State.loadLens_keeps, State.setEng_keeps, State.put_keeps, State.clearBits_keeps, State.loadGprs_keeps, State.setBank_keeps, State.loadCaps_keeps, State.setReg_keeps, Keeps.upd]
theorem State.saveOut_keeps {s0 : State} (x0 : State) (x1 : State) (x2) (h : Keeps m s0 x0) (_ : m .plates := by first | assumption | exact True.intro) (_ : m .ecc := by first | assumption | exact True.intro) (_ : m .queues := by first | assumption | exact True.intro) (_ : m .answers := by first | assumption | exact True.intro) (_ : m .banks := by first | assumption | exact True.intro) (_ : m .lens := by first | assumption | exact True.intro) (_ : m .engines := by first | assumption | exact True.intro) : Keeps m s0 (State.saveOut x0 x1 x2).state := by unfold State.saveOut; grind [State.put_keeps, State.saveLoadOut_keeps, State.saveStore_keeps]
theorem State.putProg_keeps {s0 : State} (x0 : State) (x1) (x2) (x3) (x4) (x5) (h : Keeps m s0 x0) : Keeps m s0 (State.putProg x0 x1 x2 x3 x4 x5) := by unfold State.putProg; grind [State.put_keeps]
theorem State.accumulate_keeps {s0 : State} (x0 : State) (x1) (x2) (h : Keeps m s0 x0) (_ : m .plates := by first | assumption | exact True.intro) (_ : m .queues := by first | assumption | exact True.intro) (_ : m .answers := by first | assumption | exact True.intro) (_ : m .banks := by first | assumption | exact True.intro) (_ : m .lens := by first | assumption | exact True.intro) (_ : m .engines := by first | assumption | exact True.intro) : Keeps m s0 (State.accumulate x0 x1 x2).state := by unfold State.accumulate; grind [State.engRead_keeps, State.sawDst_keeps, State.putDst_keeps]
theorem State.moveElement_keeps {s0 : State} (x0 : State) (x1) (x2) (h : Keeps m s0 x0) (_ : m .plates := by first | assumption | exact True.intro) (_ : m .ecc := by first | assumption | exact True.intro) (_ : m .queues := by first | assumption | exact True.intro) (_ : m .answers := by first | assumption | exact True.intro) (_ : m .engines := by first | assumption | exact True.intro) : Keeps m s0 (State.moveElement x0 x1 x2).state := by unfold State.moveElement; grind [State.engRead_keeps, State.engWrite_keeps]
theorem State.vectorElement_keeps {s0 : State} (x0 : State) (x1) (x2) (h : Keeps m s0 x0) (_ : m .plates := by first | assumption | exact True.intro) (_ : m .queues := by first | assumption | exact True.intro) (_ : m .answers := by first | assumption | exact True.intro) (_ : m .lens := by first | assumption | exact True.intro) (_ : m .engines := by first | assumption | exact True.intro) : Keeps m s0 (State.vectorElement x0 x1 x2).state := by
  unfold State.vectorElement
  try simp only []
  repeat' first | assumption | exact True.intro | with_reducible exact h | with_reducible apply State.engRead_keeps | with_reducible apply State.setLensReg_keeps | with_reducible apply State.lensFree_keeps | with_reducible apply State.orBits_keeps | split
  all_goals grind [State.engRead_keeps, State.setLensReg_keeps, State.lensFree_keeps, State.orBits_keeps]
theorem State.elementOut_keeps {s0 : State} (x0 : State) (x1) (x2) (h : Keeps m s0 x0) (_ : m .plates := by first | assumption | exact True.intro) (_ : m .ecc := by first | assumption | exact True.intro) (_ : m .queues := by first | assumption | exact True.intro) (_ : m .answers := by first | assumption | exact True.intro) (_ : m .banks := by first | assumption | exact True.intro) (_ : m .lens := by first | assumption | exact True.intro) (_ : m .engines := by first | assumption | exact True.intro) : Keeps m s0 (State.elementOut x0 x1 x2).state := by unfold State.elementOut; grind [State.cordicIterate_keeps, State.accumulate_keeps, State.vectorElement_keeps, State.moveElement_keeps]
theorem State.endResumable_keeps {s0 : State} (x0 : State) (x1) (h : Keeps m s0 x0) (_ : m .lens := by first | assumption | exact True.intro) (_ : m .engines := by first | assumption | exact True.intro) : Keeps m s0 (State.endResumable x0 x1) := by unfold State.endResumable; grind [State.setReg_keeps, State.lensFlags_keeps, State.cordicEnd_keeps]
theorem State.pick_keeps {s0 : State} (x0 : State) (x1) (x2) (x3) (h : Keeps m s0 x0) : Keeps m s0 (State.pick x0 x1 x2 x3).2 := by unfold State.pick; grind [State.fresh_keeps]
theorem State.capFault_keeps {s0 : State} (x0 : State) (x1) (x2) (x3) (h : Keeps m s0 x0) (_ : m .plates := by first | assumption | exact True.intro) (_ : m .ecc := by first | assumption | exact True.intro) (_ : m .queues := by first | assumption | exact True.intro) (_ : m .time := by first | assumption | exact True.intro) (_ : m .events := by first | assumption | exact True.intro) (_ : m .answers := by first | assumption | exact True.intro) (_ : m .flows := by first | assumption | exact True.intro) (_ : m .timers := by first | assumption | exact True.intro) (_ : m .banks := by first | assumption | exact True.intro) (_ : m .engines := by first | assumption | exact True.intro) : Keeps m s0 (State.capFault x0 x1 x2 x3) := by unfold State.capFault; grind [State.syncFault_keeps, State.noteViolation_keeps]
theorem State.takeCause_keeps {s0 : State} (x0 : State) (x1) (x2) (h : Keeps m s0 x0) (_ : m .plates := by first | assumption | exact True.intro) (_ : m .ecc := by first | assumption | exact True.intro) (_ : m .queues := by first | assumption | exact True.intro) (_ : m .time := by first | assumption | exact True.intro) (_ : m .events := by first | assumption | exact True.intro) (_ : m .answers := by first | assumption | exact True.intro) (_ : m .flows := by first | assumption | exact True.intro) (_ : m .timers := by first | assumption | exact True.intro) (_ : m .banks := by first | assumption | exact True.intro) (_ : m .engines := by first | assumption | exact True.intro) : Keeps m s0 (State.takeCause x0 x1 x2) := by unfold State.takeCause; grind [State.syncFault_keeps, State.takeHalt_keeps, State.breakLock_keeps, State.enterLht_keeps, State.capFault_keeps]
theorem State.fieldOps_keeps {s0 : State} (x0 : State) (x1) (h : Keeps m s0 x0) (_ : m .plates := by first | assumption | exact True.intro) (_ : m .ecc := by first | assumption | exact True.intro) (_ : m .queues := by first | assumption | exact True.intro) (_ : m .time := by first | assumption | exact True.intro) (_ : m .events := by first | assumption | exact True.intro) (_ : m .answers := by first | assumption | exact True.intro) (_ : m .flows := by first | assumption | exact True.intro) (_ : m .verniers := by first | assumption | exact True.intro) (_ : m .timers := by first | assumption | exact True.intro) (_ : m .clockDrive := by first | assumption | exact True.intro) (_ : m .banks := by first | assumption | exact True.intro) (_ : m .engines := by first | assumption | exact True.intro) (_ : m .tick := by first | assumption | exact True.intro) : Keeps m s0 (State.fieldOps x0 x1).state := by unfold State.fieldOps; grind [State.evtOut_keeps, State.pinOut5_keeps, State.qopOut_keeps, State.timeOut_keeps, State.memOut_keeps]
theorem State.sawDsts_keeps {s0 : State} (x0 : State) (x1) (x2) (x3) (h : Keeps m s0 x0) (_ : m .answers := by first | assumption | exact True.intro) (_ : m .engines := by first | assumption | exact True.intro) : Keeps m s0 (State.sawDsts x0 x1 x2 x3) := by revert h; fun_induction State.sawDsts x0 x1 x2 x3 <;> grind [State.sawDst_keeps]
theorem State.seqRegs_keeps {s0 : State} (x0 : State) (x1 : State) (x2) (h : Keeps m s0 x0) (_ : m .banks := by first | assumption | exact True.intro) : Keeps m s0 (State.seqRegs x0 x1 x2) := by unfold State.seqRegs; grind [State.pick_keeps, State.setBank_keeps]
theorem State.lockStep_keeps {s0 : State} (x0 : State) (x1) (x2) (x3) (h : Keeps m s0 x0) (_ : m .plates := by first | assumption | exact True.intro) (_ : m .ecc := by first | assumption | exact True.intro) (_ : m .queues := by first | assumption | exact True.intro) (_ : m .answers := by first | assumption | exact True.intro) (_ : m .engines := by first | assumption | exact True.intro) : Keeps m s0 (State.lockStep x0 x1 x2 x3).2 := by unfold State.lockStep; grind [State.setEng_keeps, State.put_keeps, State.endLock_keeps]
theorem State.writeResults_keeps {s0 : State} (x0 : State) (x1) (x2) (x3) (h : Keeps m s0 x0) (_ : m .answers := by first | assumption | exact True.intro) (_ : m .banks := by first | assumption | exact True.intro) (_ : m .lens := by first | assumption | exact True.intro) (_ : m .engines := by first | assumption | exact True.intro) : Keeps m s0 (State.writeResults x0 x1 x2 x3) := by
  unfold State.writeResults
  try simp only []
  repeat' first | assumption | exact True.intro | with_reducible exact h | with_reducible apply State.happening_keeps | with_reducible apply State.setLensRegs_keeps | with_reducible apply State.putDsts_keeps | with_reducible apply State.setBank_keeps | with_reducible apply State.lensIssue_keeps | with_reducible apply State.put_keeps | with_reducible apply State.setLensReg_keeps | with_reducible apply State.sawDsts_keeps | with_reducible apply State.setGpr_keeps | with_reducible apply State.lensOut_keeps | split
  all_goals grind [State.happening_keeps, State.setLensRegs_keeps, State.putDsts_keeps, State.setBank_keeps, State.lensIssue_keeps, State.put_keeps, State.setLensReg_keeps, State.sawDsts_keeps, State.setGpr_keeps, State.lensOut_keeps]
theorem State.nextLevel_keeps {s0 : State} (x0 : State) (x1) (h : Keeps m s0 x0) (_ : m .time := by first | assumption | exact True.intro) (_ : m .events := by first | assumption | exact True.intro) (_ : m .flows := by first | assumption | exact True.intro) (_ : m .timers := by first | assumption | exact True.intro) (_ : m .engines := by first | assumption | exact True.intro) : Keeps m s0 (State.nextLevel x0 x1) := by unfold State.nextLevel; grind [State.setEngineState_keeps, State.setEng_keeps, State.captureConds_keeps, State.put_keeps]
theorem State.returnFrom_keeps {s0 : State} (x0 : State) (x1) (x2) (h : Keeps m s0 x0) (_ : m .time := by first | assumption | exact True.intro) (_ : m .events := by first | assumption | exact True.intro) (_ : m .flows := by first | assumption | exact True.intro) (_ : m .timers := by first | assumption | exact True.intro) (_ : m .engines := by first | assumption | exact True.intro) : Keeps m s0 (State.returnFrom x0 x1 x2) := by unfold State.returnFrom; grind [State.put_keeps, State.nextLevel_keeps, State.clearBits_keeps]
theorem State.goOn_keeps {s0 : State} (x0 : State) (x1) (x2) (x3) (h : Keeps m s0 x0) (_ : m .time := by first | assumption | exact True.intro) (_ : m .events := by first | assumption | exact True.intro) (_ : m .flows := by first | assumption | exact True.intro) (_ : m .timers := by first | assumption | exact True.intro) (_ : m .engines := by first | assumption | exact True.intro) : Keeps m s0 (State.goOn x0 x1 x2 x3) := by unfold State.goOn; grind [State.returnFrom_keeps, State.setEng_keeps, State.put_keeps]
theorem State.finishMicro_keeps {s0 : State} (x0 : State) (x1) (x2) (x3) (h : Keeps m s0 x0) (_ : m .plates := by first | assumption | exact True.intro) (_ : m .ecc := by first | assumption | exact True.intro) (_ : m .queues := by first | assumption | exact True.intro) (_ : m .time := by first | assumption | exact True.intro) (_ : m .events := by first | assumption | exact True.intro) (_ : m .answers := by first | assumption | exact True.intro) (_ : m .flows := by first | assumption | exact True.intro) (_ : m .timers := by first | assumption | exact True.intro) (_ : m .engines := by first | assumption | exact True.intro) : Keeps m s0 (State.finishMicro x0 x1 x2 x3) := by unfold State.finishMicro; grind [State.takeHalt_keeps, State.goOn_keeps, State.boundary_keeps, State.unstall_keeps]
theorem State.keepEcc_keeps {s0 : State} (x0 : State) (x1 : State) (h : Keeps m s0 x0) : Keeps m s0 (State.keepEcc x0 x1) := by unfold State.keepEcc; grind [State.setReg_keeps]
theorem State.lateFault_keeps {s0 : State} (x0 : State) (x1 : State) (x2 : State) (x3) (x4) (x5) (h : Keeps m s0 x0) (h1 : Keeps m s0 x1) (_ : m .plates := by first | assumption | exact True.intro) (_ : m .ecc := by first | assumption | exact True.intro) (_ : m .queues := by first | assumption | exact True.intro) (_ : m .time := by first | assumption | exact True.intro) (_ : m .events := by first | assumption | exact True.intro) (_ : m .answers := by first | assumption | exact True.intro) (_ : m .flows := by first | assumption | exact True.intro) (_ : m .timers := by first | assumption | exact True.intro) (_ : m .banks := by first | assumption | exact True.intro) (_ : m .engines := by first | assumption | exact True.intro) : Keeps m s0 (x0.lateFault x1 x2 x3 x4 x5) := by
  unfold State.lateFault
  exact ite_keeps (State.syncFault_keeps _ _ _ _ _ _ _ (State.keepEcc_keeps _ _ h1)) (State.syncFault_keeps _ _ _ _ _ _ _ (State.goOn_keeps _ _ _ _ h))
theorem State.complete_keeps {s0 : State} (x0 : State) (x1 : State) (x2) (h : Keeps m s0 x0) (_ : m .plates := by first | assumption | exact True.intro) (_ : m .ecc := by first | assumption | exact True.intro) (_ : m .queues := by first | assumption | exact True.intro) (_ : m .time := by first | assumption | exact True.intro) (_ : m .events := by first | assumption | exact True.intro) (_ : m .answers := by first | assumption | exact True.intro) (_ : m .flows := by first | assumption | exact True.intro) (_ : m .verniers := by first | assumption | exact True.intro) (_ : m .timers := by first | assumption | exact True.intro) (_ : m .clockDrive := by first | assumption | exact True.intro) (_ : m .banks := by first | assumption | exact True.intro) (_ : m .lens := by first | assumption | exact True.intro) (_ : m .engines := by first | assumption | exact True.intro) (_ : m .tick := by first | assumption | exact True.intro) : Keeps m s0 (x0.complete x1 x2) := by
  unfold State.complete
  extract_lets next o v k
  have hv : Keeps m s0 v.state := State.saveOut_keeps _ _ _ (State.seqRegs_keeps _ _ _ (State.writeResults_keeps _ _ _ _ (State.fieldOps_keeps _ _ h)))
  have hk : Keeps m s0 k.2 := State.lockStep_keeps _ _ _ _ hv
  exact ite_keeps (State.lateFault_keeps _ _ _ _ _ _ hk h) (ite_keeps (State.lateFault_keeps _ _ _ _ _ _ hk h) (State.finishMicro_keeps _ _ _ _ hk))
theorem State.latchFirst_keeps {s0 : State} (x0 : State) (x1) (h : Keeps m s0 x0) (_ : m .time := by first | assumption | exact True.intro) (_ : m .events := by first | assumption | exact True.intro) (_ : m .flows := by first | assumption | exact True.intro) (_ : m .timers := by first | assumption | exact True.intro) : Keeps m s0 (State.latchFirst x0 x1) := by unfold State.latchFirst; grind [State.timerLatch_keeps, State.setTimer_keeps]
theorem State.waitOn_keeps {s0 : State} (x0 : State) (x1) (h : Keeps m s0 x0) (_ : m .time := by first | assumption | exact True.intro) (_ : m .events := by first | assumption | exact True.intro) (_ : m .flows := by first | assumption | exact True.intro) (_ : m .timers := by first | assumption | exact True.intro) (_ : m .engines := by first | assumption | exact True.intro) : Keeps m s0 (State.waitOn x0 x1) := by unfold State.waitOn; grind [State.setEng_keeps, State.latchFirst_keeps, State.put_keeps]
theorem State.runElement_keeps {s0 : State} (x0 : State) (x1) (h : Keeps m s0 x0) (_ : m .plates := by first | assumption | exact True.intro) (_ : m .ecc := by first | assumption | exact True.intro) (_ : m .queues := by first | assumption | exact True.intro) (_ : m .time := by first | assumption | exact True.intro) (_ : m .events := by first | assumption | exact True.intro) (_ : m .answers := by first | assumption | exact True.intro) (_ : m .flows := by first | assumption | exact True.intro) (_ : m .verniers := by first | assumption | exact True.intro) (_ : m .timers := by first | assumption | exact True.intro) (_ : m .clockDrive := by first | assumption | exact True.intro) (_ : m .banks := by first | assumption | exact True.intro) (_ : m .lens := by first | assumption | exact True.intro) (_ : m .engines := by first | assumption | exact True.intro) (_ : m .tick := by first | assumption | exact True.intro) : Keeps m s0 (State.runElement x0 x1) := by
  unfold State.runElement
  extract_lets k o t
  have ho : Keeps m s0 o.state := State.elementOut_keeps _ _ _ (State.putProg_keeps _ _ _ _ _ _ (State.latchFirst_keeps _ _ h))
  have ht : Keeps m s0 t := State.putProg_keeps _ _ _ _ _ _ ho
  grind [State.endResumable_keeps, State.complete_keeps, State.putProg_keeps, State.put_keeps, State.syncFault_keeps, State.keepEcc_keeps]
theorem State.advance_keeps {s0 : State} (x0 : State) (x1) (h : Keeps m s0 x0) (_ : m .plates := by first | assumption | exact True.intro) (_ : m .ecc := by first | assumption | exact True.intro) (_ : m .queues := by first | assumption | exact True.intro) (_ : m .time := by first | assumption | exact True.intro) (_ : m .events := by first | assumption | exact True.intro) (_ : m .answers := by first | assumption | exact True.intro) (_ : m .flows := by first | assumption | exact True.intro) (_ : m .verniers := by first | assumption | exact True.intro) (_ : m .timers := by first | assumption | exact True.intro) (_ : m .clockDrive := by first | assumption | exact True.intro) (_ : m .banks := by first | assumption | exact True.intro) (_ : m .lens := by first | assumption | exact True.intro) (_ : m .engines := by first | assumption | exact True.intro) (_ : m .tick := by first | assumption | exact True.intro) : Keeps m s0 (State.advance x0 x1) := by unfold State.advance; grind [State.waitOn_keeps, State.complete_keeps, State.runElement_keeps]
theorem State.microBegins_keeps {s0 : State} (x0 : State) (x1) (x2) (x3) (h : Keeps m s0 x0) (_ : m .answers := by first | assumption | exact True.intro) (_ : m .engines := by first | assumption | exact True.intro) : Keeps m s0 (State.microBegins x0 x1 x2 x3) := by
  unfold State.microBegins
  try simp only []
  repeat' first | assumption | exact True.intro | with_reducible exact h | with_reducible apply State.happening_keeps | with_reducible apply State.haltRecord_keeps | with_reducible apply State.requestHalt_keeps | split
  all_goals grind [State.happening_keeps, State.haltRecord_keeps, State.requestHalt_keeps, Keeps.upd]
theorem State.judge_keeps {s0 : State} (x0 : State) (x1) (h : Keeps m s0 x0) (_ : m .plates := by first | assumption | exact True.intro) (_ : m .ecc := by first | assumption | exact True.intro) (_ : m .queues := by first | assumption | exact True.intro) (_ : m .time := by first | assumption | exact True.intro) (_ : m .events := by first | assumption | exact True.intro) (_ : m .answers := by first | assumption | exact True.intro) (_ : m .flows := by first | assumption | exact True.intro) (_ : m .verniers := by first | assumption | exact True.intro) (_ : m .timers := by first | assumption | exact True.intro) (_ : m .clockDrive := by first | assumption | exact True.intro) (_ : m .banks := by first | assumption | exact True.intro) (_ : m .lens := by first | assumption | exact True.intro) (_ : m .engines := by first | assumption | exact True.intro) (_ : m .tick := by first | assumption | exact True.intro) : Keeps m s0 (State.judge x0 x1) := by unfold State.judge; grind [State.takeCause_keeps, State.advance_keeps]
theorem State.goOnStalled_keeps {s0 : State} (x0 : State) (x1) (h : Keeps m s0 x0) (_ : m .plates := by first | assumption | exact True.intro) (_ : m .ecc := by first | assumption | exact True.intro) (_ : m .queues := by first | assumption | exact True.intro) (_ : m .time := by first | assumption | exact True.intro) (_ : m .events := by first | assumption | exact True.intro) (_ : m .answers := by first | assumption | exact True.intro) (_ : m .flows := by first | assumption | exact True.intro) (_ : m .verniers := by first | assumption | exact True.intro) (_ : m .timers := by first | assumption | exact True.intro) (_ : m .clockDrive := by first | assumption | exact True.intro) (_ : m .banks := by first | assumption | exact True.intro) (_ : m .lens := by first | assumption | exact True.intro) (_ : m .engines := by first | assumption | exact True.intro) (_ : m .tick := by first | assumption | exact True.intro) : Keeps m s0 (State.goOnStalled x0 x1) := by unfold State.goOnStalled; grind [State.waitOn_keeps, State.capFault_keeps, State.judge_keeps, State.setEng_keeps, State.advance_keeps]
theorem State.runWord_keeps {s0 : State} (x0 : State) (x1) (h : Keeps m s0 x0) (_ : m .plates := by first | assumption | exact True.intro) (_ : m .ecc := by first | assumption | exact True.intro) (_ : m .queues := by first | assumption | exact True.intro) (_ : m .time := by first | assumption | exact True.intro) (_ : m .events := by first | assumption | exact True.intro) (_ : m .answers := by first | assumption | exact True.intro) (_ : m .flows := by first | assumption | exact True.intro) (_ : m .verniers := by first | assumption | exact True.intro) (_ : m .timers := by first | assumption | exact True.intro) (_ : m .clockDrive := by first | assumption | exact True.intro) (_ : m .banks := by first | assumption | exact True.intro) (_ : m .lens := by first | assumption | exact True.intro) (_ : m .engines := by first | assumption | exact True.intro) (_ : m .tick := by first | assumption | exact True.intro) : Keeps m s0 (State.runWord x0 x1) := by unfold State.runWord; grind [State.takeHalt_keeps, State.judge_keeps, State.goOnStalled_keeps, State.syncFault_keeps, State.microBegins_keeps]
theorem State.microRow_keeps {s0 : State} (x0 : State) (x1) (x2) (h : Keeps m s0 x0) (_ : m .plates := by first | assumption | exact True.intro) (_ : m .ecc := by first | assumption | exact True.intro) (_ : m .queues := by first | assumption | exact True.intro) (_ : m .time := by first | assumption | exact True.intro) (_ : m .events := by first | assumption | exact True.intro) (_ : m .answers := by first | assumption | exact True.intro) (_ : m .flows := by first | assumption | exact True.intro) (_ : m .verniers := by first | assumption | exact True.intro) (_ : m .timers := by first | assumption | exact True.intro) (_ : m .clockDrive := by first | assumption | exact True.intro) (_ : m .banks := by first | assumption | exact True.intro) (_ : m .lens := by first | assumption | exact True.intro) (_ : m .engines := by first | assumption | exact True.intro) (_ : m .tick := by first | assumption | exact True.intro) : Keeps m s0 (State.microRow x0 x1 x2) := by unfold State.microRow; grind [State.runWord_keeps]
theorem execResumableElement_keeps {s0 : State} (x0) (x1 : State) (h : Keeps m s0 x1) (_ : m .plates := by first | assumption | exact True.intro) (_ : m .ecc := by first | assumption | exact True.intro) (_ : m .queues := by first | assumption | exact True.intro) (_ : m .time := by first | assumption | exact True.intro) (_ : m .events := by first | assumption | exact True.intro) (_ : m .answers := by first | assumption | exact True.intro) (_ : m .flows := by first | assumption | exact True.intro) (_ : m .verniers := by first | assumption | exact True.intro) (_ : m .timers := by first | assumption | exact True.intro) (_ : m .clockDrive := by first | assumption | exact True.intro) (_ : m .banks := by first | assumption | exact True.intro) (_ : m .lens := by first | assumption | exact True.intro) (_ : m .engines := by first | assumption | exact True.intro) (_ : m .tick := by first | assumption | exact True.intro) : ∀ r, execResumableElement x0 x1 = .next r → Keeps m s0 r := by unfold execResumableElement; grind [State.runWord_keeps]
theorem execMicrobreak_keeps {s0 : State} (x0) (x1 : State) (h : Keeps m s0 x1) (_ : m .plates := by first | assumption | exact True.intro) (_ : m .ecc := by first | assumption | exact True.intro) (_ : m .queues := by first | assumption | exact True.intro) (_ : m .time := by first | assumption | exact True.intro) (_ : m .events := by first | assumption | exact True.intro) (_ : m .answers := by first | assumption | exact True.intro) (_ : m .flows := by first | assumption | exact True.intro) (_ : m .verniers := by first | assumption | exact True.intro) (_ : m .timers := by first | assumption | exact True.intro) (_ : m .clockDrive := by first | assumption | exact True.intro) (_ : m .banks := by first | assumption | exact True.intro) (_ : m .lens := by first | assumption | exact True.intro) (_ : m .engines := by first | assumption | exact True.intro) (_ : m .tick := by first | assumption | exact True.intro) : ∀ r, execMicrobreak x0 x1 = .next r → Keeps m s0 r := by unfold execMicrobreak; grind [State.runWord_keeps]
theorem execExceptionEntry_keeps {s0 : State} (x0) (x1 : State) (h : Keeps m s0 x1) (_ : m .plates := by first | assumption | exact True.intro) (_ : m .ecc := by first | assumption | exact True.intro) (_ : m .queues := by first | assumption | exact True.intro) (_ : m .time := by first | assumption | exact True.intro) (_ : m .events := by first | assumption | exact True.intro) (_ : m .answers := by first | assumption | exact True.intro) (_ : m .flows := by first | assumption | exact True.intro) (_ : m .verniers := by first | assumption | exact True.intro) (_ : m .timers := by first | assumption | exact True.intro) (_ : m .clockDrive := by first | assumption | exact True.intro) (_ : m .banks := by first | assumption | exact True.intro) (_ : m .lens := by first | assumption | exact True.intro) (_ : m .engines := by first | assumption | exact True.intro) (_ : m .tick := by first | assumption | exact True.intro) : ∀ r, execExceptionEntry x0 x1 = .next r → Keeps m s0 r := by unfold execExceptionEntry; grind [State.runWord_keeps, State.takeAsync_keeps]
theorem execBulkComplete_keeps {s0 : State} (x0) (x1) (x2) (x3 : State) (h : Keeps m s0 x3) (_ : m .plates := by first | assumption | exact True.intro) (_ : m .ecc := by first | assumption | exact True.intro) (_ : m .queues := by first | assumption | exact True.intro) (_ : m .events := by first | assumption | exact True.intro) (_ : m .answers := by first | assumption | exact True.intro) (_ : m .flows := by first | assumption | exact True.intro) (_ : m .engines := by first | assumption | exact True.intro) : ∀ r, execBulkComplete x0 x1 x2 x3 = .next r → Keeps m s0 r := by unfold execBulkComplete; grind [State.bulkResponse_keeps, State.setEng_keeps]
theorem writeRunctl_keeps {s0 : State} (x0) (x1) (x2) (x3 : State) (h : Keeps m s0 x3) : EKeeps m s0 (writeRunctl x0 x1 x2 x3) := by unfold writeRunctl; grind [Effect.denied_keeps, Effect.ok_keeps, State.plainWrite_keeps, EKeeps, Effect.ok, Effect.kept, Effect.denied, Effect.retry]
theorem writeDcmp_keeps {s0 : State} (x0) (x1) (x2) (x3) (x4) (x5 : State) (h : Keeps m s0 x5) (_ : m .engines := by first | assumption | exact True.intro) : EKeeps m s0 (writeDcmp x0 x1 x2 x3 x4 x5) := by unfold writeDcmp; grind [Effect.denied_keeps, State.plainWrite_keeps, Effect.ok_keeps, State.setEng_keeps, EKeeps, Effect.ok, Effect.kept, Effect.denied, Effect.retry]
theorem State.requestHalts_keeps {s0 : State} (x0 : State) (x1) (x2) (h : Keeps m s0 x0) (_ : m .engines := by first | assumption | exact True.intro) : Keeps m s0 (State.requestHalts x0 x1 x2) := by revert h; fun_induction State.requestHalts x0 x1 x2 <;> grind [State.requestHalt_keeps]
theorem State.requestVernierHalts_keeps {s0 : State} (x0 : State) (x1) (h : Keeps m s0 x0) (_ : m .verniers := by first | assumption | exact True.intro) : Keeps m s0 (State.requestVernierHalts x0 x1) := by unfold State.requestVernierHalts; grind [Keeps.upd]
theorem State.runRecord_keeps {s0 : State} (x0 : State) (x1) (x2) (h : Keeps m s0 x0) (_ : m .answers := by first | assumption | exact True.intro) : Keeps m s0 (State.runRecord x0 x1 x2) := by unfold State.runRecord; grind [State.logChange_keeps]
theorem State.haltSelected_keeps {s0 : State} (x0 : State) (x1) (h : Keeps m s0 x0) (_ : m .answers := by first | assumption | exact True.intro) (_ : m .verniers := by first | assumption | exact True.intro) (_ : m .engines := by first | assumption | exact True.intro) : Keeps m s0 (State.haltSelected x0 x1) := by unfold State.haltSelected; grind [State.runRecord_keeps, State.requestVernierHalts_keeps, State.requestHalts_keeps]
theorem State.resumeSelected_keeps {s0 : State} (x0 : State) (h : Keeps m s0 x0) (_ : m .time := by first | assumption | exact True.intro) (_ : m .events := by first | assumption | exact True.intro) (_ : m .answers := by first | assumption | exact True.intro) (_ : m .flows := by first | assumption | exact True.intro) (_ : m .timers := by first | assumption | exact True.intro) (_ : m .engines := by first | assumption | exact True.intro) : Keeps m s0 (State.resumeSelected x0) := by unfold State.resumeSelected; grind [State.runRecord_keeps, State.releaseVerniers_keeps, State.releaseHalts_keeps]
theorem State.stepEngine_keeps {s0 : State} (x0 : State) (x1) (h : Keeps m s0 x0) (_ : m .time := by first | assumption | exact True.intro) (_ : m .events := by first | assumption | exact True.intro) (_ : m .flows := by first | assumption | exact True.intro) (_ : m .timers := by first | assumption | exact True.intro) (_ : m .engines := by first | assumption | exact True.intro) : Keeps m s0 (State.stepEngine x0 x1) := by unfold State.stepEngine; grind [State.releaseHalt_keeps, State.setEng_keeps, State.beginEntry_keeps]
theorem State.stepEngines_keeps {s0 : State} (x0 : State) (x1) (h : Keeps m s0 x0) (_ : m .time := by first | assumption | exact True.intro) (_ : m .events := by first | assumption | exact True.intro) (_ : m .flows := by first | assumption | exact True.intro) (_ : m .timers := by first | assumption | exact True.intro) (_ : m .engines := by first | assumption | exact True.intro) : Keeps m s0 (State.stepEngines x0 x1) := by revert h; fun_induction State.stepEngines x0 x1 <;> grind [State.stepEngine_keeps]
theorem State.haltVernier_keeps {s0 : State} (x0 : State) (x1) (h : Keeps m s0 x0) (_ : m .verniers := by first | assumption | exact True.intro) : Keeps m s0 (State.haltVernier x0 x1) := by
  unfold State.haltVernier
  try simp only []
  repeat' first | assumption | exact True.intro | with_reducible exact h | with_reducible apply State.put_keeps | with_reducible apply State.setVernier_keeps | split
  all_goals grind [State.put_keeps, State.setVernier_keeps, Keeps.upd]
theorem State.stepVernier_keeps {s0 : State} (x0 : State) (x1) (h : Keeps m s0 x0) (_ : m .events := by first | assumption | exact True.intro) (_ : m .flows := by first | assumption | exact True.intro) (_ : m .verniers := by first | assumption | exact True.intro) : Keeps m s0 (State.stepVernier x0 x1) := by unfold State.stepVernier; grind [State.haltVernier_keeps, State.vernierStep_keeps, State.releaseVernier_keeps]
theorem State.stepVerniers_keeps {s0 : State} (x0 : State) (x1) (h : Keeps m s0 x0) (_ : m .events := by first | assumption | exact True.intro) (_ : m .flows := by first | assumption | exact True.intro) (_ : m .verniers := by first | assumption | exact True.intro) : Keeps m s0 (State.stepVerniers x0 x1) := by revert h; fun_induction State.stepVerniers x0 x1 <;> grind [State.stepVernier_keeps]
theorem State.stepSelected_keeps {s0 : State} (x0 : State) (h : Keeps m s0 x0) (_ : m .time := by first | assumption | exact True.intro) (_ : m .events := by first | assumption | exact True.intro) (_ : m .answers := by first | assumption | exact True.intro) (_ : m .flows := by first | assumption | exact True.intro) (_ : m .verniers := by first | assumption | exact True.intro) (_ : m .timers := by first | assumption | exact True.intro) (_ : m .engines := by first | assumption | exact True.intro) : Keeps m s0 (State.stepSelected x0) := by unfold State.stepSelected; grind [State.runRecord_keeps, State.stepVerniers_keeps, State.stepEngines_keeps]
theorem writeEyeCtl_keeps {s0 : State} (x0) (x1) (x2 : State) (h : Keeps m s0 x2) (_ : m .time := by first | assumption | exact True.intro) (_ : m .events := by first | assumption | exact True.intro) (_ : m .answers := by first | assumption | exact True.intro) (_ : m .flows := by first | assumption | exact True.intro) (_ : m .verniers := by first | assumption | exact True.intro) (_ : m .timers := by first | assumption | exact True.intro) (_ : m .engines := by first | assumption | exact True.intro) : EKeeps m s0 (writeEyeCtl x0 x1 x2) := by unfold writeEyeCtl; grind [Effect.denied_keeps, State.plainWrite_keeps, State.haltSelected_keeps, State.resumeSelected_keeps, Effect.ok_keeps, State.stepSelected_keeps, EKeeps, Effect.ok, Effect.kept, Effect.denied, Effect.retry]
theorem writeEyeFreeze_keeps {s0 : State} (x0) (x1) (x2 : State) (h : Keeps m s0 x2) : EKeeps m s0 (writeEyeFreeze x0 x1 x2) := by unfold writeEyeFreeze; grind [Effect.denied_keeps, State.put_keeps, State.plainWrite_keeps, Effect.ok_keeps, EKeeps, Effect.ok, Effect.kept, Effect.denied, Effect.retry]
theorem State.passCross_keeps {s0 : State} (x0 : State) (h : Keeps m s0 x0) (_ : m .verniers := by first | assumption | exact True.intro) (_ : m .engines := by first | assumption | exact True.intro) : Keeps m s0 (State.passCross x0) := by
  unfold State.passCross
  try simp only []
  repeat' first | assumption | exact True.intro | with_reducible exact h | with_reducible apply State.requestVernierHalts_keeps | with_reducible apply State.requestHalts_keeps | split
  all_goals grind [State.requestVernierHalts_keeps, State.requestHalts_keeps, Keeps.upd]
theorem State.setItem_keeps {s0 : State} (x0 : State) (x1) (h : Keeps m s0 x0) (_ : m .banks := by first | assumption | exact True.intro) (_ : m .lens := by first | assumption | exact True.intro) (_ : m .engines := by first | assumption | exact True.intro) : Keeps m s0 (State.setItem x0 x1) := by unfold State.setItem; grind [State.setGpr_keeps, State.setBank_keeps, State.put_keeps, State.setEng_keeps, State.setLensReg_keeps]
theorem writeEyeEdata_keeps {s0 : State} (x0) (x1) (x2 : State) (h : Keeps m s0 x2) (_ : m .banks := by first | assumption | exact True.intro) (_ : m .lens := by first | assumption | exact True.intro) (_ : m .engines := by first | assumption | exact True.intro) : EKeeps m s0 (writeEyeEdata x0 x1 x2) := by unfold writeEyeEdata; grind [Effect.denied_keeps, Effect.ok_keeps, State.setItem_keeps, Effect.kept_keeps, EKeeps, Effect.ok, Effect.kept, Effect.denied, Effect.retry]
theorem State.tagAccess_keeps {s0 : State} (x0 : State) (x1) (h : Keeps m s0 x0) (_ : m .queues := by first | assumption | exact True.intro) : Keeps m s0 (State.tagAccess x0 x1).2 := by unfold State.tagAccess; grind [State.putBulk_keeps]
theorem State.beginAccess_keeps {s0 : State} (x0 : State) (x1) (h : Keeps m s0 x0) (_ : m .queues := by first | assumption | exact True.intro) (_ : m .eyepiece := by first | assumption | exact True.intro) : Keeps m s0 (State.beginAccess x0 x1) := by
  unfold State.beginAccess
  try simp only []
  repeat' first | assumption | exact True.intro | with_reducible exact h | with_reducible apply State.tagAccess_keeps | split
  all_goals grind [State.tagAccess_keeps, Keeps.upd]
theorem State.endAccess_keeps {s0 : State} (x0 : State) (x1) (x2) (x3) (x4) (h : Keeps m s0 x0) (_ : m .answers := by first | assumption | exact True.intro) (_ : m .eyepiece := by first | assumption | exact True.intro) : Keeps m s0 (State.endAccess x0 x1 x2 x3 x4) := by unfold State.endAccess; grind [State.put_keeps, State.setReg_keeps, Keeps.upd]
theorem State.denyAccess_keeps {s0 : State} (x0 : State) (x1) (h : Keeps m s0 x0) (_ : m .answers := by first | assumption | exact True.intro) (_ : m .eyepiece := by first | assumption | exact True.intro) : Keeps m s0 (State.denyAccess x0 x1) := by unfold State.denyAccess; grind [State.put_keeps, Keeps.upd]
theorem State.servePlate_keeps {s0 : State} (x0 : State) (x1) (x2) (h : Keeps m s0 x0) (_ : m .plates := by first | assumption | exact True.intro) (_ : m .ecc := by first | assumption | exact True.intro) (_ : m .answers := by first | assumption | exact True.intro) (_ : m .eyepiece := by first | assumption | exact True.intro) : Keeps m s0 (State.servePlate x0 x1 x2) := by unfold State.servePlate; grind [State.fresh_keeps, State.endAccess_keeps, State.plateWrite_keeps, State.plateRead_keeps]
theorem State.serveAccess_keeps {s0 : State} (x0 : State) (x1) (x2) (x3) (h : Keeps m s0 x0) (_ : m .plates := by first | assumption | exact True.intro) (_ : m .ecc := by first | assumption | exact True.intro) (_ : m .queues := by first | assumption | exact True.intro) (_ : m .answers := by first | assumption | exact True.intro) (_ : m .eyepiece := by first | assumption | exact True.intro) : Keeps m s0 (State.serveAccess x0 x1 x2 x3) := by
  unfold State.serveAccess
  try simp only []
  repeat' first | assumption | exact True.intro | with_reducible exact h | with_reducible apply State.denyAccess_keeps | with_reducible apply State.endAccess_keeps | with_reducible apply State.tagAccess_keeps | with_reducible apply State.servePlate_keeps | split
  all_goals grind [State.denyAccess_keeps, State.endAccess_keeps, State.tagAccess_keeps, State.servePlate_keeps, Keeps.upd]
theorem writeEyeMctl_keeps {s0 : State} (x0) (x1 : State) (h : Keeps m s0 x1) (_ : m .queues := by first | assumption | exact True.intro) (_ : m .eyepiece := by first | assumption | exact True.intro) : EKeeps m s0 (writeEyeMctl x0 x1) := by
  unfold writeEyeMctl
  try simp only []
  repeat' first | assumption | exact True.intro | with_reducible exact h | with_reducible apply State.plainWrite_keeps | with_reducible apply State.put_keeps | with_reducible apply Effect.ok_keeps | with_reducible apply State.beginAccess_keeps | split
  all_goals grind [State.plainWrite_keeps, State.put_keeps, Effect.ok_keeps, State.beginAccess_keeps, Keeps.upd, EKeeps, Effect.ok, Effect.kept, Effect.denied, Effect.retry]
theorem State.sessionTime_keeps {s0 : State} (x0 : State) (x1) (h : Keeps m s0 x0) (_ : m .time := by first | assumption | exact True.intro) (_ : m .events := by first | assumption | exact True.intro) (_ : m .answers := by first | assumption | exact True.intro) (_ : m .flows := by first | assumption | exact True.intro) (_ : m .verniers := by first | assumption | exact True.intro) (_ : m .timers := by first | assumption | exact True.intro) (_ : m .engines := by first | assumption | exact True.intro) (_ : m .eyepiece := by first | assumption | exact True.intro) : Keeps m s0 (State.sessionTime x0 x1) := by unfold State.sessionTime; grind [State.closeSession_keeps, State.put_keeps, Keeps.upd]
theorem execDbgRstNAssert_keeps {s0 : State} (x0 : State) (h : Keeps m s0 x0) (_ : m .queues := by first | assumption | exact True.intro) (_ : m .time := by first | assumption | exact True.intro) (_ : m .events := by first | assumption | exact True.intro) (_ : m .answers := by first | assumption | exact True.intro) (_ : m .flows := by first | assumption | exact True.intro) (_ : m .verniers := by first | assumption | exact True.intro) (_ : m .timers := by first | assumption | exact True.intro) (_ : m .engines := by first | assumption | exact True.intro) (_ : m .eyepiece := by first | assumption | exact True.intro) : ∀ r, execDbgRstNAssert x0 = .next r → Keeps m s0 r := by unfold execDbgRstNAssert; grind [State.debugReset_keeps]
theorem execDebugDomainPowerOff_keeps {s0 : State} (x0 : State) (h : Keeps m s0 x0) (_ : m .queues := by first | assumption | exact True.intro) (_ : m .time := by first | assumption | exact True.intro) (_ : m .events := by first | assumption | exact True.intro) (_ : m .answers := by first | assumption | exact True.intro) (_ : m .power := by first | assumption | exact True.intro) (_ : m .flows := by first | assumption | exact True.intro) (_ : m .verniers := by first | assumption | exact True.intro) (_ : m .timers := by first | assumption | exact True.intro) (_ : m .engines := by first | assumption | exact True.intro) (_ : m .eyepiece := by first | assumption | exact True.intro) : ∀ r, execDebugDomainPowerOff x0 = .next r → Keeps m s0 r := by
  unfold execDebugDomainPowerOff
  try simp only []
  repeat' first | assumption | exact True.intro | with_reducible exact h | with_reducible apply State.debugReset_keeps | split
  all_goals grind [State.debugReset_keeps, Keeps.upd]
theorem execHalt_keeps {s0 : State} (x0) (x1) (x2 : State) (h : Keeps m s0 x2) (_ : m .time := by first | assumption | exact True.intro) (_ : m .events := by first | assumption | exact True.intro) (_ : m .answers := by first | assumption | exact True.intro) (_ : m .flows := by first | assumption | exact True.intro) (_ : m .verniers := by first | assumption | exact True.intro) (_ : m .timers := by first | assumption | exact True.intro) (_ : m .engines := by first | assumption | exact True.intro) : ∀ r, execHalt x0 x1 x2 = .next r → Keeps m s0 r := by unfold execHalt; grind [State.writeReg_keeps, writeEyeCtl_keeps]
theorem execHaltNow_keeps {s0 : State} (x0) (x1) (x2 : State) (h : Keeps m s0 x2) (_ : m .time := by first | assumption | exact True.intro) (_ : m .events := by first | assumption | exact True.intro) (_ : m .answers := by first | assumption | exact True.intro) (_ : m .flows := by first | assumption | exact True.intro) (_ : m .verniers := by first | assumption | exact True.intro) (_ : m .timers := by first | assumption | exact True.intro) (_ : m .engines := by first | assumption | exact True.intro) : ∀ r, execHaltNow x0 x1 x2 = .next r → Keeps m s0 r := by unfold execHaltNow; grind [State.writeReg_keeps, writeEyeCtl_keeps]
theorem execResume_keeps {s0 : State} (x0) (x1) (x2 : State) (h : Keeps m s0 x2) (_ : m .time := by first | assumption | exact True.intro) (_ : m .events := by first | assumption | exact True.intro) (_ : m .answers := by first | assumption | exact True.intro) (_ : m .flows := by first | assumption | exact True.intro) (_ : m .verniers := by first | assumption | exact True.intro) (_ : m .timers := by first | assumption | exact True.intro) (_ : m .engines := by first | assumption | exact True.intro) : ∀ r, execResume x0 x1 x2 = .next r → Keeps m s0 r := by unfold execResume; grind [State.writeReg_keeps, writeEyeCtl_keeps]
theorem execStep_keeps {s0 : State} (x0) (x1) (x2 : State) (h : Keeps m s0 x2) (_ : m .time := by first | assumption | exact True.intro) (_ : m .events := by first | assumption | exact True.intro) (_ : m .answers := by first | assumption | exact True.intro) (_ : m .flows := by first | assumption | exact True.intro) (_ : m .verniers := by first | assumption | exact True.intro) (_ : m .timers := by first | assumption | exact True.intro) (_ : m .engines := by first | assumption | exact True.intro) : ∀ r, execStep x0 x1 x2 = .next r → Keeps m s0 r := by unfold execStep; grind [State.writeReg_keeps, writeEyeCtl_keeps]
theorem execLive_keeps {s0 : State} (x0) (x1) (x2 : State) (h : Keeps m s0 x2) (_ : m .time := by first | assumption | exact True.intro) (_ : m .events := by first | assumption | exact True.intro) (_ : m .answers := by first | assumption | exact True.intro) (_ : m .flows := by first | assumption | exact True.intro) (_ : m .verniers := by first | assumption | exact True.intro) (_ : m .timers := by first | assumption | exact True.intro) (_ : m .engines := by first | assumption | exact True.intro) : ∀ r, execLive x0 x1 x2 = .next r → Keeps m s0 r := by unfold execLive; grind [State.writeReg_keeps, writeEyeCtl_keeps]
theorem execEngineHalt_keeps {s0 : State} (x0) (x1 : State) (h : Keeps m s0 x1) (_ : m .plates := by first | assumption | exact True.intro) (_ : m .ecc := by first | assumption | exact True.intro) (_ : m .queues := by first | assumption | exact True.intro) (_ : m .time := by first | assumption | exact True.intro) (_ : m .events := by first | assumption | exact True.intro) (_ : m .answers := by first | assumption | exact True.intro) (_ : m .flows := by first | assumption | exact True.intro) (_ : m .timers := by first | assumption | exact True.intro) (_ : m .engines := by first | assumption | exact True.intro) : ∀ r, execEngineHalt x0 x1 = .next r → Keeps m s0 r := by unfold execEngineHalt; grind [State.takeHalt_keeps]
theorem execVernierHalt_keeps {s0 : State} (x0) (x1 : State) (h : Keeps m s0 x1) (_ : m .verniers := by first | assumption | exact True.intro) : ∀ r, execVernierHalt x0 x1 = .next r → Keeps m s0 r := by unfold execVernierHalt; grind [State.haltVernier_keeps]
theorem execEyeEdataAccess_keeps {s0 : State} (x0) (x1) (x2 : State) (h : Keeps m s0 x2) (_ : m .answers := by first | assumption | exact True.intro) (_ : m .banks := by first | assumption | exact True.intro) (_ : m .lens := by first | assumption | exact True.intro) (_ : m .engines := by first | assumption | exact True.intro) : ∀ r, execEyeEdataAccess x0 x1 x2 = .next r → Keeps m s0 r := by unfold execEyeEdataAccess; grind [State.writeReg_keeps, writeEyeEdata_keeps, State.answer_keeps]
theorem execEyeMasterGo_keeps {s0 : State} (x0) (x1) (x2 : State) (h : Keeps m s0 x2) (_ : m .queues := by first | assumption | exact True.intro) (_ : m .answers := by first | assumption | exact True.intro) (_ : m .eyepiece := by first | assumption | exact True.intro) : ∀ r, execEyeMasterGo x0 x1 x2 = .next r → Keeps m s0 r := by unfold execEyeMasterGo; grind [State.writeReg_keeps, writeEyeMctl_keeps]
theorem execEyeMasterCancel_keeps {s0 : State} (x0) (x1) (x2 : State) (h : Keeps m s0 x2) (_ : m .queues := by first | assumption | exact True.intro) (_ : m .answers := by first | assumption | exact True.intro) (_ : m .eyepiece := by first | assumption | exact True.intro) : ∀ r, execEyeMasterCancel x0 x1 x2 = .next r → Keeps m s0 r := by unfold execEyeMasterCancel; grind [State.writeReg_keeps, writeEyeMctl_keeps]
theorem execEyeMasterComplete_keeps {s0 : State} (x0) (x1) (x2) (x3 : State) (h : Keeps m s0 x3) (_ : m .plates := by first | assumption | exact True.intro) (_ : m .ecc := by first | assumption | exact True.intro) (_ : m .queues := by first | assumption | exact True.intro) (_ : m .answers := by first | assumption | exact True.intro) (_ : m .eyepiece := by first | assumption | exact True.intro) : ∀ r, execEyeMasterComplete x0 x1 x2 x3 = .next r → Keeps m s0 r := by unfold execEyeMasterComplete; grind [State.serveAccess_keeps]
theorem execCrossTrigger_keeps {s0 : State} (x0 : State) (h : Keeps m s0 x0) (_ : m .verniers := by first | assumption | exact True.intro) (_ : m .engines := by first | assumption | exact True.intro) : ∀ r, execCrossTrigger x0 = .next r → Keeps m s0 r := by unfold execCrossTrigger; grind [State.passCross_keeps]
theorem execEyeFreezeWrite_keeps {s0 : State} (x0) (x1) (x2 : State) (h : Keeps m s0 x2) (_ : m .answers := by first | assumption | exact True.intro) : ∀ r, execEyeFreezeWrite x0 x1 x2 = .next r → Keeps m s0 r := by unfold execEyeFreezeWrite; grind [State.writeReg_keeps, writeEyeFreeze_keeps]
theorem execSessionExpiry_keeps {s0 : State} (x0) (x1 : State) (h : Keeps m s0 x1) (_ : m .time := by first | assumption | exact True.intro) (_ : m .events := by first | assumption | exact True.intro) (_ : m .answers := by first | assumption | exact True.intro) (_ : m .flows := by first | assumption | exact True.intro) (_ : m .verniers := by first | assumption | exact True.intro) (_ : m .timers := by first | assumption | exact True.intro) (_ : m .engines := by first | assumption | exact True.intro) (_ : m .eyepiece := by first | assumption | exact True.intro) : ∀ r, execSessionExpiry x0 x1 = .next r → Keeps m s0 r := by unfold execSessionExpiry; grind [State.sessionTime_keeps]
theorem Effect.retry_keeps {s0 : State} (x0 : State) (h : Keeps m s0 x0) : EKeeps m s0 (Effect.retry x0) := ⟨h, fun _ h => h⟩
theorem writeMboxCmd_keeps {s0 : State} (x0) (x1) (x2 : State) (h : Keeps m s0 x2) (_ : m .assistant := by first | assumption | exact True.intro) : EKeeps m s0 (writeMboxCmd x0 x1 x2) := by
  unfold writeMboxCmd
  try simp only []
  repeat' first | assumption | exact True.intro | with_reducible exact h | with_reducible apply Effect.retry_keeps | with_reducible apply Effect.ok_keeps | with_reducible apply State.put_keeps | split
  all_goals grind [Effect.retry_keeps, Effect.ok_keeps, State.put_keeps, Keeps.upd, EKeeps, Effect.ok, Effect.kept, Effect.denied, Effect.retry]
theorem writeMboxArg_keeps {s0 : State} (x0) (x1) (x2 : State) (h : Keeps m s0 x2) : EKeeps m s0 (writeMboxArg x0 x1 x2) := by unfold writeMboxArg; grind [Effect.retry_keeps, Effect.ok_keeps, State.plainWrite_keeps, EKeeps, Effect.ok, Effect.kept, Effect.denied, Effect.retry]
theorem State.putArgs_keeps {s0 : State} (x0 : State) (x1) (x2) (h : Keeps m s0 x0) : Keeps m s0 (State.putArgs x0 x1 x2) := by revert h; fun_induction State.putArgs x0 x1 x2 <;> grind [State.setReg_keeps]
theorem State.mailDone_keeps {s0 : State} (x0 : State) (x1) (x2) (h : Keeps m s0 x0) (_ : m .assistant := by first | assumption | exact True.intro) : Keeps m s0 (State.mailDone x0 x1 x2) := by
  unfold State.mailDone
  try simp only []
  repeat' first | assumption | exact True.intro | with_reducible exact h | with_reducible apply State.putArgs_keeps | with_reducible apply State.put_keeps | split
  all_goals grind [State.putArgs_keeps, State.put_keeps, Keeps.upd]
theorem writeAstFpol_keeps {s0 : State} (x0) (x1 : State) (h : Keeps m s0 x1) : EKeeps m s0 (writeAstFpol x0 x1) := by unfold writeAstFpol; grind [Effect.ok_keeps, State.plainWrite_keeps, EKeeps, Effect.ok, Effect.kept, Effect.denied, Effect.retry]
theorem writeShtStat_keeps {s0 : State} (x0) (x1 : State) (h : Keeps m s0 x1) : EKeeps m s0 (writeShtStat x0 x1) := by unfold writeShtStat; grind [Effect.ok_keeps, State.put_keeps, Effect.kept_keeps, EKeeps, Effect.ok, Effect.kept, Effect.denied, Effect.retry]
theorem writeCapW_keeps {s0 : State} (x0) (x1) (x2) (x3) (x4 : State) (h : Keeps m s0 x4) (_ : m .engines := by first | assumption | exact True.intro) : EKeeps m s0 (writeCapW x0 x1 x2 x3 x4) := by unfold writeCapW; grind [Effect.ok_keeps, State.setEng_keeps, State.commitCap_keeps, EKeeps, Effect.ok, Effect.kept, Effect.denied, Effect.retry]
theorem writeCapX_keeps {s0 : State} (x0) (x1) (x2 : State) (h : Keeps m s0 x2) : EKeeps m s0 (writeCapX x0 x1 x2) := by unfold writeCapX; grind [Effect.ok_keeps, State.plainWrite_keeps, EKeeps, Effect.ok, Effect.kept, Effect.denied, Effect.retry]
theorem State.moveDeliveries_keeps {s0 : State} (x0 : State) (x1) (x2) (h : Keeps m s0 x0) (_ : m .events := by first | assumption | exact True.intro) : Keeps m s0 (State.moveDeliveries x0 x1 x2) := by unfold State.moveDeliveries; grind [Keeps.upd]
theorem State.stopBulk_keeps {s0 : State} (x0 : State) (x1) (h : Keeps m s0 x0) (_ : m .queues := by first | assumption | exact True.intro) : Keeps m s0 (State.stopBulk x0 x1) := by unfold State.stopBulk; grind [Keeps.upd]
theorem State.mapChanged_keeps {s0 : State} (x0 : State) (x1 : State) (x2) (h : Keeps m s0 x1) (_ : m .queues := by first | assumption | exact True.intro) (_ : m .events := by first | assumption | exact True.intro) : Keeps m s0 (State.mapChanged x0 x1 x2) := by revert h; fun_induction State.mapChanged x0 x1 x2 <;> grind [State.stopBulk_keeps, State.moveDeliveries_keeps]
theorem writeEngmap_keeps {s0 : State} (x0) (x1) (x2 : State) (h : Keeps m s0 x2) (_ : m .queues := by first | assumption | exact True.intro) (_ : m .events := by first | assumption | exact True.intro) (_ : m .flows := by first | assumption | exact True.intro) : EKeeps m s0 (writeEngmap x0 x1 x2) := by unfold writeEngmap; grind [State.plainWrite_keeps, Effect.ok_keeps, State.settleAll_keeps, State.mapChanged_keeps, EKeeps, Effect.ok, Effect.kept, Effect.denied, Effect.retry]
theorem State.setRole_keeps {s0 : State} (x0 : State) (x1) (x2) (h : Keeps m s0 x0) : Keeps m s0 (State.setRole x0 x1 x2) := by unfold State.setRole; grind [State.setReg_keeps]
theorem State.pairWrite_keeps {s0 : State} (x0 : State) (x1) (x2) (x3 : State → Effect) (h : Keeps m s0 x0)
    (ha : ∀ u, Keeps m s0 u → EKeeps m s0 (x3 u)) (_ : m .answers := by first | assumption | exact True.intro) : Keeps m s0 (x0.pairWrite x1 x2 x3) := State.writeReg_keeps _ _ _ _ _ h ha
theorem State.pairPut_keeps {s0 : State} (x0 : State) (x1) (x2) (h : Keeps m s0 x0) (_ : m .answers := by first | assumption | exact True.intro) : Keeps m s0 (State.pairPut x0 x1 x2) := by unfold State.pairPut; grind [State.pairWrite_keeps, Effect.ok_keeps, State.plainWrite_keeps]
theorem State.failStop_keeps {s0 : State} (x0 : State) (x1) (h : Keeps m s0 x0) (_ : m .plates := by first | assumption | exact True.intro) (_ : m .ecc := by first | assumption | exact True.intro) (_ : m .queues := by first | assumption | exact True.intro) (_ : m .time := by first | assumption | exact True.intro) (_ : m .events := by first | assumption | exact True.intro) (_ : m .answers := by first | assumption | exact True.intro) (_ : m .flows := by first | assumption | exact True.intro) (_ : m .timers := by first | assumption | exact True.intro) (_ : m .engines := by first | assumption | exact True.intro) : Keeps m s0 (State.failStop x0 x1) := by unfold State.failStop; grind [State.pairWrite_keeps, writeEngCtl_keeps]
theorem State.copyRoutes_keeps {s0 : State} (x0 : State) (x1) (x2) (x3) (h : Keeps m s0 x0) (_ : m .events := by first | assumption | exact True.intro) (_ : m .answers := by first | assumption | exact True.intro) (_ : m .flows := by first | assumption | exact True.intro) : Keeps m s0 (State.copyRoutes x0 x1 x2 x3) := by revert h; fun_induction State.copyRoutes x0 x1 x2 x3 <;> grind [State.pairWrite_keeps, writeEvcRoute_keeps]
theorem State.failMap_keeps {s0 : State} (x0 : State) (x1) (x2) (h : Keeps m s0 x0) (_ : m .queues := by first | assumption | exact True.intro) (_ : m .events := by first | assumption | exact True.intro) (_ : m .answers := by first | assumption | exact True.intro) (_ : m .flows := by first | assumption | exact True.intro) : Keeps m s0 (State.failMap x0 x1 x2) := by unfold State.failMap; grind [State.pairWrite_keeps, writeEngmap_keeps, State.copyRoutes_keeps, writeCluQmap_keeps]
theorem State.pairCap_keeps {s0 : State} (x0 : State) (x1) (x2) (x3) (h : Keeps m s0 x0) (_ : m .answers := by first | assumption | exact True.intro) (_ : m .engines := by first | assumption | exact True.intro) : Keeps m s0 (State.pairCap x0 x1 x2 x3) := by unfold State.pairCap; grind [State.pairWrite_keeps, writeCapW_keeps]
theorem State.copyCaps_keeps {s0 : State} (x0 : State) (x1) (x2) (x3) (h : Keeps m s0 x0) (_ : m .answers := by first | assumption | exact True.intro) (_ : m .engines := by first | assumption | exact True.intro) : Keeps m s0 (State.copyCaps x0 x1 x2 x3) := by revert h; fun_induction State.copyCaps x0 x1 x2 x3 <;> grind [State.pairCap_keeps]
theorem State.copySals_keeps {s0 : State} (x0 : State) (x1) (x2) (x3) (h : Keeps m s0 x0) (_ : m .answers := by first | assumption | exact True.intro) : Keeps m s0 (State.copySals x0 x1 x2 x3) := by revert h; fun_induction State.copySals x0 x1 x2 x3 <;> grind [State.pairWrite_keeps, writeEngSal_keeps]
theorem State.failCopy_keeps {s0 : State} (x0 : State) (x1) (x2) (h : Keeps m s0 x0) (_ : m .plates := by first | assumption | exact True.intro) (_ : m .ecc := by first | assumption | exact True.intro) (_ : m .queues := by first | assumption | exact True.intro) (_ : m .time := by first | assumption | exact True.intro) (_ : m .events := by first | assumption | exact True.intro) (_ : m .answers := by first | assumption | exact True.intro) (_ : m .flows := by first | assumption | exact True.intro) (_ : m .timers := by first | assumption | exact True.intro) (_ : m .engines := by first | assumption | exact True.intro) : Keeps m s0 (State.failCopy x0 x1 x2) := by
  unfold State.failCopy
  try simp only []
  repeat' first | assumption | exact True.intro | with_reducible exact h | with_reducible apply State.copyCaps_keeps | with_reducible apply State.pairWrite_keeps | with_reducible apply writeCapX_keeps | with_reducible apply State.copySals_keeps | with_reducible apply writeEngPri_keeps | with_reducible apply writeEngCtl_keeps | with_reducible apply State.pairPut_keeps | with_reducible apply writeTmrWdper_keeps | with_reducible apply writeTmrWdctl_keeps | split
  all_goals grind [State.copyCaps_keeps, State.pairWrite_keeps, writeCapX_keeps, State.copySals_keeps, writeEngPri_keeps, writeEngCtl_keeps, State.pairPut_keeps, writeTmrWdper_keeps, writeTmrWdctl_keeps, Keeps.upd]
theorem State.failTimers_keeps {s0 : State} (x0 : State) (x1) (x2) (x3) (h : Keeps m s0 x0) (_ : m .time := by first | assumption | exact True.intro) (_ : m .events := by first | assumption | exact True.intro) (_ : m .answers := by first | assumption | exact True.intro) (_ : m .flows := by first | assumption | exact True.intro) (_ : m .timers := by first | assumption | exact True.intro) : Keeps m s0 (x0.failTimers x1 x2 x3) := by
  induction x3 generalizing x0 with
  | nil => exact h
  | cons n ns ih =>
    have hi (t : State) (ht : Keeps m s0 t) : Keeps m s0 (if t.timerRuns x1 n && !t.timerHigh x1 n then t.timerStop x1 n else t) := by
      split
      · exact State.timerStop_keeps _ _ _ ht
      · exact ht
    unfold State.failTimers
    refine ih _ (State.pairWrite_keeps _ _ _ _ (State.pairPut_keeps _ _ _ (State.pairPut_keeps _ _ _ (State.pairWrite_keeps _ _ _ _
      (State.pairWrite_keeps _ _ _ _ (hi _ (State.pairWrite_keeps _ _ _ _ h ?_)) ?_) ?_))) ?_)
    · exact fun u hu => writeTmrCtl_keeps _ _ _ _ _ hu
    · exact fun u hu => writeTmrCtl_keeps _ _ _ _ _ hu
    · exact fun u hu => writeTmrIo_keeps _ _ _ _ hu
    · exact fun u hu => writeTmrCnt_keeps _ _ _ _ hu
theorem State.dropCaps_keeps {s0 : State} (x0 : State) (x1) (x2) (h : Keeps m s0 x0) (_ : m .answers := by first | assumption | exact True.intro) (_ : m .engines := by first | assumption | exact True.intro) : Keeps m s0 (State.dropCaps x0 x1 x2) := by revert h; fun_induction State.dropCaps x0 x1 x2 <;> grind [State.pairCap_keeps]
theorem State.rewind_keeps {s0 : State} (x0 : State) (x1) (h : Keeps m s0 x0) (_ : m .queues := by first | assumption | exact True.intro) (_ : m .events := by first | assumption | exact True.intro) (_ : m .flows := by first | assumption | exact True.intro) : Keeps m s0 (State.rewind x0 x1) := by unfold State.rewind; grind [State.setQueue_keeps, State.registerEvent_keeps]
theorem State.placeBreaches_keeps {s0 : State} (x0 : State) (x1) (x2) (x3) (h : Keeps m s0 x0) (_ : m .queues := by first | assumption | exact True.intro) (_ : m .flows := by first | assumption | exact True.intro) : Keeps m s0 (State.placeBreaches x0 x1 x2 x3).2 := by revert h; fun_induction State.placeBreaches x0 x1 x2 x3 <;> grind [State.placeBreach_keeps]
theorem State.failTombstones_keeps {s0 : State} (x0 : State) (x1) (x2) (h : Keeps m s0 x0) (_ : m .queues := by first | assumption | exact True.intro) (_ : m .flows := by first | assumption | exact True.intro) : Keeps m s0 (State.failTombstones x0 x1 x2).2 := by unfold State.failTombstones; grind [State.placeBreaches_keeps]
theorem State.failFlows_keeps {s0 : State} (x0 : State) (x1) (x2) (x3) (x4) (h : Keeps m s0 x0) (_ : m .queues := by first | assumption | exact True.intro) (_ : m .events := by first | assumption | exact True.intro) (_ : m .flows := by first | assumption | exact True.intro) : Keeps m s0 (State.failFlows x0 x1 x2 x3 x4).2 := by revert h; fun_induction State.failFlows x0 x1 x2 x3 x4 <;> grind [State.failTombstones_keeps, State.rewind_keeps]
theorem State.failStart_keeps {s0 : State} (x0 : State) (x1) (h : Keeps m s0 x0) (_ : m .plates := by first | assumption | exact True.intro) (_ : m .ecc := by first | assumption | exact True.intro) (_ : m .queues := by first | assumption | exact True.intro) (_ : m .time := by first | assumption | exact True.intro) (_ : m .events := by first | assumption | exact True.intro) (_ : m .answers := by first | assumption | exact True.intro) (_ : m .flows := by first | assumption | exact True.intro) (_ : m .timers := by first | assumption | exact True.intro) (_ : m .engines := by first | assumption | exact True.intro) : Keeps m s0 (State.failStart x0 x1) := by unfold State.failStart; grind [State.pairWrite_keeps, writeEngUpc_keeps, writeEngPri_keeps, writeEngCtl_keeps]
theorem State.moveEngine_keeps {s0 : State} (x0 : State) (x1) (x2) (x3) (x4) (h : Keeps m s0 x0) (_ : m .plates := by first | assumption | exact True.intro) (_ : m .ecc := by first | assumption | exact True.intro) (_ : m .queues := by first | assumption | exact True.intro) (_ : m .time := by first | assumption | exact True.intro) (_ : m .events := by first | assumption | exact True.intro) (_ : m .answers := by first | assumption | exact True.intro) (_ : m .flows := by first | assumption | exact True.intro) (_ : m .timers := by first | assumption | exact True.intro) (_ : m .engines := by first | assumption | exact True.intro) : Keeps m s0 (State.moveEngine x0 x1 x2 x3 x4).2.2 := by
  unfold State.moveEngine
  try simp only []
  repeat' first | assumption | exact True.intro | with_reducible exact h | with_reducible apply State.failCopy_keeps | with_reducible apply State.failMap_keeps | with_reducible apply State.failStop_keeps | with_reducible apply State.dropCaps_keeps | with_reducible apply State.failTimers_keeps | with_reducible apply State.failFlows_keeps | with_reducible apply State.setRole_keeps | with_reducible apply State.failStart_keeps | with_reducible apply State.logChange_keeps | split
  all_goals grind [State.failCopy_keeps, State.failMap_keeps, State.failStop_keeps, State.dropCaps_keeps, State.failTimers_keeps, State.failFlows_keeps, State.setRole_keeps, State.failStart_keeps, State.logChange_keeps, Keeps.upd]
theorem State.moveSteps_keeps {s0 : State} (x0 : State) (x1) (x2) (x3) (x4) (h : Keeps m s0 x0) (_ : m .plates := by first | assumption | exact True.intro) (_ : m .ecc := by first | assumption | exact True.intro) (_ : m .queues := by first | assumption | exact True.intro) (_ : m .time := by first | assumption | exact True.intro) (_ : m .events := by first | assumption | exact True.intro) (_ : m .answers := by first | assumption | exact True.intro) (_ : m .flows := by first | assumption | exact True.intro) (_ : m .timers := by first | assumption | exact True.intro) (_ : m .engines := by first | assumption | exact True.intro) : Keeps m s0 (State.moveSteps x0 x1 x2 x3 x4).2 := by
  unfold State.moveSteps
  extract_lets t1 t2 t3 t4 t5
  have h1 : Keeps m s0 t1 := ite_keeps (State.failStop_keeps _ _ h) h
  have h2 : Keeps m s0 t2 := ite_keeps (State.failMap_keeps _ _ _ h1) h1
  have h3 : Keeps m s0 t3 := ite_keeps (State.failCopy_keeps _ _ _ h2) h2
  have h4 : Keeps m s0 t4 := ite_keeps (State.failTimers_keeps _ _ _ _ h3) h3
  have h5 : Keeps m s0 t5 := ite_keeps (State.dropCaps_keeps _ _ _ h4) h4
  split
  · exact State.failFlows_keeps _ _ _ _ _ h5
  · exact h5
theorem State.failAlone_keeps {s0 : State} (x0 : State) (x1) (x2) (x3) (h : Keeps m s0 x0) (_ : m .plates := by first | assumption | exact True.intro) (_ : m .ecc := by first | assumption | exact True.intro) (_ : m .queues := by first | assumption | exact True.intro) (_ : m .time := by first | assumption | exact True.intro) (_ : m .events := by first | assumption | exact True.intro) (_ : m .answers := by first | assumption | exact True.intro) (_ : m .flows := by first | assumption | exact True.intro) (_ : m .timers := by first | assumption | exact True.intro) (_ : m .engines := by first | assumption | exact True.intro) : Keeps m s0 (State.failAlone x0 x1 x2 x3).2 := by revert h; fun_induction State.failAlone x0 x1 x2 x3 <;> grind [State.failFlows_keeps, State.failStop_keeps]
theorem State.abandonMove_keeps {s0 : State} (x0 : State) (x1) (x2) (x3) (x4) (h : Keeps m s0 x0) (_ : m .plates := by first | assumption | exact True.intro) (_ : m .ecc := by first | assumption | exact True.intro) (_ : m .queues := by first | assumption | exact True.intro) (_ : m .time := by first | assumption | exact True.intro) (_ : m .events := by first | assumption | exact True.intro) (_ : m .answers := by first | assumption | exact True.intro) (_ : m .flows := by first | assumption | exact True.intro) (_ : m .timers := by first | assumption | exact True.intro) (_ : m .engines := by first | assumption | exact True.intro) : Keeps m s0 (State.abandonMove x0 x1 x2 x3 x4).2 := by unfold State.abandonMove; grind [State.failAlone_keeps, State.moveSteps_keeps]
theorem State.failOver_keeps {s0 : State} (x0 : State) (x1) (x2) (h : Keeps m s0 x0) (_ : m .plates := by first | assumption | exact True.intro) (_ : m .ecc := by first | assumption | exact True.intro) (_ : m .queues := by first | assumption | exact True.intro) (_ : m .time := by first | assumption | exact True.intro) (_ : m .events := by first | assumption | exact True.intro) (_ : m .answers := by first | assumption | exact True.intro) (_ : m .flows := by first | assumption | exact True.intro) (_ : m .timers := by first | assumption | exact True.intro) (_ : m .engines := by first | assumption | exact True.intro) : Keeps m s0 (State.failOver x0 x1 x2).2.2.2 := by unfold State.failOver; grind [State.failAlone_keeps, State.fresh_keeps, State.abandonMove_keeps, State.moveEngine_keeps]
theorem State.countViolation_keeps {s0 : State} (x0 : State) (x1) (h : Keeps m s0 x0) (_ : m .assistant := by first | assumption | exact True.intro) : Keeps m s0 (State.countViolation x0 x1) := by unfold State.countViolation; grind [Keeps.upd]
theorem State.faultResponse_keeps {s0 : State} (x0 : State) (x1) (h : Keeps m s0 x0) (_ : m .plates := by first | assumption | exact True.intro) (_ : m .ecc := by first | assumption | exact True.intro) (_ : m .queues := by first | assumption | exact True.intro) (_ : m .time := by first | assumption | exact True.intro) (_ : m .events := by first | assumption | exact True.intro) (_ : m .answers := by first | assumption | exact True.intro) (_ : m .flows := by first | assumption | exact True.intro) (_ : m .timers := by first | assumption | exact True.intro) (_ : m .engines := by first | assumption | exact True.intro) (_ : m .assistant := by first | assumption | exact True.intro) : Keeps m s0 (State.faultResponse x0 x1) := by unfold State.faultResponse; grind [State.countViolation_keeps, State.failOver_keeps]
theorem State.setCutReq_keeps {s0 : State} (x0 : State) (x1) (x2) (h : Keeps m s0 x0) (_ : m .engines := by first | assumption | exact True.intro) : Keeps m s0 (State.setCutReq x0 x1 x2) := by unfold State.setCutReq; grind [State.setEng_keeps]
theorem State.cutOver_keeps {s0 : State} (x0 : State) (x1) (h : Keeps m s0 x0) (_ : m .plates := by first | assumption | exact True.intro) (_ : m .ecc := by first | assumption | exact True.intro) (_ : m .queues := by first | assumption | exact True.intro) (_ : m .time := by first | assumption | exact True.intro) (_ : m .events := by first | assumption | exact True.intro) (_ : m .answers := by first | assumption | exact True.intro) (_ : m .flows := by first | assumption | exact True.intro) (_ : m .timers := by first | assumption | exact True.intro) (_ : m .engines := by first | assumption | exact True.intro) (_ : m .assistant := by first | assumption | exact True.intro) : Keeps m s0 (State.cutOver x0 x1) := by
  unfold State.cutOver
  try simp only []
  repeat' first | assumption | exact True.intro | with_reducible exact h | with_reducible apply State.moveEngine_keeps | with_reducible apply State.setCutReq_keeps | with_reducible apply State.setRole_keeps | with_reducible apply State.fresh_keeps | with_reducible apply State.mailDone_keeps | split
  all_goals grind [State.moveEngine_keeps, State.setCutReq_keeps, State.setRole_keeps, State.fresh_keeps, State.mailDone_keeps, Keeps.upd]
theorem State.cutTimeout_keeps {s0 : State} (x0 : State) (x1) (h : Keeps m s0 x0) (_ : m .engines := by first | assumption | exact True.intro) (_ : m .assistant := by first | assumption | exact True.intro) : Keeps m s0 (State.cutTimeout x0 x1) := by
  unfold State.cutTimeout
  try simp only []
  repeat' first | assumption | exact True.intro | with_reducible exact h | with_reducible apply State.setCutReq_keeps | with_reducible apply State.mailDone_keeps | split
  all_goals grind [State.setCutReq_keeps, State.mailDone_keeps, Keeps.upd]
theorem State.pairFails_keeps {s0 : State} (x0 : State) (x1) (h : Keeps m s0 x0) : Keeps m s0 (State.pairFails x0 x1) := by unfold State.pairFails; grind [State.put_keeps]
theorem State.shutterFreeze_keeps {s0 : State} (x0 : State) (h : Keeps m s0 x0) (_ : m .plates := by first | assumption | exact True.intro) (_ : m .ecc := by first | assumption | exact True.intro) (_ : m .queues := by first | assumption | exact True.intro) (_ : m .time := by first | assumption | exact True.intro) (_ : m .events := by first | assumption | exact True.intro) (_ : m .answers := by first | assumption | exact True.intro) (_ : m .flows := by first | assumption | exact True.intro) (_ : m .timers := by first | assumption | exact True.intro) (_ : m .engines := by first | assumption | exact True.intro) (_ : m .assistant := by first | assumption | exact True.intro) : Keeps m s0 (State.shutterFreeze x0) := by
  have ha (t : State) (x : Assistant) (ht : Keeps m s0 t) : Keeps m s0 { t with assistant := x } := Keeps.of _ _ _ ht rfl rfl rfl rfl
  unfold State.shutterFreeze
  exact State.settleAll_keeps _ (State.stopEngines_keeps _ _ (ha _ _ (State.count_keeps _ _ _ (State.put_keeps _ _ _ (State.put_keeps _ _ _ (State.leaveNap_keeps _ h))))))
theorem State.shutterTombstones_keeps {s0 : State} (x0 : State) (h : Keeps m s0 x0) (_ : m .queues := by first | assumption | exact True.intro) (_ : m .flows := by first | assumption | exact True.intro) : Keeps m s0 (State.shutterTombstones x0) := by unfold State.shutterTombstones; grind [State.tombstoneAll_keeps, State.put_keeps]
theorem State.offChannels_keeps {s0 : State} (x0 : State) (x1) (h : Keeps m s0 x0) (_ : m .occultation := by first | assumption | exact True.intro) : Keeps m s0 (State.offChannels x0 x1) := by revert h; fun_induction State.offChannels x0 x1 <;> grind [State.put_keeps, State.setChannel_keeps]
theorem State.shutterReport_keeps {s0 : State} (x0 : State) (h : Keeps m s0 x0) (_ : m .queues := by first | assumption | exact True.intro) (_ : m .events := by first | assumption | exact True.intro) (_ : m .answers := by first | assumption | exact True.intro) (_ : m .flows := by first | assumption | exact True.intro) (_ : m .clockDrive := by first | assumption | exact True.intro) (_ : m .occultation := by first | assumption | exact True.intro) (_ : m .constellation := by first | assumption | exact True.intro) : Keeps m s0 (State.shutterReport x0) := by
  unfold State.shutterReport
  extract_lets f t1 t2
  have h1 : Keeps m s0 t1 := State.logChange_keeps _ _ _ _ _ _ _ _ (State.fresh_keeps _ _ h)
  have h2 : Keeps m s0 t2 := State.put_keeps _ _ _ (State.registerEvent_keeps _ _ (State.put_keeps _ _ _ (State.put_keeps _ _ _ h1)))
  exact ite_keeps (State.put_keeps _ _ _ h2) (State.settleAll_keeps _ (State.offChannels_keeps _ _ (State.enterLoading_keeps _ (State.count_keeps _ _ _ (State.put_keeps _ _ _
    (State.linksLost_keeps _ h2))))))
theorem State.stopTimer_keeps {s0 : State} (x0 : State) (x1) (x2) (h : Keeps m s0 x0) (_ : m .time := by first | assumption | exact True.intro) (_ : m .events := by first | assumption | exact True.intro) (_ : m .flows := by first | assumption | exact True.intro) (_ : m .timers := by first | assumption | exact True.intro) : Keeps m s0 (State.stopTimer x0 x1 x2) := by unfold State.stopTimer; grind [State.put_keeps, State.timerStop_keeps]
theorem State.stopVerniers_keeps {s0 : State} (x0 : State) (x1) (h : Keeps m s0 x0) (_ : m .verniers := by first | assumption | exact True.intro) : Keeps m s0 (State.stopVerniers x0 x1) := by revert h; fun_induction State.stopVerniers x0 x1 <;> grind [State.vernierStop_keeps, State.releaseVernier_keeps]
theorem State.isolate_keeps {s0 : State} (x0 : State) (h : Keeps m s0 x0) (_ : m .plates := by first | assumption | exact True.intro) (_ : m .ecc := by first | assumption | exact True.intro) (_ : m .queues := by first | assumption | exact True.intro) (_ : m .time := by first | assumption | exact True.intro) (_ : m .events := by first | assumption | exact True.intro) (_ : m .answers := by first | assumption | exact True.intro) (_ : m .flows := by first | assumption | exact True.intro) (_ : m .verniers := by first | assumption | exact True.intro) (_ : m .timers := by first | assumption | exact True.intro) (_ : m .engines := by first | assumption | exact True.intro) : Keeps m s0 (State.isolate x0) := by
  unfold State.isolate
  extract_lets t1 t2
  have h1 : Keeps m s0 t1 := State.put_keeps _ _ _ (State.put_keeps _ _ _ (State.put_keeps _ _ _ (State.put_keeps _ _ _ h)))
  have h2 : Keeps m s0 t2 := State.stopVerniers_keeps _ _ (State.stopEngines_keeps _ _ h1)
  exact State.settleAll_keeps _ (State.eachTimer_keeps _ _ _ h2 fun u a b hu => State.stopTimer_keeps _ _ _ hu)
theorem execEngmapWrite_keeps {s0 : State} (x0) (x1) (x2) (x3 : State) (h : Keeps m s0 x3) (_ : m .queues := by first | assumption | exact True.intro) (_ : m .events := by first | assumption | exact True.intro) (_ : m .answers := by first | assumption | exact True.intro) (_ : m .flows := by first | assumption | exact True.intro) : ∀ r, execEngmapWrite x0 x1 x2 x3 = .next r → Keeps m s0 r := by unfold execEngmapWrite; grind [State.writeReg_keeps, writeEngmap_keeps]
theorem execEngineFaultResponse_keeps {s0 : State} (x0) (x1 : State) (h : Keeps m s0 x1) (_ : m .plates := by first | assumption | exact True.intro) (_ : m .ecc := by first | assumption | exact True.intro) (_ : m .queues := by first | assumption | exact True.intro) (_ : m .time := by first | assumption | exact True.intro) (_ : m .events := by first | assumption | exact True.intro) (_ : m .answers := by first | assumption | exact True.intro) (_ : m .flows := by first | assumption | exact True.intro) (_ : m .timers := by first | assumption | exact True.intro) (_ : m .engines := by first | assumption | exact True.intro) (_ : m .assistant := by first | assumption | exact True.intro) : ∀ r, execEngineFaultResponse x0 x1 = .next r → Keeps m s0 r := by
  unfold execEngineFaultResponse
  try simp only []
  repeat' first | assumption | exact True.intro | with_reducible exact h | with_reducible apply State.faultResponse_keeps | split
  all_goals grind [State.faultResponse_keeps, Keeps.upd]
theorem execCutOver_keeps {s0 : State} (x0 : State) (h : Keeps m s0 x0) (_ : m .plates := by first | assumption | exact True.intro) (_ : m .ecc := by first | assumption | exact True.intro) (_ : m .queues := by first | assumption | exact True.intro) (_ : m .time := by first | assumption | exact True.intro) (_ : m .events := by first | assumption | exact True.intro) (_ : m .answers := by first | assumption | exact True.intro) (_ : m .flows := by first | assumption | exact True.intro) (_ : m .timers := by first | assumption | exact True.intro) (_ : m .engines := by first | assumption | exact True.intro) (_ : m .assistant := by first | assumption | exact True.intro) : ∀ r, execCutOver x0 = .next r → Keeps m s0 r := by unfold execCutOver; grind [State.cutOver_keeps]
theorem execCutOverTimeout_keeps {s0 : State} (x0 : State) (h : Keeps m s0 x0) (_ : m .engines := by first | assumption | exact True.intro) (_ : m .assistant := by first | assumption | exact True.intro) : ∀ r, execCutOverTimeout x0 = .next r → Keeps m s0 r := by unfold execCutOverTimeout; grind [State.cutTimeout_keeps]
theorem execLockstepMismatch_keeps {s0 : State} (x0 : State) (h : Keeps m s0 x0) : ∀ r, execLockstepMismatch x0 = .next r → Keeps m s0 r := by unfold execLockstepMismatch; grind [State.pairFails_keeps]
theorem execAssistantWatchdogExpiry_keeps {s0 : State} (x0 : State) (h : Keeps m s0 x0) : ∀ r, execAssistantWatchdogExpiry x0 = .next r → Keeps m s0 r := by unfold execAssistantWatchdogExpiry; grind [State.pairFails_keeps]
theorem execShutterTakeover_keeps {s0 : State} (x0 : State) (h : Keeps m s0 x0) (_ : m .plates := by first | assumption | exact True.intro) (_ : m .ecc := by first | assumption | exact True.intro) (_ : m .queues := by first | assumption | exact True.intro) (_ : m .time := by first | assumption | exact True.intro) (_ : m .events := by first | assumption | exact True.intro) (_ : m .answers := by first | assumption | exact True.intro) (_ : m .flows := by first | assumption | exact True.intro) (_ : m .timers := by first | assumption | exact True.intro) (_ : m .engines := by first | assumption | exact True.intro) (_ : m .assistant := by first | assumption | exact True.intro) : ∀ r, execShutterTakeover x0 = .next r → Keeps m s0 r := by unfold execShutterTakeover; grind [State.shutterTombstones_keeps, State.shutterFreeze_keeps]
theorem execShutterDrainEnd_keeps {s0 : State} (x0 : State) (h : Keeps m s0 x0) (_ : m .queues := by first | assumption | exact True.intro) (_ : m .events := by first | assumption | exact True.intro) (_ : m .answers := by first | assumption | exact True.intro) (_ : m .flows := by first | assumption | exact True.intro) (_ : m .clockDrive := by first | assumption | exact True.intro) (_ : m .occultation := by first | assumption | exact True.intro) (_ : m .constellation := by first | assumption | exact True.intro) : ∀ r, execShutterDrainEnd x0 = .next r → Keeps m s0 r := by unfold execShutterDrainEnd; grind [State.shutterReport_keeps]
theorem execShutterSelfCheckFailure_keeps {s0 : State} (x0 : State) (h : Keeps m s0 x0) (_ : m .plates := by first | assumption | exact True.intro) (_ : m .ecc := by first | assumption | exact True.intro) (_ : m .queues := by first | assumption | exact True.intro) (_ : m .time := by first | assumption | exact True.intro) (_ : m .events := by first | assumption | exact True.intro) (_ : m .answers := by first | assumption | exact True.intro) (_ : m .flows := by first | assumption | exact True.intro) (_ : m .verniers := by first | assumption | exact True.intro) (_ : m .timers := by first | assumption | exact True.intro) (_ : m .engines := by first | assumption | exact True.intro) : ∀ r, execShutterSelfCheckFailure x0 = .next r → Keeps m s0 r := by unfold execShutterSelfCheckFailure; grind [State.isolate_keeps]
theorem execShtStatFaultClear_keeps {s0 : State} (x0) (x1) (x2 : State) (h : Keeps m s0 x2) (_ : m .answers := by first | assumption | exact True.intro) : ∀ r, execShtStatFaultClear x0 x1 x2 = .next r → Keeps m s0 r := by unfold execShtStatFaultClear; grind [State.writeReg_keeps, writeShtStat_keeps]

end Sys2Proof.Machine
end

