-- ==== Sys2Proof/Laws/KeepsLoad.lean ====
section
/-! SUPPORT. What every command keeps: the lemmas of the bus, the loader and the mailbox. -/

namespace Sys2Proof.Machine

set_option Elab.async false
variable {m : Part → Prop}

theorem writePlain_keeps {s0 : State} (x0) (x1) (x2 : State) (h : Keeps m s0 x2) : EKeeps m s0 (writePlain x0 x1 x2) := by unfold writePlain; grind [Effect.ok_keeps, State.plainWrite_keeps, EKeeps, Effect.ok, Effect.kept, Effect.denied, Effect.retry]
theorem writeChtSrc_keeps {s0 : State} (x0) (x1 : State) (h : Keeps m s0 x1) : EKeeps m s0 (writeChtSrc x0 x1) := by unfold writeChtSrc; grind [Effect.kept_keeps, writePlain_keeps, EKeeps, Effect.ok, Effect.kept, Effect.denied, Effect.retry]
theorem writeCapIdx_keeps {s0 : State} (x0) (x1) (x2 : State) (h : Keeps m s0 x2) : EKeeps m s0 (writeCapIdx x0 x1 x2) := by unfold writeCapIdx; grind [Effect.kept_keeps, writePlain_keeps, EKeeps, Effect.ok, Effect.kept, Effect.denied, Effect.retry]
theorem rulesCluster_keeps {s0 : State} (x0) (x1) (x2) (x3 : State) (h : Keeps AllParts s0 x3) : EKeeps AllParts s0 (rulesCluster x0 x1 x2 x3) := by
  unfold rulesCluster
  with_reducible repeat' first | assumption | exact True.intro | refine writeCluCtl_keeps _ _ h | refine writeCluAttach_keeps _ _ h | refine writeCluQmap_keeps _ _ _ h | refine writeClkOscTol_keeps _ _ h | refine writeClkSsc_keeps _ _ h | refine writeClkPwrctl_keeps _ _ h | refine writeTamperPol_keeps _ _ h | refine writeSecMesh_keeps _ _ h | refine writeAuthq_keeps _ _ _ _ h | refine writeLogTail_keeps _ _ h | refine writeLogSpillrd_keeps _ _ h | refine writeChtSrc_keeps _ _ h | refine writePlain_keeps _ _ _ h | refine EKeeps.ite ?_ ?_
theorem rulesRegulator_keeps {s0 : State} (x0) (x1) (x2) (x3 : State) (h : Keeps m s0 x3) (_ : m .time := by first | assumption | exact True.intro) (_ : m .clockDrive := by first | assumption | exact True.intro) : EKeeps m s0 (rulesRegulator x0 x1 x2 x3) := by unfold rulesRegulator; grind [writeRglSnap_keeps, writeRglSrvOwn_keeps, Effect.ok_keeps, writeAlmTime_keeps, writeRglStep_keeps, writeRglPlain_keeps, writeRglRate_keeps, writeAlmCtl_keeps, writeRglQual_keeps, writePlain_keeps, EKeeps, Effect.ok, Effect.kept, Effect.denied, Effect.retry]
theorem rulesClockDrive_keeps {s0 : State} (x0) (x1) (x2) (x3 : State) (h : Keeps m s0 x3) (_ : m .time := by first | assumption | exact True.intro) (_ : m .events := by first | assumption | exact True.intro) (_ : m .flows := by first | assumption | exact True.intro) (_ : m .timers := by first | assumption | exact True.intro) (_ : m .clockDrive := by first | assumption | exact True.intro) : EKeeps m s0 (rulesClockDrive x0 x1 x2 x3) := by unfold rulesClockDrive; grind [writeCdrSnap_keeps, writePtCtl_keeps, writePtCfg_keeps, writePtSrc_keeps, writePlain_keeps, writePalmCtl_keeps, writePalmValue_keeps, Effect.ok_keeps, EKeeps, Effect.ok, Effect.kept, Effect.denied, Effect.retry]
theorem rulesEvent_keeps {s0 : State} (x0) (x1) (x2) (x3 : State) (h : Keeps m s0 x3) (_ : m .events := by first | assumption | exact True.intro) (_ : m .flows := by first | assumption | exact True.intro) : EKeeps m s0 (rulesEvent x0 x1 x2 x3) := by unfold rulesEvent; grind [writeEvcDoor_keeps, writeEvcMask_keeps, writeEvcPend_keeps, writeEvcRoute_keeps, writePlain_keeps, EKeeps, Effect.ok, Effect.kept, Effect.denied, Effect.retry]
theorem rulesAssistant_keeps {s0 : State} (x0) (x1) (x2) (x3 : State) (h : Keeps m s0 x3) (_ : m .queues := by first | assumption | exact True.intro) (_ : m .events := by first | assumption | exact True.intro) (_ : m .flows := by first | assumption | exact True.intro) (_ : m .assistant := by first | assumption | exact True.intro) : EKeeps m s0 (rulesAssistant x0 x1 x2 x3) := by unfold rulesAssistant; grind [writeMboxCmd_keeps, writeMboxArg_keeps, writeAstFpol_keeps, writeEngmap_keeps, writeShtStat_keeps, writePlain_keeps, EKeeps, Effect.ok, Effect.kept, Effect.denied, Effect.retry]
theorem rulesQueue_keeps {s0 : State} (x0) (x1) (x2) (x3 : State) (h : Keeps m s0 x3) (_ : m .ecc := by first | assumption | exact True.intro) (_ : m .queues := by first | assumption | exact True.intro) (_ : m .events := by first | assumption | exact True.intro) (_ : m .flows := by first | assumption | exact True.intro) : EKeeps m s0 (rulesQueue x0 x1 x2 x3) := by unfold rulesQueue; grind [writeQmQcmd_keeps, writePltOwn_keeps, writePlain_keeps, EKeeps, Effect.ok, Effect.kept, Effect.denied, Effect.retry]
theorem rulesFramePort_keeps {s0 : State} (x0) (x1) (x2 : State) (h : Keeps m s0 x2) (_ : m .events := by first | assumption | exact True.intro) (_ : m .flows := by first | assumption | exact True.intro) (_ : m .framePorts := by first | assumption | exact True.intro) : EKeeps m s0 (rulesFramePort x0 x1 x2) := by unfold rulesFramePort; grind [writePlain_keeps, writeFptCtl_keeps, writeFptPhy_keeps, writeFptRed_keeps, writeFptGctl_keeps, EKeeps, Effect.ok, Effect.kept, Effect.denied, Effect.retry]
theorem rulesVernier_keeps {s0 : State} (x0) (x1) (x2 : State) (h : Keeps m s0 x2) (_ : m .time := by first | assumption | exact True.intro) (_ : m .events := by first | assumption | exact True.intro) (_ : m .flows := by first | assumption | exact True.intro) (_ : m .verniers := by first | assumption | exact True.intro) : EKeeps m s0 (rulesVernier x0 x1 x2) := by unfold rulesVernier; grind [writeVrnCtl_keeps, writeVrnClk_keeps, writeVrnPins_keeps, writePlain_keeps, writeVrnGstart_keeps, writeFldCfg_keeps, writeFldPps_keeps, writeFldPpsofs_keeps, EKeeps, Effect.ok, Effect.kept, Effect.denied, Effect.retry]
theorem rulesOccultation_keeps {s0 : State} (x0) (x1) (x2) (x3 : State) (h : Keeps m s0 x3) (_ : m .occultation := by first | assumption | exact True.intro) : EKeeps m s0 (rulesOccultation x0 x1 x2 x3) := by
  unfold rulesOccultation
  try simp only []
  repeat' first | assumption | exact True.intro | with_reducible exact h | with_reducible apply writeOccChctl_keeps | with_reducible apply writeOccChcfg_keeps | with_reducible apply writeOccThr_keeps | with_reducible apply writeOccWindow_keeps | with_reducible apply writePlain_keeps | with_reducible apply Effect.ok_keeps | split
  all_goals grind [writeOccChctl_keeps, writeOccChcfg_keeps, writeOccThr_keeps, writeOccWindow_keeps, writePlain_keeps, Effect.ok_keeps, Keeps.upd, EKeeps, Effect.ok, Effect.kept, Effect.denied, Effect.retry]
theorem rulesConstEye_keeps {s0 : State} (x0) (x1) (x2) (x3 : State) (h : Keeps m s0 x3) (_ : m .queues := by first | assumption | exact True.intro) (_ : m .time := by first | assumption | exact True.intro) (_ : m .events := by first | assumption | exact True.intro) (_ : m .answers := by first | assumption | exact True.intro) (_ : m .flows := by first | assumption | exact True.intro) (_ : m .verniers := by first | assumption | exact True.intro) (_ : m .timers := by first | assumption | exact True.intro) (_ : m .clockDrive := by first | assumption | exact True.intro) (_ : m .banks := by first | assumption | exact True.intro) (_ : m .lens := by first | assumption | exact True.intro) (_ : m .engines := by first | assumption | exact True.intro) (_ : m .constellation := by first | assumption | exact True.intro) (_ : m .eyepiece := by first | assumption | exact True.intro) : EKeeps m s0 (rulesConstEye x0 x1 x2 x3) := by
  unfold rulesConstEye
  with_reducible repeat' first | assumption | exact True.intro | refine writeCstCfg_keeps _ _ h | refine writeCstCand_keeps _ _ h | refine writeCstServo_keeps _ _ h | refine writeCstLnkctl_keeps _ _ _ h | refine writeCstAsym_keeps _ _ _ h | refine writeEyeCtl_keeps _ _ _ h | refine writeEyeFreeze_keeps _ _ _ h | refine writeRunctl_keeps _ _ _ _ h | refine writeEyeEdata_keeps _ _ _ h | refine writeEyeMctl_keeps _ _ h | refine writePlain_keeps _ _ _ h | refine EKeeps.ite ?_ ?_
theorem rulesTimer_keeps {s0 : State} (x0) (x1) (x2) (x3) (x4) (x5 : State) (h : Keeps m s0 x5) (_ : m .time := by first | assumption | exact True.intro) (_ : m .events := by first | assumption | exact True.intro) (_ : m .flows := by first | assumption | exact True.intro) (_ : m .timers := by first | assumption | exact True.intro) : EKeeps m s0 (rulesTimer x0 x1 x2 x3 x4 x5) := by unfold rulesTimer; grind [writeTmrCtl_keeps, writeTmrCnt_keeps, writeTmrIo_keeps, writePlain_keeps, writeTmrWdctl_keeps, writeTmrWdper_keeps, Effect.ok_keeps, State.watchdogKick_keeps, EKeeps, Effect.ok, Effect.kept, Effect.denied, Effect.retry]
theorem rulesEngine_keeps {s0 : State} (x0) (x1) (x2) (x3 : State) (h : Keeps m s0 x3) (_ : m .plates := by first | assumption | exact True.intro) (_ : m .ecc := by first | assumption | exact True.intro) (_ : m .queues := by first | assumption | exact True.intro) (_ : m .time := by first | assumption | exact True.intro) (_ : m .events := by first | assumption | exact True.intro) (_ : m .answers := by first | assumption | exact True.intro) (_ : m .flows := by first | assumption | exact True.intro) (_ : m .timers := by first | assumption | exact True.intro) (_ : m .store := by first | assumption | exact True.intro) (_ : m .engines := by first | assumption | exact True.intro) : EKeeps m s0 (rulesEngine x0 x1 x2 x3) := by
  unfold rulesEngine
  try simp only []
  repeat' first | assumption | exact True.intro | with_reducible exact h | with_reducible apply writeEngCtl_keeps | with_reducible apply writeEngUpc_keeps | with_reducible apply writeWcsAddr_keeps | with_reducible apply writeWcsD_keeps | with_reducible apply writeEngPri_keeps | with_reducible apply writeEngSal_keeps | with_reducible apply rulesTimer_keeps | with_reducible apply writeCapIdx_keeps | with_reducible apply writeCapX_keeps | with_reducible apply writeDcmp_keeps | with_reducible apply writePlain_keeps | split
  all_goals grind [writeEngCtl_keeps, writeEngUpc_keeps, writeWcsAddr_keeps, writeWcsD_keeps, writeEngPri_keeps, writeEngSal_keeps, rulesTimer_keeps, writeCapIdx_keeps, writeCapX_keeps, writeDcmp_keeps, writePlain_keeps, Keeps.upd, EKeeps, Effect.ok, Effect.kept, Effect.denied, Effect.retry]
theorem rulesBanked_keeps {s0 : State} (x0) (x1) (x2) (x3 : State) (h : Keeps m s0 x3) (_ : m .queues := by first | assumption | exact True.intro) (_ : m .events := by first | assumption | exact True.intro) (_ : m .answers := by first | assumption | exact True.intro) (_ : m .flows := by first | assumption | exact True.intro) (_ : m .framePorts := by first | assumption | exact True.intro) (_ : m .clockDrive := by first | assumption | exact True.intro) (_ : m .engines := by first | assumption | exact True.intro) : EKeeps m s0 (rulesBanked x0 x1 x2 x3) := by unfold rulesBanked; grind [writeRglPincal_keeps, writeEphLo_keeps, writeEphHi_keeps, writeCapW_keeps, writeQmPbase_keeps, writeQmPcfg_keeps, writeFptFrw_keeps, writeFptFrw6_keeps, writeFptGent_keeps, writeFptFtw_keeps, writeFptFtw3_keeps, writeFptRcvcfg_keeps, writeCstChcfg_keeps, writePlain_keeps, writeVrnImem_keeps, writeQmQring_keeps, writeQmQcfg_keeps, writeQmQspill_keeps, writeQmQsplen_keeps, writeQmQstat_keeps, EKeeps, Effect.ok, Effect.kept, Effect.denied, Effect.retry]
theorem registerRules_keeps {s0 : State} (x0) (x1) (x2) (x3 : State) (h : Keeps AllParts s0 x3) : EKeeps AllParts s0 (registerRules x0 x1 x2 x3) := by
  unfold registerRules
  with_reducible repeat' first | assumption | exact True.intro | refine Effect.ok_keeps _ h | refine rulesCluster_keeps _ _ _ _ h | refine rulesRegulator_keeps _ _ _ _ h | refine rulesClockDrive_keeps _ _ _ _ h | refine rulesEvent_keeps _ _ _ _ h | refine rulesAssistant_keeps _ _ _ _ h | refine rulesQueue_keeps _ _ _ _ h | refine rulesFramePort_keeps _ _ _ h | refine rulesVernier_keeps _ _ _ h | refine rulesOccultation_keeps _ _ _ _ h | refine rulesConstEye_keeps _ _ _ _ h | refine rulesEngine_keeps _ _ _ _ h | refine rulesBanked_keeps _ _ _ _ h | refine EKeeps.ite ?_ ?_
theorem State.writeKey_keeps {s0 : State} (x0 : State) (x1) (x2) (x3) (h : Keeps AllParts s0 x0) : Keeps AllParts s0 (State.writeKey x0 x1 x2 x3) := by unfold State.writeKey; grind [State.writeAs_keeps, registerRules_keeps]
theorem State.writeOffset_keeps {s0 : State} (x0 : State) (x1) (x2) (x3) (h : Keeps AllParts s0 x0) : Keeps AllParts s0 (State.writeOffset x0 x1 x2 x3) := by unfold State.writeOffset; grind [State.writeKey_keeps, State.respond_keeps]
theorem State.clearRead_keeps {s0 : State} (x0 : State) (x1) (h : Keeps m s0 x0) : Keeps m s0 (State.clearRead x0 x1) := by unfold State.clearRead; grind [State.setReg_keeps]
theorem State.quietWcsD_keeps {s0 : State} (x0 : State) (x1) (x2) (h : Keeps m s0 x0) (_ : m .eyepiece := by first | assumption | exact True.intro) : Keeps m s0 (State.quietWcsD x0 x1 x2).2.2 := by unfold State.quietWcsD; grind [Keeps.upd]
theorem State.readKey_keeps {s0 : State} (x0 : State) (x1) (x2) (x3) (h : Keeps m s0 x0) (_ : m .engines := by first | assumption | exact True.intro) (_ : m .eyepiece := by first | assumption | exact True.intro) : Keeps m s0 (State.readKey x0 x1 x2 x3).2.2 := by unfold State.readKey; grind [State.pcapRead_keeps, State.quietWcsD_keeps, State.readWcsD_keeps, State.captureRead_keeps, State.clearRead_keeps]
theorem State.readBy_keeps {s0 : State} (x0 : State) (x1) (x2) (x3) (x4) (h : Keeps m s0 x0) (_ : m .answers := by first | assumption | exact True.intro) (_ : m .engines := by first | assumption | exact True.intro) (_ : m .eyepiece := by first | assumption | exact True.intro) : Keeps m s0 (State.readBy x0 x1 x2 x3 x4) := by unfold State.readBy; grind [State.answer_keeps, State.readKey_keeps]
theorem State.hostTransaction_keeps {s0 : State} (x0 : State) (x1) (x2) (x3) (x4) (x5) (x6) (h : Keeps AllParts s0 x0) : Keeps AllParts s0 (State.hostTransaction x0 x1 x2 x3 x4 x5 x6) := by unfold State.hostTransaction; grind [State.hostPlate_keeps, State.hostAnswer_keeps, State.writeOffset_keeps, State.readBy_keeps]
theorem State.liveRecord_keeps {s0 : State} (x0 : State) (x1) (x2) (h : Keeps m s0 x0) (_ : m .plates := by first | assumption | exact True.intro) (_ : m .ecc := by first | assumption | exact True.intro) (_ : m .answers := by first | assumption | exact True.intro) : Keeps m s0 (State.liveRecord x0 x1 x2) := by unfold State.liveRecord; grind [State.placeAll_keeps, State.logChange_keeps]
theorem State.liveRead_keeps {s0 : State} (x0 : State) (x1) (x2) (h : Keeps m s0 x0) (_ : m .plates := by first | assumption | exact True.intro) (_ : m .ecc := by first | assumption | exact True.intro) (_ : m .answers := by first | assumption | exact True.intro) (_ : m .engines := by first | assumption | exact True.intro) (_ : m .eyepiece := by first | assumption | exact True.intro) : Keeps m s0 (State.liveRead x0 x1 x2) := by unfold State.liveRead; grind [State.answer_keeps, State.liveRecord_keeps, State.readBy_keeps, State.put_keeps, State.readKey_keeps]
theorem State.eyeRead_keeps {s0 : State} (x0 : State) (x1) (x2) (h : Keeps m s0 x0) (_ : m .plates := by first | assumption | exact True.intro) (_ : m .ecc := by first | assumption | exact True.intro) (_ : m .answers := by first | assumption | exact True.intro) (_ : m .engines := by first | assumption | exact True.intro) (_ : m .eyepiece := by first | assumption | exact True.intro) : Keeps m s0 (State.eyeRead x0 x1 x2) := by unfold State.eyeRead; grind [State.answer_keeps, State.readBy_keeps, State.liveRead_keeps]
theorem State.eyePlate_keeps {s0 : State} (x0 : State) (x1) (x2) (x3) (h : Keeps m s0 x0) (_ : m .queues := by first | assumption | exact True.intro) (_ : m .answers := by first | assumption | exact True.intro) (_ : m .eyepiece := by first | assumption | exact True.intro) : Keeps m s0 (State.eyePlate x0 x1 x2 x3) := by
  have he (t : State) (x : Eyepiece) (ht : Keeps m s0 t) : Keeps m s0 { t with eyepiece := x } := Keeps.of _ _ _ ht rfl rfl rfl rfl
  unfold State.eyePlate
  exact ite_keeps (State.answer_keeps _ _ _ _ h) (ite_keeps (he _ _ (State.beginAccess_keeps _ _ h)) (State.answer_keeps _ _ _ _ h))
theorem State.debugPower_keeps {s0 : State} (x0 : State) (h : Keeps m s0 x0) (_ : m .queues := by first | assumption | exact True.intro) (_ : m .time := by first | assumption | exact True.intro) (_ : m .events := by first | assumption | exact True.intro) (_ : m .answers := by first | assumption | exact True.intro) (_ : m .power := by first | assumption | exact True.intro) (_ : m .flows := by first | assumption | exact True.intro) (_ : m .verniers := by first | assumption | exact True.intro) (_ : m .timers := by first | assumption | exact True.intro) (_ : m .engines := by first | assumption | exact True.intro) (_ : m .eyepiece := by first | assumption | exact True.intro) : Keeps m s0 (State.debugPower x0) := by
  unfold State.debugPower
  try simp only []
  repeat' first | assumption | exact True.intro | with_reducible exact h | with_reducible apply State.debugReset_keeps | split
  all_goals grind [State.debugReset_keeps, Keeps.upd]
theorem State.updateDr_keeps {s0 : State} (x0 : State) (x1) (x2) (x3) (x4) (h : Keeps AllParts s0 x0) : Keeps AllParts s0 (State.updateDr x0 x1 x2 x3 x4) := by
  unfold State.updateDr
  try simp only []
  repeat' first | assumption | exact True.intro | with_reducible exact h | with_reducible apply State.eyeRead_keeps | with_reducible apply State.eyePlate_keeps | with_reducible apply State.writeOffset_keeps | split
  all_goals grind [State.eyeRead_keeps, State.eyePlate_keeps, State.writeOffset_keeps, Keeps.upd]
theorem execWcsRead_keeps {s0 : State} (x0) (x1) (x2) (x3 : State) (h : Keeps m s0 x3) (_ : m .answers := by first | assumption | exact True.intro) (_ : m .engines := by first | assumption | exact True.intro) (_ : m .eyepiece := by first | assumption | exact True.intro) : ∀ r, execWcsRead x0 x1 x2 x3 = .next r → Keeps m s0 r := by unfold execWcsRead; grind [State.readBy_keeps]
theorem execCaptureRead_keeps {s0 : State} (x0) (x1) (x2) (x3) (x4 : State) (h : Keeps m s0 x4) (_ : m .answers := by first | assumption | exact True.intro) (_ : m .engines := by first | assumption | exact True.intro) (_ : m .eyepiece := by first | assumption | exact True.intro) : ∀ r, execCaptureRead x0 x1 x2 x3 x4 = .next r → Keeps m s0 r := by unfold execCaptureRead; grind [State.readBy_keeps]
theorem execCounterReadClear_keeps {s0 : State} (x0) (x1 : State) (h : Keeps m s0 x1) (_ : m .answers := by first | assumption | exact True.intro) (_ : m .engines := by first | assumption | exact True.intro) (_ : m .eyepiece := by first | assumption | exact True.intro) : ∀ r, execCounterReadClear x0 x1 = .next r → Keeps m s0 r := by unfold execCounterReadClear; grind [State.readBy_keeps]
theorem execCapW3Commit_keeps {s0 : State} (x0) (x1) (x2) (x3 : State) (h : Keeps AllParts s0 x3) : ∀ r, execCapW3Commit x0 x1 x2 x3 = .next r → Keeps AllParts s0 r := by unfold execCapW3Commit; grind [State.writeKey_keeps]
theorem execRegisterWrite_keeps {s0 : State} (x0) (x1) (x2) (x3 : State) (h : Keeps AllParts s0 x3) : ∀ r, execRegisterWrite x0 x1 x2 x3 = .next r → Keeps AllParts s0 r := by unfold execRegisterWrite; grind [State.writeOffset_keeps]
theorem execHostTransaction_keeps {s0 : State} (x0) (x1) (x2) (x3) (x4) (x5) (x6 : State) (h : Keeps AllParts s0 x6) : ∀ r, execHostTransaction x0 x1 x2 x3 x4 x5 x6 = .next r → Keeps AllParts s0 r := by unfold execHostTransaction; grind [State.hostTransaction_keeps]
theorem execEyeDrUpdate_keeps {s0 : State} (x0) (x1) (x2) (x3) (x4 : State) (h : Keeps AllParts s0 x4) : ∀ r, execEyeDrUpdate x0 x1 x2 x3 x4 = .next r → Keeps AllParts s0 r := by unfold execEyeDrUpdate; grind [State.updateDr_keeps, State.debugPower_keeps]
theorem execLiveRead_keeps {s0 : State} (x0) (x1 : State) (h : Keeps m s0 x1) (_ : m .plates := by first | assumption | exact True.intro) (_ : m .ecc := by first | assumption | exact True.intro) (_ : m .answers := by first | assumption | exact True.intro) (_ : m .engines := by first | assumption | exact True.intro) (_ : m .eyepiece := by first | assumption | exact True.intro) : ∀ r, execLiveRead x0 x1 = .next r → Keeps m s0 r := by unfold execLiveRead; grind [State.liveRead_keeps]
theorem State.gatesAhead_keeps {s0 : State} (x0 : State) (x1) (h : Keeps m s0 x0) (_ : m .framePorts := by first | assumption | exact True.intro) : Keeps m s0 (State.gatesAhead x0 x1) := by unfold State.gatesAhead; grind [State.setPort_keeps]
theorem State.putVerdict_keeps {s0 : State} (x0 : State) (x1) (h : Keeps m s0 x0) : Keeps m s0 (State.putVerdict x0 x1) := by unfold State.putVerdict; grind [State.put_keeps, State.setReg_keeps]
theorem State.putVerdicts_keeps {s0 : State} (x0 : State) (x1) (h : Keeps m s0 x0) : Keeps m s0 (State.putVerdicts x0 x1) := by revert h; fun_induction State.putVerdicts x0 x1 <;> grind [State.putVerdict_keeps]
theorem State.putRefusal_keeps {s0 : State} (x0 : State) (x1) (x2) (h : Keeps m s0 x0) : Keeps m s0 (State.putRefusal x0 x1 x2) := by unfold State.putRefusal; grind [State.setReg_keeps, State.put_keeps]
theorem State.putRefusals_keeps {s0 : State} (x0 : State) (x1) (h : Keeps m s0 x0) : Keeps m s0 (State.putRefusals x0 x1) := by revert h; fun_induction State.putRefusals x0 x1 <;> grind [State.putRefusal_keeps]
theorem State.putTime_keeps {s0 : State} (x0 : State) (h : Keeps m s0 x0) : Keeps m s0 (State.putTime x0) := by unfold State.putTime; grind [State.fresh_keeps, State.setReg_keeps]
theorem Effect.taken_keeps {s0 : State} (x0 : Effect) (h : EKeeps m s0 x0) : ∀ r, x0.taken = some r → Keeps m s0 r := by
  intro r hr
  unfold Effect.taken at hr
  split at hr
  · cases hr
  · cases hr
    exact h.state
theorem State.ownerEntry_keeps {s0 : State} (x0 : State) (x1) (x2) (x3) (x4) (x5) (x6) (h : Keeps m s0 x0) (_ : m .plates := by first | assumption | exact True.intro) (_ : m .ecc := by first | assumption | exact True.intro) (_ : m .answers := by first | assumption | exact True.intro) (_ : m .tick := by first | assumption | exact True.intro) : Keeps m s0 (State.ownerEntry x0 x1 x2 x3 x4 x5 x6) := by unfold State.ownerEntry; grind [State.setEntry_keeps, State.revoke_keeps]
theorem State.applyOwner_keeps {s0 : State} (x0 : State) (x1) (x2) (h : Keeps m s0 x0) (_ : m .plates := by first | assumption | exact True.intro) (_ : m .ecc := by first | assumption | exact True.intro) (_ : m .queues := by first | assumption | exact True.intro) (_ : m .time := by first | assumption | exact True.intro) (_ : m .events := by first | assumption | exact True.intro) (_ : m .answers := by first | assumption | exact True.intro) (_ : m .flows := by first | assumption | exact True.intro) (_ : m .chart := by first | assumption | exact True.intro) (_ : m .tick := by first | assumption | exact True.intro) : ∀ r, x0.applyOwner x1 x2 = some r → Keeps m s0 r := by
  unfold State.applyOwner
  extract_lets obj v c hm
  have hc (ch : Chart) : Keeps m s0 { x0 with chart := ch } := Keeps.of _ _ _ h rfl rfl rfl rfl
  split
  · exact opt_ite_keeps (opt_map_keeps _ _ (Effect.taken_keeps _ (writePltOwn_keeps _ _ _ _ h)) fun u hu =>
      State.ownerEntry_keeps _ _ _ _ _ _ _ hu) opt_none_keeps
  · exact opt_ite_keeps (opt_map_keeps _ _ (Effect.taken_keeps _ (writeFldCfg_keeps _ _ _ h)) fun u hu =>
      State.ownerEntry_keeps _ _ _ _ _ _ _ hu) opt_none_keeps
  · exact opt_ite_keeps (opt_some_keeps _ (State.ownerEntry_keeps _ _ _ _ _ _ _ (hc _))) opt_none_keeps
  · exact opt_ite_keeps (opt_map_keeps _ _ (Effect.taken_keeps _ (writeQmQcfg_keeps _ _ _ h)) fun u hu =>
      State.ownerEntry_keeps _ _ _ _ _ _ _ hu) opt_none_keeps
  · exact opt_ite_keeps (opt_some_keeps _ (State.put_keeps _ _ _ h)) opt_none_keeps
  · exact opt_ite_keeps (opt_some_keeps _ (State.put_keeps _ _ _ h)) opt_none_keeps
  · exact opt_ite_keeps (opt_some_keeps _ (State.ownerEntry_keeps _ _ _ _ _ _ _ (State.put_keeps _ _ _ h))) opt_none_keeps
  · exact opt_ite_keeps (Effect.taken_keeps _ (writeRglSrvOwn_keeps _ _ h)) opt_none_keeps
  · exact opt_ite_keeps (opt_some_keeps _ (State.ownerEntry_keeps _ _ _ _ _ _ _ (State.put_keeps _ _ _ h))) opt_none_keeps
  · exact opt_ite_keeps (opt_some_keeps _ (State.setEntry_keeps _ _ _ _ _ h)) opt_none_keeps
theorem applyRecords_keeps {s0 : State} (x0) (x1 : State → ImgRecord → Option State) (x2 : State) (x3) (h : Keeps m s0 x2)
    (hf : ∀ u r v, Keeps m s0 u → x1 u r = some v → Keeps m s0 v) : ∀ r, applyRecords x0 x1 x2 x3 = .ok r → Keeps m s0 r := by
  induction x3 generalizing x2 with
  | nil => intro r hr; simp [applyRecords] at hr; exact hr ▸ h
  | cons b bs ih =>
    intro r hr
    unfold applyRecords at hr
    split at hr
    · rename_i t ht; exact ih t (hf _ _ _ h ht) r hr
    · cases hr
theorem State.freshEntries_keeps {s0 : State} (x0 : State) (x1) (x2) (h : Keeps m s0 x0) (_ : m .plates := by first | assumption | exact True.intro) (_ : m .ecc := by first | assumption | exact True.intro) : Keeps m s0 (State.freshEntries x0 x1 x2) := by revert h; fun_induction State.freshEntries x0 x1 x2 <;> grind [State.setEntry_keeps]
theorem State.clearTable_keeps {s0 : State} (x0 : State) (h : Keeps m s0 x0) (_ : m .plates := by first | assumption | exact True.intro) (_ : m .ecc := by first | assumption | exact True.intro) : Keeps m s0 x0.clearTable := by
  have ha : Keeps m s0 { x0 with mem := x0.mem.filter fun p => decide (p.1 < 0x10000 ∨ 0x16000 ≤ p.1) } :=
    Keeps.mk' _ _ _ h rfl (Nat.le_refl _) (fun w => (memory_wf_iff _).mpr (filter_wf _ _ _ ((memory_wf_iff _).mp w))) id
  exact State.freshEntries_keeps _ _ _ (State.freshEntries_keeps _ _ _ (State.freshEntries_keeps _ _ _ (State.clearEcc_keeps _ _ _ ha)))
theorem State.applyEngine_keeps {s0 : State} (x0 : State) (x1) (h : Keeps m s0 x0) (_ : m .timers := by first | assumption | exact True.intro) : Keeps m s0 (x0.applyEngine x1) := by
  unfold State.applyEngine
  extract_lets w e t1 t2 t3 t4 per u
  have h1 : Keeps m s0 t1 := State.put_keeps _ _ _ (State.setRole_keeps _ _ _ h)
  have h2 : Keeps m s0 t2 := State.put_keeps _ _ _ (State.put_keeps _ _ _ (State.put_keeps _ _ _ h1))
  have h3 : Keeps m s0 t3 := State.setReg_keeps _ _ _ (State.setReg_keeps _ _ _ h2)
  have h4 : Keeps m s0 t4 := by
    show Keeps m s0 (if _ then _ else _)
    split
    · exact State.setReg_keeps _ _ _ h3
    · exact h3
  have hu : Keeps m s0 u := (writeTmrWdper_keeps _ _ _ h4).state
  split
  · exact h4
  · exact (writeTmrWdctl_keeps _ _ _ hu).state
theorem State.applyEngines_keeps {s0 : State} (x0 : State) (x1) (h : Keeps m s0 x0) (_ : m .timers := by first | assumption | exact True.intro) : Keeps m s0 (State.applyEngines x0 x1) := by revert h; fun_induction State.applyEngines x0 x1 <;> grind [State.applyEngine_keeps]
theorem State.applyGrant_keeps {s0 : State} (x0 : State) (x1) (h : Keeps m s0 x0) (_ : m .engines := by first | assumption | exact True.intro) : ∀ r, State.applyGrant x0 x1 = some r → Keeps m s0 r := by unfold State.applyGrant; grind [State.commitCap_keeps]
theorem State.storeProgram_keeps {s0 : State} (x0 : State) (x1) (x2) (x3) (x4) (h : Keeps m s0 x0) (_ : m .store := by first | assumption | exact True.intro) (_ : m .engines := by first | assumption | exact True.intro) : Keeps m s0 (State.storeProgram x0 x1 x2 x3 x4) := by revert h; fun_induction State.storeProgram x0 x1 x2 x3 x4 <;> grind [State.loadStoreWord_keeps]
theorem State.storeInsns_keeps {s0 : State} (x0 : State) (x1) (x2) (x3) (x4) (h : Keeps m s0 x0) : Keeps m s0 (State.storeInsns x0 x1 x2 x3 x4) := by revert h; fun_induction State.storeInsns x0 x1 x2 x3 x4 <;> grind [State.setReg_keeps]
theorem foldl_keeps {s0 : State} {α : Type} (f : State → α → State) (hf : ∀ u a, Keeps m s0 u → Keeps m s0 (f u a)) (l : List α) (s : State)
    (h : Keeps m s0 s) : Keeps m s0 (l.foldl f s) := by
  induction l generalizing s with
  | nil => exact h
  | cons a l ih => exact ih _ (hf _ _ h)
theorem State.applyPrograms_keeps {s0 : State} (x0 : State) (x1) (h : Keeps m s0 x0) (_ : m .store := by first | assumption | exact True.intro) (_ : m .engines := by first | assumption | exact True.intro) : Keeps m s0 (x0.applyPrograms x1) := by
  unfold State.applyPrograms
  exact foldl_keeps _ (fun u a hu => State.storeInsns_keeps _ _ _ _ _ hu) _ _
    (foldl_keeps _ (fun u a hu => State.storeProgram_keeps _ _ _ _ _ hu) _ _ h)
theorem State.applyRegister_keeps {s0 : State} (x0 : State) (x1) (x2) (h : Keeps AllParts s0 x0) : ∀ r, x0.applyRegister x1 x2 = some r → Keeps AllParts s0 r := by
  have hi (c : Prop) [Decidable c] (p : Nat) (u : State) (hu : Keeps AllParts s0 u) : Keeps AllParts s0 (if c then u.applyRule p else u) := by
    split
    · exact State.applyRule_keeps _ _ hu
    · exact hu
  unfold State.applyRegister
  exact opt_map_keeps _ _ (Effect.taken_keeps _ (registerRules_keeps _ _ _ _ (hi _ _ _ h))) fun u hu => hi _ _ _ hu
theorem State.applyRegisters_keeps {s0 : State} (x0 : State) (x1) (x2) (h : Keeps AllParts s0 x0) : ∀ r, State.applyRegisters x0 x1 x2 = .ok r → Keeps AllParts s0 r := by revert h; fun_induction State.applyRegisters x0 x1 x2 <;> grind [State.applyRegister_keeps]
theorem State.addFlows_keeps {s0 : State} (x0 : State) (x1) (h : Keeps m s0 x0) (_ : m .plates := by first | assumption | exact True.intro) (_ : m .ecc := by first | assumption | exact True.intro) (_ : m .flows := by first | assumption | exact True.intro) : Keeps m s0 (State.addFlows x0 x1) := by revert h; fun_induction State.addFlows x0 x1 <;> grind [State.setReg_keeps, State.setEntry_keeps, State.setFlow_keeps]
theorem State.createEntry_keeps {s0 : State} (x0 : State) (x1) (x2) (x3) (x4) (x5) (x6) (x7) (h : Keeps m s0 x0) (_ : m .flows := by first | assumption | exact True.intro) : ∀ r, x0.createEntry x1 x2 x3 x4 x5 x6 x7 = some r → Keeps m s0 r := by
  unfold State.createEntry
  refine opt_ite_keeps (opt_some_keeps _ h) fun r hr => ?_
  obtain ⟨k, -, rfl⟩ := Option.map_eq_some_iff.mp hr
  exact State.writeEntry_keeps _ _ _ _ _ _ _ h
theorem State.createLedgers_keeps {s0 : State} (x0 : State) (x1) (x2) (h : Keeps m s0 x0) (_ : m .flows := by first | assumption | exact True.intro) : ∀ r, x0.createLedgers x1 x2 = some r → Keeps m s0 r := by
  induction x2 generalizing x0 with
  | nil => exact opt_some_keeps _ h
  | cons p ps ih =>
    unfold State.createLedgers
    exact opt_bind_keeps _ _ (State.createEntry_keeps _ _ _ _ _ _ _ _ h) fun u hu => ih _ hu
theorem State.createEntries_keeps {s0 : State} (x0 : State) (x1) (h : Keeps m s0 x0) (_ : m .flows := by first | assumption | exact True.intro) : ∀ r, x0.createEntries x1 = some r → Keeps m s0 r := by
  unfold State.createEntries
  exact opt_bind_keeps _ _ (opt_ite_keeps (State.createEntry_keeps _ _ _ _ _ _ _ _ h) (opt_some_keeps _ h)) fun u hu =>
    State.createLedgers_keeps _ _ _ hu
theorem State.enterActive_keeps {s0 : State} (x0 : State) (x1) (h : Keeps m s0 x0) (_ : m .flows := by first | assumption | exact True.intro) : ∀ r, x0.enterActive x1 = some r → Keeps m s0 r := by
  unfold State.enterActive
  refine opt_map_keeps _ _ (State.createEntries_keeps _ _ h) fun u hu => State.activateFlow_keeps _ _ ?_
  split
  · exact State.put_keeps _ _ _ hu
  · exact hu
theorem State.enterFlows_keeps {s0 : State} (x0 : State) (x1) (h : Keeps m s0 x0) (_ : m .flows := by first | assumption | exact True.intro) : ∀ r, x0.enterFlows x1 = some r → Keeps m s0 r := by
  induction x1 generalizing x0 with
  | nil => exact opt_some_keeps _ h
  | cons p ps ih =>
    unfold State.enterFlows
    exact opt_bind_keeps _ _ (State.enterActive_keeps _ _ h) fun u hu => ih _ hu
theorem State.disableRules_keeps {s0 : State} (x0 : State) (x1) (h : Keeps m s0 x0) : Keeps m s0 (State.disableRules x0 x1) := by revert h; fun_induction State.disableRules x0 x1 <;> grind [State.put_keeps]
theorem State.admitAll_keeps {s0 : State} (x0 : State) (x1) (x2) (h : Keeps m s0 x0) (_ : m .flows := by first | assumption | exact True.intro) : ∀ r, x0.admitAll x1 x2 = .ok r → Keeps m s0 r.state := by
  intro r hr
  unfold State.admitAll at hr
  extract_lets base wanted a new late at_ _ t1 t2 at hr
  split at hr
  · cases hr
  · cases hr
  · split at hr
    · cases hr
    · have h1 : Keeps m s0 t1 := State.putRefusals_keeps _ _ h
      have h2 : Keeps m s0 t2 := by
        cases hv : x0.verify a.1 with
        | ok vs => simp only [t2, hv]; exact State.putVerdicts_keeps _ _ h1
        | error e => simp only [t2, hv]; exact h1
      cases hf : t2.enterFlows new with
      | none => rw [hf] at hr; cases hr
      | some u =>
        rw [hf] at hr
        cases hr
        exact State.putTime_keeps _ (State.countFlows_keeps _ (State.disableRules_keeps _ _ ((State.enterFlows_keeps _ _ h2) _ hf)))
theorem State.clearFlows_keeps {s0 : State} (x0 : State) (h : Keeps m s0 x0) (_ : m .flows := by first | assumption | exact True.intro) : Keeps m s0 x0.clearFlows := by
  unfold State.clearFlows
  apply State.countFlows_keeps
  refine Keeps.ofRegs s0 x0 _ h rfl rfl rfl fun w => ?_
  show TableWf resetWord (disableAll (List.filter _ x0.regs))
  unfold disableAll
  exact tmap_wf _ _ _ (filter_wf _ _ _ w)
theorem State.placeFree_keeps {s0 : State} (x0 : State) (x1) (x2) (x3) (h : Keeps m s0 x0) (_ : m .plates := by first | assumption | exact True.intro) (_ : m .ecc := by first | assumption | exact True.intro) (_ : m .queues := by first | assumption | exact True.intro) (_ : m .events := by first | assumption | exact True.intro) (_ : m .flows := by first | assumption | exact True.intro) : Keeps m s0 (State.placeFree x0 x1 x2 x3) := by revert h; fun_induction State.placeFree x0 x1 x2 x3 <;> grind [State.makeVisible_keeps, State.joinQueue_keeps]
theorem State.placePools_keeps {s0 : State} (x0 : State) (x1) (h : Keeps m s0 x0) (_ : m .plates := by first | assumption | exact True.intro) (_ : m .ecc := by first | assumption | exact True.intro) (_ : m .queues := by first | assumption | exact True.intro) (_ : m .events := by first | assumption | exact True.intro) (_ : m .flows := by first | assumption | exact True.intro) : Keeps m s0 (State.placePools x0 x1) := by revert h; fun_induction State.placePools x0 x1 <;> grind [State.placeFree_keeps]
theorem State.applyChart_keeps {s0 : State} (x0 : State) (x1) (h : Keeps AllParts s0 x0) : ∀ r, x0.applyChart x1 = .ok r → Keeps AllParts s0 r.state := by
  intro r hr
  unfold State.applyChart at hr
  extract_lets engines flows _ t at hr
  have h1 : Keeps AllParts s0 t := Keeps.of _ _ _ (State.clearFlows_keeps _ h) rfl rfl rfl rfl
  split at hr
  · cases hr
  · rename_i t2 he
    have h2 := applyRecords_keeps _ _ _ _ (State.clearTable_keeps _ h1) (fun u p v hu hv => (State.applyOwner_keeps _ _ _ hu) _ hv) _ he
    split at hr
    · cases hr
    · extract_lets t3 at hr
      have h3 : Keeps AllParts s0 t3 := State.addFlows_keeps _ _ (State.applyEngines_keeps _ _ h2)
      split at hr
      · cases hr
      · rename_i t4 he
        have h4 := applyRecords_keeps _ _ _ _ h3 (fun u p v hu hv => (State.applyGrant_keeps _ _ hu) _ hv) _ he
        split at hr
        · cases hr
        · rename_i t5 he
          have h5 := (State.applyRegisters_keeps _ _ _ (State.applyPrograms_keeps _ _ h4)) _ he
          split at hr
          · cases hr
          · cases ha : t5.admitAll (imgStrict x1) flows with
            | error e => rw [ha] at hr; cases hr
            | ok l =>
              rw [ha] at hr
              cases hr
              exact State.placePools_keeps _ _ ((State.admitAll_keeps _ _ _ h5) _ ha)
theorem State.tryChart_keeps {s0 : State} (x0 : State) (x1) (h : Keeps AllParts s0 x0) : ∀ r, State.tryChart x0 x1 = .ok r → Keeps AllParts s0 r.state := by unfold State.tryChart; grind [State.applyChart_keeps]
theorem State.applyAmend_keeps {s0 : State} (x0 : State) (x1) (h : Keeps AllParts s0 x0) : ∀ r, x0.applyAmend x1 = .ok r → Keeps AllParts s0 r.state := by
  intro r hr
  unfold State.applyAmend at hr
  extract_lets flows _ t at hr
  have h1 : Keeps AllParts s0 t := Keeps.of _ _ _ h rfl rfl rfl rfl
  split at hr
  · cases hr
  · rename_i t2 he
    have h2 := applyRecords_keeps _ _ _ _ h1 (fun u p v hu hv => (State.applyOwner_keeps _ _ _ hu) _ hv) _ he
    split at hr
    · cases hr
    · rename_i t3 he
      have h3 := applyRecords_keeps _ _ _ _ (State.addFlows_keeps _ _ h2) (fun u p v hu hv => (State.applyGrant_keeps _ _ hu) _ hv) _ he
      split at hr
      · cases hr
      · rename_i t4 he
        have h4 := (State.applyRegisters_keeps _ _ _ (State.applyPrograms_keeps _ _ h3)) _ he
        split at hr
        · cases hr
        · exact (State.admitAll_keeps _ _ _ h4) _ hr
theorem State.tryAmend_keeps {s0 : State} (x0 : State) (x1) (x2) (h : Keeps AllParts s0 x0) : ∀ r, State.tryAmend x0 x1 x2 = .ok r → Keeps AllParts s0 r.state := by unfold State.tryAmend; grind [State.applyAmend_keeps]
theorem State.romSettings_keeps {s0 : State} (x0 : State) (x1) (h : Keeps AllParts s0 x0) : Keeps AllParts s0 (x0.romSettings x1) := by
  induction x1 generalizing x0 with
  | nil => exact h
  | cons p ps ih =>
    unfold State.romSettings
    refine ih _ ?_
    split
    · cases ha : x0.applyRegister p.1 p.2 with
      | none => exact h
      | some u => exact (State.applyRegister_keeps _ _ _ h) _ ha
    · exact h
theorem State.givePlates_keeps {s0 : State} (x0 : State) (x1) (x2) (x3) (h : Keeps m s0 x0) (_ : m .plates := by first | assumption | exact True.intro) (_ : m .ecc := by first | assumption | exact True.intro) : Keeps m s0 (State.givePlates x0 x1 x2 x3) := by revert h; fun_induction State.givePlates x0 x1 x2 x3 <;> grind [State.setEntry_keeps, State.put_keeps]
theorem State.romCaps_keeps {s0 : State} (x0 : State) (x1) (x2) (h : Keeps m s0 x0) : Keeps m s0 (State.romCaps x0 x1 x2) := by revert h; fun_induction State.romCaps x0 x1 x2 <;> grind [State.setCap_keeps]
theorem State.putRuleWords_keeps {s0 : State} (x0 : State) (x1) (x2) (x3) (x4) (h : Keeps m s0 x0) : Keeps m s0 (State.putRuleWords x0 x1 x2 x3 x4) := by revert h; fun_induction State.putRuleWords x0 x1 x2 x3 x4 <;> grind [State.setReg_keeps]
theorem State.firstPort_keeps {s0 : State} (x0 : State) (x1) (h : Keeps m s0 x0) : Keeps m s0 (State.firstPort x0 x1) := by unfold State.firstPort; grind [State.putRuleWords_keeps, State.put_keeps]
theorem State.firstPorts_keeps {s0 : State} (x0 : State) (x1) (h : Keeps m s0 x0) : Keeps m s0 (State.firstPorts x0 x1) := by revert h; fun_induction State.firstPorts x0 x1 <;> grind [State.firstPort_keeps]
theorem State.firstResources_keeps {s0 : State} (x0 : State) (h : Keeps m s0 x0) (_ : m .plates := by first | assumption | exact True.intro) (_ : m .ecc := by first | assumption | exact True.intro) (_ : m .chart := by first | assumption | exact True.intro) : Keeps m s0 x0.firstResources := by
  have hc (t : State) (ch : Chart) (ht : Keeps m s0 t) : Keeps m s0 { t with chart := ch } := Keeps.of _ _ _ ht rfl rfl rfl rfl
  unfold State.firstResources
  extract_lets t1 t2 t3 t4 t5 t6 t7
  have h1 : Keeps m s0 t1 :=
    State.givePlates_keeps _ _ _ _ (State.givePlates_keeps _ _ _ _ (State.givePlates_keeps _ _ _ _ (State.givePlates_keeps _ _ _ _ h)))
  have h2 : Keeps m s0 t2 := State.put_keeps _ _ _ (State.firstPorts_keeps _ _ h1)
  have h3 : Keeps m s0 t3 := State.setReg_keeps _ _ _ (State.setReg_keeps _ _ _ (State.setReg_keeps _ _ _ h2))
  have h4 : Keeps m s0 t4 := State.setReg_keeps _ _ _ (State.setReg_keeps _ _ _ (State.setReg_keeps _ _ _ h3))
  have h5 : Keeps m s0 t5 := State.setEntry_keeps _ _ _ _ _ (State.setEntry_keeps _ _ _ _ _ h4)
  have h6 : Keeps m s0 t6 := State.put_keeps _ _ _ (State.put_keeps _ _ _ (State.put_keeps _ _ _ h5))
  have h7 : Keeps m s0 t7 := State.setEntry_keeps _ _ _ _ _ (hc _ _ h6)
  exact State.setRole_keeps _ _ _ (State.setRole_keeps _ _ _ (State.setRole_keeps _ _ _ h7))
theorem State.runEngines_keeps {s0 : State} (x0 : State) (x1) (h : Keeps m s0 x0) (_ : m .plates := by first | assumption | exact True.intro) (_ : m .ecc := by first | assumption | exact True.intro) (_ : m .queues := by first | assumption | exact True.intro) (_ : m .time := by first | assumption | exact True.intro) (_ : m .events := by first | assumption | exact True.intro) (_ : m .answers := by first | assumption | exact True.intro) (_ : m .flows := by first | assumption | exact True.intro) (_ : m .timers := by first | assumption | exact True.intro) (_ : m .engines := by first | assumption | exact True.intro) : Keeps m s0 (x0.runEngines x1) := by
  induction x1 generalizing x0 with
  | nil => exact h
  | cons p ps ih =>
    unfold State.runEngines
    refine ih _ ?_
    split
    · exact (writeEngCtl_keeps _ _ _ h).state
    · exact h
theorem State.firstLight_keeps {s0 : State} (x0 : State) (h : Keeps AllParts s0 x0) : Keeps AllParts s0 x0.firstLight := by
  have hr (t : State) (ht : Keeps AllParts s0 t) : Keeps AllParts s0 { t with retained := none } := Keeps.of _ _ _ ht rfl rfl rfl rfl
  unfold State.firstLight
  extract_lets t1 t2 t3 t4 t5 t6
  have h1 : Keeps AllParts s0 t1 := State.romSettings_keeps _ _ (State.clearTable_keeps _ (State.clearFlows_keeps _ h))
  have h2 : Keeps AllParts s0 t2 := foldl_keeps _ (fun u p hu => State.loadStoreWord_keeps _ _ _ _ hu) _ _ h1
  have h3 : Keeps AllParts s0 t3 := State.setRegs_keeps _ _ h2
  have h4 : Keeps AllParts s0 t4 := State.firstResources_keeps _ h3
  have h5 : Keeps AllParts s0 t5 := State.romCaps_keeps _ _ _ (State.romCaps_keeps _ _ _ (State.romCaps_keeps _ _ _ h4))
  have h6 : Keeps AllParts s0 t6 := State.runEngines_keeps _ _ (State.setReg_keeps _ _ _ (State.put_keeps _ _ _ (State.put_keeps _ _ _ h5)))
  exact State.settleAll_keeps _ (State.serviceStart_keeps _ (hr _ h6))
theorem State.loadSource_keeps {s0 : State} (x0 : State) (x1) (x2) (h : Keeps m s0 x0) (_ : m .plates := by first | assumption | exact True.intro) (_ : m .ecc := by first | assumption | exact True.intro) : Keeps m s0 (State.loadSource x0 x1 x2).2 := by unfold State.loadSource; grind [State.plateWrite_keeps, State.plateRead_keeps]
theorem State.loadRecord_keeps {s0 : State} (x0 : State) (x1) (x2) (x3) (x4) (h : Keeps m s0 x0) (_ : m .answers := by first | assumption | exact True.intro) : Keeps m s0 (State.loadRecord x0 x1 x2 x3 x4) := by unfold State.loadRecord; grind [State.logChange_keeps, State.fresh_keeps]
theorem State.putFailure_keeps {s0 : State} (x0 : State) (x1) (h : Keeps m s0 x0) : Keeps m s0 (State.putFailure x0 x1) := by unfold State.putFailure; grind [State.fresh_keeps, State.put_keeps, State.setReg_keeps]
theorem State.putChart_keeps {s0 : State} (x0 : State) (x1) (h : Keeps m s0 x0) : Keeps m s0 (State.putChart x0 x1) := by unfold State.putChart; grind [State.setRegs_keeps, State.setReg_keeps]
theorem State.enterService_keeps {s0 : State} (x0 : State) (x1) (x2) (h : Keeps m s0 x0) (_ : m .plates := by first | assumption | exact True.intro) (_ : m .ecc := by first | assumption | exact True.intro) (_ : m .queues := by first | assumption | exact True.intro) (_ : m .time := by first | assumption | exact True.intro) (_ : m .events := by first | assumption | exact True.intro) (_ : m .answers := by first | assumption | exact True.intro) (_ : m .power := by first | assumption | exact True.intro) (_ : m .flows := by first | assumption | exact True.intro) (_ : m .timers := by first | assumption | exact True.intro) (_ : m .engines := by first | assumption | exact True.intro) (_ : m .security := by first | assumption | exact True.intro) : Keeps m s0 (x0.enterService x1 x2) := by
  have hr (t : State) (ht : Keeps m s0 t) : Keeps m s0 { t with retained := none } := Keeps.of _ _ _ ht rfl rfl rfl rfl
  unfold State.enterService
  extract_lets t1 t2
  have h1 : Keeps m s0 t1 := State.put_keeps _ _ _ (State.putChart_keeps _ _ h)
  have h2 : Keeps m s0 t2 := State.runEngines_keeps _ _ (State.put_keeps _ _ _ (State.put_keeps _ _ _ h1))
  exact State.settleAll_keeps _ (State.serviceStart_keeps _ (State.loadRecord_keeps _ _ _ _ _ (hr _ h2)))
theorem State.refusedBy_keeps {s0 : State} (x0 : State) (x1) (h : Keeps m s0 x0) : Keeps m s0 (State.refusedBy x0 x1).2 := by unfold State.refusedBy; grind [State.fresh_keeps]
theorem State.conflictEvent_keeps {s0 : State} (x0 : State) (x1) (h : Keeps m s0 x0) (_ : m .events := by first | assumption | exact True.intro) (_ : m .flows := by first | assumption | exact True.intro) : Keeps m s0 (State.conflictEvent x0 x1) := by unfold State.conflictEvent; grind [State.registerEvent_keeps]
theorem State.loadFails_keeps {s0 : State} (x0 : State) (x1) (x2) (h : Keeps AllParts s0 x0) : Keeps AllParts s0 (State.loadFails x0 x1 x2) :=
  State.conflictEvent_keeps _ _ (State.firstLight_keeps _ (State.loadRecord_keeps _ _ _ _ _ (State.refusedBy_keeps _ _ (State.putFailure_keeps _ _ h))))
theorem State.loadAborts_keeps {s0 : State} (x0 : State) (x1) (h : Keeps m s0 x0) (_ : m .plates := by first | assumption | exact True.intro) (_ : m .ecc := by first | assumption | exact True.intro) (_ : m .queues := by first | assumption | exact True.intro) (_ : m .time := by first | assumption | exact True.intro) (_ : m .events := by first | assumption | exact True.intro) (_ : m .answers := by first | assumption | exact True.intro) (_ : m .power := by first | assumption | exact True.intro) (_ : m .flows := by first | assumption | exact True.intro) (_ : m .framePorts := by first | assumption | exact True.intro) (_ : m .verniers := by first | assumption | exact True.intro) (_ : m .timers := by first | assumption | exact True.intro) (_ : m .clockDrive := by first | assumption | exact True.intro) (_ : m .banks := by first | assumption | exact True.intro) (_ : m .engines := by first | assumption | exact True.intro) (_ : m .security := by first | assumption | exact True.intro) (_ : m .occultation := by first | assumption | exact True.intro) (_ : m .chart := by first | assumption | exact True.intro) (_ : m .assistant := by first | assumption | exact True.intro) (_ : m .constellation := by first | assumption | exact True.intro) (_ : m .eyepiece := by first | assumption | exact True.intro) (_ : m .tick := by first | assumption | exact True.intro) : Keeps m s0 (State.loadAborts x0 x1) := by unfold State.loadAborts; grind [State.put_keeps, State.resetWith_keeps, State.placeAll_keeps, State.loadRecord_keeps, Keeps.upd]
theorem State.load_keeps {s0 : State} (x0 : State) (x1) (x2) (x3) (h : Keeps AllParts s0 x0) : Keeps AllParts s0 (x0.load x1 x2 x3) := by
  have hm := State.loadSource_keeps x0 x1 x2 h
  unfold State.load
  cases e : x0.loadSource x1 x2 with
  | mk o t =>
    rw [e] at hm
    cases o with
    | none => exact State.loadFails_keeps _ _ _ hm
    | some img =>
      cases he : t.tryChart img with
      | error f => simp only [he]; exact State.loadFails_keeps _ _ _ hm
      | ok l =>
        simp only [he]
        exact ite_keeps (State.loadAborts_keeps _ _ hm) (State.enterService_keeps _ _ _ ((State.tryChart_keeps _ _ hm) _ he))
theorem State.restartClear_keeps {s0 : State} (x0 : State) (h : Keeps m s0 x0) (_ : m .ecc := by first | assumption | exact True.intro) (_ : m .queues := by first | assumption | exact True.intro) (_ : m .time := by first | assumption | exact True.intro) (_ : m .events := by first | assumption | exact True.intro) (_ : m .answers := by first | assumption | exact True.intro) (_ : m .power := by first | assumption | exact True.intro) (_ : m .flows := by first | assumption | exact True.intro) (_ : m .framePorts := by first | assumption | exact True.intro) (_ : m .verniers := by first | assumption | exact True.intro) (_ : m .timers := by first | assumption | exact True.intro) (_ : m .clockDrive := by first | assumption | exact True.intro) (_ : m .banks := by first | assumption | exact True.intro) (_ : m .engines := by first | assumption | exact True.intro) (_ : m .security := by first | assumption | exact True.intro) (_ : m .occultation := by first | assumption | exact True.intro) (_ : m .chart := by first | assumption | exact True.intro) (_ : m .assistant := by first | assumption | exact True.intro) (_ : m .constellation := by first | assumption | exact True.intro) (_ : m .eyepiece := by first | assumption | exact True.intro) (_ : m .tick := by first | assumption | exact True.intro) : Keeps m s0 x0.restartClear := by
  have hc := State.clusterReset_keeps x0 h
  have ha (c t : State) (hc : Keeps m s0 c) (h1 : t.pending = c.pending) (h2 : t.freeUsed = c.freeUsed) (h3 : t.mem = c.mem)
      (h4 : t.regs = keepBits restartKeeps x0.regs) (h5 : ∀ p, ¬ m p → p.same c t) : Keeps m s0 t :=
    ⟨h1.trans hc.pending, h2 ▸ hc.used, fun w => h3 ▸ hc.mem w, fun w => h4 ▸ reset_regs_wf _ _ (h.regs w),
      fun p hp => p.same_trans _ _ _ (hc.parts p hp) (h5 p hp)⟩
  unfold State.restartClear
  generalize x0.clusterReset = c at hc
  refine State.settleAll_keeps _ (State.resetVerniers_keeps _ _ ?_)
  refine ha c _ hc rfl rfl rfl rfl fun p hp => ?_
  cases p <;> first | exact absurd (by first | assumption | exact True.intro) hp | (simp only [Part.same, and_self]; done)
theorem State.chartLoad_keeps {s0 : State} (x0 : State) (x1) (x2) (x3) (h : Keeps AllParts s0 x0) : Keeps AllParts s0 (State.chartLoad x0 x1 x2 x3) := by unfold State.chartLoad; grind [State.restartClear_keeps, State.firstLight_keeps, State.load_keeps, Keeps.upd]
theorem execChartLoad_keeps {s0 : State} (x0) (x1) (x2) (x3 : State) (h : Keeps AllParts s0 x3) : ∀ r, execChartLoad x0 x1 x2 x3 = .next r → Keeps AllParts s0 r := by unfold execChartLoad; grind [State.chartLoad_keeps]
theorem State.mailDenied_keeps {s0 : State} (x0 : State) (x1) (h : Keeps m s0 x0) (_ : m .answers := by first | assumption | exact True.intro) (_ : m .assistant := by first | assumption | exact True.intro) : Keeps m s0 (State.mailDenied x0 x1) := by unfold State.mailDenied; grind [State.fresh_keeps, State.mailDone_keeps, State.logChange_keeps]
theorem State.countToken_keeps {s0 : State} (x0 : State) (x1) (h : Keeps m s0 x0) (_ : m .security := by first | assumption | exact True.intro) : Keeps m s0 (State.countToken x0 x1) := by unfold State.countToken; grind [Keeps.upd]
theorem State.unlockFails_keeps {s0 : State} (x0 : State) (x1) (x2) (h : Keeps m s0 x0) (_ : m .answers := by first | assumption | exact True.intro) (_ : m .security := by first | assumption | exact True.intro) : Keeps m s0 (State.unlockFails x0 x1 x2) := by unfold State.unlockFails; grind [State.countToken_keeps, State.newNonce_keeps, State.logChange_keeps]
theorem State.gateNote_keeps {s0 : State} (x0 : State) (x1) (x2) (h : Keeps m s0 x0) (_ : m .answers := by first | assumption | exact True.intro) (_ : m .security := by first | assumption | exact True.intro) : Keeps m s0 (State.gateNote x0 x1 x2) := by unfold State.gateNote; grind [State.countToken_keeps, State.newNonce_keeps, State.unlockFails_keeps]
theorem State.gateDone_keeps {s0 : State} (x0 : State) (x1) (x2) (x3) (h : Keeps m s0 x0) (_ : m .answers := by first | assumption | exact True.intro) (_ : m .security := by first | assumption | exact True.intro) (_ : m .assistant := by first | assumption | exact True.intro) : Keeps m s0 (State.gateDone x0 x1 x2 x3) := by unfold State.gateDone; grind [State.mailDone_keeps, State.gateNote_keeps]
theorem State.mailGate_keeps {s0 : State} (x0 : State) (x1) (h : Keeps m s0 x0) (_ : m .answers := by first | assumption | exact True.intro) (_ : m .security := by first | assumption | exact True.intro) (_ : m .assistant := by first | assumption | exact True.intro) : ∀ r, State.mailGate x0 x1 = some r → Keeps m s0 r := by unfold State.mailGate; grind [State.mailDenied_keeps, State.gateDone_keeps]
theorem State.mail_keeps {s0 : State} (x0 : State) (x1) (x2 : MailCommand → State → State) (h : Keeps m s0 x0)
    (hf : ∀ c u, Keeps m s0 u → Keeps m s0 (x2 c u)) (_ : m .answers := by first | assumption | exact True.intro) (_ : m .security := by first | assumption | exact True.intro) (_ : m .assistant := by first | assumption | exact True.intro) : Keeps m s0 (x0.mail x1 x2) := by
  have hg := State.mailGate_keeps (s0 := s0) x0
  unfold State.mail
  split
  · split
    · cases e : x0.mailGate _ with
      | none => exact ite_keeps h (hf _ _ h)
      | some v => exact hg _ h v e
    · exact h
  · exact h
theorem State.stopFlow_keeps {s0 : State} (x0 : State) (x1) (h : Keeps m s0 x0) (_ : m .flows := by first | assumption | exact True.intro) (_ : m .framePorts := by first | assumption | exact True.intro) : Keeps m s0 (State.stopFlow x0 x1) := by unfold State.stopFlow; grind [State.askRule_keeps, State.setFlow_keeps, State.withdrawFlow_keeps]
theorem State.stopFlows_keeps {s0 : State} (x0 : State) (x1) (h : Keeps m s0 x0) (_ : m .flows := by first | assumption | exact True.intro) (_ : m .framePorts := by first | assumption | exact True.intro) : Keeps m s0 (State.stopFlows x0 x1) := by revert h; fun_induction State.stopFlows x0 x1 <;> grind [State.stopFlow_keeps]
theorem State.loadCommand_keeps {s0 : State} (x0 : State) (h : Keeps m s0 x0) (_ : m .flows := by first | assumption | exact True.intro) (_ : m .framePorts := by first | assumption | exact True.intro) (_ : m .assistant := by first | assumption | exact True.intro) : Keeps m s0 (State.loadCommand x0) := by
  unfold State.loadCommand
  try simp only []
  repeat' first | assumption | exact True.intro | with_reducible exact h | with_reducible apply State.mailDone_keeps | with_reducible apply State.stopFlows_keeps | split
  all_goals grind [State.mailDone_keeps, State.stopFlows_keeps, Keeps.upd]
theorem State.imageFailed_keeps {s0 : State} (x0 : State) (x1) (x2) (h : Keeps m s0 x0) (_ : m .assistant := by first | assumption | exact True.intro) : Keeps m s0 (State.imageFailed x0 x1 x2) := by unfold State.imageFailed; grind [State.fresh_keeps, State.mailDone_keeps, State.setReg_keeps]
theorem State.imagePassed_keeps {s0 : State} (x0 : State) (x1) (h : Keeps m s0 x0) (_ : m .assistant := by first | assumption | exact True.intro) : Keeps m s0 (State.imagePassed x0 x1) := by unfold State.imagePassed; grind [State.fresh_keeps, State.mailDone_keeps]
theorem State.mailImage_keeps {s0 : State} (x0 : State) (h : Keeps m s0 x0) : Keeps m s0 (State.mailImage x0).2 := by unfold State.mailImage; grind [State.plateRead_keeps]
theorem State.otherResult_keeps {s0 : State} (x0 : State) (h : Keeps m s0 x0) : Keeps m s0 (State.otherResult x0).2 := by unfold State.otherResult; grind [State.fresh_keeps]
theorem State.amendFailed_keeps {s0 : State} (x0 : State) (x1) (x2) (h : Keeps m s0 x0) (_ : m .events := by first | assumption | exact True.intro) (_ : m .answers := by first | assumption | exact True.intro) (_ : m .flows := by first | assumption | exact True.intro) (_ : m .assistant := by first | assumption | exact True.intro) : Keeps m s0 (State.amendFailed x0 x1 x2) := by unfold State.amendFailed; grind [State.loadRecord_keeps, State.imageFailed_keeps, State.refusedBy_keeps, State.conflictEvent_keeps]
theorem State.amendCommand_keeps {s0 : State} (x0 : State) (h : Keeps AllParts s0 x0) : Keeps AllParts s0 x0.amendCommand := by
  have hm := State.mailImage_keeps x0 h
  unfold State.amendCommand
  cases e : x0.mailImage with
  | mk o t =>
    rw [e] at hm
    have ht := State.otherResult_keeps _ hm
    cases o with
    | none => exact State.amendFailed_keeps _ _ _ hm
    | some img =>
      cases he : t.otherResult.2.tryAmend img t.otherResult.1 with
      | error f => simp only [he]; exact State.amendFailed_keeps _ _ _ ht
      | ok l =>
        simp only [he]
        exact State.imagePassed_keeps _ _ (State.loadRecord_keeps _ _ _ _ _ (State.put_keeps _ _ _ (State.setReg_keeps _ _ _
          ((State.tryAmend_keeps _ _ _ ht) _ he))))
theorem State.checkOf_keeps {s0 : State} (x0 : State) (x1) (x2) (h : Keeps AllParts s0 x0) :
    ∀ r, x0.checkOf x1 x2 = .ok r → Keeps AllParts s0 r.state := by
  unfold State.checkOf
  split
  · exact State.tryAmend_keeps _ _ _ h
  · exact State.tryChart_keeps _ _ (State.enterLoading_keeps _ (State.clusterReset_keeps _ h))
theorem State.checkCommand_keeps {s0 : State} (x0 : State) (x1) (x2) (h : Keeps AllParts s0 x0) : Keeps AllParts s0 (State.checkCommand x0 x1 x2) := by unfold State.checkCommand; grind [State.mailImage_keeps, State.imageFailed_keeps, State.checkOf_keeps, State.otherResult_keeps, State.refusedBy_keeps, State.imagePassed_keeps]
theorem State.flowRecord_keeps {s0 : State} (x0 : State) (x1) (x2) (x3) (x4) (h : Keeps m s0 x0) (_ : m .answers := by first | assumption | exact True.intro) : Keeps m s0 (State.flowRecord x0 x1 x2 x3 x4) := by unfold State.flowRecord; grind [State.logChange_keeps]
theorem State.admitDone_keeps {s0 : State} (x0 : State) (x1) (x2) (x3) (x4) (h : Keeps m s0 x0) (_ : m .answers := by first | assumption | exact True.intro) (_ : m .assistant := by first | assumption | exact True.intro) : Keeps m s0 (State.admitDone x0 x1 x2 x3 x4) := by unfold State.admitDone; grind [State.flowRecord_keeps, State.put_keeps, State.mailDone_keeps]
theorem State.admitted_keeps {s0 : State} (x0 : State) (x1) (x2) (x3) (h : Keeps m s0 x0) (_ : m .answers := by first | assumption | exact True.intro) (_ : m .flows := by first | assumption | exact True.intro) (_ : m .framePorts := by first | assumption | exact True.intro) (_ : m .assistant := by first | assumption | exact True.intro) : Keeps m s0 (x0.admitted x1 x2 x3) := by
  have ht := State.putVerdicts_keeps _ x3 h
  unfold State.admitted
  extract_lets t term
  cases he : t.createEntries x2 with
  | none => exact State.admitDone_keeps _ _ _ _ _ h
  | some u =>
    have hu := (State.createEntries_keeps _ _ ht) _ he
    refine State.admitDone_keeps _ _ _ _ _ ?_
    split
    · exact State.askRule_keeps _ _ (State.setFlow_keeps _ _ _ hu)
    · exact State.activateFlow_keeps _ _ hu
theorem State.admitCommand_keeps {s0 : State} (x0 : State) (x1) (x2) (h : Keeps m s0 x0) (_ : m .answers := by first | assumption | exact True.intro) (_ : m .flows := by first | assumption | exact True.intro) (_ : m .framePorts := by first | assumption | exact True.intro) (_ : m .assistant := by first | assumption | exact True.intro) : Keeps m s0 (State.admitCommand x0 x1 x2) := by unfold State.admitCommand; grind [State.mailDone_keeps, State.admitDone_keeps, State.putRefusal_keeps, State.admitted_keeps]
theorem State.withdrawCommand_keeps {s0 : State} (x0 : State) (x1) (x2) (h : Keeps m s0 x0) (_ : m .answers := by first | assumption | exact True.intro) (_ : m .flows := by first | assumption | exact True.intro) (_ : m .framePorts := by first | assumption | exact True.intro) (_ : m .assistant := by first | assumption | exact True.intro) : Keeps m s0 (State.withdrawCommand x0 x1 x2) := by unfold State.withdrawCommand; grind [State.mailDone_keeps, State.flowRecord_keeps, State.stopFlow_keeps]
theorem State.flowQuery_keeps {s0 : State} (x0 : State) (x1) (h : Keeps m s0 x0) (_ : m .assistant := by first | assumption | exact True.intro) : Keeps m s0 (State.flowQuery x0 x1) := by unfold State.flowQuery; grind [State.mailDone_keeps]
theorem State.capQuery_keeps {s0 : State} (x0 : State) (h : Keeps m s0 x0) (_ : m .assistant := by first | assumption | exact True.intro) : Keeps m s0 (State.capQuery x0) := by unfold State.capQuery; grind [State.mailDone_keeps]
theorem State.grantCommand_keeps {s0 : State} (x0 : State) (x1) (h : Keeps m s0 x0) (_ : m .events := by first | assumption | exact True.intro) (_ : m .answers := by first | assumption | exact True.intro) (_ : m .flows := by first | assumption | exact True.intro) (_ : m .engines := by first | assumption | exact True.intro) (_ : m .assistant := by first | assumption | exact True.intro) : Keeps m s0 (State.grantCommand x0 x1) := by unfold State.grantCommand; grind [State.mailDone_keeps, State.conflictEvent_keeps, State.logChange_keeps, State.commitCap_keeps]
theorem State.revokeCommand_keeps {s0 : State} (x0 : State) (x1) (h : Keeps m s0 x0) (_ : m .plates := by first | assumption | exact True.intro) (_ : m .ecc := by first | assumption | exact True.intro) (_ : m .answers := by first | assumption | exact True.intro) (_ : m .assistant := by first | assumption | exact True.intro) (_ : m .tick := by first | assumption | exact True.intro) : Keeps m s0 (State.revokeCommand x0 x1) := by unfold State.revokeCommand; grind [State.revoke_keeps, State.mailDone_keeps]
theorem State.failoverCommand_keeps {s0 : State} (x0 : State) (h : Keeps m s0 x0) (_ : m .plates := by first | assumption | exact True.intro) (_ : m .ecc := by first | assumption | exact True.intro) (_ : m .queues := by first | assumption | exact True.intro) (_ : m .time := by first | assumption | exact True.intro) (_ : m .events := by first | assumption | exact True.intro) (_ : m .answers := by first | assumption | exact True.intro) (_ : m .flows := by first | assumption | exact True.intro) (_ : m .timers := by first | assumption | exact True.intro) (_ : m .engines := by first | assumption | exact True.intro) (_ : m .assistant := by first | assumption | exact True.intro) : Keeps m s0 (State.failoverCommand x0) := by unfold State.failoverCommand; grind [State.failOver_keeps, State.mailDone_keeps, State.fresh_keeps]
theorem State.upgradeCommand_keeps {s0 : State} (x0 : State) (h : Keeps m s0 x0) (_ : m .engines := by first | assumption | exact True.intro) (_ : m .assistant := by first | assumption | exact True.intro) : Keeps m s0 (State.upgradeCommand x0) := by
  unfold State.upgradeCommand
  try simp only []
  repeat' first | assumption | exact True.intro | with_reducible exact h | with_reducible apply State.mailDone_keeps | with_reducible apply State.setCutReq_keeps | split
  all_goals grind [State.mailDone_keeps, State.setCutReq_keeps, Keeps.upd]
theorem State.keyRecord_keeps {s0 : State} (x0 : State) (x1) (x2) (x3) (h : Keeps m s0 x0) (_ : m .answers := by first | assumption | exact True.intro) : Keeps m s0 (State.keyRecord x0 x1 x2 x3) := by unfold State.keyRecord; grind [State.logChange_keeps]
theorem State.keyFilled_keeps {s0 : State} (x0 : State) (x1) (x2) (x3) (x4) (h : Keeps m s0 x0) (_ : m .answers := by first | assumption | exact True.intro) (_ : m .security := by first | assumption | exact True.intro) (_ : m .assistant := by first | assumption | exact True.intro) : Keeps m s0 (State.keyFilled x0 x1 x2 x3 x4) := by unfold State.keyFilled; grind [State.fillSlot_keeps, State.mailDone_keeps, State.keyRecord_keeps]
theorem State.keyGen_keeps {s0 : State} (x0 : State) (x1) (x2) (x3) (h : Keeps m s0 x0) (_ : m .answers := by first | assumption | exact True.intro) (_ : m .security := by first | assumption | exact True.intro) (_ : m .assistant := by first | assumption | exact True.intro) : Keeps m s0 (State.keyGen x0 x1 x2 x3) := by unfold State.keyGen; grind [State.mailDone_keeps, State.keyFilled_keeps, State.fresh_keeps]
theorem State.keyLoadBlob_keeps {s0 : State} (x0 : State) (x1) (x2) (x3) (x4) (x5) (h : Keeps m s0 x0) (_ : m .answers := by first | assumption | exact True.intro) (_ : m .security := by first | assumption | exact True.intro) (_ : m .assistant := by first | assumption | exact True.intro) : Keeps m s0 (State.keyLoadBlob x0 x1 x2 x3 x4 x5) := by unfold State.keyLoadBlob; grind [State.mailDone_keeps, State.plateRead_keeps, State.keyFilled_keeps]
theorem State.keyLoad_keeps {s0 : State} (x0 : State) (x1) (x2) (x3) (x4) (h : Keeps m s0 x0) (_ : m .answers := by first | assumption | exact True.intro) (_ : m .security := by first | assumption | exact True.intro) (_ : m .assistant := by first | assumption | exact True.intro) : Keeps m s0 (State.keyLoad x0 x1 x2 x3 x4) := by unfold State.keyLoad; grind [State.mailDone_keeps, State.plateRead_keeps, State.keyLoadBlob_keeps]
theorem State.keyErase_keeps {s0 : State} (x0 : State) (x1) (x2) (h : Keeps m s0 x0) (_ : m .answers := by first | assumption | exact True.intro) (_ : m .security := by first | assumption | exact True.intro) (_ : m .assistant := by first | assumption | exact True.intro) : Keeps m s0 (State.keyErase x0 x1 x2) := by unfold State.keyErase; grind [State.mailDone_keeps, State.keyRecord_keeps, State.emptySlot_keeps]
theorem State.tokenBytes_keeps {s0 : State} (x0 : State) (x1) (x2) (h : Keeps m s0 x0) : Keeps m s0 (State.tokenBytes x0 x1 x2).2 := by unfold State.tokenBytes; grind [State.plateRead_keeps]
theorem State.programLcs_keeps {s0 : State} (x0 : State) (x1) (x2) (x3) (h : Keeps m s0 x0) (_ : m .security := by first | assumption | exact True.intro) : Keeps m s0 (State.programLcs x0 x1 x2 x3) := by unfold State.programLcs; grind [State.put_keeps, State.setRegs_keeps, Keeps.upd]
theorem State.lcAccepted_keeps {s0 : State} (x0 : State) (x1) (x2) (x3) (h : Keeps m s0 x0) (_ : m .plates := by first | assumption | exact True.intro) (_ : m .ecc := by first | assumption | exact True.intro) (_ : m .queues := by first | assumption | exact True.intro) (_ : m .time := by first | assumption | exact True.intro) (_ : m .events := by first | assumption | exact True.intro) (_ : m .answers := by first | assumption | exact True.intro) (_ : m .power := by first | assumption | exact True.intro) (_ : m .flows := by first | assumption | exact True.intro) (_ : m .framePorts := by first | assumption | exact True.intro) (_ : m .verniers := by first | assumption | exact True.intro) (_ : m .timers := by first | assumption | exact True.intro) (_ : m .clockDrive := by first | assumption | exact True.intro) (_ : m .banks := by first | assumption | exact True.intro) (_ : m .engines := by first | assumption | exact True.intro) (_ : m .security := by first | assumption | exact True.intro) (_ : m .occultation := by first | assumption | exact True.intro) (_ : m .chart := by first | assumption | exact True.intro) (_ : m .assistant := by first | assumption | exact True.intro) (_ : m .constellation := by first | assumption | exact True.intro) (_ : m .eyepiece := by first | assumption | exact True.intro) (_ : m .tick := by first | assumption | exact True.intro) : Keeps m s0 (State.lcAccepted x0 x1 x2 x3) := by
  unfold State.lcAccepted
  exact State.resetWith_keeps _ _ (State.wipe_keeps _ (State.placeAll_keeps _ (State.closeSession_keeps _ _ _ (State.programLcs_keeps _ _ _ _
    (State.emptySlots_keeps _ _ (State.mailDone_keeps _ _ _ (State.registerEvent_keeps _ _ (State.logChange_keeps _ _ _ _ _ _ _ _ h))))))))
theorem State.lcAdvance_keeps {s0 : State} (x0 : State) (h : Keeps m s0 x0) (_ : m .plates := by first | assumption | exact True.intro) (_ : m .ecc := by first | assumption | exact True.intro) (_ : m .queues := by first | assumption | exact True.intro) (_ : m .time := by first | assumption | exact True.intro) (_ : m .events := by first | assumption | exact True.intro) (_ : m .answers := by first | assumption | exact True.intro) (_ : m .power := by first | assumption | exact True.intro) (_ : m .flows := by first | assumption | exact True.intro) (_ : m .framePorts := by first | assumption | exact True.intro) (_ : m .verniers := by first | assumption | exact True.intro) (_ : m .timers := by first | assumption | exact True.intro) (_ : m .clockDrive := by first | assumption | exact True.intro) (_ : m .banks := by first | assumption | exact True.intro) (_ : m .engines := by first | assumption | exact True.intro) (_ : m .security := by first | assumption | exact True.intro) (_ : m .occultation := by first | assumption | exact True.intro) (_ : m .chart := by first | assumption | exact True.intro) (_ : m .assistant := by first | assumption | exact True.intro) (_ : m .constellation := by first | assumption | exact True.intro) (_ : m .eyepiece := by first | assumption | exact True.intro) (_ : m .tick := by first | assumption | exact True.intro) : Keeps m s0 (State.lcAdvance x0) := by unfold State.lcAdvance; grind [State.mailDone_keeps, State.countToken_keeps, State.tokenBytes_keeps, State.lcAccepted_keeps]
theorem State.openSession_keeps {s0 : State} (x0 : State) (x1) (x2) (x3) (h : Keeps m s0 x0) (_ : m .answers := by first | assumption | exact True.intro) (_ : m .security := by first | assumption | exact True.intro) (_ : m .assistant := by first | assumption | exact True.intro) (_ : m .eyepiece := by first | assumption | exact True.intro) : Keeps m s0 (State.openSession x0 x1 x2 x3) := by
  unfold State.openSession
  try simp only []
  repeat' first | assumption | exact True.intro | with_reducible exact h | with_reducible apply State.logChange_keeps | with_reducible apply State.setReg_keeps | with_reducible apply State.put_keeps | with_reducible apply State.newNonce_keeps | with_reducible apply State.mailDone_keeps | with_reducible apply State.countToken_keeps | split
  all_goals grind [State.logChange_keeps, State.setReg_keeps, State.put_keeps, State.newNonce_keeps, State.mailDone_keeps, State.countToken_keeps, Keeps.upd]
theorem State.dbgUnlock_keeps {s0 : State} (x0 : State) (x1) (h : Keeps m s0 x0) (_ : m .answers := by first | assumption | exact True.intro) (_ : m .security := by first | assumption | exact True.intro) (_ : m .assistant := by first | assumption | exact True.intro) (_ : m .eyepiece := by first | assumption | exact True.intro) : Keeps m s0 (State.dbgUnlock x0 x1) := by unfold State.dbgUnlock; grind [State.mailDone_keeps, State.unlockFails_keeps, State.tokenBytes_keeps, State.openSession_keeps]
theorem execNop_keeps {s0 : State} (x0 : State) (h : Keeps m s0 x0) (_ : m .answers := by first | assumption | exact True.intro) (_ : m .security := by first | assumption | exact True.intro) (_ : m .assistant := by first | assumption | exact True.intro) : ∀ r, execNop x0 = .next r → Keeps m s0 r := by unfold execNop; grind [State.mail_keeps, State.mailDone_keeps]
theorem execLoad_keeps {s0 : State} (x0 : State) (h : Keeps m s0 x0) (_ : m .answers := by first | assumption | exact True.intro) (_ : m .flows := by first | assumption | exact True.intro) (_ : m .framePorts := by first | assumption | exact True.intro) (_ : m .security := by first | assumption | exact True.intro) (_ : m .assistant := by first | assumption | exact True.intro) : ∀ r, execLoad x0 = .next r → Keeps m s0 r := by unfold execLoad; grind [State.mail_keeps, State.loadCommand_keeps]
theorem execLoadReset_keeps {s0 : State} (x0 : State) (h : Keeps m s0 x0) (_ : m .plates := by first | assumption | exact True.intro) (_ : m .ecc := by first | assumption | exact True.intro) (_ : m .queues := by first | assumption | exact True.intro) (_ : m .time := by first | assumption | exact True.intro) (_ : m .events := by first | assumption | exact True.intro) (_ : m .answers := by first | assumption | exact True.intro) (_ : m .power := by first | assumption | exact True.intro) (_ : m .flows := by first | assumption | exact True.intro) (_ : m .framePorts := by first | assumption | exact True.intro) (_ : m .verniers := by first | assumption | exact True.intro) (_ : m .timers := by first | assumption | exact True.intro) (_ : m .clockDrive := by first | assumption | exact True.intro) (_ : m .banks := by first | assumption | exact True.intro) (_ : m .engines := by first | assumption | exact True.intro) (_ : m .security := by first | assumption | exact True.intro) (_ : m .occultation := by first | assumption | exact True.intro) (_ : m .chart := by first | assumption | exact True.intro) (_ : m .assistant := by first | assumption | exact True.intro) (_ : m .constellation := by first | assumption | exact True.intro) (_ : m .eyepiece := by first | assumption | exact True.intro) (_ : m .tick := by first | assumption | exact True.intro) : ∀ r, execLoadReset x0 = .next r → Keeps m s0 r := by unfold execLoadReset; grind [State.resetWith_keeps, State.placeAll_keeps]
theorem execAmend_keeps {s0 : State} (x0 : State) (h : Keeps AllParts s0 x0) : ∀ r, execAmend x0 = .next r → Keeps AllParts s0 r :=
  next_keeps _ (State.inTick_keeps _ _ _ h fun _ hu => State.mail_keeps _ _ _ hu fun _ _ hv => State.amendCommand_keeps _ hv)
theorem execCheck_keeps {s0 : State} (x0) (x1) (x2 : State) (h : Keeps AllParts s0 x2) : ∀ r, execCheck x0 x1 x2 = .next r → Keeps AllParts s0 r := by unfold execCheck; grind [State.mail_keeps, State.checkCommand_keeps]
theorem execAdmit_keeps {s0 : State} (x0 : State) (h : Keeps m s0 x0) (_ : m .answers := by first | assumption | exact True.intro) (_ : m .flows := by first | assumption | exact True.intro) (_ : m .framePorts := by first | assumption | exact True.intro) (_ : m .security := by first | assumption | exact True.intro) (_ : m .assistant := by first | assumption | exact True.intro) : ∀ r, execAdmit x0 = .next r → Keeps m s0 r := by unfold execAdmit; grind [State.mail_keeps, State.admitCommand_keeps]
theorem execWithdraw_keeps {s0 : State} (x0 : State) (h : Keeps m s0 x0) (_ : m .answers := by first | assumption | exact True.intro) (_ : m .flows := by first | assumption | exact True.intro) (_ : m .framePorts := by first | assumption | exact True.intro) (_ : m .security := by first | assumption | exact True.intro) (_ : m .assistant := by first | assumption | exact True.intro) : ∀ r, execWithdraw x0 = .next r → Keeps m s0 r := by unfold execWithdraw; grind [State.mail_keeps, State.withdrawCommand_keeps]
theorem execFlowquery_keeps {s0 : State} (x0 : State) (h : Keeps m s0 x0) (_ : m .answers := by first | assumption | exact True.intro) (_ : m .security := by first | assumption | exact True.intro) (_ : m .assistant := by first | assumption | exact True.intro) : ∀ r, execFlowquery x0 = .next r → Keeps m s0 r := by unfold execFlowquery; grind [State.mail_keeps, State.flowQuery_keeps]
theorem execCapquery_keeps {s0 : State} (x0 : State) (h : Keeps m s0 x0) (_ : m .answers := by first | assumption | exact True.intro) (_ : m .security := by first | assumption | exact True.intro) (_ : m .assistant := by first | assumption | exact True.intro) : ∀ r, execCapquery x0 = .next r → Keeps m s0 r := by unfold execCapquery; grind [State.mail_keeps, State.capQuery_keeps]
theorem execGrant_keeps {s0 : State} (x0 : State) (h : Keeps m s0 x0) (_ : m .events := by first | assumption | exact True.intro) (_ : m .answers := by first | assumption | exact True.intro) (_ : m .flows := by first | assumption | exact True.intro) (_ : m .engines := by first | assumption | exact True.intro) (_ : m .security := by first | assumption | exact True.intro) (_ : m .assistant := by first | assumption | exact True.intro) : ∀ r, execGrant x0 = .next r → Keeps m s0 r := by unfold execGrant; grind [State.mail_keeps, State.grantCommand_keeps]
theorem execRevoke_keeps {s0 : State} (x0 : State) (h : Keeps m s0 x0) (_ : m .plates := by first | assumption | exact True.intro) (_ : m .ecc := by first | assumption | exact True.intro) (_ : m .answers := by first | assumption | exact True.intro) (_ : m .security := by first | assumption | exact True.intro) (_ : m .assistant := by first | assumption | exact True.intro) (_ : m .tick := by first | assumption | exact True.intro) : ∀ r, execRevoke x0 = .next r → Keeps m s0 r :=
  next_keeps _ (State.inTick_keeps _ _ _ h fun _ hu => State.mail_keeps _ _ _ hu fun _ _ hv => State.revokeCommand_keeps _ _ hv)
theorem execFailover_keeps {s0 : State} (x0 : State) (h : Keeps m s0 x0) (_ : m .plates := by first | assumption | exact True.intro) (_ : m .ecc := by first | assumption | exact True.intro) (_ : m .queues := by first | assumption | exact True.intro) (_ : m .time := by first | assumption | exact True.intro) (_ : m .events := by first | assumption | exact True.intro) (_ : m .answers := by first | assumption | exact True.intro) (_ : m .flows := by first | assumption | exact True.intro) (_ : m .timers := by first | assumption | exact True.intro) (_ : m .engines := by first | assumption | exact True.intro) (_ : m .security := by first | assumption | exact True.intro) (_ : m .assistant := by first | assumption | exact True.intro) : ∀ r, execFailover x0 = .next r → Keeps m s0 r := by unfold execFailover; grind [State.mail_keeps, State.failoverCommand_keeps]
theorem execUpgrade_keeps {s0 : State} (x0 : State) (h : Keeps m s0 x0) (_ : m .answers := by first | assumption | exact True.intro) (_ : m .engines := by first | assumption | exact True.intro) (_ : m .security := by first | assumption | exact True.intro) (_ : m .assistant := by first | assumption | exact True.intro) : ∀ r, execUpgrade x0 = .next r → Keeps m s0 r := by unfold execUpgrade; grind [State.mail_keeps, State.upgradeCommand_keeps]
theorem execKeygen_keeps {s0 : State} (x0 : State) (h : Keeps m s0 x0) (_ : m .answers := by first | assumption | exact True.intro) (_ : m .security := by first | assumption | exact True.intro) (_ : m .assistant := by first | assumption | exact True.intro) : ∀ r, execKeygen x0 = .next r → Keeps m s0 r := by unfold execKeygen; grind [State.mail_keeps, State.keyGen_keeps]
theorem execKeyload_keeps {s0 : State} (x0 : State) (h : Keeps m s0 x0) (_ : m .answers := by first | assumption | exact True.intro) (_ : m .security := by first | assumption | exact True.intro) (_ : m .assistant := by first | assumption | exact True.intro) : ∀ r, execKeyload x0 = .next r → Keeps m s0 r := by unfold execKeyload; grind [State.mail_keeps, State.keyLoad_keeps]
theorem execKeyerase_keeps {s0 : State} (x0 : State) (h : Keeps m s0 x0) (_ : m .answers := by first | assumption | exact True.intro) (_ : m .security := by first | assumption | exact True.intro) (_ : m .assistant := by first | assumption | exact True.intro) : ∀ r, execKeyerase x0 = .next r → Keeps m s0 r := by unfold execKeyerase; grind [State.mail_keeps, State.keyErase_keeps]
theorem execLcadvance_keeps {s0 : State} (x0 : State) (h : Keeps m s0 x0) (_ : m .plates := by first | assumption | exact True.intro) (_ : m .ecc := by first | assumption | exact True.intro) (_ : m .queues := by first | assumption | exact True.intro) (_ : m .time := by first | assumption | exact True.intro) (_ : m .events := by first | assumption | exact True.intro) (_ : m .answers := by first | assumption | exact True.intro) (_ : m .power := by first | assumption | exact True.intro) (_ : m .flows := by first | assumption | exact True.intro) (_ : m .framePorts := by first | assumption | exact True.intro) (_ : m .verniers := by first | assumption | exact True.intro) (_ : m .timers := by first | assumption | exact True.intro) (_ : m .clockDrive := by first | assumption | exact True.intro) (_ : m .banks := by first | assumption | exact True.intro) (_ : m .engines := by first | assumption | exact True.intro) (_ : m .security := by first | assumption | exact True.intro) (_ : m .occultation := by first | assumption | exact True.intro) (_ : m .chart := by first | assumption | exact True.intro) (_ : m .assistant := by first | assumption | exact True.intro) (_ : m .constellation := by first | assumption | exact True.intro) (_ : m .eyepiece := by first | assumption | exact True.intro) (_ : m .tick := by first | assumption | exact True.intro) : ∀ r, execLcadvance x0 = .next r → Keeps m s0 r := by unfold execLcadvance; grind [State.mail_keeps, State.lcAdvance_keeps]
theorem execDbgunlock_keeps {s0 : State} (x0 : State) (h : Keeps m s0 x0) (_ : m .answers := by first | assumption | exact True.intro) (_ : m .security := by first | assumption | exact True.intro) (_ : m .assistant := by first | assumption | exact True.intro) (_ : m .eyepiece := by first | assumption | exact True.intro) : ∀ r, execDbgunlock x0 = .next r → Keeps m s0 r := by unfold execDbgunlock; grind [State.mail_keeps, State.dbgUnlock_keeps]
theorem execDbglock_keeps {s0 : State} (x0 : State) (h : Keeps m s0 x0) (_ : m .time := by first | assumption | exact True.intro) (_ : m .events := by first | assumption | exact True.intro) (_ : m .answers := by first | assumption | exact True.intro) (_ : m .flows := by first | assumption | exact True.intro) (_ : m .verniers := by first | assumption | exact True.intro) (_ : m .timers := by first | assumption | exact True.intro) (_ : m .engines := by first | assumption | exact True.intro) (_ : m .security := by first | assumption | exact True.intro) (_ : m .assistant := by first | assumption | exact True.intro) (_ : m .eyepiece := by first | assumption | exact True.intro) : ∀ r, execDbglock x0 = .next r → Keeps m s0 r := by unfold execDbglock; grind [State.mail_keeps, State.mailDone_keeps, State.closeSession_keeps]
theorem execLogspill_keeps {s0 : State} (x0 : State) (h : Keeps m s0 x0) (_ : m .answers := by first | assumption | exact True.intro) (_ : m .security := by first | assumption | exact True.intro) (_ : m .assistant := by first | assumption | exact True.intro) : ∀ r, execLogspill x0 = .next r → Keeps m s0 r := by unfold execLogspill; grind [State.mail_keeps, State.mailDone_keeps, State.setSpill_keeps]
theorem execLogread_keeps {s0 : State} (x0 : State) (h : Keeps m s0 x0) (_ : m .answers := by first | assumption | exact True.intro) (_ : m .security := by first | assumption | exact True.intro) (_ : m .assistant := by first | assumption | exact True.intro) : ∀ r, execLogread x0 = .next r → Keeps m s0 r := by unfold execLogread; grind [State.mail_keeps, State.mailDone_keeps, State.readRecord_keeps]
theorem execUnknownCommand_keeps {s0 : State} (x0 : State) (h : Keeps m s0 x0) (_ : m .assistant := by first | assumption | exact True.intro) : ∀ r, execUnknownCommand x0 = .next r → Keeps m s0 r := by unfold execUnknownCommand; grind [State.mailDone_keeps]

end Sys2Proof.Machine
end

