-- ==== Sys2Proof/Laws/KeepsExec.lean ====
section
/-! SUPPORT. What every command keeps: the lemmas of every command. -/

namespace Sys2Proof.Machine

set_option Elab.async false
variable {m : Part → Prop}

theorem mem_all (p : Part) : p ∈ allParts := by cases p <;> decide

theorem has {l : List Part} {p : Part} (h : l.contains p = true) : (fun p => p ∈ l) p := by simpa using h

theorem micro_touches (e : Fin 12) (f : Micro → Bool) (s t : State)
    (h : (.next (s.microRow e f) : Host.Outcome State Fault Refusal) = .next t) : Keeps (fun p => p ∈ engineParts) s t :=
  next_keeps _ (State.microRow_keeps _ _ _ (Keeps.refl s) (has rfl) (has rfl) (has rfl) (has rfl) (has rfl) (has rfl) (has rfl) (has rfl) (has rfl) (has rfl) (has rfl) (has rfl) (has rfl) (has rfl)) t h

theorem tick_touches (e : Fin 12) (same : Bool) (f : Micro → Bool) (s t : State)
    (h : (.next (s.inTick same fun u => u.microRow e f) : Host.Outcome State Fault Refusal) = .next t) : Keeps (fun p => p ∈ engineParts) s t :=
  next_keeps _ (State.inTick_keeps _ _ _ (Keeps.refl s) (fun _ hu => State.microRow_keeps _ _ _ hu (has rfl) (has rfl) (has rfl) (has rfl) (has rfl) (has rfl) (has rfl) (has rfl) (has rfl) (has rfl) (has rfl) (has rfl) (has rfl) (has rfl)) (has rfl)) t h

/-- A command changes nothing but the parts that it touches, and keeps the queue, the free values taken and the canonical forms. -/
theorem exec_keeps (i : Instr) (s t : State) (h : exec i s = .next t) : Keeps (fun p => p ∈ i.touches) s t := by
  cases i with
  | aonRstNAssert => exact (execAonRstNAssert_keeps _ (Keeps.refl s) t h).mono fun p _ => mem_all p
  | cluRstNAssert => exact execCluRstNAssert_keeps _ (Keeps.refl s) (has rfl) (has rfl) (has rfl) (has rfl) (has rfl) (has rfl) (has rfl) (has rfl) (has rfl) (has rfl) (has rfl) (has rfl) (has rfl) (has rfl) (has rfl) (has rfl) (has rfl) (has rfl) (has rfl) (has rfl) t h
  | dbgRstNAssert => exact execDbgRstNAssert_keeps _ (Keeps.refl s) (has rfl) (has rfl) (has rfl) (has rfl) (has rfl) (has rfl) (has rfl) (has rfl) (has rfl) t h
  | clurst => exact execClurst_keeps _ _ _ (Keeps.refl s) (has rfl) (has rfl) (has rfl) (has rfl) (has rfl) (has rfl) (has rfl) (has rfl) (has rfl) (has rfl) (has rfl) (has rfl) (has rfl) (has rfl) (has rfl) (has rfl) (has rfl) (has rfl) (has rfl) (has rfl) (has rfl) t h
  | resetReleaseSequence => exact execResetReleaseSequence_keeps _ _ _ _ (Keeps.refl s) (has rfl) (has rfl) (has rfl) (has rfl) (has rfl) (has rfl) (has rfl) t h
  | stabilityCheckComplete => exact execStabilityCheckComplete_keeps _ _ _ _ (Keeps.refl s) (has rfl) t h
  | pllLock => exact execPllLock_keeps _ (Keeps.refl s) (has rfl) (has rfl) (has rfl) (has rfl) (has rfl) (has rfl) (has rfl) (has rfl) (has rfl) (has rfl) (has rfl) (has rfl) (has rfl) (has rfl) (has rfl) (has rfl) (has rfl) (has rfl) (has rfl) (has rfl) t h
  | clockLoss => exact execClockLoss_keeps _ _ _ (Keeps.refl s) (has rfl) (has rfl) (has rfl) (has rfl) (has rfl) t h
  | linkPllLockLoss => exact execLinkPllLockLoss_keeps _ (Keeps.refl s) (has rfl) (has rfl) (has rfl) (has rfl) (has rfl) (has rfl) t h
  | attachSequence => exact execAttachSequence_keeps _ _ (Keeps.refl s) (has rfl) (has rfl) (has rfl) t h
  | detachSequence => exact execDetachSequence_keeps _ (Keeps.refl s) (has rfl) (has rfl) t h
  | detachCommitWindowEnd => exact execDetachCommitWindowEnd_keeps _ (Keeps.refl s) (has rfl) (has rfl) (has rfl) (has rfl) (has rfl) (has rfl) (has rfl) (has rfl) (has rfl) (has rfl) t h
  | detachDrainEnd => exact (execDetachDrainEnd_keeps _ (Keeps.refl s) t h).mono fun p _ => mem_all p
  | pwrAckLoss => exact (execPwrAckLoss_keeps _ (Keeps.refl s) t h).mono fun p _ => mem_all p
  | attachReqFallInDormant => exact (execAttachReqFallInDormant_keeps _ (Keeps.refl s) t h).mono fun p _ => mem_all p
  | napRequest => exact (execNapRequest_keeps _ _ _ (Keeps.refl s) t h).mono fun p _ => mem_all p
  | napEntry => exact execNapEntry_keeps _ (Keeps.refl s) (has rfl) (has rfl) t h
  | napExit => exact (execNapExit_keeps _ _ (Keeps.refl s) t h).mono fun p _ => mem_all p
  | dormant => exact (execDormant_keeps _ _ _ (Keeps.refl s) t h).mono fun p _ => mem_all p
  | dormantWake => exact execDormantWake_keeps _ _ _ (Keeps.refl s) (has rfl) (has rfl) t h
  | wake => exact execWake_keeps _ _ _ (Keeps.refl s) (has rfl) (has rfl) t h
  | wakeLatchReplay => exact execWakeLatchReplay_keeps _ (Keeps.refl s) (has rfl) (has rfl) t h
  | clkSscWrite => exact execClkSscWrite_keeps _ _ _ (Keeps.refl s) (has rfl) t h
  | stampPointEdge => exact execStampPointEdge_keeps _ _ _ _ (Keeps.refl s) (has rfl) (has rfl) t h
  | tempReading => exact execTempReading_keeps _ _ _ (Keeps.refl s) (has rfl) t h
  | snapshot => exact execSnapshot_keeps _ _ _ (Keeps.refl s) (has rfl) (has rfl) t h
  | rateWrite => exact execRateWrite_keeps _ _ _ (Keeps.refl s) (has rfl) (has rfl) t h
  | stepCommit => exact execStepCommit_keeps _ _ _ (Keeps.refl s) (has rfl) (has rfl) (has rfl) t h
  | slewComplete => exact execSlewComplete_keeps _ (Keeps.refl s) (has rfl) (has rfl) t h
  | qualWrite => exact execQualWrite_keeps _ _ _ (Keeps.refl s) (has rfl) (has rfl) t h
  | holdoverTimeout => exact execHoldoverTimeout_keeps _ (Keeps.refl s) (has rfl) t h
  | srvOwnWrite => exact execSrvOwnWrite_keeps _ _ _ (Keeps.refl s) (has rfl) (has rfl) t h
  | servoFreezeRelease => exact execServoFreezeRelease_keeps _ (Keeps.refl s) (has rfl) (has rfl) t h
  | pincalWrite => exact execPincalWrite_keeps _ _ _ (Keeps.refl s) (has rfl) t h
  | alarmArm => exact execAlarmArm_keeps _ _ _ _ (Keeps.refl s) (has rfl) (has rfl) t h
  | alarmDisarm => exact execAlarmDisarm_keeps _ _ _ _ (Keeps.refl s) (has rfl) (has rfl) t h
  | alarmFire => exact execAlarmFire_keeps _ _ (Keeps.refl s) (has rfl) (has rfl) (has rfl) (has rfl) t h
  | alarmPeriodicFire => exact execAlarmPeriodicFire_keeps _ _ (Keeps.refl s) (has rfl) (has rfl) (has rfl) (has rfl) (has rfl) t h
  | alarmRangeOpen => exact execAlarmRangeOpen_keeps _ _ (Keeps.refl s) (has rfl) (has rfl) (has rfl) (has rfl) (has rfl) t h
  | alarmRangeClose => exact execAlarmRangeClose_keeps _ _ (Keeps.refl s) (has rfl) (has rfl) t h
  | pcapCycRead => exact execPcapCycRead_keeps _ _ _ (Keeps.refl s) (has rfl) t h
  | cdrSnapshot => exact execCdrSnapshot_keeps _ _ _ (Keeps.refl s) (has rfl) t h
  | zeroCrossing => exact execZeroCrossing_keeps _ _ _ (Keeps.refl s) (has rfl) t h
  | estimateApplication => exact execEstimateApplication_keeps _ _ (Keeps.refl s) (has rfl) (has rfl) (has rfl) (has rfl) (has rfl) t h
  | catchupEnd => exact execCatchupEnd_keeps _ _ (Keeps.refl s) (has rfl) t h
  | trackerSourceLoss => exact execTrackerSourceLoss_keeps _ _ (Keeps.refl s) (has rfl) (has rfl) (has rfl) (has rfl) (has rfl) t h
  | holdoverLimit => exact execHoldoverLimit_keeps _ _ (Keeps.refl s) (has rfl) (has rfl) (has rfl) (has rfl) t h
  | trackerEnable => exact execTrackerEnable_keeps _ _ _ _ (Keeps.refl s) (has rfl) (has rfl) (has rfl) (has rfl) (has rfl) (has rfl) t h
  | trackerDisable => exact execTrackerDisable_keeps _ _ _ _ (Keeps.refl s) (has rfl) (has rfl) (has rfl) (has rfl) (has rfl) (has rfl) t h
  | cycload => exact execCycload_keeps _ _ _ _ (Keeps.refl s) (has rfl) (has rfl) (has rfl) (has rfl) (has rfl) (has rfl) t h
  | phaseAlarmArm => exact execPhaseAlarmArm_keeps _ _ _ _ (Keeps.refl s) (has rfl) (has rfl) (has rfl) (has rfl) t h
  | phaseAlarmDisarm => exact execPhaseAlarmDisarm_keeps _ _ _ _ (Keeps.refl s) (has rfl) (has rfl) (has rfl) (has rfl) t h
  | phaseAlarmFire => exact execPhaseAlarmFire_keeps _ _ (Keeps.refl s) (has rfl) (has rfl) t h
  | phaseAlarmPeriodicFire => exact execPhaseAlarmPeriodicFire_keeps _ _ (Keeps.refl s) (has rfl) (has rfl) (has rfl) t h
  | ephemerisEntryFire => exact execEphemerisEntryFire_keeps _ _ (Keeps.refl s) (has rfl) (has rfl) (has rfl) (has rfl) t h
  | ephemerisEntryWrite => exact execEphemerisEntryWrite_keeps _ _ _ (Keeps.refl s) (has rfl) t h
  | trackerConfigWrite => exact execTrackerConfigWrite_keeps _ _ _ _ _ (Keeps.refl s) (has rfl) t h
  | eventDispatch => exact execEventDispatch_keeps _ _ (Keeps.refl s) (has rfl) (has rfl) (has rfl) (has rfl) (has rfl) (has rfl) (has rfl) (has rfl) (has rfl) t h
  | exceptionEntry => exact execExceptionEntry_keeps _ _ (Keeps.refl s) (has rfl) (has rfl) (has rfl) (has rfl) (has rfl) (has rfl) (has rfl) (has rfl) (has rfl) (has rfl) (has rfl) (has rfl) (has rfl) (has rfl) t h
  | lensComplete => exact execLensComplete_keeps _ _ (Keeps.refl s) (has rfl) (has rfl) t h
  | bulkComplete => exact execBulkComplete_keeps _ _ _ _ (Keeps.refl s) (has rfl) (has rfl) (has rfl) (has rfl) (has rfl) (has rfl) (has rfl) t h
  | resumableElement => exact execResumableElement_keeps _ _ (Keeps.refl s) (has rfl) (has rfl) (has rfl) (has rfl) (has rfl) (has rfl) (has rfl) (has rfl) (has rfl) (has rfl) (has rfl) (has rfl) (has rfl) (has rfl) t h
  | engineRun => exact execEngineRun_keeps _ _ _ _ (Keeps.refl s) (has rfl) (has rfl) (has rfl) (has rfl) (has rfl) (has rfl) (has rfl) (has rfl) (has rfl) t h
  | engineStop => exact execEngineStop_keeps _ _ _ _ (Keeps.refl s) (has rfl) (has rfl) (has rfl) (has rfl) (has rfl) (has rfl) (has rfl) (has rfl) (has rfl) t h
  | engineForceStop => exact execEngineForceStop_keeps _ _ _ _ (Keeps.refl s) (has rfl) (has rfl) (has rfl) (has rfl) (has rfl) (has rfl) (has rfl) (has rfl) (has rfl) t h
  | fclr => exact execFclr_keeps _ _ _ _ (Keeps.refl s) (has rfl) (has rfl) (has rfl) (has rfl) (has rfl) (has rfl) (has rfl) (has rfl) (has rfl) t h
  | deferredHalt => exact execDeferredHalt_keeps _ _ (Keeps.refl s) (has rfl) (has rfl) (has rfl) (has rfl) (has rfl) (has rfl) (has rfl) (has rfl) (has rfl) t h
  | engUpcWrite => exact execEngUpcWrite_keeps _ _ _ _ (Keeps.refl s) (has rfl) t h
  | engPriWrite => exact execEngPriWrite_keeps _ _ _ _ (Keeps.refl s) (has rfl) t h
  | engSalWrite => exact execEngSalWrite_keeps _ _ _ _ _ (Keeps.refl s) (has rfl) t h
  | wcsCommit => exact execWcsCommit_keeps _ _ _ _ (Keeps.refl s) (has rfl) (has rfl) (has rfl) t h
  | wcsRead => exact execWcsRead_keeps _ _ _ _ (Keeps.refl s) (has rfl) (has rfl) (has rfl) t h
  | jmp => exact micro_touches _ _ _ _ h
  | br => exact micro_touches _ _ _ _ h
  | call => exact micro_touches _ _ _ _ h
  | callBr => exact micro_touches _ _ _ _ h
  | rts => exact micro_touches _ _ _ _ h
  | wait => exact micro_touches _ _ _ _ h
  | waitBr => exact micro_touches _ _ _ _ h
  | loop => exact micro_touches _ _ _ _ h
  | jmpR => exact micro_touches _ _ _ _ h
  | retE => exact micro_touches _ _ _ _ h
  | retX => exact micro_touches _ _ _ _ h
  | passa => exact micro_touches _ _ _ _ h
  | passb => exact micro_touches _ _ _ _ h
  | add => exact micro_touches _ _ _ _ h
  | adc => exact micro_touches _ _ _ _ h
  | sub => exact micro_touches _ _ _ _ h
  | sbc => exact micro_touches _ _ _ _ h
  | rsb => exact micro_touches _ _ _ _ h
  | and => exact micro_touches _ _ _ _ h
  | or => exact micro_touches _ _ _ _ h
  | xor => exact micro_touches _ _ _ _ h
  | andn => exact micro_touches _ _ _ _ h
  | not => exact micro_touches _ _ _ _ h
  | neg => exact micro_touches _ _ _ _ h
  | min => exact micro_touches _ _ _ _ h
  | max => exact micro_touches _ _ _ _ h
  | minu => exact micro_touches _ _ _ _ h
  | maxu => exact micro_touches _ _ _ _ h
  | cmp => exact micro_touches _ _ _ _ h
  | tst => exact micro_touches _ _ _ _ h
  | mul => exact micro_touches _ _ _ _ h
  | mulh => exact micro_touches _ _ _ _ h
  | mulhu => exact micro_touches _ _ _ _ h
  | clz => exact micro_touches _ _ _ _ h
  | popc => exact micro_touches _ _ _ _ h
  | brev => exact micro_touches _ _ _ _ h
  | sextB => exact micro_touches _ _ _ _ h
  | sextH => exact micro_touches _ _ _ _ h
  | shl => exact micro_touches _ _ _ _ h
  | shr => exact micro_touches _ _ _ _ h
  | sar => exact micro_touches _ _ _ _ h
  | ror => exact micro_touches _ _ _ _ h
  | csum16 => exact micro_touches _ _ _ _ h
  | ldB => exact micro_touches _ _ _ _ h
  | ldH => exact micro_touches _ _ _ _ h
  | ldW => exact micro_touches _ _ _ _ h
  | ldD => exact micro_touches _ _ _ _ h
  | stB => exact micro_touches _ _ _ _ h
  | stH => exact micro_touches _ _ _ _ h
  | stW => exact micro_touches _ _ _ _ h
  | stD => exact micro_touches _ _ _ _ h
  | addA => exact micro_touches _ _ _ _ h
  | swpA => exact micro_touches _ _ _ _ h
  | crcblk => exact micro_touches _ _ _ _ h
  | movblk => exact micro_touches _ _ _ _ h
  | sumblk => exact micro_touches _ _ _ _ h
  | brd => exact micro_touches _ _ _ _ h
  | bwr => exact micro_touches _ _ _ _ h
  | bwait => exact micro_touches _ _ _ _ h
  | bwaitAll => exact micro_touches _ _ _ _ h
  | saveLo => exact micro_touches _ _ _ _ h
  | saveHi => exact micro_touches _ _ _ _ h
  | capDrv => exact micro_touches _ _ _ _ h
  | capRev => exact tick_touches _ _ _ _ _ h
  | capClr => exact micro_touches _ _ _ _ h
  | capRd => exact micro_touches _ _ _ _ h
  | enq => exact micro_touches _ _ _ _ h
  | deq => exact micro_touches _ _ _ _ h
  | peek => exact micro_touches _ _ _ _ h
  | qlen => exact micro_touches _ _ _ _ h
  | commit => exact micro_touches _ _ _ _ h
  | put => exact tick_touches _ _ _ _ _ h
  | take => exact tick_touches _ _ _ _ _ h
  | stamp => exact micro_touches _ _ _ _ h
  | stampRx => exact micro_touches _ _ _ _ h
  | snap => exact micro_touches _ _ _ _ h
  | almArm => exact micro_touches _ _ _ _ h
  | almSet => exact micro_touches _ _ _ _ h
  | almDis => exact micro_touches _ _ _ _ h
  | almStat => exact micro_touches _ _ _ _ h
  | phArm => exact micro_touches _ _ _ _ h
  | phSet => exact micro_touches _ _ _ _ h
  | phDis => exact micro_touches _ _ _ _ h
  | phSnap => exact micro_touches _ _ _ _ h
  | phFeed => exact micro_touches _ _ _ _ h
  | evsrc => exact micro_touches _ _ _ _ h
  | tmrRd => exact micro_touches _ _ _ _ h
  | tmrWr => exact micro_touches _ _ _ _ h
  | tmrCap => exact micro_touches _ _ _ _ h
  | tmrParm => exact micro_touches _ _ _ _ h
  | discRate => exact micro_touches _ _ _ _ h
  | discStep => exact micro_touches _ _ _ _ h
  | discQual => exact micro_touches _ _ _ _ h
  | claim => exact tick_touches _ _ _ _ _ h
  | evtSet => exact micro_touches _ _ _ _ h
  | evtClr => exact micro_touches _ _ _ _ h
  | gmaskSet => exact micro_touches _ _ _ _ h
  | gmaskClr => exact micro_touches _ _ _ _ h
  | pendLo => exact micro_touches _ _ _ _ h
  | pendHi => exact micro_touches _ _ _ _ h
  | push => exact micro_touches _ _ _ _ h
  | pull => exact micro_touches _ _ _ _ h
  | vstat => exact micro_touches _ _ _ _ h
  | flagSet => exact micro_touches _ _ _ _ h
  | flagClr => exact micro_touches _ _ _ _ h
  | start => exact micro_touches _ _ _ _ h
  | stop => exact micro_touches _ _ _ _ h
  | pinrd => exact micro_touches _ _ _ _ h
  | pinwr => exact micro_touches _ _ _ _ h
  | qadd => exact micro_touches _ _ _ _ h
  | qsub => exact micro_touches _ _ _ _ h
  | qcmp => exact micro_touches _ _ _ _ h
  | qmov => exact micro_touches _ _ _ _ h
  | qneg => exact micro_touches _ _ _ _ h
  | qabs => exact micro_touches _ _ _ _ h
  | ldk => exact micro_touches _ _ _ _ h
  | qmul => exact micro_touches _ _ _ _ h
  | qmac => exact micro_touches _ _ _ _ h
  | qcmac => exact micro_touches _ _ _ _ h
  | f2q => exact micro_touches _ _ _ _ h
  | q2f => exact micro_touches _ _ _ _ h
  | fadd => exact micro_touches _ _ _ _ h
  | fsub => exact micro_touches _ _ _ _ h
  | fmul => exact micro_touches _ _ _ _ h
  | fma => exact micro_touches _ _ _ _ h
  | fdiv => exact micro_touches _ _ _ _ h
  | fsqrt => exact micro_touches _ _ _ _ h
  | cfma => exact micro_touches _ _ _ _ h
  | crot => exact micro_touches _ _ _ _ h
  | cvec => exact micro_touches _ _ _ _ h
  | vdotQ => exact micro_touches _ _ _ _ h
  | vdotF => exact micro_touches _ _ _ _ h
  | vcmacF => exact micro_touches _ _ _ _ h
  | timerStart => exact execTimerStart_keeps _ _ _ (Keeps.refl s) (has rfl) t h
  | timerWrap => exact execTimerWrap_keeps _ _ _ (Keeps.refl s) (has rfl) (has rfl) (has rfl) (has rfl) t h
  | timerCompareMatch => exact execTimerCompareMatch_keeps _ _ _ (Keeps.refl s) (has rfl) (has rfl) (has rfl) (has rfl) t h
  | timerStop => exact execTimerStop_keeps _ _ _ (Keeps.refl s) (has rfl) (has rfl) (has rfl) (has rfl) t h
  | phaseModeCompareFire => exact execPhaseModeCompareFire_keeps _ _ _ (Keeps.refl s) (has rfl) (has rfl) (has rfl) (has rfl) t h
  | pdis => exact execPdis_keeps _ _ _ _ _ (Keeps.refl s) (has rfl) (has rfl) (has rfl) (has rfl) (has rfl) t h
  | scap => exact execScap_keeps _ _ _ _ _ (Keeps.refl s) (has rfl) (has rfl) (has rfl) (has rfl) (has rfl) t h
  | edgeCapture => exact execEdgeCapture_keeps _ _ _ _ _ (Keeps.refl s) (has rfl) (has rfl) (has rfl) (has rfl) t h
  | captureRead => exact execCaptureRead_keeps _ _ _ _ _ (Keeps.refl s) (has rfl) (has rfl) (has rfl) t h
  | tmrCntWrite => exact execTmrCntWrite_keeps _ _ _ _ _ (Keeps.refl s) (has rfl) t h
  | tmrCtlWrite => exact execTmrCtlWrite_keeps _ _ _ _ _ (Keeps.refl s) (has rfl) (has rfl) (has rfl) (has rfl) (has rfl) t h
  | watchdogKick => exact execWatchdogKick_keeps _ _ _ _ (Keeps.refl s) (has rfl) (has rfl) t h
  | watchdogExpiry => exact execWatchdogExpiry_keeps _ _ (Keeps.refl s) (has rfl) t h
  | eventRegistration => exact execEventRegistration_keeps _ _ (Keeps.refl s) (has rfl) (has rfl) t h
  | fieldPinEdge => exact execFieldPinEdge_keeps _ _ _ (Keeps.refl s) (has rfl) (has rfl) t h
  | lineRetire => exact execLineRetire_keeps _ _ (Keeps.refl s) (has rfl) t h
  | moderationRelease => exact execModerationRelease_keeps _ _ (Keeps.refl s) (has rfl) t h
  | evcDoor => exact execEvcDoor_keeps _ _ _ (Keeps.refl s) (has rfl) (has rfl) (has rfl) t h
  | evcMaskWrite => exact execEvcMaskWrite_keeps _ _ _ _ (Keeps.refl s) (has rfl) (has rfl) t h
  | evcPendWrite => exact execEvcPendWrite_keeps _ _ _ _ (Keeps.refl s) (has rfl) (has rfl) (has rfl) t h
  | evcRouteWrite => exact execEvcRouteWrite_keeps _ _ _ _ (Keeps.refl s) (has rfl) (has rfl) (has rfl) t h
  | pltOwnWrite => exact execPltOwnWrite_keeps _ _ _ _ (Keeps.refl s) (has rfl) (has rfl) (has rfl) t h
  | handoverTakesEffect => exact execHandoverTakesEffect_keeps _ _ (Keeps.refl s) (has rfl) (has rfl) (has rfl) (has rfl) t h
  | hostPlateAccess => exact execHostPlateAccess_keeps _ _ _ _ _ _ _ (Keeps.refl s) (has rfl) (has rfl) (has rfl) t h
  | scrubberVisit => exact execScrubberVisit_keeps _ _ (Keeps.refl s) (has rfl) (has rfl) (has rfl) t h
  | descriptorVisible => exact execDescriptorVisible_keeps _ _ (Keeps.refl s) (has rfl) (has rfl) (has rfl) (has rfl) (has rfl) (has rfl) t h
  | spillReadback => exact execSpillReadback_keeps _ _ (Keeps.refl s) (has rfl) t h
  | queueResume => exact execQueueResume_keeps _ _ _ (Keeps.refl s) (has rfl) (has rfl) t h
  | qmEnq => exact execQmEnq_keeps _ _ _ (Keeps.refl s) (has rfl) (has rfl) (has rfl) (has rfl) t h
  | qmDeq => exact execQmDeq_keeps _ _ _ (Keeps.refl s) (has rfl) (has rfl) (has rfl) (has rfl) t h
  | qmPeek => exact execQmPeek_keeps _ _ _ (Keeps.refl s) (has rfl) (has rfl) (has rfl) (has rfl) t h
  | qmLen => exact execQmLen_keeps _ _ _ (Keeps.refl s) (has rfl) (has rfl) (has rfl) (has rfl) t h
  | queueConfigWrite => exact execQueueConfigWrite_keeps _ _ _ _ (Keeps.refl s) (has rfl) (has rfl) t h
  | poolConfigWrite => exact execPoolConfigWrite_keeps _ _ _ _ (Keeps.refl s) (has rfl) (has rfl) (has rfl) t h
  | frameReceived => exact execFrameReceived_keeps _ _ _ _ _ _ _ (Keeps.refl s) (has rfl) (has rfl) (has rfl) (has rfl) (has rfl) (has rfl) (has rfl) t h
  | frameFromSwitchCore => exact execFrameFromSwitchCore_keeps _ _ _ _ _ (Keeps.refl s) (has rfl) (has rfl) (has rfl) (has rfl) (has rfl) (has rfl) t h
  | frameEmission => exact execFrameEmission_keeps _ _ _ _ _ _ (Keeps.refl s) (has rfl) (has rfl) (has rfl) (has rfl) (has rfl) t h
  | expiryConversion => exact execExpiryConversion_keeps _ _ _ _ (Keeps.refl s) (has rfl) (has rfl) (has rfl) (has rfl) t h
  | injectedFrame => exact execInjectedFrame_keeps _ _ _ (Keeps.refl s) (has rfl) (has rfl) (has rfl) (has rfl) t h
  | go => exact execGo_keeps _ _ _ _ (Keeps.refl s) (has rfl) (has rfl) (has rfl) (has rfl) t h
  | gateListChange => exact execGateListChange_keeps _ _ (Keeps.refl s) (has rfl) (has rfl) (has rfl) t h
  | finderRuleCommit => exact execFinderRuleCommit_keeps _ _ _ _ (Keeps.refl s) (has rfl) (has rfl) t h
  | finderRuleApply => exact execFinderRuleApply_keeps _ _ (Keeps.refl s) (has rfl) (has rfl) t h
  | flowTableCommit => exact execFlowTableCommit_keeps _ _ _ _ (Keeps.refl s) (has rfl) (has rfl) (has rfl) (has rfl) t h
  | bucketRefill => exact execBucketRefill_keeps _ _ (Keeps.refl s) (has rfl) (has rfl) t h
  | bypassChange => exact execBypassChange_keeps _ _ (Keeps.refl s) (has rfl) t h
  | macStatisticsCode => exact execMacStatisticsCode_keeps _ _ _ (Keeps.refl s) (has rfl) (has rfl) t h
  | macWakeEdge => exact execMacWakeEdge_keeps _ _ (Keeps.refl s) (has rfl) (has rfl) t h
  | residueIndication => exact execResidueIndication_keeps _ _ _ (Keeps.refl s) (has rfl) (has rfl) t h
  | linkDelayCopy => exact execLinkDelayCopy_keeps _ _ _ (Keeps.refl s) (has rfl) t h
  | duplicateEntryExpiry => exact execDuplicateEntryExpiry_keeps _ _ (Keeps.refl s) (has rfl) t h
  | proxyEntryExpiry => exact execProxyEntryExpiry_keeps _ _ (Keeps.refl s) (has rfl) t h
  | recoveryStreamReset => exact execRecoveryStreamReset_keeps _ _ _ (Keeps.refl s) (has rfl) t h
  | counterReadClear => exact execCounterReadClear_keeps _ _ (Keeps.refl s) (has rfl) (has rfl) (has rfl) t h
  | fldCfgWrite => exact execFldCfgWrite_keeps _ _ _ _ (Keeps.refl s) (has rfl) (has rfl) (has rfl) t h
  | ppsRising => exact execPpsRising_keeps _ (Keeps.refl s) (has rfl) (has rfl) (has rfl) t h
  | ppsFalling => exact execPpsFalling_keeps _ (Keeps.refl s) (has rfl) (has rfl) (has rfl) t h
  | vrnCtlStart => exact execVrnCtlStart_keeps _ _ _ _ (Keeps.refl s) (has rfl) (has rfl) (has rfl) (has rfl) t h
  | vrnCtlStop => exact execVrnCtlStop_keeps _ _ _ _ (Keeps.refl s) (has rfl) (has rfl) (has rfl) (has rfl) t h
  | groupStart => exact execGroupStart_keeps _ _ _ (Keeps.refl s) (has rfl) (has rfl) (has rfl) (has rfl) t h
  | vrnImemWrite => exact execVrnImemWrite_keeps _ _ _ _ _ (Keeps.refl s) (has rfl) t h
  | idle => exact execIdle_keeps _ _ (Keeps.refl s) (has rfl) (has rfl) (has rfl) t h
  | setp => exact execSetp_keeps _ _ (Keeps.refl s) (has rfl) (has rfl) (has rfl) t h
  | sete => exact execSete_keeps _ _ (Keeps.refl s) (has rfl) (has rfl) (has rfl) t h
  | emit => exact execEmit_keeps _ _ (Keeps.refl s) (has rfl) (has rfl) (has rfl) t h
  | gather => exact execGather_keeps _ _ (Keeps.refl s) (has rfl) (has rfl) (has rfl) t h
  | vernierLoad => exact execVernierLoad_keeps _ _ (Keeps.refl s) (has rfl) (has rfl) (has rfl) t h
  | post => exact execPost_keeps _ _ (Keeps.refl s) (has rfl) (has rfl) (has rfl) t h
  | tally => exact execTally_keeps _ _ (Keeps.refl s) (has rfl) (has rfl) (has rfl) t h
  | vernierBr => exact execVernierBr_keeps _ _ (Keeps.refl s) (has rfl) (has rfl) (has rfl) t h
  | vernierWait => exact execVernierWait_keeps _ _ (Keeps.refl s) (has rfl) (has rfl) (has rfl) t h
  | stmp => exact execStmp_keeps _ _ (Keeps.refl s) (has rfl) (has rfl) (has rfl) t h
  | flg => exact execFlg_keeps _ _ (Keeps.refl s) (has rfl) (has rfl) (has rfl) t h
  | rep => exact execRep_keeps _ _ (Keeps.refl s) (has rfl) (has rfl) (has rfl) t h
  | train => exact execTrain_keeps _ _ _ _ (Keeps.refl s) (has rfl) (has rfl) t h
  | trainingComplete => exact execTrainingComplete_keeps _ _ (Keeps.refl s) (has rfl) t h
  | channelLost => exact execChannelLost_keeps _ _ (Keeps.refl s) (has rfl) (has rfl) (has rfl) t h
  | frontTrigger => exact execFrontTrigger_keeps _ _ _ _ _ (Keeps.refl s) (has rfl) t h
  | arrivalRecord => exact execArrivalRecord_keeps _ _ _ (Keeps.refl s) (has rfl) (has rfl) (has rfl) (has rfl) (has rfl) (has rfl) t h
  | warm => exact execWarm_keeps _ _ _ _ (Keeps.refl s) (has rfl) (has rfl) t h
  | windowClose => exact execWindowClose_keeps _ _ (Keeps.refl s) (has rfl) (has rfl) t h
  | occChcfgWrite => exact execOccChcfgWrite_keeps _ _ _ _ (Keeps.refl s) (has rfl) t h
  | chartLoad => exact (execChartLoad_keeps _ _ _ _ (Keeps.refl s) t h).mono fun p _ => mem_all p
  | nop => exact execNop_keeps _ (Keeps.refl s) (has rfl) (has rfl) (has rfl) t h
  | load => exact execLoad_keeps _ (Keeps.refl s) (has rfl) (has rfl) (has rfl) (has rfl) (has rfl) t h
  | loadReset => exact execLoadReset_keeps _ (Keeps.refl s) (has rfl) (has rfl) (has rfl) (has rfl) (has rfl) (has rfl) (has rfl) (has rfl) (has rfl) (has rfl) (has rfl) (has rfl) (has rfl) (has rfl) (has rfl) (has rfl) (has rfl) (has rfl) (has rfl) (has rfl) (has rfl) t h
  | amend => exact (execAmend_keeps _ (Keeps.refl s) t h).mono fun p _ => mem_all p
  | check => exact (execCheck_keeps _ _ _ (Keeps.refl s) t h).mono fun p _ => mem_all p
  | admitFlow => exact execAdmit_keeps _ (Keeps.refl s) (has rfl) (has rfl) (has rfl) (has rfl) (has rfl) t h
  | withdraw => exact execWithdraw_keeps _ (Keeps.refl s) (has rfl) (has rfl) (has rfl) (has rfl) (has rfl) t h
  | flowWithdrawn => exact execFlowWithdrawn_keeps _ _ (Keeps.refl s) t h
  | flowquery => exact execFlowquery_keeps _ (Keeps.refl s) (has rfl) (has rfl) (has rfl) t h
  | capquery => exact execCapquery_keeps _ (Keeps.refl s) (has rfl) (has rfl) (has rfl) t h
  | grant => exact execGrant_keeps _ (Keeps.refl s) (has rfl) (has rfl) (has rfl) (has rfl) (has rfl) (has rfl) t h
  | revoke => exact execRevoke_keeps _ (Keeps.refl s) (has rfl) (has rfl) (has rfl) (has rfl) (has rfl) (has rfl) t h
  | failover => exact execFailover_keeps _ (Keeps.refl s) (has rfl) (has rfl) (has rfl) (has rfl) (has rfl) (has rfl) (has rfl) (has rfl) (has rfl) (has rfl) (has rfl) t h
  | upgrade => exact execUpgrade_keeps _ (Keeps.refl s) (has rfl) (has rfl) (has rfl) (has rfl) t h
  | cutOver => exact execCutOver_keeps _ (Keeps.refl s) (has rfl) (has rfl) (has rfl) (has rfl) (has rfl) (has rfl) (has rfl) (has rfl) (has rfl) (has rfl) t h
  | cutOverTimeout => exact execCutOverTimeout_keeps _ (Keeps.refl s) (has rfl) (has rfl) t h
  | keygen => exact execKeygen_keeps _ (Keeps.refl s) (has rfl) (has rfl) (has rfl) t h
  | keyload => exact execKeyload_keeps _ (Keeps.refl s) (has rfl) (has rfl) (has rfl) t h
  | keyerase => exact execKeyerase_keeps _ (Keeps.refl s) (has rfl) (has rfl) (has rfl) t h
  | lcadvance => exact execLcadvance_keeps _ (Keeps.refl s) (has rfl) (has rfl) (has rfl) (has rfl) (has rfl) (has rfl) (has rfl) (has rfl) (has rfl) (has rfl) (has rfl) (has rfl) (has rfl) (has rfl) (has rfl) (has rfl) (has rfl) (has rfl) (has rfl) (has rfl) (has rfl) t h
  | dbgunlock => exact execDbgunlock_keeps _ (Keeps.refl s) (has rfl) (has rfl) (has rfl) (has rfl) t h
  | dbglock => exact execDbglock_keeps _ (Keeps.refl s) (has rfl) (has rfl) (has rfl) (has rfl) (has rfl) (has rfl) (has rfl) (has rfl) (has rfl) (has rfl) t h
  | logspill => exact execLogspill_keeps _ (Keeps.refl s) (has rfl) (has rfl) (has rfl) t h
  | logread => exact execLogread_keeps _ (Keeps.refl s) (has rfl) (has rfl) (has rfl) t h
  | unknownCommand => exact execUnknownCommand_keeps _ (Keeps.refl s) (has rfl) t h
  | breachWatchVisit => exact execBreachWatchVisit_keeps _ _ (Keeps.refl s) (has rfl) (has rfl) t h
  | engineFaultResponse => exact execEngineFaultResponse_keeps _ _ (Keeps.refl s) (has rfl) (has rfl) (has rfl) (has rfl) (has rfl) (has rfl) (has rfl) (has rfl) (has rfl) (has rfl) t h
  | engmapWrite => exact execEngmapWrite_keeps _ _ _ _ (Keeps.refl s) (has rfl) (has rfl) (has rfl) (has rfl) t h
  | lockstepMismatch => exact execLockstepMismatch_keeps _ (Keeps.refl s) t h
  | assistantWatchdogExpiry => exact execAssistantWatchdogExpiry_keeps _ (Keeps.refl s) t h
  | shutterTakeover => exact execShutterTakeover_keeps _ (Keeps.refl s) (has rfl) (has rfl) (has rfl) (has rfl) (has rfl) (has rfl) (has rfl) (has rfl) (has rfl) (has rfl) t h
  | shutterDrainEnd => exact execShutterDrainEnd_keeps _ (Keeps.refl s) (has rfl) (has rfl) (has rfl) (has rfl) (has rfl) (has rfl) (has rfl) t h
  | shutterSelfCheckFailure => exact execShutterSelfCheckFailure_keeps _ (Keeps.refl s) (has rfl) (has rfl) (has rfl) (has rfl) (has rfl) (has rfl) (has rfl) (has rfl) (has rfl) (has rfl) t h
  | shtStatFaultClear => exact execShtStatFaultClear_keeps _ _ _ (Keeps.refl s) (has rfl) t h
  | linkFrameReceived => exact execLinkFrameReceived_keeps _ _ _ _ (Keeps.refl s) (has rfl) (has rfl) (has rfl) (has rfl) (has rfl) (has rfl) (has rfl) (has rfl) (has rfl) t h
  | qhead => exact execQhead_keeps _ _ _ _ (Keeps.refl s) (has rfl) (has rfl) (has rfl) (has rfl) (has rfl) (has rfl) (has rfl) (has rfl) (has rfl) t h
  | qdata => exact execQdata_keeps _ _ _ _ (Keeps.refl s) (has rfl) (has rfl) (has rfl) (has rfl) (has rfl) (has rfl) (has rfl) (has rfl) (has rfl) t h
  | eventFrame => exact execEventFrame_keeps _ _ _ _ (Keeps.refl s) (has rfl) (has rfl) (has rfl) (has rfl) (has rfl) (has rfl) (has rfl) (has rfl) (has rfl) t h
  | controlFrame => exact execControlFrame_keeps _ _ _ _ (Keeps.refl s) (has rfl) (has rfl) (has rfl) (has rfl) (has rfl) (has rfl) (has rfl) (has rfl) (has rfl) t h
  | track => exact execTrack_keeps _ _ _ _ (Keeps.refl s) (has rfl) (has rfl) (has rfl) (has rfl) (has rfl) (has rfl) (has rfl) (has rfl) (has rfl) t h
  | trackExport => exact execTrackExport_keeps _ (Keeps.refl s) (has rfl) t h
  | linkFrameTimeout => exact execLinkFrameTimeout_keeps _ _ (Keeps.refl s) (has rfl) (has rfl) (has rfl) (has rfl) (has rfl) (has rfl) t h
  | linkUpdate => exact execLinkUpdate_keeps _ _ (Keeps.refl s) (has rfl) (has rfl) (has rfl) (has rfl) (has rfl) (has rfl) t h
  | servoOwnerHandover => exact execServoOwnerHandover_keeps _ (Keeps.refl s) (has rfl) (has rfl) (has rfl) (has rfl) (has rfl) t h
  | presenceTimeout => exact execPresenceTimeout_keeps _ _ (Keeps.refl s) (has rfl) (has rfl) (has rfl) t h
  | leave => exact execLeave_keeps _ _ _ _ (Keeps.refl s) (has rfl) (has rfl) (has rfl) (has rfl) (has rfl) (has rfl) (has rfl) t h
  | outboundItemSend => exact execOutboundItemSend_keeps _ (Keeps.refl s) (has rfl) (has rfl) (has rfl) (has rfl) t h
  | tamperDetection => exact execTamperDetection_keeps _ _ (Keeps.refl s) (has rfl) (has rfl) (has rfl) (has rfl) (has rfl) (has rfl) (has rfl) (has rfl) (has rfl) (has rfl) (has rfl) (has rfl) (has rfl) (has rfl) (has rfl) (has rfl) (has rfl) (has rfl) (has rfl) (has rfl) (has rfl) t h
  | tamperPolWrite => exact execTamperPolWrite_keeps _ _ _ (Keeps.refl s) (has rfl) t h
  | authBindingWrite => exact execAuthBindingWrite_keeps _ _ _ _ (Keeps.refl s) (has rfl) (has rfl) (has rfl) (has rfl) t h
  | authRequest => exact execAuthRequest_keeps _ _ (Keeps.refl s) (has rfl) (has rfl) (has rfl) (has rfl) (has rfl) (has rfl) t h
  | authResult => exact execAuthResult_keeps _ (Keeps.refl s) (has rfl) (has rfl) (has rfl) (has rfl) t h
  | logRecordPlace => exact execLogRecordPlace_keeps _ (Keeps.refl s) (has rfl) (has rfl) (has rfl) t h
  | gapRecord => exact execGapRecord_keeps _ (Keeps.refl s) (has rfl) t h
  | logSpillWrite => exact execLogSpillWrite_keeps _ _ (Keeps.refl s) t h
  | logSpillrdWrite => exact execLogSpillrdWrite_keeps _ _ _ (Keeps.refl s) (has rfl) t h
  | logTailWrite => exact execLogTailWrite_keeps _ _ _ (Keeps.refl s) (has rfl) t h
  | eyeDrUpdate => exact (execEyeDrUpdate_keeps _ _ _ _ _ (Keeps.refl s) t h).mono fun p _ => mem_all p
  | halt => exact execHalt_keeps _ _ _ (Keeps.refl s) (has rfl) (has rfl) (has rfl) (has rfl) (has rfl) (has rfl) (has rfl) t h
  | haltNow => exact execHaltNow_keeps _ _ _ (Keeps.refl s) (has rfl) (has rfl) (has rfl) (has rfl) (has rfl) (has rfl) (has rfl) t h
  | resume => exact execResume_keeps _ _ _ (Keeps.refl s) (has rfl) (has rfl) (has rfl) (has rfl) (has rfl) (has rfl) (has rfl) t h
  | step => exact execStep_keeps _ _ _ (Keeps.refl s) (has rfl) (has rfl) (has rfl) (has rfl) (has rfl) (has rfl) (has rfl) t h
  | live => exact execLive_keeps _ _ _ (Keeps.refl s) (has rfl) (has rfl) (has rfl) (has rfl) (has rfl) (has rfl) (has rfl) t h
  | liveRead => exact execLiveRead_keeps _ _ (Keeps.refl s) (has rfl) (has rfl) (has rfl) (has rfl) (has rfl) t h
  | engineHalt => exact execEngineHalt_keeps _ _ (Keeps.refl s) (has rfl) (has rfl) (has rfl) (has rfl) (has rfl) (has rfl) (has rfl) (has rfl) (has rfl) t h
  | vernierHalt => exact execVernierHalt_keeps _ _ (Keeps.refl s) (has rfl) t h
  | eyeEdataAccess => exact execEyeEdataAccess_keeps _ _ _ (Keeps.refl s) (has rfl) (has rfl) (has rfl) (has rfl) t h
  | eyeMasterGo => exact execEyeMasterGo_keeps _ _ _ (Keeps.refl s) (has rfl) (has rfl) (has rfl) t h
  | eyeMasterCancel => exact execEyeMasterCancel_keeps _ _ _ (Keeps.refl s) (has rfl) (has rfl) (has rfl) t h
  | eyeMasterComplete => exact execEyeMasterComplete_keeps _ _ _ _ (Keeps.refl s) (has rfl) (has rfl) (has rfl) (has rfl) (has rfl) t h
  | microbreak => exact execMicrobreak_keeps _ _ (Keeps.refl s) (has rfl) (has rfl) (has rfl) (has rfl) (has rfl) (has rfl) (has rfl) (has rfl) (has rfl) (has rfl) (has rfl) (has rfl) (has rfl) (has rfl) t h
  | crossTrigger => exact execCrossTrigger_keeps _ (Keeps.refl s) (has rfl) (has rfl) t h
  | eyeFreezeWrite => exact execEyeFreezeWrite_keeps _ _ _ (Keeps.refl s) (has rfl) t h
  | sessionExpiry => exact execSessionExpiry_keeps _ _ (Keeps.refl s) (has rfl) (has rfl) (has rfl) (has rfl) (has rfl) (has rfl) (has rfl) (has rfl) t h
  | capW3Commit => exact (execCapW3Commit_keeps _ _ _ _ (Keeps.refl s) t h).mono fun p _ => mem_all p
  | hostTransaction => exact (execHostTransaction_keeps _ _ _ _ _ _ _ (Keeps.refl s) t h).mono fun p _ => mem_all p
  | registerWrite => exact (execRegisterWrite_keeps _ _ _ _ (Keeps.refl s) t h).mono fun p _ => mem_all p
  | linkTrainingEntry => exact execLinkTrainingEntry_keeps _ _ (Keeps.refl s) (has rfl) (has rfl) (has rfl) t h
  | framePeriodSlot => exact execFramePeriodSlot_keeps _ _ _ (Keeps.refl s) (has rfl) (has rfl) (has rfl) t h
  | secondCarry => exact execSecondCarry_keeps _ (Keeps.refl s) (has rfl) (has rfl) t h
  | debugDomainPowerOff => exact execDebugDomainPowerOff_keeps _ (Keeps.refl s) (has rfl) (has rfl) (has rfl) (has rfl) (has rfl) (has rfl) (has rfl) (has rfl) (has rfl) (has rfl) t h

end Sys2Proof.Machine
end

