-- ==== Sys2Proof/WellFormed.lean ====
section
/-! DEFINITION. What an environment may send: the operands that the types of the commands do not bound. The machine answers every command,
well-formed or not. -/

namespace Sys2Proof

/-- A master that writes registers (18 R881): the tamper monitor, the clock and reset controller and the life-cycle controller do not,
and engines and other clusters address no register (09 R470). -/
def Origin.writes : Origin → Bool
  | .tamper => false
  | .clock => false
  | .lifeCycle => false
  | .host => true
  | .eyepiece => true
  | .engine _ => false
  | .assistant => true
  | .shutter => true
  | .loader => true
  | .peer _ => false
  | .cstLink => true

/-- The beats of a transaction (21 R937): a write carries one, or the four of a burst to plates; a read carries none. -/
def beatsGood (off : Nat) (write burst : Bool) (data : List DWord) : Bool :=
  data.length == (if !write then 0 else if burst then 4 else 1) && (!burst || (decide (0x400000 ≤ off) && off % 32 == 0))

/-- A command whose operands are as its row means them. -/
def Instr.wf : Instr → Bool
  | .aonRstNAssert => true
  | .cluRstNAssert => true
  | .dbgRstNAssert => true
  | .clurst o _ => o.writes
  | .resetReleaseSequence fuses limits _ => fuses.length == 119 && limits.length == 64
  | .stabilityCheckComplete _ lo hi => decide (lo ≤ hi)
  | .pllLock => true
  | .clockLoss _ _ => true
  | .linkPllLockLoss => true
  | .attachSequence _ => true
  | .detachSequence => true
  | .detachCommitWindowEnd => true
  | .detachDrainEnd => true
  | .pwrAckLoss => true
  | .attachReqFallInDormant => true
  | .napRequest o _ => o.writes
  | .napEntry => true
  | .napExit w => w.all fun p => p.1.writes
  | .dormant o _ => o.writes
  | .dormantWake _ _ => true
  | .wake o _ => o.writes
  | .wakeLatchReplay => true
  | .clkSscWrite o _ => o.writes
  | .stampPointEdge _ _ _ => true
  | .tempReading _ _ => true
  | .snapshot o _ => o.writes
  | .rateWrite o _ => o.writes
  | .stepCommit o _ => o.writes
  | .slewComplete => true
  | .qualWrite o _ => o.writes
  | .holdoverTimeout => true
  | .srvOwnWrite o _ => o.writes
  | .servoFreezeRelease => true
  | .pincalWrite o _ => o.writes
  | .alarmArm _ o _ => o.writes
  | .alarmDisarm _ o _ => o.writes
  | .alarmFire _ => true
  | .alarmPeriodicFire _ => true
  | .alarmRangeOpen _ => true
  | .alarmRangeClose _ => true
  | .pcapCycRead _ _ => true
  | .cdrSnapshot o _ => o.writes
  | .zeroCrossing _ _ => true
  | .estimateApplication _ => true
  | .catchupEnd _ => true
  | .trackerSourceLoss _ => true
  | .holdoverLimit _ => true
  | .trackerEnable _ o _ => o.writes
  | .trackerDisable _ o _ => o.writes
  | .cycload _ o _ => o.writes
  | .phaseAlarmArm _ o _ => o.writes
  | .phaseAlarmDisarm _ o _ => o.writes
  | .phaseAlarmFire _ => true
  | .phaseAlarmPeriodicFire _ => true
  | .ephemerisEntryFire _ => true
  | .ephemerisEntryWrite o _ => o.writes
  | .trackerConfigWrite _ _ o _ => o.writes
  | .eventDispatch _ => true
  | .exceptionEntry _ => true
  | .lensComplete _ => true
  | .bulkComplete _ _ _ => true
  | .resumableElement _ => true
  | .engineRun _ o _ => o.writes
  | .engineStop _ o _ => o.writes
  | .engineForceStop _ o _ => o.writes
  | .fclr _ o _ => o.writes
  | .deferredHalt _ => true
  | .engUpcWrite _ o _ => o.writes
  | .engPriWrite _ o _ => o.writes
  | .engSalWrite _ _ o _ => o.writes
  | .wcsCommit _ o _ => o.writes
  | .wcsRead _ _ o => o.writes
  | .jmp _ => true
  | .br _ => true
  | .call _ => true
  | .callBr _ => true
  | .rts _ => true
  | .wait _ => true
  | .waitBr _ => true
  | .loop _ => true
  | .jmpR _ => true
  | .retE _ => true
  | .retX _ => true
  | .passa _ => true
  | .passb _ => true
  | .add _ => true
  | .adc _ => true
  | .sub _ => true
  | .sbc _ => true
  | .rsb _ => true
  | .and _ => true
  | .or _ => true
  | .xor _ => true
  | .andn _ => true
  | .not _ => true
  | .neg _ => true
  | .min _ => true
  | .max _ => true
  | .minu _ => true
  | .maxu _ => true
  | .cmp _ => true
  | .tst _ => true
  | .mul _ => true
  | .mulh _ => true
  | .mulhu _ => true
  | .clz _ => true
  | .popc _ => true
  | .brev _ => true
  | .sextB _ => true
  | .sextH _ => true
  | .shl _ => true
  | .shr _ => true
  | .sar _ => true
  | .ror _ => true
  | .csum16 _ => true
  | .ldB _ => true
  | .ldH _ => true
  | .ldW _ => true
  | .ldD _ => true
  | .stB _ => true
  | .stH _ => true
  | .stW _ => true
  | .stD _ => true
  | .addA _ => true
  | .swpA _ => true
  | .crcblk _ => true
  | .movblk _ => true
  | .sumblk _ => true
  | .brd _ => true
  | .bwr _ => true
  | .bwait _ => true
  | .bwaitAll _ => true
  | .saveLo _ => true
  | .saveHi _ => true
  | .capDrv _ => true
  | .capRev _ => true
  | .capClr _ => true
  | .capRd _ => true
  | .enq _ => true
  | .deq _ => true
  | .peek _ => true
  | .qlen _ => true
  | .commit _ => true
  | .put _ => true
  | .take _ => true
  | .stamp _ => true
  | .stampRx _ => true
  | .snap _ => true
  | .almArm _ => true
  | .almSet _ => true
  | .almDis _ => true
  | .almStat _ => true
  | .phArm _ => true
  | .phSet _ => true
  | .phDis _ => true
  | .phSnap _ => true
  | .phFeed _ => true
  | .evsrc _ => true
  | .tmrRd _ => true
  | .tmrWr _ => true
  | .tmrCap _ => true
  | .tmrParm _ => true
  | .discRate _ => true
  | .discStep _ => true
  | .discQual _ => true
  | .claim _ => true
  | .evtSet _ => true
  | .evtClr _ => true
  | .gmaskSet _ => true
  | .gmaskClr _ => true
  | .pendLo _ => true
  | .pendHi _ => true
  | .push _ => true
  | .pull _ => true
  | .vstat _ => true
  | .flagSet _ => true
  | .flagClr _ => true
  | .start _ => true
  | .stop _ => true
  | .pinrd _ => true
  | .pinwr _ => true
  | .qadd _ => true
  | .qsub _ => true
  | .qcmp _ => true
  | .qmov _ => true
  | .qneg _ => true
  | .qabs _ => true
  | .ldk _ => true
  | .qmul _ => true
  | .qmac _ => true
  | .qcmac _ => true
  | .f2q _ => true
  | .q2f _ => true
  | .fadd _ => true
  | .fsub _ => true
  | .fmul _ => true
  | .fma _ => true
  | .fdiv _ => true
  | .fsqrt _ => true
  | .cfma _ => true
  | .crot _ => true
  | .cvec _ => true
  | .vdotQ _ => true
  | .vdotF _ => true
  | .vcmacF _ => true
  | .timerStart _ _ => true
  | .timerWrap _ _ => true
  | .timerCompareMatch _ _ => true
  | .timerStop _ _ => true
  | .phaseModeCompareFire _ _ => true
  | .pdis _ _ o _ => o.writes
  | .scap _ _ o _ => o.writes
  | .edgeCapture _ _ _ _ => true
  | .captureRead _ _ _ _ => true
  | .tmrCntWrite _ _ o _ => o.writes
  | .tmrCtlWrite _ _ o _ => o.writes
  | .watchdogKick _ o _ => o.writes
  | .watchdogExpiry _ => true
  | .eventRegistration _ => true
  | .fieldPinEdge _ _ => true
  | .lineRetire _ => true
  | .moderationRelease _ => true
  | .evcDoor o _ => o.writes
  | .evcMaskWrite _ o _ => o.writes
  | .evcPendWrite _ o _ => o.writes
  | .evcRouteWrite _ o _ => o.writes
  | .pltOwnWrite _ o _ => o.writes
  | .handoverTakesEffect _ => true
  | .hostPlateAccess off write burst _ data _ => beatsGood off.toNat write burst data
  | .scrubberVisit _ => true
  | .descriptorVisible _ => true
  | .spillReadback _ => true
  | .queueResume o _ => o.writes
  | .qmEnq o _ => o.writes
  | .qmDeq o _ => o.writes
  | .qmPeek o _ => o.writes
  | .qmLen o _ => o.writes
  | .queueConfigWrite _ o _ => o.writes
  | .poolConfigWrite _ o _ => o.writes
  | .frameReceived _ _ _ _ _ _ => true
  | .frameFromSwitchCore _ _ _ _ => true
  | .frameEmission _ _ _ _ _ => true
  | .expiryConversion _ _ _ => true
  | .injectedFrame _ _ => true
  | .go _ o _ => o.writes
  | .gateListChange _ => true
  | .finderRuleCommit _ o _ => o.writes
  | .finderRuleApply _ => true
  | .flowTableCommit _ o _ => o.writes
  | .bucketRefill _ => true
  | .bypassChange _ => true
  | .macStatisticsCode _ _ => true
  | .macWakeEdge _ => true
  | .residueIndication _ _ => true
  | .linkDelayCopy _ _ => true
  | .duplicateEntryExpiry _ => true
  | .proxyEntryExpiry _ => true
  | .recoveryStreamReset _ _ => true
  | .counterReadClear _ => true
  | .fldCfgWrite _ o _ => o.writes
  | .ppsRising => true
  | .ppsFalling => true
  | .vrnCtlStart _ o _ => o.writes
  | .vrnCtlStop _ o _ => o.writes
  | .groupStart o _ => o.writes
  | .vrnImemWrite _ _ o _ => o.writes
  | .idle _ => true
  | .setp _ => true
  | .sete _ => true
  | .emit _ => true
  | .gather _ => true
  | .vernierLoad _ => true
  | .post _ => true
  | .tally _ => true
  | .vernierBr _ => true
  | .vernierWait _ => true
  | .stmp _ => true
  | .flg _ => true
  | .rep _ => true
  | .train _ o _ => o.writes
  | .trainingComplete _ => true
  | .channelLost _ => true
  | .frontTrigger _ _ words _ => words.length == 27
  | .arrivalRecord _ taken => taken.length == 64
  | .warm _ o _ => o.writes
  | .windowClose _ => true
  | .occChcfgWrite _ o _ => o.writes
  | .chartLoad _ _ _ => true
  | .nop => true
  | .load => true
  | .loadReset => true
  | .amend => true
  | .check _ _ => true
  | .admitFlow => true
  | .withdraw => true
  | .flowWithdrawn _ => true
  | .flowquery => true
  | .capquery => true
  | .grant => true
  | .revoke => true
  | .failover => true
  | .upgrade => true
  | .cutOver => true
  | .cutOverTimeout => true
  | .keygen => true
  | .keyload => true
  | .keyerase => true
  | .lcadvance => true
  | .dbgunlock => true
  | .dbglock => true
  | .logspill => true
  | .logread => true
  | .unknownCommand => true
  | .breachWatchVisit _ => true
  | .engineFaultResponse _ => true
  | .engmapWrite _ o _ => o.writes
  | .lockstepMismatch => true
  | .assistantWatchdogExpiry => true
  | .shutterTakeover => true
  | .shutterDrainEnd => true
  | .shutterSelfCheckFailure => true
  | .shtStatFaultClear o _ => o.writes
  | .linkFrameReceived _ _ _ => true
  | .qhead _ _ _ => true
  | .qdata _ _ _ => true
  | .eventFrame _ _ _ => true
  | .controlFrame _ _ _ => true
  | .track _ _ _ => true
  | .trackExport => true
  | .linkFrameTimeout _ => true
  | .linkUpdate _ => true
  | .servoOwnerHandover => true
  | .presenceTimeout _ => true
  | .leave _ o _ => o.writes
  | .outboundItemSend => true
  | .tamperDetection _ => true
  | .tamperPolWrite o _ => o.writes
  | .authBindingWrite _ o _ => o.writes
  | .authRequest _ => true
  | .authResult => true
  | .logRecordPlace => true
  | .gapRecord => true
  | .logSpillWrite _ => true
  | .logSpillrdWrite o _ => o.writes
  | .logTailWrite o _ => o.writes
  | .eyeDrUpdate _ _ _ _ => true
  | .halt o _ => o.writes
  | .haltNow o _ => o.writes
  | .resume o _ => o.writes
  | .step o _ => o.writes
  | .live o _ => o.writes
  | .liveRead _ => true
  | .engineHalt _ => true
  | .vernierHalt _ => true
  | .eyeEdataAccess o _ => o.writes
  | .eyeMasterGo o _ => o.writes
  | .eyeMasterCancel o _ => o.writes
  | .eyeMasterComplete _ _ _ => true
  | .microbreak _ => true
  | .crossTrigger => true
  | .eyeFreezeWrite o _ => o.writes
  | .sessionExpiry _ => true
  | .capW3Commit _ o _ => o.writes
  | .hostTransaction off write burst _ data _ => beatsGood off.toNat write burst data
  | .registerWrite _ o _ => o.writes
  | .linkTrainingEntry _ => true
  | .framePeriodSlot _ _ => true
  | .secondCarry => true
  | .debugDomainPowerOff => true

end Sys2Proof
end

