-- ==== Sys2Proof/Tests/Slice0.lean ====
section
/-! SUPPORT. The model's own tests: that each check of `Instr.wf` refuses an ill-formed term; that the hypotheses of the statements of
Certificates/Slice0/Obligations.lean are met, clause by clause, by concrete states and operands (the `witness_` theorems, each
named after its statement, one conjunct for each clause that has hypotheses); and a few results computed by hand from spec/. -/

namespace Sys2Proof.Tests

open Sys2Proof.Machine

set_option maxRecDepth 4000
set_option Elab.async false

/-! ## States -/

/-- The cluster in service, attached, with its clocks locked and its Assistant pair in lock-step. -/
def live : State :=
  let s : State := { State.reset with ifcOn := true, dbgOn := true }
  (((((s.put CLU_STAT.STATE 3).put CLK_PLLSTAT.TCLKLK 1).put CLK_PLLSTAT.CCLKLK 1).put CLK_PLLSTAT.LINKLK 1).put AST_STAT.LOCKSTEP 1).put
    CLU_ATTACH.PSTATE 2

/-- In a life-cycle state. -/
def inLcs (n : Nat) (s : State) : State := s.put SEC_LCS.STATE n

/-- At an edge of TCLK, and at a cluster time in units of 2^-16 ns. -/
def atEdge (n : Nat) (s : State) : State := { s with rgl := { s.rgl with edge := n } }
def atTime (n : Nat) (s : State) : State := { s with rgl := { s.rgl with time := n * 2 ^ 24 } }

/-- A control store word from its data bits: eight groups of 19, each with its odd parity bit (04 R182). -/
def stored (d : Nat) : StoreWord :=
  BitVec.ofNat 160 ((List.range 8).foldl (fun n g =>
    let x := d / 2 ^ (19 * g) % 2 ^ 19
    n + 2 ^ (20 * g) * (x + 2 ^ 19 * ((1 + (List.range 19).foldl (fun p k => p + x / 2 ^ k) 0) % 2))) 0)

/-- The data bits of a microword, field by field (05 R239). -/
def word (w : Micro) : Nat :=
  w.next + 2 ^ 13 * w.seq + 2 ^ 17 * w.csel0 + 2 ^ 23 * w.csel1 + 2 ^ 29 * w.csel2 + 2 ^ 35 * w.csel3 + 2 ^ 41 * w.ways + 2 ^ 43 * w.cyc +
    2 ^ 45 * w.alu + 2 ^ 51 * w.asrc + 2 ^ 57 * w.bsrc + 2 ^ 63 * w.dst + 2 ^ 69 * w.shf + 2 ^ 75 * w.ccu + 2 ^ 77 * w.imm.toNat +
    2 ^ 109 * w.mem + 2 ^ 114 * w.amode + 2 ^ 118 * w.qop + 2 ^ 123 * w.top + 2 ^ 128 * w.evt + 2 ^ 134 * w.pin + 2 ^ 138 * w.lens +
    2 ^ 144 * w.capr + 2 ^ 148 * w.lock + 2 ^ 150 * bit w.bkpt + 2 ^ 151 * bit w.rsv

/-- A microword that copies r0 nowhere and goes on at 0x123. -/
def nop : Micro :=
  { next := 0x123, seq := 0, csel0 := 0, csel1 := 0, csel2 := 0, csel3 := 0, ways := 0, cyc := 3, alu := 0, asrc := 0, bsrc := 1, dst := 0x10,
    shf := 0, ccu := 0, imm := 0, mem := 0, amode := 0, qop := 0, top := 0, evt := 0, pin := 0, lens := 0, capr := 0, lock := 0, bkpt := false,
    rsv := false }

/-- Engine 0 runs at a level and stands at a microword at 0x400. -/
def standing (l : Nat) (w : Micro) (s : State) : State :=
  ((((s.put (ENG_STAT.STATE 0) 1).put (ENG_STAT.LEVEL 0) l).put (ENG_STAT.BANKS 0) (2 ^ l)).put (ENG_UPC.UPC 0) 0x400).setStoreWord 0 0x400
    (stored (word w))

/-- At level 1, from the live cluster. -/
def at1 (w : Micro) (s : State := live) : State := standing 1 w s

/-- Slot k of engine 0 holds a current capability with every right for an object. -/
def holds (k type obj : Nat) (s : State) : State := (s.setEntry type obj 5 false).setCap 0 k (mkCap type obj 0xFFF 5 0x30000 0x20000)

/-- Engine 0 owns plates 3 and 4, and its slot 3 holds a memory capability for them. -/
def owner0 : State := ((holds 3 1 9 live).put (PLT_OWN.OWNER 3) 0x10).put (PLT_OWN.OWNER 4) 0x10

/-- A microword with A in r2, B in r3 and capability slot 3. -/
def mem3 : Micro := { nop with asrc := 2, bsrc := 3, capr := 3 }

/-- At a memory microword, with A and B. -/
def memAt (w : Micro) (a b : Word) (s : State := owner0) : State := ((at1 w s).setGpr 0 1 2 a).setGpr 0 1 3 b

/-- A microword with A in r2, B in r3 and capability slot 5. -/
def cap5 : Micro := { nop with asrc := 2, bsrc := 3, capr := 5 }

/-! ## The vocabulary of the statements in decidable form -/

theorem forall_some_iff {α : Type} {o : Option α} {p : α → Prop} [DecidablePred p] :
    (∀ r, o = some r → p r) ↔ o.all (fun r => decide (p r)) = true := by cases o <;> simp

theorem quiet_iff {s : State} {e : Nat} :
    s.Quiet e ↔ s.ready e = true ∧ s.on (ENG_STAT.STALL e) = false ∧ s.badGroups e = 0 ∧ s.lockOpen e = false ∧ (s.eng e).capWrites =
      [] ∧ (s.eng e).stepping = false ∧ (s.micro e).bkpt = false ∧ ∀ k < 8, s.get (ENG_DCMP_CTL.KIND e k) = 0 :=
  ⟨fun h => ⟨h.1, h.2, h.3, h.4, h.5, h.6, h.7, h.8⟩, fun ⟨h1, h2, h3, h4, h5, h6, h7, h8⟩ => ⟨h1, h2, h3, h4, h5, h6, h7, h8⟩⟩

theorem unhindered_iff {s : State} {e : Nat} :
    s.Unhindered e ↔ s.Quiet e ∧ s.firstCause (s.here e) = none ∧ s.stalls (s.here e) = false :=
  ⟨fun h => ⟨h.1, h.2, h.3⟩, fun ⟨h1, h2, h3⟩ => ⟨h1, h2, h3⟩⟩

theorem readable_iff {s : State} {e a n : Nat} :
    s.Readable e a n ↔ s.uncorrectable a n = false ∧ ∀ i < n, s.underBulkRead e (a + i) = false :=
  ⟨fun h => ⟨h.1, h.2⟩, fun ⟨h1, h2⟩ => ⟨h1, h2⟩⟩

theorem accepts_iff {s : State} {q : Nat} :
    s.Accepts q ↔ s.on (QM_QSTAT.STOP q) = false ∧ s.queueCount q < 2 ^ s.get (QM_QRING.RSZ q) - 1 + s.get (QM_QSPLEN.LEN q) / 32 ∧
      s.poolOfQueue q = none :=
  ⟨fun h => ⟨h.1, h.2, h.3⟩, fun ⟨h1, h2, h3⟩ => ⟨h1, h2, h3⟩⟩

theorem mayCommit_iff {s : State} {f : Nat} {d : List Byte} :
    s.MayCommit f d ↔ s.on (AST_OT0.VALID f) = true ∧ descFlow d = f ∧ (s.get (AST_OT0.SRCK f) = 2 ∨ descSeq d = (s.reg (AST_OT2
      f)).toNat) ∧ descSeq d ≠ 0xFFFFFFFF ∧ s.itemsAccepted f ≠ 0 ∧ s.itemLate f = false :=
  ⟨fun h => ⟨h.1, h.2, h.3, h.4, h.5, h.6⟩, fun ⟨h1, h2, h3, h4, h5, h6⟩ => ⟨h1, h2, h3, h4, h5, h6⟩⟩

theorem takes_iff {s : State} {o : Origin} {key : Nat} :
    s.Takes o key ↔ s.busError o true (hostOffset key) = false ∧ ¬ ((regDesc key).any (·.logged) = true ∧ s.logRefuses o = true) ∧ (∀
      r, s.ringOf o = some r → r ≤ minRing key) ∧ s.debugOff key = false :=
  ⟨fun h => ⟨h.1, h.2, h.3, h.4⟩, fun ⟨h1, h2, h3, h4⟩ => ⟨h1, h2, h3, h4⟩⟩

theorem serves_iff {s : State} {p c lead l i : Nat} {d : List Byte} :
    s.Serves p c lead l i d ↔ s.PortOpen p ∧ (∀ c' < 8, c < c' → s.classLeader p c' lead = none ∧ ∀ x, (s.port p).core = some x → x.cls
      ≠ c') ∧ s.classLeader p c lead = some l ∧ s.portHead l c p = some (i, d) ∧ (s.readPortHead l c i).1 = true ∧
      s.on (FPT_GCTL.EN p) = false :=
  ⟨fun h => ⟨h.1, h.2, h.3, h.4, h.5, h.6⟩, fun ⟨h1, h2, h3, h4, h5, h6⟩ => ⟨h1, h2, h3, h4, h5, h6⟩⟩

theorem triggers_iff {s : State} {c n : Nat} {xs : List Int} :
    s.Triggers c n xs ↔ s.get (OCC_CHSTAT.STATE c) = 2 ∧ s.on CLK_PLLSTAT.TCLKLK = true ∧ s.on CLK_PLLSTAT.CCLKLK = true ∧ xs.length =
      27 ∧ s.get (OCC_CHCTL.POL c) ≠ 0 ∧ (s.channel c).next ≤ n ∧ s.samplesIn c n = true ∧ (s.channel c).front = none ∧ (s.get
      (OCC_THR.THR c) : Int) ≤ polarity (s.get (OCC_CHCTL.POL c)) xs * (xs.getD 19 0 - xs.getD 15 0) :=
  ⟨fun h => ⟨h.1, h.2, h.3, h.4, h.5, h.6, h.7, h.8, h.9⟩, fun ⟨h1, h2, h3, h4, h5, h6, h7, h8, h9⟩ => ⟨h1, h2, h3, h4, h5, h6, h7, h8,
      h9⟩⟩

theorem executes_iff {s : State} {c : MailCommand} {code : Nat} :
    s.Executes c code ↔ s.assistant.command = some c ∧ c.code = code ∧ s.on AST_STAT.LOCKSTEP = true ∧ s.on CLK_PLLSTAT.TCLKLK = true ∧
      s.on CLK_PLLSTAT.CCLKLK = true ∧ s.get CLU_STAT.STATE ≠ 7 ∧ s.assistant.upgrade = none :=
  ⟨fun h => ⟨h.1, h.2, h.3, h.4, h.5, h.6, h.7⟩, fun ⟨h1, h2, h3, h4, h5, h6, h7⟩ => ⟨h1, h2, h3, h4, h5, h6, h7⟩⟩

theorem passes_iff {s : State} {c : MailCommand} {code : Nat} :
    s.Passes c code ↔ s.Executes c code ∧ (∀ r ∈ mailRows, r.code = code → c.ring ≤ r.ring s ∧ r.runs s ∧ r.zeros s ∧ (r.changes = true
      → s.logRefuses c.origin = false)) ∧ s.mailArgs code = true ∧ s.mailHeld code = false :=
  ⟨fun h => ⟨h.1, h.2, h.3, h.4⟩, fun ⟨h1, h2, h3, h4⟩ => ⟨h1, h2, h3, h4⟩⟩

theorem hasSpare_iff {s : State} {e sp : Nat} :
    s.HasSpare e sp ↔ s.spareOf e = some sp ∧ sp ≠ e :=
  ⟨fun h => ⟨h.1, h.2⟩, fun ⟨h1, h2⟩ => ⟨h1, h2⟩⟩

theorem hears_iff {s : State} {x : Nat} {f : List Byte} :
    s.Hears x f ↔ s.linksAllowed = true ∧ s.linkState x ≠ 0 ∧ linkCrcGood f = true ∧ (s.link x).peerCount < 4096 :=
  ⟨fun h => ⟨h.1, h.2, h.3, h.4⟩, fun ⟨h1, h2, h3, h4⟩ => ⟨h1, h2, h3, h4⟩⟩

theorem inbound_iff {s : State} {c q : Nat} {f : List Byte} :
    s.Inbound c q f ↔ linkChannel f = c ∧ s.on (CST_CHCFG.EN c) = true ∧ s.get (CST_CHCFG.PEER c) = linkSrc f ∧ s.get (CST_CHCFG.QUEUE
      c) = q ∧ s.get (QM_QCFG.PROD q) = 2 :=
  ⟨fun h => ⟨h.1, h.2, h.3, h.4, h.5⟩, fun ⟨h1, h2, h3, h4, h5⟩ => ⟨h1, h2, h3, h4, h5⟩⟩

theorem mayDebug_iff {s : State} {o : Origin} {w : Word} :
    s.MayDebug o w ↔ s.Takes o EYE_CTL ∧ (o = .eyepiece → (s.get EYE_SESS.RIGHTS).testBit 0 = true) ∧ (w.getLsbD 5 = true → o =
      .eyepiece → (s.get EYE_SESS.RIGHTS).testBit 1 = true) ∧ s.logRefuses o = false :=
  ⟨fun h => ⟨h.1, h.2, h.3, h.4⟩, fun ⟨h1, h2, h3, h4⟩ => ⟨h1, h2, h3, h4⟩⟩

theorem masterServes_iff {s : State} {x : EyeAccess} {n : Nat} :
    s.MasterServes x n ↔ x.ext = false ∧ (n = if x.wide then 8 else 4) ∧ s.masterAllows x = true ∧ s.masterIdle x = true ∧
      ∀ a ∈ wordsIn x.addr n, s.eccAt a = 0 :=
  ⟨fun h => ⟨h.1, h.2, h.3, h.4, h.5⟩, fun ⟨h1, h2, h3, h4, h5⟩ => ⟨h1, h2, h3, h4, h5⟩⟩

theorem tamperTakes_iff {s : State} {bits : BitVec 8} {act : Nat} :
    s.TamperTakes bits act ↔ (∃ b, s.NewTamper bits b ∧ (s.reg SEC_TAMPER_POL).toNat / 2 ^ (3 * b) % 8 = act) ∧ ∀ b, s.NewTamper bits b
      → (s.reg SEC_TAMPER_POL).toNat / 2 ^ (3 * b) % 8 ≤ act :=
  ⟨fun h => ⟨h.1, h.2⟩, fun ⟨h1, h2⟩ => ⟨h1, h2⟩⟩

theorem takesBinding_iff {s : State} {o : Origin} {n : Nat} {v : Word} :
    s.TakesBinding o n v ↔ s.busError o true (SEC_AUTHQ n) = false ∧ s.logRefuses o = false ∧ ∀ r, s.ringOf o = some r → r ≤ if
      s.hostManaged 8 (v.toNat % 64) then 2 else 1 :=
  ⟨fun h => ⟨h.1, h.2, h.3⟩, fun ⟨h1, h2, h3⟩ => ⟨h1, h2, h3⟩⟩

theorem requests_iff {s : State} {n : Nat} {d : List Byte} {a : Nat} :
    s.Requests n d a ↔ s.pllsRun = true ∧ s.security.auth = none ∧ s.on (SEC_AUTHQ.EN n) = true ∧ s.headSlot (s.get (SEC_AUTHQ.REQQ n)) =
      some a ∧ d = s.bytes a 32 ∧ s.uncorrectable a 32 = false ∧ s.headHeld (s.get (SEC_AUTHQ.REQQ n)) = false ∧
      (s.authBad n d = true ∨ s.rangeHeld (descAddr d) (descLen d) = false) :=
  ⟨fun h => ⟨h.1, h.2, h.3, h.4, h.5, h.6, h.7, h.8⟩, fun ⟨h1, h2, h3, h4, h5, h6, h7, h8⟩ => ⟨h1, h2, h3, h4, h5, h6, h7, h8⟩⟩

theorem pendingLevel_iff {s : State} {e l : Nat} :
    s.PendingLevel e l ↔ ((List.range 64).any fun v => s.vectorPending e v && decide (s.vectorLevel e v = some l)) = true := by
  simp [State.PendingLevel]

/-! ## Witnesses of the hypotheses of the statements -/

/-- A bulk write in flight. -/
def anEngineWrite : BulkTag := { use := .engineWrite 0x30000 8, ext := 0x80000000, bytes := [1, 2, 3, 4, 5, 6, 7, 8], discard := false }

/-- At a microword whose slot 5 names an object, with A. -/
def capAt (w : Micro) (type obj : Nat) (a : Word) (s : State := owner0) : State := memAt w a 0 (holds 5 type obj s)

/-- Queue 77 with eight slots at 0x40000, of which some are visible. -/
def queue77 (vis : Nat) (s : State := owner0) : State :=
  ((s.put (QM_QRING.RSZ 77) 3).put (QM_QRING.BASE 77) 0x40000).setQueue 77 { s.queue 77 with vis := vis }

/-- Flow 6 in the order table, its twelve items to queue 77, of which item 9 is next, and its descriptor at 0x30000. -/
def flow6 : State :=
  (((((queue77 0).put (AST_OT0.VALID 6) 1).put (AST_OT0.DSTQ 6) 77).setReg (AST_OT1 6) 12).setReg (AST_OT2 6) 9).setBytes 0x30000
    (mkDesc [0x33000, 8, 6, 9, 0, 0, 0, 0])

/-- The save area of level 1 of engine 0 at 0x30200, in a plate that slot 16 covers. -/
def saveArea : State :=
  (((owner0.put (ENG_SAL.ADDR 0 1) 0x30200).setCap 0 16 (mkCap 1 9 0xFFF 5 0x30000 0x20000)).setBytes 0x30200 [0, 2, 3, 0, 0, 0, 0, 0])

/-- Engine 0 owns alarm 3 and phase alarm 3; its slot 5 names tracker 0, which is locked. -/
def alarm3 : State := holds 5 9 0 (((live.put (RGL_ALM_CTL.OWNER 3) 0x10).put (CDR_PALM_CTL.OWNER 3) 0x10).put (CDR_PT_STAT.STATE 0) 2)

/-- Slot 5 of engine 0 names Vernier 2 or field pin 2; the pin is its. -/
def vernier2 : State := atEdge 1 (holds 5 5 2 live)
def pin2 : State := holds 5 3 2 ((live.put (FLD_CFG.FUNC 2) 1).put (FLD_CFG.OWNER 2) 0)

/-- A Lens operation that writes L3. -/
def lensOp3 : LensOp := { writes := [(3, 5)], flags := 4, upc := 0x400, level := 1 }

/-- A delivery of line 7 to vector line 5 of engine 0, as moderation holds it or not. -/
def deliveryOf (held : Option Nat) : Delivery := { line := some 7, eng := 0, vline := 5, serial := 1, claim := false, held := held }
def delivery7 : Delivery := deliveryOf none

/-- Alarm 2 armed in a mode, its compare value 50 at the time 100, and its partner at 10^-6 s. -/
def alarm2 (mode : Nat) (opened : Bool) : State :=
  (((atTime 100 live).put (RGL_ALM_CTL.ARM 2) 1).put (RGL_ALM_CTL.MODE 2) mode).setReg (RGL_ALM_T0 3) 0x03E80000 |>.setAlarm 2
    { compare := 50, armTime := 40, opened := opened, lateOpen := false, lateClose := false }

/-- Tracker 3 catches up and has an estimate. -/
def estimate0 : Estimate := { phase := 0, freq := 0, rho := 0, tu := 0 }
def catching : State := (live.put (CDR_PT_STAT.CATCHUP 3) 1).setTracker 3 { tracker0 with estimate := some estimate0 }

/-- Tracker 3 acquires from field pin 0, on which an edge has just been stamped. -/
def crossing3 : State :=
  ((((live.put (CDR_PT_SRC.KIND 3) 2).put (CDR_PT_STAT.STATE 3) 1).put (FLD_CFG.FUNC 0) 4).put (FLD_CFG.OWNER 0) 0x33).setStampPoint (pinInput 0)
    { riseAt := none, fallAt := none, rise := 0, fall := 0, riseNo := 1, fallNo := 0 }

/-- Timer 3 of engine 11: its control bits EN and STALE, its count, compare value and the edges since the last boundary. -/
def timer3 (en stale count compare due : Nat) : State :=
  (atEdge due ((live.put (TMR_CTL.EN 11 3) en).put (TMR_CTL.STALE 11 3) stale)).setTimer 11 3 { timer0 with count := count, compare := compare }

/-- A session of the Eyepiece with every right. -/
def sessionLive : State := (live.put EYE_STAT.SESS 1).setReg EYE_SESS 0xFF

/-- Vernier 23 runs and stands at an instruction at address 31. -/
def vernier23 (w : BitVec 16) : State :=
  (atEdge 1 ((live.put (VRN_STAT.STATE 23) 1).setReg (VRN_IMEM 23 31) (w.setWidth 32))).setVernier 23 { vernier0 with next := 31 }

/-- Engine 11 idles with levels 0 to 3 enabled; line 7 goes to it at level 2 and vector line 5. -/
def engine11 (deliveries : List Delivery) (entry : Option Nat) : State :=
  let s := ((((live.put (ENG_STAT.STATE 11) 2).put (ENG_PRI.LVLEN 11) 15).put (EVC_ROUTE.TMASK 7) 0x800).put (EVC_ROUTE.VLINE 7) 5).put (EVC_ROUTE.LVL 7) 2
  { s with deliveries := deliveries, engines := tset (fun _ => engine0) [] 11 { engine0 with entry := entry } }
def line7to11 : Delivery := { line := some 7, eng := 11, vline := 5, serial := 1, claim := false, held := none }

/-- A bulk read of an engine in flight. -/
def anEngineRead : BulkTag := { use := .engineRead 0x30000 8, ext := 0x80000000, bytes := [], discard := false }

/-- A descriptor of 32 zero bytes. -/
def zeros32 : List Byte := List.replicate 32 0

/-- Queue 1023 with eight slots at 0x40000. -/
def queue1023 (f : QueueState → QueueState) (s : State := live) : State :=
  let t := (((s.put (QM_QRING.RSZ 1023) 3).put (QM_QRING.BASE 1023) 0x40000).put QM_QIDX.QUEUE 1023).put QM_QARG.ADDR 0x5FFFE0
  t.setQueue 1023 (f (t.queue 1023))

/-- The live cluster past attachment, its port 0 not bypassed. -/
def open0 : State := (live.put CLU_STAT.STATE 2).put (FPT_CTL.BYP 0) 0

/-- A good frame of 64 bytes, and one below the minimum. -/
def frame64 : List Byte := withFcs ((List.range 60).map (BitVec.ofNat 8)) true
def frame34 : List Byte := withFcs ((List.range 30).map (BitVec.ofNat 8)) true

/-- Rule 5 of port 0 matches every frame of a direction with an action. -/
def rule5 (act dir : Nat) : State := ((open0.put (FPT_FRW4.EN 0 5) 1).put (FPT_FRW4.DIR 0 5) dir).put (FPT_FRW5.ACT 0 5) act

/-- The rule redirects to flow 9, which entry 7 polices with an empty bucket. -/
def policed : State :=
  (((((rule5 2 0).put (FPT_FRW5.FLOWEN 0 5) 1).put (FPT_FRW5.FLOW 0 5) 9).put (FPT_FTW0.ROLE 0 7) 1).put (FPT_FTW0.FLOW 0 7) 9).put (FPT_FTW0.POLICE 0 7) 1

/-- A frame of class 3 in the core of the port. -/
def core3 : CoreFrame := { cls := 3, bytes := frame64, rule := none }

/-- A descriptor of flow 9, sequence 5, at a launch time. -/
def desc5 (tomb : Bool) (launch : Time96) : List Byte := hwDesc 0x2000 (descWord1 64 8 false true tomb 3) 9 5 launch 0
def launch9 : Time96 := toTime96 (10 ^ 9 * 65536)

/-- Class 3 of leader 3 on port 0 drains queue 100, whose head is the descriptor; the port's ledger for flow 9 stands at a sequence. -/
def queued100 (d : List Byte) (last : Nat) : State :=
  let s := ((((open0.put (FPT_CLS.EN 3 3) 1).put (FPT_CLS.QUEUE 3 3) 100).put (FPT_CLS.MCMASK 3 3) 1).put (FPT_STAT.LINK 0) 1).put (QM_QRING.RSZ 100) 3
  let s := s.setQueue 100 { s.queue 100 with vis := 1 }
  (((s.setBytes ((s.headSlot 100).getD 0) d).put (FPT_FTW0.ROLE 0 8) 2).put (FPT_FTW0.FLOW 0 8) 9).setReg (FPT_FTW1 0 8) (BitVec.ofNat 32 last)
def head100 (s : State) : Nat := (s.headSlot 100).getD 0

/-- Port 0 with a shadow gate list that a GO accepts, and with the GO pending. -/
def gates0 : State := (((open0.put (FPT_GLIST.LEN 0) 4).put (FPT_GLIST.START 0) 3).put (FPT_GCYC.CYC 0) 1000).setReg (FPT_GBASE0 0) 0x12345
def after (i : Instr) (s : State) : State := match exec i s with | .next t => t | _ => s

/-- A waveform that rises from sample 17 to sample 25 at a slope and ends at a level; and one that rises below its baseline. -/
def rising (slope top : Int) : List (BitVec 16) :=
  (List.range 27).map fun i => BitVec.ofInt 16 (if i < 17 then 5 else if i < 25 then 5 + slope * (i - 16) else top)
def dipped : List (BitVec 16) := (List.range 27).map fun i => BitVec.ofInt 16 (if i < 15 then 500 else -1000 + 10 * (i - 15))

/-- Channel 0 in RUN with polarity 1, threshold 10 and a hold-off of 20, with 64 sample edges recorded. -/
def channel0 : State :=
  let s := (((open0.put (OCC_CHSTAT.STATE 0) 2).put (OCC_CHCTL.POL 0) 1).put (OCC_THR.THR 0) 10).put (OCC_THR.HOLD 0) 20
  s.setChannel 0 { s.channel 0 with samples := 64, edges := (List.range 64).map fun i => 10 ^ 9 - i * 16 * 65536 - i * i }

/-- A front of the channel, and the channel with it in a mode. -/
def front0 : Front := { n := 30, steepest := 1, at_ := 10 ^ 9, noise := 0, sat := false, qual := false, neg := false, rise := 0 }
def fronted (mode : Nat) : State := (channel0.setChannel 0 { channel0.channel 0 with front := some front0 }).put (OCC_CHCTL.MODE 0) mode

/-- A host's mailbox command with its arguments, in progress. -/
def hostCommand (code : Nat) : MailCommand := { code := code, origin := .host, ring := 0 }
def mailed (code : Nat) (args : List Word) (s : State := live) : State :=
  let t := (s.putArgs 0 args).put AST_MBOX_STAT.BUSY 1
  { t with assistant := { t.assistant with command := some (hostCommand code) } }
def ring2 (c : MailCommand) : MailCommand := { c with ring := 2 }

/-- The live cluster in life-cycle state 3, with plate 9 owned by the host. -/
def lcs3 : State := (live.put SEC_LCS.STATE 3).put (PLT_OWN.OWNER 9) 1

/-- A strict Logbook with a full ring. -/
def strictFull : State := (live.put LOG_CTL.STRICT 1).setReg LOG_HEAD 1024

/-- Every plate owned by the host. -/
def allHost : State := (List.range 96).foldl (fun s k => s.put (PLT_OWN.OWNER k) 1) live

/-- Engine 0 serves with engine 2 as its spare, every fault code in AST_FPOL, and the line of its fault registered. -/
def spare2 : State :=
  { (live.setReg AST_FPOL 0xFFFFFFFF).setReg AST_ENGROLE 0x021 with
    asst := [240], chart := { live.chart with engines := [[BitVec.ofNat 32 (0 + 1 * 16 + 64 + 2 * 128)]] } }

/-- A key blob of 16 bytes at the start of plate 9. -/
def blob9 : State := lcs3.setBytes 0x90000 [0, 0, 16, 0, 0, 0, 0, 0, 1, 2, 3, 4, 5, 6, 7, 8, 9, 10, 11, 12, 13, 14, 15, 16]

/-- Flow 5, of a line, in a state, of one step on engine 0 whose path takes no time, with or without its annotation. -/
def flow5 (annots : List (List Word)) (n : Nat) : State :=
  { live.put (ADM_FSTATE.STATE 5) n with
    chart := { live.chart with annots := annots },
    flows := tset (fun _ => live.flow 0) [] 5 { live.flow 5 with words := [0x2000, 0, 0, 1000000, 1000, 1, 0x00400040, 0, 0, 0, 0, 0] } }
/-- Flow 5 where port 0 has no lead-table entry free. -/
def full5 : State :=
  let s := mailed 0x20 [5] (flow5 [[0, 0, 0, 0]] 1)
  { s with
    regs := s.regs ++ (List.range 512).map fun k => (FPT_FTW0 0 k, 0x1000)
    flows := tset (fun _ => live.flow 0) [] 5 { live.flow 5 with words := [0, 0, 0, 1000000, 1000, 1, 0x00400040, 0, 0, 0, 0, 0] } }
def admitted5 : State := mailed 0x20 [5] (flow5 [[0, 0, 0, 0]] 1)

theorem exists_error {α β : Type} {x : Except α β} (p : α → Bool) (h : (match x with | .ok _ => false | .error e => p e) = true) :
    ∃ e, x = .error e ∧ p e = true := by
  cases x with
  | ok v => cases h
  | error e => exact ⟨e, rfl, h⟩

/-- An amendment that is not one: the bytes are zero. -/
def badAmend : State := mailed 0x11 [0x90000, 0x40] lcs3

theorem exists_ok {α β : Type} {x : Except α β} (p : β → Bool) (h : (match x with | .ok v => p v | .error _ => false) = true) :
    ∃ v, x = .ok v ∧ p v = true := by
  cases x with
  | ok v => exact ⟨v, rfl, h⟩
  | error e => cases h

/-- Signed messages. With r = s = the hash of the message, and the key the point of that abscissa less the base point, the signature verifies:
both factors are 1. -/
def lcTokenKey : List Byte :=
  leBytes 64
    0xefa238ea2b6779b49e8bfd71e938f200320020d5210cc3e615195e4530aa0fde964fbdf26e1a69a8a3bcda845c880375acc9638063d1384163eda173648af14d
def lcTokenSig : List Byte :=
  leBytes 64
    0x304195033d265310ea81544e5d41ab7c450283184ca1a80710d519b2119c090b304195033d265310ea81544e5d41ab7c450283184ca1a80710d519b2119c090b
/-- The bytes signed: a token for the transition from DEVELOP to DEPLOY. -/
def lcTokenBytes : List Byte :=
  leBytes 48
    0x20000000000000000000000324b54434c
def unlockTokenKey : List Byte :=
  leBytes 64
    0x7cbaa4b7980e2aee8c42e137b56952bc6850b822207bc743e19a86307af4b425910b7846cf63571dfcf9f124c489f91e2ae1484ffa5bc925ae4a3d501b9212b1
def unlockTokenSig : List Byte :=
  leBytes 64
    0xd4de7ab0df11cb1b3a097554f14d024b1cf6bd8f7066491caabe38e47b2487b1d4de7ab0df11cb1b3a097554f14d024b1cf6bd8f7066491caabe38e47b2487b1
/-- The bytes signed: a token for the Eyepiece. -/
def unlockTokenBytes : List Byte :=
  leBytes 32
    0x3000000000000000000000000000000000000000047444245
def chartKey : List Byte :=
  leBytes 64
    0x1460f4d2d7b0e9bcb68f24ee4cbce6a9a4f4042cb96758482e969d443c2678734a151a663c2c59ba22cee2283bbb5346cf99203b012d67fbef13a3de534c4166
def chartSig : List Byte :=
  leBytes 64
    0x58a03ba5c95c669642905561670911a88929ba3f56a450e06c98d45724a7207558a03ba5c95c669642905561670911a88929ba3f56a450e06c98d45724a72075
/-- The bytes signed: a chart of one platform record and no engine. -/
def chartBytes : List Byte :=
  leBytes 128
    0x80000000030000000100000020000000600000000100000000000000000000000000000000000000000000000000000000000000000003000058530c12000000020000000000000002000000800040000154484349
def amendKey : List Byte :=
  leBytes 64
    0x6634cc614b81e41123c6f69dcebb24c74b02ee4ee7ba8ef718bf8a756d0edc5fc1c2b0683da44475b9f505b709822f3ecb258df2466a339e3bff05eadf5c8d23
def amendSig : List Byte :=
  leBytes 64
    0x7fc86431b2b550b8f4bb4975991d1dde25cfe0e2f346578750dc5890ccf315167fc86431b2b550b8f4bb4975991d1dde25cfe0e2f346578750dc5890ccf31516
/-- The bytes signed: an amendment with no record. -/
def amendBytes : List Byte :=
  leBytes 80
    0x500000000200000000000000000000000000000000000000000000000000000000000000000003000058530c12000000020000000000020001000000500040000154484349

/-- The chart-signing key hash is that of a key. -/
def keyed (key : List Byte) (s : State) : State := s.setRegs ((List.range 8).map fun i => (SEC_KHASH i, hashWord (sha256 key) i))

/-- An image with its trailer. -/
def sealed (m key sig : List Byte) : List Byte := m ++ key ++ sig ++ leBytes 4 0x4C494154 ++ leBytes 4 m.length
def chartImage : List Byte := sealed chartBytes chartKey chartSig
def amendImage : List Byte := sealed amendBytes amendKey amendSig

/-- The tokens in plate 9. -/
def lcToken9 : State := (keyed lcTokenKey (lcs3.put SEC_LCS.STATE 2)).setBytes 0x90000 (lcTokenBytes ++ lcTokenKey ++ lcTokenSig)
def unlockToken9 : State := (keyed unlockTokenKey lcs3).setBytes 0x90000 (unlockTokenBytes ++ unlockTokenKey ++ unlockTokenSig)

/-- Flow 5 in order, past its last sequence: queue 7 accepts its tombstones. -/
def breached5 : State := (((live.put (AST_OT0.VALID 5) 1).put (AST_OT0.DSTQ 5) 7).setReg (AST_OT1 5) 2).put (QM_QRING.RSZ 7) 3

/-- An upgrade of engine 0 to engine 2, in progress. -/
def upgrade02 : Upgrade := { eng := 0, spare := 2, edge := 0 }
def upgrading (s : State) : State := { s with assistant := { s.assistant with command := some (hostCommand 0x41), upgrade := some upgrade02 } }

/-- The shutter in its drain. -/
def draining : State := (live.put CLU_STAT.STATE 5).put SHT_STAT.PHASE 3

/-- In loading, from no source and from external memory. -/
def loading0 : State := live.put CLU_STAT.STATE 1
def loadingExt : State := (loading0.put CHT_SRC.KIND 2).setReg CHT_SRCLEN 64

/-- Member 1 of the constellation; a link in a state; a link port changed. -/
def member1 : State := (live.put CLU_STAT.STATE 2).put CST_CFG.MEMBER 1
def linkIn (x st : Nat) (s : State) : State := s.put (CST_LNKSTAT.STATE x) st
def withLink (s : State) (x : Nat) (f : LinkPort → LinkPort) : State := s.setLink x (f (s.link x))

/-- A link frame with its CRC. -/
def closed (f : List Byte) : List Byte := linkSet f 124 (leBytes 4 (crc32 ((f.drop 2).take 122)).toNat)
def frameOf (type src dst : Nat) (all : Bool) (header : Nat) (payload : List Byte) : List Byte :=
  closed (linkSet (linkFrame type src dst all header payload) 4 (leBytes 8 0x123456789ABC))
def badFrame : List Byte := (frameOf 0 2 3 false 0 []).set 50 1
def idleFrame : List Byte := frameOf 0 2 3 false 0 []

/-- Channel 3 from member 2 into queue 77, its buffers from pool 2, whose free queue 50 holds two. -/
def inbound3 (s : State) : State :=
  let s := (((s.put (CST_CHCFG.EN 3) 1).put (CST_CHCFG.PEER 3) 2).put (CST_CHCFG.QUEUE 3) 77).put (CST_CHCFG.POOL 3) 2
  let s := (s.put (QM_QCFG.PROD 77) 2).put (QM_QRING.RSZ 77) 3
  let s := ((((s.put (QM_PCFG.FREEQ 2) 50).put (QM_PCFG.BSZ 2) 2).put (QM_PCFG.NBUF 2) 4).put (QM_QRING.RSZ 50) 3).put (QM_QRING.BASE 50) 0x8000
  let s := (s.setReg (QM_PBASE 2) 0x20000).setQueue 50 { s.queue 50 with vis := 2 }
  s.setBytes 0x8000 (mkDesc [0x20100, 0x100, 0, 0, 0, 0, 0, 0])

/-- The frames of an item of channel 3: its head and its data. -/
def itemDesc (len : Nat) : List Byte := mkDesc [0x1234, BitVec.ofNat 32 len, 0x55, 7, 1, 2, 3, 4]
def chunk64 : List Byte := (List.range 64).map (BitVec.ofNat 8)
def channelHeader (ch : Nat) (last : Bool) (chunk cseq : Nat) : Nat := ch + 64 * bit last + 256 * chunk + 65536 * cseq
def headFrame (last : Bool) (len : Nat) : List Byte := frameOf 1 2 1 false (channelHeader 3 last 0 9) (itemDesc len ++ chunk64)
def dataFrame (chunk : Nat) : List Byte := frameOf 2 2 1 false (channelHeader 3 true chunk 9) (itemDesc 100 ++ chunk64)

/-- An item of channel 3 begun. -/
def begun3 : State := after (.qhead 0 5 (headFrame false 100)) (linkIn 0 1 (inbound3 member1))
def assembly3 : Assembly := (begun3.assembly 3 0).getD { cseq := 0, desc := [], addr := 0, chunk := 0, stamp := 0 }

/-- Channel 3 to member 2 out of queue 77, whose head has a length. -/
def outbound3 (len : Nat) : State :=
  let s := linkIn 0 3 member1
  let s := (((s.put (CST_CHCFG.EN 3) 1).put (CST_CHCFG.PEER 3) 2).put (CST_CHCFG.QUEUE 3) 77).put (CST_CHCFG.ROUTE 3) 1
  let s := (((s.put (QM_QCFG.CONS 77) 2).put (QM_QRING.RSZ 77) 3).put (QM_QRING.BASE 77) 0x8000).put (CST_CHCFG.RCH 3) 9
  let s := s.setQueue 77 { s.queue 77 with vis := 2 }
  (s.setBytes 0x8000 (mkDesc [0x20100, BitVec.ofNat 32 len, 0, 0, 0, 0, 0, 0])).setBytes 0x20100 ((List.range 200).map (BitVec.ofNat 8))

/-- Link 0 synchronised in a link period. -/
def inPeriod (k : Nat) (f : LinkPort → LinkPort) : State :=
  let s := withLink (linkIn 0 3 member1) 0 f
  { s with rgl := { s.rgl with edge := k * 128, time := k * 256 * 2 ^ 40 + 12345 } }
def sentFrame : List Byte := linkFrame 2 1 3 false 7 [1, 2, 3]

/-- A debug access to plate 9; the Eyepiece with accesses in progress; a session of every right. -/
def access9 : EyeAccess := { viaDr := false, write := false, ext := false, wide := false, addr := 0x90000, data := 0xFEDCBA9876543210, tag := none }
def withAccess (l : List EyeAccess) (s : State) : State := { s with eyepiece := { s.eyepiece with access := l } }
def session (left : Option Nat) : State :=
  let s := ((live.put (PLT_OWN.OWNER 9) 1).put EYE_STAT.SESS 1).setReg EYE_SESS 0xFF
  { s with eyepiece := { s.eyepiece with left := left } }

/-- The offset at which the host window holds a register. -/
def offsetOf (k : Nat) : BitVec 24 := BitVec.ofNat 24 (hostOffset k)
def descOf (k : Nat) : RegDesc := (regDesc k).getD { base := 0 }

/-- In DEPLOY with a tamper policy. -/
def tampered (v : Nat) : State := lcs3.setReg SEC_TAMPER_POL (BitVec.ofNat 32 v)

/-- Queues 100 and 101 join engine 4 and the authentication unit; engine 4 holds a capability for slot 3. -/
def joined : State :=
  let s := (((lcs3.put (QM_QCFG.CONS 100) 4).put (QM_QCFG.PROD 101) 4).put (QM_QCFG.PROD 100) 0x14).put (QM_QCFG.CONS 101) 0x14
  (s.setBytes ((capEntryAt 8 3).getD 0) [5, 0]).setCap (s.engMap 4) 2 (mkCap 8 3 1 5 0 0)
def bind3 : Word := BitVec.ofNat 32 (3 + 100 * 1024 + 101 * 2 ^ 20 + 2 ^ 31)
def bound2 : State := joined.setReg (SEC_AUTHQ 2) bind3

/-- A request of binding 2 at the head of its queue, and one in progress. -/
def authDesc : List Byte := mkDesc [0x90000, 0x80, 0x10000000, 0, 0, 0, 0, 0x40000]
def requested2 : State :=
  let s := (bound2.put (QM_QRING.RSZ 100) 3).put (QM_QRING.BASE 100) 0x8000
  (s.setQueue 100 { s.queue 100 with vis := 1 }).setBytes 0x8000 authDesc
def request2 : AuthRequest := { binding := 2, desc := authDesc, result := 1 }

/-- A record with a place in the Logbook. -/
def record0 : LogRecord :=
  { stamp := 0, origin := 0x118, kind := 0xB, fcode := 0x10E, qual := 0x1F, refused := true, object := 0xDEADBEEF, value := 5, aux := 6 }

/-- A banked register other than ADM_FBOUND resets to 0. -/
theorem banked_zero {k : Nat} (h : 0x1000000 ≤ k) (hk : k < 0x10B0000 ∨ 0x10C0000 ≤ k) : resetWord k = 0 := by
  have hb : regBlock k = regsBanked := by
    unfold regBlock
    simp [show ¬ k < 0x2000 by omega, show ¬ k < 0x3000 by omega, show ¬ k < 0x4000 by omega, show ¬ k < 0x5000 by omega,
      show ¬ k < 0x6000 by omega, show ¬ k < 0x7000 by omega, show ¬ k < 0x8000 by omega, show ¬ k < 0x9000 by omega,
      show ¬ k < 0xA000 by omega, show ¬ k < 0xB000 by omega, show ¬ k < 0xB100 by omega, show ¬ k < 0xC000 by omega,
      show ¬ k < 0x10000 by omega, show ¬ k < 0x1000000 by omega]
  have hz : ∀ d ∈ regsBanked, d.reset = 0 ∨ d.base = 0x10B0004 ∧ d.c1 = 4096 ∧ d.t1 = 8 := by decide
  unfold resetWord regDesc
  rw [hb]
  cases hf : regsBanked.find? (·.has k) with
  | none => rfl
  | some d =>
    have hd := List.find?_some hf
    rcases hz d (List.mem_of_find?_eq_some hf) with h0 | ⟨h1, h2, h3⟩
    · simp [h0]
    · exfalso
      simp only [RegDesc.has, h1, h2, h3, Bool.and_eq_true, decide_eq_true_eq] at hd
      omega

/-- A register that no entry lists reads as it resets. -/
theorem reg_unlisted {s : State} {k : Nat} (h : ∀ p ∈ s.regs, p.1 ≠ k) : s.reg k = resetWord k := by
  unfold State.reg
  revert h
  generalize s.regs = l
  intro h
  induction l with
  | nil => rfl
  | cons p l ih =>
    obtain ⟨j, v⟩ := p
    have : j ≠ k := h (j, v) (by simp)
    simp only [tget, this, if_false]
    exact ih fun q hq => h q (by simp [hq])

/-- No queue ring, constellation channel or Finder rule has been set up. -/
def bare (l : Table Word) : Bool :=
  l.all fun p => decide (p.1 < 0x1000000) || (decide (0x10B0000 ≤ p.1) && decide (p.1 < 0x10C0000))

theorem bare_reg {s : State} {k : Nat} (h : bare s.regs = true) (hk : 0x1000000 ≤ k) (hk' : k < 0x10B0000 ∨ 0x10C0000 ≤ k) : s.reg k = 0 := by
  rw [reg_unlisted, banked_zero hk hk']
  intro p hp e
  have := List.all_eq_true.1 h p hp
  simp only [Bool.or_eq_true, Bool.and_eq_true, decide_eq_true_eq] at this
  omega

theorem bare_structure {s : State} (h : bare s.regs = true) (hf : s.flows = []) : firstError (s.structureChecks []) = .ok () := by
  have hq : ∀ q, s.ringBad q = false := fun q => by
    have : s.on (QM_QRING.RSZ q) = false := by
      simp only [State.on, State.get, QM_QRING.RSZ]
      rw [bare_reg h (by unfold QM_QRING; omega) (by unfold QM_QRING; omega)]
      rfl
    simp [State.ringBad, this]
  have hc : ∀ c < 64, s.channelBad c = false := fun c hc => by
    have : s.on (CST_CHCFG.EN c) = false := by
      simp only [State.on, State.get, CST_CHCFG.EN]
      rw [bare_reg h (by unfold CST_CHCFG; omega) (by unfold CST_CHCFG; omega)]
      rfl
    simp [State.channelBad, this]
  have hr : ∀ p < 8, ∀ r < 256, s.ruleBad p r = false := fun p hp r hr => by
    have : s.on (FPT_FRW4.EN p r) = false := by
      simp only [State.on, State.get, FPT_FRW4.EN]
      rw [bare_reg h (by unfold FPT_FRW4; omega) (by unfold FPT_FRW4; omega)]
      rfl
    simp [State.ruleBad, this]
  have h1 : (List.range 1024).any s.ringBad = false := by simp [hq]
  have h2 : (List.range 64).any s.channelBad = false := by simpa using hc
  have h3 : (List.range 8).any (fun p => (List.range 256).any (s.ruleBad p)) = false := by simpa using hr
  simp [State.structureChecks, firstError, State.flowNumbers, hf, h1, h2, h3]

/-- Where no pool has a buffer, their placement leaves the machine as it was. -/
theorem placePools_none {s : State} {ps : List Nat} (h : ∀ p ∈ ps, s.get (QM_PCFG.NBUF p) = 0) : s.placePools ps = s := by
  induction ps with
  | nil => rfl
  | cons p ps ih =>
    rw [State.placePools, h p (by simp), State.placeFree]
    exact ih fun q hq => h q (by simp [hq])

/-- The verifier's time leaves the other registers as they were. -/
theorem putTime_reg (s : State) {k : Nat} (h : k ≠ ADM_VTIME) : s.putTime.reg k = s.reg k := State.reg_setReg_other _ _ _ _ h

/-- With no flow the verifier admits nothing, whatever it measures. -/
theorem admitAll_none {s : State} {strict : Bool} (hf : s.flows = [])
    (hv : (match s.verify [] with | .ok vs => decide (vs.length = 0) | .error _ => false) = true) :
    s.admitAll strict [] = .ok { state := s.countFlows.putTime, refused := 0 } := by
  have ha : s.activeFlows = [] := by simp [State.activeFlows, State.flowNumbers, hf]
  cases hw : s.verify [] with
  | error e => simp [hw] at hv
  | ok vs =>
    have : vs = [] := by simpa [hw] using hv
    subst this
    simp [State.admitAll, ha, sortNats, State.admitEach, hw, State.entriesOn, State.putRefusals, State.putVerdicts, State.enterFlows,
      State.disableRules]

/-- The records of a full image applied where it has no section but PLATFORM and ANNOT with a record. -/
def emptyChart (s : State) (img : List Byte) : State :=
  ({ s.clearFlows with chart :=
    { platform := ((imgRecords img secPlatform).headD { sect := 0, offset := 0, words := [] }).words,
      engines := [], annots := recordLists (imgRecords img secAnnot), owners := [] } } : State).clearTable

theorem tryChart_empty {s : State} {img : List Byte}
    (h0 : (match s.checkImage img false with | .ok _ => true | .error _ => false) = true)
    (h1 : (imgRecords img secOwners, imgRecords img secEngines, imgRecords img secGrants, imgRecords img secRegisters, imgRecords img secFlows) =
      ([], [], [], [], []))
    (h2 : (imgPrograms img 5).length = 0 ∧ (imgPrograms img 6).length = 0) (h3 : bare (emptyChart s img).regs = true)
    (h4 : (emptyChart s img).flows = []) :
    s.tryChart img =
      ((emptyChart s img).admitAll (imgStrict img) []).map fun l => { l with state := l.state.placePools (List.range 32) } := by
  simp only [Prod.mk.injEq, List.length_eq_zero_iff] at h1 h2
  obtain ⟨ho, he, hg, hr, hf⟩ := h1
  have hs := bare_structure h3 h4
  unfold State.tryChart
  cases hc : s.checkImage img false with
  | error e => simp [hc] at h0
  | ok u =>
    simp only [State.applyChart, ho, he, hg, hr, hf, applyRecords, List.map_nil, firstError, State.applyEngines, State.addFlows,
      State.applyPrograms, h2, List.foldl_nil, State.applyRegisters, recordLists]
    simp only [emptyChart, recordLists] at hs ⊢
    rw [hs]

/-- The loader's cluster with the image in external memory, and once the image has been read. -/
def chartSource : State := keyed chartKey ((((live.put CLU_STAT.STATE 1).put CHT_SRC.KIND 2).setReg CHT_SRCLEN 264).put SEC_LCS.STATE 3)
def chartRead : State := (({ chartSource with power := { chartSource.power with ignoreSrc := false } } : State).loadSource chartImage false).2

theorem chart_loads : ∃ l, chartRead.tryChart chartImage = .ok l ∧ l.state.get CLU_ATTACH.PSTATE ≠ 1 := by
  rw [tryChart_empty (by decide +kernel) (by decide +kernel) (by decide +kernel) (by decide +kernel) (by decide +kernel),
    admitAll_none (by decide +kernel) (by decide +kernel)]
  refine ⟨_, rfl, ?_⟩
  dsimp only
  rw [placePools_none fun p hp => by
    have h : ∀ p ∈ List.range 32, (QM_PCFG.NBUF p).key ≠ ADM_VTIME := by decide
    simp only [State.get]
    rw [putTime_reg _ (h p hp)]
    revert p
    decide +kernel]
  simp only [State.get]
  rw [putTime_reg _ (by decide)]
  decide +kernel

theorem tryAmend_empty {s : State} {img : List Byte} {other : Nat}
    (h0 : (match s.checkImage img true with | .ok _ => true | .error _ => false) = true)
    (hc : imgChartid img = s.reg CHT_ID ∧ (s.reg CHT_VER).toNat < (imgVersion img).toNat)
    (h1 : (imgRecords img secOwners, imgRecords img secAnnot, imgRecords img secGrants, imgRecords img secRegisters, imgRecords img secFlows) =
      ([], [], [], [], []))
    (h2 : (imgPrograms img 5).length = 0 ∧ (imgPrograms img 6).length = 0) (h3 : bare s.regs = true) (h4 : s.flows = [])
    (hv : (match s.verify [] with | .ok vs => decide (vs.length = 0) | .error _ => false) = true) :
    s.tryAmend img other = .ok { state := s.countFlows.putTime, refused := 0 } := by
  simp only [Prod.mk.injEq, List.length_eq_zero_iff] at h1 h2
  obtain ⟨ho, ha, hg, hr, hf⟩ := h1
  have hs := bare_structure h3 h4
  have he : firstError (s.amendChecks img other) = .ok () := by
    simp [State.amendChecks, hc.1, show ¬ (imgVersion img).toNat ≤ (s.reg CHT_VER).toNat by omega, h2.1, hf, ha, ho, firstError]
  unfold State.tryAmend
  cases hk : s.checkImage img true with
  | error e => simp [hk] at h0
  | ok u =>
    simp only [he, State.applyAmend, ho, ha, hg, hr, hf, applyRecords, State.addFlows, State.applyPrograms, h2, List.foldl_nil,
      State.applyRegisters, recordLists, List.map_nil, List.append_nil]
    rw [hs]
    exact admitAll_none h4 hv

/-- AMEND of the image in plate 9. -/
def amending : State := mailed 0x11 [0x90000, 216] (keyed amendKey (lcs3.setBytes 0x90000 amendImage))

theorem amend_applies : ∃ l, amending.tickBegins.otherResult.2.tryAmend amendImage amending.tickBegins.otherResult.1 = .ok l ∧
    l.state.assistant = amending.assistant ∧ l.state.reg AST_MBOX_STAT = amending.reg AST_MBOX_STAT := by
  rw [tryAmend_empty (by decide +kernel) (by decide +kernel) (by decide +kernel) (by decide +kernel) (by decide +kernel) (by decide +kernel)
    (by decide +kernel)]
  refine ⟨_, rfl, rfl, ?_⟩
  rw [putTime_reg _ (by decide)]
  decide +kernel


theorem witness_DatapathResults :
    ∃ (r : AluRow) (e : Fin 12) (s : State),
      r ∈ aluRows ∧ s.Unhindered ↑e ∧ (s.micro ↑e).datapathOnly = true ∧ (s.micro ↑e).alu = r.alu ∧ (s.micro ↑e).returns = false :=
  ⟨aluRows[0]'(by decide), 0, at1 { nop with alu := 1 }, List.getElem_mem _, by simp only [unhindered_iff, quiet_iff]; decide +kernel⟩

theorem witness_DatapathFrame :
    ∃ (r : AluRow) (e : Fin 12) (s : State),
      r ∈ aluRows ∧ s.Unhindered ↑e ∧ (s.micro ↑e).datapathOnly = true ∧ (s.micro ↑e).alu = r.alu ∧ (s.micro ↑e).returns = false :=
  ⟨aluRows[0]'(by decide), 0, at1 { nop with alu := 1 }, List.getElem_mem _, by simp only [unhindered_iff, quiet_iff]; decide +kernel⟩

theorem witness_SequencerRows :
    ∃ (r : SeqRow) (e : Fin 12) (s : State), r ∈ seqRows ∧ s.Unhindered ↑e ∧ (s.micro ↑e).datapathOnly = true ∧ (s.micro ↑e).seq = r.seq :=
  ⟨seqRows[1]'(by decide), 0, at1 { nop with seq := 1 }, List.getElem_mem _, by simp only [unhindered_iff, quiet_iff]; decide +kernel⟩

theorem witness_ReturnFromEvent :
    ∃ (e : Fin 12) (s : State), s.Unhindered ↑e ∧ (s.micro ↑e).datapathOnly = true ∧ (s.micro ↑e).seq = 9 :=
  ⟨0, at1 { nop with seq := 9 }, by simp only [unhindered_iff, quiet_iff]; decide +kernel⟩

theorem witness_ReturnFromException :
    ∃ (e : Fin 12) (s : State), s.Unhindered ↑e ∧ (s.micro ↑e).datapathOnly = true ∧ (s.micro ↑e).seq = 10 ∧ (s.micro ↑e).dst ≠ 18 :=
  ⟨0, standing 4 { nop with seq := 10 } live, by simp only [unhindered_iff, quiet_iff]; decide +kernel⟩

theorem witness_LoadWords :
    ∃ (r : LoadRow) (e : Fin 12) (s : State),
      r ∈ loadRows ∧ s.Unhindered ↑e ∧ (s.micro ↑e).memoryOnly = true ∧ (s.micro ↑e).mem = r.mem ∧ s.Readable (↑e) (s.here ↑e).addr r.width :=
  ⟨loadRows[2]'(by decide), 0, memAt { mem3 with mem := 3, amode := 2, dst := 4 } 0x30008 0, List.getElem_mem _, by simp only [unhindered_iff, quiet_iff, readable_iff]; decide +kernel⟩

theorem witness_LoadLens :
    ∃ (e : Fin 12) (s : State), s.Unhindered ↑e ∧ (s.micro ↑e).memoryOnly = true ∧ (s.micro ↑e).mem = 4 ∧ s.Readable (↑e) (s.here ↑e).addr 8 :=
  ⟨0, memAt { mem3 with mem := 4, amode := 2, dst := 0x20 } 0x30008 0, by simp only [unhindered_iff, quiet_iff, readable_iff]; decide +kernel⟩

theorem witness_StoreRows :
    ∃ (r : StoreRow) (e : Fin 12) (s : State),
      r ∈ storeRows ∧ s.Unhindered ↑e ∧ (s.micro ↑e).memoryOnly = true ∧ (s.micro ↑e).mem = r.mem ∧ s.Readable (↑e) (s.here ↑e).addr r.width :=
  ⟨storeRows[2]'(by decide), 0, memAt { mem3 with mem := 7, amode := 2 } 0x30008 0, List.getElem_mem _, by simp only [unhindered_iff, quiet_iff, readable_iff]; decide +kernel⟩

theorem witness_AtomicRows :
    ∃ (r : AtomicRow) (e : Fin 12) (s : State),
      r ∈ atomicRows ∧ s.Unhindered ↑e ∧ (s.micro ↑e).memoryOnly = true ∧ (s.micro ↑e).mem = r.mem ∧ s.Readable (↑e) (s.here ↑e).addr 4 :=
  ⟨atomicRows[0]'(by decide), 0, memAt { mem3 with mem := 9, amode := 2, dst := 4 } 0x30008 0, List.getElem_mem _, by simp only [unhindered_iff, quiet_iff, readable_iff]; decide +kernel⟩

theorem witness_AccumulatingBlocks :
    ∃ (r : (Fin 12 → Instr) × ℕ) (e : Fin 12) (s : State),
      r ∈ [(Instr.crcblk, 11), (Instr.sumblk, 13)] ∧
        s.Unhindered ↑e ∧
          (s.micro ↑e).memoryOnly = true ∧
            (s.micro ↑e).mem = r.2 ∧
              s.doneHere ↑e < (s.here ↑e).total ∧ s.Readable (↑e) (blockPart (s.here ↑e) (s.doneHere ↑e)).1 (blockPart (s.here ↑e) (s.doneHere ↑e)).2 :=
  ⟨(Instr.crcblk, 11), 0, memAt { mem3 with mem := 11, dst := 4 } 0x30008 24, by simp, by simp only [unhindered_iff, quiet_iff, readable_iff]; decide +kernel⟩

theorem witness_MoveBlock :
    ∃ (e : Fin 12) (s : State),
      s.Unhindered ↑e ∧
        (s.micro ↑e).memoryOnly = true ∧
          (s.micro ↑e).mem = 12 ∧
            s.doneHere ↑e < (s.here ↑e).total ∧
              s.Readable (↑e) (BitVec.toNat (s.here ↑e).a + 8 * s.doneHere ↑e) 8 ∧
                s.Readable (↑e) (BitVec.toNat (s.gpr (↑e) (s.here ↑e).l (s.here ↑e).w.dst) + 8 * s.doneHere ↑e) 8 :=
  ⟨0, (memAt { mem3 with mem := 12, dst := 5 } 0x30008 16).setGpr 0 1 5 0x31000, by simp only [unhindered_iff, quiet_iff, readable_iff]; decide +kernel⟩

theorem witness_EmptyBlock :
    ∃ (r : (Fin 12 → Instr) × ℕ) (e : Fin 12) (s : State),
      r ∈ [(Instr.crcblk, 11), (Instr.movblk, 12), (Instr.sumblk, 13)] ∧
        s.Unhindered ↑e ∧ (s.micro ↑e).memoryOnly = true ∧ (s.micro ↑e).mem = r.2 ∧ (s.here ↑e).b = 0 :=
  ⟨(Instr.movblk, 12), 0, memAt { mem3 with mem := 12, dst := 5 } 0x30008 0, by simp, by simp only [unhindered_iff, quiet_iff, readable_iff]; decide +kernel⟩

theorem witness_BulkIssue :
    ∃ (r : (Fin 12 → Instr) × ℕ) (e : Fin 12) (s : State),
      r ∈ [(Instr.brd, 14), (Instr.bwr, 15)] ∧
        s.Unhindered ↑e ∧
          (s.micro ↑e).memoryOnly = true ∧
            (s.micro ↑e).mem = r.2 ∧ s.uncorrectable (BitVec.toNat (s.here ↑e).a) (fieldOf (s.here ↑e).w.imm 5 0 + 1) = false :=
  ⟨(Instr.bwr, 15), 0, memAt { mem3 with mem := 15, dst := 4 } 0x30000 0x80000000 ((owner0.put (CAP_XBASE.BASE 0) 0x80000000).put (CAP_XLEN.LEN 0) 0x1000), by simp, by simp only [unhindered_iff, quiet_iff, readable_iff]; decide +kernel⟩

theorem witness_BulkWaits :
    (∃ (e : Fin 12) (s : State), s.Unhindered ↑e ∧ (s.micro ↑e).memoryOnly = true ∧ (s.micro ↑e).mem = 16) ∧
    (∃ (e : Fin 12) (s : State), s.Unhindered ↑e ∧ (s.micro ↑e).memoryOnly = true ∧ (s.micro ↑e).mem = 17) :=
  ⟨⟨0, memAt { mem3 with mem := 16 } 3 0, by simp only [unhindered_iff, quiet_iff]; decide +kernel⟩,
   ⟨0, memAt { mem3 with mem := 17 } 3 0, by simp only [unhindered_iff, quiet_iff]; decide +kernel⟩⟩

theorem witness_BulkWaitStalls :
    ∃ (r : (Fin 12 → Instr) × ℕ) (e : Fin 12) (s : State),
      r ∈ [(Instr.bwait, 16), (Instr.bwaitAll, 17)] ∧
        s.Quiet ↑e ∧
          s.firstCause (s.here ↑e) = none ∧
            (s.micro ↑e).memoryOnly = true ∧
              (s.micro ↑e).mem = r.2 ∧ if r.2 = 16 then s.tagBusy (↑e) (BitVec.toNat (s.here ↑e).a % 16) = true else ∃ g < 16, s.tagBusy (↑e) g = true :=
  ⟨(Instr.bwait, 16), 0, { memAt { mem3 with mem := 16 } 3 0 with bulk := [(3, anEngineWrite)] }, by simp, by simp only [quiet_iff]; decide +kernel⟩

theorem witness_CapabilityRows :
    (∃ (e : Fin 12) (s : State), s.Unhindered ↑e ∧ (s.micro ↑e).memoryOnly = true ∧ (s.micro ↑e).mem = 20) ∧
    (∃ (e : Fin 12) (s : State), s.Unhindered ↑e ∧ (s.micro ↑e).memoryOnly = true ∧ (s.micro ↑e).mem = 22) ∧
    (∃ (e : Fin 12) (s : State), s.Unhindered ↑e ∧ (s.micro ↑e).memoryOnly = true ∧ (s.micro ↑e).mem = 23) :=
  ⟨⟨0, capAt { cap5 with mem := 20, imm := 0x11 } 1 2 0x30000, by simp only [unhindered_iff, quiet_iff]; decide +kernel⟩,
   ⟨0, capAt { cap5 with mem := 22 } 1 2 0x30000, by simp only [unhindered_iff, quiet_iff]; decide +kernel⟩,
   ⟨0, capAt { cap5 with mem := 23 } 1 2 0x30000, by simp only [unhindered_iff, quiet_iff]; decide +kernel⟩⟩

theorem witness_RevokeRow :
    ∃ (e : Fin 12) (s : State),
      s.Unhindered ↑e ∧
        (s.micro ↑e).memoryOnly = true ∧
          (s.micro ↑e).mem = 21 ∧ ∀ (a : ℕ), capEntryAt (capType (s.here ↑e).c) (capObj (s.here ↑e).c) = some a → s.uncorrectable a 4 = false :=
  ⟨0, capAt { cap5 with mem := 21 } 1 2 0x30000, by simp only [unhindered_iff, quiet_iff, forall_some_iff]; decide +kernel⟩

theorem witness_EnqueueRow :
    (∃ (e : Fin 12) (s : State),
      s.Unhindered ↑e ∧
        (s.micro ↑e).queueOnly = true ∧
          (s.micro ↑e).qop = 1 ∧ s.uncorrectable (BitVec.toNat (s.here ↑e).a) 32 = false ∧ s.Accepts (s.capQueue (s.here ↑e).c)) ∧
    (∃ (e : Fin 12) (s : State),
      s.Unhindered ↑e ∧
        (s.micro ↑e).queueOnly = true ∧
          (s.micro ↑e).qop = 1 ∧ s.uncorrectable (BitVec.toNat (s.here ↑e).a) 32 = false ∧ s.queueRefuses (s.capQueue (s.here ↑e).c) = true) :=
  ⟨⟨0, capAt { cap5 with qop := 1 } 2 77 0x30000 (queue77 6), by simp only [unhindered_iff, quiet_iff, accepts_iff]; decide +kernel⟩,
   ⟨0, capAt { cap5 with qop := 1 } 2 77 0x30000 (queue77 7), by simp only [unhindered_iff, quiet_iff]; decide +kernel⟩⟩

theorem witness_DequeueRows :
    (∃ (e : Fin 12) (s : State), s.Unhindered ↑e ∧ (s.micro ↑e).queueOnly = true ∧ (s.micro ↑e).qop = 2 ∧ (s.queue (s.capQueue (s.here ↑e).c)).vis ≠ 0) ∧
    (∃ (e : Fin 12) (s : State), s.Unhindered ↑e ∧ (s.micro ↑e).queueOnly = true ∧ (s.micro ↑e).qop = 2 ∧ (s.queue (s.capQueue (s.here ↑e).c)).vis = 0) ∧
    (∃ (e : Fin 12) (s : State), s.Unhindered ↑e ∧ (s.micro ↑e).queueOnly = true ∧ (s.micro ↑e).qop = 3 ∧ (s.queue (s.capQueue (s.here ↑e).c)).vis ≠ 0) ∧
    (∃ (e : Fin 12) (s : State), s.Unhindered ↑e ∧ (s.micro ↑e).queueOnly = true ∧ (s.micro ↑e).qop = 3 ∧ (s.queue (s.capQueue (s.here ↑e).c)).vis = 0) ∧
    (∃ (e : Fin 12) (s : State), s.Unhindered ↑e ∧ (s.micro ↑e).queueOnly = true ∧ (s.micro ↑e).qop = 4) :=
  ⟨⟨0, capAt { cap5 with qop := 2 } 2 77 0 (queue77 1), by simp only [unhindered_iff, quiet_iff]; decide +kernel⟩,
   ⟨0, capAt { cap5 with qop := 2 } 2 77 0 (queue77 0), by simp only [unhindered_iff, quiet_iff]; decide +kernel⟩,
   ⟨0, capAt { cap5 with qop := 3 } 2 77 0 (queue77 1), by simp only [unhindered_iff, quiet_iff]; decide +kernel⟩,
   ⟨0, capAt { cap5 with qop := 3 } 2 77 0 (queue77 0), by simp only [unhindered_iff, quiet_iff]; decide +kernel⟩,
   ⟨0, capAt { cap5 with qop := 4 } 2 77 0 (queue77 7), by simp only [unhindered_iff, quiet_iff]; decide +kernel⟩⟩

theorem witness_CommitRow :
    (∃ (e : Fin 12) (s : State),
      s.Unhindered ↑e ∧
        (s.micro ↑e).queueOnly = true ∧
          (s.micro ↑e).qop = 5 ∧
            s.uncorrectable (BitVec.toNat (s.here ↑e).a) 32 = false ∧
              s.MayCommit (capObj (s.here ↑e).c) (s.bytes (BitVec.toNat (s.here ↑e).a) 32) ∧ s.Accepts (s.get (AST_OT0.DSTQ (capObj (s.here ↑e).c)))) ∧
    (∃ (e : Fin 12) (s : State),
      s.Unhindered ↑e ∧
        (s.micro ↑e).queueOnly = true ∧
          (s.micro ↑e).qop = 5 ∧ s.uncorrectable (BitVec.toNat (s.here ↑e).a) 32 = false ∧ s.on (AST_OT0.VALID (capObj (s.here ↑e).c)) = false) :=
  ⟨⟨0, capAt { cap5 with qop := 5 } 7 6 0x30000 flow6, by simp only [unhindered_iff, quiet_iff, accepts_iff, mayCommit_iff]; decide +kernel⟩,
   ⟨0, capAt { cap5 with qop := 5 } 7 6 0x30000 (queue77 0), by simp only [unhindered_iff, quiet_iff]; decide +kernel⟩⟩

theorem witness_HandoffRows :
    (∃ (e : Fin 12) (s : State) (g : ℕ),
      s.Unhindered ↑e ∧ (s.micro ↑e).queueOnly = true ∧ s.stageOf ↑e = some g ∧ 8 ≤ (s.here ↑e).w.qop ∧ (s.here ↑e).w.qop ≤ 11) ∧
    (∃ (e : Fin 12) (s : State) (g : ℕ),
      s.Unhindered ↑e ∧ (s.micro ↑e).queueOnly = true ∧ s.stageOf ↑e = some g ∧ 12 ≤ (s.here ↑e).w.qop ∧ (s.here ↑e).w.qop ≤ 15) :=
  ⟨⟨0, at1 { nop with qop := 9 } (live.setReg (CLU_QMAP 0) 0x3210), 0, by simp only [unhindered_iff, quiet_iff]; decide +kernel⟩,
   ⟨0, { at1 { nop with qop := 12 } (live.setReg (CLU_QMAP 0) 0x3201) with handoff := [(1, [5])] }, 1, by simp only [unhindered_iff, quiet_iff]; decide +kernel⟩⟩

theorem witness_SaveStores :
    (∃ (e : Fin 12) (s : State),
      s.Unhindered ↑e ∧
        (s.micro ↑e).memoryOnly = true ∧
          (s.micro ↑e).alu = 0 ∧ (s.micro ↑e).saveLoad = false ∧ s.Readable (↑e) (s.saveRecord (s.here ↑e)) 512 ∧ (s.micro ↑e).mem = 18) ∧
    (∃ (e : Fin 12) (s : State),
      s.Unhindered ↑e ∧
        (s.micro ↑e).memoryOnly = true ∧
          (s.micro ↑e).alu = 0 ∧
            (s.micro ↑e).saveLoad = false ∧ s.Readable (↑e) (s.saveRecord (s.here ↑e)) 512 ∧ (s.micro ↑e).mem = 19 ∧ s.saveIdle (↑e) (s.here ↑e).w = false) :=
  ⟨⟨0, memAt { mem3 with mem := 18, imm := 0x02 } 0x30200 0 (saveArea), by simp only [unhindered_iff, quiet_iff, readable_iff]; decide +kernel⟩,
   ⟨0, memAt { mem3 with mem := 19, imm := 0x02 } 0x30200 0 (saveArea.put (ENG_LENS.OWN 0) 1), by simp only [unhindered_iff, quiet_iff, readable_iff]; decide +kernel⟩⟩

theorem witness_SaveLoads :
    (∃ (e : Fin 12) (s : State),
      s.Unhindered ↑e ∧
        (s.micro ↑e).memoryOnly = true ∧
          (s.micro ↑e).alu = 0 ∧ (s.micro ↑e).saveLoad = true ∧ s.Readable (↑e) (s.saveRecord (s.here ↑e)) 512 ∧ (s.micro ↑e).mem = 18) ∧
    (∃ (e : Fin 12) (s : State),
      s.Unhindered ↑e ∧
        (s.micro ↑e).memoryOnly = true ∧
          (s.micro ↑e).alu = 0 ∧
            (s.micro ↑e).saveLoad = true ∧ s.Readable (↑e) (s.saveRecord (s.here ↑e)) 512 ∧ (s.micro ↑e).mem = 19 ∧ s.saveOwns (↑e) (s.here ↑e).w = false) :=
  ⟨⟨0, memAt { mem3 with mem := 18, imm := 0x03 } 0x30200 0 (saveArea), by simp only [unhindered_iff, quiet_iff, readable_iff]; decide +kernel⟩,
   ⟨0, memAt { mem3 with mem := 19, imm := 0x03 } 0x30200 0 (saveArea), by simp only [unhindered_iff, quiet_iff, readable_iff]; decide +kernel⟩⟩

theorem witness_TimeReads :
    (∃ (e : Fin 12) (s : State), s.Unhindered ↑e ∧ (s.micro ↑e).timeOnly = true ∧ (s.micro ↑e).top = 1) ∧
    (∃ (e : Fin 12) (s : State),
      s.Unhindered ↑e ∧
        (s.micro ↑e).timeOnly = true ∧
          (s.micro ↑e).top = 2 ∧ ((s.bank (↑e) (s.level ↑e)).rx ≠ 0 → s.uncorrectable ((s.bank (↑e) (s.level ↑e)).rx + 16) 12 = false)) ∧
    (∃ (e : Fin 12) (s : State), s.Unhindered ↑e ∧ (s.micro ↑e).timeOnly = true ∧ (s.micro ↑e).top = 3) :=
  ⟨⟨0, at1 { nop with top := 1, dst := 4 }, by simp only [unhindered_iff, quiet_iff]; decide +kernel⟩,
   ⟨0, at1 { nop with top := 2, dst := 4 }, by simp only [unhindered_iff, quiet_iff]; decide +kernel⟩,
   ⟨0, at1 { nop with top := 3, dst := 4 }, by simp only [unhindered_iff, quiet_iff]; decide +kernel⟩⟩

theorem witness_AlarmRows :
    (∃ (e : Fin 12) (s : State),
      s.Unhindered ↑e ∧
        (s.micro ↑e).timeOnly = true ∧
          (s.micro ↑e).top = 4 ∧ s.AlarmTakes (BitVec.toNat (s.here ↑e).a % 32) (BitVec.toNat (s.here ↑e).a / 32 % 4) (s.here ↑e).time) ∧
    (∃ (e : Fin 12) (s : State),
      s.Unhindered ↑e ∧ (s.micro ↑e).timeOnly = true ∧ (s.micro ↑e).top = 4 ∧ s.on (RGL_ALM_CTL.ARM (BitVec.toNat (s.here ↑e).a % 32)) = true) ∧
    (∃ (e : Fin 12) (s : State), s.Unhindered ↑e ∧ (s.micro ↑e).timeOnly = true ∧ (s.micro ↑e).top = 5) ∧
    (∃ (e : Fin 12) (s : State), s.Unhindered ↑e ∧ (s.micro ↑e).timeOnly = true ∧ (s.micro ↑e).top = 6) ∧
    (∃ (e : Fin 12) (s : State), s.Unhindered ↑e ∧ (s.micro ↑e).timeOnly = true ∧ (s.micro ↑e).top = 7) :=
  ⟨⟨0, memAt { cap5 with top := 4 } 3 0 alarm3, by simp only [unhindered_iff, quiet_iff, State.AlarmTakes]; decide +kernel⟩,
   ⟨0, memAt { cap5 with top := 4 } 3 0 (alarm3.put (RGL_ALM_CTL.ARM 3) 1), by simp only [unhindered_iff, quiet_iff]; decide +kernel⟩,
   ⟨0, memAt { cap5 with top := 5 } 3 0 alarm3, by simp only [unhindered_iff, quiet_iff]; decide +kernel⟩,
   ⟨0, memAt { cap5 with top := 6 } 3 0 alarm3, by simp only [unhindered_iff, quiet_iff]; decide +kernel⟩,
   ⟨0, memAt { cap5 with top := 7 } 3 0 alarm3, by simp only [unhindered_iff, quiet_iff]; decide +kernel⟩⟩

theorem witness_PhaseAlarmRows :
    (∃ (e : Fin 12) (s : State),
      s.Unhindered ↑e ∧
        (s.micro ↑e).timeOnly = true ∧
          (s.micro ↑e).top = 8 ∧
            s.PhaseTakes (BitVec.toNat (s.here ↑e).a % 16) (BitVec.toNat (s.here ↑e).a / 16 % 4)
              (BitVec.toNat (s.here ↑e).b0 * 2 ^ 32 + BitVec.toNat (s.here ↑e).b1)) ∧
    (∃ (e : Fin 12) (s : State),
      s.Unhindered ↑e ∧ (s.micro ↑e).timeOnly = true ∧ (s.micro ↑e).top = 8 ∧ s.on (CDR_PALM_CTL.ARM (BitVec.toNat (s.here ↑e).a % 16)) = true) ∧
    (∃ (e : Fin 12) (s : State),
      s.Unhindered ↑e ∧
        (s.micro ↑e).timeOnly = true ∧
          (s.micro ↑e).top = 8 ∧
            s.on (CDR_PALM_CTL.ARM (BitVec.toNat (s.here ↑e).a % 16)) = false ∧
              BitVec.toNat (s.here ↑e).a / 16 % 4 = 0 ∧
                have k := s.get (CDR_PALM_CTL.TRK (BitVec.toNat (s.here ↑e).a % 16));
                s.get (CDR_PT_STAT.STATE k) = 2 ∧ 2 ^ 52 < phaseDistance (BitVec.toNat (s.here ↑e).b0 * 2 ^ 32 + BitVec.toNat (s.here ↑e).b1) (s.phase k)) ∧
    (∃ (e : Fin 12) (s : State), s.Unhindered ↑e ∧ (s.micro ↑e).timeOnly = true ∧ (s.micro ↑e).top = 9) ∧
    (∃ (e : Fin 12) (s : State), s.Unhindered ↑e ∧ (s.micro ↑e).timeOnly = true ∧ (s.micro ↑e).top = 10) :=
  ⟨⟨0, memAt { cap5 with top := 8 } 3 0 alarm3, by simp only [unhindered_iff, quiet_iff, State.PhaseTakes]; decide +kernel⟩,
   ⟨0, memAt { cap5 with top := 8 } 3 0 (alarm3.put (CDR_PALM_CTL.ARM 3) 1), by simp only [unhindered_iff, quiet_iff]; decide +kernel⟩,
   ⟨0, memAt { cap5 with top := 8 } 3 0x100001 alarm3, by simp only [unhindered_iff, quiet_iff]; decide +kernel⟩,
   ⟨0, memAt { cap5 with top := 9 } 3 0 alarm3, by simp only [unhindered_iff, quiet_iff]; decide +kernel⟩,
   ⟨0, memAt { cap5 with top := 10 } 3 0 alarm3, by simp only [unhindered_iff, quiet_iff]; decide +kernel⟩⟩

theorem witness_PhaseReads :
    (∃ (e : Fin 12) (s : State), s.Unhindered ↑e ∧ (s.micro ↑e).timeOnly = true ∧ (s.micro ↑e).top = 11) ∧
    (∃ (e : Fin 12) (s : State), s.Unhindered ↑e ∧ (s.micro ↑e).timeOnly = true ∧ (s.micro ↑e).top = 12) ∧
    (∃ (e : Fin 12) (s : State), s.Unhindered ↑e ∧ (s.micro ↑e).timeOnly = true ∧ (s.micro ↑e).top = 13) :=
  ⟨⟨0, memAt { cap5 with top := 11, dst := 4 } 0 0 alarm3, by simp only [unhindered_iff, quiet_iff]; decide +kernel⟩,
   ⟨0, memAt { cap5 with top := 12 } 0 0 alarm3, by simp only [unhindered_iff, quiet_iff]; decide +kernel⟩,
   ⟨0, memAt { cap5 with top := 13 } 0 0 alarm3, by simp only [unhindered_iff, quiet_iff]; decide +kernel⟩⟩

theorem witness_TimerRows :
    (∃ (e : Fin 12) (s : State), s.Unhindered ↑e ∧ (s.micro ↑e).timeOnly = true ∧ (s.micro ↑e).top = 14) ∧
    (∃ (e : Fin 12) (s : State),
      s.Unhindered ↑e ∧
        (s.micro ↑e).timeOnly = true ∧ (s.micro ↑e).top = 15 ∧ BitVec.getLsbD (s.here ↑e).a 7 = false ∧ BitVec.toNat (s.here ↑e).a / 16 % 8 ≠ 0) ∧
    (∃ (e : Fin 12) (s : State),
      s.Unhindered ↑e ∧
        (s.micro ↑e).timeOnly = true ∧ (s.micro ↑e).top = 15 ∧ BitVec.getLsbD (s.here ↑e).a 7 = true ∧ BitVec.toNat (s.here ↑e).a / 16 % 8 = 0) ∧
    (∃ (e : Fin 12) (s : State),
      s.Unhindered ↑e ∧
        (s.micro ↑e).timeOnly = true ∧ (s.micro ↑e).top = 15 ∧ BitVec.getLsbD (s.here ↑e).a 7 = true ∧ BitVec.toNat (s.here ↑e).a / 16 % 8 = 3) ∧
    (∃ (e : Fin 12) (s : State),
      s.Unhindered ↑e ∧
        (s.micro ↑e).timeOnly = true ∧
          (s.micro ↑e).top = 15 ∧
            BitVec.getLsbD (s.here ↑e).a 7 = true ∧ BitVec.toNat (s.here ↑e).a / 16 % 8 ≠ 0 ∧ BitVec.toNat (s.here ↑e).a / 16 % 8 ≠ 3) ∧
    (∃ (e : Fin 12) (s : State),
      s.Unhindered ↑e ∧
        (s.micro ↑e).timeOnly = true ∧
          (s.micro ↑e).top = 16 ∧
            (s.timer (↑e)
                    (if s.timerHigh (↑e) (BitVec.toNat (s.here ↑e).a % 4) = true then BitVec.toNat (s.here ↑e).a % 4 - 1
                    else BitVec.toNat (s.here ↑e).a % 4)).latched =
                none ∧
              s.timerDue (↑e)
                  (if s.timerHigh (↑e) (BitVec.toNat (s.here ↑e).a % 4) = true then BitVec.toNat (s.here ↑e).a % 4 - 1
                  else BitVec.toNat (s.here ↑e).a % 4) <
                s.nextHappening (↑e)
                  (if s.timerHigh (↑e) (BitVec.toNat (s.here ↑e).a % 4) = true then BitVec.toNat (s.here ↑e).a % 4 - 1
                  else BitVec.toNat (s.here ↑e).a % 4)) ∧
    (∃ (e : Fin 12) (s : State),
      s.Unhindered ↑e ∧
        (s.micro ↑e).timeOnly = true ∧
          (s.micro ↑e).top = 17 ∧
            s.on (TMR_CTL.PARMED (↑e) (BitVec.toNat (s.here ↑e).a % 4)) = false ∧
              (s.get (CDR_PT_STAT.STATE (capObj (s.here ↑e).c)) = 2 ∨
                  s.get (CDR_PT_STAT.STATE (capObj (s.here ↑e).c)) = 3 ∧ s.on (CDR_PT_CFG.LOSSACT (capObj (s.here ↑e).c)) = false) ∧
                phaseDistance (BitVec.toNat (s.here ↑e).b0 * 2 ^ 32 + BitVec.toNat (s.here ↑e).b1) (s.phase (capObj (s.here ↑e).c)) ≤ 2 ^ 52) ∧
    (∃ (e : Fin 12) (s : State),
      s.Unhindered ↑e ∧
        (s.micro ↑e).timeOnly = true ∧
          (s.micro ↑e).top = 17 ∧
            ¬(s.on (TMR_CTL.PARMED (↑e) (BitVec.toNat (s.here ↑e).a % 4)) = false ∧
                (s.get (CDR_PT_STAT.STATE (capObj (s.here ↑e).c)) = 2 ∨
                    s.get (CDR_PT_STAT.STATE (capObj (s.here ↑e).c)) = 3 ∧ s.on (CDR_PT_CFG.LOSSACT (capObj (s.here ↑e).c)) = false) ∧
                  phaseDistance (BitVec.toNat (s.here ↑e).b0 * 2 ^ 32 + BitVec.toNat (s.here ↑e).b1) (s.phase (capObj (s.here ↑e).c)) ≤ 2 ^ 52)) :=
  ⟨⟨0, memAt { cap5 with top := 14 } 1 0 alarm3, by simp only [unhindered_iff, quiet_iff]; decide +kernel⟩,
   ⟨0, memAt { cap5 with top := 15 } 0x11 0 alarm3, by simp only [unhindered_iff, quiet_iff]; decide +kernel⟩,
   ⟨0, memAt { cap5 with top := 15 } 0x81 0 alarm3, by simp only [unhindered_iff, quiet_iff]; decide +kernel⟩,
   ⟨0, memAt { cap5 with top := 15 } 0xB1 0 alarm3, by simp only [unhindered_iff, quiet_iff]; decide +kernel⟩,
   ⟨0, memAt { cap5 with top := 15 } 0xF1 0 alarm3, by simp only [unhindered_iff, quiet_iff]; decide +kernel⟩,
   ⟨0, memAt { cap5 with top := 16 } 1 0 alarm3, by simp only [unhindered_iff, quiet_iff]; decide +kernel⟩,
   ⟨0, memAt { cap5 with top := 17 } 1 0 alarm3, by simp only [unhindered_iff, quiet_iff]; decide +kernel⟩,
   ⟨0, memAt { cap5 with top := 17 } 1 0 (alarm3.put (TMR_CTL.PARMED 0 1) 1), by simp only [unhindered_iff, quiet_iff]; decide +kernel⟩⟩

theorem witness_DisciplineRows :
    (∃ (e : Fin 12) (s : State), s.Unhindered ↑e ∧ (s.micro ↑e).timeOnly = true ∧ s.on RGL_STAT.SVCFRZ = false ∧ (s.micro ↑e).top = 18) ∧
    (∃ (e : Fin 12) (s : State),
      s.Unhindered ↑e ∧
        (s.micro ↑e).timeOnly = true ∧
          s.on RGL_STAT.SVCFRZ = false ∧
            (s.micro ↑e).top = 19 ∧
              s.outranked (Origin.engine e) RGL_STEP_SEC = false ∧
                s.outranked (Origin.engine e) RGL_STEP_FRAC = false ∧
                  ((BitVec.toInt (s.here ↑e).b1).natAbs ≤ 999999999 ∧
                      (s.rgl.q / 2 ^ 24 +
                            ((BitVec.toInt (s.here ↑e).b0 * 1000000000 + BitVec.toInt (s.here ↑e).b1) * 65536 +
                              ((BitVec.toNat (s.here ↑e).b2 % 65536 : ℕ) : ℤ))).natAbs <
                        2 ^ 63) ∧
                    s.on RGL_CTL.MODE = false ∧ s.get RGL_QUAL.STATE ≠ 0) ∧
    (∃ (e : Fin 12) (s : State),
      s.Unhindered ↑e ∧
        (s.micro ↑e).timeOnly = true ∧
          s.on RGL_STAT.SVCFRZ = false ∧
            (s.micro ↑e).top = 19 ∧
              s.outranked (Origin.engine e) RGL_STEP_SEC = false ∧
                s.outranked (Origin.engine e) RGL_STEP_FRAC = false ∧
                  ¬((BitVec.toInt (s.here ↑e).b1).natAbs ≤ 999999999 ∧
                      (s.rgl.q / 2 ^ 24 +
                            ((BitVec.toInt (s.here ↑e).b0 * 1000000000 + BitVec.toInt (s.here ↑e).b1) * 65536 +
                              ((BitVec.toNat (s.here ↑e).b2 % 65536 : ℕ) : ℤ))).natAbs <
                        2 ^ 63)) ∧
    (∃ (e : Fin 12) (s : State),
      s.Unhindered ↑e ∧
        (s.micro ↑e).timeOnly = true ∧
          s.on RGL_STAT.SVCFRZ = false ∧
            (s.micro ↑e).top = 19 ∧ s.outranked (Origin.engine e) RGL_STEP_SEC = false ∧ s.outranked (Origin.engine e) RGL_STEP_FRAC = false) ∧
    (∃ (e : Fin 12) (s : State),
      s.Unhindered ↑e ∧
        (s.micro ↑e).timeOnly = true ∧ s.on RGL_STAT.SVCFRZ = false ∧ (s.micro ↑e).top = 20 ∧ s.outranked (Origin.engine e) RGL_QUAL = false) :=
  ⟨⟨0, memAt { cap5 with top := 18 } 0 0 (live.put RGL_SRV_OWN.OWNER 0x10), by simp only [unhindered_iff, quiet_iff]; decide +kernel⟩,
   ⟨0, memAt { cap5 with top := 19 } 0 0 ((live.put RGL_SRV_OWN.OWNER 0x10).put RGL_QUAL.STATE 3), by simp only [unhindered_iff, quiet_iff]; decide +kernel⟩,
   ⟨0, (memAt { cap5 with top := 19 } 0 0 (live.put RGL_SRV_OWN.OWNER 0x10)).setGpr 0 1 4 1000000000, by simp only [unhindered_iff, quiet_iff]; decide +kernel⟩,
   ⟨0, memAt { cap5 with top := 19 } 0 0 (live.put RGL_SRV_OWN.OWNER 0x10), by simp only [unhindered_iff, quiet_iff]; decide +kernel⟩,
   ⟨0, memAt { cap5 with top := 20 } 0 0 (live.put RGL_SRV_OWN.OWNER 0x10), by simp only [unhindered_iff, quiet_iff]; decide +kernel⟩⟩

theorem witness_ClaimRow :
    (∃ (e : Fin 12) (same : Bool) (s : State) (c : Claimed),
      s.Unhindered ↑e ∧
        (s.micro ↑e).eventOnly = true ∧
          (s.micro ↑e).evt = 1 ∧
            List.find? (fun (c : Claimed) => c.others.contains (8 * ↑e + s.level ↑e) && decide (↑e < c.eng)) (s.tickOf same).claims = some c) ∧
    (∃ (e : Fin 12) (same : Bool) (s : State) (n : ℕ) (serial : ℕ),
      s.Unhindered ↑e ∧
        (s.micro ↑e).eventOnly = true ∧
          (s.micro ↑e).evt = 1 ∧
            List.find? (fun (c : Claimed) => c.others.contains (8 * ↑e + s.level ↑e) && decide (↑e < c.eng)) (s.tickOf same).claims = none ∧
              s.claimContext (↑e) (s.level ↑e) = ClaimContext.contends n serial) ∧
    (∃ (e : Fin 12) (same : Bool) (s : State),
      s.Unhindered ↑e ∧
        (s.micro ↑e).eventOnly = true ∧
          (s.micro ↑e).evt = 1 ∧
            List.find? (fun (c : Claimed) => c.others.contains (8 * ↑e + s.level ↑e) && decide (↑e < c.eng)) (s.tickOf same).claims = none ∧
              s.claimContext (↑e) (s.level ↑e) = ClaimContext.fails) ∧
    (∃ (e : Fin 12) (same : Bool) (s : State),
      s.Unhindered ↑e ∧
        (s.micro ↑e).eventOnly = true ∧
          (s.micro ↑e).evt = 1 ∧
            List.find? (fun (c : Claimed) => c.others.contains (8 * ↑e + s.level ↑e) && decide (↑e < c.eng)) (s.tickOf same).claims = none ∧
              s.claimContext (↑e) (s.level ↑e) = ClaimContext.succeeds) :=
  ⟨⟨0, true, { at1 { nop with evt := 1 } with tick := { claims := [{ eng := 5, level := 2, others := [1] }] } }, { eng := 5, level := 2, others := [1] }, by simp only [unhindered_iff, quiet_iff]; decide +kernel⟩,
   ⟨0, false, (at1 { nop with evt := 1 }).setClaimContext 0 1 (.contends 7 3), 7, 3, by simp only [unhindered_iff, quiet_iff]; decide +kernel⟩,
   ⟨0, true, (at1 { nop with evt := 1 }).setClaimContext 0 1 .fails, by simp only [unhindered_iff, quiet_iff]; decide +kernel⟩,
   ⟨0, false, at1 { nop with evt := 1 }, by simp only [unhindered_iff, quiet_iff]; decide +kernel⟩⟩

theorem witness_EventRows :
    (∃ (e : Fin 12) (s : State), s.Unhindered ↑e ∧ (s.micro ↑e).eventOnly = true ∧ (s.micro ↑e).evt = 2) ∧
    (∃ (e : Fin 12) (s : State), s.Unhindered ↑e ∧ (s.micro ↑e).eventOnly = true ∧ (s.micro ↑e).evt = 3) ∧
    (∃ (e : Fin 12) (s : State), s.Unhindered ↑e ∧ (s.micro ↑e).eventOnly = true ∧ (s.micro ↑e).evt = 4) ∧
    (∃ (e : Fin 12) (s : State), s.Unhindered ↑e ∧ (s.micro ↑e).eventOnly = true ∧ (s.micro ↑e).evt = 5) ∧
    (∃ (e : Fin 12) (s : State), s.Unhindered ↑e ∧ (s.micro ↑e).eventOnly = true ∧ (s.micro ↑e).evt = 6) ∧
    (∃ (e : Fin 12) (s : State), s.Unhindered ↑e ∧ (s.micro ↑e).eventOnly = true ∧ (s.micro ↑e).evt = 7) :=
  ⟨⟨0, at1 { nop with evt := 2 }, by simp only [unhindered_iff, quiet_iff]; decide +kernel⟩,
   ⟨0, at1 { nop with evt := 3 }, by simp only [unhindered_iff, quiet_iff]; decide +kernel⟩,
   ⟨0, at1 { nop with evt := 4 }, by simp only [unhindered_iff, quiet_iff]; decide +kernel⟩,
   ⟨0, at1 { nop with evt := 5 }, by simp only [unhindered_iff, quiet_iff]; decide +kernel⟩,
   ⟨0, at1 { nop with evt := 6 }, by simp only [unhindered_iff, quiet_iff]; decide +kernel⟩,
   ⟨0, at1 { nop with evt := 7 }, by simp only [unhindered_iff, quiet_iff]; decide +kernel⟩⟩

theorem witness_VernierAccessRows :
    (∃ (e : Fin 12) (s : State), s.Unhindered ↑e ∧ (s.micro ↑e).pinOnly = true ∧ (s.micro ↑e).pin = 1) ∧
    (∃ (e : Fin 12) (s : State), s.Unhindered ↑e ∧ (s.micro ↑e).pinOnly = true ∧ (s.micro ↑e).pin = 2) ∧
    (∃ (e : Fin 12) (s : State), s.Unhindered ↑e ∧ (s.micro ↑e).pinOnly = true ∧ (s.micro ↑e).pin = 3) ∧
    (∃ (e : Fin 12) (s : State), s.Unhindered ↑e ∧ (s.micro ↑e).pinOnly = true ∧ (s.micro ↑e).pin = 4) ∧
    (∃ (e : Fin 12) (s : State),
      s.Unhindered ↑e ∧ (s.micro ↑e).pinOnly = true ∧ (s.micro ↑e).pin = 5 ∧ (s.vernier (capObj (s.here ↑e).c)).flagEdge ≠ s.rgl.edge) ∧
    (∃ (e : Fin 12) (s : State), s.Unhindered ↑e ∧ (s.micro ↑e).pinOnly = true ∧ (s.micro ↑e).pin = 6) ∧
    (∃ (e : Fin 12) (s : State), s.Unhindered ↑e ∧ (s.micro ↑e).pinOnly = true ∧ (s.micro ↑e).pin = 7) :=
  ⟨⟨0, memAt { cap5 with pin := 1 } 0 0 (vernier2), by simp only [unhindered_iff, quiet_iff]; decide +kernel⟩,
   ⟨0, memAt { cap5 with pin := 2 } 0 0 (vernier2.put (VRN_STAT.RXF 2) 1), by simp only [unhindered_iff, quiet_iff]; decide +kernel⟩,
   ⟨0, memAt { cap5 with pin := 3 } 0 0 (vernier2), by simp only [unhindered_iff, quiet_iff]; decide +kernel⟩,
   ⟨0, memAt { cap5 with pin := 4 } 0 0 (vernier2), by simp only [unhindered_iff, quiet_iff]; decide +kernel⟩,
   ⟨0, memAt { cap5 with pin := 5 } 0 0 (vernier2), by simp only [unhindered_iff, quiet_iff]; decide +kernel⟩,
   ⟨0, memAt { cap5 with pin := 6 } 0 0 (vernier2), by simp only [unhindered_iff, quiet_iff]; decide +kernel⟩,
   ⟨0, memAt { cap5 with pin := 7 } 0 0 (vernier2), by simp only [unhindered_iff, quiet_iff]; decide +kernel⟩⟩

theorem witness_PinRows :
    (∃ (e : Fin 12) (s : State), s.Unhindered ↑e ∧ (s.micro ↑e).pinOnly = true ∧ (s.micro ↑e).pin = 8) ∧
    (∃ (e : Fin 12) (s : State), s.Unhindered ↑e ∧ (s.micro ↑e).pinOnly = true ∧ (s.micro ↑e).pin = 9) :=
  ⟨⟨0, memAt { cap5 with pin := 8 } 0 0 pin2, by simp only [unhindered_iff, quiet_iff]; decide +kernel⟩,
   ⟨0, memAt { cap5 with pin := 9 } 0 0 pin2, by simp only [unhindered_iff, quiet_iff]; decide +kernel⟩⟩

theorem witness_LensFinite :
    ∃ (r : LensRow) (e : Fin 12) (s : State), r ∈ floatRows ∧ s.Unhindered ↑e ∧ (s.micro ↑e).lensOnly = true ∧ (s.micro ↑e).lens = r.lens :=
  ⟨floatRows[0]'(by decide), 0, at1 { nop with lens := (floatRows[0]'(by decide)).lens }, List.getElem_mem _, by simp only [unhindered_iff, quiet_iff]; decide +kernel⟩

theorem witness_LensSpecial :
    ∃ (r : LensRow) (e : Fin 12) (s : State), r ∈ specialRows ∧ s.Unhindered ↑e ∧ (s.micro ↑e).lensOnly = true ∧ (s.micro ↑e).lens = r.lens :=
  ⟨specialRows[0]'(by decide), 0, at1 { nop with lens := (specialRows[0]'(by decide)).lens }, List.getElem_mem _, by simp only [unhindered_iff, quiet_iff]; decide +kernel⟩

theorem witness_LensVectorRows :
    ∃ (r : (Fin 12 → Instr) × ℕ × ℕ) (e : Fin 12) (s : State),
      r ∈ [(Instr.vdotQ, 40, 8), (Instr.vdotF, 41, 4), (Instr.vcmacF, 42, 8)] ∧
        s.Unhindered ↑e ∧
          (s.micro ↑e).lensOnly = true ∧
            (s.micro ↑e).lens = r.2.1 ∧
              s.doneHere ↑e < (s.here ↑e).total ∧
                s.Readable (↑e) (BitVec.toNat (s.here ↑e).a + r.2.2 * s.doneHere ↑e) r.2.2 ∧
                  s.Readable (↑e) (BitVec.toNat (s.here ↑e).b + r.2.2 * s.doneHere ↑e) r.2.2 :=
  ⟨(Instr.vdotQ, 40, 8), 0, memAt { mem3 with lens := 40, imm := 0x1000 } 0x30000 0x30100, by simp, by simp only [unhindered_iff, quiet_iff, readable_iff]; decide +kernel⟩

theorem witness_LensCordicRows :
    ∃ (r : (Fin 12 → Instr) × ℕ) (e : Fin 12) (s : State),
      r ∈ [(Instr.crot, 32), (Instr.cvec, 33)] ∧ s.Unhindered ↑e ∧ (s.micro ↑e).lensOnly = true ∧ (s.micro ↑e).lens = r.2 ∧ s.doneHere ↑e < 32 :=
  ⟨(Instr.crot, 32), 0, at1 { nop with lens := 32 }, by simp, by simp only [unhindered_iff, quiet_iff]; decide +kernel⟩

theorem witness_LensFixedRows :
    ∃ (r : LensRow) (e : Fin 12) (s : State), r ∈ fixedRows ∧ s.Unhindered ↑e ∧ (s.micro ↑e).lensOnly = true ∧ (s.micro ↑e).lens = r.lens :=
  ⟨fixedRows[0]'(by decide), 0, at1 { nop with lens := (fixedRows[0]'(by decide)).lens }, List.getElem_mem _, by simp only [unhindered_iff, quiet_iff]; decide +kernel⟩

theorem witness_LensCompare :
    ∃ (e : Fin 12) (s : State), s.Unhindered ↑e ∧ (s.micro ↑e).lensOnly = true ∧ (s.micro ↑e).lens = 3 ∧ (s.micro ↑e).ccu = 3 :=
  ⟨0, at1 { nop with lens := 3, ccu := 3 }, by simp only [unhindered_iff, quiet_iff]; decide +kernel⟩

theorem witness_LensCompletion :
    (∃ (e : Fin 12) (s : State), s.engineClock = true ∧ (s.eng ↑e).op = none) ∧
    (∃ (e : Fin 12) (s : State) (x : LensOp) (j : ℕ) (v : DWord), s.engineClock = true ∧ (s.eng ↑e).op = some x ∧ x.writes = [(j, v)] ∧ j < 8) :=
  ⟨⟨0, live, by decide +kernel⟩,
   ⟨0, live.setEng 0 { live.eng 0 with op := some lensOp3 }, lensOp3, 3, 5, by decide +kernel⟩⟩

theorem witness_ResumedElement :
    ∃ (e : Fin 12) (s : State),
      s.ready ↑e = true ∧
        s.on (ENG_STAT.STALL ↑e) = true ∧
          s.lockOpen ↑e = false ∧
            (s.eng ↑e).capWrites = [] ∧
              (s.eng ↑e).stepping = false ∧
                (∀ k < 8, s.get (ENG_DCMP_CTL.KIND (↑e) k) = 0) ∧
                  (s.micro ↑e).memoryOnly = true ∧
                    (s.micro ↑e).mem = 12 ∧
                      s.progMatches (↑e) (s.level ↑e) (s.upc ↑e) (s.micro ↑e) = true ∧
                        s.capViolation (s.here ↑e) = none ∧
                          ((s.eng ↑e).unjudged = true → s.firstCause (s.here ↑e) = none) ∧
                            s.stalls (s.here ↑e) = false ∧
                              s.doneHere ↑e < (s.here ↑e).total ∧
                                s.Readable (↑e) (BitVec.toNat (s.here ↑e).a + 8 * s.doneHere ↑e) 8 ∧
                                  s.Readable (↑e) (BitVec.toNat (s.gpr (↑e) (s.here ↑e).l (s.here ↑e).w.dst) + 8 * s.doneHere ↑e) 8 :=
  ⟨0, (((memAt { mem3 with mem := 12, dst := 5 } 0x30008 16).setGpr 0 1 5 0x31000).put (ENG_STAT.STALL 0) 1).setReg (ENG_PROG 0 1) 0x20020001, by simp only [readable_iff]; decide +kernel⟩

theorem witness_MicrobreakHalts :
    ∃ (e : Fin 12) (s : State),
      s.ready ↑e = true ∧
        s.on (ENG_STAT.STALL ↑e) = false ∧
          s.badGroups ↑e = 0 ∧
            s.lockOpen ↑e = false ∧
              (s.eng ↑e).capWrites = [] ∧
                (∀ k < 8, s.get (ENG_DCMP_CTL.KIND (↑e) k) = 0) ∧
                  (s.eng ↑e).released = false ∧ (s.micro ↑e).bkpt = true ∧ (s.get EYE_BRKEN.ENG).testBit ↑e = true :=
  ⟨0, (at1 { nop with bkpt := true }).setReg EYE_BRKEN 1, by decide +kernel⟩

theorem witness_ResetRows :
    (∃ (s : State) (o : Origin), s.Takes o CLU_CTL) ∧
    (∃ (s : State),
      s.ifcOn = true ∧
        s.get CLU_STAT.STATE = 0 ∧ s.on CLK_PLLSTAT.TCLKLK = true ∧ s.on CLK_PLLSTAT.CCLKLK = true ∧ s.power.powerUp = false ∧ s.retained = none) ∧
    (∃ (s : State), s.dbgOn = true) :=
  ⟨⟨live, .assistant, by simp only [takes_iff, forall_some_iff]; decide +kernel⟩,
   ⟨live.put CLU_STAT.STATE 0, by decide +kernel⟩,
   ⟨live, by decide +kernel⟩⟩

theorem witness_AttachRows :
    (∃ (s : State),
      s.get CLU_ATTACH.PSTATE = 5 ∧
        s.on CLK_PLLSTAT.TCLKLK = true ∧ s.on CLK_PLLSTAT.CCLKLK = true ∧ s.power.detachEdge + 500 * s.get CLK_QUIES.CMT ≤ s.rgl.edge) ∧
    (∃ (s : State),
      s.get CLU_ATTACH.PSTATE = 5 ∧ s.on CLK_PLLSTAT.TCLKLK = true ∧ s.on CLK_PLLSTAT.CCLKLK = true ∧ s.drainEnded = true ∧ s.on CLU_ATTACH.ATTREQ = false) ∧
    (∃ (s : State), s.power.req = true ∧ s.on CLU_ATTACH.PWRACK = true ∧ s.on CLU_ATTACH.ATTREQ = false) ∧
    (∃ (s : State), s.get CLU_ATTACH.PSTATE = 4) :=
  ⟨⟨atEdge 50000000 (live.put CLU_ATTACH.PSTATE 5), by decide +kernel⟩,
   ⟨{ live.put CLU_ATTACH.PSTATE 5 with power := { live.power with stopped := true } }, by decide +kernel⟩,
   ⟨{ live.put CLU_ATTACH.PWRACK 1 with power := { live.power with req := true } }, by decide +kernel⟩,
   ⟨live.put CLU_ATTACH.PSTATE 4, by decide +kernel⟩⟩

theorem witness_SleepRows :
    (∃ (o : Origin) (v : Word) (s : State), s.Takes o CLK_PWRCTL ∧ s.MaySleep ∧ BitVec.getLsbD v 1 = false) ∧
    (∃ (o : Origin) (s : State), s.Takes o CLK_PWRCTL ∧ ¬s.MaySleep) ∧
    (∃ (s : State),
      s.power.napAsked = true ∧
        s.get CLU_ATTACH.PSTATE = 2 ∧ s.on CLK_PLLSTAT.TCLKLK = true ∧ s.on CLK_PLLSTAT.CCLKLK = true ∧ ∀ e < 12, s.get (ENG_STAT.STATE e) ≠ 1) ∧
    (∃ (s : State), s.get CLU_ATTACH.PSTATE = 3 ∧ s.on CLK_PWRCTL.NAPEV = true ∧ ∃ d ∈ s.deliveries, d.held = none) ∧
    (∃ (o : Origin) (v : Word) (s : State), s.get CLU_ATTACH.PSTATE = 3 ∧ s.Takes o CLK_PWRCTL ∧ BitVec.getLsbD v 1 = false) ∧
    (∃ (o : Origin) (s : State), s.Takes o CLK_PWRCTL ∧ s.MaySleep ∧ s.on CLU_ATTACH.ATTREQ = true) ∧
    (∃ (s : State) (source : Fin 4) (aon : ℕ), s.get CLU_ATTACH.PSTATE = 4 ∧ s.WakeDue (↑source) aon) ∧
    (∃ (o : Origin) (s : State), s.Takes o CLU_ATTACH ∧ s.get CLU_ATTACH.PSTATE = 4) ∧
    (∃ (s : State), s.ifcOn = true ∧ (s.get CLU_STAT.STATE = 2 ∨ s.get CLU_STAT.STATE = 3)) :=
  ⟨⟨.assistant, 0, live, by simp only [takes_iff, forall_some_iff, State.MaySleep]; decide +kernel⟩,
   ⟨.assistant, live.put ADM_STAT.ACTIVE 1, by simp only [takes_iff, forall_some_iff, State.MaySleep]; decide +kernel⟩,
   ⟨{ live with power := { live.power with napAsked := true } }, by decide +kernel⟩,
   ⟨{ (live.put CLU_ATTACH.PSTATE 3).put CLK_PWRCTL.NAPEV 1 with deliveries := [delivery7] }, by decide +kernel⟩,
   ⟨.assistant, 0, live.put CLU_ATTACH.PSTATE 3, by simp only [takes_iff, forall_some_iff]; decide +kernel⟩,
   ⟨.assistant, live.put CLU_ATTACH.ATTREQ 1, by simp only [takes_iff, forall_some_iff, State.MaySleep]; decide +kernel⟩,
   ⟨((live.put CLU_ATTACH.PSTATE 4).put RGL_STAT.AONV 1).put CLK_PWRCTL.ALMEN 1, 2, 32767, by simp only [State.WakeDue]; decide +kernel⟩,
   ⟨.assistant, live.put CLU_ATTACH.PSTATE 4, by simp only [takes_iff, forall_some_iff]; decide +kernel⟩,
   ⟨live, by decide +kernel⟩⟩

theorem witness_ClockRows :
    (∃ (s : State) (n : ℕ) (lo : ℕ) (hi : ℕ) (c : ℕ),
      s.ifcOn = true ∧
        s.power.pllsStarted = false ∧
          s.on CLK_PLLSTAT.TCLKLK = false ∧
            s.on CLK_OSC_TOL.HOSTKHZ = true ∧
              c < 3 ∧
                (fun (f : ℕ) =>
                      (((n * f : ℕ) : ℤ) - ((4096 * s.get CLK_OSC_TOL.HOSTKHZ : ℕ) : ℤ)).natAbs * 1000000 ≤
                          (4096 * s.get CLK_OSC_TOL.HOSTKHZ * if s.get CLK_OSC_TOL.PPM = 0 then 1 else s.get CLK_OSC_TOL.PPM) + f * 1000000 ∧
                        s.get CLK_OSC_TOL.HOSTKHZ / f ≤ lo + 1 ∧ hi ≤ (s.get CLK_OSC_TOL.HOSTKHZ + f - 1) / f + 1)
                    ([10000, 20000, 25000].getD c 0) ∧
                  ∀ d < 3,
                    d ≠ c →
                      ¬(fun (f : ℕ) =>
                            (((n * f : ℕ) : ℤ) - ((4096 * s.get CLK_OSC_TOL.HOSTKHZ : ℕ) : ℤ)).natAbs * 1000000 ≤
                                (4096 * s.get CLK_OSC_TOL.HOSTKHZ * if s.get CLK_OSC_TOL.PPM = 0 then 1 else s.get CLK_OSC_TOL.PPM) + f * 1000000 ∧
                              s.get CLK_OSC_TOL.HOSTKHZ / f ≤ lo + 1 ∧ hi ≤ (s.get CLK_OSC_TOL.HOSTKHZ + f - 1) / f + 1)
                          ([10000, 20000, 25000].getD d 0)) ∧
    (∃ (s : State) (n : ℕ) (lo : ℕ) (hi : ℕ),
      s.ifcOn = true ∧
        s.power.pllsStarted = false ∧
          s.on CLK_PLLSTAT.TCLKLK = false ∧
            s.on CLK_OSC_TOL.HOSTKHZ = true ∧
              ∀ c < 3,
                (fun (f : ℕ) =>
                      (((n * f : ℕ) : ℤ) - ((4096 * s.get CLK_OSC_TOL.HOSTKHZ : ℕ) : ℤ)).natAbs * 1000000 ≤
                          (4096 * s.get CLK_OSC_TOL.HOSTKHZ * if s.get CLK_OSC_TOL.PPM = 0 then 1 else s.get CLK_OSC_TOL.PPM) + f * 1000000 ∧
                        s.get CLK_OSC_TOL.HOSTKHZ / f ≤ lo + 1 ∧ hi ≤ (s.get CLK_OSC_TOL.HOSTKHZ + f - 1) / f + 1)
                    ([10000, 20000, 25000].getD c 0) →
                  ∃ d < 3,
                    d ≠ c ∧
                      (fun (f : ℕ) =>
                          (((n * f : ℕ) : ℤ) - ((4096 * s.get CLK_OSC_TOL.HOSTKHZ : ℕ) : ℤ)).natAbs * 1000000 ≤
                              (4096 * s.get CLK_OSC_TOL.HOSTKHZ * if s.get CLK_OSC_TOL.PPM = 0 then 1 else s.get CLK_OSC_TOL.PPM) + f * 1000000 ∧
                            s.get CLK_OSC_TOL.HOSTKHZ / f ≤ lo + 1 ∧ hi ≤ (s.get CLK_OSC_TOL.HOSTKHZ + f - 1) / f + 1)
                        ([10000, 20000, 25000].getD d 0)) ∧
    (∃ (s : State), s.ifcOn = true ∧ s.on CLK_PLLSTAT.TCLKLK = true ∧ s.on CLK_PLLSTAT.CCLKLK = true) ∧
    (∃ (s : State), s.ifcOn = true ∧ s.on CLK_PLLSTAT.TCLKLK = false ∧ s.power.pllsStarted = true) ∧
    (∃ (s : State), s.on CLK_PLLSTAT.LINKLK = true) ∧
    (∃ (s : State) (o : Origin) (v : Word), s.Takes o CLK_SSC ∧ BitVec.toNat v % 16 ≤ s.spreadLimit ∧ BitVec.toNat v % 16 ≤ 8) ∧
    (∃ (s : State) (o : Origin) (v : Word), s.Takes o CLK_SSC ∧ BitVec.toNat v % 16 ≤ s.spreadLimit ∧ 8 < BitVec.toNat v % 16) ∧
    (∃ (s : State) (o : Origin) (v : Word), s.Takes o CLK_SSC ∧ s.spreadLimit < BitVec.toNat v % 16) :=
  ⟨⟨((live.put CLK_PLLSTAT.TCLKLK 0).put CLK_OSC_TOL.HOSTKHZ 25000).put CLK_OSC_TOL.PPM 100, 4096, 0, 0, 2, by decide +kernel⟩,
   ⟨((live.put CLK_PLLSTAT.TCLKLK 0).put CLK_OSC_TOL.HOSTKHZ 25000).put CLK_OSC_TOL.PPM 100, 0, 0, 0, by decide +kernel⟩,
   ⟨live, by decide +kernel⟩,
   ⟨{ live.put CLK_PLLSTAT.TCLKLK 0 with power := { live.power with pllsStarted := true } }, by decide +kernel⟩,
   ⟨live, by decide +kernel⟩,
   ⟨live, .assistant, 0x2800, by simp only [takes_iff, forall_some_iff]; decide +kernel⟩,
   ⟨{ live with chart := { live.chart with platform := [0, 0, 0x900] } }, .assistant, 9, by simp only [takes_iff, forall_some_iff]; decide +kernel⟩,
   ⟨live, .assistant, 15, by simp only [takes_iff, forall_some_iff]; decide +kernel⟩⟩

theorem witness_DisciplineWrites :
    (∃ (o : Origin) (s : State), s.Takes o RGL_RATE ∧ s.MayDiscipline o) ∧
    (∃ (o : Origin) (s : State), s.Takes o RGL_RATE ∧ ¬s.MayDiscipline o) ∧
    (∃ (o : Origin) (s : State), s.Takes o RGL_STEP ∧ ¬s.MayDiscipline o) ∧
    (∃ (o : Origin) (s : State), s.Takes o RGL_QUAL ∧ ¬s.MayDiscipline o) ∧
    (∃ (o : Origin) (v : Word) (s : State),
      s.Takes o RGL_STEP ∧ s.MayDiscipline o ∧ (999999999 < (BitVec.toInt v).natAbs ∨ 2 ^ 63 ≤ (s.stepSum o v / 2 ^ 24).natAbs)) ∧
    (∃ (o : Origin) (v : Word) (s : State),
      s.Takes o RGL_STEP ∧ s.MayDiscipline o ∧ (BitVec.toInt v).natAbs ≤ 999999999 ∧ (s.stepSum o v / 2 ^ 24).natAbs < 2 ^ 63) ∧
    (∃ (o : Origin) (s : State), s.Takes o RGL_QUAL ∧ s.MayDiscipline o ∧ s.servoHolds o = true) ∧
    (∃ (o : Origin) (s : State), s.Takes o RGL_QUAL ∧ s.MayDiscipline o ∧ s.servoHolds o = false ∧ s.outranked o RGL_QUAL = false) ∧
    (∃ (o : Origin) (v : Word) (s : State), s.Takes o RGL_SRV_OWN ∧ servoCode (BitVec.toNat v % 32)) ∧
    (∃ (o : Origin) (v : Word) (s : State), s.Takes o RGL_SRV_OWN ∧ ¬servoCode (BitVec.toNat v % 32)) ∧
    (∃ (s : State), s.on RGL_STAT.SVCFRZ = true ∧ s.on EYE_FREEZE.SERVO = false) :=
  ⟨⟨.host, live.put RGL_SRV_OWN.OWNER 1, by simp only [takes_iff, forall_some_iff, State.MayDiscipline]; decide +kernel⟩,
   ⟨.host, live.put RGL_SRV_OWN.OWNER 2, by simp only [takes_iff, forall_some_iff, State.MayDiscipline]; decide +kernel⟩,
   ⟨.host, live.put RGL_SRV_OWN.OWNER 2, by simp only [takes_iff, forall_some_iff, State.MayDiscipline]; decide +kernel⟩,
   ⟨.host, live.put RGL_SRV_OWN.OWNER 2, by simp only [takes_iff, forall_some_iff, State.MayDiscipline]; decide +kernel⟩,
   ⟨.assistant, 1000000000, live, by simp only [takes_iff, forall_some_iff, State.MayDiscipline]; decide +kernel⟩,
   ⟨.assistant, 999999999, live, by simp only [takes_iff, forall_some_iff, State.MayDiscipline]; decide +kernel⟩,
   ⟨.host, (live.put RGL_STAT.SVCFRZ 1).put RGL_SRV_OWN.OWNER 1, by simp only [takes_iff, forall_some_iff, State.MayDiscipline]; decide +kernel⟩,
   ⟨.assistant, live, by simp only [takes_iff, forall_some_iff, State.MayDiscipline]; decide +kernel⟩,
   ⟨.assistant, 0x1B, live, by simp only [takes_iff, forall_some_iff, servoCode]; decide +kernel⟩,
   ⟨.assistant, 0x1C, live, by simp only [takes_iff, forall_some_iff, servoCode]; decide +kernel⟩,
   ⟨live.put RGL_STAT.SVCFRZ 1, by decide +kernel⟩⟩

theorem witness_RegulatorEdges :
    (∃ (o : Origin) (s : State), s.Takes o RGL_SNAP_CMD ∧ s.get CLU_STAT.STATE ≠ 6 ∧ s.rgl.snapEdge = some s.rgl.edge) ∧
    (∃ (o : Origin) (s : State), s.Takes o RGL_SNAP_CMD ∧ (s.get CLU_STAT.STATE = 6 ∨ s.rgl.snapEdge ≠ some s.rgl.edge)) ∧
    (∃ (s : State), s.on CLK_PLLSTAT.TCLKLK = true ∧ s.on CLK_PLLSTAT.CCLKLK = true ∧ s.rgl.q ≠ 0 ∧ s.rgl.q.natAbs < s.slewStep) ∧
    (∃ (s : State),
      s.on CLK_PLLSTAT.TCLKLK = true ∧
        s.on CLK_PLLSTAT.CCLKLK = true ∧ s.rgl.q = 0 ∧ s.now / unitsPerSec < (↑s.rgl.time + s.rateStep).toNat / 2 ^ 24 / unitsPerSec) ∧
    (∃ (s : State), s.get RGL_QUAL.STATE = 3 ∧ s.get RGL_CTL.HOLDTO ≠ 0 ∧ s.rgl.discEdge + s.get RGL_CTL.HOLDTO * 62500000 ≤ s.rgl.edge) ∧
    (∃ (o : Origin) (s : State), s.Takes o (RGL_PINCAL (s.get RGL_PINCAL_IDX.INDEX)) ∧ s.get SEC_LCS.STATE = 2 ∧ s.get RGL_PINCAL_IDX.INDEX < 119) ∧
    (∃ (o : Origin) (s : State), s.Takes o (RGL_PINCAL 0) ∧ s.get SEC_LCS.STATE = 2 ∧ 119 ≤ s.get RGL_PINCAL_IDX.INDEX) ∧
    (∃ (o : Origin) (s : State), s.Takes o (RGL_PINCAL 0) ∧ s.get SEC_LCS.STATE ≠ 2) :=
  ⟨⟨.assistant, { live with rgl := { live.rgl with snapEdge := some 0 } }, by simp only [takes_iff, forall_some_iff]; decide +kernel⟩,
   ⟨.assistant, live, by simp only [takes_iff, forall_some_iff]; decide +kernel⟩,
   ⟨{ live with rgl := { live.rgl with q := -7 } }, by decide +kernel⟩,
   ⟨{ live with rgl := { live.rgl with time := 5 * unitsPerSec * 2 ^ 24 - 1 } }, by decide +kernel⟩,
   ⟨atEdge (3 * 62500000) ((live.put RGL_QUAL.STATE 3).put RGL_CTL.HOLDTO 3), by decide +kernel⟩,
   ⟨.assistant, inLcs 2 (live.put RGL_PINCAL_IDX.INDEX 0x76), by simp only [takes_iff, forall_some_iff]; decide +kernel⟩,
   ⟨.assistant, inLcs 2 (live.put RGL_PINCAL_IDX.INDEX 0x77), by simp only [takes_iff, forall_some_iff]; decide +kernel⟩,
   ⟨.assistant, inLcs 3 live, by simp only [takes_iff, forall_some_iff]; decide +kernel⟩⟩

theorem witness_AlarmCommands :
    (∃ (o : Origin) (n : Fin 32) (s : State), s.Takes o (RGL_ALM_CTL ↑n) ∧ ¬s.MayAlarm o ↑n) ∧
    (∃ (o : Origin) (n : Fin 32) (v : Word) (s : State),
      s.Takes o (RGL_ALM_CTL ↑n) ∧ s.MayAlarm o ↑n ∧ s.AlarmTakes (↑n) (BitVec.toNat v / 2 % 4) (s.alarmCompare ↑n)) ∧
    (∃ (o : Origin) (n : Fin 32) (v : Word) (s : State),
      s.Takes o (RGL_ALM_CTL ↑n) ∧ s.MayAlarm o ↑n ∧ s.on (RGL_ALM_CTL.ARM ↑n) = false ∧ ¬s.AlarmTakes (↑n) (BitVec.toNat v / 2 % 4) (s.alarmCompare ↑n)) ∧
    (∃ (o : Origin) (n : Fin 32) (s : State), s.Takes o (RGL_ALM_CTL ↑n) ∧ s.MayAlarm o ↑n ∧ s.on (RGL_ALM_CTL.ARM ↑n) = true) ∧
    (∃ (o : Origin) (n : Fin 32) (s : State), s.Takes o (RGL_ALM_CTL ↑n) ∧ s.MayAlarm o ↑n ∧ ¬(s.on (RGL_ALM_CTL.ARM ↑n) = true ∧ s.AlarmFires ↑n)) ∧
    (∃ (o : Origin) (n : Fin 32) (s : State), s.Takes o (RGL_ALM_CTL ↑n) ∧ s.MayAlarm o ↑n ∧ s.on (RGL_ALM_CTL.ARM ↑n) = true ∧ s.AlarmFires ↑n) ∧
    (∃ (n : Fin 32) (s : State), s.AlarmDue (↑n) 0) ∧
    (∃ (n : Fin 32) (s : State), s.AlarmDue (↑n) 1 ∧ 65536000 ≤ ofTime96 (s.alarmCompare (↑n + 1))) ∧
    (∃ (n : Fin 32) (s : State), s.AlarmDue (↑n) 2 ∧ (s.alarm ↑n).opened = false) ∧
    (∃ (n : Fin 32) (s : State), s.AlarmDue (↑n) 2 ∧ (s.alarm ↑n).opened = true ∧ ofTime96 (s.alarmCompare (↑n + 1)) ≤ s.now) :=
  ⟨⟨.host, 31, live.put (RGL_ALM_CTL.OWNER 31) 2, by simp only [takes_iff, forall_some_iff, State.MayAlarm]; decide +kernel⟩,
   ⟨.assistant, 31, 1, live, by simp only [takes_iff, forall_some_iff, State.MayAlarm, State.AlarmTakes]; decide +kernel⟩,
   ⟨.assistant, 31, 3, live, by simp only [takes_iff, forall_some_iff, State.MayAlarm, State.AlarmTakes]; decide +kernel⟩,
   ⟨.assistant, 31, live.put (RGL_ALM_CTL.ARM 31) 1, by simp only [takes_iff, forall_some_iff, State.MayAlarm]; decide +kernel⟩,
   ⟨.host, 31, live.put (RGL_ALM_CTL.OWNER 31) 1, by simp only [takes_iff, forall_some_iff, State.MayAlarm, State.AlarmFires, State.AlarmDue]; decide +kernel⟩,
   ⟨.assistant, 2, alarm2 1 false, by simp only [takes_iff, forall_some_iff, State.MayAlarm, State.AlarmFires, State.AlarmDue]; decide +kernel⟩,
   ⟨2, alarm2 0 false, by simp only [State.AlarmDue]; decide +kernel⟩,
   ⟨2, alarm2 1 false, by simp only [State.AlarmDue]; decide +kernel⟩,
   ⟨2, alarm2 2 false, by simp only [State.AlarmDue]; decide +kernel⟩,
   ⟨2, (alarm2 2 true).setReg (RGL_ALM_T0 3) 100, by simp only [State.AlarmDue]; decide +kernel⟩⟩

theorem witness_TrackerCommands :
    (∃ (o : Origin) (n : Fin 4) (s : State), s.Takes o (CDR_PT_CTL ↑n)) ∧
    (∃ (o : Origin) (n : Fin 4) (s : State), s.Takes o (CDR_PT_CFG ↑n) ∧ s.get (CDR_PT_STAT.STATE ↑n) ≠ 0) ∧
    (∃ (o : Origin) (n : Fin 4) (s : State), s.Takes o (CDR_PT_SRC ↑n) ∧ s.get (CDR_PT_STAT.STATE ↑n) ≠ 0) ∧
    (∃ (o : Origin) (n : Fin 4) (s : State), s.Takes o (CDR_PT_CFG ↑n) ∧ s.get (CDR_PT_STAT.STATE ↑n) = 0) ∧
    (∃ (o : Origin) (n : Fin 4) (v : Word) (s : State), s.Takes o (CDR_PT_SRC ↑n) ∧ s.get (CDR_PT_STAT.STATE ↑n) = 0 ∧ BitVec.toNat v / 2 ^ 24 % 64 ≤ 47) ∧
    (∃ (n : Fin 4) (s : State) (rising : Bool),
      s.TakesCrossing (↑n) rising (s.lessDelay ↑n ↑(ofTime96 (s.stampValue (pinInput (s.get (CDR_PT_SRC.PIN ↑n))) rising)))) ∧
    (∃ (n : Fin 4) (k : ℕ) (s : State), s.UpdateDue (↑n) k) ∧
    (∃ (n : Fin 4) (s : State) (x : Estimate),
      s.on (CDR_PT_STAT.CATCHUP ↑n) = true ∧ (s.tracker ↑n).estimate = some x ∧ (s.correctionOf (↑n) x).natAbs ≤ s.jumpLimit ↑n) ∧
    (∃ (n : Fin 4) (s : State), s.SourceGone ↑n ∧ s.get (CDR_PT_STAT.STATE ↑n) = 2) ∧
    (∃ (n : Fin 4) (s : State), s.SourceGone ↑n ∧ s.get (CDR_PT_STAT.STATE ↑n) = 1) ∧
    (∃ (n : Fin 4) (s : State), s.SourceGone ↑n ∧ s.get (CDR_PT_STAT.STATE ↑n) = 3 ∧ (s.tracker ↑n).lost = false) ∧
    (∃ (n : Fin 4) (s : State), s.get (CDR_PT_STAT.STATE ↑n) = 3 ∧ (s.tracker ↑n).holdEdge + s.get (CDR_PT_CFG.HOLDLIM ↑n) * 5000000 ≤ s.rgl.edge) ∧
    (∃ (n : Fin 4) (s : State), s.hostError false (CDR_PCAP_CYC ↑n) = false) ∧
    (∃ (o : Origin) (s : State), s.Takes o CDR_SNAP_CMD) :=
  ⟨⟨.assistant, 3, live, by simp only [takes_iff, forall_some_iff]; decide +kernel⟩,
   ⟨.assistant, 3, live.put (CDR_PT_STAT.STATE 3) 1, by simp only [takes_iff, forall_some_iff]; decide +kernel⟩,
   ⟨.assistant, 3, live.put (CDR_PT_STAT.STATE 3) 1, by simp only [takes_iff, forall_some_iff]; decide +kernel⟩,
   ⟨.assistant, 3, live, by simp only [takes_iff, forall_some_iff]; decide +kernel⟩,
   ⟨.assistant, 3, 0xAF000000, live, by simp only [takes_iff, forall_some_iff]; decide +kernel⟩,
   ⟨3, crossing3, true, by simp only [State.TakesCrossing, forall_some_iff]; decide +kernel⟩,
   ⟨3, 4, (atTime (1020000 * 65536) (live.put (CDR_PT_STAT.STATE 3) 1)).setTracker 3 { tracker0 with applied := 4 }, by simp only [State.UpdateDue]; decide +kernel⟩,
   ⟨3, catching, estimate0, by decide +kernel⟩,
   ⟨3, live.put (CDR_PT_STAT.STATE 3) 2, by simp only [State.SourceGone]; decide +kernel⟩,
   ⟨3, live.put (CDR_PT_STAT.STATE 3) 1, by simp only [State.SourceGone]; decide +kernel⟩,
   ⟨3, live.put (CDR_PT_STAT.STATE 3) 3, by simp only [State.SourceGone]; decide +kernel⟩,
   ⟨3, atEdge 5000000 ((live.put (CDR_PT_STAT.STATE 3) 3).put (CDR_PT_CFG.HOLDLIM 3) 1), by decide +kernel⟩,
   ⟨3, live, by decide +kernel⟩,
   ⟨.assistant, live, by simp only [takes_iff, forall_some_iff]; decide +kernel⟩⟩

theorem witness_PhaseAlarmCommands :
    (∃ (o : Origin) (m : Fin 16) (s : State), s.Takes o (CDR_PALM_CTL ↑m) ∧ ¬s.MayPhase o ↑m) ∧
    (∃ (o : Origin) (m : Fin 16) (v : Word) (s : State),
      s.Takes o (CDR_PALM_CTL ↑m) ∧ s.MayPhase o ↑m ∧ s.on (CDR_PALM_CTL.ARM ↑m) = false ∧ s.ArmTakes (↑m) v ∧ ¬s.ArmsBad v) ∧
    (∃ (o : Origin) (m : Fin 16) (v : Word) (s : State),
      s.Takes o (CDR_PALM_CTL ↑m) ∧ s.MayPhase o ↑m ∧ s.on (CDR_PALM_CTL.ARM ↑m) = false ∧ s.ArmTakes (↑m) v ∧ s.ArmsBad v) ∧
    (∃ (o : Origin) (m : Fin 16) (v : Word) (s : State),
      s.Takes o (CDR_PALM_CTL ↑m) ∧ s.MayPhase o ↑m ∧ s.on (CDR_PALM_CTL.ARM ↑m) = false ∧ ¬s.ArmTakes (↑m) v) ∧
    (∃ (o : Origin) (m : Fin 16) (s : State), s.Takes o (CDR_PALM_CTL ↑m) ∧ s.MayPhase o ↑m ∧ s.on (CDR_PALM_CTL.ARM ↑m) = true) ∧
    (∃ (o : Origin) (m : Fin 16) (s : State), s.Takes o (CDR_PALM_CTL ↑m) ∧ s.MayPhase o ↑m) ∧
    (∃ (m : Fin 16) (s : State), s.PhaseDue (↑m) 0) ∧
    (∃ (m : Fin 16) (s : State), s.PhaseDue (↑m) 1 ∧ 65536 ≤ s.get (CDR_PALM_PER.PER ↑m)) ∧
    (∃ (m : Fin 16) (s : State), s.PhaseDue (↑m) 2) ∧
    (∃ (o : Origin) (s : State),
      s.Takes o (CDR_EPH_HI (s.get CDR_EPH_IDX.INDEX)) ∧
        (s.UsesTable (s.get CDR_EPH_IDX.INDEX / 32) ∨ s.ringOf o = some 2 ∧ BitVec.getLsbD (s.reg CDR_EPH_OWN) (s.get CDR_EPH_IDX.INDEX / 32) = false)) ∧
    (∃ (o : Origin) (s : State),
      s.Takes o (CDR_EPH_HI (s.get CDR_EPH_IDX.INDEX)) ∧
        ¬(s.UsesTable (s.get CDR_EPH_IDX.INDEX / 32) ∨ s.ringOf o = some 2 ∧ BitVec.getLsbD (s.reg CDR_EPH_OWN) (s.get CDR_EPH_IDX.INDEX / 32) = false)) :=
  ⟨⟨.host, 15, live.put (CDR_PALM_CTL.OWNER 15) 2, by simp only [takes_iff, forall_some_iff, State.MayPhase]; decide +kernel⟩,
   ⟨.assistant, 15, 0x1800, (live.put (CDR_PT_STAT.STATE 3) 2).setReg (CDR_PALM_CYC 15) 0x100000, by simp only [takes_iff, forall_some_iff, State.MayPhase, State.ArmTakes, State.ArmsBad]; decide +kernel⟩,
   ⟨.assistant, 15, 0x1804, ((live.put (CDR_PT_STAT.STATE 3) 2).put (CDR_EPH_HI.VSTART 0) 1).put (CDR_EPH_HI.VGRP 0) 3, by simp only [takes_iff, forall_some_iff, State.MayPhase, State.ArmTakes, State.ArmsBad]; decide +kernel⟩,
   ⟨.assistant, 15, 0x1800, ((live.put (CDR_PT_STAT.STATE 3) 2).setReg (CDR_PALM_CYC 15) 0x100000).setReg (CDR_PALM_FRAC 15) 1, by simp only [takes_iff, forall_some_iff, State.MayPhase, State.ArmTakes]; decide +kernel⟩,
   ⟨.assistant, 15, live.put (CDR_PALM_CTL.ARM 15) 1, by simp only [takes_iff, forall_some_iff, State.MayPhase]; decide +kernel⟩,
   ⟨.assistant, 15, live, by simp only [takes_iff, forall_some_iff, State.MayPhase]; decide +kernel⟩,
   ⟨15, (live.put (CDR_PALM_CTL.ARM 15) 1).put (CDR_PALM_CTL.MODE 15) 0, by simp only [State.PhaseDue]; decide +kernel⟩,
   ⟨15, (((live.put (CDR_PALM_CTL.ARM 15) 1).put (CDR_PALM_CTL.MODE 15) 1).put (CDR_PALM_PER.PER 15) 0x10000), by simp only [State.PhaseDue]; decide +kernel⟩,
   ⟨15, (live.put (CDR_PALM_CTL.ARM 15) 1).put (CDR_PALM_CTL.MODE 15) 2, by simp only [State.PhaseDue]; decide +kernel⟩,
   ⟨.assistant, ((live.put (CDR_PALM_CTL.ARM 15) 1).put (CDR_PALM_CTL.MODE 15) 2).put CDR_EPH_IDX.INDEX 0, by simp only [takes_iff, forall_some_iff, State.UsesTable]; decide +kernel⟩,
   ⟨.assistant, live.put CDR_EPH_IDX.INDEX 255, by simp only [takes_iff, forall_some_iff, State.UsesTable]; decide +kernel⟩⟩

theorem witness_TimerCommands :
    (∃ (e : Fin 12) (n : Fin 4) (s : State),
      s.SingleTimer ↑e ↑n ∧
        s.on CLK_PLLSTAT.TCLKLK = true ∧
          s.on CLK_PLLSTAT.CCLKLK = true ∧ s.on (TMR_CTL.EN ↑e ↑n) = true ∧ s.on (TMR_CTL.STALE ↑e ↑n) = false ∧ s.get (TMR_CTL.START ↑e ↑n) = 0) ∧
    (∃ (e : Fin 12) (n : Fin 4) (s : State),
      s.SingleTimer ↑e ↑n ∧
        s.on (TMR_CTL.EN ↑e ↑n) = true ∧
          s.on (TMR_CTL.STALE ↑e ↑n) = true ∧
            (s.timer ↑e ↑n).count < s.timerDue ↑e ↑n ∧ ((s.timer ↑e ↑n).count ≤ (s.timer ↑e ↑n).compare ∨ s.on (TMR_CTL.PARMED ↑e ↑n) = true)) ∧
    (∃ (e : Fin 12) (n : Fin 4) (s : State),
      s.SingleTimer ↑e ↑n ∧
        s.on (TMR_CTL.EN ↑e ↑n) = true ∧
          s.on (TMR_CTL.STALE ↑e ↑n) = true ∧
            (s.timer ↑e ↑n).compare < (s.timer ↑e ↑n).count ∧
              (s.timer ↑e ↑n).count - (s.timer ↑e ↑n).compare ≤ s.timerDue ↑e ↑n ∧ s.on (TMR_CTL.PARMED ↑e ↑n) = false) ∧
    (∃ (e : Fin 12) (n : Fin 4) (s : State),
      s.SingleTimer ↑e ↑n ∧ s.on (TMR_CTL.EN ↑e ↑n) = false ∧ s.on (TMR_CTL.STALE ↑e ↑n) = true ∧ s.dueBefore ↑e ↑n < s.nextHappening ↑e ↑n) ∧
    (∃ (e : Fin 12) (n : Fin 4) (s : State),
      s.on (TMR_CTL.PARMED ↑e ↑n) = true ∧ s.timerFrozen ↑e ↑n = false ∧ phaseDistance (s.timer ↑e ↑n).target (s.phase (s.timer ↑e ↑n).tracker) ≤ 0) ∧
    (∃ (o : Origin) (e : Fin 12) (n : Fin 4) (s : State), s.Takes o (TMR_CTL ↑e ↑n)) ∧
    (∃ (o : Origin) (e : Fin 12) (n : Fin 4) (s : State),
      s.Takes o (TMR_CTL ↑e ↑n) ∧
        s.SingleTimer ↑e ↑n ∧
          (s.on (TMR_CTL.EN ↑e ↑n) = true ∨ s.ringOf o = some 2) ∧ s.get (ENG_STAT.STATE ↑e) ≠ 3 ∧ s.timerDue ↑e ↑n < s.nextHappening ↑e ↑n) ∧
    (∃ (o : Origin) (e : Fin 12) (n : Fin 4) (s : State), s.Takes o (TMR_CTL ↑e ↑n) ∧ s.SingleTimer ↑e ↑n ∧ s.on (TMR_CTL.STALE ↑e ↑n) = false) ∧
    (∃ (e : Fin 12) (n : Fin 4) (s : State) (rising : Bool),
      s.Captures (↑e) (↑n) rising ∧
        (s.on (TMR_CTL.CFMT ↑e ↑n) = false →
          s.timerDue ↑e ↑n < s.nextHappening ↑e ↑n ∧
            s.timerDueAt (↑e) (↑n) (s.stampIndex (↑e) (↑n) (s.ballStamp (↑e) (↑n) rising)) < s.nextHappening ↑e ↑n)) ∧
    (∃ (e : Fin 12) (n : Fin 4) (s : State) (rising : Bool), s.hostError false (capReg (↑e) (↑n) rising) = false) ∧
    (∃ (o : Origin) (e : Fin 12) (n : Fin 4) (s : State), s.Takes o (TMR_CNT ↑e ↑n) ∧ s.on (TMR_CTL.EN (↑e) (s.timerLead ↑e ↑n)) = true) ∧
    (∃ (o : Origin) (e : Fin 12) (n : Fin 4) (s : State), s.Takes o (TMR_CNT ↑e ↑n) ∧ s.on (TMR_CTL.EN (↑e) (s.timerLead ↑e ↑n)) = false) ∧
    (∃ (o : Origin) (e : Fin 12) (n : Fin 4) (v : Word) (s : State),
      s.Takes o (TMR_CTL ↑e ↑n) ∧
        (s.get (ENG_STAT.STATE ↑e) ≠ 3 ∨ s.ringOf o = some 2 ∨ BitVec.getLsbD v 8 = s.on (TMR_CTL.FRZ ↑e ↑n)) ∧
          BitVec.getLsbD v 19 = false ∧ BitVec.getLsbD v 20 = false) ∧
    (∃ (o : Origin) (e : Fin 12) (s : State), s.Takes o (TMR_WDKICK ↑e)) ∧
    (∃ (e : Fin 12) (s : State), s.watchdogCounts ↑e = true ∧ 125 * (s.watchdog ↑e).period ≤ s.watchdogElapsed ↑e + 100) :=
  ⟨⟨11, 3, timer3 1 0 0 0 0, by simp only [State.SingleTimer]; decide +kernel⟩,
   ⟨11, 3, timer3 1 1 5 5 6, by simp only [State.SingleTimer]; decide +kernel⟩,
   ⟨11, 3, timer3 1 1 5 2 3, by simp only [State.SingleTimer]; decide +kernel⟩,
   ⟨11, 3, timer3 0 1 5 5 5, by simp only [State.SingleTimer]; decide +kernel⟩,
   ⟨11, 3, live.put (TMR_CTL.PARMED 11 3) 1, by decide +kernel⟩,
   ⟨.assistant, 11, 3, live, by simp only [takes_iff, forall_some_iff]; decide +kernel⟩,
   ⟨.assistant, 11, 3, timer3 1 1 5 5 5, by simp only [takes_iff, forall_some_iff, State.SingleTimer]; decide +kernel⟩,
   ⟨.assistant, 11, 3, live, by simp only [takes_iff, forall_some_iff, State.SingleTimer]; decide +kernel⟩,
   ⟨11, 3, ((live.put (TMR_IO.IEN 11 3) 1).setReg (TMR_CTL 11 3) 0x400).setStampPoint (pinInput 0) { riseAt := some 5, fallAt := none, rise := 0, fall := 0, riseNo := 1, fallNo := 0 }, true, by simp only [State.Captures, State.SingleTimer]; decide +kernel⟩,
   ⟨11, 3, live, false, by decide +kernel⟩,
   ⟨.assistant, 11, 3, live.put (TMR_CTL.EN 11 3) 1, by simp only [takes_iff, forall_some_iff]; decide +kernel⟩,
   ⟨.assistant, 11, 3, live, by simp only [takes_iff, forall_some_iff]; decide +kernel⟩,
   ⟨.assistant, 11, 3, 0xFFE7FFFF, live, by simp only [takes_iff, forall_some_iff]; decide +kernel⟩,
   ⟨.assistant, 11, live, by simp only [takes_iff, forall_some_iff]; decide +kernel⟩,
   ⟨11, ((live.put (TMR_WDCTL.EN 11) 1).put (ENG_STAT.STATE 11) 1).setWatchdog 11 { counted := 25, since := none, period := 1, expired := false }, by decide +kernel⟩⟩

theorem witness_VernierWrites :
    (∃ (o : Origin) (v : Fin 24) (w : Word) (s : State), s.Takes o (VRN_CTL ↑v) ∧ BitVec.getLsbD w 2 = false) ∧
    (∃ (o : Origin) (v : Fin 24) (w : Word) (s : State), s.Takes o (VRN_CTL ↑v) ∧ BitVec.getLsbD w 3 = false) ∧
    (∃ (o : Origin) (s : State), s.Takes o VRN_GSTART) ∧
    (∃ (o : Origin) (v : Fin 24) (i : Fin 32) (s : State), s.Takes o (VRN_IMEM ↑v ↑i) ∧ s.ringOf o = some 1 ∧ s.get SEC_LCS.STATE ≠ 2) ∧
    (∃ (o : Origin) (v : Fin 24) (i : Fin 32) (s : State), s.Takes o (VRN_IMEM ↑v ↑i) ∧ (s.ringOf o ≠ some 1 ∨ s.get SEC_LCS.STATE = 2)) :=
  ⟨⟨.assistant, 23, 0, live, by simp only [takes_iff, forall_some_iff]; decide +kernel⟩,
   ⟨.assistant, 23, 0, live, by simp only [takes_iff, forall_some_iff]; decide +kernel⟩,
   ⟨.assistant, live, by simp only [takes_iff, forall_some_iff]; decide +kernel⟩,
   ⟨.eyepiece, 23, 31, inLcs 3 sessionLive, by simp only [takes_iff, forall_some_iff]; decide +kernel⟩,
   ⟨.assistant, 23, 31, inLcs 2 live, by simp only [takes_iff, forall_some_iff]; decide +kernel⟩⟩

theorem witness_VernierRows :
    (∃ (v : Fin 24) (w : BitVec 16) (s : State), s.Begins (↑v) 0 w) ∧
    (∃ (v : Fin 24) (w : BitVec 16) (s : State), s.Begins (↑v) 1 w) ∧
    (∃ (v : Fin 24) (w : BitVec 16) (s : State), s.Begins (↑v) 2 w) ∧
    (∃ (v : Fin 24) (w : BitVec 16) (s : State), s.Begins (↑v) 3 w) ∧
    (∃ (v : Fin 24) (w : BitVec 16) (s : State), s.Begins (↑v) 4 w) ∧
    (∃ (v : Fin 24) (w : BitVec 16) (s : State), s.Begins (↑v) 5 w ∧ insnBits w 10 0 = 0) ∧
    (∃ (v : Fin 24) (w : BitVec 16) (s : State), s.Begins (↑v) 6 w ∧ insnBits w 10 0 = 0) ∧
    (∃ (v : Fin 24) (w : BitVec 16) (s : State),
      s.Begins (↑v) 7 w ∧ (insnBits w 11 10 < 2 ∨ insnBits w 11 10 = 2 ∧ insnBits w 9 0 = 0 ∨ insnBits w 11 10 = 3 ∧ insnBits w 8 0 = 0)) ∧
    (∃ (v : Fin 24) (w : BitVec 16) (s : State), s.Begins (↑v) 8 w ∧ insnBits w 7 5 = 0) ∧
    (∃ (v : Fin 24) (w : BitVec 16) (s : State), s.Begins (↑v) 9 w ∧ insnBits w 5 0 = 0 ∧ insnBits w 11 10 = 0 ∧ insnBits w 8 6 ≤ 3) ∧
    (∃ (v : Fin 24) (w : BitVec 16) (s : State), s.Begins (↑v) 10 w ∧ insnBits w 8 0 = 0) ∧
    (∃ (v : Fin 24) (w : BitVec 16) (s : State), s.Begins (↑v) 11 w ∧ insnBits w 10 9 = 0 ∧ (s.vernier ↑v).flagEdge ≠ s.rgl.edge) ∧
    (∃ (v : Fin 24) (w : BitVec 16) (s : State), s.Begins (↑v) 12 w ∧ (s.vernier ↑v).next < insnBits w 11 7) ∧
    (∃ (v : Fin 24) (w : BitVec 16) (s : State), ∃ op < 16, 13 ≤ op ∧ s.Begins (↑v) op w) :=
  ⟨⟨23, 0x03FF, vernier23 0x03FF, by simp only [State.Begins]; decide +kernel⟩,
   ⟨23, 0x1F55, vernier23 0x1F55, by simp only [State.Begins]; decide +kernel⟩,
   ⟨23, 0x2F55, vernier23 0x2F55, by simp only [State.Begins]; decide +kernel⟩,
   ⟨23, 0x3FFF, vernier23 0x3FFF, by simp only [State.Begins]; decide +kernel⟩,
   ⟨23, 0x4FFF, vernier23 0x4FFF, by simp only [State.Begins]; decide +kernel⟩,
   ⟨23, 0x5800, vernier23 0x5800, by simp only [State.Begins]; decide +kernel⟩,
   ⟨23, 0x6800, vernier23 0x6800, by simp only [State.Begins]; decide +kernel⟩,
   ⟨23, 0x7C00, vernier23 0x7C00, by simp only [State.Begins]; decide +kernel⟩,
   ⟨23, 0x8F1F, vernier23 0x8F1F, by simp only [State.Begins]; decide +kernel⟩,
   ⟨23, 0x92C0, vernier23 0x92C0, by simp only [State.Begins]; decide +kernel⟩,
   ⟨23, 0xA000, vernier23 0xA000, by simp only [State.Begins]; decide +kernel⟩,
   ⟨23, 0xB9FF, vernier23 0xB9FF, by simp only [State.Begins]; decide +kernel⟩,
   ⟨23, 0xCF80, ((live.put (VRN_STAT.STATE 23) 1).setReg (VRN_IMEM 23 30) 0xCF80).setVernier 23 { vernier0 with next := 30 }, by simp only [State.Begins]; decide +kernel⟩,
   ⟨23, 0xD000, vernier23 0xD000, 0xD, by simp only [State.Begins]; decide +kernel⟩⟩

theorem witness_PinCommands :
    (∃ (i : Fin 119) (b : Fin 32) (rising : Bool) (s : State),
      s.on CLK_PLLSTAT.TCLKLK = true ∧ s.on CLK_PLLSTAT.CCLKLK = true ∧ s.StampsAt (↑i) (↑b) rising) ∧
    (∃ (i : Fin 119) (b : Fin 32) (rising : Bool) (s : State),
      s.on CLK_PLLSTAT.TCLKLK = true ∧ s.on CLK_PLLSTAT.CCLKLK = true ∧ ¬s.StampsAt (↑i) (↑b) rising) ∧
    (∃ (k : Fin 48) (rising : Bool) (s : State), s.ifcOn = true ∧ s.pinDrive ↑k = none ∧ s.pinLevel ↑k ≠ rising) ∧
    (∃ (k : Fin 48) (rising : Bool) (s : State), s.ifcOn = false ∧ s.pinLevel ↑k ≠ rising) ∧
    (∃ (o : Origin) (k : Fin 48) (s : State), s.Takes o (FLD_CFG ↑k)) ∧
    (∃ (s : State), s.on CLK_PLLSTAT.TCLKLK = true ∧ s.on CLK_PLLSTAT.CCLKLK = true ∧ s.get FLD_PPSOFS.OFS * 65536 + s.pps.handled * unitsPerSec ≤ s.now) ∧
    (∃ (s : State) (f : ℕ), s.on CLK_PLLSTAT.TCLKLK = true ∧ s.on CLK_PLLSTAT.CCLKLK = true ∧ s.pps.fallAt = some f ∧ f ≤ s.now) :=
  ⟨⟨118, 31, true, (atEdge 4 live).setStampPoint 118 { riseAt := some 95, fallAt := none, rise := 0, fall := 0, riseNo := 1, fallNo := 0 }, by simp only [State.StampsAt, forall_some_iff]; decide +kernel⟩,
   ⟨118, 31, true, (atEdge 4 live).setStampPoint 118 { riseAt := some 96, fallAt := none, rise := 0, fall := 0, riseNo := 1, fallNo := 0 }, by simp only [State.StampsAt, forall_some_iff]; decide +kernel⟩,
   ⟨47, true, live, by decide +kernel⟩,
   ⟨47, true, { live with ifcOn := false }, by decide +kernel⟩,
   ⟨.assistant, 47, live, by simp only [takes_iff, forall_some_iff]; decide +kernel⟩,
   ⟨live, by decide +kernel⟩,
   ⟨{ atTime 9 live with pps := { handled := 1, fallAt := some 9 } }, 9, by decide +kernel⟩⟩

theorem witness_Dispatch :
    (∃ (e : Fin 12) (l : ℕ) (s : State), s.Open ↑e ∧ s.NoAsync ↑e ∧ s.Admits (↑e) l ∧ s.Highest (↑e) l ∧ (s.eng ↑e).entry = none ∧ s.PendingLevel (↑e) l) ∧
    (∃ (e : Fin 12) (l : ℕ) (v : ℕ) (s : State),
      s.Open ↑e ∧
        s.NoAsync ↑e ∧
          s.Admits (↑e) l ∧
            s.Highest (↑e) l ∧
              (s.eng ↑e).entry = some l ∧
                v < 64 ∧
                  s.vectorPending (↑e) v = true ∧
                    s.vectorLevel (↑e) v = some l ∧ ∀ w < v, ¬(s.vectorPending (↑e) w = true ∧ s.vectorLevel (↑e) w = some l)) ∧
    (∃ (e : Fin 12) (l : ℕ) (s : State), s.Open ↑e ∧ s.NoAsync ↑e ∧ s.Admits (↑e) l ∧ s.Highest (↑e) l ∧ (s.eng ↑e).entry = some l ∧ ¬s.PendingLevel (↑e) l) :=
  ⟨⟨11, 2, engine11 [line7to11] none, by simp only [State.Open, State.NoAsync, pendingLevel_iff, State.Admits, State.Highest]; and_intros <;> decide +kernel⟩,
   ⟨11, 2, 5, engine11 [line7to11] (some 2), by simp only [State.Open, State.NoAsync, State.Admits, State.Highest, pendingLevel_iff]; and_intros <;> decide +kernel⟩,
   ⟨11, 2, engine11 [] (some 2), by simp only [State.Open, State.NoAsync, pendingLevel_iff, State.Admits, State.Highest]; and_intros <;> decide +kernel⟩⟩

theorem witness_Entry :
    (∃ (e : Fin 12) (s : State), s.Open ↑e ∧ (s.watchdog ↑e).expired = true ∧ s.bankUsed (↑e) 4 = false) ∧
    (∃ (e : Fin 12) (s : State), s.Open ↑e ∧ (s.watchdog ↑e).expired = true ∧ s.bankUsed (↑e) 4 = true) :=
  ⟨⟨11, (live.put (ENG_STAT.STATE 11) 1).setWatchdog 11 { counted := 0, since := none, period := 1, expired := true }, by simp only [State.Open]; decide +kernel⟩,
   ⟨11, ((live.put (ENG_STAT.STATE 11) 1).put (ENG_STAT.BANKS 11) 16).setWatchdog 11 { counted := 0, since := none, period := 1, expired := true }, by simp only [State.Open]; decide +kernel⟩⟩

theorem witness_Run :
    (∃ (o : Origin) (e : Fin 12) (s : State), s.Takes o (ENG_CTL ↑e) ∧ s.get (ENG_STAT.STATE ↑e) = 4) ∧
    (∃ (o : Origin) (e : Fin 12) (s : State), s.Takes o (ENG_CTL ↑e) ∧ s.get (ENG_STAT.STATE ↑e) ≠ 4) ∧
    (∃ (o : Origin) (e : Fin 12) (s : State), s.Takes o (ENG_CTL ↑e)) ∧
    (∃ (o : Origin) (e : Fin 12) (s : State), s.Takes o (ENG_CTL ↑e) ∧ s.get (ENG_STAT.STATE ↑e) ≠ 0 ∧ s.get (ENG_STAT.STATE ↑e) ≠ 4) ∧
    (∃ (e : Fin 12) (s : State),
      s.on CLK_PLLSTAT.TCLKLK = true ∧
        s.on CLK_PLLSTAT.CCLKLK = true ∧
          s.get CLU_ATTACH.PSTATE ≠ 3 ∧
            (s.get (ENG_STAT.STATE ↑e) = 1 ∨ s.get (ENG_STAT.STATE ↑e) = 2) ∧
              (s.on (ENG_STAT.LOCK ↑e) = false ∨ (s.eng ↑e).halt = 2) ∧ (s.eng ↑e).halt ≠ 0 ∧ (s.eng ↑e).halt ≤ 2 ∧ (s.eng ↑e).stop = false) ∧
    (∃ (e : Fin 12) (s : State),
      s.on CLK_PLLSTAT.TCLKLK = true ∧
        s.on CLK_PLLSTAT.CCLKLK = true ∧
          s.get CLU_ATTACH.PSTATE ≠ 3 ∧
            (s.get (ENG_STAT.STATE ↑e) = 1 ∨ s.get (ENG_STAT.STATE ↑e) = 2) ∧
              s.on (ENG_STAT.LOCK ↑e) = false ∧ (s.eng ↑e).halt = 0 ∧ (s.eng ↑e).stop = true) ∧
    (∃ (o : Origin) (e : Fin 12) (s : State), s.Takes o (ENG_UPC ↑e) ∧ s.get (ENG_STAT.STATE ↑e) = 0) ∧
    (∃ (o : Origin) (e : Fin 12) (s : State), s.Takes o (ENG_UPC ↑e) ∧ s.get (ENG_STAT.STATE ↑e) ≠ 0) ∧
    (∃ (o : Origin) (e : Fin 12) (l : Fin 5) (s : State), s.Takes o (ENG_SAL ↑e ↑l) ∧ s.get (ENG_STAT.STATE ↑e) = 0) ∧
    (∃ (o : Origin) (e : Fin 12) (l : Fin 5) (s : State), s.Takes o (ENG_SAL ↑e ↑l) ∧ s.get (ENG_STAT.STATE ↑e) ≠ 0) ∧
    (∃ (o : Origin) (e : Fin 12) (v : Word) (s : State), s.Takes o (ENG_PRI ↑e) ∧ BitVec.toNat v / 2 ^ 24 % 8 ≤ 4 ∧ s.get (ENG_STAT.STATE ↑e) = 0) ∧
    (∃ (o : Origin) (e : Fin 12) (v : Word) (s : State),
      s.Takes o (ENG_PRI ↑e) ∧
        s.get (ENG_STAT.STATE ↑e) ≠ 0 ∧ BitVec.toNat v / 2 ^ 24 % 8 = s.level ↑e ∧ BitVec.toNat v / 2 ^ 8 % 32 = s.get (ENG_STAT.BANKS ↑e)) ∧
    (∃ (o : Origin) (e : Fin 12) (v : Word) (s : State),
      s.Takes o (ENG_PRI ↑e) ∧
        s.get (ENG_STAT.STATE ↑e) ≠ 0 ∧
          BitVec.toNat v / 2 ^ 24 % 8 ≤ 4 ∧ (BitVec.toNat v / 2 ^ 24 % 8 ≠ s.level ↑e ∨ BitVec.toNat v / 2 ^ 8 % 32 ≠ s.get (ENG_STAT.BANKS ↑e))) ∧
    (∃ (o : Origin) (e : Fin 12) (s : State),
      s.Takes o (WCS_D (↑e) 4) ∧ ¬(¬(s.get (ENG_STAT.STATE ↑e) = 1 ∨ s.get (ENG_STAT.STATE ↑e) = 2) ∧ (s.ringOf o = some 1 → s.get SEC_LCS.STATE = 2))) ∧
    (∃ (o : Origin) (e : Fin 12) (v : Word) (s : State),
      s.Takes o (WCS_D (↑e) 4) ∧
        (¬(s.get (ENG_STAT.STATE ↑e) = 1 ∨ s.get (ENG_STAT.STATE ↑e) = 2) ∧ (s.ringOf o = some 1 → s.get SEC_LCS.STATE = 2)) ∧
          (parityFails (v ++ (s.eng ↑e).wcsHold) = 0 ∨ s.on (WCS_ADDR.PINJ ↑e) = true ∧ s.get SEC_LCS.STATE = 2)) ∧
    (∃ (o : Origin) (e : Fin 12) (v : Word) (s : State),
      s.Takes o (WCS_D (↑e) 4) ∧
        (¬(s.get (ENG_STAT.STATE ↑e) = 1 ∨ s.get (ENG_STAT.STATE ↑e) = 2) ∧ (s.ringOf o = some 1 → s.get SEC_LCS.STATE = 2)) ∧
          parityFails (v ++ (s.eng ↑e).wcsHold) ≠ 0 ∧ s.on (WCS_ADDR.PINJ ↑e) = false) ∧
    (∃ (e : Fin 12) (l : Fin 5) (s : State),
      s.busError Origin.host false (WCS_D ↑e ↑l) = false ∧ (s.get (ENG_STAT.STATE ↑e) = 1 ∨ s.get (ENG_STAT.STATE ↑e) = 2)) ∧
    (∃ (e : Fin 12) (l : Fin 5) (s : State),
      s.busError Origin.host false (WCS_D ↑e ↑l) = false ∧ ¬(s.get (ENG_STAT.STATE ↑e) = 1 ∨ s.get (ENG_STAT.STATE ↑e) = 2)) :=
  ⟨⟨.assistant, 11, live.put (ENG_STAT.STATE 11) 4, by simp only [takes_iff, forall_some_iff]; decide +kernel⟩,
   ⟨.assistant, 11, live, by simp only [takes_iff, forall_some_iff]; decide +kernel⟩,
   ⟨.assistant, 11, live, by simp only [takes_iff, forall_some_iff]; decide +kernel⟩,
   ⟨.assistant, 11, live.put (ENG_STAT.STATE 11) 1, by simp only [takes_iff, forall_some_iff]; decide +kernel⟩,
   ⟨11, (live.put (ENG_STAT.STATE 11) 1).setEng 11 { engine0 with halt := 2 }, by decide +kernel⟩,
   ⟨11, (live.put (ENG_STAT.STATE 11) 1).setEng 11 { engine0 with stop := true }, by decide +kernel⟩,
   ⟨.assistant, 11, live, by simp only [takes_iff, forall_some_iff]; decide +kernel⟩,
   ⟨.assistant, 11, (live.put (ENG_STAT.STATE 11) 1), by simp only [takes_iff, forall_some_iff]; decide +kernel⟩,
   ⟨.assistant, 11, 4, live, by simp only [takes_iff, forall_some_iff]; decide +kernel⟩,
   ⟨.assistant, 11, 4, (live.put (ENG_STAT.STATE 11) 1), by simp only [takes_iff, forall_some_iff]; decide +kernel⟩,
   ⟨.assistant, 11, 0x04000000, live, by simp only [takes_iff, forall_some_iff]; decide +kernel⟩,
   ⟨.assistant, 11, 0, (live.put (ENG_STAT.STATE 11) 1), by simp only [takes_iff, forall_some_iff]; decide +kernel⟩,
   ⟨.assistant, 11, 0x04000000, (live.put (ENG_STAT.STATE 11) 1), by simp only [takes_iff, forall_some_iff]; decide +kernel⟩,
   ⟨.assistant, 11, (live.put (ENG_STAT.STATE 11) 1), by simp only [takes_iff, forall_some_iff]; decide +kernel⟩,
   ⟨.assistant, 11, 0, (inLcs 2 live).put (WCS_ADDR.PINJ 11) 1, by simp only [takes_iff, forall_some_iff]; decide +kernel⟩,
   ⟨.assistant, 11, 0, inLcs 2 live, by simp only [takes_iff, forall_some_iff]; decide +kernel⟩,
   ⟨11, 4, (live.put (ENG_STAT.STATE 11) 1), by decide +kernel⟩,
   ⟨11, 4, live, by decide +kernel⟩⟩

theorem witness_BulkDone :
    (∃ (tag : Fin 256) (data : List Byte) (b : BulkTag) (a : ℕ) (n : ℕ) (s : State),
      ↑tag < 192 ∧
        s.on CLK_PLLSTAT.TCLKLK = true ∧
          s.on CLK_PLLSTAT.CCLKLK = true ∧
            tfind s.bulk ↑tag = some b ∧
              b.discard = false ∧
                s.on (ENG_STAT.LOCK (↑tag / 16)) = false ∧
                  (∀ k < 8, s.get (ENG_DCMP_CTL.KIND (↑tag / 16) k) = 0) ∧
                    b.use = BulkUse.engineRead a n ∧ b.bytes = [] ∧ b.keep = 0 ∧ a % 8 = 0 ∧ n % 8 = 0 ∧ data.length = n) ∧
    (∃ (tag : Fin 256) (b : BulkTag) (a : ℕ) (n : ℕ) (s : State),
      ↑tag < 192 ∧
        s.on CLK_PLLSTAT.TCLKLK = true ∧
          s.on CLK_PLLSTAT.CCLKLK = true ∧
            tfind s.bulk ↑tag = some b ∧
              b.discard = false ∧
                s.on (ENG_STAT.LOCK (↑tag / 16)) = false ∧
                  (∀ k < 8, s.get (ENG_DCMP_CTL.KIND (↑tag / 16) k) = 0) ∧ b.use = BulkUse.engineRead a n ∧ b.bytes = []) ∧
    (∃ (tag : Fin 256) (b : BulkTag) (a : ℕ) (n : ℕ) (s : State),
      ↑tag < 192 ∧
        s.on CLK_PLLSTAT.TCLKLK = true ∧
          s.on CLK_PLLSTAT.CCLKLK = true ∧
            tfind s.bulk ↑tag = some b ∧
              b.discard = false ∧
                s.on (ENG_STAT.LOCK (↑tag / 16)) = false ∧
                  (∀ k < 8, s.get (ENG_DCMP_CTL.KIND (↑tag / 16) k) = 0) ∧ b.use = BulkUse.engineWrite a n ∧ b.bytes ≠ []) :=
  ⟨⟨191, [1, 2, 3, 4, 5, 6, 7, 8], anEngineRead, 0x30000, 8, { live with bulk := [(191, anEngineRead)] }, by decide +kernel⟩,
   ⟨191, anEngineRead, 0x30000, 8, { live with bulk := [(191, anEngineRead)] }, by decide +kernel⟩,
   ⟨191, anEngineWrite, 0x30000, 8, { live with bulk := [(191, anEngineWrite)] }, by decide +kernel⟩⟩

theorem witness_EventCommands :
    (∃ (s : State), s.ifcOn = false) ∧
    (∃ (n : Fin 256) (s : State), s.ifcOn = true ∧ s.linePending ↑n = true) ∧
    (∃ (n : Fin 256) (s : State), s.ifcOn = true ∧ s.linePending ↑n = false) ∧
    (∃ (n : Fin 256) (s : State), (s.line ↑n).taken = true ∧ (s.line ↑n).delivered = false) ∧
    (∃ (n : Fin 256) (s : State), (s.line ↑n).taken = true ∧ (s.line ↑n).delivered = true ∧ ∀ d ∈ s.deliveries, d.line ≠ some ↑n) ∧
    (∃ (e : Fin 12) (s : State), s.releaseDue ↑e = true) ∧
    (∃ (o : Origin) (s : State), s.Takes o EVC_DOOR) ∧
    (∃ (o : Origin) (i : Fin 8) (s : State), s.Takes o (EVC_MASK ↑i)) ∧
    (∃ (o : Origin) (i : Fin 8) (s : State), s.Takes o (EVC_PEND ↑i)) ∧
    (∃ (o : Origin) (n : Fin 256) (v : Word) (s : State),
      s.Takes o (EVC_ROUTE ↑n) ∧
        ((List.range 256).all fun (m : ℕ) => ((s.plainWrite (EVC_ROUTE ↑n) v).put (EVC_ROUTE.ASST ↑n) (if 240 ≤ ↑n then 1 else 0)).routesAgree (↑n) m) =
          false) ∧
    (∃ (o : Origin) (n : Fin 256) (v : Word) (s : State),
      s.Takes o (EVC_ROUTE ↑n) ∧
        ((List.range 256).all fun (m : ℕ) => ((s.plainWrite (EVC_ROUTE ↑n) v).put (EVC_ROUTE.ASST ↑n) (if 240 ≤ ↑n then 1 else 0)).routesAgree (↑n) m) =
          true) :=
  ⟨⟨{ open0 with ifcOn := false }, by decide +kernel⟩,
   ⟨255, live.setReg (EVC_PEND 7) 0x80000000, by decide +kernel⟩,
   ⟨255, live, by decide +kernel⟩,
   ⟨7, (engine11 [] none).setLine 7 { taken := true, serial := 1 }, by decide +kernel⟩,
   ⟨7, (engine11 [] none).setLine 7 { taken := true, serial := 1, delivered := true }, by decide +kernel⟩,
   ⟨0, { live.put (EVC_ENG.MCNT 0) 1 with deliveries := [deliveryOf (some 0)] }, by decide +kernel⟩,
   ⟨.assistant, live, by simp only [takes_iff, forall_some_iff]; decide +kernel⟩,
   ⟨.assistant, 7, live, by simp only [takes_iff, forall_some_iff]; decide +kernel⟩,
   ⟨.assistant, 7, live, by simp only [takes_iff, forall_some_iff]; decide +kernel⟩,
   ⟨.assistant, 255, ((live.put (EVC_ROUTE.TMASK 255) 0x800).put (EVC_ROUTE.VLINE 255) 5).reg (EVC_ROUTE 255), engine11 [] none, by simp only [takes_iff, forall_some_iff]; decide +kernel⟩,
   ⟨.assistant, 255, 0, live, by simp only [takes_iff, forall_some_iff]; decide +kernel⟩⟩

theorem witness_PlateCommands :
    (∃ (o : Origin) (k : Fin 96) (s : State), s.Takes o (PLT_OWN ↑k) ∧ (↑k < 4 ∨ s.on (PLT_OWN.PEND ↑k) = true)) ∧
    (∃ (o : Origin) (k : Fin 96) (v : Word) (s : State),
      s.Takes o (PLT_OWN ↑k) ∧
        4 ≤ ↑k ∧
          s.on (PLT_OWN.PEND ↑k) = false ∧
            ¬(BitVec.toNat v % 32 = 0 ∨ BitVec.toNat v % 32 = 1 ∨ BitVec.toNat v % 32 = 4 ∨ 16 ≤ BitVec.toNat v % 32 ∧ BitVec.toNat v % 32 ≤ 27)) ∧
    (∃ (o : Origin) (k : Fin 96) (v : Word) (s : State),
      s.Takes o (PLT_OWN ↑k) ∧
        4 ≤ ↑k ∧
          s.on (PLT_OWN.PEND ↑k) = false ∧
            (BitVec.toNat v % 32 = 0 ∨ BitVec.toNat v % 32 = 1 ∨ BitVec.toNat v % 32 = 4 ∨ 16 ≤ BitVec.toNat v % 32 ∧ BitVec.toNat v % 32 ≤ 27) ∧
              s.get CLU_STAT.STATE ≤ 1) ∧
    (∃ (o : Origin) (k : Fin 96) (v : Word) (s : State),
      s.Takes o (PLT_OWN ↑k) ∧
        4 ≤ ↑k ∧
          s.on (PLT_OWN.PEND ↑k) = false ∧
            (BitVec.toNat v % 32 = 0 ∨ BitVec.toNat v % 32 = 1 ∨ BitVec.toNat v % 32 = 4 ∨ 16 ≤ BitVec.toNat v % 32 ∧ BitVec.toNat v % 32 ≤ 27) ∧
              ¬s.get CLU_STAT.STATE ≤ 1 ∧ BitVec.toNat v % 32 ≠ s.get (PLT_OWN.OWNER ↑k)) ∧
    (∃ (k : Fin 96) (s : State),
      s.on (PLT_OWN.PEND ↑k) = true ∧
        s.handoverBlocked ↑k = false ∧ ↑k ≠ 1 ∧ (s.handover ↑k).owner < 32 ∧ ∀ (p : ℕ), capEntryAt 1 ↑k = some p → s.uncorrectable p 4 = false) ∧
    (∃ (off : BitVec 24) (s : State),
      s.hostError true off.toNat = false ∧
        4194304 ≤ off.toNat ∧
          off.toNat < 10485760 ∧ (off.toNat - 4194304) % 8 = 0 ∧ ¬s.get CLU_STAT.STATE ≤ 1 ∧ s.get (PLT_OWN.OWNER ((off.toNat - 4194304) / 65536)) = 1) ∧
    (∃ (off : BitVec 24) (s : State),
      s.hostError false off.toNat = false ∧
        4194304 ≤ off.toNat ∧
          off.toNat < 10485760 ∧
            (off.toNat - 4194304) % 8 = 0 ∧
              ¬s.get CLU_STAT.STATE ≤ 1 ∧ s.get (PLT_OWN.OWNER ((off.toNat - 4194304) / 65536)) = 1 ∧ s.eccAt (off.toNat - 4194304) ≠ 2) ∧
    (∃ (off : BitVec 24) (s : State) (write : Bool),
      s.hostError write off.toNat = false ∧
        4194304 ≤ off.toNat ∧ off.toNat < 10485760 ∧ ¬s.get CLU_STAT.STATE ≤ 1 ∧ s.get (PLT_OWN.OWNER ((off.toNat - 4194304) / 65536)) ≠ 1) ∧
    (∃ (s : State),
      s.get PLT_SCRUB.INTV ≠ 0 ∧
        ¬s.get CLU_STAT.STATE ≤ 1 ∧ s.on (PLT_OWN.PEND (8 * s.scrubWord / 65536)) = false ∧ s.plateLocked (8 * s.scrubWord / 65536) = false) :=
  ⟨⟨.assistant, 3, live, by simp only [takes_iff, forall_some_iff]; decide +kernel⟩,
   ⟨.assistant, 4, 2, live, by simp only [takes_iff, forall_some_iff]; decide +kernel⟩,
   ⟨.assistant, 4, 0x1B, live.put CLU_STAT.STATE 1, by simp only [takes_iff, forall_some_iff]; decide +kernel⟩,
   ⟨.assistant, 95, 0x1B, live, by simp only [takes_iff, forall_some_iff]; decide +kernel⟩,
   ⟨95, live.put (PLT_OWN.PEND 95) 1, by simp only [forall_some_iff]; decide +kernel⟩,
   ⟨0x9FFFF8, live.put (PLT_OWN.OWNER 95) 1, by decide +kernel⟩,
   ⟨0x9FFFF8, live.put (PLT_OWN.OWNER 95) 1, by decide +kernel⟩,
   ⟨0x9FFFF8, live, true, by decide +kernel⟩,
   ⟨live.put PLT_SCRUB.INTV 1, by decide +kernel⟩⟩

theorem witness_QueueCommands :
    (∃ (q : Fin 1024) (d : List Byte) (rest : List (List Byte)) (a : ℕ) (s : State),
      (s.queue ↑q).copying = d :: rest ∧ d.length = 32 ∧ s.NextSlot (↑q) a ∧ a % 32 = 0 ∧ s.MayCopy (↑q) a ∧ ∀ j ∈ s.jobs, s.jobHeld j = true) ∧
    (∃ (q : Fin 1024) (tg : ℕ) (s : State),
      s.on (QM_QSTAT.STOP ↑q) = false ∧
        (s.queue ↑q).spilled ≠ 0 ∧
          s.spillPending (↑q) (s.queue ↑q).spillHead = false ∧
            s.readBackBusy ↑q = false ∧
              (s.queue ↑q).vis + max (s.queue ↑q).held 1 + (s.queue ↑q).copying.length + 1 ≤ 2 ^ s.get (QM_QRING.RSZ ↑q) ∧ s.managerTag = some tg) ∧
    (∃ (o : Origin) (s : State), s.Takes o (QM_QSTAT (s.get QM_QIDX.QUEUE)) ∧ s.ringOf o = some 0) ∧
    (∃ (o : Origin) (s : State), s.Takes o (QM_QSTAT (s.get QM_QIDX.QUEUE)) ∧ s.ringOf o ≠ some 0) ∧
    (∃ (o : Origin) (v : Word) (s : State), s.Takes o QM_QCMD ∧ ¬(s.MayProduce o (BitVec.toNat v % 1024) ∧ s.MayName o (s.get QM_QARG.ADDR))) ∧
    (∃ (o : Origin) (v : Word) (s : State),
      s.Takes o QM_QCMD ∧
        s.MayProduce o (BitVec.toNat v % 1024) ∧
          s.MayName o (s.get QM_QARG.ADDR) ∧
            s.rangeHeld (s.get QM_QARG.ADDR) 32 = false ∧
              s.queueWaits (BitVec.toNat v % 1024) = false ∧ s.uncorrectable (s.get QM_QARG.ADDR) 32 = false ∧ s.Accepts (BitVec.toNat v % 1024)) ∧
    (∃ (o : Origin) (v : Word) (s : State),
      s.Takes o QM_QCMD ∧
        s.MayProduce o (BitVec.toNat v % 1024) ∧
          s.MayName o (s.get QM_QARG.ADDR) ∧
            s.rangeHeld (s.get QM_QARG.ADDR) 32 = false ∧
              s.queueWaits (BitVec.toNat v % 1024) = false ∧
                s.uncorrectable (s.get QM_QARG.ADDR) 32 = false ∧ s.queueRefuses (BitVec.toNat v % 1024) = true) ∧
    (∃ (o : Origin) (v : Word) (s : State),
      s.Takes o QM_QCMD ∧
        s.MayProduce o (BitVec.toNat v % 1024) ∧
          s.MayName o (s.get QM_QARG.ADDR) ∧
            s.rangeHeld (s.get QM_QARG.ADDR) 32 = false ∧ s.queueWaits (BitVec.toNat v % 1024) = false ∧ s.uncorrectable (s.get QM_QARG.ADDR) 32 = true) ∧
    (∃ (o : Origin) (v : Word) (s : State),
      s.Takes o QM_QCMD ∧
        s.MayProduce o (BitVec.toNat v % 1024) ∧
          s.MayName o (s.get QM_QARG.ADDR) ∧ (s.rangeHeld (s.get QM_QARG.ADDR) 32 = true ∨ s.queueWaits (BitVec.toNat v % 1024) = true)) ∧
    (∃ (o : Origin) (v : Word) (s : State), s.Takes o QM_QCMD ∧ ¬s.MayConsume o (BitVec.toNat v % 1024)) ∧
    (∃ (o : Origin) (v : Word) (s : State), s.Takes o QM_QCMD ∧ s.MayConsume o (BitVec.toNat v % 1024)) ∧
    (∃ (o : Origin) (v : Word) (s : State), s.Takes o QM_QCMD ∧ (s.MayConsume o (BitVec.toNat v % 1024) ∨ s.MayProduce o (BitVec.toNat v % 1024))) ∧
    (∃ (o : Origin) (s : State) (r : Fin 4),
      s.Takes o
          (if r = 0 then QM_QRING (s.get QM_QIDX.QUEUE)
          else if r = 1 then QM_QCFG (s.get QM_QIDX.QUEUE) else if r = 2 then QM_QSPILL (s.get QM_QIDX.QUEUE) else QM_QSPLEN (s.get QM_QIDX.QUEUE)) ∧
        s.queueCount (s.get QM_QIDX.QUEUE) ≠ 0) ∧
    (∃ (o : Origin) (v : Word) (s : State),
      s.Takes o (QM_QRING (s.get QM_QIDX.QUEUE)) ∧
        s.queueCount (s.get QM_QIDX.QUEUE) = 0 ∧
          BitVec.toNat v / 2 ^ 28 ≠ 1 ∧
            BitVec.toNat v / 2 ^ 28 ≤ 11 ∧ BitVec.toNat v % 2 ^ 23 < 6291456 ∧ BitVec.toNat v % 2 ^ 23 % (32 * 2 ^ (BitVec.toNat v / 2 ^ 28)) = 0) ∧
    (∃ (o : Origin) (v : Word) (s : State),
      s.Takes o (QM_QCFG (s.get QM_QIDX.QUEUE)) ∧
        s.queueCount (s.get QM_QIDX.QUEUE) = 0 ∧ producerCode (BitVec.toNat v % 32) = true ∧ consumerCode (BitVec.toNat v / 256 % 32) = true) ∧
    (∃ (o : Origin) (s : State), s.Takes o (QM_QSPILL (s.get QM_QIDX.QUEUE)) ∧ s.queueCount (s.get QM_QIDX.QUEUE) = 0) ∧
    (∃ (o : Origin) (v : Word) (s : State),
      s.Takes o (QM_QSPLEN (s.get QM_QIDX.QUEUE)) ∧
        s.queueCount (s.get QM_QIDX.QUEUE) = 0 ∧ BitVec.toNat v % 2 ^ 21 ≤ 1966080 ∧ BitVec.toNat v % 2 ^ 21 % 64 = 0) ∧
    (∃ (o : Origin) (s : State) (cfg : Bool),
      s.Takes o (if cfg = true then QM_PCFG (s.get QM_PIDX.POOL) else QM_PBASE (s.get QM_PIDX.POOL)) ∧
        s.queueCount (s.get (QM_PCFG.FREEQ (s.get QM_PIDX.POOL))) < s.get (QM_PCFG.NBUF (s.get QM_PIDX.POOL))) ∧
    (∃ (o : Origin) (v : Word) (s : State),
      s.Takes o (QM_PBASE (s.get QM_PIDX.POOL)) ∧
        ¬s.queueCount (s.get (QM_PCFG.FREEQ (s.get QM_PIDX.POOL))) < s.get (QM_PCFG.NBUF (s.get QM_PIDX.POOL)) ∧
          PoolLies (BitVec.toNat v % 2 ^ 23) (s.get (QM_PCFG.NBUF (s.get QM_PIDX.POOL))) (s.get (QM_PCFG.BSZ (s.get QM_PIDX.POOL)))) ∧
    (∃ (o : Origin) (v : Word) (s : State),
      s.Takes o (QM_PBASE (s.get QM_PIDX.POOL)) ∧
        ¬s.queueCount (s.get (QM_PCFG.FREEQ (s.get QM_PIDX.POOL))) < s.get (QM_PCFG.NBUF (s.get QM_PIDX.POOL)) ∧
          ¬PoolLies (BitVec.toNat v % 2 ^ 23) (s.get (QM_PCFG.NBUF (s.get QM_PIDX.POOL))) (s.get (QM_PCFG.BSZ (s.get QM_PIDX.POOL)))) ∧
    (∃ (o : Origin) (v : Word) (s : State),
      s.Takes o (QM_PCFG (s.get QM_PIDX.POOL)) ∧
        ¬s.queueCount (s.get (QM_PCFG.FREEQ (s.get QM_PIDX.POOL))) < s.get (QM_PCFG.NBUF (s.get QM_PIDX.POOL)) ∧
          BitVec.toNat v % 16 ≤ 8 ∧ PoolLies (s.get (QM_PBASE.BASE (s.get QM_PIDX.POOL))) (BitVec.toNat v / 16 % 2 ^ 11) (BitVec.toNat v % 16)) ∧
    (∃ (o : Origin) (v : Word) (s : State),
      s.Takes o (QM_PCFG (s.get QM_PIDX.POOL)) ∧
        ¬s.queueCount (s.get (QM_PCFG.FREEQ (s.get QM_PIDX.POOL))) < s.get (QM_PCFG.NBUF (s.get QM_PIDX.POOL)) ∧
          BitVec.toNat v % 16 ≤ 8 ∧ ¬PoolLies (s.get (QM_PBASE.BASE (s.get QM_PIDX.POOL))) (BitVec.toNat v / 16 % 2 ^ 11) (BitVec.toNat v % 16)) :=
  ⟨⟨1023, zeros32, [], 0x40000 + 32 * 6, queue1023 fun q => { q with vis := 6, copying := [zeros32] }, by simp only [State.NextSlot, State.MayCopy]; decide +kernel⟩,
   ⟨1023, 0xC0, queue1023 fun q => { q with vis := 6, spilled := 1 }, by decide +kernel⟩,
   ⟨.assistant, queue1023 id, by simp only [takes_iff, forall_some_iff]; decide +kernel⟩,
   ⟨.host, queue1023 id, by simp only [takes_iff, forall_some_iff]; decide +kernel⟩,
   ⟨.host, 1023, queue1023 id, by simp only [takes_iff, forall_some_iff, State.MayProduce, State.MayName]; decide +kernel⟩,
   ⟨.assistant, 1023, queue1023 fun q => { q with vis := 6 }, by simp only [accepts_iff, takes_iff, forall_some_iff, State.MayProduce, State.MayName]; decide +kernel⟩,
   ⟨.assistant, 1023, queue1023 fun q => { q with vis := 7 }, by simp only [takes_iff, forall_some_iff, State.MayProduce, State.MayName]; decide +kernel⟩,
   ⟨.assistant, 1023, { queue1023 id with ecc := [(0xBFFFC, 2)] }, by simp only [takes_iff, forall_some_iff, State.MayProduce, State.MayName]; decide +kernel⟩,
   ⟨.assistant, 1023, queue1023 id (live.put (PLT_OWN.PEND 95) 1), by simp only [takes_iff, forall_some_iff, State.MayProduce, State.MayName]; decide +kernel⟩,
   ⟨.host, 1023, queue1023 id, by simp only [takes_iff, forall_some_iff, State.MayConsume]; decide +kernel⟩,
   ⟨.host, 1023, queue1023 (fun q => { q with vis := 1 }) (live.put (QM_QCFG.CONS 1023) 1), by simp only [takes_iff, forall_some_iff, State.MayConsume]; decide +kernel⟩,
   ⟨.host, 1023, queue1023 (fun q => { q with vis := 1 }) (live.put (QM_QCFG.CONS 1023) 1), by simp only [takes_iff, forall_some_iff, State.MayProduce, State.MayConsume]; decide +kernel⟩,
   ⟨.assistant, queue1023 (fun q => { q with vis := 1 }), 3, by simp only [takes_iff, forall_some_iff]; decide +kernel⟩,
   ⟨.assistant, 0xB05F0000, queue1023 id, by simp only [takes_iff, forall_some_iff]; decide +kernel⟩,
   ⟨.assistant, 0x101, queue1023 id, by simp only [takes_iff, forall_some_iff]; decide +kernel⟩,
   ⟨.assistant, queue1023 id, by simp only [takes_iff, forall_some_iff]; decide +kernel⟩,
   ⟨.assistant, 0x1E0000, queue1023 id, by simp only [takes_iff, forall_some_iff]; decide +kernel⟩,
   ⟨.assistant, live.put (QM_PCFG.NBUF 0) 1, true, by simp only [takes_iff, forall_some_iff]; decide +kernel⟩,
   ⟨.assistant, 0x5FFFC0, queue1023 (fun q => { q with vis := 1 }) ((live.put (QM_PCFG.NBUF 0) 1).put (QM_PCFG.FREEQ 0) 1023), by simp only [takes_iff, forall_some_iff, PoolLies]; decide +kernel⟩,
   ⟨.assistant, 0x600000, queue1023 (fun q => { q with vis := 1 }) ((live.put (QM_PCFG.NBUF 0) 1).put (QM_PCFG.FREEQ 0) 1023), by simp only [takes_iff, forall_some_iff, PoolLies]; decide +kernel⟩,
   ⟨.assistant, 0x48, live, by simp only [takes_iff, forall_some_iff, PoolLies]; decide +kernel⟩,
   ⟨.assistant, 0x58, live, by simp only [takes_iff, forall_some_iff, PoolLies]; decide +kernel⟩⟩

theorem witness_FramePassage :
    (∃ (p : Fin 8) (f : List Byte) (s : State), s.PortOpen ↑p ∧ 64 ≤ f.length ∧ fcsGood f = true ∧ s.Acts (↑p) false f 0 ∧ s.PlainPath (↑p) none) ∧
    (∃ (p : Fin 8) (f : List Byte) (s : State), s.PortOpen ↑p ∧ 64 ≤ f.length ∧ fcsGood f = true ∧ s.Acts (↑p) false f 1) ∧
    (∃ (p : Fin 8) (f : List Byte) (s : State),
      s.PortOpen ↑p ∧ 64 ≤ f.length ∧ fcsGood f = true ∧ s.Acts (↑p) false f 2 ∧ s.PlainPath (↑p) none ∧ s.finderRule (↑p) false f ≠ none) ∧
    (∃ (p : Fin 8) (f : List Byte) (k : ℕ) (s : State) (r : ℕ),
      s.PortOpen ↑p ∧
        64 ≤ f.length ∧
          fcsGood f = true ∧
            s.Acts (↑p) false f 2 ∧
              s.finderRule (↑p) false f = some r ∧
                s.on (FPT_FRW5.FLOWEN (↑p) r) = true ∧
                  s.portEntry (↑p) 1 (s.get (FPT_FRW5.FLOW (↑p) r)) = some k ∧ s.on (FPT_FTW0.POLICE (↑p) k) = true ∧ s.bucket (↑p) k < f.length) ∧
    (∃ (p : Fin 8) (f : List Byte) (s : State), s.PortOpen ↑p ∧ f.length < 64) ∧
    (∃ (p : Fin 8) (f : List Byte) (s : State),
      s.PortOpen ↑p ∧ (s.port ↑p).core = none ∧ s.Acts (↑p) true f 0 ∧ s.PlainPath (↑p) (s.finderRule (↑p) true f)) ∧
    (∃ (p : Fin 8) (f : List Byte) (s : State), s.PortOpen ↑p ∧ (s.port ↑p).core = none ∧ s.Acts (↑p) true f 1) ∧
    (∃ (p : Fin 8) (lead : Fin 8) (x : CoreFrame) (s : State),
      s.PortOpen ↑p ∧
        (s.port ↑p).core = some x ∧
          (∀ c' < 8, s.classLeader (↑p) c' ↑lead = none) ∧
            x.cls < 8 ∧ s.on (FPT_GCTL.EN ↑p) = false ∧ s.finderPtp (↑p) x.rule = false ∧ ∀ (r : ℕ), x.rule = some r → s.on (FPT_FRW5.TSR (↑p) r) = false) ∧
    (∃ (p : Fin 8) (c : Fin 8) (l : Fin 8) (lead : Fin 8) (d : List Byte) (i : ℕ) (s : State),
      s.Serves (↑p) (↑c) (↑lead) (↑l) i d ∧
        descTomb d = false ∧
          s.ledgerOld (↑p) d = false ∧
            s.on (FPT_STAT.LINK ↑p) = true ∧
              s.expired (↑p) d = false ∧
                descExt d = false ∧
                  s.uncorrectable (descAddr d) (descLen d) = false ∧
                    s.bufferHeld d = false ∧
                      s.on (FPT_PTP.OSYNC ↑p) = false ∧ s.get (FPT_RED.MODE ↑p) = 0 ∧ (s.get (FPT_TSQ.CLSMASK ↑p)).testBit ↑c = false) ∧
    (∃ (p : Fin 8) (c : Fin 8) (l : Fin 8) (lead : Fin 8) (d : List Byte) (i : ℕ) (s : State), s.Serves (↑p) (↑c) (↑lead) (↑l) i d ∧ descTomb d = true) ∧
    (∃ (p : Fin 8) (c : Fin 8) (l : Fin 8) (lead : Fin 8) (d : List Byte) (i : ℕ) (s : State),
      s.Serves (↑p) (↑c) (↑lead) (↑l) i d ∧ descTomb d = false ∧ s.ledgerOld (↑p) d = true) ∧
    (∃ (p : Fin 8) (c : Fin 8) (l : Fin 8) (d : List Byte) (i : ℕ) (s : State),
      s.PortOpen ↑p ∧
        s.portHead ↑l ↑c ↑p = some (i, d) ∧
          (s.readPortHead (↑l) (↑c) i).1 = true ∧ descTomb d = false ∧ s.ledgerOld (↑p) d = false ∧ s.expired (↑p) d = true) ∧
    (∃ (p : Fin 8) (d : List Byte) (i : ℕ) (s : State),
      s.PortOpen ↑p ∧
        s.on (FPT_INJ.EN ↑p) = true ∧
          s.headSlot (s.get (FPT_INJ.QUEUE ↑p)) = some i ∧
            d = s.bytes i 32 ∧
              s.headHeld (s.get (FPT_INJ.QUEUE ↑p)) = false ∧
                s.uncorrectable i 32 = false ∧
                  descTomb d = false ∧ descExt d = false ∧ s.uncorrectable (descAddr d) (descLen d) = false ∧ s.bufferHeld d = false) :=
  ⟨⟨0, frame64, open0, by simp only [State.PortOpen, State.Acts, State.PlainPath, forall_some_iff]; decide +kernel⟩,
   ⟨0, frame64, rule5 1 0, by simp only [State.PortOpen, State.Acts]; decide +kernel⟩,
   ⟨0, frame64, rule5 2 0, by simp only [State.PortOpen, State.Acts, State.PlainPath, forall_some_iff]; decide +kernel⟩,
   ⟨0, frame64, 7, policed, 5, by simp only [State.PortOpen, State.Acts]; decide +kernel⟩,
   ⟨0, frame34, open0, by simp only [State.PortOpen]; decide +kernel⟩,
   ⟨0, frame64, open0, by simp only [State.PortOpen, State.Acts, State.PlainPath, forall_some_iff]; decide +kernel⟩,
   ⟨0, frame64, rule5 1 1, by simp only [State.PortOpen, State.Acts]; decide +kernel⟩,
   ⟨0, 3, core3, open0.setPort 0 { port0 with core := some core3 }, by simp only [State.PortOpen, forall_some_iff]; decide +kernel⟩,
   ⟨0, 3, 3, 3, desc5 false launch9, head100 (queued100 (desc5 false launch9) 4), queued100 (desc5 false launch9) 4, by simp only [serves_iff, State.PortOpen, forall_some_iff]; decide +kernel⟩,
   ⟨0, 3, 3, 3, desc5 true launch9, head100 (queued100 (desc5 true launch9) 4), queued100 (desc5 true launch9) 4, by simp only [serves_iff, State.PortOpen, forall_some_iff]; decide +kernel⟩,
   ⟨0, 3, 3, 3, desc5 false launch9, head100 (queued100 (desc5 false launch9) 5), queued100 (desc5 false launch9) 5, by simp only [serves_iff, State.PortOpen, forall_some_iff]; decide +kernel⟩,
   ⟨0, 3, 3, desc5 false 0, head100 (queued100 (desc5 false 0) 4), queued100 (desc5 false 0) 4, by simp only [State.PortOpen]; decide +kernel⟩,
   ⟨0, desc5 false launch9, head100 (((queued100 (desc5 false launch9) 4).put (FPT_INJ.EN 0) 1).put (FPT_INJ.QUEUE 0) 100), (((queued100 (desc5 false launch9) 4).put (FPT_INJ.EN 0) 1).put (FPT_INJ.QUEUE 0) 100), by simp only [State.PortOpen]; decide +kernel⟩⟩

theorem witness_FrameControl :
    (∃ (p : Fin 8) (o : Origin) (s : State), s.Takes o (FPT_GCTL ↑p) ∧ s.goRefused ↑p = true) ∧
    (∃ (p : Fin 8) (o : Origin) (s : State), s.Takes o (FPT_GCTL ↑p) ∧ s.goRefused ↑p = false) ∧
    (∃ (p : Fin 8) (s : State),
      s.on (FPT_GCTL.PENDING ↑p) = true ∧ s.on CLK_PLLSTAT.TCLKLK = true ∧ s.on CLK_PLLSTAT.CCLKLK = true ∧ (s.port ↑p).nextGates.x ≤ s.now) ∧
    (∃ (p : Fin 8) (o : Origin) (s : State), s.Takes o (FPT_FRW6 (↑p) (s.get (FPT_FRIDX.RULE ↑p))) ∧ (s.port ↑p).ruleWait ≠ none) ∧
    (∃ (p : Fin 8) (o : Origin) (s : State), s.Takes o (FPT_FRW6 (↑p) (s.get (FPT_FRIDX.RULE ↑p))) ∧ (s.port ↑p).ruleWait = none) ∧
    (∃ (p : Fin 8) (s : State) (r : ℕ) (ws : List Word), (s.port ↑p).ruleWait = some (r, ws) ∧ r < 256 ∧ ws.length = 7 ∧ s.flows = []) ∧
    (∃ (p : Fin 8) (o : Origin) (s : State),
      s.Takes o (FPT_FTW3 (↑p) (s.get (FPT_FTIDX.ENTRY ↑p))) ∧
        s.entryClashes (↑p) (s.get (FPT_FTIDX.ENTRY ↑p)) (s.entryWord (↑p) (s.get (FPT_FTIDX.ENTRY ↑p)) 0) = true) ∧
    (∃ (p : Fin 8) (o : Origin) (s : State),
      s.Takes o (FPT_FTW3 (↑p) (s.get (FPT_FTIDX.ENTRY ↑p))) ∧
        s.entryClashes (↑p) (s.get (FPT_FTIDX.ENTRY ↑p)) (s.entryWord (↑p) (s.get (FPT_FTIDX.ENTRY ↑p)) 0) = false) ∧
    (∃ (p : Fin 8) (s : State), s.on CLK_PLLSTAT.TCLKLK = true ∧ s.on CLK_PLLSTAT.CCLKLK = true ∧ (s.port ↑p).refillEdge + 500000 ≤ s.rgl.edge) ∧
    (∃ (s : State), s.ifcOn = true ∧ s.get CLU_STAT.STATE ≠ 0 ∧ s.on CLK_PLLSTAT.TCLKLK = true ∧ s.on CLK_PLLSTAT.CCLKLK = true) ∧
    (∃ (s : State), s.ifcOn = true ∧ s.get CLU_STAT.STATE ≠ 0) ∧
    (∃ (s : State), s.ifcOn = false) ∧
    (∃ (p : Fin 8) (s : State), s.PortOpen ↑p) ∧
    (∃ (p : Fin 8) (s : State),
      s.on (FPT_PTP.LDSRC ↑p) = true ∧
        s.on CLK_PLLSTAT.TCLKLK = true ∧
          s.on CLK_PLLSTAT.CCLKLK = true ∧ (s.port ↑p).delayEdge + 500000 ≤ s.rgl.edge ∧ s.rangeHeld (s.get (FPT_PTP.LDADDR ↑p) / 4 * 4) 4 = false) :=
  ⟨⟨0, .assistant, open0.put (FPT_GLIST.LEN 0) 255, by simp only [takes_iff, forall_some_iff]; decide +kernel⟩,
   ⟨0, .assistant, gates0, by simp only [takes_iff, forall_some_iff]; decide +kernel⟩,
   ⟨0, atTime (10 ^ 9) (after (.go 0 .assistant 0) gates0), by decide +kernel⟩,
   ⟨0, .assistant, open0.setPort 0 { port0 with ruleWait := some (9, [0, 0, 0, 0, 0, 0, 0]) }, by simp only [takes_iff, forall_some_iff]; decide +kernel⟩,
   ⟨0, .assistant, open0, by simp only [takes_iff, forall_some_iff]; decide +kernel⟩,
   ⟨0, open0.setPort 0 { port0 with ruleWait := some (9, [0, 0, 0, 0, 0, 0, 0]) }, 9, [0, 0, 0, 0, 0, 0, 0], by decide +kernel⟩,
   ⟨0, .assistant, (((open0.setPort 0 { port0 with entryHold := [(0, 0x00001007#32)] }).put (FPT_FTIDX.ENTRY 0) 9).put (FPT_FTW0.ROLE 0 4) 1).put (FPT_FTW0.FLOW 0 4) 7, by simp only [takes_iff, forall_some_iff]; decide +kernel⟩,
   ⟨0, .assistant, open0, by simp only [takes_iff, forall_some_iff]; decide +kernel⟩,
   ⟨0, atEdge 600000 open0, by decide +kernel⟩,
   ⟨open0, by decide +kernel⟩,
   ⟨open0, by decide +kernel⟩,
   ⟨{ open0 with ifcOn := false }, by decide +kernel⟩,
   ⟨0, open0, by simp only [State.PortOpen]; decide +kernel⟩,
   ⟨0, atEdge 600000 (open0.put (FPT_PTP.LDSRC 0) 1), by decide +kernel⟩⟩

theorem witness_Front :
    (∃ (c : Fin 3) (n : ℕ) (m : ℕ) (words : List (BitVec 16)) (s : State),
      s.Triggers (↑c) n (List.map (fun (w : BitVec 16) => (if s.on (OCC_CHCFG.FMT ↑c) = true then w ^^^ 32768 else w).toInt) words) ∧
        Steepest (List.map (fun (w : BitVec 16) => (if s.on (OCC_CHCFG.FMT ↑c) = true then w ^^^ 32768 else w).toInt) words)
            (polarity (s.get (OCC_CHCTL.POL ↑c))
              (List.map (fun (w : BitVec 16) => (if s.on (OCC_CHCFG.FMT ↑c) = true then w ^^^ 32768 else w).toInt) words))
            m ∧
          ¬Accepted (List.map (fun (w : BitVec 16) => (if s.on (OCC_CHCFG.FMT ↑c) = true then w ^^^ 32768 else w).toInt) words)
              (polarity (s.get (OCC_CHCTL.POL ↑c))
                (List.map (fun (w : BitVec 16) => (if s.on (OCC_CHCFG.FMT ↑c) = true then w ^^^ 32768 else w).toInt) words))
              m) ∧
    (∃ (c : Fin 3) (n : ℕ) (m : ℕ) (words : List (BitVec 16)) (s : State),
      s.Triggers (↑c) n (List.map (fun (w : BitVec 16) => (if s.on (OCC_CHCFG.FMT ↑c) = true then w ^^^ 32768 else w).toInt) words) ∧
        Steepest (List.map (fun (w : BitVec 16) => (if s.on (OCC_CHCFG.FMT ↑c) = true then w ^^^ 32768 else w).toInt) words)
            (polarity (s.get (OCC_CHCTL.POL ↑c))
              (List.map (fun (w : BitVec 16) => (if s.on (OCC_CHCFG.FMT ↑c) = true then w ^^^ 32768 else w).toInt) words))
            m ∧
          Accepted (List.map (fun (w : BitVec 16) => (if s.on (OCC_CHCFG.FMT ↑c) = true then w ^^^ 32768 else w).toInt) words)
            (polarity (s.get (OCC_CHCTL.POL ↑c))
              (List.map (fun (w : BitVec 16) => (if s.on (OCC_CHCFG.FMT ↑c) = true then w ^^^ 32768 else w).toInt) words))
            m) :=
  ⟨⟨0, 30, 0, dipped, channel0, by simp only [triggers_iff, Steepest, Accepted]; decide +kernel⟩,
   ⟨0, 30, 1, rising 100 900, channel0, by simp only [triggers_iff, Steepest, Accepted]; decide +kernel⟩⟩

theorem witness_Channel :
    (∃ (c : Fin 3) (o : Origin) (s : State), s.Takes o (OCC_CHCTL ↑c) ∧ s.ringOf o = some 2 ∧ s.on (OCC_CHCFG.HOSTW ↑c) = false) ∧
    (∃ (c : Fin 3) (o : Origin) (s : State), s.Takes o (OCC_CHCTL ↑c) ∧ ¬(s.ringOf o = some 2 ∧ s.on (OCC_CHCFG.HOSTW ↑c) = false)) ∧
    (∃ (c : Fin 3) (s : State), s.get (OCC_CHSTAT.STATE ↑c) = 1 ∧ s.on CLK_PLLSTAT.TCLKLK = true ∧ s.on CLK_PLLSTAT.CCLKLK = true) ∧
    (∃ (c : Fin 3) (s : State),
      s.get (OCC_CHSTAT.STATE ↑c) = 2 ∧
        s.on CLK_PLLSTAT.TCLKLK = true ∧
          s.on CLK_PLLSTAT.CCLKLK = true ∧
            ((s.stampPoint (112 + ↑c)).riseAt.getD 0 + 1600 ≤ 32 * s.rgl.edge ∧ 32 * (s.channel ↑c).runEdge + 1600 ≤ 32 * s.rgl.edge ∨
              (s.channel ↑c).edges ≠ [] ∧ (s.get (OCC_CHSTAT.FCPER ↑c) < 192 ∨ 409 < s.get (OCC_CHSTAT.FCPER ↑c)))) ∧
    (∃ (c : Fin 3) (f : Front) (s : State),
      (s.channel ↑c).front = some f ∧
        s.on CLK_PLLSTAT.TCLKLK = true ∧
          s.on CLK_PLLSTAT.CCLKLK = true ∧
            ¬(s.get (OCC_CHCTL.MODE ↑c) = 1 ∨
                s.get (OCC_CHCTL.MODE ↑c) = 2 ∧
                  s.on (OCC_CHCTL.WARM ↑c) = true ∧
                    ofTime96 (s.reg (OCC_WOPEN (↑c) 2) ++ s.reg (OCC_WOPEN (↑c) 1) ++ s.reg (OCC_WOPEN (↑c) 0)) ≤ f.at_ ∧
                      f.at_ < ofTime96 (s.reg (OCC_WCLOSE (↑c) 2) ++ s.reg (OCC_WCLOSE (↑c) 1) ++ s.reg (OCC_WCLOSE (↑c) 0)))) ∧
    (∃ (c : Fin 3) (f : Front) (s : State),
      (s.channel ↑c).front = some f ∧
        s.on CLK_PLLSTAT.TCLKLK = true ∧
          s.on CLK_PLLSTAT.CCLKLK = true ∧
            (s.get (OCC_CHCTL.MODE ↑c) = 1 ∨
              s.get (OCC_CHCTL.MODE ↑c) = 2 ∧
                s.on (OCC_CHCTL.WARM ↑c) = true ∧
                  ofTime96 (s.reg (OCC_WOPEN (↑c) 2) ++ s.reg (OCC_WOPEN (↑c) 1) ++ s.reg (OCC_WOPEN (↑c) 0)) ≤ f.at_ ∧
                    f.at_ < ofTime96 (s.reg (OCC_WCLOSE (↑c) 2) ++ s.reg (OCC_WCLOSE (↑c) 1) ++ s.reg (OCC_WCLOSE (↑c) 0)))) ∧
    (∃ (c : Fin 3) (o : Origin) (v : Word) (s : State),
      s.Takes o (OCC_CHCTL ↑c) ∧ ¬(s.ringOf o = some 2 ∧ s.on (OCC_CHCFG.HOSTW ↑c) = false) ∧ BitVec.getLsbD v 0 = false) ∧
    (∃ (c : Fin 3) (s : State),
      s.on (OCC_CHCTL.WARM ↑c) = true ∧
        s.on CLK_PLLSTAT.TCLKLK = true ∧
          s.on CLK_PLLSTAT.CCLKLK = true ∧
            ofTime96 (s.reg (OCC_WCLOSE (↑c) 2) ++ s.reg (OCC_WCLOSE (↑c) 1) ++ s.reg (OCC_WCLOSE (↑c) 0)) + 65536000 ≤ s.now) ∧
    (∃ (c : Fin 3) (o : Origin) (s : State), s.Takes o (OCC_CHCFG ↑c) ∧ s.get (OCC_CHSTAT.STATE ↑c) ≠ 0) ∧
    (∃ (c : Fin 3) (o : Origin) (s : State), s.Takes o (OCC_CHCFG ↑c) ∧ s.get (OCC_CHSTAT.STATE ↑c) = 0) :=
  ⟨⟨0, .host, open0, by simp only [takes_iff, forall_some_iff]; decide +kernel⟩,
   ⟨0, .assistant, open0, by simp only [takes_iff, forall_some_iff]; decide +kernel⟩,
   ⟨0, open0.put (OCC_CHSTAT.STATE 0) 1, by decide +kernel⟩,
   ⟨0, atEdge 100 (open0.put (OCC_CHSTAT.STATE 0) 2), by decide +kernel⟩,
   ⟨0, front0, fronted 0, by decide +kernel⟩,
   ⟨0, front0, fronted 1, by decide +kernel⟩,
   ⟨0, .assistant, 0xFFFFFFFE, open0, by simp only [takes_iff, forall_some_iff]; decide +kernel⟩,
   ⟨0, atTime (10 ^ 12) ((open0.setReg (OCC_WCLOSE 0 1) 5).put (OCC_CHCTL.WARM 0) 1), by decide +kernel⟩,
   ⟨0, .assistant, open0.put (OCC_CHSTAT.STATE 0) 1, by simp only [takes_iff, forall_some_iff]; decide +kernel⟩,
   ⟨0, .assistant, open0, by simp only [takes_iff, forall_some_iff]; decide +kernel⟩⟩

theorem witness_MailboxChecks :
    (∃ (r : MailRow) (c : MailCommand) (s : State), r ∈ mailRows ∧ s.Executes c r.code ∧ r.ring s < c.ring) ∧
    (∃ (r : MailRow) (c : MailCommand) (s : State), r ∈ mailRows ∧ s.Executes c r.code ∧ c.ring ≤ r.ring s ∧ ¬r.runs s) ∧
    (∃ (r : MailRow) (c : MailCommand) (s : State), r ∈ mailRows ∧ s.Executes c r.code ∧ c.ring ≤ r.ring s ∧ r.runs s ∧ ¬r.zeros s) ∧
    (∃ (r : MailRow) (c : MailCommand) (s : State), r ∈ mailRows ∧ s.Executes c r.code ∧ c.ring ≤ r.ring s ∧ r.runs s ∧ s.mailArgs r.code = false) ∧
    (∃ (r : MailRow) (c : MailCommand) (s : State),
      r ∈ mailRows ∧
        s.Executes c r.code ∧ c.ring ≤ r.ring s ∧ r.runs s ∧ r.zeros s ∧ s.mailArgs r.code = true ∧ r.changes = true ∧ s.logRefuses c.origin = true) ∧
    (∃ (r : MailRow) (c : MailCommand) (s : State),
      r ∈ mailRows ∧
        s.Executes c r.code ∧
          c.ring ≤ r.ring s ∧
            r.runs s ∧ r.zeros s ∧ s.mailArgs r.code = true ∧ (r.changes = true → s.logRefuses c.origin = false) ∧ s.mailHeld r.code = true) ∧
    (∃ (c : MailCommand) (s : State), s.Executes c c.code ∧ ∀ r ∈ mailRows, r.code ≠ c.code) :=
  ⟨⟨mailRows[10], ring2 (hostCommand 0x40), { mailed 0x40 [3] with assistant := { (mailed 0x40 [3]).assistant with command := some (ring2 (hostCommand 0x40)) } }, ⟨List.getElem_mem _, by simp only [executes_iff]; decide +kernel⟩⟩,
   ⟨mailRows[10], hostCommand 0x40, mailed 0x40 [3] (live.put CLU_STAT.STATE 2), ⟨List.getElem_mem _, by simp only [executes_iff]; decide +kernel⟩⟩,
   ⟨mailRows[10], hostCommand 0x40, mailed 0x40 [3, 1], ⟨List.getElem_mem _, by simp only [executes_iff]; decide +kernel⟩⟩,
   ⟨mailRows[10], hostCommand 0x40, mailed 0x40 [13], ⟨List.getElem_mem _, by simp only [executes_iff]; decide +kernel⟩⟩,
   ⟨mailRows[10], hostCommand 0x40, mailed 0x40 [3] strictFull, ⟨List.getElem_mem _, by simp only [executes_iff]; decide +kernel⟩⟩,
   ⟨mailRows[2], hostCommand 0x11, mailed 0x11 [0x90000, 216] (lcs3.put (PLT_OWN.PEND 9) 1), List.getElem_mem _, by simp only [executes_iff]; decide +kernel⟩,
   ⟨hostCommand 0x13, mailed 0x13 [], by simp only [executes_iff]; decide +kernel⟩⟩

/-- No register of a Finder rule is listed. -/
theorem full5_rules : full5.regs.all (fun x => decide (x.1 < 0x1040000) || decide (0x1050000 ≤ x.1)) = true := by decide +kernel

/-- No rule of a port feeds a plate. -/
theorem full5_rho (k : Nat) : full5.rho k = 0 := by
  have h : ∀ p < 8, ∀ r < 256, full5.ruleFeeds p k r = false := fun p hp r hr => by
    have h0 : full5.reg (FPT_FRW5 p r) = 0 := by
      rw [reg_unlisted fun x hx => ?_, banked_zero (by unfold FPT_FRW5; omega) (by unfold FPT_FRW5; omega)]
      have := List.all_eq_true.mp full5_rules x hx
      simp only [Bool.or_eq_true, decide_eq_true_eq] at this
      unfold FPT_FRW5
      omega
    have h1 : full5.get (FPT_FRW5.ACT p r) = 0 := by simp only [State.get, FPT_FRW5.ACT, h0]; rfl
    simp [State.ruleFeeds, h1]
  have h2 : ((List.range 8).filter fun p => (List.range 256).any (full5.ruleFeeds p k)) = [] := by
    simp only [List.filter_eq_nil_iff, List.mem_range, List.any_eq_true, not_exists, not_and]
    exact fun p hp r hr => by simp [h p hp r hr]
  simp [State.rho, h2]

/-- What the verifier reads of flow 5. -/
theorem full5_plain : full5.poolPlate (full5.get (FPT_FRW5.POOL (full5.flowSrcobj 5) (full5.flowRule 5))) = 0 ∧ full5.flowSrck 5 = 0 ∧
    full5.flowSrcobj 5 = 0 ∧ full5.plateDuty 0 = 0 ∧ full5.flowStepCount 5 = 1 ∧ full5.ringWait (full5.flowInq 5) = some 4 ∧
    full5.flowLmin 5 = 64 ∧ full5.flowLmax 5 = 64 ∧ full5.macRx = 0 ∧ full5.bitTenths 0 = 1 := by decide +kernel

/-- The source term of a frame flow whose plate no rule feeds and whose owner takes none of its ticks. -/
theorem sourceTerm_idle {s : State} {f k o n m r : Nat} (h0 : s.flowSrck f = 0) (ho : s.flowSrcobj f = o)
    (hk : s.poolPlate (s.get (FPT_FRW5.POOL o (s.flowRule f))) = k) (hr : s.rho k = 0) (ha : s.plateDuty k = 0)
    (hq : s.ringWait (s.flowInq f) = some r) (hn : s.flowLmax f = n) (hm : s.flowLmin f = m) :
    s.sourceTerm f = .ok ⟨1, some o, nsTicks s.macRx + tenthTicks (8 * n * s.bitTenths o) + 1 + (2 + r),
      nsTicks s.macRx + tenthTicks (8 * m * s.bitTenths o) + 7⟩ := by
  have hd : s.drains k = true := by simp [State.drains, hr, ha]
  have hc : s.waitWords k (s.copyWords k) = some 1 := by simp [State.waitWords, State.copyWords, hr, ha, divUp]
  simp [State.sourceTerm, h0, ho, hk, hd, hc, hq, hn, hm, boundTerm, addBound]

/-- What a step of no cost adds to a busy period of w. -/
def idleLoad (s : State) (f w : Nat) : Option Nat := (s.eta f w).map fun n => n * 7 + s.etaX f w * 7

/-- A flow of one step, alone, whose path takes no time and whose source term has no spread, verifies where its busy period settles
and the bound is within the deadline. -/
theorem verify_idle {s : State} {f e l w d : Nat} {t b : BoundTerm} {a : List Word} (hn : s.flowStepCount f = 1) (ht : s.sourceTerm f = .ok t)
    (hs : t.most = t.least) (ha : s.plan.annot f 0 = some a) (zero : annotNbulk a = 0 ∧ annotC a = 0 ∧ annotCx a = 0) (he : s.stepEng f 0 = e) (hl : s.stepLvl f 0 = l)
    (hh : s.holdOf s.plan e = 0) (hd : s.deadlineTicks f = d) (hw : leastSolution (idleLoad s f) d (d + 2) 0 = some w)
    (hb : ∀ n, s.destTerm [f] f n = .ok b) (hf : s.stepFixed s.plan f 0 + w + t.most + b.most ≤ d)
    (hc : s.spareChecks [f] (List.range 12) = .ok ()) : ∃ v, s.verify [f] = .ok v := by
  have terms : ∀ x, s.termsOf s.plan x f = .ok [t, s.stepTerm s.plan f 0 (x.step f 0)] := fun x => by
    simp [State.termsOf, hn, State.termsBefore, ht, Except.map]
  have jitter : ∀ x, s.jitter s.plan x f 0 = 0 := fun x => by
    simp [State.jitter, State.termsBefore, ht, Except.map, spreadOf, hs]
  have hsteps : s.stepsOf [f] = [(f, 0)] := by simp [State.stepsOf, hn]
  have hhops : s.hopsOf [f] = [] := by simp [State.hopsOf, hn]
  have busy : ∀ x, s.busySum s.plan x [f] e l = idleLoad s f := fun x => funext fun v => by
    have : s.stepLoad s.plan x f 0 v = idleLoad s f v := by
      simp only [State.stepLoad, ha, jitter, Nat.add_zero, idleLoad, State.bulkTicks]
      cases s.eta f v <;> simp [zero]
    simp only [State.busySum, hsteps, he, hl, hh, List.filter_cons, List.filter_nil, beq_self_eq_true, Nat.le_refl, decide_true,
      Bool.and_self, if_true, List.map_cons, List.map_nil, this, sumBounds, List.foldl_cons, List.foldl_nil, addBound]
    cases idleLoad s f v <;> simp
  have round : ∀ x, s.round s.plan [f] x = .ok ⟨tset (fun _ => 0) [] (4 * f + 0) w, []⟩ := fun x => by
    have : s.busyPeriod s.plan x [f] f 0 = .ok w := by simp [State.busyPeriod, he, hl, hh, hd, busy, hw]
    simp [State.round, hsteps, hhops, collectPeriods, this]
  have rounds : ∀ n, s.rounds s.plan [f] (n + 2) ⟨[], []⟩ = .ok ⟨tset (fun _ => 0) [] (4 * f + 0) w, []⟩ := fun n => by
    simp only [State.rounds, round]
    split <;> simp_all
  have check : s.staticCheck s.plan [f] = .ok () := by
    simp [State.staticCheck, terms, hn, ha, State.bulkTicks, zero]
  have step : (Periods.mk (tset (fun _ => 0) [] (4 * f + 0) w) []).step f 0 = w := by simp [Periods.step, tget_tset]
  simp only [State.verify, State.proves, State.periods, check, show 2 ^ 48 = 281474976710654 + 2 from rfl, rounds, State.boundsOf,
    State.boundOf, terms, step, hb, hc]
  simp only [State.stepTerm, hd, List.map_cons, List.map_nil, List.foldl_cons, List.foldl_nil, Nat.zero_add]
  rw [if_neg (by omega)]
  exact ⟨_, rfl⟩

/-- So flow 5 verifies where port 0 is full. -/
theorem full5_verifies : ∃ v, full5.verify [5] = .ok v := by
  obtain ⟨h1, h2, h3, h4, h5, h6, h7, h8, h9, h10⟩ := full5_plain
  have hb : ∀ n, full5.destTerm [5] 5 n = .ok ⟨5, none, 6, 6⟩ := fun n => by
    have hq : full5.flowDstk 5 = 0 ∧ full5.ringWait (full5.flowDstobj 5) = some 4 := by decide +kernel
    simp [State.destTerm, hq, boundTerm]
  refine verify_idle h5 (sourceTerm_idle h2 h3 (h3 ▸ h1) (full5_rho 0) h4 h6 h8 h7) ?_ (a := [0, 0, 0, 0]) (e := 0) (l := 0) (w := 16107)
    (d := 800000) ?_ ?_ ?_ ?_ ?_ ?_ ?_ hb ?_ ?_
  · decide
  · decide +kernel
  · decide
  · decide +kernel
  · decide +kernel
  · decide +kernel
  · decide +kernel
  · decide +kernel
  · rw [h9, h10]
    have : full5.stepFixed full5.plan 5 0 = 16 := by decide +kernel
    rw [this]
    decide
  · decide +kernel

/-- A verdict writes no entry of a flow table and no flow. -/
theorem putVerdicts_entry (vs : List Verdict) {k : Nat} (hk : k < 512) (s : State) :
    (s.putVerdicts vs).reg (FPT_FTW0 0 k) = s.reg (FPT_FTW0 0 k) ∧ (s.putVerdicts vs).flows = s.flows := by
  induction vs generalizing s with
  | nil => exact ⟨rfl, rfl⟩
  | cons v vs ih =>
    refine ⟨(ih _).1.trans ?_, (ih _).2⟩
    simp only [State.putVerdict, State.reg_put, State.reg_setReg, FPT_FTW0, ADM_FSTATE.TERM, ADM_FSTATE.REFUSED, ADM_FSTATE.LASTRES,
      ADM_FSTATE, ADM_FBOUND, AST_OT4.DBUD, AST_OT4]
    simp only [show ∀ f, ¬ 0x1070000 + 0x2000 * 0 + 0x10 * k = 0x10B0000 + 0x8 * f by omega,
      show ∀ f, ¬ 0x1070000 + 0x2000 * 0 + 0x10 * k = 0x10B0004 + 0x8 * f by omega,
      show ∀ f, ¬ 0x1070000 + 0x2000 * 0 + 0x10 * k = 0x10C0010 + 0x20 * f by omega, if_false]

/-- Every entry of port 0 has a role. -/
theorem full5_entry : ∀ k < 512, full5.reg (FPT_FTW0 0 k) = 0x1000 := by decide +kernel

/-- So no entry of port 0 is free, and flow 5 has none there. -/
theorem full5_none (vs : List Verdict) : (full5.putVerdicts vs).createEntries 5 = none := by
  have h : ∀ k < 512, (full5.putVerdicts vs).reg (FPT_FTW0 0 k) = 0x1000 := fun k hk =>
    (putVerdicts_entry vs hk full5).1.trans (full5_entry k hk)
  have hw : ∀ i, (full5.putVerdicts vs).flowWord 5 i = full5.flowWord 5 i := fun i => by
    simp only [State.flowWord, State.flow, (putVerdicts_entry vs (k := 0) (by omega) full5).2]
  have hs : (full5.putVerdicts vs).flowSrck 5 = 0 ∧ (full5.putVerdicts vs).flowSrcobj 5 = 0 := by
    simp only [State.flowSrck, State.flowSrcobj, hw]
    decide +kernel
  have hp : (full5.putVerdicts vs).portEntry 0 1 5 = none := by
    simp only [State.portEntry, List.find?_eq_none, List.mem_range]
    intro k hk
    simp only [State.get, FPT_FTW0.ROLE, FPT_FTW0.FLOW, h k hk]
    decide
  have hf : (full5.putVerdicts vs).freeEntry 0 = none := by
    simp only [State.freeEntry, List.find?_eq_none, List.mem_range]
    intro k hk
    simp only [State.get, FPT_FTW0.ROLE, h k hk]
    decide
  simp [State.createEntries, State.createEntry, hs, hp, hf]

theorem witness_MailFlows :
    (∃ (c : MailCommand) (s : State), s.Passes c 0) ∧
    (∃ (c : MailCommand) (s : State), s.Passes c 32 ∧ (∀ g ∈ s.flowNumbers, g < 4096) ∧ s.flowState (BitVec.toNat (s.reg (AST_MBOX_ARG 0))) = 0) ∧
    (∃ (c : MailCommand) (s : State),
      s.Passes c 32 ∧
        (∀ g ∈ s.flowNumbers, g < 4096) ∧
          s.flowState (BitVec.toNat (s.reg (AST_MBOX_ARG 0))) ≠ 0 ∧ s.flowState (BitVec.toNat (s.reg (AST_MBOX_ARG 0))) ≠ 1) ∧
    (∃ (c : MailCommand) (s : State) (e : Failure),
      s.Passes c 32 ∧
        (∀ g ∈ s.flowNumbers, g < 4096) ∧
          s.flowState (BitVec.toNat (s.reg (AST_MBOX_ARG 0))) = 1 ∧ s.verify (BitVec.toNat (s.reg (AST_MBOX_ARG 0)) :: s.activeFlows) = Except.error e) ∧
    (∃ (c : MailCommand) (s : State) (vs : List Verdict),
      s.Passes c 32 ∧
        (∀ g ∈ s.flowNumbers, g < 4096) ∧
          s.flowState (BitVec.toNat (s.reg (AST_MBOX_ARG 0))) = 1 ∧
            s.verify (BitVec.toNat (s.reg (AST_MBOX_ARG 0)) :: s.activeFlows) = Except.ok vs ∧
              (s.putVerdicts vs).createEntries (BitVec.toNat (s.reg (AST_MBOX_ARG 0))) = none) ∧
    (∃ (c : MailCommand) (s : State) (vs : List Verdict),
      s.Passes c 32 ∧
        (∀ g ∈ s.flowNumbers, g < 4096) ∧
          s.flowState (BitVec.toNat (s.reg (AST_MBOX_ARG 0))) = 1 ∧
            s.verify (BitVec.toNat (s.reg (AST_MBOX_ARG 0)) :: s.activeFlows) = Except.ok vs ∧
              (s.putVerdicts vs).createEntries (BitVec.toNat (s.reg (AST_MBOX_ARG 0))) ≠ none) ∧
    (∃ (c : MailCommand) (s : State), s.Passes c 33 ∧ (∀ g ∈ s.flowNumbers, g < 4096) ∧ s.flowState (BitVec.toNat (s.reg (AST_MBOX_ARG 0))) = 0) ∧
    (∃ (c : MailCommand) (s : State),
      s.Passes c 33 ∧
        (∀ g ∈ s.flowNumbers, g < 4096) ∧
          s.flowState (BitVec.toNat (s.reg (AST_MBOX_ARG 0))) ≠ 0 ∧ s.flowState (BitVec.toNat (s.reg (AST_MBOX_ARG 0))) ≠ 2) ∧
    (∃ (c : MailCommand) (s : State), s.Passes c 33 ∧ (∀ g ∈ s.flowNumbers, g < 4096) ∧ s.flowState (BitVec.toNat (s.reg (AST_MBOX_ARG 0))) = 2) ∧
    (∃ (c : MailCommand) (s : State), s.Passes c 34) ∧
    (∃ (c : MailCommand) (s : State), s.Passes c 48) ∧
    (∃ (c : MailCommand) (s : State),
      s.Passes c 49 ∧
        (s.grantAllowed (BitVec.toNat (s.reg (AST_MBOX_ARG 0)) % 16) s.argCap = false ∨
          s.grantClashes (BitVec.toNat (s.reg (AST_MBOX_ARG 0)) % 16) (s.issued s.argCap) = true)) ∧
    (∃ (c : MailCommand) (s : State),
      s.Passes c 49 ∧
        s.grantAllowed (BitVec.toNat (s.reg (AST_MBOX_ARG 0)) % 16) s.argCap = true ∧
          s.grantClashes (BitVec.toNat (s.reg (AST_MBOX_ARG 0)) % 16) (s.issued s.argCap) = false) ∧
    (∃ (c : MailCommand) (s : State),
      s.Passes c 50 ∧
        ∀ (p : ℕ),
          capEntryAt (BitVec.toNat (s.reg (AST_MBOX_ARG 0)) % 16) (BitVec.toNat (s.reg (AST_MBOX_ARG 0)) / 16) = some p → s.uncorrectable p 4 = false) ∧
    (∃ (c : MailCommand) (s : State),
      s.Passes c 113 ∧
        ¬(1 ≤ BitVec.toNat (s.reg LOG_HEAD - s.reg (AST_MBOX_ARG 0)) ∧
            BitVec.toNat (s.reg LOG_HEAD - s.reg (AST_MBOX_ARG 0)) ≤ 1024 ∧
              BitVec.toNat (s.reg LOG_HEAD - s.reg (AST_MBOX_ARG 0)) ≤ BitVec.toNat (s.reg LOG_HEAD - s.reg LOG_BASE))) ∧
    (∃ (c : MailCommand) (s : State),
      s.Passes c 113 ∧
        (1 ≤ BitVec.toNat (s.reg LOG_HEAD - s.reg (AST_MBOX_ARG 0)) ∧
            BitVec.toNat (s.reg LOG_HEAD - s.reg (AST_MBOX_ARG 0)) ≤ 1024 ∧
              BitVec.toNat (s.reg LOG_HEAD - s.reg (AST_MBOX_ARG 0)) ≤ BitVec.toNat (s.reg LOG_HEAD - s.reg LOG_BASE)) ∧
          s.uncorrectable (32 * (BitVec.toNat (s.reg (AST_MBOX_ARG 0)) % 1024)) 32 = false) ∧
    (∃ (c : MailCommand) (s : State),
      s.Passes c 113 ∧
        (1 ≤ BitVec.toNat (s.reg LOG_HEAD - s.reg (AST_MBOX_ARG 0)) ∧
            BitVec.toNat (s.reg LOG_HEAD - s.reg (AST_MBOX_ARG 0)) ≤ 1024 ∧
              BitVec.toNat (s.reg LOG_HEAD - s.reg (AST_MBOX_ARG 0)) ≤ BitVec.toNat (s.reg LOG_HEAD - s.reg LOG_BASE)) ∧
          s.uncorrectable (32 * (BitVec.toNat (s.reg (AST_MBOX_ARG 0)) % 1024)) 32 = true) :=
  ⟨⟨hostCommand 0x00, mailed 0x00 [], by simp only [passes_iff, executes_iff]; decide +kernel⟩,
   ⟨hostCommand 0x20, mailed 0x20 [5], by simp only [passes_iff, executes_iff]; decide +kernel⟩,
   ⟨hostCommand 0x20, mailed 0x20 [5] (live.put (ADM_FSTATE.STATE 5) 2), by simp only [passes_iff, executes_iff]; decide +kernel⟩,
   ⟨hostCommand 0x20, mailed 0x20 [5] (flow5 [] 1), { flow := 5, code := 3, arg := some 0 }, by simp only [passes_iff, executes_iff]; decide +kernel⟩,
   by
   obtain ⟨v, h⟩ := full5_verifies
   have h5 : (full5.reg (AST_MBOX_ARG 0)).toNat = 5 ∧ full5.activeFlows = [] := by decide +kernel
   exact ⟨hostCommand 0x20, full5, v, by simp only [passes_iff, executes_iff]; decide +kernel, by decide +kernel, by decide +kernel,
     by rw [h5.1, h5.2]; exact h, by rw [h5.1]; exact full5_none v⟩,
   by
   obtain ⟨v, h, h'⟩ := exists_ok (x := admitted5.verify ((admitted5.reg (AST_MBOX_ARG 0)).toNat :: admitted5.activeFlows))
     (fun v => decide ((admitted5.putVerdicts v).createEntries (admitted5.reg (AST_MBOX_ARG 0)).toNat ≠ none)) (by decide +kernel)
   exact ⟨hostCommand 0x20, admitted5, v, by simp only [passes_iff, executes_iff]; decide +kernel, by decide +kernel, by decide +kernel, h, of_decide_eq_true h'⟩,
   ⟨hostCommand 0x21, mailed 0x21 [5], by simp only [passes_iff, executes_iff]; decide +kernel⟩,
   ⟨hostCommand 0x21, mailed 0x21 [5] (live.put (ADM_FSTATE.STATE 5) 1), by simp only [passes_iff, executes_iff]; decide +kernel⟩,
   ⟨hostCommand 0x21, mailed 0x21 [5] (live.put (ADM_FSTATE.STATE 5) 2), by simp only [passes_iff, executes_iff]; decide +kernel⟩,
   ⟨hostCommand 0x22, mailed 0x22 [5], by simp only [passes_iff, executes_iff]; decide +kernel⟩,
   ⟨hostCommand 0x30, mailed 0x30 [0x41], by simp only [passes_iff, executes_iff]; decide +kernel⟩,
   ⟨hostCommand 0x31, mailed 0x31 [0x10, 1, 0, 0, 0], by simp only [passes_iff, executes_iff]; decide +kernel⟩,
   ⟨hostCommand 0x31, mailed 0x31 [0x10, 0, 0, 0, 0], by simp only [passes_iff, executes_iff]; decide +kernel⟩,
   ⟨hostCommand 0x32, mailed 0x32 [0x42] (live.setEntry 2 4 7 false), by simp only [passes_iff, executes_iff, forall_some_iff]; decide +kernel⟩,
   ⟨hostCommand 0x71, mailed 0x71 [0], by simp only [passes_iff, executes_iff]; decide +kernel⟩,
   ⟨hostCommand 0x71, mailed 0x71 [2] (live.setReg LOG_HEAD 3), by simp only [passes_iff, executes_iff]; decide +kernel⟩,
   ⟨hostCommand 0x71, { mailed 0x71 [2] (live.setReg LOG_HEAD 3) with ecc := [(8, 2)] }, by simp only [passes_iff, executes_iff]; decide +kernel⟩⟩

theorem witness_MailImages :
    (∃ (c : MailCommand) (s : State), s.Passes c 16 ∧ ∀ g ∈ s.flowNumbers, g < 4096) ∧
    (∃ (s : State), s.assistant.loadAsked = true ∧ s.pairRuns = true ∧ ∀ f ∈ s.flowNumbers, s.flowDrained f = true ∧ (s.flow f).asked ≠ 2) ∧
    (∃ (c : MailCommand) (s : State), s.Passes c 17 ∧ 3670016 < BitVec.toNat (s.reg (AST_MBOX_ARG 1))) ∧
    (∃ (c : MailCommand) (s : State) (img : List Byte) (u : State) (e : LoadError),
      s.Passes c 17 ∧ s.tickBegins.mailImage = (some img, u) ∧ u.otherResult.2.tryAmend img u.otherResult.1 = Except.error e ∧ e.result < 256) ∧
    (∃ (c : MailCommand) (s : State) (img : List Byte) (u : State) (l : Loaded),
      s.Passes c 17 ∧
        s.tickBegins.mailImage = (some img, u) ∧
          u.otherResult.2.tryAmend img u.otherResult.1 = Except.ok l ∧ l.state.assistant = s.assistant ∧ l.state.reg AST_MBOX_STAT = s.reg AST_MBOX_STAT) ∧
    (∃ (c : MailCommand) (s : State), s.Passes c 18 ∧ BitVec.toNat (s.reg (AST_MBOX_ARG 2)) = 1) ∧
    (∃ (c : MailCommand) (s : State), s.Passes c 18 ∧ BitVec.toNat (s.reg (AST_MBOX_ARG 2)) = 1 ∧ BitVec.toNat (s.reg (AST_MBOX_ARG 1)) ≤ 3670016) :=
  ⟨⟨hostCommand 0x10, mailed 0x10 [], by simp only [passes_iff, executes_iff]; decide +kernel⟩,
   ⟨{ live with assistant := { live.assistant with loadAsked := true } }, by decide +kernel⟩,
   ⟨hostCommand 0x11, mailed 0x11 [0, 0x400000] (allHost), by simp only [passes_iff, executes_iff]; decide +kernel⟩,
   by
   obtain ⟨e, h, h'⟩ := exists_error (x := badAmend.tickBegins.otherResult.2.tryAmend (badAmend.bytes 0x90000 0x40) badAmend.tickBegins.otherResult.1)
     (fun e => decide (e.result < 256)) (by decide +kernel)
   exact ⟨hostCommand 0x11, badAmend, badAmend.bytes 0x90000 0x40, badAmend.tickBegins, e,
     by simp only [passes_iff, executes_iff]; decide +kernel, by decide +kernel, h, of_decide_eq_true h'⟩,
   by
   obtain ⟨l, h1, h2, h3⟩ := amend_applies
   exact ⟨hostCommand 0x11, amending, amendImage, amending.tickBegins, l, by simp only [passes_iff, executes_iff]; decide +kernel, by decide +kernel, h1, h2, h3⟩,
   ⟨hostCommand 0x12, mailed 0x12 [0x90000, 0x40, 1], by simp only [passes_iff, executes_iff]; decide +kernel⟩,
   ⟨hostCommand 0x12, mailed 0x12 [0x90000, 0x40, 1], by simp only [passes_iff, executes_iff]; decide +kernel⟩⟩

theorem witness_MailDevices :
    (∃ (c : MailCommand) (s : State), s.Passes c 64 ∧ s.spareOf (BitVec.toNat (s.reg (AST_MBOX_ARG 0))) = none) ∧
    (∃ (c : MailCommand) (s : State) (sp : ℕ),
      s.Passes c 64 ∧
        s.spareOf (BitVec.toNat (s.reg (AST_MBOX_ARG 0))) = some sp ∧ sp ≠ BitVec.toNat (s.reg (AST_MBOX_ARG 0)) ∧ s.asst.contains (240 + sp) = false) ∧
    (∃ (c : MailCommand) (s : State) (sp : ℕ),
      s.Passes c 64 ∧
        s.spareOf (BitVec.toNat (s.reg (AST_MBOX_ARG 0))) = some sp ∧ sp ≠ BitVec.toNat (s.reg (AST_MBOX_ARG 0)) ∧ s.asst.contains (240 + sp) = true) ∧
    (∃ (c : MailCommand) (s : State), s.Passes c 65 ∧ s.upgradeFits (BitVec.toNat (s.reg (AST_MBOX_ARG 0))) (BitVec.toNat (s.reg (AST_MBOX_ARG 1))) = false) ∧
    (∃ (c : MailCommand) (s : State),
      s.Passes c 65 ∧
        s.upgradeFits (BitVec.toNat (s.reg (AST_MBOX_ARG 0))) (BitVec.toNat (s.reg (AST_MBOX_ARG 1))) = true ∧
          s.upgradeProven (BitVec.toNat (s.reg (AST_MBOX_ARG 0))) (BitVec.toNat (s.reg (AST_MBOX_ARG 1))) = false) ∧
    (∃ (c : MailCommand) (s : State),
      s.Passes c 65 ∧
        s.upgradeFits (BitVec.toNat (s.reg (AST_MBOX_ARG 0))) (BitVec.toNat (s.reg (AST_MBOX_ARG 1))) = true ∧
          s.upgradeProven (BitVec.toNat (s.reg (AST_MBOX_ARG 0))) (BitVec.toNat (s.reg (AST_MBOX_ARG 1))) = true) ∧
    (∃ (c : MailCommand) (s : State), s.Passes c 80 ∧ ¬(s.get SEC_LCS.STATE = 2 ∨ s.get SEC_LCS.STATE = 3)) ∧
    (∃ (c : MailCommand) (s : State),
      s.Passes c 80 ∧ (s.get SEC_LCS.STATE = 2 ∨ s.get SEC_LCS.STATE = 3) ∧ s.slotFull (BitVec.toNat (s.reg (AST_MBOX_ARG 0))) = true) ∧
    (∃ (c : MailCommand) (s : State),
      s.Passes c 80 ∧ (s.get SEC_LCS.STATE = 2 ∨ s.get SEC_LCS.STATE = 3) ∧ s.slotFull (BitVec.toNat (s.reg (AST_MBOX_ARG 0))) = false) ∧
    (∃ (c : MailCommand) (s : State), s.Passes c 81 ∧ ¬(s.get SEC_LCS.STATE = 2 ∨ s.get SEC_LCS.STATE = 3)) ∧
    (∃ (c : MailCommand) (s : State),
      s.Passes c 81 ∧ (s.get SEC_LCS.STATE = 2 ∨ s.get SEC_LCS.STATE = 3) ∧ s.slotFull (BitVec.toNat (s.reg (AST_MBOX_ARG 0))) = true) ∧
    (∃ (c : MailCommand) (s : State),
      s.Passes c 81 ∧
        (s.get SEC_LCS.STATE = 2 ∨ s.get SEC_LCS.STATE = 3) ∧
          s.slotFull (BitVec.toNat (s.reg (AST_MBOX_ARG 0))) = false ∧
            s.uncorrectable (BitVec.toNat (s.reg (AST_MBOX_ARG 2))) 8 = false ∧
              (blobGood (s.bytes (BitVec.toNat (s.reg (AST_MBOX_ARG 2))) 8) (BitVec.toNat (s.reg (AST_MBOX_ARG 1))) = false ∨
                s.hostBytes (BitVec.toNat (s.reg (AST_MBOX_ARG 2))) (blobBytes (s.bytes (BitVec.toNat (s.reg (AST_MBOX_ARG 2))) 8)) = false)) ∧
    (∃ (c : MailCommand) (s : State) (r : ℕ),
      s.Passes c 81 ∧
        (s.get SEC_LCS.STATE = 2 ∨ s.get SEC_LCS.STATE = 3) ∧
          s.slotFull (BitVec.toNat (s.reg (AST_MBOX_ARG 0))) = false ∧
            s.uncorrectable (BitVec.toNat (s.reg (AST_MBOX_ARG 2))) 8 = false ∧
              s.uncorrectable (BitVec.toNat (s.reg (AST_MBOX_ARG 2)) + 8) (blobBytes (s.bytes (BitVec.toNat (s.reg (AST_MBOX_ARG 2))) 8) - 8) = false ∧
                blobGood (s.bytes (BitVec.toNat (s.reg (AST_MBOX_ARG 2))) 8) (BitVec.toNat (s.reg (AST_MBOX_ARG 1))) = true ∧
                  s.hostBytes (BitVec.toNat (s.reg (AST_MBOX_ARG 2))) (blobBytes (s.bytes (BitVec.toNat (s.reg (AST_MBOX_ARG 2))) 8)) = true ∧
                    s.blobKey (s.bytes (BitVec.toNat (s.reg (AST_MBOX_ARG 2))) 8)
                          (s.bytes (BitVec.toNat (s.reg (AST_MBOX_ARG 2)) + 8) (blobBytes (s.bytes (BitVec.toNat (s.reg (AST_MBOX_ARG 2))) 8) - 8)) =
                        Except.error r ∧
                      r < 256) ∧
    (∃ (c : MailCommand) (s : State) (k : BitVec 256),
      s.Passes c 81 ∧
        (s.get SEC_LCS.STATE = 2 ∨ s.get SEC_LCS.STATE = 3) ∧
          s.slotFull (BitVec.toNat (s.reg (AST_MBOX_ARG 0))) = false ∧
            s.uncorrectable (BitVec.toNat (s.reg (AST_MBOX_ARG 2))) 8 = false ∧
              s.uncorrectable (BitVec.toNat (s.reg (AST_MBOX_ARG 2)) + 8) (blobBytes (s.bytes (BitVec.toNat (s.reg (AST_MBOX_ARG 2))) 8) - 8) = false ∧
                blobGood (s.bytes (BitVec.toNat (s.reg (AST_MBOX_ARG 2))) 8) (BitVec.toNat (s.reg (AST_MBOX_ARG 1))) = true ∧
                  s.hostBytes (BitVec.toNat (s.reg (AST_MBOX_ARG 2))) (blobBytes (s.bytes (BitVec.toNat (s.reg (AST_MBOX_ARG 2))) 8)) = true ∧
                    s.blobKey (s.bytes (BitVec.toNat (s.reg (AST_MBOX_ARG 2))) 8)
                        (s.bytes (BitVec.toNat (s.reg (AST_MBOX_ARG 2)) + 8) (blobBytes (s.bytes (BitVec.toNat (s.reg (AST_MBOX_ARG 2))) 8) - 8)) =
                      Except.ok k) ∧
    (∃ (c : MailCommand) (s : State), s.Passes c 82 ∧ ¬(s.get SEC_LCS.STATE = 2 ∨ s.get SEC_LCS.STATE = 3)) ∧
    (∃ (c : MailCommand) (s : State), s.Passes c 82 ∧ (s.get SEC_LCS.STATE = 2 ∨ s.get SEC_LCS.STATE = 3)) ∧
    (∃ (c : MailCommand) (s : State),
      s.Passes c 88 ∧
        (s.on ADM_STAT.ACTIVE = true ∨ (s.get SEC_LCS.STATE, BitVec.toNat (s.reg (AST_MBOX_ARG 0))) ∉ [(1, 2), (2, 3), (2, 4), (3, 4), (15, 4)])) ∧
    (∃ (c : MailCommand) (s : State),
      s.Passes c 88 ∧
        s.on ADM_STAT.ACTIVE = false ∧
          (s.get SEC_LCS.STATE, BitVec.toNat (s.reg (AST_MBOX_ARG 0))) ∈ [(1, 2), (2, 3), (2, 4), (3, 4), (15, 4)] ∧
            s.uncorrectable (BitVec.toNat (s.reg (AST_MBOX_ARG 1))) 176 = false ∧
              s.lcToken (s.get SEC_LCS.STATE) (BitVec.toNat (s.reg (AST_MBOX_ARG 0))) (s.bytes (BitVec.toNat (s.reg (AST_MBOX_ARG 1))) 176) = false) ∧
    (∃ (c : MailCommand) (s : State),
      s.Passes c 88 ∧
        s.on ADM_STAT.ACTIVE = false ∧
          (s.get SEC_LCS.STATE, BitVec.toNat (s.reg (AST_MBOX_ARG 0))) ∈ [(1, 2), (2, 3), (2, 4), (3, 4), (15, 4)] ∧
            s.uncorrectable (BitVec.toNat (s.reg (AST_MBOX_ARG 1))) 176 = false ∧
              s.lcToken (s.get SEC_LCS.STATE) (BitVec.toNat (s.reg (AST_MBOX_ARG 0))) (s.bytes (BitVec.toNat (s.reg (AST_MBOX_ARG 1))) 176) = true) ∧
    (∃ (c : MailCommand) (s : State), s.Passes c 96 ∧ (¬(s.get SEC_LCS.STATE = 2 ∨ s.get SEC_LCS.STATE = 3) ∨ s.on EYE_STAT.SESS = true)) ∧
    (∃ (c : MailCommand) (s : State),
      s.Passes c 96 ∧
        (s.get SEC_LCS.STATE = 2 ∨ s.get SEC_LCS.STATE = 3) ∧
          s.on EYE_STAT.SESS = false ∧
            s.uncorrectable (BitVec.toNat (s.reg (AST_MBOX_ARG 0))) 160 = false ∧
              s.unlockToken (s.bytes (BitVec.toNat (s.reg (AST_MBOX_ARG 0))) 160) = false) ∧
    (∃ (c : MailCommand) (s : State),
      s.Passes c 96 ∧
        (s.get SEC_LCS.STATE = 2 ∨ s.get SEC_LCS.STATE = 3) ∧
          s.on EYE_STAT.SESS = false ∧
            s.uncorrectable (BitVec.toNat (s.reg (AST_MBOX_ARG 0))) 160 = false ∧
              s.unlockToken (s.bytes (BitVec.toNat (s.reg (AST_MBOX_ARG 0))) 160) = true) ∧
    (∃ (c : MailCommand) (s : State), s.Passes c 97) ∧
    (∃ (c : MailCommand) (s : State), s.Passes c 112) :=
  ⟨⟨hostCommand 0x40, mailed 0x40 [3], by simp only [passes_iff, executes_iff]; decide +kernel⟩,
   ⟨hostCommand 0x40, mailed 0x40 [0] spare2, 2, by simp only [passes_iff, executes_iff]; decide +kernel⟩,
   ⟨hostCommand 0x40, mailed 0x40 [0] { spare2 with asst := [242] }, 2, by simp only [passes_iff, executes_iff]; decide +kernel⟩,
   ⟨hostCommand 0x41, mailed 0x41 [3, 4], by simp only [passes_iff, executes_iff]; decide +kernel⟩,
   ⟨hostCommand 0x41, mailed 0x41 [0, 2] ({ spare2.put (ADM_FSTATE.STATE 5) 2 with flows := (flow5 [] 2).flows }), by simp only [passes_iff, executes_iff]; decide +kernel⟩,
   ⟨hostCommand 0x41, mailed 0x41 [0, 2] (spare2), by simp only [passes_iff, executes_iff]; decide +kernel⟩,
   ⟨hostCommand 0x50, mailed 0x50 [3, 1], by simp only [passes_iff, executes_iff]; decide +kernel⟩,
   ⟨hostCommand 0x50, mailed 0x50 [3, 1] (lcs3.put (SEC_SLOT.FULL 3) 1), by simp only [passes_iff, executes_iff]; decide +kernel⟩,
   ⟨hostCommand 0x50, mailed 0x50 [3, 1] (lcs3), by simp only [passes_iff, executes_iff]; decide +kernel⟩,
   ⟨hostCommand 0x51, mailed 0x51 [3, 2, 0x90000] (lcs3.put SEC_LCS.STATE 1), by simp only [passes_iff, executes_iff]; decide +kernel⟩,
   ⟨hostCommand 0x51, mailed 0x51 [3, 2, 0x90000] (lcs3.put (SEC_SLOT.FULL 3) 1), by simp only [passes_iff, executes_iff]; decide +kernel⟩,
   ⟨hostCommand 0x51, mailed 0x51 [3, 2, 0x90000] (lcs3), by simp only [passes_iff, executes_iff]; decide +kernel⟩,
   ⟨hostCommand 0x51, mailed 0x51 [3, 2, 0x90000] (blob9.setBytes 0x90000 [1]), 14, by simp only [passes_iff, executes_iff]; decide +kernel⟩,
   ⟨hostCommand 0x51, mailed 0x51 [3, 2, 0x90000] (blob9), 0x100F0E0D0C0B0A090807060504030201, by simp only [passes_iff, executes_iff]; decide +kernel⟩,
   ⟨hostCommand 0x52, mailed 0x52 [3], by simp only [passes_iff, executes_iff]; decide +kernel⟩,
   ⟨hostCommand 0x52, mailed 0x52 [3] (lcs3), by simp only [passes_iff, executes_iff]; decide +kernel⟩,
   ⟨hostCommand 0x58, mailed 0x58 [2, 0x90000] (lcs3), by simp only [passes_iff, executes_iff]; decide +kernel⟩,
   ⟨hostCommand 0x58, mailed 0x58 [4, 0x90000] (lcs3), by simp only [passes_iff, executes_iff]; decide +kernel⟩,
   ⟨hostCommand 0x58, mailed 0x58 [3, 0x90000] (lcToken9), by simp only [passes_iff, executes_iff]; decide +kernel⟩,
   ⟨hostCommand 0x60, mailed 0x60 [0x90000] (lcs3.put SEC_LCS.STATE 1), by simp only [passes_iff, executes_iff]; decide +kernel⟩,
   ⟨hostCommand 0x60, mailed 0x60 [0x90000] (lcs3), by simp only [passes_iff, executes_iff]; decide +kernel⟩,
   ⟨hostCommand 0x60, mailed 0x60 [0x90000] (unlockToken9), by simp only [passes_iff, executes_iff]; decide +kernel⟩,
   ⟨hostCommand 0x61, mailed 0x61 [], by simp only [passes_iff, executes_iff]; decide +kernel⟩,
   ⟨hostCommand 0x70, mailed 0x70 [0x1000, 0x40, 1], by simp only [passes_iff, executes_iff]; decide +kernel⟩⟩

theorem witness_Assistant :
    (∃ (f : Fin 4096) (s : State), s.flowState ↑f = 3 ∧ s.flowDrained ↑f = true) ∧
    (∃ (f : Fin 4096) (s : State), ¬(s.flowState ↑f = 3 ∧ s.flowDrained ↑f = true)) ∧
    (∃ (f : Fin 4096) (s : State),
      (s.on (AST_OT0.VALID ↑f) = true ∧ s.itemsAccepted ↑f ≠ 0 ∧ (s.get (AST_OT0.SRCK ↑f) ≠ 2 ∧ s.inqItem ↑f = none ∨ s.itemLate ↑f = true)) ∧
        s.Accepts (s.get (AST_OT0.DSTQ ↑f))) ∧
    (∃ (f : Fin 4096) (s : State),
      ¬(s.on (AST_OT0.VALID ↑f) = true ∧ s.itemsAccepted ↑f ≠ 0 ∧ (s.get (AST_OT0.SRCK ↑f) ≠ 2 ∧ s.inqItem ↑f = none ∨ s.itemLate ↑f = true)) ∨
        s.queueRefuses (s.get (AST_OT0.DSTQ ↑f)) = true) ∧
    (∃ (e : Fin 12) (s : State) (sp : ℕ),
      s.pairRuns = true ∧
        s.asst.contains (240 + ↑e) = true ∧
          (BitVec.getLsbD (s.reg AST_FPOL) (s.get (ENG_FAULT.CODE ↑e)) = true ∨
              s.get (ENG_FAULT.CODE ↑e) = 5 ∧
                s.get AST_CVLIM.COUNT ≠ 0 ∧
                  s.get AST_CVLIM.COUNT ≤ 1 + (List.filter (fun (k : ℕ) => decide (s.rgl.edge < k + 500000)) (s.violations ↑e)).length) ∧
            s.HasSpare (↑e) sp ∧ s.asst.contains (240 + sp) = false) ∧
    (∃ (e : Fin 12) (s : State) (sp : ℕ),
      s.pairRuns = true ∧
        s.asst.contains (240 + ↑e) = true ∧
          (BitVec.getLsbD (s.reg AST_FPOL) (s.get (ENG_FAULT.CODE ↑e)) = true ∨
              s.get (ENG_FAULT.CODE ↑e) = 5 ∧
                s.get AST_CVLIM.COUNT ≠ 0 ∧
                  s.get AST_CVLIM.COUNT ≤ 1 + (List.filter (fun (k : ℕ) => decide (s.rgl.edge < k + 500000)) (s.violations ↑e)).length) ∧
            s.HasSpare (↑e) sp ∧ s.asst.contains (240 + sp) = true) ∧
    (∃ (e : Fin 12) (s : State),
      s.pairRuns = true ∧
        s.asst.contains (240 + ↑e) = true ∧
          (BitVec.getLsbD (s.reg AST_FPOL) (s.get (ENG_FAULT.CODE ↑e)) = true ∨
              s.get (ENG_FAULT.CODE ↑e) = 5 ∧
                s.get AST_CVLIM.COUNT ≠ 0 ∧
                  s.get AST_CVLIM.COUNT ≤ 1 + (List.filter (fun (k : ℕ) => decide (s.rgl.edge < k + 500000)) (s.violations ↑e)).length) ∧
            s.spareOf ↑e = none) ∧
    (∃ (e : Fin 12) (s : State),
      s.pairRuns = true ∧
        s.asst.contains (240 + ↑e) = true ∧
          ¬(BitVec.getLsbD (s.reg AST_FPOL) (s.get (ENG_FAULT.CODE ↑e)) = true ∨
              s.get (ENG_FAULT.CODE ↑e) = 5 ∧
                s.get AST_CVLIM.COUNT ≠ 0 ∧
                  s.get AST_CVLIM.COUNT ≤ 1 + (List.filter (fun (k : ℕ) => decide (s.rgl.edge < k + 500000)) (s.violations ↑e)).length)) ∧
    (∃ (i : Fin 2) (o : Origin) (s : State), s.Takes o (AST_ENGMAP0 + 4 * ↑i)) ∧
    (∃ (c : MailCommand) (u : Upgrade) (s : State),
      s.assistant.upgrade = some u ∧
        s.assistant.command = some c ∧
          s.pairRuns = true ∧ u.eng < 12 ∧ u.spare < 12 ∧ u.eng ≠ u.spare ∧ s.get (ENG_STAT.STATE u.eng) = 2 ∧ s.on (ENG_PRI.GMASK u.eng) = true) ∧
    (∃ (c : MailCommand) (u : Upgrade) (s : State),
      s.assistant.upgrade = some u ∧ s.assistant.command = some c ∧ s.pairRuns = true ∧ u.edge + 500 * max 1 (s.get AST_CUTTO.US) ≤ s.rgl.edge) :=
  ⟨⟨5, live.put (ADM_FSTATE.STATE 5) 3, by decide +kernel⟩,
   ⟨5, live, by decide +kernel⟩,
   ⟨5, breached5, by simp only [accepts_iff]; decide +kernel⟩,
   ⟨5, live, by decide +kernel⟩,
   ⟨0, spare2, 2, by simp only [hasSpare_iff]; decide +kernel⟩,
   ⟨0, { spare2 with asst := [240, 242] }, 2, by simp only [hasSpare_iff]; decide +kernel⟩,
   ⟨0, { live.setReg AST_FPOL 0xFFFFFFFF with asst := [240] }, by decide +kernel⟩,
   ⟨0, { live.setReg AST_FPOL 0 with asst := [240] }, by decide +kernel⟩,
   ⟨0, .assistant, live, by simp only [takes_iff, forall_some_iff]; decide +kernel⟩,
   ⟨hostCommand 0x41, upgrade02, upgrading ((live.put (ENG_STAT.STATE 0) 2).put (ENG_PRI.GMASK 0) 1), by decide +kernel⟩,
   ⟨hostCommand 0x41, upgrade02, upgrading (atEdge 50000000 live), by decide +kernel⟩⟩

theorem witness_Shutter :
    (∃ (s : State), s.pairRuns = true ∧ s.shutterMayTake) ∧
    (∃ (s : State), s.on AST_STAT.WDFRZ = false ∧ s.pairRuns = true ∧ s.shutterMayTake) ∧
    (∃ (s : State), s.on AST_STAT.WDFRZ = true) ∧
    (∃ (s : State), s.on AST_STAT.LOCKSTEP = false ∧ s.on CLK_PLLSTAT.TCLKLK = true ∧ s.on CLK_PLLSTAT.CCLKLK = true ∧ s.shutterMayTake) ∧
    (∃ (s : State),
      s.on CLK_PLLSTAT.TCLKLK = true ∧ s.on CLK_PLLSTAT.CCLKLK = true ∧ s.get CLU_STAT.STATE = 5 ∧ s.get SHT_STAT.PHASE = 3 ∧ s.shutterDrained = true) ∧
    (∃ (s : State), s.ifcOn = true) ∧
    (∃ (o : Origin) (s : State), s.Takes o SHT_STAT ∧ s.get SHT_STAT.PHASE = 0 ∧ (s.get CLU_STAT.STATE = 2 ∨ s.get CLU_STAT.STATE = 3)) ∧
    (∃ (o : Origin) (s : State), s.Takes o SHT_STAT ∧ ¬(s.get SHT_STAT.PHASE = 0 ∧ (s.get CLU_STAT.STATE = 2 ∨ s.get CLU_STAT.STATE = 3))) :=
  ⟨⟨live, by decide +kernel⟩,
   ⟨live, by decide +kernel⟩,
   ⟨live.put AST_STAT.WDFRZ 1, by decide +kernel⟩,
   ⟨live.put AST_STAT.LOCKSTEP 0, by decide +kernel⟩,
   ⟨draining, by decide +kernel⟩,
   ⟨live, by decide +kernel⟩,
   ⟨.assistant, live, by simp only [takes_iff, forall_some_iff]; decide +kernel⟩,
   ⟨.assistant, live.put SHT_STAT.PHASE 1, by simp only [takes_iff, forall_some_iff]; decide +kernel⟩⟩

theorem witness_Loader :
    (∃ (s : State), s.get CLU_STAT.STATE = 1 ∧ s.pairRuns = true ∧ s.get SHT_STAT.PHASE ≠ 5 ∧ s.get CLU_ATTACH.PSTATE ≠ 1 ∧ s.noSource = true) ∧
    (∃ (ext : List Byte) (s : State) (bad : Bool),
      s.get CLU_STAT.STATE = 1 ∧ s.pairRuns = true ∧ s.get SHT_STAT.PHASE ≠ 5 ∧ s.get CLU_ATTACH.PSTATE ≠ 1 ∧ s.noSource = false ∧
        (({ s with power := { s.power with ignoreSrc := false } } : State).loadSource ext bad).1 = none) ∧
    (∃ (ext img : List Byte) (u s : State) (bad : Bool) (x : LoadError),
      s.get CLU_STAT.STATE = 1 ∧ s.pairRuns = true ∧ s.get SHT_STAT.PHASE ≠ 5 ∧ s.get CLU_ATTACH.PSTATE ≠ 1 ∧ s.noSource = false ∧
        ({ s with power := { s.power with ignoreSrc := false } } : State).loadSource ext bad = (some img, u) ∧ u.tryChart img = .error x ∧ x.result < 256) ∧
    (∃ (ext img : List Byte) (u s : State) (bad : Bool) (l : Loaded),
      s.get CLU_STAT.STATE = 1 ∧ s.pairRuns = true ∧ s.get SHT_STAT.PHASE ≠ 5 ∧ s.get CLU_ATTACH.PSTATE ≠ 1 ∧ s.noSource = false ∧
        ({ s with power := { s.power with ignoreSrc := false } } : State).loadSource ext bad = (some img, u) ∧ u.tryChart img = .ok l ∧ l.state.get CLU_ATTACH.PSTATE ≠ 1) :=
  ⟨⟨loading0, by decide +kernel⟩,
   ⟨[], loadingExt, true, by decide +kernel⟩,
   by
   obtain ⟨x, h, h'⟩ := exists_error (x := (({ loadingExt with power := { loadingExt.power with ignoreSrc := false } } : State).loadSource
     (List.replicate 64 0) false).2.tryChart (List.replicate 64 0)) (fun x => decide (x.result < 256)) (by decide +kernel)
   exact ⟨List.replicate 64 0, List.replicate 64 0, _, loadingExt, false, x, by decide +kernel, by decide +kernel, by decide +kernel,
     by decide +kernel, by decide +kernel, by decide +kernel, h, of_decide_eq_true h'⟩,
   by
   obtain ⟨l, h1, h2⟩ := chart_loads
   exact ⟨chartImage, chartImage, chartRead, chartSource, false, l, by decide +kernel, by decide +kernel, by decide +kernel, by decide +kernel,
     by decide +kernel, by decide +kernel, h1, h2⟩⟩

theorem witness_LinkReception :
    (∃ (x : Fin 2) (f : List Byte) (s : State), s.linksAllowed = true ∧ s.linkState ↑x ≠ 0 ∧ linkCrcGood f = false ∧ (s.link ↑x).peerCount < 4096) ∧
    (∃ (x : Fin 2) (f : List Byte) (s : State), s.Hears (↑x) f) ∧
    (∃ (f : List Byte), linkType f ≠ 1) ∧
    (∃ (f : List Byte), linkType f ≠ 2) ∧
    (∃ (f : List Byte), linkType f ≠ 3) ∧
    (∃ (f : List Byte), linkType f ≠ 4) ∧
    (∃ (f : List Byte), linkType f ≠ 5) :=
  ⟨⟨0, badFrame, linkIn 0 1 member1, by decide +kernel⟩,
   ⟨0, idleFrame, linkIn 0 1 member1, by simp only [hears_iff]; decide +kernel⟩,
   ⟨idleFrame, by decide +kernel⟩,
   ⟨idleFrame, by decide +kernel⟩,
   ⟨idleFrame, by decide +kernel⟩,
   ⟨idleFrame, by decide +kernel⟩,
   ⟨idleFrame, by decide +kernel⟩⟩

theorem witness_LinkTraffic :
    (∃ (x : Fin 2) (f : List Byte) (c : ℕ) (q : ℕ) (h : ℕ) (s : State),
      s.Hears (↑x) f ∧
        linkType f = 1 ∧
          s.Consumes f ∧
            s.Inbound c q f ∧
              (s.queueWaits q = false ∧ s.poolHeld (s.get (CST_CHCFG.POOL c)) = false) ∧
                s.assembly c ↑x = none ∧
                  descLen (List.take 32 (List.drop 28 f)) ≤ 2 ^ (6 + s.get (QM_PCFG.BSZ (s.get (CST_CHCFG.POOL c)))) ∧
                    s.headSlot (s.get (QM_PCFG.FREEQ (s.get (CST_CHCFG.POOL c)))) = some h ∧
                      s.uncorrectable h 32 = false ∧ descAddr (s.bytes h 32) % 8 = 0 ∧ s.get (QM_PCFG.FREEQ (s.get (CST_CHCFG.POOL c))) ≠ q) ∧
    (∃ (x : Fin 2) (f : List Byte) (c : ℕ) (q : ℕ) (h : ℕ) (s : State),
      s.Hears (↑x) f ∧
        linkType f = 1 ∧
          s.Consumes f ∧
            s.Inbound c q f ∧
              (s.queueWaits q = false ∧ s.poolHeld (s.get (CST_CHCFG.POOL c)) = false) ∧
                s.assembly c ↑x = none ∧
                  descLen (List.take 32 (List.drop 28 f)) ≤ 64 ∧
                    linkLast f = true ∧
                      s.headSlot (s.get (QM_PCFG.FREEQ (s.get (CST_CHCFG.POOL c)))) = some h ∧
                        s.uncorrectable h 32 = false ∧
                          descAddr (s.bytes h 32) % 8 = 0 ∧ s.get (QM_PCFG.FREEQ (s.get (CST_CHCFG.POOL c))) ≠ q ∧ s.poolOfQueue q = none ∧ ¬s.Above c f) ∧
    (∃ (x : Fin 2) (f : List Byte) (s : State), s.Hears (↑x) f ∧ linkType f = 1 ∧ s.Consumes f ∧ s.on (CST_CHCFG.EN (linkChannel f)) = false) ∧
    (∃ (x : Fin 2) (f : List Byte) (c : ℕ) (q : ℕ) (s : State),
      s.Hears (↑x) f ∧ linkType f = 1 ∧ s.Consumes f ∧ s.Inbound c q f ∧ ¬(s.queueWaits q = false ∧ s.poolHeld (s.get (CST_CHCFG.POOL c)) = false)) ∧
    (∃ (x : Fin 2) (f : List Byte) (c : ℕ) (q : ℕ) (s : State),
      s.Hears (↑x) f ∧ linkType f = 2 ∧ s.Consumes f ∧ s.Inbound c q f ∧ ¬(s.queueWaits q = false ∧ s.poolHeld (s.get (CST_CHCFG.POOL c)) = false)) ∧
    (∃ (x : Fin 2) (f : List Byte) (c : ℕ) (q : ℕ) (s : State) (i : Assembly),
      s.Hears (↑x) f ∧
        linkType f = 2 ∧
          s.Consumes f ∧
            s.Inbound c q f ∧
              (s.queueWaits q = false ∧ s.poolHeld (s.get (CST_CHCFG.POOL c)) = false) ∧
                s.assembly c ↑x = some i ∧
                  linkCseq f = i.cseq ∧
                    linkChunk f = i.chunk ∧ i.addr % 8 = 0 ∧ 64 * (i.chunk + 1) ≤ 2 ^ (6 + s.get (QM_PCFG.BSZ (s.get (CST_CHCFG.POOL c))))) ∧
    (∃ (x : Fin 2) (f : List Byte) (c : ℕ) (q : ℕ) (s : State) (i : Assembly),
      s.Hears (↑x) f ∧
        linkType f = 2 ∧
          s.Consumes f ∧
            s.Inbound c q f ∧
              (s.queueWaits q = false ∧ s.poolHeld (s.get (CST_CHCFG.POOL c)) = false) ∧
                s.assembly c ↑x = some i ∧ (linkCseq f ≠ i.cseq ∨ linkChunk f ≠ i.chunk)) ∧
    (∃ (x : Fin 2) (f : List Byte) (s : State), s.Hears (↑x) f ∧ linkType f = 3 ∧ s.Consumes f) ∧
    (∃ (x : Fin 2) (f : List Byte) (s : State), s.Hears (↑x) f ∧ linkType f = 4) ∧
    (∃ (x : Fin 2) (f : List Byte) (s : State), s.Hears (↑x) f ∧ linkType f = 5 ∧ s.Consumes f) :=
  ⟨⟨0, headFrame false 100, 3, 77, ((linkIn 0 3 (inbound3 member1)).headSlot 50).getD 0, linkIn 0 3 (inbound3 member1), by simp only [hears_iff, inbound_iff, State.Consumes]; decide +kernel⟩,
   ⟨0, headFrame true 40, 3, 77, ((linkIn 0 3 ((inbound3 member1).put (CST_CHSTAT.CSEQ 3) 9)).headSlot 50).getD 0, linkIn 0 3 ((inbound3 member1).put (CST_CHSTAT.CSEQ 3) 9), by simp only [hears_iff, inbound_iff, State.Consumes, State.Above]; decide +kernel⟩,
   ⟨0, headFrame true 40, linkIn 0 3 member1, by simp only [hears_iff, State.Consumes]; decide +kernel⟩,
   ⟨0, headFrame false 100, 3, 77, linkIn 0 3 ((inbound3 member1).put (PLT_OWN.PEND 2) 1), by simp only [hears_iff, inbound_iff, State.Consumes]; decide +kernel⟩,
   ⟨0, dataFrame 2, 3, 77, begun3.put (PLT_OWN.PEND 2) 1, by simp only [hears_iff, inbound_iff, State.Consumes]; decide +kernel⟩,
   ⟨0, dataFrame 1, 3, 77, begun3, assembly3, by simp only [hears_iff, inbound_iff, State.Consumes]; decide +kernel⟩,
   ⟨0, dataFrame 2, 3, 77, begun3, assembly3, by simp only [hears_iff, inbound_iff, State.Consumes]; decide +kernel⟩,
   ⟨0, frameOf 3 2 1 true 0 (leBytes 2 512), linkIn 0 3 member1, by simp only [hears_iff, State.Consumes]; decide +kernel⟩,
   ⟨0, frameOf 4 2 1 true 0 (leBytes 4 0x12345678 ++ [5, 3]), linkIn 0 3 member1, by simp only [hears_iff]; decide +kernel⟩,
   ⟨0, frameOf 5 2 1 true 0 [3, 2], linkIn 0 3 member1, by simp only [hears_iff, State.Consumes]; decide +kernel⟩⟩

theorem witness_LinkStates :
    (∃ (x : Fin 2) (s : State), s.linksAllowed = true ∧ s.linkState ↑x = 0 ∧ s.on (CST_LNKCTL.EN ↑x) = true) ∧
    (∃ (x : Fin 2) (s : State), s.linkState ↑x ≠ 0 ∨ s.on (CST_LNKCTL.EN ↑x) = false) ∧
    (∃ (x : Fin 2) (s : State), s.linkState ↑x ≠ 0 ∧ (s.link ↑x).lastGood + 500 ≤ s.rgl.edge) ∧
    (∃ (x : Fin 2) (s : State), s.rgl.edge < (s.link ↑x).lastGood + 500) ∧
    (∃ (x : Fin 2) (s : State), (s.link ↑x).peerCount < 4096) ∧
    (∃ (x : Fin 2) (s : State), s.linkState ↑x ≠ 0 ∧ 4096 ≤ (s.link ↑x).peerCount) ∧
    (∃ (s : State), s.constellation.servoDue = true ∧ s.pllsRun = true) ∧
    (∃ (s : State), s.constellation.servoDue = false) ∧
    (∃ (m : Fin 8) (k : ℕ) (s : State), tget (fun (x : ℕ) => none) s.constellation.seen ↑m = some k ∧ k + 500000 ≤ s.rgl.edge ∧ ↑m ≠ s.member) ∧
    (∃ (m : Fin 8) (s : State), ↑m = s.member ∨ ∀ (k : ℕ), tget (fun (x : ℕ) => none) s.constellation.seen ↑m = some k → s.rgl.edge < k + 500000) ∧
    (∃ (x : Fin 2) (o : Origin) (s : State), s.Takes o (CST_LNKCTL ↑x)) ∧
    (∃ (s : State), s.linksAllowed = true ∧ s.constellation.exported ≤ s.rgl.time / updateSpan) ∧
    (∃ (s : State), s.rgl.time / updateSpan < s.constellation.exported) :=
  ⟨⟨0, member1.put (CST_LNKCTL.EN 0) 1, by decide +kernel⟩,
   ⟨0, member1, by decide +kernel⟩,
   ⟨0, atEdge 700 (linkIn 0 3 member1), by decide +kernel⟩,
   ⟨0, member1, by decide +kernel⟩,
   ⟨0, member1, by decide +kernel⟩,
   ⟨0, withLink (linkIn 0 3 member1) 0 fun l => { l with peerCount := 4096 }, by decide +kernel⟩,
   ⟨{ member1 with constellation := { member1.constellation with servoDue := true } }, by decide +kernel⟩,
   ⟨member1, by decide +kernel⟩,
   ⟨3, 5, atEdge 600000 { member1 with constellation := { member1.constellation with seen := tset (fun _ => none) [] 3 (some 5) } }, by decide +kernel⟩,
   ⟨1, member1, Or.inl (by decide +kernel)⟩,
   ⟨0, .assistant, member1, by simp only [takes_iff, forall_some_iff]; decide +kernel⟩,
   ⟨atTime 1000000000 member1, by decide +kernel⟩,
   ⟨{ member1 with constellation := { member1.constellation with exported := 1 } }, by decide +kernel⟩⟩

theorem witness_LinkSending :
    (∃ (x : Fin 2) (s : State), s.linksAllowed = true ∧ (s.outboundChannel = none ∨ (s.link ↑x).items ≠ [])) ∧
    (∃ (c : ℕ) (a : ℕ) (s : State),
      s.linksAllowed = true ∧
        (s.link 0).items = [] ∧
          (s.link 1).items = [] ∧
            s.outboundChannel = some c ∧
              s.headSlot (s.get (CST_CHCFG.QUEUE c)) = some a ∧
                s.uncorrectable a 32 = false ∧ (descExt (s.bytes a 32) = true ∨ 16384 < descLen (s.bytes a 32))) ∧
    (∃ (c : ℕ) (a : ℕ) (s : State),
      s.linksAllowed = true ∧
        (s.link 0).items = [] ∧
          (s.link 1).items = [] ∧
            s.outboundChannel = some c ∧
              s.headSlot (s.get (CST_CHCFG.QUEUE c)) = some a ∧
                s.uncorrectable a 32 = false ∧
                  descExt (s.bytes a 32) = false ∧ descLen (s.bytes a 32) ≤ 16384 ∧ s.rangeHeld (descAddr (s.bytes a 32)) (descLen (s.bytes a 32)) = true) ∧
    (∃ (c : ℕ) (a : ℕ) (s : State),
      s.linksAllowed = true ∧
        (s.link 0).items = [] ∧
          (s.link 1).items = [] ∧
            s.outboundChannel = some c ∧
              s.headSlot (s.get (CST_CHCFG.QUEUE c)) = some a ∧
                s.uncorrectable a 32 = false ∧
                  descExt (s.bytes a 32) = false ∧
                    descLen (s.bytes a 32) ≤ 16384 ∧
                      s.rangeHeld (descAddr (s.bytes a 32)) (descLen (s.bytes a 32)) = false ∧
                        s.uncorrectable (descAddr (s.bytes a 32)) ((descLen (s.bytes a 32) + 63) / 64 * 64) = false) ∧
    (∃ (x : Fin 2) (g : List Byte) (rest : List (List Byte)) (s : State),
      s.linksAllowed = true ∧
        ((s.linkState ↑x = 3 ∧ (s.link ↑x).period ≤ s.now / 2 ^ 24) ∧
            (if ↑x = 0 then (2 * s.member + 8 - s.now / 2 ^ 24 % 8) % 8 else (2 * s.member + s.now / 2 ^ 24) % 8) = s.member) ∧
          s.now / 2 ^ 24 / 8 % 2 = 1 ∧ (s.link ↑x).items = g :: rest ∧ g.length = 128) ∧
    (∃ (x : Fin 2) (g : List Byte) (rest : List (List Byte)) (s : State),
      s.linksAllowed = true ∧
        ((s.linkState ↑x = 3 ∧ (s.link ↑x).period ≤ s.now / 2 ^ 24) ∧
            (if ↑x = 0 then (2 * s.member + 8 - s.now / 2 ^ 24 % 8) % 8 else (2 * s.member + s.now / 2 ^ 24) % 8) = s.member) ∧
          s.now / 2 ^ 24 / 8 % 2 = 0 ∧ (s.link ↑x).tracks = g :: rest ∧ g.length = 128) ∧
    (∃ (x : Fin 2) (g : List Byte) (rest : List (List Byte)) (s : State),
      s.linksAllowed = true ∧
        ((s.linkState ↑x = 3 ∧ (s.link ↑x).period ≤ s.now / 2 ^ 24) ∧
            (if ↑x = 0 then (2 * s.member + 8 - s.now / 2 ^ 24 % 8) % 8 else (2 * s.member + s.now / 2 ^ 24) % 8) = s.member) ∧
          s.now / 2 ^ 24 / 8 % 2 = 0 ∧ (s.link ↑x).tracks = [] ∧ (s.link ↑x).events = g :: rest ∧ g.length = 128 ∧ s.evmask = 0) ∧
    (∃ (x : Fin 2) (s : State),
      s.linksAllowed = true ∧
        ((s.linkState ↑x = 3 ∧ (s.link ↑x).period ≤ s.now / 2 ^ 24) ∧
            (if ↑x = 0 then (2 * s.member + 8 - s.now / 2 ^ 24 % 8) % 8 else (2 * s.member + s.now / 2 ^ 24) % 8) = s.member) ∧
          s.now / 2 ^ 24 / 8 % 2 = 0 ∧ (s.link ↑x).tracks = [] ∧ (s.link ↑x).events = [] ∧ s.evmask ≠ 0) ∧
    (∃ (x : Fin 2) (s : State),
      s.linksAllowed = true ∧
        ((s.linkState ↑x = 3 ∧ (s.link ↑x).period ≤ s.now / 2 ^ 24) ∧
            (if ↑x = 0 then (2 * s.member + 8 - s.now / 2 ^ 24 % 8) % 8 else (2 * s.member + s.now / 2 ^ 24) % 8) = s.member) ∧
          (s.link ↑x).tracks = [] ∧ (s.link ↑x).events = [] ∧ (s.link ↑x).items = [] ∧ s.evmask = 0) ∧
    (∃ (x : Fin 2) (s : State),
      s.linksAllowed = true ∧
        (s.linkState ↑x = 3 ∧ (s.link ↑x).period ≤ s.now / 2 ^ 24) ∧
          (if ↑x = 0 then (2 * s.member + 8 - s.now / 2 ^ 24 % 8) % 8 else (2 * s.member + s.now / 2 ^ 24) % 8) ≠ s.member) ∧
    (∃ (x : Fin 2) (s : State), s.linksAllowed = true ∧ s.linkState ↑x = 3 ∧ s.now / 2 ^ 24 < (s.link ↑x).period) ∧
    (∃ (x : Fin 2) (s : State), s.linksAllowed = true ∧ s.linkState ↑x = 2) ∧
    (∃ (x : Fin 2) (s : State), s.linksAllowed = true ∧ s.linkState ↑x = 1) :=
  ⟨⟨0, member1, by decide +kernel⟩,
   ⟨3, 0x8000, outbound3 16385, by decide +kernel⟩,
   ⟨3, 0x8000, (outbound3 150).put (PLT_OWN.PEND 2) 1, by decide +kernel⟩,
   ⟨3, 0x8000, outbound3 150, by decide +kernel⟩,
   ⟨0, sentFrame, [], inPeriod 9 fun l => { l with items := [sentFrame] }, by decide +kernel⟩,
   ⟨0, sentFrame, [], inPeriod 1 fun l => { l with tracks := [sentFrame] }, by decide +kernel⟩,
   ⟨0, sentFrame, [], inPeriod 1 fun l => { l with events := [sentFrame] }, by decide +kernel⟩,
   ⟨0, { inPeriod 1 id with evmask := 0x12345 }, by decide +kernel⟩,
   ⟨0, inPeriod 9 id, by decide +kernel⟩,
   ⟨0, inPeriod 2 id, by decide +kernel⟩,
   ⟨0, inPeriod 2 fun l => { l with period := 5 }, by decide +kernel⟩,
   ⟨0, linkIn 0 2 member1, by decide +kernel⟩,
   ⟨0, linkIn 0 1 member1, by decide +kernel⟩⟩

theorem witness_RunControl :
    (∃ (o : Origin) (v : Word) (s : State),
      (BitVec.getLsbD v 1 = false ∧ BitVec.getLsbD v 2 = false ∧ BitVec.getLsbD v 3 = false ∧ BitVec.getLsbD v 4 = false) ∧ s.MayDebug o (v ||| 2)) ∧
    (∃ (o : Origin) (v : Word) (s : State),
      (BitVec.getLsbD v 1 = false ∧ BitVec.getLsbD v 2 = false ∧ BitVec.getLsbD v 3 = false ∧ BitVec.getLsbD v 4 = false) ∧ s.MayDebug o (v ||| 4)) ∧
    (∃ (o : Origin) (v : Word) (s : State),
      (BitVec.getLsbD v 1 = false ∧ BitVec.getLsbD v 2 = false ∧ BitVec.getLsbD v 3 = false ∧ BitVec.getLsbD v 4 = false) ∧ s.MayDebug o (v ||| 8)) ∧
    (∃ (o : Origin) (v : Word) (s : State),
      (BitVec.getLsbD v 1 = false ∧ BitVec.getLsbD v 2 = false ∧ BitVec.getLsbD v 3 = false ∧ BitVec.getLsbD v 4 = false) ∧
        BitVec.getLsbD v 7 = true ∧ s.MayDebug o (v ||| 16) ∧ s.reg EYE_VSEL = 0) ∧
    (∃ (o : Origin) (v : Word) (s : State),
      (BitVec.getLsbD v 1 = false ∧ BitVec.getLsbD v 2 = false ∧ BitVec.getLsbD v 3 = false ∧ BitVec.getLsbD v 4 = false) ∧ s.MayDebug o (v ||| 32)) ∧
    (∃ (s : State), s.Takes Origin.eyepiece EYE_CTL ∧ (s.get EYE_SESS.RIGHTS).testBit 0 = false) ∧
    (∃ (s : State), s.Takes Origin.eyepiece EYE_CTL ∧ (s.get EYE_SESS.RIGHTS).testBit 1 = false) ∧
    (∃ (e : Fin 12) (s : State), s.engineClock = true ∧ s.Haltable ↑e ∧ s.haltDue ↑e = true) ∧
    (∃ (e : Fin 12) (s : State), ¬(s.Haltable ↑e ∧ s.haltDue ↑e = true)) ∧
    (∃ (n : Fin 24) (s : State), s.ifcOn = true ∧ s.pllsRun = true ∧ s.vernierHalts.testBit ↑n = true) ∧
    (∃ (n : Fin 24) (s : State), s.vernierHalts.testBit ↑n = false) ∧
    (∃ (s : State), s.crossTrigger = true) ∧
    (∃ (s : State), s.crossTrigger = false) :=
  ⟨⟨.assistant, 0, live, by simp only [mayDebug_iff, takes_iff, forall_some_iff]; decide +kernel⟩,
   ⟨.assistant, 0, live, by simp only [mayDebug_iff, takes_iff, forall_some_iff]; decide +kernel⟩,
   ⟨.assistant, 0, live, by simp only [mayDebug_iff, takes_iff, forall_some_iff]; decide +kernel⟩,
   ⟨.assistant, 0x80, live, by simp only [mayDebug_iff, takes_iff, forall_some_iff]; decide +kernel⟩,
   ⟨.assistant, 0, live, by simp only [mayDebug_iff, takes_iff, forall_some_iff]; decide +kernel⟩,
   ⟨live.put EYE_STAT.SESS 1, by simp only [takes_iff, forall_some_iff]; decide +kernel⟩,
   ⟨live.put EYE_STAT.SESS 1, by simp only [takes_iff, forall_some_iff]; decide +kernel⟩,
   ⟨0, (live.put (ENG_STAT.STATE 0) 1).setEng 0 { engine0 with halt := 1 }, by simp only [State.Haltable]; decide +kernel⟩,
   ⟨0, live, by simp only [State.Haltable]; decide +kernel⟩,
   ⟨4, { live with vernierHalts := 0x30 }, by decide +kernel⟩,
   ⟨4, live, by decide +kernel⟩,
   ⟨{ live with crossTrigger := true }, by decide +kernel⟩,
   ⟨live, by decide +kernel⟩⟩

theorem witness_Eyepiece :
    (∃ (o : Origin) (s : State), s.busError o false EYE_EDATA = false ∧ s.dbgOn = true) ∧
    (∃ (o : Origin) (s : State), s.Takes o EYE_EDATA ∧ s.get EYE_EIDX.ENG < 12 ∧ s.get (ENG_STAT.STATE (s.get EYE_EIDX.ENG)) ≠ 3) ∧
    (∃ (o : Origin) (s : State),
      s.Takes o EYE_EDATA ∧
        s.get EYE_EIDX.ENG < 12 ∧ s.get (ENG_STAT.STATE (s.get EYE_EIDX.ENG)) = 3 ∧ (o = Origin.eyepiece → (s.get EYE_SESS.RIGHTS).testBit 0 = true)) ∧
    (∃ (o : Origin) (s : State),
      s.Takes o EYE_FREEZE ∧ (o ≠ Origin.eyepiece ∨ (s.get EYE_SESS.RIGHTS).testBit 5 = true ∧ (s.get EYE_SESS.RIGHTS).testBit 6 = true)) ∧
    (∃ (v : Word) (s : State), s.Takes Origin.eyepiece EYE_FREEZE ∧ BitVec.getLsbD v 1 ≠ s.on EYE_FREEZE.ASST ∧ (s.get EYE_SESS.RIGHTS).testBit 5 = false) ∧
    (∃ (s : State), s.on EYE_STAT.SESS = false) ∧
    (∃ (s : State), s.on EYE_STAT.SESS = true ∧ s.eyepiece.left = none) ∧
    (∃ (s : State) (k : ℕ), s.on EYE_STAT.SESS = true ∧ s.eyepiece.left = some k) ∧
    (∃ (s : State), s.dbgOn = true) ∧
    (∃ (s : State), s.dbgOn = false) ∧
    (∃ (o : Origin) (v : Word) (s : State), s.Takes o EYE_MCTL ∧ BitVec.getLsbD v 1 = false ∧ s.eyepiece.access = []) ∧
    (∃ (o : Origin) (v : Word) (s : State), s.Takes o EYE_MCTL ∧ BitVec.getLsbD v 1 = false ∧ s.eyepiece.access ≠ []) ∧
    (∃ (o : Origin) (v : Word) (s : State), s.Takes o EYE_MCTL ∧ BitVec.getLsbD v 0 = false) ∧
    (∃ (s : State), s.pllsRun = true ∧ s.eyepiece.access = []) ∧
    (∃ (x : EyeAccess) (rest : List EyeAccess) (n : ℕ) (s : State),
      s.pllsRun = true ∧ s.eyepiece.access = x :: rest ∧ s.MasterServes x n ∧ x.viaDr = false ∧ x.write = false ∧ hiddenPlate x.addr = false) ∧
    (∃ (x : EyeAccess) (rest : List EyeAccess) (n : ℕ) (s : State),
      s.pllsRun = true ∧ s.eyepiece.access = x :: rest ∧ s.MasterServes x n ∧ x.viaDr = false ∧ x.write = true) ∧
    (∃ (x : EyeAccess) (rest : List EyeAccess) (s : State), s.pllsRun = true ∧ s.eyepiece.access = x :: rest ∧ x.ext = false ∧ s.masterAllows x = false) ∧
    (∃ (x : EyeAccess) (rest : List EyeAccess) (s : State) (k : ℕ),
      s.pllsRun = true ∧ s.eyepiece.access = x :: rest ∧ x.ext = true ∧ x.tag = some k ∧ x.viaDr = false) :=
  ⟨⟨.host, live, by decide +kernel⟩,
   ⟨.assistant, live, by simp only [takes_iff, forall_some_iff]; decide +kernel⟩,
   ⟨.assistant, live.put (ENG_STAT.STATE 0) 3, by simp only [takes_iff, forall_some_iff]; decide +kernel⟩,
   ⟨.assistant, live, by simp only [takes_iff, forall_some_iff]; decide +kernel⟩,
   ⟨2, live.put EYE_STAT.SESS 1, by simp only [takes_iff, forall_some_iff]; decide +kernel⟩,
   ⟨live, by decide +kernel⟩,
   ⟨session none, by decide +kernel⟩,
   ⟨session (some 3), 3, by decide +kernel⟩,
   ⟨live, by decide +kernel⟩,
   ⟨{ live with dbgOn := false }, by decide +kernel⟩,
   ⟨.assistant, 1, live, by simp only [takes_iff, forall_some_iff]; decide +kernel⟩,
   ⟨.assistant, 1, withAccess [access9] live, by simp only [takes_iff, forall_some_iff]; decide +kernel⟩,
   ⟨.assistant, 0, live, by simp only [takes_iff, forall_some_iff]; decide +kernel⟩,
   ⟨live, by decide +kernel⟩,
   ⟨access9, [], 4, withAccess [access9] (session none), by simp only [masterServes_iff]; decide +kernel⟩,
   ⟨{ access9 with write := true }, [], 4, withAccess [{ access9 with write := true }] (session none), by simp only [masterServes_iff]; decide +kernel⟩,
   ⟨access9, [], withAccess [access9] live, by decide +kernel⟩,
   ⟨{ access9 with ext := true, tag := some 0xF9 }, [], withAccess [{ access9 with ext := true, tag := some 0xF9 }] live, 0xF9, by decide +kernel⟩⟩

theorem witness_HostWindow :
    (∃ (off : BitVec 24), inRegisterBlock (off.toNat / 4 * 4) = false) ∧
    (∃ (off : BitVec 24) (o : Origin) (s : State),
      inRegisterBlock (off.toNat / 4 * 4) = true ∧ s.busError o true (hostOffset (s.keyAt (off.toNat / 4 * 4))) = true) ∧
    (∃ (off : BitVec 24) (o : Origin) (s : State),
      inRegisterBlock (off.toNat / 4 * 4) = true ∧ s.keyAt (off.toNat / 4 * 4) ∈ plainKeys ∧ s.Takes o (s.keyAt (off.toNat / 4 * 4))) ∧
    (∃ (off : BitVec 24) (s : State) (d : RegDesc),
      s.hostError false (hostOffset (s.keyAt off.toNat)) = false ∧
        s.debugOff (s.keyAt off.toNat) = false ∧ regDesc (s.keyAt off.toNat) = some d ∧ d.rc ≠ 0) ∧
    (∃ (off : BitVec 24) (be : BitVec 8), off.toNat < 4194304 ∧ be ≠ 15 ∧ be ≠ 240) ∧
    (∃ (off : BitVec 24), off.toNat < 4194304) ∧
    (∃ (off : BitVec 24), off.toNat < 4194304 ∧ off.toNat % 8 = 0) ∧
    (∃ (off : BitVec 24), 4194304 ≤ off.toNat) ∧
    (∃ (o : Origin) (e : Fin 12) (s : State), s.get (CAP_IDX.SLOT ↑e) ≤ 16 ∧ s.Takes o (CAP_W (↑e) (s.get (CAP_IDX.SLOT ↑e)) 3)) ∧
    (∃ (s : State), s.dbgOn = true ∧ s.eyepiece.drBusy = true) ∧
    (∃ (s : State) (op : BitVec 2), s.dbgOn = true ∧ s.eyepiece.drBusy = false ∧ (op = 0 ∨ op = 3)) ∧
    (∃ (off : BitVec 24) (s : State),
      s.dbgOn = true ∧
        s.eyepiece.drBusy = false ∧
          s.on EYE_CTL.LIVE = false ∧
            off.toNat < 4194304 ∧
              inRegisterBlock (off.toNat / 4 * 4) = true ∧ s.busError Origin.eyepiece false (hostOffset (s.keyAt (off.toNat / 4 * 4))) = false) ∧
    (∃ (off : BitVec 24) (s : State),
      s.dbgOn = true ∧
        s.eyepiece.drBusy = false ∧
          off.toNat < 4194304 ∧
            inRegisterBlock (off.toNat / 4 * 4) = true ∧ s.keyAt (off.toNat / 4 * 4) ∈ plainKeys ∧ s.Takes Origin.eyepiece (s.keyAt (off.toNat / 4 * 4))) ∧
    (∃ (off : BitVec 24) (s : State) (w : Bool),
      s.dbgOn = true ∧ s.eyepiece.drBusy = false ∧ 4194304 ≤ off.toNat ∧ off.toNat < 10485760 ∧ s.busError Origin.eyepiece w (off.toNat / 4 * 4) = false) ∧
    (∃ (s : State), s.on EYE_CTL.LIVE = false) ∧
    (∃ (off : BitVec 24) (s : State),
      s.dbgOn = true ∧
        s.on EYE_CTL.LIVE = true ∧
          s.eyepiece.drBusy = false ∧
            inRegisterBlock (off.toNat / 4 * 4) = true ∧
              s.busError Origin.eyepiece false (hostOffset (s.keyAt (off.toNat / 4 * 4))) = false ∧ s.logRefuses Origin.eyepiece = true) ∧
    (∃ (off : BitVec 24) (s : State) (x : Fin 2),
      s.dbgOn = true ∧
        s.on EYE_CTL.LIVE = true ∧
          s.eyepiece.drBusy = false ∧
            inRegisterBlock (off.toNat / 4 * 4) = true ∧
              s.busError Origin.eyepiece false (hostOffset (s.keyAt (off.toNat / 4 * 4))) = false ∧
                s.logRefuses Origin.eyepiece = false ∧ s.keyAt (off.toNat / 4 * 4) = CST_LNKCNT ↑x) :=
  ⟨⟨0x400000, by decide +kernel⟩,
   ⟨offsetOf QM_QIDX, .host, live.put CLU_STAT.STATE 7, by decide +kernel⟩,
   ⟨offsetOf EYE_EIDX, .assistant, live, by simp only [takes_iff, forall_some_iff]; decide +kernel⟩,
   ⟨offsetOf (CST_LNKCNT 1), live, descOf (CST_LNKCNT 1), by decide +kernel⟩,
   ⟨0, 0xF1, by decide +kernel⟩,
   ⟨0x3FFFFC, by decide +kernel⟩,
   ⟨0x3FFFF8, by decide +kernel⟩,
   ⟨0x400000, by decide +kernel⟩,
   ⟨.assistant, 0, live, by simp only [takes_iff, forall_some_iff]; decide +kernel⟩,
   ⟨{ live with eyepiece := { live.eyepiece with drBusy := true } }, by decide +kernel⟩,
   ⟨live, 3, by decide +kernel⟩,
   ⟨offsetOf EYE_EIDX, live, by decide +kernel⟩,
   ⟨offsetOf EYE_EIDX, session none, by simp only [takes_iff, forall_some_iff]; decide +kernel⟩,
   ⟨0x490010, live, true, by decide +kernel⟩,
   ⟨live, by decide +kernel⟩,
   ⟨offsetOf EYE_EIDX, strictFull.put EYE_CTL.LIVE 1, by decide +kernel⟩,
   ⟨offsetOf (CST_LNKCNT 1), live.put EYE_CTL.LIVE 1, 1, by decide +kernel⟩⟩

theorem witness_UnassignedOffsets :
    (∃ (off : BitVec 24) (o : Origin) (s : State),
      off.toNat < 4194304 ∧ s.Unassigned (off.toNat / 4 * 4) ∧ s.busError o true (off.toNat / 4 * 4) = false ∧ s.debugOff (off.toNat / 4 * 4) = false) ∧
    (∃ (off : BitVec 24) (s : State), off.toNat < 4194304 ∧ s.Unassigned (off.toNat / 4 * 4) ∧ s.hostError false (off.toNat / 4 * 4) = false) ∧
    (∃ (off : BitVec 24) (s : State),
      off.toNat < 4194304 ∧
        s.Unassigned (off.toNat / 4 * 4) ∧
          s.dbgOn = true ∧ s.eyepiece.drBusy = false ∧ s.on EYE_CTL.LIVE = false ∧ s.busError Origin.eyepiece false (off.toNat / 4 * 4) = false) :=
  ⟨⟨0xF94, .assistant, live, by simp only [State.Unassigned]; decide +kernel⟩,
   ⟨0xF94, live, by simp only [State.Unassigned]; decide +kernel⟩,
   ⟨0xF94, live, by simp only [State.Unassigned]; decide +kernel⟩⟩

theorem witness_RingRule :
    (∃ (off : BitVec 24) (o : Origin) (d : RegDesc) (r : ℕ) (s : State),
      inRegisterBlock (off.toNat / 4 * 4) = true ∧
        regDesc (s.keyAt (off.toNat / 4 * 4)) = some d ∧
          s.ringOf o = some r ∧ s.busError o true (hostOffset (s.keyAt (off.toNat / 4 * 4))) = false ∧ d.ring < r) ∧
    (∃ (off : BitVec 24) (o : Origin) (d : RegDesc) (r : ℕ) (s : State),
      inRegisterBlock (off.toNat / 4 * 4) = true ∧
        regDesc (s.keyAt (off.toNat / 4 * 4)) = some d ∧
          s.ringOf o = some r ∧
            s.busError o true (hostOffset (s.keyAt (off.toNat / 4 * 4))) = false ∧
              r ≤ d.ring ∧
                s.keyAt (off.toNat / 4 * 4) ∈ plainKeys ∧ s.debugOff (s.keyAt (off.toNat / 4 * 4)) = false ∧ (d.logged = true → s.logRefuses o = false)) :=
  ⟨⟨offsetOf CST_CFG, .host, descOf CST_CFG, 2, live, by decide +kernel⟩,
   ⟨offsetOf QM_QIDX, .host, descOf QM_QIDX, 2, live, by decide +kernel⟩⟩

theorem witness_Security :
    (∃ (bits : BitVec 8) (s : State), (∀ (b : ℕ), ¬s.NewTamper bits b) ∨ s.TamperTakes bits 0) ∧
    (∃ (bits : BitVec 8) (s : State) (act : ℕ), (act = 1 ∨ act = 2) ∧ s.TamperTakes bits act ∧ s.ifcOn = true) ∧
    (∃ (bits : BitVec 8) (s : State), s.TamperTakes bits 3) ∧
    (∃ (bits : BitVec 8) (s : State), s.TamperTakes bits 4) ∧
    (∃ (o : Origin) (v : Word) (s : State),
      s.Takes o SEC_TAMPER_POL ∧
        (s.get SEC_LCS.STATE ≠ 1 ∧ s.get SEC_LCS.STATE ≠ 2) ∧
          ((∃ b < 8, 4 < (fun (b : ℕ) => BitVec.toNat v / 2 ^ (3 * b) % 8) b) ∨
            ∃ b < 8, (fun (b : ℕ) => BitVec.toNat v / 2 ^ (3 * b) % 8) b < (fun (b : ℕ) => BitVec.toNat (s.reg SEC_TAMPER_POL) / 2 ^ (3 * b) % 8) b)) ∧
    (∃ (o : Origin) (v : Word) (s : State),
      s.Takes o SEC_TAMPER_POL ∧
        ¬((s.get SEC_LCS.STATE ≠ 1 ∧ s.get SEC_LCS.STATE ≠ 2) ∧
            ((∃ b < 8, 4 < (fun (b : ℕ) => BitVec.toNat v / 2 ^ (3 * b) % 8) b) ∨
              ∃ b < 8, (fun (b : ℕ) => BitVec.toNat v / 2 ^ (3 * b) % 8) b < (fun (b : ℕ) => BitVec.toNat (s.reg SEC_TAMPER_POL) / 2 ^ (3 * b) % 8) b))) ∧
    (∃ (n : Fin 8) (o : Origin) (v : Word) (s : State),
      s.TakesBinding o (↑n) v ∧
        s.on (SEC_AUTHQ.EN ↑n) = true ∧
          (BitVec.toNat v / 2 ^ 10 % 2 ^ 20 ≠ BitVec.toNat (s.reg (SEC_AUTHQ ↑n)) / 2 ^ 10 % 2 ^ 20 ∨ BitVec.toNat v % 64 ≠ s.get (SEC_AUTHQ.SLOT ↑n))) ∧
    (∃ (n : Fin 8) (o : Origin) (v : Word) (s : State),
      s.TakesBinding o (↑n) v ∧
        ¬(s.on (SEC_AUTHQ.EN ↑n) = true ∧
              (BitVec.toNat v / 2 ^ 10 % 2 ^ 20 ≠ BitVec.toNat (s.reg (SEC_AUTHQ ↑n)) / 2 ^ 10 % 2 ^ 20 ∨
                BitVec.toNat v % 64 ≠ s.get (SEC_AUTHQ.SLOT ↑n))) ∧
          BitVec.getLsbD v 31 = false) ∧
    (∃ (n : Fin 8) (o : Origin) (v : Word) (s : State),
      s.TakesBinding o (↑n) v ∧
        ¬(s.on (SEC_AUTHQ.EN ↑n) = true ∧
              (BitVec.toNat v / 2 ^ 10 % 2 ^ 20 ≠ BitVec.toNat (s.reg (SEC_AUTHQ ↑n)) / 2 ^ 10 % 2 ^ 20 ∨
                BitVec.toNat v % 64 ≠ s.get (SEC_AUTHQ.SLOT ↑n))) ∧
          BitVec.getLsbD v 31 = true ∧ ¬s.Binds (BitVec.toNat v / 2 ^ 10 % 1024) (BitVec.toNat v / 2 ^ 20 % 1024) (BitVec.toNat v % 64)) ∧
    (∃ (n : Fin 8) (o : Origin) (v : Word) (s : State),
      s.TakesBinding o (↑n) v ∧
        ¬(s.on (SEC_AUTHQ.EN ↑n) = true ∧
              (BitVec.toNat v / 2 ^ 10 % 2 ^ 20 ≠ BitVec.toNat (s.reg (SEC_AUTHQ ↑n)) / 2 ^ 10 % 2 ^ 20 ∨
                BitVec.toNat v % 64 ≠ s.get (SEC_AUTHQ.SLOT ↑n))) ∧
          BitVec.getLsbD v 31 = true ∧ s.Binds (BitVec.toNat v / 2 ^ 10 % 1024) (BitVec.toNat v / 2 ^ 20 % 1024) (BitVec.toNat v % 64)) ∧
    (∃ (n : Fin 8) (d : List Byte) (a : ℕ) (s : State), s.Requests (↑n) d a) ∧
    (∃ (n : Fin 8) (s : State), s.security.auth ≠ none ∨ s.on (SEC_AUTHQ.EN ↑n) = false) ∧
    (∃ (s : State), s.security.auth = none) ∧
    (∃ (r : AuthRequest) (s : State),
      s.security.auth = some r ∧
        s.pllsRun = true ∧
          r.desc.length = 32 ∧
            s.Accepts (s.get (SEC_AUTHQ.RESQ r.binding)) ∧
              ¬(s.on (QM_QWM.RETEN (s.get (SEC_AUTHQ.REQQ r.binding))) = true ∧
                  s.get (QM_QWM.RETQ (s.get (SEC_AUTHQ.REQQ r.binding))) = s.get (SEC_AUTHQ.RESQ r.binding))) :=
  ⟨⟨0, live, Or.inl (by simp [State.NewTamper])⟩,
   ⟨0x02, tampered 0o10, 1, by simp only [tamperTakes_iff, State.NewTamper, and_imp, and_assoc]; decide +kernel⟩,
   ⟨0x16, tampered 0o30020, by simp only [tamperTakes_iff, State.NewTamper, and_imp, and_assoc]; decide +kernel⟩,
   ⟨0x16, tampered 0o40020, by simp only [tamperTakes_iff, State.NewTamper, and_imp, and_assoc]; decide +kernel⟩,
   ⟨.assistant, 0, tampered 0o10, by simp only [takes_iff, forall_some_iff]; decide +kernel⟩,
   ⟨.assistant, 0o44444444, tampered 0o10, by simp only [takes_iff, forall_some_iff]; decide +kernel⟩,
   ⟨2, .assistant, 0, bound2, by simp only [takesBinding_iff, forall_some_iff]; decide +kernel⟩,
   ⟨2, .assistant, 0, joined, by simp only [takesBinding_iff, forall_some_iff]; decide +kernel⟩,
   ⟨2, .assistant, bind3, lcs3, by simp only [takesBinding_iff, forall_some_iff, State.Binds]; decide +kernel⟩,
   ⟨2, .assistant, bind3, joined, by simp only [takesBinding_iff, forall_some_iff, State.Binds]; decide +kernel⟩,
   ⟨2, authDesc, 0x8000, requested2, by simp only [requests_iff]; decide +kernel⟩,
   ⟨2, live, Or.inr (by decide +kernel)⟩,
   ⟨live, by decide +kernel⟩,
   ⟨request2, { bound2.put (QM_QRING.RSZ 101) 3 with security := { bound2.security with auth := some request2 } }, by simp only [accepts_iff]; decide +kernel⟩⟩

theorem witness_Logbook :
    (∃ (r : LogRecord) (rest : List LogRecord) (s : State), s.ifcOn = true ∧ s.pllsRun = true ∧ s.log.reserved = r :: rest) ∧
    (∃ (s : State), s.log.reserved = []) ∧
    (∃ (s : State), s.ifcOn = true ∧ s.pllsRun = true ∧ s.reg LOG_LOST ≠ 0 ∧ s.logFull = false) ∧
    (∃ (s : State), s.reg LOG_LOST = 0 ∨ s.logFull = true) ∧
    (∃ (s : State), s.spillDue = true) ∧
    (∃ (s : State), s.spillDue = false) ∧
    (∃ (o : Origin) (s : State), s.Takes o LOG_SPILLRD) ∧
    (∃ (o : Origin) (s : State), s.Takes o LOG_TAIL) :=
  ⟨⟨record0, [], { live with log := { live.log with reserved := [record0] } }, by decide +kernel⟩,
   ⟨live, by decide +kernel⟩,
   ⟨live.setReg LOG_LOST 7, by decide +kernel⟩,
   ⟨live, by decide +kernel⟩,
   ⟨((live.setReg LOG_HEAD 5).setReg LOG_SPILLLEN 64).put LOG_CTL.SPILLEN 1, by decide +kernel⟩,
   ⟨live, by decide +kernel⟩,
   ⟨.assistant, live, by simp only [takes_iff, forall_some_iff]; decide +kernel⟩,
   ⟨.assistant, live, by simp only [takes_iff, forall_some_iff]; decide +kernel⟩⟩

theorem witness_StepRunsFront :
    (∃ (c : Instr) (rest : List Instr) (s : State), s.pending = c :: rest) ∧
    (∃ (s : State), s.pending = []) :=
  ⟨⟨.nop, [], { live with pending := [.nop] }, by decide +kernel⟩,
   ⟨live, by decide +kernel⟩⟩

theorem witness_InvKept :
    ∃ (s : State) (t : State), s.Inv ∧ step s = Host.Outcome.next t :=
  ⟨{ live with pending := [.nop] }, after .nop live, ⟨by decide +kernel, by decide +kernel⟩, rfl⟩

theorem witness_CommandFrames :
    (∃ (c : Instr) (s : State) (t : State) (p : Machine.Part), exec c s = Host.Outcome.next t ∧ p ∉ c.touches) ∧
    (∃ (c : Instr) (s : State) (t : State), exec c s = Host.Outcome.next t) :=
  ⟨⟨.nop, live, after .nop live, .plates, ⟨rfl, by decide +kernel⟩⟩,
   ⟨.nop, live, after .nop live, rfl⟩⟩

/-! ## Ill-formed commands are refused, and the well-formed command beside each is not -/

theorem test_wf_tamper_writes_no_register : (Instr.wf (.clurst .tamper 1), Instr.wf (.clurst .host 1)) = (false, true) := by decide
theorem test_wf_clock_writes_no_register : Instr.wf (.registerWrite 0x1010 .clock 0) = false := by decide
theorem test_wf_lifeCycle_writes_no_register : Instr.wf (.rateWrite .lifeCycle 0) = false := by decide
theorem test_wf_reset_fuses : Instr.wf (.resetReleaseSequence (List.replicate 118 0) (List.replicate 64 0) 0) = false := by decide
theorem test_wf_reset_limits : Instr.wf (.resetReleaseSequence (List.replicate 119 0) (List.replicate 63 0) 0) = false := by decide
theorem test_wf_reset : Instr.wf (.resetReleaseSequence (List.replicate 119 0) (List.replicate 64 0) 0) = true := by decide
theorem test_wf_stability_order : (Instr.wf (.stabilityCheckComplete 0 2 1), Instr.wf (.stabilityCheckComplete 0 1 1)) = (false, true) := by decide
theorem test_wf_napExit_writer : (Instr.wf (.napExit (some (.clock, 0))), Instr.wf (.napExit none)) = (false, true) := by decide
theorem test_wf_read_carries_no_beat : Instr.wf (.hostTransaction 0 false false 0x0F [1] .alone) = false := by decide
theorem test_wf_write_carries_a_beat : Instr.wf (.hostTransaction 0 true false 0x0F [] .alone) = false := by decide
theorem test_wf_burst_carries_four :
    (Instr.wf (.hostPlateAccess 0x400000 true true 0xFF [1] .alone), Instr.wf (.hostPlateAccess 0x400000 true true 0xFF [1, 2, 3, 4] .alone)) =
      (false, true) := by decide
theorem test_wf_burst_goes_to_plates : Instr.wf (.hostTransaction 0x1000 true true 0xFF [1, 2, 3, 4] .alone) = false := by decide
theorem test_wf_burst_is_aligned : Instr.wf (.hostPlateAccess 0x400008 true true 0xFF [1, 2, 3, 4] .alone) = false := by decide
theorem test_wf_trigger_samples :
    (Instr.wf (.frontTrigger 0 30 (List.replicate 26 0) false), Instr.wf (.frontTrigger 0 30 (List.replicate 27 0) false)) = (false, true) := by
  decide
theorem test_wf_record_samples :
    (Instr.wf (.arrivalRecord 0 (List.replicate 63 0)), Instr.wf (.arrivalRecord 0 (List.replicate 64 0))) = (false, true) := by decide

/-! ## Results computed by hand from the tables of 05 (ALU encodings under R252, R253; shifter under R251) -/

/-- Engine 0 at a datapath microword that takes r2 and r3, writes a register and updates all four condition codes. -/
def datapath (alu : Nat) (a b : Word) (dst : Nat := 4) (shf : Nat := 0) : State :=
  ((at1 { nop with alu := alu, asrc := 2, bsrc := 3, dst := dst, ccu := 2, shf := shf }).setGpr 0 1 2 a).setGpr 0 1 3 b

/-- A register after a command, and Z + 2 N + 4 C + 8 V. -/
def answer (i : Instr) (s : State) (r : Nat := 4) : Word × Nat := ((after i s).gpr 0 1 r, ((after i s).bank 0 1).cc.toNat % 16)

theorem test_add_wraps : answer (.add 0) (datapath 0x03 0xFFFFFFFF 1) = (0, 5) := by decide +kernel
theorem test_add_overflows : answer (.add 0) (datapath 0x03 0x7FFFFFFF 1) = (0x80000000, 10) := by decide +kernel
theorem test_sub_borrows : answer (.sub 0) (datapath 0x05 0 1) = (0xFFFFFFFF, 2) := by decide +kernel
theorem test_sub_into_its_source : answer (.sub 0) (datapath 0x05 5 5 2) 2 = (0, 5) := by decide +kernel
theorem test_rsb_is_b_less_a : answer (.rsb 0) (datapath 0x07 3 10) = (7, 4) := by decide +kernel
theorem test_neg_of_the_least : answer (.neg 0) (datapath 0x0D 0 0x80000000) = (0x80000000, 10) := by decide +kernel
theorem test_andn_complements_b : answer (.andn 0) (datapath 0x0B 0xFF 0x0F) = (0xF0, 0) := by decide +kernel
theorem test_min_is_signed : answer (.min 0) (datapath 0x0E 1 0xFFFFFFFF) = (0xFFFFFFFF, 2) := by decide +kernel
theorem test_minu_is_unsigned : answer (.minu 0) (datapath 0x10 1 0xFFFFFFFF) = (1, 0) := by decide +kernel
theorem test_mulh_is_signed : answer (.mulh 0) (datapath 0x15 0xFFFFFFFF 0xFFFFFFFF) = (0, 1) := by decide +kernel
theorem test_mulhu_is_unsigned : answer (.mulhu 0) (datapath 0x16 0xFFFFFFFF 0xFFFFFFFF) = (0xFFFFFFFE, 2) := by decide +kernel
theorem test_clz_of_zero : answer (.clz 0) (datapath 0x17 7 0) = (32, 0) := by decide +kernel
theorem test_sar_carries_the_last_bit_out : answer (.sar 0) (datapath 0x1E 0x80000001 1) = (0xC0000000, 6) := by decide +kernel
theorem test_ror_by_none_sets_carry : answer (.ror 0) (datapath 0x1F 0x80000000 0) = (0x80000000, 6) := by decide +kernel
theorem test_csum16_carries_around : answer (.csum16 0) (datapath 0x20 0x1FFFF 0x30001) = (1, 0) := by decide +kernel
theorem test_passb_swaps_bytes : answer (.passb 0) (datapath 0x02 0 0x12345678 4 0x20) = (0x78563412, 0) := by decide +kernel

/-! ## Published vectors: CRC-32 of "123456789"; SHA-256 of "abc" (FIPS 180-4); AES-128 (FIPS 197, C.1) -/

theorem test_crc32 : crc32 [0x31, 0x32, 0x33, 0x34, 0x35, 0x36, 0x37, 0x38, 0x39] = 0xCBF43926 := by decide +kernel
theorem test_sha256 : sha256 [0x61, 0x62, 0x63] = 0xBA7816BF8F01CFEA414140DE5DAE2223B00361A396177A9CB410FF61F20015AD := by decide +kernel
theorem test_aes128 : ofBeBytes (aes ((List.range 16).map (BitVec.ofNat 8)) ((List.range 16).map fun i => BitVec.ofNat 8 (17 * i))) =
    0x69C4E0D86A7B0430D8CDB78070B4C55A := by decide +kernel

end Sys2Proof.Tests
end

section
/-! PROOFS. The rules of the host window that hold at every offset: unassigned offsets read 0 and ignore writes (00 R8), and a ring that is
too high meets only a refusal (00 R9, R10). First the facts about the window's accesses that these rest on: the key that an offset
reaches, what a refused write leaves, when a write reaches the register's own rules, and what reads go through (21 R936 to R940). -/

namespace Sys2Proof.Machine

/-! ## Keys and the register table -/

/-- A key that an offset can reach: the offset itself, or one above the window, of a register behind an index register. -/
def Reaches (off key : Nat) : Prop := key = off ∨ 0x1000000 ≤ key

theorem State.reaches_portKey (s : State) (off : Nat) : Reaches off (s.portKey off) := by
  unfold State.portKey FPT_FRW0 FPT_GENT FPT_FTW0 FPT_RCVCFG FPT_CNT
  repeat' with_reducible refine iteInduction (motive := Reaches off) (fun _ => ?_) (fun _ => ?_)
  all_goals unfold Reaches; omega

theorem State.reaches_keyAt (s : State) (off : Nat) : Reaches off (s.keyAt off) := by
  have hport := s.reaches_portKey off
  unfold State.keyAt SEC_SLOT ADM_FSTATE ADM_FBOUND RGL_PINCAL CDR_EPH_LO CDR_EPH_HI AST_OT0 QM_QRING QM_PBASE QM_PCFG CST_CHCFG CAP_W
  dsimp only
  repeat' with_reducible refine iteInduction (motive := Reaches off) (fun _ => ?_) (fun _ => ?_)
  all_goals unfold Reaches at *; omega

theorem State.keyAt_eq_self {s : State} {off : Nat} (h : s.keyAt off < 0x1000000) : s.keyAt off = off :=
  (s.reaches_keyAt off).resolve_right (by omega)

theorem hostOffset_of_lt {key : Nat} (h : key < 0x1000000) : hostOffset key = key := if_pos h

/-- An unassigned offset is its own key, and the host window reaches it at itself. -/
theorem State.Unassigned.key_eq {s : State} {off : Nat} (h : s.Unassigned off) :
    s.keyAt off = off ∧ hostOffset off = off ∧ regDesc off = none := by
  obtain ⟨-, hlt, hnone⟩ := h
  have hkey := State.keyAt_eq_self hlt
  rw [hkey] at hlt hnone
  exact ⟨hkey, hostOffset_of_lt hlt, hnone⟩

theorem lt_of_inRegisterBlock {off : Nat} (h : inRegisterBlock off = true) : off < 0x40000 := by
  simp only [inRegisterBlock, Bool.or_eq_true, Bool.and_eq_true, decide_eq_true_eq] at h
  omega

theorem authq_isSome : ∀ i : Fin 8, (regDesc (SEC_AUTHQ i)).isSome = true := by decide +kernel

theorem eyeEdata_isSome : (regDesc EYE_EDATA).isSome = true := by decide +kernel

theorem pcapCyc_isSome : ∀ n : Fin 4, (regDesc (CDR_PCAP_CYC n)).isSome = true := by decide +kernel

theorem wcsD_isSome : ∀ (e : Fin 12) (i : Fin 5), (regDesc (WCS_D e i)).isSome = true := by decide +kernel

theorem capture_isSome : ∀ (e : Fin 12) (n : Fin 4), (regDesc (TMR_CAPR e n)).isSome = true ∧ (regDesc (TMR_CAPF e n)).isSome = true := by
  decide +kernel

/-- A key without a register is not that of any register. -/
theorem ne_of_regDesc_none {key k : Nat} (h : regDesc key = none) (hk : (regDesc k).isSome = true) : key ≠ k := by
  rintro rfl
  simp [h] at hk

/-- Every key at the authentication bindings has ring 2 in the table; their own rule may ask for less (18 R870). -/
theorem minRing_of_authq {key : Nat} (h : SEC_AUTHQ 0 ≤ key ∧ key ≤ SEC_AUTHQ 7) : minRing key = 2 := by
  have table : ∀ i : Fin 29, minRing (SEC_AUTHQ 0 + i) = 2 := by decide +kernel
  simp only [SEC_AUTHQ] at h table
  have hi := table ⟨key - 0x2080, by omega⟩
  rwa [show 0x2080 + 0x4 * 0 + (key - 0x2080) = key by omega] at hi

theorem minRing_of_regDesc {key : Nat} {d : RegDesc} (h : regDesc key = some d) : minRing key = d.ring := by
  simp [minRing, h]

theorem minRing_of_none {key : Nat} (h : regDesc key = none) : minRing key = 2 := by
  simp [minRing, h]

/-! ## Rings -/

/-- No master has a ring above 2 (09 R467). -/
theorem State.ringOf_le_two {s : State} {o : Origin} {r : Nat} (h : s.ringOf o = some r) : r ≤ 2 := by
  cases o with
  | host | assistant | shutter | loader =>
    cases h
    decide
  | eyepiece =>
    cases h
    split <;> decide
  | engine | peer | tamper | clock | lifeCycle | cstLink => cases h

theorem State.ringDenies_eq_true {s : State} {o : Origin} {ring r : Nat} (h : s.ringOf o = some r) (hr : ring < r) :
    s.ringDenies o ring = true := by
  simp [State.ringDenies, h, hr]

theorem State.ringDenies_eq_false {s : State} {o : Origin} {ring : Nat} (h : ∀ r, s.ringOf o = some r → r ≤ ring) :
    s.ringDenies o ring = false := by
  unfold State.ringDenies
  cases hr : s.ringOf o with
  | none => rfl
  | some r => simpa using h r hr

theorem State.ringNeeded_eq_minRing {s : State} {key : Nat} {v : Word} (h : ¬ (SEC_AUTHQ 0 ≤ key ∧ key ≤ SEC_AUTHQ 7)) :
    s.ringNeeded key v = minRing key := if_neg h

/-! ## Answers and records -/

theorem answered_respond (s : State) (o : Origin) (resp : Nat) : Answered o (s.respond o resp) resp := by
  cases o <;> simp [Answered, State.respond]

/-- What keeps every part but the answers, and every register but the count of lost records, changes nothing else. -/
theorem onlyRegs_of_keeps {s t : State} (h : Keeps (· = .answers) s t) (hr : ∀ k, k ≠ LOG_LOST → t.reg k = s.reg k) :
    OnlyRegs [] s t :=
  ⟨h.parts, fun k hk => hr k (by simpa using hk)⟩

theorem onlyRegs_respond (s : State) (o : Origin) (resp : Nat) : OnlyRegs [] s (s.respond o resp) :=
  onlyRegs_of_keeps (State.respond_keeps _ _ _ (Keeps.refl s) rfl) fun k _ => State.reg_of_regs (by simp) k

theorem onlyRegs_answer (s : State) (o : Origin) (resp : Nat) (v : Word) : OnlyRegs [] s (s.answer o resp v) :=
  onlyRegs_of_keeps (State.answer_keeps _ _ _ _ (Keeps.refl s) rfl) fun k _ => State.reg_of_regs (by simp) k

theorem State.logChange_reg (s : State) (origin kind fcode : Nat) (refused : Bool) (object value aux k : Nat) (h : k ≠ LOG_LOST) :
    (s.logChange origin kind fcode refused object value aux).reg k = s.reg k := by
  unfold State.logChange
  split
  · rw [State.count, State.reg_put_other _ _ _ _ h]
    split <;> rfl
  · rfl

theorem State.logWrite_reg (s : State) (o : Origin) (key : Nat) (v : Word) (refused : Bool) (fcode k : Nat) (h : k ≠ LOG_LOST) :
    (s.logWrite o key v refused fcode).reg k = s.reg k := by
  unfold State.logWrite
  split
  · exact s.logChange_reg _ _ _ _ _ _ _ k h
  · rfl

theorem onlyRegs_logWrite_respond (s : State) (o : Origin) (key : Nat) (v : Word) (refused : Bool) (fcode resp : Nat) :
    OnlyRegs [] s ((s.logWrite o key v refused fcode).respond o resp) :=
  onlyRegs_of_keeps (State.respond_keeps _ _ _ (State.logWrite_keeps _ _ _ _ _ _ (Keeps.refl s) rfl) rfl) fun k hk =>
    (State.reg_of_regs (by simp) k).trans (s.logWrite_reg o key v refused fcode k hk)

theorem State.logWrite_of_none {s : State} {key : Nat} (h : regDesc key = none) (o : Origin) (v : Word) (refused : Bool) (fcode : Nat) :
    s.logWrite o key v refused fcode = s := by
  simp [State.logWrite, h]

/-! ## Writes -/

theorem exec_registerWrite (off : BitVec 24) (o : Origin) (v : Word) (s : State) :
    exec (.registerWrite off o v) s = .next (s.writeOffset o (off.toNat / 4 * 4) v) := rfl

theorem State.writeOffset_inBlock {s : State} {off : Nat} (h : inRegisterBlock off = true) (o : Origin) (v : Word) :
    s.writeOffset o off v = s.writeKey o (s.keyAt off) v := if_pos h

/-- The ring rule: a write that no ERROR stops is refused where the writer's ring is too high, whether or not the strict policy has
refused it before (00 R10, 21 R940). -/
theorem State.writeAs_refused_of_ring {s : State} {o : Origin} {ring key : Nat} (hbus : s.busError o true (hostOffset key) = false)
    (hring : s.ringDenies o ring = true) (v : Word) (act : State → Effect) : Refused o s (s.writeAs o ring key v act) := by
  unfold State.writeAs
  rw [if_neg (by simp [hbus])]
  split
  · exact ⟨onlyRegs_respond s o _, answered_respond _ o _⟩
  · rw [if_pos (by simp [hring])]
    exact ⟨onlyRegs_logWrite_respond s o key v true 0 _, answered_respond _ o _⟩

/-- A write that is taken has the effect of the register's own rules, its record, and their response. -/
theorem State.Takes.writeKey_eq {s : State} {o : Origin} {key : Nat} {v : Word} (h : s.Takes o key)
    (hr : s.ringNeeded key v = minRing key) :
    s.writeKey o key v =
      let e := registerRules key o v s
      (e.after (e.state.logWrite o key v e.refused e.fcode)).respond o e.resp := by
  obtain ⟨hbus, hstrict, hring, hdebug⟩ := h
  unfold State.writeKey State.writeAs
  rw [if_neg (by simp [hbus]), if_neg (by simpa using hstrict), hr, State.ringDenies_eq_false hring, if_neg (by simp [hdebug])]

theorem registerRules_of_none {key : Nat} (h : regDesc key = none) (o : Origin) (v : Word) (s : State) :
    registerRules key o v s = .ok s := if_pos (by simp [h])

/-- The access codes are the only rules of these registers. -/
theorem registerRules_of_plain {key : Nat} (h : key ∈ plainKeys) (o : Origin) (v : Word) (s : State) :
    registerRules key o v s = writePlain key v s := by
  simp only [plainKeys, List.mem_cons, List.not_mem_nil, or_false] at h
  rcases h with rfl | rfl | rfl | rfl | rfl | rfl | rfl | rfl | rfl <;> rfl

theorem not_authq_of_plain {key : Nat} (h : key ∈ plainKeys) : ¬ (SEC_AUTHQ 0 ≤ key ∧ key ≤ SEC_AUTHQ 7) := by
  have table : ∀ k ∈ plainKeys, ¬ (SEC_AUTHQ 0 ≤ k ∧ k ≤ SEC_AUTHQ 7) := by decide
  exact table key h

theorem State.Takes.writeKey_plain {s : State} {o : Origin} {key : Nat} (h : s.Takes o key) (hk : key ∈ plainKeys) (v : Word) :
    s.writeKey o key v = ((s.plainWrite key v).logWrite o key v false 0).respond o respOk := by
  rw [h.writeKey_eq (State.ringNeeded_eq_minRing (not_authq_of_plain hk)), registerRules_of_plain hk]
  rfl

/-- A taken write to a key without a register is answered OK and does nothing more (00 R8). -/
theorem State.Takes.writeKey_of_none {s : State} {o : Origin} {key : Nat} {v : Word} (h : s.Takes o key) (hnone : regDesc key = none)
    (hr : s.ringNeeded key v = minRing key) : s.writeKey o key v = s.respond o respOk := by
  rw [h.writeKey_eq hr, registerRules_of_none hnone]
  simp only [Effect.ok, State.logWrite_of_none hnone]
  rfl

/-! ## Reads -/

theorem State.regValue_of_none {s : State} {key : Nat} (hlt : key < 0x1000000) (h : regDesc key = none) : s.regValue key = 0 := by
  rw [State.regValue, if_neg (by omega), if_pos (by simp [h])]

theorem State.clearRead_of_none {s : State} {key : Nat} (h : regDesc key = none) : s.clearRead key = s := by
  simp [State.clearRead, h]

/-- A key without a register reads 0 with response OK and without side effect, in every block (00 R8): it is none of the registers that
have rules of their own for a read. -/
theorem State.readKey_of_none {s : State} {key : Nat} (hlt : key < 0x40000) (h : regDesc key = none) (quiet captureInTick : Bool) :
    s.readKey quiet captureInTick key = (respOk, 0, s) := by
  have hedata : key ≠ EYE_EDATA := ne_of_regDesc_none h eyeEdata_isSome
  have hpcap : ¬ (CDR_PT_CTL 0 ≤ key ∧ key < CDR_PT_CTL 4 ∧ key % 64 = 0x24) := by
    simp only [CDR_PT_CTL]
    intro hr
    refine ne_of_regDesc_none h (pcapCyc_isSome ⟨(key - 0x5100) / 64, by omega⟩) ?_
    simp only [CDR_PCAP_CYC]
    omega
  have hwcs : ¬ (0x10000 ≤ key ∧ key < 0x1000000 ∧ 0x24 ≤ key % 0x4000 ∧ key % 0x4000 ≤ 0x34 ∧ key % 0x4000 % 4 = 0) := by
    intro hr
    refine ne_of_regDesc_none h (wcsD_isSome ⟨(key - 0x10000) / 0x4000, by omega⟩ ⟨(key % 0x4000 - 0x24) / 4, by omega⟩) ?_
    simp only [WCS_D]
    omega
  have hcap : ¬ (0x10000 ≤ key ∧ key < 0x1000000 ∧ 0x100 ≤ key % 0x4000 ∧ key % 0x4000 < 0x180 ∧
      (key % 0x4000 % 32 = 0xC ∨ key % 0x4000 % 32 = 0x10)) := by
    rintro ⟨h0, h1, h2, h3, hr⟩
    obtain ⟨hR, hF⟩ := capture_isSome ⟨(key - 0x10000) / 0x4000, by omega⟩ ⟨(key % 0x4000 - 0x100) / 32, by omega⟩
    rcases hr with hr | hr
    · refine ne_of_regDesc_none h hR ?_
      simp only [TMR_CAPR]
      omega
    · refine ne_of_regDesc_none h hF ?_
      simp only [TMR_CAPF]
      omega
  have hvalue : s.regValue key = 0 := State.regValue_of_none (by omega) h
  by_cases hdebug : s.debugOff key = true
  · exact if_pos hdebug
  · simp only [State.readKey, if_neg hdebug, if_neg hedata, if_neg hpcap, if_neg hwcs, if_neg hcap, hvalue, State.clearRead_of_none h,
      ite_self]

/-- A read of a key without a register that no ERROR stops answers 0 with response OK. -/
theorem State.readBy_of_none {s : State} {o : Origin} {key : Nat} (hbus : s.busError o false (hostOffset key) = false)
    (hlt : key < 0x40000) (h : regDesc key = none) (quiet captureInTick : Bool) :
    s.readBy o quiet captureInTick key = s.answer o respOk 0 := by
  rw [State.readBy, if_neg (by simp [hbus]), State.readKey_of_none hlt h]

/-- The single beat of a read at an offset: the byte enables that name its word give the word's own offset (log entry 64). -/
theorem wordOffset_of_beat (off : Nat) :
    wordOffset off (if off / 4 % 2 = 0 then 0x0F else 0xF0 : BitVec 8).toNat = some (off / 4 * 4) := by
  split <;> exact congrArg some (by omega)

theorem exec_hostTransaction (off : BitVec 24) (write burst : Bool) (be : BitVec 8) (data : List DWord) (meet : Meeting) (s : State) :
    exec (.hostTransaction off write burst be data meet) s = .next (s.hostTransaction off.toNat write burst be.toNat data meet) := rfl

/-- A single-beat read of a word in a register block is a read of its register by the host. -/
theorem exec_hostTransaction_read {off : BitVec 24} {s : State} (hoff : off.toNat < 0x400000)
    (h : inRegisterBlock (off.toNat / 4 * 4) = true) (meet : Meeting) :
    exec (.hostTransaction off false false (if off.toNat / 4 % 2 = 0 then 0x0F else 0xF0) [] meet) s =
      .next (s.readBy .host false (meet != .alone) (s.keyAt (off.toNat / 4 * 4))) := by
  rw [exec_hostTransaction, State.hostTransaction, if_neg (by omega), wordOffset_of_beat]
  simp [h]

/-- Where no live read is armed, the Eyepiece reads a word in a register block quietly (19 R915). -/
theorem State.eyeRead_quiet {s : State} {off : Nat} (hlive : s.on EYE_CTL.LIVE = false) (h : inRegisterBlock off = true)
    (captureInTick : Bool) : s.eyeRead off captureInTick = s.readBy .eyepiece true false (s.keyAt off) := by
  rw [State.eyeRead, if_neg (by simp [hlive]), if_pos h]

theorem exec_eyeDrUpdate (op : BitVec 2) (off : BitVec 24) (d : Word × Bool) (s : State) :
    exec (.eyeDrUpdate true op off d) s = .next (s.debugPower.updateDr op.toNat off.toNat d.1 d.2) := rfl

/-- The state with the address and operation of an Update-DR in EYE_DR (19 R890). -/
def State.drTaken (s : State) (op addr : Nat) : State := { s with eyepiece := { s.eyepiece with drAddr := addr, drOp := op } }

/-- An Update-DR of a read below the plates, with the debug domain on and no access under way, is the Eyepiece's read of the word. -/
theorem exec_eyeDrUpdate_read {off : BitVec 24} {s : State} (hoff : off.toNat < 0x400000) (hdbg : s.dbgOn = true)
    (hfree : s.eyepiece.drBusy = false) (v : Word) (meets : Bool) :
    exec (.eyeDrUpdate true 1 off (v, meets)) s = .next ((s.drTaken 1 off.toNat).eyeRead (off.toNat / 4 * 4) meets) := by
  have hpower : s.debugPower = s := if_pos hdbg
  rw [exec_eyeDrUpdate, hpower, State.updateDr, if_neg (by simp [hfree])]
  simp only [if_pos (show off.toNat / 4 * 4 < 0x400000 by omega)]
  rfl

/-! ## Unassigned offsets (00 R8) -/

/-- At an aligned unassigned offset every writer has the ring that a write needs: it is none of the authentication bindings. -/
theorem State.Unassigned.ringNeeded_eq {s : State} {off : Nat} (h : s.Unassigned off) (halign : off % 4 = 0) (v : Word) :
    s.ringNeeded off v = minRing off := by
  obtain ⟨-, -, hnone⟩ := h.key_eq
  refine State.ringNeeded_eq_minRing fun hauthq => ?_
  simp only [SEC_AUTHQ] at hauthq
  refine ne_of_regDesc_none hnone (authq_isSome ⟨(off - 0x2080) / 4, by omega⟩) ?_
  simp only [SEC_AUTHQ]
  omega

theorem State.Unassigned.takes {s : State} {off : Nat} (h : s.Unassigned off) {o : Origin} (hbus : s.busError o true off = false)
    (hdebug : s.debugOff off = false) : s.Takes o off := by
  obtain ⟨-, hoff, hnone⟩ := h.key_eq
  exact ⟨hoff.symm ▸ hbus, by simp [hnone], fun r hr => minRing_of_none hnone ▸ State.ringOf_le_two hr, hdebug⟩

theorem State.Unassigned.writeOffset_eq {s : State} {off : Nat} (h : s.Unassigned off) (halign : off % 4 = 0) {o : Origin}
    (hbus : s.busError o true off = false) (hdebug : s.debugOff off = false) (v : Word) :
    s.writeOffset o off v = s.respond o respOk := by
  obtain ⟨hkey, -, hnone⟩ := h.key_eq
  rw [State.writeOffset_inBlock h.1, hkey, (h.takes hbus hdebug).writeKey_of_none hnone (h.ringNeeded_eq halign v)]

theorem State.Unassigned.readBy_eq {s : State} {off : Nat} (h : s.Unassigned off) {o : Origin} (hbus : s.busError o false off = false)
    (quiet captureInTick : Bool) : s.readBy o quiet captureInTick off = s.answer o respOk 0 := by
  obtain ⟨-, hoff, hnone⟩ := h.key_eq
  exact State.readBy_of_none (hoff.symm ▸ hbus) (lt_of_inRegisterBlock h.1) hnone quiet captureInTick

/-- Settles O53: an unassigned offset is its own key, has no row in the register table, and so every write of it comes to the bare
response and every read to 0. -/
theorem unassignedOffsets : Obligations.UnassignedOffsets := by
  unfold Obligations.UnassignedOffsets
  intro off o v meet meets s hoff a hun
  have hkey := hun.key_eq.1
  refine ⟨fun hbus hdebug => ?_, fun herr => ?_, fun hdbg hfree hlive hbus => ?_⟩
  · rw [exec_registerWrite, hun.writeOffset_eq (Nat.mul_mod_left _ 4) hbus hdebug]
    exact ⟨_, rfl, answered_respond s o 0, onlyRegs_respond s o 0⟩
  · rw [exec_hostTransaction_read hoff hun.1, hkey, hun.readBy_eq (o := .host) herr]
    exact ⟨_, rfl, rfl, rfl, onlyRegs_answer s .host 0 0⟩
  · have hun' : (s.drTaken 1 off.toNat).Unassigned a := hun
    have hbus' : (s.drTaken 1 off.toNat).busError .eyepiece false a = false := hbus
    rw [exec_eyeDrUpdate_read hoff hdbg hfree, State.eyeRead_quiet (s := s.drTaken 1 off.toNat) hlive hun.1, hun'.key_eq.1, hun'.readBy_eq hbus']
    exact ⟨_, rfl, rfl, rfl, rfl⟩

/-! ## The ring rule (00 R9, R10) -/

/-- The ring that a register's table row gives is the ring that a write needs, for every row that a writer's ring can exceed. -/
theorem State.ringNeeded_of_lt {s : State} {o : Origin} {key r : Nat} {d : RegDesc} (hd : regDesc key = some d)
    (hr : s.ringOf o = some r) (hlt : d.ring < r) (v : Word) : s.ringNeeded key v = d.ring := by
  rw [← minRing_of_regDesc hd] at hlt ⊢
  refine State.ringNeeded_eq_minRing fun hauthq => ?_
  have htwo := minRing_of_authq hauthq
  have hle := State.ringOf_le_two hr
  omega

/-- Settles O54: the ring rule comes before the register's own rules, so a ring that is too high meets only a refusal, and one that is
not reaches the access codes of a plain register, which accept. -/
theorem ringRule : Obligations.RingRule := by
  unfold Obligations.RingRule
  intro off o v d r s a key hblock hd hr hbus
  rw [exec_registerWrite, State.writeOffset_inBlock hblock]
  refine ⟨fun hlt => ⟨_, rfl, ?_⟩, fun hle hplain hdebug hlog => ⟨_, rfl, ?_⟩⟩
  · have hneeded : s.ringNeeded key v = d.ring := State.ringNeeded_of_lt hd hr hlt v
    exact State.writeAs_refused_of_ring hbus (hneeded ▸ State.ringDenies_eq_true hr hlt) v _
  · have htakes : s.Takes o key :=
      { bus := hbus
        strict := by simpa [hd] using hlog
        ring := fun r' hr' => by
          rw [minRing_of_regDesc hd, ← Option.some.inj (hr.symm.trans hr')]
          exact hle
        debug := hdebug }
    rw [htakes.writeKey_plain hplain]
    exact answered_respond _ o _

end Sys2Proof.Machine
end

section
/-! PROOFS. The handoff slots (01 R20 to R23): PUT and TAKE. First what they rest on, said once for every queue operation: a command
judged in its tick, DST and the condition codes after a microword, and what an unhindered microword with no other operation than those of
the QOP, ALU and SEQ fields leaves. -/

namespace Sys2Proof.Machine

/-! ## A command in its tick (log entry 82) -/

/-- The state in which a command of a tick runs: it sees what the commands before it in the tick have done. -/
def State.openTick (s : State) (same : Bool) : State := { s with tick := { s.tickOf same with active := true } }

/-- The state after it, in which what the tick has done is kept for a command that follows in the same tick. -/
def State.closeTick (s : State) : State := { s with tick := { s.tick with active := false } }

theorem exec_put (e : Fin 12) (same : Bool) (s : State) :
    exec (.put (e, same)) s = .next (((s.openTick same).microRow e fun w => codeIn 0x8 0xB w.qop).closeTick) := rfl

theorem exec_take (e : Fin 12) (same : Bool) (s : State) :
    exec (.take (e, same)) s = .next (((s.openTick same).microRow e fun w => codeIn 0xC 0xF w.qop).closeTick) := rfl

theorem State.Quiet.openTick {s : State} {e : Nat} (h : s.Quiet e) (same : Bool) : (s.openTick same).Quiet e := by
  obtain ⟨hready, hbegins, hparity, hunlocked, hcaps, hstep, htag, hwatch⟩ := h
  exact ⟨hready, hbegins, hparity, hunlocked, hcaps, hstep, htag, hwatch⟩

theorem State.Unhindered.openTick {s : State} {e : Nat} (h : s.Unhindered e) (same : Bool) : (s.openTick same).Unhindered e :=
  ⟨h.toQuiet.openTick same, h.noCause, h.noStall⟩

/-! ## DST and the condition codes (05 R256, R258) -/

/-- An unhindered microword names a destination (05 R240). -/
theorem State.Unhindered.destCode_dst {s : State} {e : Nat} (h : s.Unhindered e) : destCode (s.micro e).dst = true := by
  have hlegal : s.microIllegal e (s.micro e) = false := by
    by_contra hillegal
    have hcause : s.firstCause (s.here e) = some .illegal := if_pos ((Bool.not_eq_false _).mp hillegal)
    cases hcause.symm.trans h.noCause
  simp only [State.microIllegal, Micro.illegal, Micro.reserved, Bool.or_eq_false_iff, Bool.not_eq_false'] at hlegal
  simp only [hlegal]

theorem State.bank_of_banks {s t : State} (h : t.banks = s.banks) (e l : Nat) : t.bank e l = s.bank e l := by
  rw [State.bank, h, ← State.bank]

theorem State.destination_congr {s t : State} (hgprs : t.gprs = s.gprs) (hbanks : t.banks = s.banks) (hlens : t.lens = s.lens)
    (e l code : Nat) : t.destination e l code = s.destination e l code := by
  simp only [State.destination, State.gpr, State.bank, State.lensHalfWord, State.lensReg, hgprs, hbanks, hlens]

/-- A half of a Lens register reads what was written to it. -/
theorem extractLsb'_putHalf (old : DWord) {half : Nat} (v : Word) (h : half < 2) :
    (putHalf old half v).extractLsb' (32 * half) 32 = v := by
  have hcases : half = 0 ∨ half = 1 := by omega
  rcases hcases with rfl | rfl
  · exact BitVec.extractLsb'_append_eq_right
  · exact BitVec.extractLsb'_append_eq_left

theorem State.lensHalfWord_setLensReg (s : State) (e code : Nat) (v : Word) :
    (s.setLensReg e (halfReg code) (putHalf (s.lensReg e (halfReg code)) (code % 2) v)).lensHalfWord e code = v := by
  rw [State.lensHalfWord, State.lensReg_setLensReg, if_pos ⟨rfl, rfl⟩]
  exact extractLsb'_putHalf _ v (Nat.mod_lt _ (by decide))

/-- The low bits of a word, as a register of that width keeps them. -/
theorem setWidth_extractLsb'_eq_and {n : Nat} (v : Word) (h : n ≤ 32) :
    (v.extractLsb' 0 n).setWidth 32 = v &&& BitVec.ofNat 32 (2 ^ n - 1) := by
  have hpow : 2 ^ n ≤ 2 ^ 32 := Nat.pow_le_pow_right (by decide) h
  have hpos : 0 < 2 ^ n := Nat.two_pow_pos n
  apply BitVec.eq_of_toNat_eq
  have hmod : v.toNat % 2 ^ n < 2 ^ n := Nat.mod_lt _ hpos
  simp only [BitVec.toNat_setWidth, BitVec.extractLsb'_toNat, Nat.shiftRight_zero, BitVec.toNat_and, BitVec.toNat_ofNat]
  rw [Nat.mod_eq_of_lt (by omega : v.toNat % 2 ^ n < 2 ^ 32), Nat.mod_eq_of_lt (by omega : 2 ^ n - 1 < 2 ^ 32),
    Nat.and_two_pow_sub_one_eq_mod]

/-- A general register and a Lens half keep the whole word. -/
theorem kept_of_register {code : Nat} (v : Word) (h : code < 0x10 ∨ lensHalf code = true) : kept code v = v := by
  unfold kept lensHalf at *
  split
  · simp at h
  · simp at h
  · simp at h
  · simp at h
  · rfl

/-- A destination reads what was written to it, in its width. -/
theorem State.destination_putDst (s : State) (e l : Nat) {code : Nat} (v : Word) (h : destCode code = true) :
    (s.putDst e l code v).destination e l code = kept code v := by
  unfold State.putDst State.destination
  by_cases hgpr : code < 0x10
  · simp only [if_pos hgpr, State.gpr_setGpr_same]
    exact (kept_of_register v (Or.inl hgpr)).symm
  · by_cases hlens : lensHalf code = true
    · simp only [if_neg hgpr, if_pos hlens, State.lensHalfWord_setLensReg]
      exact (kept_of_register v (Or.inr hlens)).symm
    · simp only [if_neg hgpr, if_neg hlens]
      have hcode : code = 0x10 ∨ code = 0x11 ∨ code = 0x12 ∨ code = 0x13 := by
        simp only [destCode, hlens, Bool.or_false, decide_eq_true_eq] at h
        omega
      rcases hcode with rfl | rfl | rfl | rfl
      · rfl
      · change (State.bank (State.setBank s e l _) e l).lcnt.setWidth 32 = v &&& 0xFFFF
        rw [State.bank_setBank_same]
        exact setWidth_extractLsb'_eq_and v (by decide : 16 ≤ 32)
      · change (State.bank (State.setBank s e l _) e l).link.setWidth 32 = v &&& 0x1FFF
        rw [State.bank_setBank_same]
        exact setWidth_extractLsb'_eq_and v (by decide : 13 ≤ 32)
      · change (State.bank (State.setBank s e l _) e l).cc.setWidth 32 = v &&& 0x3FF
        rw [State.bank_setBank_same]
        exact setWidth_extractLsb'_eq_and v (by decide : 10 ≤ 32)

/-- A destination other than CC leaves the condition codes (05 R256). -/
theorem State.cc_putDst (s : State) (e l : Nat) {code : Nat} (v : Word) (h : code ≠ 0x13) :
    ((s.putDst e l code v).bank e l).cc = (s.bank e l).cc := by
  unfold State.putDst
  split
  · rfl
  · split
    · rfl
    · split
      · simp
      · simp
      · contradiction
      · rfl

/-- The same of the words of a microword that delivers at most one. -/
theorem State.cc_putDsts (s : State) (e l : Nat) {code : Nat} {vs : List Word} (h : code ≠ 0x13) (hvs : vs.length ≤ 1) :
    ((s.putDsts e l code vs).bank e l).cc = (s.bank e l).cc := by
  match vs, hvs with
  | [], _ => rfl
  | [v], _ => exact s.cc_putDst e l v h

/-- The ALU defines no other condition codes than Z, N, C and V (05 R254). -/
theorem aluOut_mask_lt (op : Nat) (a b : Word) (c : Bool) : (aluOut op a b c).mask < 16 := by
  unfold aluOut
  dsimp only
  repeat' split
  all_goals simp [aluZN, aluZNC, aluZNCV, addOut, subOut, AluOut.flagsOnly]

theorem ccMerge_getLsbD (cc : BitVec 10) (mask flags k : Nat) (hk : k < 10) :
    (ccMerge cc mask flags).getLsbD k = if mask.testBit k then flags.testBit k else cc.getLsbD k := by
  simp only [ccMerge, BitVec.getLsbD_or, BitVec.getLsbD_and, BitVec.getLsbD_not, BitVec.getLsbD_ofNat, hk, decide_true, Bool.true_and]
  cases mask.testBit k <;> simp

/-- CCU writes Z, N, C and V only, so a status flag is what the operations left (05 R249, R255). -/
theorem Micro.ccUpdate_status (w : Micro) {alu : AluOut} (halu : alu.mask < 16) (compare mask flags : Nat) (cc : BitVec 10) {k : Nat}
    (hlo : 4 ≤ k) (hhi : k < 10) : (w.ccUpdate alu compare mask flags cc).getLsbD k = (ccMerge cc mask flags).getLsbD k := by
  have hbit : alu.mask.testBit k = false := Nat.testBit_lt_two_pow (halu.trans_le (Nat.pow_le_pow_right (by decide) hlo : 2 ^ 4 ≤ 2 ^ k))
  have hF : Nat.testBit 0xF k = false := Nat.testBit_lt_two_pow (Nat.pow_le_pow_right (by decide) hlo : 2 ^ 4 ≤ 2 ^ k)
  unfold Micro.ccUpdate
  dsimp only
  split
  · rw [ccMerge_getLsbD _ _ _ _ hhi]
    simp [hbit]
  · rw [ccMerge_getLsbD _ _ _ _ hhi]
    simp [hbit]
  · rw [ccMerge_getLsbD _ _ _ _ hhi]
    simp [hF]
  · rfl

/-- What the sequencer leaves of the bank: all but LINK and LCNT, and these too but for CALL, CALL.BR and LOOP (05 R242, R245). -/
theorem State.bank_seqRegs (s pre : State) (x : Args) :
    ∃ link lcnt, (s.seqRegs pre x).bank x.e x.l = { s.bank x.e x.l with link, lcnt } ∧
      (x.w.seq ≠ 2 → x.w.seq ≠ 3 → link = (s.bank x.e x.l).link) ∧ (x.w.seq ≠ 7 → lcnt = (s.bank x.e x.l).lcnt) := by
  have hpick (t : State) (meet : Bool) (a b : Nat) : (t.pick meet a b).2.bank x.e x.l = t.bank x.e x.l := by
    unfold State.pick
    split <;> rfl
  by_cases hcall : x.w.seq = 2 ∨ x.w.seq = 3
  · have hloop : x.w.seq ≠ 7 := by omega
    simp only [State.seqRegs, if_pos hcall, if_neg hloop, State.bank_setBank_same, hpick]
    exact ⟨_, _, rfl, fun h2 h3 => absurd hcall (by omega), fun _ => rfl⟩
  · by_cases hloop : x.w.seq = 7
    · simp only [State.seqRegs, if_neg hcall, if_pos hloop, State.bank_setBank_same, hpick]
      exact ⟨_, _, rfl, fun _ _ => rfl, fun h => absurd hloop h⟩
    · simp only [State.seqRegs, if_neg hcall, if_neg hloop]
      exact ⟨_, _, rfl, fun _ _ => rfl, fun _ => rfl⟩

theorem State.cc_seqRegs (s pre : State) (x : Args) : ((s.seqRegs pre x).bank x.e x.l).cc = (s.bank x.e x.l).cc := by
  obtain ⟨link, lcnt, hbank, -, -⟩ := s.bank_seqRegs pre x
  rw [hbank]

theorem State.seqRegs_gprs (s pre : State) (x : Args) : (s.seqRegs pre x).gprs = s.gprs := by
  obtain ⟨_, _, hseq⟩ := s.seqRegs_only pre x
  rw [hseq]

theorem State.seqRegs_lens (s pre : State) (x : Args) : (s.seqRegs pre x).lens = s.lens := by
  obtain ⟨_, _, hseq⟩ := s.seqRegs_only pre x
  rw [hseq]

/-- The sequencer leaves a destination that is not its own (05 R242, R245). -/
theorem State.destination_seqRegs (s pre : State) (x : Args) (h : x.w.ownDst = true) :
    (s.seqRegs pre x).destination x.e x.l x.w.dst = s.destination x.e x.l x.w.dst := by
  obtain ⟨link, lcnt, hbank, hlink, hlcnt⟩ := s.bank_seqRegs pre x
  have hgpr (i : Nat) : (s.seqRegs pre x).gpr x.e x.l i = s.gpr x.e x.l i := by rw [State.gpr, State.seqRegs_gprs, ← State.gpr]
  have hhalf (c : Nat) : (s.seqRegs pre x).lensHalfWord x.e c = s.lensHalfWord x.e c := by
    simp only [State.lensHalfWord, State.lensReg, State.seqRegs_lens]
  simp only [Micro.ownDst, Bool.and_eq_true, Bool.not_eq_true', Bool.and_eq_false_iff, Bool.or_eq_false_iff, beq_eq_false_iff_ne] at h
  obtain ⟨hcall, hloop⟩ := h
  unfold State.destination
  rw [hgpr, hhalf, hbank]
  split
  · rfl
  · split
    · rfl
    · split
      next hdst => rw [hlcnt (hloop.resolve_left (fun hne => hne hdst))]
      next hdst =>
        obtain ⟨h2, h3⟩ := hcall.resolve_left (fun hne => hne hdst)
        rw [hlink h2 h3]
      next => rfl
      next => rfl

/-! ## Microwords with no other operation than those of the QOP, ALU and SEQ fields (05 R269) -/

/-- What a microword of engine e that begins in s leaves in t, where `o` is what its queue operation delivered: beside the operation's own
effects the engine's registers and record, ENG_UPC and ENG_LENS; the status flag the operation wrote; and DST, the word it delivered. -/
structure QueueLeft (e : Nat) (s : State) (o : OpOut) (t : State) : Prop where
  state : ∃ g b n r en f, t = { o.state with gprs := g, banks := b, lens := n, regs := r, engines := en, freeUsed := f }
  regs : ∀ k, k ≠ ENG_UPC e → k ≠ ENG_LENS e → t.reg k = o.state.reg k
  flag : ∀ k fails, 4 ≤ k → k < 10 → o.mask = 2 ^ k → o.flags = 2 ^ k * bit fails → o.dst.length ≤ 1 → Flagged e s t k fails
  word : ∀ v, o.dst = [v] → qopDst (s.micro e).qop ≠ 0 → Delivers e s t v

/-- The fields that a queue-only microword leaves empty, and that it does not return. -/
theorem Micro.queueOnly_iff (w : Micro) : w.queueOnly = true ↔
    w.mem = 0 ∧ w.top = 0 ∧ w.evt = 0 ∧ w.pin = 0 ∧ w.lens = 0 ∧ w.lock = 0 ∧ w.seq ≠ 9 ∧ w.seq ≠ 0xA := by
  simp [Micro.queueOnly, Micro.returns, and_assoc]

theorem Micro.not_resumable_of_queueOnly {w : Micro} (h : w.queueOnly = true) : w.resumable = false := by
  obtain ⟨hmem, -, -, -, hlens, -⟩ := w.queueOnly_iff.mp h
  simp [Micro.resumable, blockOp, cordicOp, vectorOp, codeIn, hmem, hlens]

/-- No queue operation delivers a Lens register, and none meets an error of the plates that faults its microword (10 R518). -/
theorem State.qopOut_lens_ecc (s pre : State) (x : Args) : (s.qopOut pre x).lens = none ∧ (s.qopOut pre x).ecc = false := by
  unfold State.qopOut
  dsimp only
  repeat' split
  all_goals exact ⟨rfl, rfl⟩

/-- The queue operation is the only field operation of a queue-only microword. -/
theorem State.fieldOps_queueOnly (s : State) (x : Args) (h : x.w.queueOnly = true) : s.fieldOps x = s.qopOut s x := by
  obtain ⟨hmem, htop, hevt, hpin, -⟩ := x.w.queueOnly_iff.mp h
  obtain ⟨hlens, hecc⟩ := s.qopOut_lens_ecc s x
  have halone : s.fieldOps x = { s.qopOut s x with lens := none, ecc := false } := by
    simp [State.fieldOps, State.memOut, State.timeOut, State.evtOut, State.pinOut5, hmem, htop, hevt, hpin, codeIn]
  rw [halone, ← hlens, ← hecc]

theorem State.withResults_of_noMem (s pre : State) (x : Args) (o : OpOut) (hmem : x.w.mem = 0) (hlens : o.lens = none) :
    s.withResults pre x o =
      (s.setBank x.e x.l { s.bank x.e x.l with cc := pre.newCc x o }).putDsts x.e x.l x.w.dst (pre.newWords x o) := by
  have hplate : plateOp x.w.mem = false := by rw [hmem]; rfl
  simp only [State.withResults, State.withLens, State.withAddress, hlens, hplate, Bool.false_eq_true, if_false]
  split <;> rfl

/-- A status flag that an operation wrote, in the condition codes after the microword (05 R249). -/
theorem State.newCc_flag (pre : State) (x : Args) {o : OpOut} {k : Nat} {fails : Bool} (hlo : 4 ≤ k) (hhi : k < 10)
    (hmask : o.mask = 2 ^ k) (hflags : o.flags = 2 ^ k * bit fails) : (pre.newCc x o).getLsbD k = fails := by
  rw [State.newCc, Micro.ccUpdate_status _ (aluOut_mask_lt _ _ _ _) _ _ _ _ hlo hhi, ccMerge_getLsbD _ _ _ _ hhi, hmask, hflags,
    if_pos Nat.testBit_two_pow_self]
  cases fails
  · simp [bit]
  · simp [bit]

/-- A microword writes one word at most to DST where its operations deliver at most one (05 R258). -/
theorem State.newWords_length_le (pre : State) (x : Args) {o : OpOut} (h : o.dst.length ≤ 1) : (pre.newWords x o).length ≤ 1 := by
  unfold State.newWords Micro.dstWords
  split
  · exact h
  · cases (aluOut _ _ _ _).result <;> simp

theorem State.newWords_of_qopDst (pre : State) (x : Args) (o : OpOut) (h : qopDst x.w.qop ≠ 0) : pre.newWords x o = o.dst :=
  if_pos (by simp [Micro.dstWrites, h])

/-- The condition codes that a microword without a plate access writes, where DST is not CC (05 R249). -/
theorem State.cc_withResults (s pre : State) {x : Args} {o : OpOut} (hmem : x.w.mem = 0) (hlens : o.lens = none)
    (hone : o.dst.length ≤ 1) (hdst : x.w.dst ≠ 0x13) : ((s.withResults pre x o).bank x.e x.l).cc = pre.newCc x o := by
  rw [State.withResults_of_noMem _ _ _ _ hmem hlens, State.cc_putDsts _ _ _ hdst (pre.newWords_length_le x hone), State.bank_setBank_same]

/-- DST after a microword without a plate access whose queue operation delivers one word (05 R258). -/
theorem State.destination_withResults (s pre : State) {x : Args} {o : OpOut} {v : Word} (hmem : x.w.mem = 0) (hlens : o.lens = none)
    (hqop : qopDst x.w.qop ≠ 0) (hv : o.dst = [v]) (hcode : destCode x.w.dst = true) :
    (s.withResults pre x o).destination x.e x.l x.w.dst = kept x.w.dst v := by
  rw [State.withResults_of_noMem _ _ _ _ hmem hlens, State.newWords_of_qopDst _ _ _ hqop, hv]
  exact State.destination_putDst _ _ _ v hcode

/-- What an unhindered queue-only microword does, when its queue operation keeps the registers and the engines. -/
theorem State.Unhindered.runWord_queueOnly {s : State} {e : Nat} (h : s.Unhindered e) (hq : (s.micro e).queueOnly = true)
    (hregs : (s.qopOut s (s.here e)).state.regs = s.regs) (hengines : (s.qopOut s (s.here e)).state.engines = s.engines) :
    QueueLeft e s (s.qopOut s (s.here e)) (s.runWord e) := by
  obtain ⟨hmem, -, -, -, hlens, hlock, hret⟩ := (s.micro e).queueOnly_iff.mp hq
  have hfield := s.fieldOps_queueOnly (s.here e) hq
  have hrun : s.runWord e = s.complete s (s.here e) := by
    rw [h.runWord, Micro.not_resumable_of_queueOnly hq]
    rfl
  have hcalm := s.complete_calm e h.toQuiet hlens hlock (by simp [Micro.saves, codeIn, hmem]) hret
    (by rw [hfield]; exact (s.qopOut_lens_ecc s _).2) (by rw [hfield]; exact State.Calm.of h.noWatch hregs hengines)
  dsimp only at hcalm
  rw [← hrun, hfield] at hcalm
  have hnoLens := (s.qopOut_lens_ecc s (s.here e)).1
  generalize s.qopOut s (s.here e) = o at hcalm hnoLens ⊢
  obtain ⟨-, hgprs, hbanks, hlensRegs, hreg, hstate⟩ := hcalm
  refine ⟨hstate, hreg, fun k fails hlo hhi hmask hflags hone hdst => ?_, fun v hv hqop hown => ?_⟩
  · have hcc : ((s.runWord e).bank e (s.level e)).cc = s.newCc (s.here e) o := by
      rw [State.bank_of_banks hbanks]
      exact (State.cc_seqRegs _ s (s.here e)).trans (State.cc_withResults _ s hmem hnoLens hone hdst)
    rw [hcc]
    exact s.newCc_flag (s.here e) hlo hhi hmask hflags
  · calc (s.runWord e).destination e (s.level e) (s.micro e).dst
      _ = ((o.state.withResults s (s.here e) o).seqRegs s (s.here e)).destination e (s.level e) (s.micro e).dst :=
        State.destination_congr (hgprs.trans (State.seqRegs_gprs _ _ _).symm) hbanks
          (hlensRegs.trans (State.seqRegs_lens _ _ _).symm) _ _ _
      _ = (o.state.withResults s (s.here e) o).destination e (s.level e) (s.micro e).dst :=
        State.destination_seqRegs _ s (s.here e) hown
      _ = kept (s.micro e).dst v := State.destination_withResults _ s hmem hnoLens hqop hv h.destCode_dst

/-! ## Handoff slots (01 R20 to R23) -/

/-- Only the handoff slots and what the tick has done differ. -/
def State.handoffOnly (s t : State) : Prop := ∃ slots tick, t = { s with handoff := slots, tick := tick }

@[simp] theorem State.slot_setSlot_same (s : State) (q a b : Nat) (l : List Word) : (s.setSlot q a b l).slot q a b = l := by
  unfold State.slot State.setSlot
  rw [tget_tset, if_pos rfl]

/-- A put by the engine of stage g: it fails, and changes nothing, where the slot was full at the start of the tick (01 R20, R23). -/
theorem State.put8_of_stage {s : State} {e g : Nat} (hg : s.stageOf e = some g) (d : Nat) (v : Word) :
    let full := 8 ≤ (s.slot (e / 4) g d).length + inSlot s.ticked.takes (e / 4) g d
    (s.put8 e d v).1 = !decide full ∧ s.handoffOnly (s.put8 e d v).2 ∧
      (s.put8 e d v).2.slot (e / 4) g d = if full then s.slot (e / 4) g d else s.slot (e / 4) g d ++ [v] := by
  intro full
  unfold State.put8
  simp only [hg]
  by_cases hfull : full
  · rw [if_neg (Nat.not_lt.mpr hfull), if_pos hfull]
    exact ⟨by simp [hfull], ⟨_, _, rfl⟩, rfl⟩
  · rw [if_pos (Nat.lt_of_not_le hfull), if_neg hfull]
    exact ⟨by simp [hfull], ⟨_, _, rfl⟩, State.slot_setSlot_same _ _ _ _ _⟩

/-- A take by the engine of stage g: it fails, and changes nothing, where the slot was empty at the start of the tick (01 R21, R23). -/
theorem State.take8_of_stage {s : State} {e g : Nat} (hg : s.stageOf e = some g) (a : Nat) :
    let inn := s.slot (e / 4) a g
    let empty := inn.length ≤ inSlot s.ticked.puts (e / 4) a g
    (s.take8 e a).1.isNone = decide empty ∧ (s.take8 e a).1.getD 0 = (if empty then 0 else inn.headD 0) ∧
      s.handoffOnly (s.take8 e a).2 ∧ (s.take8 e a).2.slot (e / 4) a g = if empty then inn else inn.tail := by
  intro inn empty
  unfold State.take8
  simp only [hg]
  cases hinn : s.slot (e / 4) a g with
  | nil =>
    have hempty : empty := by simp [empty, inn, hinn]
    simp only [if_pos hempty]
    exact ⟨by simp [hempty], rfl, ⟨_, _, rfl⟩, rfl⟩
  | cons v l =>
    have hlength : inn.length = l.length + 1 := by simp [inn, hinn]
    by_cases hempty : empty
    · have hnone : ¬ inSlot s.ticked.puts (e / 4) a g ≤ l.length := by omega
      simp only [if_neg hnone, if_pos hempty]
      exact ⟨by simp [hempty], rfl, ⟨_, _, rfl⟩, rfl⟩
    · have hsome : inSlot s.ticked.puts (e / 4) a g ≤ l.length := by omega
      simp only [if_pos hsome, if_neg hempty]
      exact ⟨by simp [hempty], by simp [inn, hinn], ⟨_, _, rfl⟩, (s.slot_setSlot_same _ _ _ l).trans (by simp [inn, hinn])⟩

theorem codeIn_of_le {lo hi c : Nat} (h : lo ≤ c ∧ c ≤ hi) : codeIn lo hi c = true := by
  simp [codeIn, h]

theorem State.qopOut_put (s pre : State) {x : Args} (h : 8 ≤ x.w.qop ∧ x.w.qop ≤ 0xB) :
    s.qopOut pre x = ({ state := (s.put8 x.e (x.w.qop % 4) x.b).2 } : OpOut).flag ccHfail (!(s.put8 x.e (x.w.qop % 4) x.b).1) := by
  unfold State.qopOut
  split
  case h_6 => exact if_pos (codeIn_of_le h)
  all_goals omega

theorem State.qopOut_take (s pre : State) {x : Args} (h : 0xC ≤ x.w.qop ∧ x.w.qop ≤ 0xF) :
    s.qopOut pre x = { ({ state := (s.take8 x.e (x.w.qop % 4)).2 } : OpOut).flag ccHfail (s.take8 x.e (x.w.qop % 4)).1.isNone with
      dst := [(s.take8 x.e (x.w.qop % 4)).1.getD 0] } := by
  have hput : ¬ codeIn 8 0xB x.w.qop = true := by
    simp only [codeIn, Bool.and_eq_true, decide_eq_true_eq]
    omega
  unfold State.qopOut
  split
  case h_6 => exact (if_neg hput).trans (if_pos (codeIn_of_le h))
  all_goals omega

/-- A microword whose queue operation touches the handoff slots only. -/
theorem State.Unhindered.runWord_handoff {s : State} {e : Nat} {o : OpOut} (h : s.Unhindered e) (hq : (s.micro e).queueOnly = true)
    (ho : s.qopOut s (s.here e) = o) (hslots : s.handoffOnly o.state) : QueueLeft e s o (s.runWord e) := by
  subst ho
  obtain ⟨slots, tick, hstate⟩ := hslots
  exact h.runWord_queueOnly hq (by rw [hstate]) (by rw [hstate])

theorem QueueLeft.slot_eq {e : Nat} {s t : State} {o : OpOut} (h : QueueLeft e s o t) (q a b : Nat) :
    t.slot q a b = o.state.slot q a b := by
  obtain ⟨_, _, _, _, _, _, rfl⟩ := h.state
  rfl

/-- Beside the engine's own parts, a handoff in its tick changes the slots and the tick (01 R20, R21). -/
theorem QueueLeft.leaves {e : Nat} {s t : State} {same : Bool} {o : OpOut} (h : QueueLeft e (s.openTick same) o t)
    (hslots : (s.openTick same).handoffOnly o.state) : Leaves e [.queues, .tick] [] s t.closeTick := by
  obtain ⟨slots, tick, hstate⟩ := hslots
  refine ⟨fun p hbanks hlens hengines hlisted => ?_, fun k hupc hlens _ => ?_⟩
  · obtain ⟨_, _, _, _, _, _, rfl⟩ := h.state
    rw [hstate]
    cases p with
    | banks | lens | engines => contradiction
    | queues | tick => simp at hlisted
    | _ => simp only [Part.same, State.closeTick, State.openTick, and_self]
  · exact (h.regs k hupc hlens).trans (by rw [hstate]; rfl)

/-- Settles O14: PUT and TAKE run their microword in their tick, in a state that differs from s only in what the tick has done; there
`put8` and `take8` say which slot changes, and the microword carries HFAIL and the entry taken to the condition codes and to DST. -/
theorem handoffRows : Obligations.HandoffRows := by
  unfold Obligations.HandoffRows
  intro e same s g h hq hg x q d out inn full empty
  have hopen := h.openTick same
  refine ⟨fun hcode => ?_, fun hcode => ?_⟩
  · obtain ⟨hdone, hslots, hslot⟩ := (s.openTick same).put8_of_stage hg d x.b
    have hrun := hopen.runWord_handoff hq ((s.openTick same).qopOut_put _ hcode) hslots
    refine ⟨_, ?_, hrun.leaves hslots, ?_, (hrun.slot_eq _ _ _).trans hslot⟩
    · rw [exec_put, State.microRow_run hopen.toQuiet _ (codeIn_of_le hcode)]
    · exact hrun.flag 5 (decide full) (by decide) (by decide) rfl
        (congrArg (2 ^ 5 * bit ·) ((congrArg (!·) hdone).trans (Bool.not_not _))) (Nat.zero_le 1)
  · obtain ⟨hnone, hword, hslots, hslot⟩ := (s.openTick same).take8_of_stage hg d
    have hdelivers : qopDst x.w.qop ≠ 0 := by simp [qopDst, bit, codeIn_of_le hcode]
    have hrun := hopen.runWord_handoff hq ((s.openTick same).qopOut_take _ hcode) hslots
    refine ⟨_, ?_, hrun.leaves hslots, ?_, ?_, (hrun.slot_eq _ _ _).trans hslot⟩
    · rw [exec_take, State.microRow_run hopen.toQuiet _ (codeIn_of_le hcode)]
    · exact hrun.flag 5 (decide empty) (by decide) (by decide) rfl (congrArg (2 ^ 5 * bit ·) hnone) (Nat.le_refl 1)
    · exact hrun.word _ (congrArg ([·]) hword) hdelivers

end Sys2Proof.Machine
end
